-- ==== Sys2Proof/Word.lean ====
section
/-! DEFINITION. The words of the BY-7420 and the plain data shapes its state is made of: bytes, the 32-bit
words of BAR0 (R7), the 64-bit words of the Ausum registers (R141), and a table keyed by a number. -/

namespace Sys2Proof

/-- One byte. -/
abbrev Byte := BitVec 8

/-- A BAR0 register is 32 bits (R7). -/
abbrev Word := BitVec 32

/-- An Ausum register, or a context register, is 64 bits (R141). -/
abbrev DWord := BitVec 64

/-- A sparse table: entries in rising order of their keys, each key at most once. -/
abbrev Table (α : Type) := List (Nat × α)

end Sys2Proof
end

