-- ==== Sys2Proof/Syntax.lean ====
section
/-! DEFINITION. The commands the BY-7420 takes: one constructor per row of the opcode table. A command is an
operation or an event, whole and indivisible; its operands are what the outside supplies (a packet's fields, a
register value, a fetched instruction word, what a detector or a decoder found). -/

namespace Sys2Proof

/-- Who makes a BAR0 access (R15): the control port, the MCP, or JTAG under the REGS permission of a debug token. -/
inductive Requester
  | control | mcp | jtag
  deriving DecidableEq, Repr

/-- Who executes an Ausum instruction: a strand of a clause engine, by global index (R139), or the MCP (R207). -/
inductive Agent
  | strand (i : Fin 512)
  | mcp
  deriving DecidableEq, Repr

/-- Bytes of a register read: 1, 2, 4, or 8, which is split into two of 4 (R9). -/
inductive AccessSize
  | one | two | four | eight
  deriving DecidableEq, Repr

/-- A received packet's envelope: where and when it arrived, and the fields every packet carries. -/
structure Pkt where
  /-- Logical port it arrived on, 0–31 (R59). -/
  lp : Fin 32
  /-- Destination QPN. -/
  qpn : BitVec 24
  psn : BitVec 24
  ackReq : Bool
  /-- Marked ECN CE (R91). -/
  ce : Bool
  /-- CCLK cycle of the tick at which its last bit came in (R68); 1,024 only in a long slew tick (R36). -/
  cycle : Fin 1025
  /-- Destination MAC, IP (IPv4 in the low 32 bits) and UDP port (R61). -/
  dmac : BitVec 48
  ipv6 : Bool
  dip : BitVec 128
  udp : BitVec 16
  /-- PCP and VLAN ID of its 802.1Q tag, if it has one, and its DSCP (R61, R63). -/
  tag : Option (BitVec 3 × BitVec 12)
  dscp : BitVec 6
  /-- What the ingress buffer still holds of its priority on that port as it arrives, in 256 B units (R65). -/
  occ : Nat
  deriving DecidableEq, Repr

/-- An IEEE 1588 event message among the frames a port drops (R68): messageType, sequenceId, cycle of its last bit in. -/
structure PtpEvent where
  type : BitVec 4
  seq : BitVec 16
  cycle : Fin 1025
  deriving DecidableEq, Repr

/-- The RETH of a request: window key, virtual address and DMA length. -/
structure Reth where
  rkey : Word
  va : DWord
  len : Word
  deriving DecidableEq, Repr

/-- Which packet of a message this is (R69). -/
inductive Part
  | first | middle | last | only
  deriving DecidableEq, Repr

/-- What an Acknowledge carries (R90): an ACK, an RNR NAK with its timer in ticks, a PSN sequence error, or a fatal
NAK. -/
inductive AckKind
  | ack
  | rnr (ticks : Nat)
  | seqErr
  | fatal
  deriving DecidableEq, Repr

/-- The head of a control-ring command (R580): the ring it was placed on and its TAG. -/
structure CmdHead where
  ring : Fin 16
  tag : Word
  /-- A reserved byte is not 0 (R582). -/
  reservedSet : Bool
  deriving DecidableEq, Repr

/-- The QP block of QP_CREATE and QP_MODIFY (R581). -/
structure QpBlock where
  qpn : Word
  mask : Byte
  tenant : BitVec 16
  cls : Byte
  state : Byte
  pmtu : Byte
  egressLp : Byte
  altLp : Byte
  notice : Bool
  ipv6 : Bool
  remoteQpn : Word
  bond : Word
  mac : BitVec 48
  vlan : BitVec 16
  ip : BitVec 128
  udpPort : BitVec 16
  ackCode : Byte
  retry : Byte
  rnrRetry : Byte
  minRnr : Byte
  maxRd : Byte
  ePsn : Word
  reqPsn : Word
  deriving DecidableEq, Repr

/-- The 32 B window descriptor of WINDOW_OPEN (R110); STATE and GEN of it are ignored. -/
structure WinDesc where
  vaBase : DWord
  progId : BitVec 10
  pnaBase : BitVec 48
  tenant : BitVec 12
  length : BitVec 48
  rights : BitVec 5
  pinned : Bool
  deriving DecidableEq, Repr


/-- The contents of a HEARTBEAT (R393, R101): side, state and SOLO, write epoch, tick counter, PAIR_ID, free mirror
entries, and the four numbers of the window-table summary. -/
structure TwinHb where
  sideB : Bool
  state : Fin 8
  solo : Bool
  epoch : Nat
  tick : DWord
  pairId : DWord
  free : Nat
  tenants : Nat
  extents : Nat
  windows : Nat
  pinned : Nat
  deriving DecidableEq, Repr

/-- The head of a received twin-link frame (R393): its bundle, TWL0 or TWL1, its SEQ, and whether its CRC passes. -/
structure TwinHead where
  one : Bool
  seq : Nat
  crcOk : Bool
  deriving DecidableEq, Repr

/-- An outcome entry as a twin-link frame carries it (R367). -/
structure OutcomeBody where
  bond : BitVec 20
  sideB : Bool
  kind : Fin 4
  seq : Word
  rkey : Word
  pos : Byte
  va : DWord
  op0 : DWord
  op1 : DWord
  orig : List DWord
  epoch : Word
  /-- Class of the request whose MATOM it is (R41). -/
  cls : Fin 4 := 3
  deriving DecidableEq, Repr

/-- What names an outcome entry in a CONFIRM: bond, whether of an Invoke, ASEQ or TAG, MATOM position. -/
structure OutcomeName where
  bond : BitVec 20
  invoke : Bool
  seq : Word
  pos : Byte
  deriving DecidableEq, Repr

/-- A line carried over the twin link: its line number PNA[47:6], tenant, and bytes as they are stored (R129, R398). -/
structure TwinLine where
  line : BitVec 42
  tenant : BitVec 12
  data : List Byte
  /-- Class of the work that ships it (R41). -/
  cls : Fin 4 := 3
  deriving DecidableEq, Repr

/-- A run of lines of a MIRROR frame (R398): its descriptor, [63:22] PNA[47:6] of the first line, [21:10] the tenant, [9:4] the number of
lines less one, and the bytes of each line as they are stored (R129). -/
structure MirrorRun where
  desc : DWord
  lines : List (List Byte)
  deriving DecidableEq, Repr

/-- What a RESYNC frame carries (R393, R415, R416, R268). -/
inductive ResyncBody
  | tenant (id : BitVec 12) (encrypt risAllowed : Bool) (scmQuota pinQuota : Word) (tileQuota : BitVec 13) (key : List Byte)
  | extent (e : BitVec 27) (tenant : BitVec 12) (sideB : Bool) (pinCount : Nat)
  | window (i : BitVec 24) (state : Fin 4) (gen : Byte) (d : WinDesc)
  | metaEnd
  | line (l : TwinLine) (epoch : Word)
  | copyEnd
  | copyDone
  | ask (full : Bool) (marked : List (BitVec 27))
  | repairAsk (line : BitVec 42)
  | repairReply (line : BitVec 42) (good : Bool) (data : List Byte) (epoch : Word)
  deriving DecidableEq, Repr

/-- What detectors report to the integrity manager in one cycle (R429, R430): a fault of R445 with its SOURCE; or a word of an on-chip
SRAM read with some of its 80 bits wrong (R433, R444), with what it belongs to (a strand, tile, request, channel, QPN, window
index or ring, by the SRAM) and, for the QP context cache, whether the way is dirty. -/
inductive Finding
  | fault (code : Byte) (source : BitVec 12)
  | sram (id : BitVec 12) (wrong : BitVec 80) (item : Nat) (dirty : Bool)
  /-- The first read of the word that the armed injection was written into (R590). -/
  | injected (item : Nat) (dirty : Bool)
  deriving DecidableEq, Repr

/-- A request presented at a DRAM requester port (R291, R294): port, class, tenant, a write or a read, DRAM address, the mask
of the words written and their values; the QP whose context it writes back, if it does (R83). -/
structure DramReq where
  port : Fin 12
  cls : Fin 4
  tenant : BitVec 12
  write : Bool
  addr : BitVec 40
  mask : BitVec 16
  words : List (BitVec 64)
  qpn : Option (BitVec 24)
  deriving DecidableEq, Repr

/-- How the read of a NAND record ends (R329, R330): every codeword decoded, with the 19 payloads of 1,024 B (R315); a codeword that
steps 1 to 3 of R329 leave undecoded; a status failure of the device. -/
inductive NandOutcome
  | read (record : List Byte)
  | lost
  | status
  deriving DecidableEq, Repr

/-- What decoding a NAND record took (R329, R343): soft decodes, read retries, page rebuilds, decode iterations, and for each
codeword the histogram bin of its first decode. -/
structure NandSteps where
  soft : Nat
  retry : Nat
  rebuild : Nat
  iterations : Nat
  cws : List (Option Nat)
  deriving DecidableEq, Repr

/-- How a controller transaction ends on the bus (R518, R521, R525, R526): every byte acknowledged, with the bytes read and
whether their PEC matches; a NACK; arbitration lost at a bit, or on a condition. -/
inductive TwbEnd
  | reply (data : List Byte) (pec : Byte)
  | nackAddr
  | nackData
  | lost (byte : Byte) (bit : Fin 8)
  | lostCond
  deriving DecidableEq, Repr

/-- How a bus clear ends (R524). -/
inductive ClearEnd
  | clear
  | sclStuck
  | busStuck
  deriving DecidableEq, Repr

/-- An entry of a calibration capture (R532): its kind, item and parameters, the QUALITY it stores, and the figures measured
(CAL_QUAL). -/
structure CalEntry where
  kind : Byte
  index : BitVec 16
  quality : BitVec 16
  figA : BitVec 16
  figB : BitVec 16
  params : List (BitVec 16)
  deriving DecidableEq, Repr

/-- A failed 80/64 self-test (R436): instances that failed, the kind and the instance of the first failure. -/
structure BistFail where
  fails : BitVec 12
  kind : BitVec 4
  first : BitVec 12
  deriving DecidableEq, Repr

/-- What the NAND parameter pages say (R311, R312): geometry, and whether every die is alike and meets the requirements. -/
structure NandGeom where
  luns : BitVec 4
  targets : BitVec 4
  pages : BitVec 12
  blocksK : BitVec 12
  good : Bool
  deriving DecidableEq, Repr

/-- What the outside answers in a part of start-up after step 1 (R29). -/
inductive StartStep
  /-- Step 2: what the self-test finds. -/
  | boot (bist : Option BistFail)
  /-- Step 3: links with a stack and those that trained; the DIMMs are what DRC_DIMM_CFG says; channels that trained. -/
  | memories (present trained : BitVec 16) (dimms : Bool) (channels : BitVec 6)
  /-- Step 3, recovery: dies found; the unit's metadata, and the tier's, could be read; for each region, by 512 × ML + REGION, the slots
  read to recover its moves, in order (R273). -/
  | recovery (dies : Option NandGeom) (metaOk nandOk : Bool) (probes : List (Nat × List (List Byte)))
  /-- Step 4: the PCI Express link comes up at a speed and width. -/
  | control (speed width : BitVec 4)
  /-- Step 5. -/
  | service
  deriving DecidableEq, Repr
/-- The commands of the BY-7420: every row of the opcode table, in the table's order. -/
inductive Instr
  /-- REGISTER_WRITE (R10): a 32-bit write; with `hi`, the upper half of a 64-bit one (R9). -/
  | registerWrite (rq : Requester) (off : BitVec 26) (v : Word) (hi : Option Word)
  /-- REGISTER_PAIR_LOWER_READ (R15). -/
  | registerPairLowerRead (rq : Requester) (off : BitVec 26) (size : AccessSize)
  /-- SUBWORD_WRITE (R573). -/
  | subwordWrite (off : BitVec 26)
  /-- POISONED_WRITE (R573). -/
  | poisonedWrite (off : BitVec 26)
  /-- TICK_BOUNDARY (R31). -/
  | tickBoundary
  /-- FRAME_BOUNDARY (R32). -/
  | frameBoundary (samples : List (BitVec 16))
  /-- MINUTE_MARK (R25). -/
  | minuteMark (refRaw : BitVec 16) (resid : List (BitVec 15))
  /-- METER_BATCH_SIGNED (R138). -/
  | meterBatchSigned
  /-- PPS_EDGE (R35). -/
  | ppsEdge (falling : Bool) (cycle : Fin 1025)
  /-- LOAD_ARM (R37). -/
  | loadArm
  /-- PPS_LOST (R38). -/
  | ppsLost
  /-- LOGICAL_PORT_UP (R60). -/
  | logicalPortUp (lp : Fin 32)
  /-- LOGICAL_PORT_DOWN (R94). -/
  | logicalPortDown (lp : Fin 32)
  /-- RDMA_READ_REQUEST (R111). -/
  | rdmaReadRequest (p : Pkt) (r : Reth) (copiesDiffer : Bool)
  /-- RDMA_WRITE_FIRST (R145). -/
  | rdmaWriteFirst (p : Pkt) (r : Reth) (only : Bool) (payload : List Byte)
  /-- RDMA_WRITE_MIDDLE (R118). -/
  | rdmaWriteMiddle (p : Pkt) (last : Bool) (payload : List Byte)
  /-- CMPSWAP (R74). -/
  | cmpswap (p : Pkt) (rkey : Word) (va cmp swap : DWord)
  /-- FETCHADD (R74). -/
  | fetchadd (p : Pkt) (rkey : Word) (va add : DWord)
  /-- ATOMIC_WRITE (R74). -/
  | atomicWrite (p : Pkt) (rkey : Word) (va data : DWord)
  /-- FLUSH (R73). -/
  | flush (p : Pkt) (r : Reth) (sel : Byte) (placement : Byte)
  /-- SEND (R75). -/
  | send (p : Pkt) (part : Part) (payload : List Byte)
  /-- ACKNOWLEDGE (R90). -/
  | acknowledge (p : Pkt) (kind : AckKind)
  /-- CNP_RECEIVED (R92). -/
  | cnpReceived (p : Pkt)
  /-- RDMA_READ_RESPONSE_RX (R70). -/
  | rdmaReadResponseRx (p : Pkt) (opcode : Byte)
  /-- UNSUPPORTED_OPCODE (R70). -/
  | unsupportedOpcode (p : Pkt) (rc : Bool) (opcode : Byte)
  /-- ARP_REQUEST (R61). -/
  | arpRequest (lp : Fin 32) (vlan : Option (BitVec 12)) (target : Word) (senderMac : BitVec 48) (senderIp : Word)
  /-- NEIGHBOR_SOLICITATION (R61). -/
  | neighborSolicitation (lp : Fin 32) (vlan : Option (BitVec 12)) (target : BitVec 128) (senderMac : BitVec 48)
    (senderIp : BitVec 128)
  /-- PFC_FRAME (R64). -/
  | pfcFrame (lp : Fin 32) (quanta : List (Fin 8 × BitVec 16))
  /-- PFC_PAUSE_EXPIRY (R64). -/
  | pfcPauseExpiry (lp : Fin 32) (prio : Fin 8)
  /-- OTHER_FRAME_DROP (R61). -/
  | otherFrameDrop (lp : Fin 32) (ptp : Option PtpEvent)
  /-- BAD_CRC_FRAME (R62). -/
  | badCrcFrame (lp : Fin 32)
  /-- PFC_REPEAT (R65). -/
  | pfcRepeat (lp : Fin 32) (prio : Fin 8) (occ : Nat)
  /-- CONTEXT_FETCH_DONE (R80). -/
  | contextFetchDone (qpn : BitVec 24) (occ : Nat)
  /-- DESCRIPTOR_FETCH_DONE (R121). -/
  | descriptorFetchDone (index : BitVec 24)
  /-- CONTEXT_INVALIDATION_DONE (R79). -/
  | contextInvalidationDone
  /-- KEY_CACHE_INVALIDATION_DONE (R120). -/
  | keyCacheInvalidationDone
  /-- ACK_TIMEOUT (R90). -/
  | ackTimeout (qpn : BitVec 24)
  /-- RNR_TIMER_EXPIRY (R90). -/
  | rnrTimerExpiry (qpn : BitVec 24)
  /-- CC_RATE_INCREASE (R92). -/
  | ccRateIncrease (qpn : BitVec 24)
  /-- PACED_RELEASE (R92). -/
  | pacedRelease (qpn : BitVec 24)
  /-- TENANT_CREATE (R98). -/
  | tenantCreate (h : CmdHead) (tenant : BitVec 16) (encrypt risAllowed : Bool) (scmQuota pinQuota : Word) (tileQuota : BitVec 16) (len : Word) (wrapped : List Byte)
  /-- TENANT_DESTROY (R103). -/
  | tenantDestroy (h : CmdHead) (tenant : BitVec 16)
  /-- EXTENT_ALLOC (R107). -/
  | extentAlloc (h : CmdHead) (extent : Word) (tenant : BitVec 16) (side : Byte)
  /-- EXTENT_FREE (R108). -/
  | extentFree (h : CmdHead) (extent : Word)
  /-- EXTENT_DISCARD (R342). -/
  | extentDiscard (h : CmdHead) (pna length : DWord) (tenant : BitVec 16)
  /-- PAGE_DISCARD (R342). -/
  | pageDiscard (page : BitVec 34)
  /-- WINDOW_OPEN (R112). -/
  | windowOpen (h : CmdHead) (rkey : Word) (recycle : Bool) (d : WinDesc)
  /-- WINDOW_MODIFY (R116). -/
  | windowModify (h : CmdHead) (rkey : Word) (mask : BitVec 8) (rights : BitVec 8) (pinned : BitVec 8) (progId : BitVec 16)
  /-- PINNED_PUBLISH (R115). -/
  | pinnedPublish (index : BitVec 24)
  /-- WINDOW_REVOKE (R123). -/
  | windowRevoke (h : CmdHead) (rkey : Word)
  /-- WINDOW_REVOKE_DONE (R124). -/
  | windowRevokeDone (index : BitVec 24)
  /-- QP_CREATE (R76). -/
  | qpCreate (h : CmdHead) (b : QpBlock)
  /-- QP_MODIFY (R589). -/
  | qpModify (h : CmdHead) (b : QpBlock)
  /-- QP_DESTROY (R84). -/
  | qpDestroy (h : CmdHead) (qpn : Word)
  /-- PROGRAM_LOAD (R172). -/
  | programLoad (h : CmdHead) (image : List Byte)
  /-- PROGRAM_UNLOAD (R174). -/
  | programUnload (h : CmdHead) (slot : Byte)
  /-- PROGRAM_RELEASE (R23). -/
  | programRelease (slot : Fin 64)
  /-- DRILL (R423). -/
  | drill (h : CmdHead) (side : Byte) (hold : Bool)
  /-- DRILL_YIELD (R423). -/
  | drillYield
  /-- TIER_FORMAT (R319). -/
  | tierFormat (h : CmdHead)
  /-- SCM_FORMAT (R582). -/
  | scmFormat (h : CmdHead) (pairId : DWord) (metaRegions : Byte)
  /-- REGION_READ (R581). -/
  | regionRead (h : CmdHead) (offset : DWord) (len : Word)
  /-- REGION_WRITE (R581). -/
  | regionWrite (h : CmdHead) (offset : DWord) (data : List Byte)
  /-- MGMT (R581). -/
  | mgmt (h : CmdHead) (body : List Byte) (result : Byte) (w0 w1 w2 : DWord)
  /-- NOP (R578). -/
  | nop (h : CmdHead)
  /-- QUERY (R581). -/
  | query (h : CmdHead) (kind : Byte) (index : Word)
  /-- SQ_DOORBELL (R576). -/
  | sqDoorbell (ring : Fin 16) (tail : BitVec 16)
  /-- CQ_HEAD_WRITE (R576). -/
  | cqHeadWrite (ring : Fin 16) (head : BitVec 16)
  /-- RING_ENABLE (R576). -/
  | ringEnable (ring : Fin 16) (v : Word)
  /-- DMA_CHANNEL_HALT (R586). -/
  | dmaChannelHalt (ch : Fin 8) (cause : Fin 8) (ring : Fin 16)
  /-- DMA_RESUME (R586). -/
  | dmaResume (mask : Byte)
  /-- FUNCTION_LEVEL_RESET (R574). -/
  | functionLevelReset
  /-- PERST (R574). -/
  | perst
  /-- CMD_SKEW_DETECT (R101). -/
  | cmdSkewDetect
  /-- HELD_MIRROR_PLACE (R102). -/
  | heldMirrorPlace (extent : BitVec 27)
  /-- NOP_INSTRUCTION (R186). -/
  | nopInstruction (ag : Agent) (w : DWord) (fetchUe : Bool)
  /-- ADD (R187). -/
  | add (ag : Agent) (w : DWord)
  /-- SUB (R187). -/
  | sub (ag : Agent) (w : DWord)
  /-- AND (R187). -/
  | and (ag : Agent) (w : DWord)
  /-- OR (R187). -/
  | or (ag : Agent) (w : DWord)
  /-- XOR (R187). -/
  | xor (ag : Agent) (w : DWord)
  /-- SHL (R187). -/
  | shl (ag : Agent) (w : DWord)
  /-- SHR (R187). -/
  | shr (ag : Agent) (w : DWord)
  /-- SAR (R187). -/
  | sar (ag : Agent) (w : DWord)
  /-- MUL (R187). -/
  | mul (ag : Agent) (w : DWord)
  /-- MULHU (R187). -/
  | mulhu (ag : Agent) (w : DWord)
  /-- MINU (R187). -/
  | minu (ag : Agent) (w : DWord)
  /-- MAXU (R187). -/
  | maxu (ag : Agent) (w : DWord)
  /-- MIN (R187). -/
  | min (ag : Agent) (w : DWord)
  /-- MAX (R187). -/
  | max (ag : Agent) (w : DWord)
  /-- ANDN (R187). -/
  | andn (ag : Agent) (w : DWord)
  /-- ADDI (R187). -/
  | addi (ag : Agent) (w : DWord)
  /-- SUBI (R187). -/
  | subi (ag : Agent) (w : DWord)
  /-- ANDI (R187). -/
  | andi (ag : Agent) (w : DWord)
  /-- ORI (R187). -/
  | ori (ag : Agent) (w : DWord)
  /-- XORI (R187). -/
  | xori (ag : Agent) (w : DWord)
  /-- SHLI (R187). -/
  | shli (ag : Agent) (w : DWord)
  /-- SHRI (R187). -/
  | shri (ag : Agent) (w : DWord)
  /-- SARI (R187). -/
  | sari (ag : Agent) (w : DWord)
  /-- MULI (R187). -/
  | muli (ag : Agent) (w : DWord)
  /-- MULHUI (R187). -/
  | mulhui (ag : Agent) (w : DWord)
  /-- MINUI (R187). -/
  | minui (ag : Agent) (w : DWord)
  /-- MAXUI (R187). -/
  | maxui (ag : Agent) (w : DWord)
  /-- MINI (R187). -/
  | mini (ag : Agent) (w : DWord)
  /-- MAXI (R187). -/
  | maxi (ag : Agent) (w : DWord)
  /-- ANDNI (R187). -/
  | andni (ag : Agent) (w : DWord)
  /-- DEPH (R187). -/
  | deph (ag : Agent) (w : DWord)
  /-- CMP_EQ (R188). -/
  | cmpEq (ag : Agent) (w : DWord)
  /-- CMP_NE (R188). -/
  | cmpNe (ag : Agent) (w : DWord)
  /-- CMP_LTU (R188). -/
  | cmpLtu (ag : Agent) (w : DWord)
  /-- CMP_GEU (R188). -/
  | cmpGeu (ag : Agent) (w : DWord)
  /-- CMP_LT (R188). -/
  | cmpLt (ag : Agent) (w : DWord)
  /-- CMP_GE (R188). -/
  | cmpGe (ag : Agent) (w : DWord)
  /-- CMP_TST (R188). -/
  | cmpTst (ag : Agent) (w : DWord)
  /-- CMP_NTST (R188). -/
  | cmpNtst (ag : Agent) (w : DWord)
  /-- CMPI_EQ (R188). -/
  | cmpiEq (ag : Agent) (w : DWord)
  /-- CMPI_NE (R188). -/
  | cmpiNe (ag : Agent) (w : DWord)
  /-- CMPI_LTU (R188). -/
  | cmpiLtu (ag : Agent) (w : DWord)
  /-- CMPI_GEU (R188). -/
  | cmpiGeu (ag : Agent) (w : DWord)
  /-- CMPI_LT (R188). -/
  | cmpiLt (ag : Agent) (w : DWord)
  /-- CMPI_GE (R188). -/
  | cmpiGe (ag : Agent) (w : DWord)
  /-- CMPI_TST (R188). -/
  | cmpiTst (ag : Agent) (w : DWord)
  /-- CMPI_NTST (R188). -/
  | cmpiNtst (ag : Agent) (w : DWord)
  /-- PAND (R188). -/
  | pand (ag : Agent) (w : DWord)
  /-- POR (R188). -/
  | por (ag : Agent) (w : DWord)
  /-- PXOR (R188). -/
  | pxor (ag : Agent) (w : DWord)
  /-- PANDN (R188). -/
  | pandn (ag : Agent) (w : DWord)
  /-- P2G (R188). -/
  | p2g (ag : Agent) (w : DWord)
  /-- CLZ (R189). -/
  | clz (ag : Agent) (w : DWord)
  /-- CTZ (R189). -/
  | ctz (ag : Agent) (w : DWord)
  /-- POPC (R189). -/
  | popc (ag : Agent) (w : DWord)
  /-- BSWAP (R189). -/
  | bswap (ag : Agent) (w : DWord)
  /-- BSWAP32 (R189). -/
  | bswap32 (ag : Agent) (w : DWord)
  /-- EXTU (R189). -/
  | extu (ag : Agent) (w : DWord)
  /-- EXTS (R189). -/
  | exts (ag : Agent) (w : DWord)
  /-- INS (R189). -/
  | ins (ag : Agent) (w : DWord)
  /-- CRC32C_B (R190). -/
  | crc32cB (ag : Agent) (w : DWord)
  /-- CRC32C_D (R190). -/
  | crc32cD (ag : Agent) (w : DWord)
  /-- CRC64_D (R190). -/
  | crc64D (ag : Agent) (w : DWord)
  /-- GETCX (R191). -/
  | getcx (ag : Agent) (w : DWord)
  /-- LD_PAD (R192). -/
  | ldPad (ag : Agent) (w : DWord) (wrong : List (BitVec 80))
  /-- LD_PAYLOAD (R192). -/
  | ldPayload (ag : Agent) (w : DWord)
  /-- LD_TILE (R192). -/
  | ldTile (ag : Agent) (w : DWord) (wrong : List (BitVec 80))
  /-- ST_PAD (R192). -/
  | stPad (ag : Agent) (w : DWord)
  /-- ST_TILE (R192). -/
  | stTile (ag : Agent) (w : DWord)
  /-- TLD (R195). -/
  | tld (ag : Agent) (w : DWord)
  /-- TST (R194). -/
  | tst (ag : Agent) (w : DWord) (wrong : List (BitVec 80))
  /-- TCOPY (R194). -/
  | tcopy (ag : Agent) (w : DWord) (wrong : List (BitVec 80))
  /-- TCOPY_PAYLOAD (R194). -/
  | tcopyPayload (ag : Agent) (w : DWord)
  /-- TFILL (R194). -/
  | tfill (ag : Agent) (w : DWord)
  /-- TXOR (R194). -/
  | txor (ag : Agent) (w : DWord) (wrong : List (BitVec 80))
  /-- TCRC_CRC32C (R194). -/
  | tcrcCrc32c (ag : Agent) (w : DWord) (wrong : List (BitVec 80))
  /-- TCRC_CRC64 (R194). -/
  | tcrcCrc64 (ag : Agent) (w : DWord) (wrong : List (BitVec 80))
  /-- TCMP (R194). -/
  | tcmp (ag : Agent) (w : DWord) (wrong : List (BitVec 80))
  /-- TSCAN_EQ (R194). -/
  | tscanEq (ag : Agent) (w : DWord) (wrong : List (BitVec 80))
  /-- TSCAN_NE (R194). -/
  | tscanNe (ag : Agent) (w : DWord) (wrong : List (BitVec 80))
  /-- TSUM_ADD (R194). -/
  | tsumAdd (ag : Agent) (w : DWord) (wrong : List (BitVec 80))
  /-- TSUM_XOR (R194). -/
  | tsumXor (ag : Agent) (w : DWord) (wrong : List (BitVec 80))
  /-- MREAD_RESPONSE (R196). -/
  | mreadResponse (ag : Agent) (w : DWord)
  /-- MREAD_PAD (R196). -/
  | mreadPad (ag : Agent) (w : DWord)
  /-- MREAD_DATA_RETURN (R196). -/
  | mreadDataReturn (req : Nat) (index : Nat)
  /-- MWRITE_PAD (R197). -/
  | mwritePad (ag : Agent) (w : DWord)
  /-- MWRITE_PAYLOAD (R197). -/
  | mwritePayload (ag : Agent) (w : DWord)
  /-- CAS8 (R198). -/
  | cas8 (ag : Agent) (w : DWord)
  /-- FADD8 (R198). -/
  | fadd8 (ag : Agent) (w : DWord)
  /-- SWAP8 (R198). -/
  | swap8 (ag : Agent) (w : DWord)
  /-- MASK8 (R198). -/
  | mask8 (ag : Agent) (w : DWord)
  /-- CAS16 (R198). -/
  | cas16 (ag : Agent) (w : DWord)
  /-- WRITE8 (R198). -/
  | write8 (ag : Agent) (w : DWord)
  /-- MATOM_ACCEPTED (R155). -/
  | matomAccepted (req : Nat) (index : Nat)
  /-- STAGE (R199). -/
  | stage (ag : Agent) (w : DWord)
  /-- FENCE (R200). -/
  | fence (ag : Agent) (w : DWord)
  /-- POST_RESPONSE (R201). -/
  | postResponse (ag : Agent) (w : DWord)
  /-- POST_ACK (R201). -/
  | postAck (ag : Agent) (w : DWord)
  /-- POST_ATOMIC (R201). -/
  | postAtomic (ag : Agent) (w : DWord)
  /-- POST_FLUSHACK (R201). -/
  | postFlushack (ag : Agent) (w : DWord)
  /-- REPLY (R202). -/
  | reply (ag : Agent) (w : DWord)
  /-- NOTIFY (R203). -/
  | notify (ag : Agent) (w : DWord)
  /-- METER (R203). -/
  | meter (ag : Agent) (w : DWord)
  /-- BR (R204). -/
  | br (ag : Agent) (w : DWord)
  /-- BRP (R204). -/
  | brp (ag : Agent) (w : DWord)
  /-- CALL (R204). -/
  | call (ag : Agent) (w : DWord)
  /-- RET (R204). -/
  | ret (ag : Agent) (w : DWord)
  /-- YIELD (R149). -/
  | yield (ag : Agent) (w : DWord)
  /-- YIELD_W_NEXT (R150). -/
  | yieldWNext (ag : Agent) (w : DWord)
  /-- YIELD_W_MEDIA (R150). -/
  | yieldWMedia (ag : Agent) (w : DWord)
  /-- YIELD_W_STAGE (R225). -/
  | yieldWStage (ag : Agent) (w : DWord)
  /-- YIELD_W_FENCE (R150). -/
  | yieldWFence (ag : Agent) (w : DWord)
  /-- YIELD_W_TIME (R150). -/
  | yieldWTime (ag : Agent) (w : DWord)
  /-- TIME_WAKE (R150). -/
  | timeWake (req : Nat)
  /-- COMMIT (R153). -/
  | commit (ag : Agent) (w : DWord)
  /-- COMMIT_C (R144). -/
  | commitC (ag : Agent) (w : DWord)
  /-- COMMIT_A (R160). -/
  | commitA (ag : Agent) (w : DWord)
  /-- ABORT (R157). -/
  | abort (ag : Agent) (w : DWord)
  /-- TRAP_OVERRUN (R163). -/
  | trapOverrun (strand : Fin 512)
  /-- ICACHE_INVALIDATION_DONE (R175). -/
  | icacheInvalidationDone
  /-- ENGINE_FENCE (R177). -/
  | engineFence (engine : Fin 64)
  /-- REQUEST_RESTART (R178). -/
  | requestRestart (req : Nat)
  /-- CSRR (R208). -/
  | csrr (ag : Agent) (w : DWord)
  /-- CSRW (R208). -/
  | csrw (ag : Agent) (w : DWord)
  /-- REGR (R208). -/
  | regr (ag : Agent) (w : DWord)
  /-- REGW (R208). -/
  | regw (ag : Agent) (w : DWord)
  /-- TRET (R210). -/
  | tret (ag : Agent) (w : DWord)
  /-- IFLUSH (R213). -/
  | iflush (ag : Agent) (w : DWord)
  /-- KEYOP_UNWRAP (R214). -/
  | keyopUnwrap (ag : Agent) (w : DWord)
  /-- KEYOP_CLEAR (R214). -/
  | keyopClear (ag : Agent) (w : DWord)
  /-- KEYOP_SIGN (R214). -/
  | keyopSign (ag : Agent) (w : DWord)
  /-- KEYOP_VERIFY (R214). -/
  | keyopVerify (ag : Agent) (w : DWord)
  /-- KEYOP_HASH (R214). -/
  | keyopHash (ag : Agent) (w : DWord)
  /-- KEYOP_ATTEST (R214). -/
  | keyopAttest (ag : Agent) (w : DWord)
  /-- MCP_INTERRUPT (R210). -/
  | mcpInterrupt (source : Fin 16)
  /-- TILE_INIT_DONE (R222). -/
  | tileInitDone
  /-- TILE_FILL_START (R232). -/
  | tileFillStart (cluster : Fin 8)
  /-- TILE_FILL_DONE (R227). -/
  | tileFillDone (cluster : Fin 8) (channel : Fin 8) (err : Option Byte)
  /-- STAGE_LATE (R239). -/
  | stageLate (req : Nat)
  /-- STAGER_CHANNEL_HALT (R244). -/
  | stagerChannelHalt (cluster : Fin 8) (channel : Fin 8) (cause : Fin 8) (source : Fin 8) (pna : BitVec 48)
  /-- CHANNEL_RESUME (R245). -/
  | channelResume (cluster : Fin 8) (channel : Fin 8)
  /-- MEDIA_DATA_FLIT (R251). -/
  | mediaDataFlit (ml : Fin 16) (flit : List Byte)
  /-- MEDIA_FLIT_ACK (R252). -/
  | mediaFlitAck (ml : Fin 16) (seq : BitVec 12)
  /-- MEDIA_FLIT_NAK (R252). -/
  | mediaFlitNak (ml : Fin 16) (seq : BitVec 12)
  /-- MEDIA_ACK_DUE (R252). -/
  | mediaAckDue (ml : Fin 16)
  /-- MEDIA_LINK_SILENT (R254). -/
  | mediaLinkSilent (ml : Fin 16)
  /-- RETRAIN_DONE (R254). -/
  | retrainDone (ml : Fin 16)
  /-- RETRAIN_TIMEOUT (R281). -/
  | retrainTimeout (ml : Fin 16)
  /-- RDR (R265). -/
  | rdr (ml : Fin 16) (tag : BitVec 10) (cnt : BitVec 6) (line : List Byte)
  /-- CNF (R350). -/
  | cnf (ml : Fin 16) (tag : BitVec 10)
  /-- ERR (R281). -/
  | err (ml : Fin 16) (tag : BitVec 10) (reason : BitVec 6)
  /-- CFGR (R261). -/
  | cfgr (ml : Fin 16) (tag : BitVec 10) (w : DWord)
  /-- LINE_REPAIR_REQUEST (R268). -/
  | lineRepairRequest (line : BitVec 42)
  /-- LINE_REPAIR_SERVE (R268). -/
  | lineRepairServe (line : BitVec 42) (raw : List Byte)
  /-- LINE_REPAIR_REPLY (R268). -/
  | lineRepairReply (line : BitVec 42)
  /-- GAP_MOVE (R272). -/
  | gapMove (ml : Fin 16) (region : Fin 512)
  /-- REGION_RECORD_WRITE (R273). -/
  | regionRecordWrite (ml : Fin 16) (region : Fin 512)
  /-- PATROL_SCRUB (R274). -/
  | patrolScrub (ml : Fin 16)
  /-- DESTAGE (R323). -/
  | destage
  /-- DESTAGE_SWITCH (R278). -/
  | destageSwitch (page : BitVec 34)
  /-- PROMOTE (R279). -/
  | promote (page : BitVec 34)
  /-- PROMOTE_SWITCH (R279). -/
  | promoteSwitch (page : BitVec 34)
  /-- DRAM_REQUEST_ACCEPT (R292). -/
  | dramRequestAccept (ch : Fin 6) (slot : Fin 64) (arrivals : List DramReq)
  /-- DRAM_COLUMN_ISSUE (R300). -/
  | dramColumnIssue (ch : Fin 6) (slot : Fin 64) (neighbour : Bool)
  /-- DRAM_READ_RETURN (R304). -/
  | dramReadReturn (ch : Fin 6) (wrong : List (BitVec 80))
  /-- REFRESH (R301). -/
  | refresh (ch : Fin 6) (slot : Fin 64)
  /-- ZQ_CALIBRATION (R301). -/
  | zqCalibration (ch : Fin 6) (rank : Fin 2)
  /-- ROW_IDLE_CLOSE (R298). -/
  | rowIdleClose (ch : Fin 6) (bank : Fin 64) (cycle : Fin 1025)
  /-- DRAM_SCRUB (R305). -/
  | dramScrub
  /-- CA_PARITY_ALERT (R306). -/
  | caParityAlert (ch : Fin 6) (port : Fin 12) (cls : Fin 4) (addr : BitVec 40)
  /-- NAND_READ_DONE (R327). -/
  | nandReadDone (page : BitVec 35) (steps : NandSteps) (evict : Bool) (out : NandOutcome)
  /-- NAND_PROGRAM_DONE (R323). -/
  | nandProgramDone (sb : BitVec 22) (page : BitVec 17) (ok : Bool)
  /-- NAND_ERASE_DONE (R326). -/
  | nandEraseDone (sb : BitVec 22) (bad : Option (BitVec 10))
  /-- NAND_SUSPEND (R331). -/
  | nandSuspend (die : BitVec 10)
  /-- NAND_READY_TIMEOUT (R330). -/
  | nandReadyTimeout (page : BitVec 35)
  /-- DIE_FAILED (R333). -/
  | dieFailed (die : BitVec 10)
  /-- STRIPE_ROW_CLOSE (R325). -/
  | stripeRowClose (sb : BitVec 22)
  /-- FOLD (R322). -/
  | fold
  /-- GARBAGE_COLLECTION (R335). -/
  | garbageCollection
  /-- WEAR_RELOCATION (R336). -/
  | wearRelocation
  /-- BACKGROUND_SCAN (R337). -/
  | backgroundScan
  /-- MAP_CHECKPOINT (R338). -/
  | mapCheckpoint
  /-- PLACEMENT_ISSUE (R362). -/
  | placementIssue
  /-- INFLIGHT_MARK_CLEAR (R383). -/
  | inflightMarkClear (extent : BitVec 27)
  /-- FENCE_COMPLETE (R354). -/
  | fenceComplete (qpn : BitVec 24)
  /-- FLUSH_LIMIT_EXPIRY (R380). -/
  | flushLimitExpiry (req : Nat)
  /-- INTENT_HEADER_PLACED (R375). -/
  | intentHeaderPlaced (slot : BitVec 14)
  /-- INTENT_HOME_WRITE (R375). -/
  | intentHomeWrite (slot : BitVec 14)
  /-- JOURNAL_APPLY (R387). -/
  | journalApply
  /-- HEARTBEAT (R393). -/
  | heartbeat (one : Bool) (crcOk : Bool) (hb : TwinHb)
  /-- HEARTBEAT_SEND (R395). -/
  | heartbeatSend
  /-- MIRROR (R401), with the class of the writes it carries (R41, log 117). -/
  | mirror (h : TwinHead) (runs : List MirrorRun) (epoch : Word) (cls : Fin 4)
  /-- MIRROR_ADMIT (R359). -/
  | mirrorAdmit
  /-- CONFIRM (R401). -/
  | confirm (h : TwinHead) (frames : List (Bool × Nat)) (outcomes : List OutcomeName) (intents : List (BitVec 14)) (free : Nat)
  /-- OUTCOME (R368). -/
  | outcome (h : TwinHead) (o : OutcomeBody)
  /-- INTENT (R375). -/
  | intent (h : TwinHead) (slot : BitVec 14) (lines : List TwinLine) (epoch : Word)
  /-- GIVEUP (R405). -/
  | giveup (h : TwinHead) (sideB : Bool) (epoch : Word) (drill hold sameTick : Bool)
  /-- RECLAIM (R418). -/
  | reclaim (h : TwinHead) (sideB : Bool) (at' : DWord)
  /-- SWITCH (R418). -/
  | switch (h : TwinHead) (sideB : Bool)
  /-- RESYNC (R416). -/
  | resync (h : TwinHead) (body : ResyncBody)
  /-- TWIN_ACK (R393). -/
  | twinAck (one : Bool) (seq : Nat)
  /-- TWIN_NAK (R393). -/
  | twinNak (one : Bool) (seq : Nat)
  /-- BUNDLE_DOWN (R394). -/
  | bundleDown (one : Bool) (ue : Bool)
  /-- BUNDLE_UP (R394). -/
  | bundleUp (one : Bool)
  /-- SIDEBAND_TOGGLE (R396). -/
  | sidebandToggle (held : Nat)
  /-- SIDEBAND_SILENT (R397). -/
  | sidebandSilent
  /-- FAULT_REPORT (R428). -/
  | faultReport (found : List Finding) (disagree : Option (BitVec 12))
  /-- YIELD_UNIT (R403). -/
  | yieldUnit
  /-- TAKEOVER_START (R406). -/
  | takeoverStart
  /-- TAKEOVER_PUBLISH (R406). -/
  | takeoverPublish
  /-- SOLO_DELAY_EXPIRY (R412). -/
  | soloDelayExpiry
  /-- RESYNC_START (R415). -/
  | resyncStart
  /-- METADATA_DONE (R415). -/
  | metadataDone
  /-- RESYNC_COPY_DONE (R416). -/
  | resyncCopyDone
  /-- RECLAIM_SEND (R418). -/
  | reclaimSend
  /-- RETURN_SWITCH (R418). -/
  | returnSwitch
  /-- RETURN_ADMIT (R418). -/
  | returnAdmit
  /-- PAIR_WAIT_EXPIRY (R421). -/
  | pairWaitExpiry
  /-- DETECTOR_TEST (R431). -/
  | detectorTest (missing : Option (BitVec 12))
  /-- CLOCK_CHECK (R442). -/
  | clockCheck (fault : Option (Fin 4))
  /-- SRAM_SCRUB (R435). -/
  | sramScrub (found : Option Finding) (progress : BitVec 10) (last : Bool)
  /-- INJECT (R590). -/
  | inject
  /-- STARTUP (R29). -/
  | startup (step : StartStep)
  /-- PROVISION (R485). -/
  | provision (ok : Bool)
  /-- DEBUG_TOKEN (R486). -/
  | debugToken
  /-- SEAL (R485). -/
  | seal (ok : Bool)
  /-- RETURN (R485). -/
  | returnUnit (ok : Bool)
  /-- RDP_RAISE (R485). -/
  | rdpRaise (ok : Bool)
  /-- RDP_REGRESS (R465). -/
  | rdpRegress (ok : Bool)
  /-- RECOVERY_DATA (R472). -/
  | recoveryData
  /-- RECOVERY_RUN (R472). -/
  | recoveryRun
  /-- KEK_INSTALL (R479). -/
  | kekInstall
  /-- OWNER_ROTATE (R485). -/
  | ownerRotate (ok : Bool)
  /-- EVR_CLEAR (R552). -/
  | evrClear
  /-- DEBUG_CLOSE (R485). -/
  | debugClose
  /-- QUOTE (R481). -/
  | quote (refused : Bool)
  /-- FW_BEGIN (R471). -/
  | fwBegin (refused ok : Bool)
  /-- FW_DATA (R471). -/
  | fwData (refused ok : Bool)
  /-- FW_END (R471). -/
  | fwEnd (refused ok : Bool)
  /-- MBOX_CLAIM (R482). -/
  | mboxClaim (rq : Requester)
  /-- MBOX_RELEASE (R482). -/
  | mboxRelease (rq : Requester)
  /-- NEW_NONCE (R484). -/
  | newNonce
  /-- FLASH_PROGRAM (R456). -/
  | flashProgram (rq : Requester) (sameCycle : Bool)
  /-- FLASH_ERASE (R459). -/
  | flashErase (rq : Requester) (sameCycle : Bool)
  /-- FLASH_SUSPEND (R459). -/
  | flashSuspend (rq : Requester)
  /-- FLASH_RESUME (R459). -/
  | flashResume (rq : Requester)
  /-- OTP_PROGRAM (R470). -/
  | otpProgram (rq : Requester) (sameCycle : Bool)
  /-- FLASH_PROGRAM_DONE (R452). -/
  | flashProgramDone (ok : Bool)
  /-- ERASE_PULSE_DONE (R459). -/
  | erasePulseDone (erased : Bool)
  /-- HELD_GO_START (R461). -/
  | heldGoStart
  /-- FLASH_READ (R464). -/
  | flashRead (rq : Requester) (v : Word) (wrong : BitVec 80)
  /-- INPUT_OK_LOW (R504). -/
  | inputOkLow
  /-- INPUT_OK_QUALIFIED (R510). -/
  | inputOkQualified
  /-- FAULT_N_LOW (R504). -/
  | faultNLow
  /-- FAULT_N_HIGH (R507). -/
  | faultNHigh
  /-- PWRBTN_PRESS (R508). -/
  | pwrbtnPress
  /-- LONGPRESS (R508). -/
  | longpress
  /-- MRST_ASSERT (R509). -/
  | mrstAssert
  /-- MRST_RELEASE (R509). -/
  | mrstRelease
  /-- SHUTDOWN (R504). -/
  | shutdown (rq : Requester)
  /-- TABLE_LOAD (R496). -/
  | tableLoad (table : Option (List Byte))
  /-- ON_SEQUENCE_START (R510). -/
  | onSequenceStart (ms : Nat)
  /-- SLOT_ENABLE (R498). -/
  | slotEnable (slot : Fin 32) (us : Nat) (nacks : Fin 4)
  /-- SLOT_DISABLE (R505). -/
  | slotDisable (slot : Fin 32) (us : Nat)
  /-- SLOT_QUALIFIED (R501). -/
  | slotQualified (slot : Fin 32) (us : Nat) (straps : BitVec 3)
  /-- SEQUENCE_FAULT (R502). -/
  | sequenceFault (slot : Fin 32) (us : Nat)
  /-- RAIL_FAULT (R503). -/
  | railFault (slot : Fin 32)
  /-- OFF_SEQUENCE_END (R505). -/
  | offSequenceEnd (us : Nat) (pg : BitVec 32)
  /-- ENTER_RUN (R512). -/
  | enterRun (rq : Requester)
  /-- ENTER_TRIM (R514). -/
  | enterTrim (rq : Requester)
  /-- ENTER_HOLD (R513). -/
  | enterHold (rq : Requester)
  /-- HOLD_QUIESCE_DONE (R513). -/
  | holdQuiesceDone
  /-- ENTER_STANDBY (R487). -/
  | enterStandby (rq : Requester)
  /-- TWB_GO (R518). -/
  | twbGo (rq : Requester) (port : Fin 3)
  /-- TWB_TRANSACTION_DONE (R518). -/
  | twbTransactionDone (port : Fin 3) (bytes : Fin 258) (x : TwbEnd)
  /-- TWB_TIMEOUT (R522). -/
  | twbTimeout (port : Fin 3) (stuck : Bool) (bytes : Fin 258)
  /-- BUS_CLEAR (R524). -/
  | busClear (write : Option Requester) (port : Fin 3) (x : ClearEnd)
  /-- PORT_RESET (R524). -/
  | portReset (rq : Requester) (port : Fin 3)
  /-- SEQUENCER_PREEMPT (R520). -/
  | sequencerPreempt (port : Fin 3) (bytes : Fin 258)
  /-- STATUS (R527). -/
  | status
  /-- FIRST_FAULT (R527). -/
  | firstFault
  /-- SEQ_CAUSE (R527). -/
  | seqCause
  /-- DEVICE_ID (R527). -/
  | deviceId
  /-- QUOTE_HASH (R527). -/
  | quoteHash
  /-- POWER_REQ_WAKE (R527). -/
  | powerReqWake (pec : Option Byte)
  /-- POWER_REQ_OFF (R527). -/
  | powerReqOff (pec : Option Byte)
  /-- MBOX_REQ (R529). -/
  | mboxReq (data : List Byte) (pec : Option Byte)
  /-- MBOX_RESP (R529). -/
  | mboxResp
  /-- CAPABILITY (R527). -/
  | capability
  /-- READ_TEMPERATURE_1 (R527). -/
  | readTemperature1
  /-- PMBUS_REVISION (R527). -/
  | pmbusRevision
  /-- MFR_ID (R527). -/
  | mfrId
  /-- MFR_MODEL (R527). -/
  | mfrModel
  /-- MFR_REVISION (R527). -/
  | mfrRevision
  /-- TWT_TIMEOUT (R523). -/
  | twtTimeout
  /-- TWT_WAKE (R530). -/
  | twtWake
  /-- CAPTURE (R539). -/
  | capture (point : Byte)
  /-- CAPTURE_DONE (R539). -/
  | captureDone (tjMean : BitVec 16) (entries : List CalEntry)
  /-- RECORDER_TRIGGER (R545). -/
  | recorderTrigger
  /-- FW_TRIGGER (R544). -/
  | fwTrigger (input : Fin 8) (code : Byte)
  /-- RECORD_PROGRAMMED (R548). -/
  | recordProgrammed
  /-- SECTOR_ERASE_DONE (R548). -/
  | sectorEraseDone
  /-- PORT_EGRESS (R58). -/
  | portEgress (lp : Fin 32) (cycle : Fin 1025)
  /-- VAON_IN_LOSS (R565). -/
  | vaonInLoss
  /-- PWRBTN_RELEASE (R508). -/
  | pwrbtnRelease
  /-- POWER_GOOD_BREAK (R501). -/
  | powerGoodBreak (slot : Fin 32) (us : Nat)
  /-- BUS_FREE (R519). -/
  | busFree (port : Fin 3)
  /-- SIGNAL_DETECT (R514). -/
  | signalDetect (port : Fin 8)
  deriving DecidableEq, Repr

end Sys2Proof
end

