-- ==== Sys2Proof/Machine/Bits.lean ====
section
/-! DEFINITION. Bit fields ([msb:lsb], bit 0 least significant, chapter 00), byte order (R6), saturation and
wrap, and modular comparison of 24-bit PSNs. -/

namespace Sys2Proof.Machine

/-- Bits [hi:lo] of a word, as a number. -/
def fld {n : Nat} (w : BitVec n) (hi lo : Nat) : Nat := w.toNat / 2 ^ lo % 2 ^ (hi + 1 - lo)

/-- Bit `i` of a word. -/
def bitOf {n : Nat} (w : BitVec n) (i : Nat) : Bool := w.toNat / 2 ^ i % 2 == 1

/-- The word with bits [hi:lo] replaced by the low bits of `v`. -/
def setFld {n : Nat} (w : BitVec n) (hi lo v : Nat) : BitVec n :=
  let m := 2 ^ (hi + 1 - lo)
  BitVec.ofNat n (w.toNat / 2 ^ (hi + 1) * 2 ^ (hi + 1) + v % m * 2 ^ lo + w.toNat % 2 ^ lo)

/-- The word with bit `i` set to `b`. -/
def setBit {n : Nat} (w : BitVec n) (i : Nat) (b : Bool) : BitVec n := setFld w i i (if b then 1 else 0)

/-- The number of bits set among the low `n` bits. -/
def popCount (w : Nat) : Nat → Nat
  | 0 => 0
  | n + 1 => popCount w n + w / 2 ^ n % 2

/-- A number as `n` little-endian bytes (R6). -/
def leBytes (v : Nat) : Nat → List Byte
  | 0 => []
  | n + 1 => BitVec.ofNat 8 v :: leBytes (v / 256) n

/-- The number that little-endian bytes spell (R6). -/
def leNat : List Byte → Nat
  | [] => 0
  | b :: bs => b.toNat + 256 * leNat bs

/-- A number as `n` big-endian bytes: network byte order (R6). -/
def beBytes (v n : Nat) : List Byte := (leBytes v n).reverse

/-- The number that big-endian bytes spell (R6). -/
def beNat (bs : List Byte) : Nat := leNat bs.reverse

/-- `n` bytes of a list from offset `o`; short when the list is. -/
def slice (bs : List α) (o n : Nat) : List α := (bs.drop o).take n

/-- The list with its element `i` replaced. -/
def setAt (l : List α) (i : Nat) (v : α) : List α := l.set i v

/-- Element `i` of a list, or the default. -/
def nthD (l : List α) (i : Nat) (d : α) : α := l.getD i d

/-- Addition that stops at `max`. -/
def satAdd (a b max : Nat) : Nat := Nat.min (a + b) max

/-- The value forced into [lo, hi] ("values outside act as the nearest limit"). -/
def clamp (lo hi v : Nat) : Nat := if v < lo then lo else if v > hi then hi else v

/-- Ceiling division. -/
def ceilDiv (a b : Nat) : Nat := (a + b - 1) / b

/-- A 64-bit word sign-extended from its low `n` bits. -/
def sextTo64 (v n : Nat) : DWord :=
  let m := v % 2 ^ n
  if m / 2 ^ (n - 1) = 1 then BitVec.ofNat 64 (2 ^ 64 - 2 ^ n + m) else BitVec.ofNat 64 m

/-- The distance d = (ePSN − PSN) mod 2²⁴ of R85's comparison. -/
def psnBehind (ePsn psn : BitVec 24) : Nat := (ePsn - psn).toNat

/-- PSN `a` is at or after `b`, compared modulo 2²⁴. -/
def psnGe (a b : BitVec 24) : Bool := (a - b).toNat < 2 ^ 23

/-- The larger of two 24-bit sequence numbers, compared modulo 2²⁴. -/
def psnMax (a b : BitVec 24) : BitVec 24 := if psnGe a b then a else b

/-- Every byte of the list is zero. -/
def allZero (bs : List Byte) : Bool := bs.all (· == 0)

/-- Numbers 0 to n − 1, rising. -/
def upTo (n : Nat) : List Nat := List.range n

end Sys2Proof.Machine
end

