-- ==== Sys2Proof/Machine/Codes.lean ====
section
/-! DEFINITION. The codes that protect stored words and lines: CRC-32C and CRC-64 (R190), the 80/64 code (R432, R433), and a line of
88 B with its check bits, tag and EPOCH (R263–R265, R316). -/

namespace Sys2Proof.Machine

open Sys2Proof

/-! ## CRC (R190) -/

/-- `n` bit steps of a reflected CRC. -/
def crcBits (poly : Nat) : Nat → Nat → Nat
  | 0, v => v
  | n + 1, v => crcBits poly n (if v % 2 = 1 then Nat.xor (v / 2) poly else v / 2)

/-- One byte of a reflected CRC, without initial or final inversion. -/
def crcByte (poly v : Nat) (b : Byte) : Nat := crcBits poly 8 (Nat.xor v b.toNat)

/-- CRC-32C over bytes in order: polynomial 0x1EDC_6F41, reflected. -/
def crc32c (v : Nat) (bs : List Byte) : Nat := bs.foldl (crcByte 0x82F63B78) (v % 2 ^ 32)

/-- CRC-64 of ECMA-182 over bytes in order: polynomial 0x42F0_E1EB_A9EA_3693, reflected. -/
def crc64 (v : Nat) (bs : List Byte) : Nat := bs.foldl (crcByte 0xC96C5795D7870F42) v

/-- CRC-32C, and CRC-64, from all ones with a final inversion. -/
def crcInv (bs : List Byte) : Nat := Nat.xor (crc32c 0xFFFFFFFF bs) 0xFFFFFFFF
def crc64Inv (bs : List Byte) : Nat := Nat.xor (crc64 (2 ^ 64 - 1) bs) (2 ^ 64 - 1)

/-- The packet error code of SMBus, CRC-8 with x⁸ + x² + x + 1 over bytes in order, from 0 (R515, R518). -/
def crc8 (bs : List Byte) : Byte :=
  let step (v : Nat) : Nat := if 128 ≤ v then Nat.xor (2 * v % 256) 7 else 2 * v
  BitVec.ofNat 8 (bs.foldl (fun v b => (upTo 8).foldl (fun v _ => step v) (Nat.xor v b.toNat)) 0)

/-! ## The 80/64 code (R432, R433) -/

/-- The product of two polynomials over GF(2), the second of degree below 8: bit i is the coefficient of xⁱ. -/
def polyMul (a b : Nat) : Nat := (upTo 8).foldl (fun r i => if b / 2 ^ i % 2 = 1 then Nat.xor r (a * 2 ^ i) else r) 0

/-- m₁(x) = x⁷ + x³ + 1, and m₃(x), the minimal polynomial of α³ (R432). -/
def minPoly1 : Nat := 0x89
def minPoly3 : Nat := 0x8F

/-- g(x) = m₁(x) · m₃(x), of degree 14. -/
def bchG : Nat := polyMul minPoly1 minPoly3

/-- One more coefficient d, from the highest down, of the dividend x¹⁴ · Σ dᵢ xⁱ divided by g. -/
def bchStep (r : Nat) (d : Bool) : Nat :=
  let top := (r / 2 ^ 13 % 2 == 1) != d
  if top then Nat.xor (2 * r % 2 ^ 14) (bchG % 2 ^ 14) else 2 * r % 2 ^ 14

/-- (x¹⁴ · Σ dᵢ xⁱ) mod g(x) for a 64-bit word. -/
def bchRem (d : Nat) : Nat := (upTo 64).foldl (fun r k => bchStep r (d / 2 ^ (63 - k) % 2 == 1)) 0

/-- The 16 check bits of a data word (R432). -/
def checkBits (d : DWord) : BitVec 16 :=
  let c := bchRem d.toNat
  let p := (popCount d.toNat 64 + popCount c 14) % 2
  BitVec.ofNat 16 (c + p * 2 ^ 14 + p * 2 ^ 15)

/-- A word as it is stored: d in bits [63:0], c in bits [79:64] (R432). -/
def encode80 (d : DWord) : BitVec 80 := BitVec.ofNat 80 (d.toNat + (checkBits d).toNat * 2 ^ 64)

/-- What one wrong bit of d or c[13:0] adds to the syndrome; c[14] adds nothing but parity. -/
def bitSyndrome (i : Nat) : Nat := if i < 64 then bchRem (2 ^ i) else if i < 78 then 2 ^ (i - 64) else 0

/-- The wrong bits of the 79 bits d, c[13:0], c[14] of a word at distance 2 or less from a codeword; none where it is farther from
every one. -/
def findErrors (w : BitVec 80) : Option (List Nat) :=
  let s := Nat.xor (bchRem (w.toNat % 2 ^ 64)) (w.toNat / 2 ^ 64 % 2 ^ 14)
  if popCount w.toNat 79 % 2 = 1 then ((upTo 79).find? (fun i => bitSyndrome i == s)).map (fun i => [i])
  else if s = 0 then some []
  else
    let syn := (upTo 79).map (fun i => (i, bitSyndrome i))
    syn.findSome? (fun a => (syn.find? (fun b => decide (a.1 < b.1) && Nat.xor a.2 b.2 == s)).map (fun b => [a.1, b.1]))

/-- The decoding of a stored word: its data and the number of bits corrected, or none where it is uncorrectable (R433). -/
def decode80 (w : BitVec 80) : Option (DWord × Nat) :=
  match findErrors w with
  | none => none
  | some e =>
    let v := e.foldl (fun (v : BitVec 80) i => v ^^^ BitVec.ofNat 80 (2 ^ i)) w
    let n := e.length + (if bitOf v 79 == bitOf v 78 then 0 else 1)
    if 2 < n then none else some (BitVec.ofNat 64 v.toNat, n)

/-- What a code-protected word showed when it was read: sound, corrected, or uncorrectable. -/
inductive WordErr
  | ok | ce | ue
  deriving DecidableEq, Repr

/-- What the decoder makes of any stored word that is read with some of its 80 bits wrong: the code is linear, so the outcome rests on
the wrong bits alone. Four or more wrong bits that make another codeword are taken to return the stored word (log 115). -/
def wordErr (wrong : BitVec 80) : WordErr :=
  match decode80 wrong with
  | none => .ue
  | some (_, 0) => .ok
  | some _ => .ce

/-- Corrected, and uncorrectable, words among those read. -/
def ceCount (wrong : List (BitVec 80)) : Nat := wrong.countP (fun w => wordErr w == .ce)
def ueCount (wrong : List (BitVec 80)) : Nat := wrong.countP (fun w => wordErr w == .ue)

/-- Bits corrected among the words read. -/
def bitsCorrected (wrong : List (BitVec 80)) : Nat :=
  (wrong.map (fun w => match decode80 w with | some (_, n) => n | none => 0)).foldl (· + ·) 0

/-- The syndrome of a word read with some bits wrong: the check bits of what was read against the check bits that were read (log 115). -/
def syndrome (wrong : BitVec 80) : BitVec 16 := checkBits (BitVec.ofNat 64 wrong.toNat) ^^^ BitVec.ofNat 16 (wrong.toNat / 2 ^ 64)

/-! ## Lines (R263–R265, R316) -/

/-- The address word of a line's tag on a stack: LSA, media link, tenant, and bit 63 for a line of the chip's own metadata (R264). -/
def scmAddress (lsa link tenant : Nat) (own : Bool) : Nat :=
  lsa % 2 ^ 33 + link % 16 * 2 ^ 33 + (if own then 2 ^ 63 else tenant % 4096 * 2 ^ 48)

/-- The address word of a line's tag in NAND: line number, tenant, bit 62, and bit 63 for a map segment (R316). -/
def nandAddress (line tenant : Nat) (segment : Bool) : Nat :=
  line % 2 ^ 42 + tenant % 4096 * 2 ^ 48 + 2 ^ 62 + (if segment then 2 ^ 63 else 0)

/-- TAG_CRC: CRC-32C over the 64 data bytes and the address word (R264, R316). -/
def tagCrc (data : List Byte) (address : Nat) : Nat := crcInv (data ++ leBytes address 8)

/-- Word `i` of 64 data bytes. -/
def lineWord (data : List Byte) (i : Nat) : DWord := BitVec.ofNat 64 (leNat (slice data (8 * i) 8))

/-- The 88 bytes of a stored line: data, check bits, TAG_CRC, EPOCH (R263). -/
def storedBytes (data : List Byte) (address epoch : Nat) : List Byte :=
  data ++ (upTo 8).flatMap (fun i => leBytes (checkBits (lineWord data i)).toNat 2) ++ leBytes (tagCrc data address) 4 ++
  leBytes epoch 4

/-- What the decoding and tag check of a returned line find (R265, R433). -/
inductive LineCheck
  | clean
  | corrected (bits : Nat)
  | uncorrectable
  | wrongTag
  deriving DecidableEq, Repr

/-- The 80 bits of word `i` of an 88 B line. -/
def codedWord (raw : List Byte) (i : Nat) : BitVec 80 :=
  BitVec.ofNat 80 (leNat (slice raw (8 * i) 8) + leNat (slice raw (64 + 2 * i) 2) * 2 ^ 64)

/-- A returned line decoded word by word, and then its tag checked under the address expected (R265). -/
def checkLine (raw : List Byte) (address : Nat) : LineCheck :=
  let words := (upTo 8).map (fun i => decode80 (codedWord raw i))
  if words.any Option.isNone then .uncorrectable
  else
    let ok := words.filterMap id
    let data := ok.flatMap (fun w => leBytes w.1.toNat 8)
    let bits := (ok.map Prod.snd).foldl (· + ·) 0
    if tagCrc data address ≠ leNat (slice raw 80 4) then .wrongTag
    else if bits = 0 then .clean
    else .corrected bits

/-- A returned line as it should have been stored: its words corrected, its check bits and tag computed anew, its EPOCH kept (R266). -/
def corrected (raw : List Byte) (address : Nat) : List Byte :=
  storedBytes (((upTo 8).filterMap (fun i => decode80 (codedWord raw i))).flatMap (fun w => leBytes w.1.toNat 8)) address
    (leNat (slice raw 84 4))

/-- Bytes with others XORed onto them. -/
def xorBytes (a b : List Byte) : List Byte := (upTo a.length).map (fun i => nthD a i 0 ^^^ nthD b i 0)

end Sys2Proof.Machine
end

