-- ==== Sys2Proof/Config.lean ====
section
/-! DEFINITION. What an implementation or the outside fixes, and the free values: constants without a body, of which
nothing can be proved but that they are values. -/

namespace Sys2Proof.Config

/-- The n-th free byte the machine takes: pad bytes the manual leaves undefined (R141), flash rows left undefined by
an interrupted operation (R460), random bytes of a nonce (R484). -/
opaque freeByte (n : Nat) : Byte

/-- The n-th free word the machine takes. -/
opaque freeWord (n : Nat) : DWord

/-- SHA-512 of a byte string (named by the manual, defined outside it). -/
opaque sha512 (bytes : List Byte) : List Byte

/-- Ed25519ph signature of a byte string under the device's attestation key (named by the manual, defined outside
it). -/
opaque ed25519ph (bytes : List Byte) : List Byte

/-- A 64 B string is the Ed25519ph signature of a byte string under the public key that has this SHA-512 (named by the manual, defined
outside it). -/
opaque verifies (keyHash bytes sig : List Byte) : Bool

/-- Ed25519ph signature of a byte string under the vendor key, which Tyend holds (R474). -/
opaque vendorSign (bytes : List Byte) : List Byte

/-- AES-256-GCM decryption: key, IV, additional data, ciphertext, tag; none where the tag fails (named by the manual, defined
outside it). -/
opaque gcmOpen (key iv aad cipher tag : List Byte) : Option (List Byte)

/-- X25519 of the device's KEX private key and a public key (named by the manual, defined outside it; KEX is this device's). -/
opaque kexShared (pub : List Byte) : List Byte

/-- HKDF-SHA-512 of a shared secret, a salt and an info string (named by the manual, defined outside it). -/
opaque hkdfSha512 (secret salt info : List Byte) : List Byte

/-- AES-256-XTS of one 64 B data unit under a 512-bit key and a data-unit number (IEEE 1619, named by the manual, defined
outside it): under each key and number a permutation of the 512-bit values. -/
opaque xts (key : List Byte) (unit : Nat) : Equiv.Perm (BitVec 512)

/-- Word `i` of SEC_ATT_PUB: the public keys of ATT and KEX, derived from this device's seeds (R473). -/
opaque publicKey (i : Nat) : Word

/-- Byte `a` of the mask boot ROM (R447). -/
opaque bootRom (a : Nat) : Byte

/-- Byte `a` of the OTP row as Tyend programmed it at manufacture, offsets 0x000 to 0x09F (R449). -/
opaque factory (a : Nat) : Byte

/-- Parameter `k` of an item as the boot ROM gives it where no point area is valid (R536). -/
opaque romParam (kind index k : Nat) : BitVec 16

/-- The legal range of parameter `k` of a kind, which the manual does not give (R536). -/
opaque legalRange (kind k : Nat) : BitVec 16 × BitVec 16

/-- DUR_JOURNAL_STATUS.FILL with `n` groups in the journal ring, whose size the manual does not give (R387). -/
opaque journalFill (n : Nat) : Byte

/-- The LDPC parity of a codeword's payload, of which 128 B are stored (R314): the manual does not give the code. -/
opaque ldpc (payload : List Byte) : List Byte

end Sys2Proof.Config
end

