-- ==== Sys2Proof/Machine/Maps.lean ====
section
/-! DEFINITION. The operations over sparse tables. A record table (`find`, `put`, `del`) lists the records that
exist; a valued table (`rd`, `wr`) has a value at every key, and lists only the keys whose value differs from what
an unlisted key reads as, so that equal contents are equal lists. -/

namespace Sys2Proof.Machine
namespace Maps

/-- The record at key `k`, if one is listed. -/
def find (k : Nat) : Table α → Option α
  | [] => none
  | (j, v) :: m => if k = j then some v else find k m

/-- The table with the record `v` at key `k`, keys kept in rising order. -/
def put (k : Nat) (v : α) : Table α → Table α
  | [] => [(k, v)]
  | (j, w) :: m => if k < j then (k, v) :: (j, w) :: m else if k = j then (k, v) :: m else (j, w) :: put k v m

/-- The table without the record at key `k`. -/
def del (k : Nat) (m : Table α) : Table α := m.filter (fun e => e.1 != k)

/-- The value at key `k`, where `d` says what an unlisted key reads as. -/
def rd (d : Nat → α) (m : Table α) (k : Nat) : α := (find k m).getD (d k)

/-- The table with value `v` at key `k`; a value equal to the unlisted one leaves no entry. -/
def wr [DecidableEq α] (d : Nat → α) (m : Table α) (k : Nat) (v : α) : Table α :=
  if v = d k then del k m else put k v m

/-- The record at `k`, or `d` where none is listed. -/
def getD (m : Table α) (k : Nat) (d : α) : α := (find k m).getD d

/-- The record at `k` changed by `f`; nothing where none is listed. -/
def upd (k : Nat) (f : α → α) (m : Table α) : Table α :=
  match find k m with
  | some v => put k (f v) m
  | none => m

/-- A record is listed at `k`. -/
def has (m : Table α) (k : Nat) : Bool := (find k m).isSome

/-- The records changed by `f`, keys as they stand. -/
def mapV (f : Nat → α → β) (m : Table α) : Table β := m.map (fun e => (e.1, f e.1 e.2))

/-- The number of records that satisfy `p`. -/
def count (p : α → Bool) (m : Table α) : Nat := (m.filter (fun e => p e.2)).length

/-- The lowest key below `n` at which nothing is listed. -/
def lowestFree (m : Table α) (n : Nat) : Option Nat := (upTo n).find? (fun k => !has m k)

/-- The lowest key at which nothing is listed: one past the longest run of keys from `k`. -/
def nextKey : Nat → Table α → Nat
  | k, [] => k
  | k, (j, _) :: m => if j = k then nextKey (k + 1) m else if j < k then nextKey k m else k

/-- Keys rise strictly: the canonical form of a record table. -/
def sorted (m : Table α) : Bool := decide (m.Pairwise (fun a b => a.1 < b.1))

/-- The canonical form of a valued table: keys rise strictly and no entry equals what an unlisted key reads as. -/
def wf [DecidableEq α] (d : Nat → α) (m : Table α) : Bool := sorted m && m.all (fun e => decide (e.2 ≠ d e.1))

end Maps

/-- A byte memory: what it lists, and 0 at every address it does not list. -/
abbrev Mem := Table Byte

/-- What an unlisted byte of a memory reads as. -/
def zeroAt : Nat → Byte := fun _ => 0

/-- The byte of a memory at an address. -/
def Mem.byte (m : Mem) (a : Nat) : Byte := Maps.rd zeroAt m a

/-- The memory with one byte written. -/
def Mem.setByte (m : Mem) (a : Nat) (b : Byte) : Mem := Maps.wr zeroAt m a b

/-- `n` bytes of a memory from an address, lowest address first. -/
def Mem.bytes (m : Mem) (a : Nat) : Nat → List Byte
  | 0 => []
  | n + 1 => m.byte a :: Mem.bytes m (a + 1) n

/-- The memory with a run of bytes written, lowest address first. -/
def Mem.setBytes (m : Mem) (a : Nat) : List Byte → Mem
  | [] => m
  | b :: bs => Mem.setBytes (m.setByte a b) (a + 1) bs

/-- The memory with every byte of [a, a + n) reading as 0. -/
def Mem.clear (m : Mem) (a n : Nat) : Mem := m.filter (fun e => e.1 < a || a + n ≤ e.1)

/-- The canonical form of a memory. -/
def Mem.wf (m : Mem) : Bool := Maps.wf zeroAt m

end Sys2Proof.Machine
end

