-- ==== Sys2Proof/Machine/RegMap.lean ====
section
/-! DEFINITION. The BAR0 register map (R7, R10, R19's index in chapter 19 and the field tables of every chapter):
where each register lies, which of its bits have which access code, which rw bits act at once rather than at the next
frame boundary, and its reset value (R16). -/

namespace Sys2Proof.Machine

/-- A register, or a family of registers at a regular stride: `base + i * stride + j * stride2` for i < count,
j < count2. Each mask names the bits with that access code (R10); `now` names the rw bits that act at once. -/
structure RegDesc where
  base : Nat
  count : Nat
  stride : Nat
  count2 : Nat
  stride2 : Nat
  rw : Nat
  now : Nat
  ro : Nat
  w1c : Nat
  w1s : Nat
  wo : Nat
  reset : Nat
  deriving DecidableEq, Repr

namespace Reg

abbrev TOP_CHIP_ID : Nat := 0x0
abbrev TOP_STRAP : Nat := 0x4
abbrev TOP_RST_CAUSE : Nat := 0x8
abbrev TOP_IDCODE : Nat := 0xC
abbrev TOP_DEVICE_ID : Nat := 0x10
abbrev TCK_CTRL : Nat := 0x10000
abbrev TCK_STATUS : Nat := 0x10004
abbrev TCK_TICK_LO : Nat := 0x10008
abbrev TCK_TICK_HI : Nat := 0x1000C
abbrev TCK_FRAME : Nat := 0x10010
abbrev TCK_MINUTE : Nat := 0x10014
abbrev TCK_LOAD_LO : Nat := 0x10018
abbrev TCK_LOAD_HI : Nat := 0x1001C
abbrev TCK_PPS_PHASE : Nat := 0x10020
abbrev TCK_TWIN_OFFSET : Nat := 0x10024
abbrev TCK_PPS_CFG : Nat := 0x10028
abbrev TCK_SHARE_CFG : Nat := 0x1002C
abbrev TCK_URGENCY_CHIP : Nat := 0x10030
abbrev TCK_URGENCY_LO : Nat := 0x10034
abbrev TCK_URGENCY_HI : Nat := 0x10038
abbrev TCK_SLOT_ERR : Nat := 0x10040
abbrev TCK_LUNGO_TGT : Nat := 0x10100
abbrev TCK_SLOT_STG : Nat := 0x11000
abbrev TCK_SLOT_STG1 : Nat := 0x11004
abbrev TCK_SLOT_STG2 : Nat := 0x11008
abbrev TCK_SLOT_STG3 : Nat := 0x1100C
abbrev TCK_SLOT_EFF : Nat := 0x12000
abbrev TCK_SLOT_EFF1 : Nat := 0x12004
abbrev TCK_SLOT_EFF2 : Nat := 0x12008
abbrev TCK_SLOT_EFF3 : Nat := 0x1200C
abbrev PWR_CTRL : Nat := 0x20000
abbrev PWR_STATUS : Nat := 0x20004
abbrev PWR_TRIM_ENG_LO : Nat := 0x20008
abbrev PWR_TRIM_ENG_HI : Nat := 0x2000C
abbrev PWR_TRIM_IO : Nat := 0x20010
abbrev PWR_WAKE : Nat := 0x20014
abbrev PRT_MODE : Nat := 0x40000
abbrev PRT_STATUS : Nat := 0x40004
abbrev PRT_PRI_MAP : Nat := 0x40008
abbrev PRT_DSCP_MAP : Nat := 0x4000C
abbrev PRT_PFC_CFG : Nat := 0x40010
abbrev PRT_PFC_THRESH : Nat := 0x40014
abbrev PRT_MISS_CFG : Nat := 0x40018
abbrev PRT_MISS_STATUS : Nat := 0x4001C
abbrev PRT_DROP_OTHER : Nat := 0x40020
abbrev PRT_DROP_CRC : Nat := 0x40024
abbrev PRT_DROP_FULL : Nat := 0x40028
abbrev PRT_RNR_SENT : Nat := 0x4002C
abbrev PRT_TS_CFG : Nat := 0x40040
abbrev PRT_TS_WIDX : Nat := 0x40044
abbrev PRT_TS_ENTRY0 : Nat := 0x40080
abbrev PRT_TS_ENTRY1 : Nat := 0x40084
abbrev PRT_TS_ENTRY2 : Nat := 0x40088
abbrev PRT_TS_ENTRY3 : Nat := 0x4008C
abbrev PRT_LP_MAC_LO : Nat := 0x48000
abbrev PRT_LP_MAC_HI : Nat := 0x48004
abbrev PRT_LP_IPV4 : Nat := 0x48008
abbrev PRT_LP_IPV6 : Nat := 0x4800C
abbrev PRT_LP_CFG : Nat := 0x4801C
abbrev TRN_CTRL : Nat := 0x80000
abbrev TRN_STATUS : Nat := 0x80004
abbrev TRN_OPT_CFG : Nat := 0x80008
abbrev TRN_OPT_STATUS : Nat := 0x8000C
abbrev TRN_CC_CFG : Nat := 0x80010
abbrev TRN_CC_CFG2 : Nat := 0x80014
abbrev TRN_CNT_HIT : Nat := 0x80040
abbrev TRN_CNT_MISS : Nat := 0x80044
abbrev TRN_CNT_EVICT_CANCEL : Nat := 0x80048
abbrev TRN_CNT_SEQ_NAK : Nat := 0x8004C
abbrev TRN_CNT_DUP : Nat := 0x80050
abbrev TRN_CNT_CNP_TX : Nat := 0x80054
abbrev TRN_CNT_CNP_RX : Nat := 0x80058
abbrev TRN_CNT_RETX : Nat := 0x8005C
abbrev WIN_STATUS : Nat := 0xC0000
abbrev WIN_OPEN_COUNT : Nat := 0xC0004
abbrev WIN_PIN_COUNT : Nat := 0xC0008
abbrev WIN_CLOSING : Nat := 0xC000C
abbrev WIN_LAST_REF_KEY : Nat := 0xC0010
abbrev WIN_LAST_REF_INFO : Nat := 0xC0014
abbrev WIN_CNT_KC_HIT : Nat := 0xC0040
abbrev WIN_CNT_KC_MISS : Nat := 0xC0044
abbrev WIN_CNT_REF_INVALID : Nat := 0xC0048
abbrev WIN_CNT_REF_STALE : Nat := 0xC004C
abbrev WIN_CNT_REF_REVOKED : Nat := 0xC0050
abbrev WIN_CNT_REF_TENANT : Nat := 0xC0054
abbrev WIN_CNT_REF_RIGHTS : Nat := 0xC0058
abbrev WIN_CNT_REF_BOUNDS : Nat := 0xC005C
abbrev WIN_CNT_REF_HOME : Nat := 0xC0060
abbrev TEN_STATUS : Nat := 0xE0000
abbrev TEN_BATCH_CFG : Nat := 0xE0004
abbrev TEN_BATCH_BASE_LO : Nat := 0xE0008
abbrev TEN_BATCH_BASE_HI : Nat := 0xE000C
abbrev TEN_BATCH_WR : Nat := 0xE0010
abbrev TEN_BATCH_RD : Nat := 0xE0014
abbrev TEN_BATCH_SEQ_LO : Nat := 0xE0018
abbrev TEN_BATCH_SEQ_HI : Nat := 0xE001C
abbrev TEN_METER_SEL : Nat := 0xE0040
abbrev TEN_METER_VAL_LO : Nat := 0xE0048
abbrev TEN_METER_VAL_HI : Nat := 0xE004C
abbrev CLE_STATUS : Nat := 0x100000
abbrev CLE_FENCED_LO : Nat := 0x100008
abbrev CLE_FENCED_HI : Nat := 0x10000C
abbrev CLE_GATED_LO : Nat := 0x100010
abbrev CLE_GATED_HI : Nat := 0x100014
abbrev CLE_FRAME_CFG : Nat := 0x100018
abbrev CLE_FRAME_USE : Nat := 0x100020
abbrev CLE_IMAGE_SEL : Nat := 0x100040
abbrev CLE_IMAGE_INFO : Nat := 0x100044
abbrev CLE_IMAGE_ID : Nat := 0x100048
abbrev CLE_IMAGE_VERSION : Nat := 0x10004C
abbrev CLE_IMAGE_BOUND : Nat := 0x100050
abbrev CLE_STORE_STATUS : Nat := 0x100054
abbrev CLE_LAST_TRAP : Nat := 0x100060
abbrev CLE_LAST_TRAP_PC : Nat := 0x100064
abbrev CLE_CNT_DISPATCH : Nat := 0x100080
abbrev CLE_CNT_COMMIT : Nat := 0x100084
abbrev CLE_CNT_ABORT : Nat := 0x100088
abbrev CLE_CNT_OVERRUN : Nat := 0x10008C
abbrev CLE_CNT_RESTART : Nat := 0x100090
abbrev CLE_CNT_TRAP : Nat := 0x100094
abbrev CLE_CNT_COMMIT_DEFER : Nat := 0x100098
abbrev STG_CFG : Nat := 0x180000
abbrev STG_LATE_LIMIT : Nat := 0x180004
abbrev STG_STATUS : Nat := 0x180008
abbrev STG_TEN_SEL : Nat := 0x180010
abbrev STG_TEN_USE : Nat := 0x180014
abbrev STG_POOL : Nat := 0x180020
abbrev STG_CNT_FILL : Nat := 0x180080
abbrev STG_CNT_EVICT : Nat := 0x180084
abbrev STG_CNT_REFETCH : Nat := 0x180088
abbrev STG_CNT_LATE : Nat := 0x18008C
abbrev STG_CNT_FAIL : Nat := 0x180090
abbrev STG_CNT_UE : Nat := 0x180094
abbrev STG_CNT_QUOTA : Nat := 0x180098
abbrev STG_CNT_QUOTA_WAIT : Nat := 0x18009C
abbrev STG_CNT_TILE_CE : Nat := 0x1800A0
abbrev STG_CNT_TILE_UE : Nat := 0x1800A4
abbrev STG_CHAN_STATUS : Nat := 0x180400
abbrev STG_CHAN_INFO : Nat := 0x180404
abbrev STG_CHAN_PNA_LO : Nat := 0x180408
abbrev STG_CHAN_PNA_HI : Nat := 0x18040C
abbrev STG_CHAN_CTRL : Nat := 0x180410
abbrev MED_CTRL : Nat := 0x1A0000
abbrev MED_STATUS : Nat := 0x1A0004
abbrev MED_GAP_CFG : Nat := 0x1A0008
abbrev MED_SCRUB_CFG : Nat := 0x1A000C
abbrev MED_SCRUB_STATUS : Nat := 0x1A0010
abbrev MED_POOL_WM : Nat := 0x1A0014
abbrev MED_POOL_TOTAL : Nat := 0x1A0018
abbrev MED_POOL_FREE : Nat := 0x1A001C
abbrev MED_POISON : Nat := 0x1A0020
abbrev MED_LAST_ERR : Nat := 0x1A0024
abbrev MED_LAST_ERR_LSA_LO : Nat := 0x1A0028
abbrev MED_LAST_ERR_LSA_HI : Nat := 0x1A002C
abbrev MED_CNT_CE : Nat := 0x1A0040
abbrev MED_CNT_UE : Nat := 0x1A0044
abbrev MED_CNT_TAG : Nat := 0x1A0048
abbrev MED_CNT_REPAIR : Nat := 0x1A004C
abbrev MED_CNT_STACK_ERR : Nat := 0x1A0050
abbrev MED_CNT_DESTAGE : Nat := 0x1A0054
abbrev MED_CNT_PROMOTE : Nat := 0x1A0058
abbrev MED_CNT_NO_SPACE : Nat := 0x1A005C
abbrev MED_LINK_STATUS : Nat := 0x1A0400
abbrev MED_LINK_CAP : Nat := 0x1A0404
abbrev MED_LINK_ID_LO : Nat := 0x1A0408
abbrev MED_LINK_ID_HI : Nat := 0x1A040C
abbrev MED_LINK_FREE : Nat := 0x1A0410
abbrev MED_LINK_CNT_REPLAY : Nat := 0x1A0414
abbrev MED_LINK_CNT_RETRAIN : Nat := 0x1A0418
abbrev DRC_CTRL : Nat := 0x1C0000
abbrev DRC_STATUS : Nat := 0x1C0004
abbrev DRC_DIMM_CFG : Nat := 0x1C0008
abbrev DRC_ILV_CFG : Nat := 0x1C000C
abbrev DRC_REF_CFG : Nat := 0x1C0010
abbrev DRC_SCHED_CFG : Nat := 0x1C0014
abbrev DRC_SCRUB_CFG : Nat := 0x1C0018
abbrev DRC_SCRUB_STATUS : Nat := 0x1C001C
abbrev DRC_FREEZE_CAUSE : Nat := 0x1C0020
abbrev DRC_FREEZE_INFO : Nat := 0x1C0024
abbrev DRC_FREEZE_ADDR_LO : Nat := 0x1C0028
abbrev DRC_FREEZE_ADDR_HI : Nat := 0x1C002C
abbrev DRC_PORT_CFG0 : Nat := 0x1C0100
abbrev DRC_PORT_CFG2 : Nat := 0x1C0110
abbrev DRC_PORT_CFG3 : Nat := 0x1C0118
abbrev DRC_PORT_CFG5 : Nat := 0x1C0128
abbrev DRC_PORT_CFG6 : Nat := 0x1C0130
abbrev DRC_PORT_CFG7 : Nat := 0x1C0138
abbrev DRC_PORT_CFG8 : Nat := 0x1C0140
abbrev DRC_PORT_CFG10 : Nat := 0x1C0150
abbrev DRC_PORT_CFG11 : Nat := 0x1C0158
abbrev DRC_PORT_STATUS : Nat := 0x1C0104
abbrev DRC_CH_STATUS : Nat := 0x1C0400
abbrev DRC_CH_CNT_CE : Nat := 0x1C0404
abbrev DRC_CH_CNT_FWD : Nat := 0x1C0408
abbrev DRC_CH_CNT_ROWHIT : Nat := 0x1C040C
abbrev DRC_CH_CNT_ACT : Nat := 0x1C0410
abbrev DRC_CH_CNT_NR : Nat := 0x1C0414
abbrev DRC_CH_CNT_REF : Nat := 0x1C0418
abbrev DRC_CH_CNT_WB : Nat := 0x1C041C
abbrev NTL_CTRL : Nat := 0x200000
abbrev NTL_STATUS : Nat := 0x200004
abbrev NTL_GEOM : Nat := 0x200008
abbrev NTL_FORMAT : Nat := 0x20000C
abbrev NTL_CAP_LO : Nat := 0x200010
abbrev NTL_CAP_HI : Nat := 0x200014
abbrev NTL_MAPPED_LO : Nat := 0x200018
abbrev NTL_MAPPED_HI : Nat := 0x20001C
abbrev NTL_SLC : Nat := 0x200020
abbrev NTL_GC_CFG : Nat := 0x200024
abbrev NTL_CKPT_CFG : Nat := 0x200028
abbrev NTL_READ_CFG : Nat := 0x20002C
abbrev NTL_SCAN_CFG : Nat := 0x200030
abbrev NTL_WEAR_CFG : Nat := 0x200034
abbrev NTL_SPARE_CFG : Nat := 0x200038
abbrev NTL_HEALTH : Nat := 0x20003C
abbrev NTL_EW : Nat := 0x200040
abbrev NTL_EW_CFG : Nat := 0x200044
abbrev NTL_TEMP : Nat := 0x200048
abbrev NTL_ITER : Nat := 0x20004C
abbrev NTL_CBH : Nat := 0x200080
abbrev NTL_TEMP_MIN : Nat := 0x2000A0
abbrev NTL_CNT_READ : Nat := 0x2000C0
abbrev NTL_CNT_SOFT : Nat := 0x2000C4
abbrev NTL_CNT_RETRY : Nat := 0x2000C8
abbrev NTL_CNT_REBUILD : Nat := 0x2000CC
abbrev NTL_CNT_TWIN_REPAIR : Nat := 0x2000D0
abbrev NTL_CNT_UE : Nat := 0x2000D4
abbrev NTL_CNT_PROG_FAIL : Nat := 0x2000D8
abbrev NTL_CNT_ERASE_FAIL : Nat := 0x2000DC
abbrev NTL_CH_STATUS : Nat := 0x200400
abbrev NTL_CH_DIE_FAIL_LO : Nat := 0x200404
abbrev NTL_CH_DIE_FAIL_HI : Nat := 0x200408
abbrev DUR_STATUS : Nat := 0x240000
abbrev DUR_PB_CFG : Nat := 0x240004
abbrev DUR_PB_STATUS : Nat := 0x240008
abbrev DUR_PB_MIRROR : Nat := 0x24000C
abbrev DUR_EPOCH : Nat := 0x240010
abbrev DUR_FLUSH_STATUS : Nat := 0x240014
abbrev DUR_INTENT_STATUS : Nat := 0x240018
abbrev DUR_JOURNAL_STATUS : Nat := 0x24001C
abbrev DUR_META_CFG : Nat := 0x240020
abbrev DUR_RECOVERY : Nat := 0x240024
abbrev DUR_QP_SEL : Nat := 0x240040
abbrev DUR_QP_ACC : Nat := 0x240044
abbrev DUR_QP_PLC : Nat := 0x240048
abbrev DUR_QP_MIR : Nat := 0x24004C
abbrev DUR_CNT_ACCEPTED : Nat := 0x240080
abbrev DUR_CNT_PLACED : Nat := 0x240084
abbrev DUR_CNT_MIRRORED : Nat := 0x240088
abbrev DUR_CNT_MIRROR_RX : Nat := 0x24008C
abbrev DUR_CNT_FWD : Nat := 0x240090
abbrev DUR_CNT_MERGE : Nat := 0x240094
abbrev DUR_CNT_ADMIT_DEFER : Nat := 0x240098
abbrev DUR_CNT_FLUSH : Nat := 0x24009C
abbrev DUR_CNT_INTENT : Nat := 0x2400A0
abbrev DUR_CNT_REPEAT : Nat := 0x2400A4
abbrev TWN_CTRL : Nat := 0x260000
abbrev TWN_STATUS : Nat := 0x260004
abbrev TWN_SOLO_DELAY : Nat := 0x260008
abbrev TWN_FLUSH_LIMIT : Nat := 0x26000C
abbrev TWN_LINK_CFG : Nat := 0x260010
abbrev TWN_LINK_STATUS : Nat := 0x260014
abbrev TWN_RESYNC_STATUS : Nat := 0x260018
abbrev TWN_RESYNC_LEFT : Nat := 0x26001C
abbrev TWN_LAST_EVENT : Nat := 0x260020
abbrev TWN_TAKEOVER_TIME : Nat := 0x260024
abbrev TWN_LAST_TICK_LO : Nat := 0x260028
abbrev TWN_LAST_TICK_HI : Nat := 0x26002C
abbrev TWN_CNT_HB_RX : Nat := 0x260040
abbrev TWN_CNT_REPLAY : Nat := 0x260044
abbrev TWN_CNT_SB_GLITCH : Nat := 0x260048
abbrev TWN_CNT_TAKEOVER : Nat := 0x26004C
abbrev TWN_CNT_RETURN : Nat := 0x260050
abbrev TWN_CNT_SOLO : Nat := 0x260054
abbrev TWN_CNT_SOLO_TICKS : Nat := 0x260058
abbrev TWN_CNT_NOTICE : Nat := 0x26005C
abbrev INT_CTRL : Nat := 0x280000
abbrev INT_STATUS : Nat := 0x280004
abbrev INT_FIRST_FAULT : Nat := 0x280008
abbrev INT_LAST_FAULT : Nat := 0x28000C
abbrev INT_FIRST_TICK_LO : Nat := 0x280010
abbrev INT_FIRST_TICK_HI : Nat := 0x280014
abbrev INT_ESC_CFG : Nat := 0x280018
abbrev INT_SCRUB_CFG : Nat := 0x28001C
abbrev INT_SCRUB_STATUS : Nat := 0x280020
abbrev INT_BIST_STATUS : Nat := 0x280024
abbrev INT_INJECT : Nat := 0x280028
abbrev INT_CNT_CE : Nat := 0x280040
abbrev INT_CNT_UE : Nat := 0x280044
abbrev INT_CNT_NOTE : Nat := 0x280048
abbrev INT_CNT_CONTAIN : Nat := 0x28004C
abbrev INT_CNT_YIELD : Nat := 0x280050
abbrev INT_CNT_DET_TEST : Nat := 0x280054
abbrev SEC_STATUS : Nat := 0x2A0000
abbrev SEC_BOOT_STATUS : Nat := 0x2A0004
abbrev SEC_CTRL : Nat := 0x2A0008
abbrev SEC_PERMS : Nat := 0x2A000C
abbrev SEC_NONCE : Nat := 0x2A0020
abbrev SEC_ATT_PUB : Nat := 0x2A0040
abbrev SEC_MBOX_CTRL : Nat := 0x2A0080
abbrev SEC_MBOX : Nat := 0x2A0100
abbrev SEC_KE_STATUS : Nat := 0x2A0200
abbrev EFL_CTRL : Nat := 0x2C0000
abbrev EFL_ADDR : Nat := 0x2C0004
abbrev EFL_STATUS : Nat := 0x2C0008
abbrev EFL_ERASE_PROGRESS : Nat := 0x2C000C
abbrev EFL_WP : Nat := 0x2C0010
abbrev EFL_ECC_STATUS : Nat := 0x2C0014
abbrev EFL_CNT_CE : Nat := 0x2C0018
abbrev EFL_CNT_UE : Nat := 0x2C001C
abbrev EFL_RD_ADDR : Nat := 0x2C0020
abbrev EFL_RD_DATA_LO : Nat := 0x2C0024
abbrev EFL_RD_DATA_HI : Nat := 0x2C0028
abbrev EFL_ROW : Nat := 0x2C0040
abbrev SEQ_CTRL : Nat := 0x2D0000
abbrev SEQ_STATUS : Nat := 0x2D0004
abbrev SEQ_CAUSE : Nat := 0x2D0008
abbrev SEQ_EN_STATE : Nat := 0x2D000C
abbrev SEQ_PG_STATE : Nat := 0x2D0010
abbrev SEQ_TIME : Nat := 0x2D0014
abbrev SEQ_SLOT_CFG : Nat := 0x2D0100
abbrev SEQ_SLOT_ON : Nat := 0x2D0104
abbrev SEQ_SLOT_OFF : Nat := 0x2D0108
abbrev SEQ_SLOT_PG : Nat := 0x2D010C
abbrev SEQ_SLOT_CFG1 : Nat := 0x2D0110
abbrev SEQ_SLOT_ON1 : Nat := 0x2D0114
abbrev SEQ_SLOT_OFF1 : Nat := 0x2D0118
abbrev SEQ_SLOT_PG1 : Nat := 0x2D011C
abbrev SEQ_SLOT_CFG2 : Nat := 0x2D0120
abbrev SEQ_SLOT_ON2 : Nat := 0x2D0124
abbrev SEQ_SLOT_OFF2 : Nat := 0x2D0128
abbrev SEQ_SLOT_PG2 : Nat := 0x2D012C
abbrev SEQ_SLOT_CFG3 : Nat := 0x2D0130
abbrev SEQ_SLOT_ON3 : Nat := 0x2D0134
abbrev SEQ_SLOT_OFF3 : Nat := 0x2D0138
abbrev SEQ_SLOT_PG3 : Nat := 0x2D013C
abbrev SEQ_SLOT_CFG6 : Nat := 0x2D0160
abbrev SEQ_SLOT_ON6 : Nat := 0x2D0164
abbrev SEQ_SLOT_OFF6 : Nat := 0x2D0168
abbrev SEQ_SLOT_PG6 : Nat := 0x2D016C
abbrev SEQ_SLOT_CFG7 : Nat := 0x2D0170
abbrev SEQ_SLOT_ON7 : Nat := 0x2D0174
abbrev SEQ_SLOT_OFF7 : Nat := 0x2D0178
abbrev SEQ_SLOT_PG7 : Nat := 0x2D017C
abbrev SEQ_SLOT_CFG10 : Nat := 0x2D01A0
abbrev SEQ_SLOT_ON10 : Nat := 0x2D01A4
abbrev SEQ_SLOT_OFF10 : Nat := 0x2D01A8
abbrev SEQ_SLOT_PG10 : Nat := 0x2D01AC
abbrev TWB_CTRL : Nat := 0x2E0000
abbrev TWB_CFG : Nat := 0x2E0004
abbrev TWB_CMD : Nat := 0x2E0008
abbrev TWB_STATUS : Nat := 0x2E000C
abbrev TWB_CNT : Nat := 0x2E0010
abbrev TWB_BUF : Nat := 0x2E0040
abbrev TWB_TWT_CFG : Nat := 0x2E0300
abbrev TWB_TWT_STATUS : Nat := 0x2E0304
abbrev TWB_TWT_MBOX_CTRL : Nat := 0x2E0308
abbrev TWB_TWT_MBOX_REQ : Nat := 0x2E0320
abbrev TWB_TWT_MBOX_RESP : Nat := 0x2E0340
abbrev CAL_CTRL : Nat := 0x2F0000
abbrev CAL_CFG : Nat := 0x2F0004
abbrev CAL_STATUS : Nat := 0x2F0008
abbrev CAL_DST : Nat := 0x2F000C
abbrev CAL_SEL : Nat := 0x2F0010
abbrev CAL_QUAL : Nat := 0x2F0014
abbrev CAL_REF_STATUS : Nat := 0x2F0018
abbrev SNS_STATUS : Nat := 0x300000
abbrev SNS_TEMP : Nat := 0x300040
abbrev SNS_VOLT : Nat := 0x300080
abbrev SNS_THRESH : Nat := 0x300100
abbrev EVR_STATUS : Nat := 0x310000
abbrev EVR_SEQ_NEXT : Nat := 0x310004
abbrev EVR_CURSOR : Nat := 0x310008
abbrev EVR_FW_TRIG : Nat := 0x31000C
abbrev EVR_CNT_RECORDS : Nat := 0x310010
abbrev EVR_TRIG_CFG : Nat := 0x310080
abbrev EVR_WIN : Nat := 0x310100
abbrev EVR_LIST : Nat := 0x311000
abbrev CTL_STATUS : Nat := 0x320000
abbrev CTL_ERR : Nat := 0x320004
abbrev CTL_ERR_ADDR : Nat := 0x320008
abbrev CTL_NOTIFY_DROP : Nat := 0x32000C
abbrev CTL_DMA_CTRL : Nat := 0x320010
abbrev CTL_DMA_STATUS : Nat := 0x320040
abbrev CTL_RING0_CFG : Nat := 0x320100
abbrev CTL_RING_CFG : Nat := 0x320140
abbrev CTL_RING_STATUS : Nat := 0x320104
abbrev CTL_RING_SQ_BASE_LO : Nat := 0x320148
abbrev CTL_RING_SQ_BASE_HI : Nat := 0x32014C
abbrev CTL_RING_CQ_BASE_LO : Nat := 0x320110
abbrev CTL_RING_CQ_BASE_HI : Nat := 0x320114
abbrev CTL_RING_SQ_TAIL : Nat := 0x320158
abbrev CTL_RING_SQ_HEAD : Nat := 0x32015C
abbrev CTL_RING_CQ_TAIL : Nat := 0x320120
abbrev CTL_RING_CQ_HEAD : Nat := 0x320124

/-- The registers of block TOP (R19's index and the field tables of its chapter). -/
def regsTOP : List RegDesc := [
  ⟨TOP_CHIP_ID, 1, 0, 1, 0, 0x0, 0x0, 0xFFFFFF00, 0x0, 0x0, 0x0, 0x7420B000⟩,
  ⟨TOP_STRAP, 1, 0, 1, 0, 0x0, 0x0, 0x7, 0x0, 0x0, 0x0, 0x0⟩,
  ⟨TOP_RST_CAUSE, 1, 0, 1, 0, 0x0, 0x0, 0x2, 0x1D, 0x0, 0x0, 0x1⟩,
  ⟨TOP_IDCODE, 1, 0, 1, 0, 0x0, 0x0, 0xFFFFFFFF, 0x0, 0x0, 0x0, 0x174205CB⟩,
  ⟨TOP_DEVICE_ID, 4, 4, 1, 0, 0x0, 0x0, 0xFFFFFFFF, 0x0, 0x0, 0x0, 0x0⟩]

/-- The registers of block TCK (R19's index and the field tables of its chapter). -/
def regsTCK : List RegDesc := [
  ⟨TCK_CTRL, 1, 0, 1, 0, 0x1F0, 0x100, 0x0, 0x0, 0x1, 0x0, 0x80⟩,
  ⟨TCK_STATUS, 1, 0, 1, 0, 0x0, 0x0, 0xFF3F, 0xC0, 0x0, 0x0, 0x0⟩,
  ⟨TCK_TICK_LO, 1, 0, 1, 0, 0x0, 0x0, 0xFFFFFFFF, 0x0, 0x0, 0x0, 0x0⟩,
  ⟨TCK_TICK_HI, 1, 0, 1, 0, 0x0, 0x0, 0xFFFFFFFF, 0x0, 0x0, 0x0, 0x0⟩,
  ⟨TCK_FRAME, 1, 0, 1, 0, 0x0, 0x0, 0xFFFFFFF, 0x0, 0x0, 0x0, 0x0⟩,
  ⟨TCK_MINUTE, 1, 0, 1, 0, 0x0, 0x0, 0xFFFFFFFF, 0x0, 0x0, 0x0, 0x0⟩,
  ⟨TCK_LOAD_LO, 1, 0, 1, 0, 0xFFFFFFFF, 0xFFFFFFFF, 0x0, 0x0, 0x0, 0x0, 0x0⟩,
  ⟨TCK_LOAD_HI, 1, 0, 1, 0, 0xFFFFFFFF, 0xFFFFFFFF, 0x0, 0x0, 0x0, 0x0, 0x0⟩,
  ⟨TCK_PPS_PHASE, 1, 0, 1, 0, 0x0, 0x0, 0xFFFFFFFF, 0x0, 0x0, 0x0, 0x0⟩,
  ⟨TCK_TWIN_OFFSET, 1, 0, 1, 0, 0x0, 0x0, 0xFFFFFFFF, 0x0, 0x0, 0x0, 0x0⟩,
  ⟨TCK_PPS_CFG, 1, 0, 1, 0, 0xFFFF, 0x0, 0x0, 0x0, 0x0, 0x0, 0x340⟩,
  ⟨TCK_SHARE_CFG, 1, 0, 1, 0, 0x1F, 0x0, 0x0, 0x0, 0x0, 0x0, 0x4⟩,
  ⟨TCK_URGENCY_CHIP, 1, 0, 1, 0, 0x0, 0x0, 0x3, 0x0, 0x0, 0x0, 0x0⟩,
  ⟨TCK_URGENCY_LO, 1, 0, 1, 0, 0x0, 0x0, 0xFFFFFFFF, 0x0, 0x0, 0x0, 0x0⟩,
  ⟨TCK_URGENCY_HI, 1, 0, 1, 0, 0x0, 0x0, 0xFFFFFFFF, 0x0, 0x0, 0x0, 0x0⟩,
  ⟨TCK_SLOT_ERR, 3, 4, 1, 0, 0x0, 0x0, 0x0, 0xFFFFFFFF, 0x0, 0x0, 0x0⟩,
  ⟨TCK_LUNGO_TGT, 32, 4, 1, 0, 0xFFFF, 0x0, 0x0, 0x0, 0x0, 0x0, 0x1E⟩,
  ⟨TCK_SLOT_STG, 81, 16, 1, 0, 0xFFFFFFFF, 0x0, 0x0, 0x0, 0x0, 0x0, 0x55555555⟩,
  ⟨TCK_SLOT_STG1, 81, 16, 1, 0, 0xFFFFFFFF, 0x0, 0x0, 0x0, 0x0, 0x0, 0x55555555⟩,
  ⟨TCK_SLOT_STG2, 81, 16, 1, 0, 0xFFFFFFFF, 0x0, 0x0, 0x0, 0x0, 0x0, 0x55555555⟩,
  ⟨TCK_SLOT_STG3, 81, 16, 1, 0, 0xFFFFFFFF, 0x0, 0x0, 0x0, 0x0, 0x0, 0xFAAA5555⟩,
  ⟨TCK_SLOT_EFF, 81, 16, 1, 0, 0x0, 0x0, 0xFFFFFFFF, 0x0, 0x0, 0x0, 0x55555555⟩,
  ⟨TCK_SLOT_EFF1, 81, 16, 1, 0, 0x0, 0x0, 0xFFFFFFFF, 0x0, 0x0, 0x0, 0x55555555⟩,
  ⟨TCK_SLOT_EFF2, 81, 16, 1, 0, 0x0, 0x0, 0xFFFFFFFF, 0x0, 0x0, 0x0, 0x55555555⟩,
  ⟨TCK_SLOT_EFF3, 81, 16, 1, 0, 0x0, 0x0, 0xFFFFFFFF, 0x0, 0x0, 0x0, 0xFAAA5555⟩]

/-- The registers of block PWR (R19's index and the field tables of its chapter). -/
def regsPWR : List RegDesc := [
  ⟨PWR_CTRL, 1, 0, 1, 0, 0x7, 0x7, 0x0, 0x0, 0x0, 0x80000000, 0x0⟩,
  ⟨PWR_STATUS, 1, 0, 1, 0, 0x0, 0x0, 0xFF800000, 0x0, 0x0, 0x0, 0x0⟩,
  ⟨PWR_TRIM_ENG_LO, 1, 0, 1, 0, 0xFFFFFFFF, 0xFFFFFFFF, 0x0, 0x0, 0x0, 0x0, 0x0⟩,
  ⟨PWR_TRIM_ENG_HI, 1, 0, 1, 0, 0xFFFFFFFF, 0xFFFFFFFF, 0x0, 0x0, 0x0, 0x0, 0x0⟩,
  ⟨PWR_TRIM_IO, 1, 0, 1, 0, 0x1FF, 0x1FF, 0x0, 0x0, 0x0, 0x0, 0x0⟩,
  ⟨PWR_WAKE, 1, 0, 1, 0, 0x30000, 0x30000, 0x3, 0x0, 0x0, 0x0, 0x30000⟩]

/-- The registers of block PRT (R19's index and the field tables of its chapter). -/
def regsPRT : List RegDesc := [
  ⟨PRT_MODE, 8, 4096, 1, 0, 0x13, 0x0, 0x0, 0x0, 0x0, 0x0, 0x10⟩,
  ⟨PRT_STATUS, 8, 4096, 1, 0, 0x0, 0x0, 0xFFFFF, 0x0, 0x0, 0x0, 0x0⟩,
  ⟨PRT_PRI_MAP, 8, 4096, 1, 0, 0x3FF, 0x0, 0x0, 0x0, 0x0, 0x0, 0x55⟩,
  ⟨PRT_DSCP_MAP, 8, 4096, 1, 0, 0x3F3F3F, 0x0, 0x0, 0x0, 0x0, 0x0, 0x81A2E⟩,
  ⟨PRT_PFC_CFG, 8, 4096, 1, 0, 0xFFFF, 0x0, 0x0, 0x0, 0x0, 0x0, 0x6FF⟩,
  ⟨PRT_PFC_THRESH, 8, 4096, 1, 0, 0x3FF03FF, 0x0, 0x0, 0x0, 0x0, 0x0, 0x3000200⟩,
  ⟨PRT_MISS_CFG, 8, 4096, 1, 0, 0x3FF, 0x0, 0x0, 0x0, 0x0, 0x0, 0x300⟩,
  ⟨PRT_MISS_STATUS, 8, 4096, 1, 0, 0x0, 0x0, 0x3FF, 0x0, 0x0, 0x0, 0x0⟩,
  ⟨PRT_DROP_OTHER, 8, 4096, 1, 0, 0x0, 0x0, 0xFFFFFFFF, 0x0, 0x0, 0x0, 0x0⟩,
  ⟨PRT_DROP_CRC, 8, 4096, 1, 0, 0x0, 0x0, 0xFFFFFFFF, 0x0, 0x0, 0x0, 0x0⟩,
  ⟨PRT_DROP_FULL, 8, 4096, 1, 0, 0x0, 0x0, 0xFFFFFFFF, 0x0, 0x0, 0x0, 0x0⟩,
  ⟨PRT_RNR_SENT, 8, 4096, 1, 0, 0x0, 0x0, 0xFFFFFFFF, 0x0, 0x0, 0x0, 0x0⟩,
  ⟨PRT_TS_CFG, 8, 4096, 1, 0, 0x3FFFFFF, 0x0, 0x0, 0x0, 0x0, 0x0, 0x0⟩,
  ⟨PRT_TS_WIDX, 8, 4096, 1, 0, 0x0, 0x0, 0xFFFF000F, 0x0, 0x0, 0x0, 0x0⟩,
  ⟨PRT_TS_ENTRY0, 8, 4096, 16, 16, 0x0, 0x0, 0xFFFFFFFF, 0x0, 0x0, 0x0, 0x0⟩,
  ⟨PRT_TS_ENTRY1, 8, 4096, 16, 16, 0x0, 0x0, 0xFC0007FF, 0x0, 0x0, 0x0, 0x0⟩,
  ⟨PRT_TS_ENTRY2, 8, 4096, 16, 16, 0x0, 0x0, 0xFFFFFFFF, 0x0, 0x0, 0x0, 0x0⟩,
  ⟨PRT_TS_ENTRY3, 8, 4096, 16, 16, 0x0, 0x0, 0x0, 0x0, 0x0, 0x0, 0x0⟩,
  ⟨PRT_LP_MAC_LO, 32, 64, 1, 0, 0xFFFFFFFF, 0x0, 0x0, 0x0, 0x0, 0x0, 0x0⟩,
  ⟨PRT_LP_MAC_HI, 32, 64, 1, 0, 0xFFFF, 0x0, 0x0, 0x0, 0x0, 0x0, 0x0⟩,
  ⟨PRT_LP_IPV4, 32, 64, 1, 0, 0xFFFFFFFF, 0x0, 0x0, 0x0, 0x0, 0x0, 0x0⟩,
  ⟨PRT_LP_IPV6, 32, 64, 4, 4, 0xFFFFFFFF, 0x0, 0x0, 0x0, 0x0, 0x0, 0x0⟩,
  ⟨PRT_LP_CFG, 32, 64, 1, 0, 0x7FFF, 0x0, 0x0, 0x0, 0x0, 0x0, 0x0⟩]

/-- The registers of block TRN (R19's index and the field tables of its chapter). -/
def regsTRN : List RegDesc := [
  ⟨TRN_CTRL, 1, 0, 1, 0, 0x1, 0x0, 0x0, 0x0, 0x0, 0x0, 0x1⟩,
  ⟨TRN_STATUS, 1, 0, 1, 0, 0x0, 0x0, 0x3, 0x0, 0x0, 0x0, 0x0⟩,
  ⟨TRN_OPT_CFG, 1, 0, 1, 0, 0x1FFFF, 0x0, 0x0, 0x0, 0x0, 0x0, 0x1000⟩,
  ⟨TRN_OPT_STATUS, 1, 0, 1, 0, 0x0, 0x0, 0x1FFFF, 0x0, 0x0, 0x0, 0x0⟩,
  ⟨TRN_CC_CFG, 1, 0, 1, 0, 0xFFFFFFFF, 0x0, 0x0, 0x0, 0x0, 0x0, 0x8800096⟩,
  ⟨TRN_CC_CFG2, 1, 0, 1, 0, 0x1FFFFFF, 0x0, 0x0, 0x0, 0x0, 0x0, 0x104012C⟩,
  ⟨TRN_CNT_HIT, 1, 0, 1, 0, 0x0, 0x0, 0xFFFFFFFF, 0x0, 0x0, 0x0, 0x0⟩,
  ⟨TRN_CNT_MISS, 1, 0, 1, 0, 0x0, 0x0, 0xFFFFFFFF, 0x0, 0x0, 0x0, 0x0⟩,
  ⟨TRN_CNT_EVICT_CANCEL, 1, 0, 1, 0, 0x0, 0x0, 0xFFFFFFFF, 0x0, 0x0, 0x0, 0x0⟩,
  ⟨TRN_CNT_SEQ_NAK, 1, 0, 1, 0, 0x0, 0x0, 0xFFFFFFFF, 0x0, 0x0, 0x0, 0x0⟩,
  ⟨TRN_CNT_DUP, 1, 0, 1, 0, 0x0, 0x0, 0xFFFFFFFF, 0x0, 0x0, 0x0, 0x0⟩,
  ⟨TRN_CNT_CNP_TX, 1, 0, 1, 0, 0x0, 0x0, 0xFFFFFFFF, 0x0, 0x0, 0x0, 0x0⟩,
  ⟨TRN_CNT_CNP_RX, 1, 0, 1, 0, 0x0, 0x0, 0xFFFFFFFF, 0x0, 0x0, 0x0, 0x0⟩,
  ⟨TRN_CNT_RETX, 1, 0, 1, 0, 0x0, 0x0, 0xFFFFFFFF, 0x0, 0x0, 0x0, 0x0⟩]

/-- The registers of block WIN (R19's index and the field tables of its chapter). -/
def regsWIN : List RegDesc := [
  ⟨WIN_STATUS, 1, 0, 1, 0, 0x0, 0x0, 0x1, 0x0, 0x0, 0x0, 0x0⟩,
  ⟨WIN_OPEN_COUNT, 1, 0, 1, 0, 0x0, 0x0, 0x1FFFFFF, 0x0, 0x0, 0x0, 0x0⟩,
  ⟨WIN_PIN_COUNT, 1, 0, 1, 0, 0x0, 0x0, 0x7FFF, 0x0, 0x0, 0x0, 0x0⟩,
  ⟨WIN_CLOSING, 1, 0, 1, 0, 0x0, 0x0, 0xFFFF, 0x0, 0x0, 0x0, 0x0⟩,
  ⟨WIN_LAST_REF_KEY, 1, 0, 1, 0, 0x0, 0x0, 0xFFFFFFFF, 0x0, 0x0, 0x0, 0x0⟩,
  ⟨WIN_LAST_REF_INFO, 1, 0, 1, 0, 0x0, 0x0, 0xFFFFFFFF, 0x0, 0x0, 0x0, 0x0⟩,
  ⟨WIN_CNT_KC_HIT, 1, 0, 1, 0, 0x0, 0x0, 0xFFFFFFFF, 0x0, 0x0, 0x0, 0x0⟩,
  ⟨WIN_CNT_KC_MISS, 1, 0, 1, 0, 0x0, 0x0, 0xFFFFFFFF, 0x0, 0x0, 0x0, 0x0⟩,
  ⟨WIN_CNT_REF_INVALID, 1, 0, 1, 0, 0x0, 0x0, 0xFFFFFFFF, 0x0, 0x0, 0x0, 0x0⟩,
  ⟨WIN_CNT_REF_STALE, 1, 0, 1, 0, 0x0, 0x0, 0xFFFFFFFF, 0x0, 0x0, 0x0, 0x0⟩,
  ⟨WIN_CNT_REF_REVOKED, 1, 0, 1, 0, 0x0, 0x0, 0xFFFFFFFF, 0x0, 0x0, 0x0, 0x0⟩,
  ⟨WIN_CNT_REF_TENANT, 1, 0, 1, 0, 0x0, 0x0, 0xFFFFFFFF, 0x0, 0x0, 0x0, 0x0⟩,
  ⟨WIN_CNT_REF_RIGHTS, 1, 0, 1, 0, 0x0, 0x0, 0xFFFFFFFF, 0x0, 0x0, 0x0, 0x0⟩,
  ⟨WIN_CNT_REF_BOUNDS, 1, 0, 1, 0, 0x0, 0x0, 0xFFFFFFFF, 0x0, 0x0, 0x0, 0x0⟩,
  ⟨WIN_CNT_REF_HOME, 1, 0, 1, 0, 0x0, 0x0, 0xFFFFFFFF, 0x0, 0x0, 0x0, 0x0⟩]

/-- The registers of block TEN (R19's index and the field tables of its chapter). -/
def regsTEN : List RegDesc := [
  ⟨TEN_STATUS, 1, 0, 1, 0, 0x0, 0x0, 0x7FFF, 0x0, 0x0, 0x0, 0x0⟩,
  ⟨TEN_BATCH_CFG, 1, 0, 1, 0, 0x1FF, 0x0, 0x0, 0x0, 0x0, 0x0, 0x10⟩,
  ⟨TEN_BATCH_BASE_LO, 1, 0, 1, 0, 0xFFFF0000, 0x0, 0x0, 0x0, 0x0, 0x0, 0x0⟩,
  ⟨TEN_BATCH_BASE_HI, 1, 0, 1, 0, 0xFF, 0x0, 0x0, 0x0, 0x0, 0x0, 0x0⟩,
  ⟨TEN_BATCH_WR, 1, 0, 1, 0, 0x0, 0x0, 0xFF, 0x0, 0x0, 0x0, 0x0⟩,
  ⟨TEN_BATCH_RD, 1, 0, 1, 0, 0xFF, 0x0, 0x0, 0x0, 0x0, 0x0, 0x0⟩,
  ⟨TEN_BATCH_SEQ_LO, 1, 0, 1, 0, 0x0, 0x0, 0xFFFFFFFF, 0x0, 0x0, 0x0, 0x0⟩,
  ⟨TEN_BATCH_SEQ_HI, 1, 0, 1, 0, 0x0, 0x0, 0xFFFFFFFF, 0x0, 0x0, 0x0, 0x0⟩,
  ⟨TEN_METER_SEL, 1, 0, 1, 0, 0xFFF, 0x0, 0x0, 0x0, 0x0, 0x0, 0x0⟩,
  ⟨TEN_METER_VAL_LO, 6, 8, 1, 0, 0x0, 0x0, 0xFFFFFFFF, 0x0, 0x0, 0x0, 0x0⟩,
  ⟨TEN_METER_VAL_HI, 6, 8, 1, 0, 0x0, 0x0, 0xFFFFFFFF, 0x0, 0x0, 0x0, 0x0⟩]

/-- The registers of block CLE (R19's index and the field tables of its chapter). -/
def regsCLE : List RegDesc := [
  ⟨CLE_STATUS, 1, 0, 1, 0, 0x0, 0x0, 0x7FFF7F, 0x0, 0x0, 0x0, 0x0⟩,
  ⟨CLE_FENCED_LO, 1, 0, 1, 0, 0x0, 0x0, 0xFFFFFFFF, 0x0, 0x0, 0x0, 0x0⟩,
  ⟨CLE_FENCED_HI, 1, 0, 1, 0, 0x0, 0x0, 0xFFFFFFFF, 0x0, 0x0, 0x0, 0x0⟩,
  ⟨CLE_GATED_LO, 1, 0, 1, 0, 0x0, 0x0, 0xFFFFFFFF, 0x0, 0x0, 0x0, 0x0⟩,
  ⟨CLE_GATED_HI, 1, 0, 1, 0, 0x0, 0x0, 0xFFFFFFFF, 0x0, 0x0, 0x0, 0x0⟩,
  ⟨CLE_FRAME_CFG, 1, 0, 1, 0, 0x3FF, 0x0, 0x0, 0x0, 0x0, 0x0, 0x80⟩,
  ⟨CLE_FRAME_USE, 8, 4, 1, 0, 0x0, 0x0, 0x7FF07FF, 0x0, 0x0, 0x0, 0x0⟩,
  ⟨CLE_IMAGE_SEL, 1, 0, 1, 0, 0x3F, 0x3F, 0x0, 0x0, 0x0, 0x0, 0x0⟩,
  ⟨CLE_IMAGE_INFO, 1, 0, 1, 0, 0x0, 0x0, 0xC0FFF07F, 0x0, 0x0, 0x0, 0x0⟩,
  ⟨CLE_IMAGE_ID, 1, 0, 1, 0, 0x0, 0x0, 0xFFFFFFFF, 0x0, 0x0, 0x0, 0x0⟩,
  ⟨CLE_IMAGE_VERSION, 1, 0, 1, 0, 0x0, 0x0, 0xFFFFFFFF, 0x0, 0x0, 0x0, 0x0⟩,
  ⟨CLE_IMAGE_BOUND, 1, 0, 1, 0, 0x0, 0x0, 0x1FFFF, 0x0, 0x0, 0x0, 0x0⟩,
  ⟨CLE_STORE_STATUS, 1, 0, 1, 0, 0x0, 0x0, 0x1FFF3FFF, 0x0, 0x0, 0x0, 0x10002000⟩,
  ⟨CLE_LAST_TRAP, 1, 0, 1, 0, 0x0, 0x0, 0xFFFF01FF, 0x0, 0x0, 0x0, 0x0⟩,
  ⟨CLE_LAST_TRAP_PC, 1, 0, 1, 0, 0x0, 0x0, 0xFC01FFFF, 0x0, 0x0, 0x0, 0x0⟩,
  ⟨CLE_CNT_DISPATCH, 1, 0, 1, 0, 0x0, 0x0, 0xFFFFFFFF, 0x0, 0x0, 0x0, 0x0⟩,
  ⟨CLE_CNT_COMMIT, 1, 0, 1, 0, 0x0, 0x0, 0xFFFFFFFF, 0x0, 0x0, 0x0, 0x0⟩,
  ⟨CLE_CNT_ABORT, 1, 0, 1, 0, 0x0, 0x0, 0xFFFFFFFF, 0x0, 0x0, 0x0, 0x0⟩,
  ⟨CLE_CNT_OVERRUN, 1, 0, 1, 0, 0x0, 0x0, 0xFFFFFFFF, 0x0, 0x0, 0x0, 0x0⟩,
  ⟨CLE_CNT_RESTART, 1, 0, 1, 0, 0x0, 0x0, 0xFFFFFFFF, 0x0, 0x0, 0x0, 0x0⟩,
  ⟨CLE_CNT_TRAP, 1, 0, 1, 0, 0x0, 0x0, 0xFFFFFFFF, 0x0, 0x0, 0x0, 0x0⟩,
  ⟨CLE_CNT_COMMIT_DEFER, 1, 0, 1, 0, 0x0, 0x0, 0xFFFFFFFF, 0x0, 0x0, 0x0, 0x0⟩]

/-- The registers of block STG (R19's index and the field tables of its chapter). -/
def regsSTG : List RegDesc := [
  ⟨STG_CFG, 1, 0, 1, 0, 0xFF07, 0x0, 0x0, 0x0, 0x0, 0x0, 0x2001⟩,
  ⟨STG_LATE_LIMIT, 1, 0, 1, 0, 0xFFFFFF, 0x0, 0x0, 0x0, 0x0, 0x0, 0xBB8⟩,
  ⟨STG_STATUS, 1, 0, 1, 0, 0x0, 0x0, 0x1007F, 0x0, 0x0, 0x0, 0x0⟩,
  ⟨STG_TEN_SEL, 1, 0, 1, 0, 0xFFF, 0xFFF, 0x0, 0x0, 0x0, 0x0, 0x0⟩,
  ⟨STG_TEN_USE, 1, 0, 1, 0, 0x0, 0x0, 0x1FFF1FFF, 0x0, 0x0, 0x0, 0x0⟩,
  ⟨STG_POOL, 8, 4, 1, 0, 0x0, 0x0, 0x3FFFFFFF, 0x0, 0x0, 0x0, 0x20000000⟩,
  ⟨STG_CNT_FILL, 1, 0, 1, 0, 0x0, 0x0, 0xFFFFFFFF, 0x0, 0x0, 0x0, 0x0⟩,
  ⟨STG_CNT_EVICT, 1, 0, 1, 0, 0x0, 0x0, 0xFFFFFFFF, 0x0, 0x0, 0x0, 0x0⟩,
  ⟨STG_CNT_REFETCH, 1, 0, 1, 0, 0x0, 0x0, 0xFFFFFFFF, 0x0, 0x0, 0x0, 0x0⟩,
  ⟨STG_CNT_LATE, 1, 0, 1, 0, 0x0, 0x0, 0xFFFFFFFF, 0x0, 0x0, 0x0, 0x0⟩,
  ⟨STG_CNT_FAIL, 1, 0, 1, 0, 0x0, 0x0, 0xFFFFFFFF, 0x0, 0x0, 0x0, 0x0⟩,
  ⟨STG_CNT_UE, 1, 0, 1, 0, 0x0, 0x0, 0xFFFFFFFF, 0x0, 0x0, 0x0, 0x0⟩,
  ⟨STG_CNT_QUOTA, 1, 0, 1, 0, 0x0, 0x0, 0xFFFFFFFF, 0x0, 0x0, 0x0, 0x0⟩,
  ⟨STG_CNT_QUOTA_WAIT, 1, 0, 1, 0, 0x0, 0x0, 0xFFFFFFFF, 0x0, 0x0, 0x0, 0x0⟩,
  ⟨STG_CNT_TILE_CE, 1, 0, 1, 0, 0x0, 0x0, 0xFFFFFFFF, 0x0, 0x0, 0x0, 0x0⟩,
  ⟨STG_CNT_TILE_UE, 1, 0, 1, 0, 0x0, 0x0, 0xFFFFFFFF, 0x0, 0x0, 0x0, 0x0⟩,
  ⟨STG_CHAN_STATUS, 64, 32, 1, 0, 0x0, 0x0, 0xFE000FFF, 0x0, 0x0, 0x0, 0x0⟩,
  ⟨STG_CHAN_INFO, 64, 32, 1, 0, 0x0, 0x0, 0x3FFFFF, 0x0, 0x0, 0x0, 0x0⟩,
  ⟨STG_CHAN_PNA_LO, 64, 32, 1, 0, 0x0, 0x0, 0xFFFFFFC0, 0x0, 0x0, 0x0, 0x0⟩,
  ⟨STG_CHAN_PNA_HI, 64, 32, 1, 0, 0x0, 0x0, 0xFFFF, 0x0, 0x0, 0x0, 0x0⟩,
  ⟨STG_CHAN_CTRL, 64, 32, 1, 0, 0x0, 0x0, 0x0, 0x0, 0x0, 0x1, 0x0⟩]

/-- The registers of block MED (R19's index and the field tables of its chapter). -/
def regsMED : List RegDesc := [
  ⟨MED_CTRL, 1, 0, 1, 0, 0x7, 0x0, 0x0, 0x0, 0x0, 0x0, 0x7⟩,
  ⟨MED_STATUS, 1, 0, 1, 0, 0x0, 0x0, 0xFFFFFFFF, 0x0, 0x0, 0x0, 0x0⟩,
  ⟨MED_GAP_CFG, 1, 0, 1, 0, 0x3FF003F, 0x0, 0x0, 0x0, 0x0, 0x0, 0x640020⟩,
  ⟨MED_SCRUB_CFG, 1, 0, 1, 0, 0xFFFF, 0x0, 0x0, 0x0, 0x0, 0x0, 0x118⟩,
  ⟨MED_SCRUB_STATUS, 1, 0, 1, 0, 0x0, 0x0, 0xFFFF03FF, 0x0, 0x0, 0x0, 0x0⟩,
  ⟨MED_POOL_WM, 1, 0, 1, 0, 0xFFFF, 0x0, 0x0, 0x0, 0x0, 0x0, 0xE6DA⟩,
  ⟨MED_POOL_TOTAL, 1, 0, 1, 0, 0x0, 0x0, 0x3FFFFFFF, 0x0, 0x0, 0x0, 0x0⟩,
  ⟨MED_POOL_FREE, 1, 0, 1, 0, 0x0, 0x0, 0x3FFFFFFF, 0x0, 0x0, 0x0, 0x0⟩,
  ⟨MED_POISON, 1, 0, 1, 0, 0x0, 0x0, 0x1FFFF, 0x0, 0x0, 0x0, 0x0⟩,
  ⟨MED_LAST_ERR, 1, 0, 1, 0, 0x0, 0x0, 0xF00F0000, 0x0, 0x0, 0x0, 0x0⟩,
  ⟨MED_LAST_ERR_LSA_LO, 1, 0, 1, 0, 0x0, 0x0, 0xFFFFFFFF, 0x0, 0x0, 0x0, 0x0⟩,
  ⟨MED_LAST_ERR_LSA_HI, 1, 0, 1, 0, 0x0, 0x0, 0x1, 0x0, 0x0, 0x0, 0x0⟩,
  ⟨MED_CNT_CE, 1, 0, 1, 0, 0x0, 0x0, 0xFFFFFFFF, 0x0, 0x0, 0x0, 0x0⟩,
  ⟨MED_CNT_UE, 1, 0, 1, 0, 0x0, 0x0, 0xFFFFFFFF, 0x0, 0x0, 0x0, 0x0⟩,
  ⟨MED_CNT_TAG, 1, 0, 1, 0, 0x0, 0x0, 0xFFFFFFFF, 0x0, 0x0, 0x0, 0x0⟩,
  ⟨MED_CNT_REPAIR, 1, 0, 1, 0, 0x0, 0x0, 0xFFFFFFFF, 0x0, 0x0, 0x0, 0x0⟩,
  ⟨MED_CNT_STACK_ERR, 1, 0, 1, 0, 0x0, 0x0, 0xFFFFFFFF, 0x0, 0x0, 0x0, 0x0⟩,
  ⟨MED_CNT_DESTAGE, 1, 0, 1, 0, 0x0, 0x0, 0xFFFFFFFF, 0x0, 0x0, 0x0, 0x0⟩,
  ⟨MED_CNT_PROMOTE, 1, 0, 1, 0, 0x0, 0x0, 0xFFFFFFFF, 0x0, 0x0, 0x0, 0x0⟩,
  ⟨MED_CNT_NO_SPACE, 1, 0, 1, 0, 0x0, 0x0, 0xFFFFFFFF, 0x0, 0x0, 0x0, 0x0⟩,
  ⟨MED_LINK_STATUS, 16, 64, 1, 0, 0x0, 0x0, 0xE0FF07FF, 0x0, 0x0, 0x0, 0x0⟩,
  ⟨MED_LINK_CAP, 16, 64, 1, 0, 0x0, 0x0, 0xFFFFFFFF, 0x0, 0x0, 0x0, 0x0⟩,
  ⟨MED_LINK_ID_LO, 16, 64, 1, 0, 0x0, 0x0, 0xFFFFFFFF, 0x0, 0x0, 0x0, 0x0⟩,
  ⟨MED_LINK_ID_HI, 16, 64, 1, 0, 0x0, 0x0, 0xFFFFFFFF, 0x0, 0x0, 0x0, 0x0⟩,
  ⟨MED_LINK_FREE, 16, 64, 1, 0, 0x0, 0x0, 0x3FFFFFF, 0x0, 0x0, 0x0, 0x0⟩,
  ⟨MED_LINK_CNT_REPLAY, 16, 64, 1, 0, 0x0, 0x0, 0xFFFFFFFF, 0x0, 0x0, 0x0, 0x0⟩,
  ⟨MED_LINK_CNT_RETRAIN, 16, 64, 1, 0, 0x0, 0x0, 0xFFFFFFFF, 0x0, 0x0, 0x0, 0x0⟩]

/-- The registers of block DRC (R19's index and the field tables of its chapter). -/
def regsDRC : List RegDesc := [
  ⟨DRC_CTRL, 1, 0, 1, 0, 0x7, 0x0, 0x0, 0x0, 0x0, 0x0, 0x7⟩,
  ⟨DRC_STATUS, 1, 0, 1, 0, 0x0, 0x0, 0x13F, 0x0, 0x0, 0x0, 0x0⟩,
  ⟨DRC_DIMM_CFG, 1, 0, 1, 0, 0xFFFFFF0F, 0xFFFFFF0F, 0x0, 0x0, 0x0, 0x0, 0x0⟩,
  ⟨DRC_ILV_CFG, 1, 0, 1, 0, 0x1F, 0x1F, 0x1F00, 0x0, 0x0, 0x0, 0xC⟩,
  ⟨DRC_REF_CFG, 1, 0, 1, 0, 0x1F01, 0x0, 0x0, 0x0, 0x0, 0x0, 0xA00⟩,
  ⟨DRC_SCHED_CFG, 1, 0, 1, 0, 0xFFFFFF00, 0x0, 0x0, 0x0, 0x0, 0x0, 0x60200C00⟩,
  ⟨DRC_SCRUB_CFG, 1, 0, 1, 0, 0xFFFF, 0x0, 0x0, 0x0, 0x0, 0x0, 0x118⟩,
  ⟨DRC_SCRUB_STATUS, 1, 0, 1, 0, 0x0, 0x0, 0xFFFF03FF, 0x0, 0x0, 0x0, 0x0⟩,
  ⟨DRC_FREEZE_CAUSE, 1, 0, 1, 0, 0x0, 0x0, 0xFF, 0x0, 0x0, 0x0, 0x0⟩,
  ⟨DRC_FREEZE_INFO, 1, 0, 1, 0, 0x0, 0x0, 0xFCF0FFFF, 0x0, 0x0, 0x0, 0x0⟩,
  ⟨DRC_FREEZE_ADDR_LO, 1, 0, 1, 0, 0x0, 0x0, 0xFFFFFF80, 0x0, 0x0, 0x0, 0x0⟩,
  ⟨DRC_FREEZE_ADDR_HI, 1, 0, 1, 0, 0x0, 0x0, 0xFF, 0x0, 0x0, 0x0, 0x0⟩,
  ⟨DRC_PORT_CFG0, 2, 8, 1, 0, 0xFFFFFF00, 0x0, 0x0, 0x0, 0x0, 0x0, 0x20400⟩,
  ⟨DRC_PORT_CFG2, 1, 8, 1, 0, 0xFFFFFF00, 0x0, 0x0, 0x0, 0x0, 0x0, 0x40800⟩,
  ⟨DRC_PORT_CFG3, 2, 8, 1, 0, 0xFFFFFF00, 0x0, 0x0, 0x0, 0x0, 0x0, 0x81000⟩,
  ⟨DRC_PORT_CFG5, 1, 8, 1, 0, 0xFFFFFF00, 0x0, 0x0, 0x0, 0x0, 0x0, 0x1E1000⟩,
  ⟨DRC_PORT_CFG6, 1, 8, 1, 0, 0xFFFFFF00, 0x0, 0x0, 0x0, 0x0, 0x0, 0x12C1000⟩,
  ⟨DRC_PORT_CFG7, 1, 8, 1, 0, 0xFFFFFF00, 0x0, 0x0, 0x0, 0x0, 0x0, 0x1E1000⟩,
  ⟨DRC_PORT_CFG8, 2, 8, 1, 0, 0xFFFFFF00, 0x0, 0x0, 0x0, 0x0, 0x0, 0xBB82000⟩,
  ⟨DRC_PORT_CFG10, 1, 8, 1, 0, 0xFFFFFF00, 0x0, 0x0, 0x0, 0x0, 0x0, 0x12C1000⟩,
  ⟨DRC_PORT_CFG11, 1, 8, 1, 0, 0xFFFFFF00, 0x0, 0x0, 0x0, 0x0, 0x0, 0x75304000⟩,
  ⟨DRC_PORT_STATUS, 12, 8, 1, 0, 0x0, 0x0, 0x3FFFF, 0x0, 0x0, 0x0, 0x0⟩,
  ⟨DRC_CH_STATUS, 6, 64, 1, 0, 0x0, 0x0, 0xE0FF7F03, 0x0, 0x0, 0x0, 0x0⟩,
  ⟨DRC_CH_CNT_CE, 6, 64, 1, 0, 0x0, 0x0, 0xFFFFFFFF, 0x0, 0x0, 0x0, 0x0⟩,
  ⟨DRC_CH_CNT_FWD, 6, 64, 1, 0, 0x0, 0x0, 0xFFFFFFFF, 0x0, 0x0, 0x0, 0x0⟩,
  ⟨DRC_CH_CNT_ROWHIT, 6, 64, 1, 0, 0x0, 0x0, 0xFFFFFFFF, 0x0, 0x0, 0x0, 0x0⟩,
  ⟨DRC_CH_CNT_ACT, 6, 64, 1, 0, 0x0, 0x0, 0xFFFFFFFF, 0x0, 0x0, 0x0, 0x0⟩,
  ⟨DRC_CH_CNT_NR, 6, 64, 1, 0, 0x0, 0x0, 0xFFFFFFFF, 0x0, 0x0, 0x0, 0x0⟩,
  ⟨DRC_CH_CNT_REF, 6, 64, 1, 0, 0x0, 0x0, 0xFFFFFFFF, 0x0, 0x0, 0x0, 0x0⟩,
  ⟨DRC_CH_CNT_WB, 6, 64, 1, 0, 0x0, 0x0, 0xFFFFFFFF, 0x0, 0x0, 0x0, 0x0⟩]

/-- The registers of block NTL (R19's index and the field tables of its chapter). -/
def regsNTL : List RegDesc := [
  ⟨NTL_CTRL, 1, 0, 1, 0, 0x7, 0x0, 0x0, 0x0, 0x0, 0x0, 0x7⟩,
  ⟨NTL_STATUS, 1, 0, 1, 0, 0x0, 0x0, 0xF8FFFFFF, 0x0, 0x0, 0x0, 0x0⟩,
  ⟨NTL_GEOM, 1, 0, 1, 0, 0x0, 0x0, 0xFFFFFFFF, 0x0, 0x0, 0x0, 0x0⟩,
  ⟨NTL_FORMAT, 1, 0, 1, 0, 0xFF03, 0xFF03, 0x0, 0x0, 0x0, 0x0, 0x1401⟩,
  ⟨NTL_CAP_LO, 1, 0, 1, 0, 0xFFFFFFFF, 0xFFFFFFFF, 0x0, 0x0, 0x0, 0x0, 0x0⟩,
  ⟨NTL_CAP_HI, 1, 0, 1, 0, 0x7, 0x7, 0x0, 0x0, 0x0, 0x0, 0x0⟩,
  ⟨NTL_MAPPED_LO, 1, 0, 1, 0, 0x0, 0x0, 0xFFFFFFFF, 0x0, 0x0, 0x0, 0x0⟩,
  ⟨NTL_MAPPED_HI, 1, 0, 1, 0, 0x0, 0x0, 0x7, 0x0, 0x0, 0x0, 0x0⟩,
  ⟨NTL_SLC, 1, 0, 1, 0, 0x0, 0x0, 0xFFFFFFFF, 0x0, 0x0, 0x0, 0x0⟩,
  ⟨NTL_GC_CFG, 1, 0, 1, 0, 0xFFFFFF, 0x0, 0x0, 0x0, 0x0, 0x0, 0x641008⟩,
  ⟨NTL_CKPT_CFG, 1, 0, 1, 0, 0xFFFFFFFF, 0x0, 0x0, 0x0, 0x0, 0x0, 0x43E81000⟩,
  ⟨NTL_READ_CFG, 1, 0, 1, 0, 0xFFFFF, 0x0, 0x0, 0x0, 0x0, 0x0, 0xC88⟩,
  ⟨NTL_SCAN_CFG, 1, 0, 1, 0, 0xFFFFFFFF, 0x0, 0x0, 0x0, 0x0, 0x0, 0x1003007⟩,
  ⟨NTL_WEAR_CFG, 1, 0, 1, 0, 0xFFFFFFFF, 0x0, 0x0, 0x0, 0x0, 0x0, 0x3E800C8⟩,
  ⟨NTL_SPARE_CFG, 1, 0, 1, 0, 0xFFFFFFFF, 0x0, 0x0, 0x0, 0x0, 0x0, 0x100004⟩,
  ⟨NTL_HEALTH, 1, 0, 1, 0, 0x0, 0x0, 0xFFFFFFFF, 0x0, 0x0, 0x0, 0x0⟩,
  ⟨NTL_EW, 1, 0, 1, 0, 0x0, 0x0, 0x0, 0xFF, 0x0, 0x0, 0x0⟩,
  ⟨NTL_EW_CFG, 1, 0, 1, 0, 0xFFFF00FF, 0x0, 0x0, 0x0, 0x0, 0x0, 0x3E80008⟩,
  ⟨NTL_TEMP, 1, 0, 1, 0, 0xFF, 0x0, 0x0, 0x0, 0x0, 0x0, 0x19⟩,
  ⟨NTL_ITER, 1, 0, 1, 0, 0x0, 0x0, 0xFFFF, 0x0, 0x0, 0x0, 0x0⟩,
  ⟨NTL_CBH, 8, 4, 1, 0, 0x0, 0x0, 0xFFFFFFFF, 0x0, 0x0, 0x0, 0x0⟩,
  ⟨NTL_TEMP_MIN, 8, 4, 1, 0, 0x0, 0x0, 0xFFFFFFFF, 0x0, 0x0, 0x0, 0x0⟩,
  ⟨NTL_CNT_READ, 1, 0, 1, 0, 0x0, 0x0, 0xFFFFFFFF, 0x0, 0x0, 0x0, 0x0⟩,
  ⟨NTL_CNT_SOFT, 1, 0, 1, 0, 0x0, 0x0, 0xFFFFFFFF, 0x0, 0x0, 0x0, 0x0⟩,
  ⟨NTL_CNT_RETRY, 1, 0, 1, 0, 0x0, 0x0, 0xFFFFFFFF, 0x0, 0x0, 0x0, 0x0⟩,
  ⟨NTL_CNT_REBUILD, 1, 0, 1, 0, 0x0, 0x0, 0xFFFFFFFF, 0x0, 0x0, 0x0, 0x0⟩,
  ⟨NTL_CNT_TWIN_REPAIR, 1, 0, 1, 0, 0x0, 0x0, 0xFFFFFFFF, 0x0, 0x0, 0x0, 0x0⟩,
  ⟨NTL_CNT_UE, 1, 0, 1, 0, 0x0, 0x0, 0xFFFFFFFF, 0x0, 0x0, 0x0, 0x0⟩,
  ⟨NTL_CNT_PROG_FAIL, 1, 0, 1, 0, 0x0, 0x0, 0xFFFFFFFF, 0x0, 0x0, 0x0, 0x0⟩,
  ⟨NTL_CNT_ERASE_FAIL, 1, 0, 1, 0, 0x0, 0x0, 0xFFFFFFFF, 0x0, 0x0, 0x0, 0x0⟩,
  ⟨NTL_CH_STATUS, 16, 16, 1, 0, 0x0, 0x0, 0xE00000FF, 0x0, 0x0, 0x0, 0x0⟩,
  ⟨NTL_CH_DIE_FAIL_LO, 16, 16, 1, 0, 0x0, 0x0, 0xFFFFFFFF, 0x0, 0x0, 0x0, 0x0⟩,
  ⟨NTL_CH_DIE_FAIL_HI, 16, 16, 1, 0, 0x0, 0x0, 0xFFFFFFFF, 0x0, 0x0, 0x0, 0x0⟩]

/-- The registers of block DUR (R19's index and the field tables of its chapter). -/
def regsDUR : List RegDesc := [
  ⟨DUR_STATUS, 1, 0, 1, 0, 0x0, 0x0, 0xC0000001, 0x0, 0x0, 0x0, 0x0⟩,
  ⟨DUR_PB_CFG, 1, 0, 1, 0, 0xFFF0FFF, 0x0, 0x0, 0x0, 0x0, 0x0, 0x2000080⟩,
  ⟨DUR_PB_STATUS, 1, 0, 1, 0, 0x0, 0x0, 0x3FFFF, 0x0, 0x0, 0x0, 0x0⟩,
  ⟨DUR_PB_MIRROR, 1, 0, 1, 0, 0x0, 0x0, 0x3FFFF, 0x0, 0x0, 0x0, 0x0⟩,
  ⟨DUR_EPOCH, 1, 0, 1, 0, 0x0, 0x0, 0xFFFFFFFF, 0x0, 0x0, 0x0, 0x0⟩,
  ⟨DUR_FLUSH_STATUS, 1, 0, 1, 0, 0x0, 0x0, 0xFFFFFFFF, 0x0, 0x0, 0x0, 0x0⟩,
  ⟨DUR_INTENT_STATUS, 1, 0, 1, 0, 0x0, 0x0, 0x7FFF, 0x0, 0x0, 0x0, 0x0⟩,
  ⟨DUR_JOURNAL_STATUS, 1, 0, 1, 0, 0x0, 0x0, 0xFFFFFFFF, 0x0, 0x0, 0x0, 0x0⟩,
  ⟨DUR_META_CFG, 1, 0, 1, 0, 0x0, 0x0, 0x3F, 0x0, 0x0, 0x0, 0x0⟩,
  ⟨DUR_RECOVERY, 1, 0, 1, 0, 0x0, 0x0, 0xF8007FFF, 0x0, 0x0, 0x0, 0x0⟩,
  ⟨DUR_QP_SEL, 1, 0, 1, 0, 0xFFFFFF, 0xFFFFFF, 0x0, 0x0, 0x0, 0x0, 0x0⟩,
  ⟨DUR_QP_ACC, 1, 0, 1, 0, 0x0, 0x0, 0xFFFFFFFF, 0x0, 0x0, 0x0, 0x0⟩,
  ⟨DUR_QP_PLC, 1, 0, 1, 0, 0x0, 0x0, 0xFFFFFFFF, 0x0, 0x0, 0x0, 0x0⟩,
  ⟨DUR_QP_MIR, 1, 0, 1, 0, 0x0, 0x0, 0xFFFFFFFF, 0x0, 0x0, 0x0, 0x0⟩,
  ⟨DUR_CNT_ACCEPTED, 1, 0, 1, 0, 0x0, 0x0, 0xFFFFFFFF, 0x0, 0x0, 0x0, 0x0⟩,
  ⟨DUR_CNT_PLACED, 1, 0, 1, 0, 0x0, 0x0, 0xFFFFFFFF, 0x0, 0x0, 0x0, 0x0⟩,
  ⟨DUR_CNT_MIRRORED, 1, 0, 1, 0, 0x0, 0x0, 0xFFFFFFFF, 0x0, 0x0, 0x0, 0x0⟩,
  ⟨DUR_CNT_MIRROR_RX, 1, 0, 1, 0, 0x0, 0x0, 0xFFFFFFFF, 0x0, 0x0, 0x0, 0x0⟩,
  ⟨DUR_CNT_FWD, 1, 0, 1, 0, 0x0, 0x0, 0xFFFFFFFF, 0x0, 0x0, 0x0, 0x0⟩,
  ⟨DUR_CNT_MERGE, 1, 0, 1, 0, 0x0, 0x0, 0xFFFFFFFF, 0x0, 0x0, 0x0, 0x0⟩,
  ⟨DUR_CNT_ADMIT_DEFER, 1, 0, 1, 0, 0x0, 0x0, 0xFFFFFFFF, 0x0, 0x0, 0x0, 0x0⟩,
  ⟨DUR_CNT_FLUSH, 1, 0, 1, 0, 0x0, 0x0, 0xFFFFFFFF, 0x0, 0x0, 0x0, 0x0⟩,
  ⟨DUR_CNT_INTENT, 1, 0, 1, 0, 0x0, 0x0, 0xFFFFFFFF, 0x0, 0x0, 0x0, 0x0⟩,
  ⟨DUR_CNT_REPEAT, 1, 0, 1, 0, 0x0, 0x0, 0xFFFFFFFF, 0x0, 0x0, 0x0, 0x0⟩]

/-- The registers of block TWN (R19's index and the field tables of its chapter). -/
def regsTWN : List RegDesc := [
  ⟨TWN_CTRL, 1, 0, 1, 0, 0x7, 0x0, 0x0, 0x0, 0x0, 0x0, 0x0⟩,
  ⟨TWN_STATUS, 1, 0, 1, 0, 0x0, 0x0, 0xFFFC0000, 0x0, 0x0, 0x0, 0x0⟩,
  ⟨TWN_SOLO_DELAY, 1, 0, 1, 0, 0xFFFF, 0x0, 0x0, 0x0, 0x0, 0x0, 0x4B0⟩,
  ⟨TWN_FLUSH_LIMIT, 1, 0, 1, 0, 0xFFFFFF, 0x0, 0x0, 0x0, 0x0, 0x0, 0xBB8⟩,
  ⟨TWN_LINK_CFG, 1, 0, 1, 0, 0xFFFF00, 0x0, 0x0, 0x0, 0x0, 0x0, 0xA2000⟩,
  ⟨TWN_LINK_STATUS, 1, 0, 1, 0, 0x0, 0x0, 0xFFFFFFFF, 0x0, 0x0, 0x0, 0x0⟩,
  ⟨TWN_RESYNC_STATUS, 1, 0, 1, 0, 0x0, 0x0, 0xF80003FF, 0x0, 0x0, 0x0, 0x0⟩,
  ⟨TWN_RESYNC_LEFT, 1, 0, 1, 0, 0x0, 0x0, 0xFFFFFFFF, 0x0, 0x0, 0x0, 0x0⟩,
  ⟨TWN_LAST_EVENT, 1, 0, 1, 0, 0x0, 0x0, 0xFC000000, 0x0, 0x0, 0x0, 0x0⟩,
  ⟨TWN_TAKEOVER_TIME, 1, 0, 1, 0, 0x0, 0x0, 0xFFFFFFFF, 0x0, 0x0, 0x0, 0x0⟩,
  ⟨TWN_LAST_TICK_LO, 1, 0, 1, 0, 0x0, 0x0, 0xFFFFFFFF, 0x0, 0x0, 0x0, 0x0⟩,
  ⟨TWN_LAST_TICK_HI, 1, 0, 1, 0, 0x0, 0x0, 0xFFFFFFFF, 0x0, 0x0, 0x0, 0x0⟩,
  ⟨TWN_CNT_HB_RX, 1, 0, 1, 0, 0x0, 0x0, 0xFFFFFFFF, 0x0, 0x0, 0x0, 0x0⟩,
  ⟨TWN_CNT_REPLAY, 1, 0, 1, 0, 0x0, 0x0, 0xFFFFFFFF, 0x0, 0x0, 0x0, 0x0⟩,
  ⟨TWN_CNT_SB_GLITCH, 1, 0, 1, 0, 0x0, 0x0, 0xFFFFFFFF, 0x0, 0x0, 0x0, 0x0⟩,
  ⟨TWN_CNT_TAKEOVER, 1, 0, 1, 0, 0x0, 0x0, 0xFFFFFFFF, 0x0, 0x0, 0x0, 0x0⟩,
  ⟨TWN_CNT_RETURN, 1, 0, 1, 0, 0x0, 0x0, 0xFFFFFFFF, 0x0, 0x0, 0x0, 0x0⟩,
  ⟨TWN_CNT_SOLO, 1, 0, 1, 0, 0x0, 0x0, 0xFFFFFFFF, 0x0, 0x0, 0x0, 0x0⟩,
  ⟨TWN_CNT_SOLO_TICKS, 1, 0, 1, 0, 0x0, 0x0, 0xFFFFFFFF, 0x0, 0x0, 0x0, 0x0⟩,
  ⟨TWN_CNT_NOTICE, 1, 0, 1, 0, 0x0, 0x0, 0xFFFFFFFF, 0x0, 0x0, 0x0, 0x0⟩]

/-- The registers of block INT (R19's index and the field tables of its chapter). -/
def regsINT : List RegDesc := [
  ⟨INT_CTRL, 1, 0, 1, 0, 0x1, 0x1, 0x0, 0x0, 0x0, 0x0, 0x1⟩,
  ⟨INT_STATUS, 1, 0, 1, 0, 0x0, 0x0, 0xFC000000, 0x0, 0x0, 0x0, 0x0⟩,
  ⟨INT_FIRST_FAULT, 1, 0, 1, 0, 0x0, 0x0, 0xFFC00FFF, 0x0, 0x0, 0x0, 0x0⟩,
  ⟨INT_LAST_FAULT, 1, 0, 1, 0, 0x0, 0x0, 0xFFC00FFF, 0x0, 0x0, 0x0, 0x0⟩,
  ⟨INT_FIRST_TICK_LO, 1, 0, 1, 0, 0x0, 0x0, 0xFFFFFFFF, 0x0, 0x0, 0x0, 0x0⟩,
  ⟨INT_FIRST_TICK_HI, 1, 0, 1, 0, 0x0, 0x0, 0xFFFFFFFF, 0x0, 0x0, 0x0, 0x0⟩,
  ⟨INT_ESC_CFG, 1, 0, 1, 0, 0xFFFF, 0xFFFF, 0x0, 0x0, 0x0, 0x0, 0x302⟩,
  ⟨INT_SCRUB_CFG, 1, 0, 1, 0, 0xFFFF, 0xFFFF, 0x0, 0x0, 0x0, 0x0, 0x64⟩,
  ⟨INT_SCRUB_STATUS, 1, 0, 1, 0, 0x0, 0x0, 0xFFFF03FF, 0x0, 0x0, 0x0, 0x0⟩,
  ⟨INT_BIST_STATUS, 1, 0, 1, 0, 0x0, 0x0, 0xFFFFFFF, 0x0, 0x0, 0x0, 0x0⟩,
  ⟨INT_INJECT, 1, 0, 1, 0, 0x607F0FFF, 0x607F0FFF, 0x10000000, 0x0, 0x0, 0x80000000, 0x20000000⟩,
  ⟨INT_CNT_CE, 1, 0, 1, 0, 0x0, 0x0, 0xFFFFFFFF, 0x0, 0x0, 0x0, 0x0⟩,
  ⟨INT_CNT_UE, 1, 0, 1, 0, 0x0, 0x0, 0xFFFFFFFF, 0x0, 0x0, 0x0, 0x0⟩,
  ⟨INT_CNT_NOTE, 1, 0, 1, 0, 0x0, 0x0, 0xFFFFFFFF, 0x0, 0x0, 0x0, 0x0⟩,
  ⟨INT_CNT_CONTAIN, 1, 0, 1, 0, 0x0, 0x0, 0xFFFFFFFF, 0x0, 0x0, 0x0, 0x0⟩,
  ⟨INT_CNT_YIELD, 1, 0, 1, 0, 0x0, 0x0, 0xFFFFFFFF, 0x0, 0x0, 0x0, 0x0⟩,
  ⟨INT_CNT_DET_TEST, 1, 0, 1, 0, 0x0, 0x0, 0xFFFFFFFF, 0x0, 0x0, 0x0, 0x0⟩]

/-- The registers of block SEC (R19's index and the field tables of its chapter). -/
def regsSEC : List RegDesc := [
  ⟨SEC_STATUS, 1, 0, 1, 0, 0x0, 0x0, 0xFFFFFFFF, 0x0, 0x0, 0x0, 0x24800000⟩,
  ⟨SEC_BOOT_STATUS, 1, 0, 1, 0, 0x0, 0x0, 0xFFC001FF, 0x0, 0x0, 0x0, 0x0⟩,
  ⟨SEC_CTRL, 1, 0, 1, 0, 0x0, 0x0, 0x0, 0x0, 0x1, 0x0, 0x0⟩,
  ⟨SEC_PERMS, 1, 0, 1, 0, 0x0, 0x0, 0xF, 0x0, 0x0, 0x0, 0xF⟩,
  ⟨SEC_NONCE, 8, 4, 1, 0, 0x0, 0x0, 0xFFFFFFFF, 0x0, 0x0, 0x0, 0x0⟩,
  ⟨SEC_ATT_PUB, 16, 4, 1, 0, 0x0, 0x0, 0xFFFFFFFF, 0x0, 0x0, 0x0, 0x0⟩,
  ⟨SEC_MBOX_CTRL, 1, 0, 1, 0, 0x0, 0x0, 0xC00FFF04, 0x8, 0x3, 0x0, 0x0⟩,
  ⟨SEC_MBOX, 64, 4, 1, 0, 0xFFFFFFFF, 0xFFFFFFFF, 0x0, 0x0, 0x0, 0x0, 0x0⟩,
  ⟨SEC_KE_STATUS, 1, 0, 1, 0, 0x0, 0x0, 0xFC000000, 0x0, 0x0, 0x0, 0x0⟩]

/-- The registers of block EFL (R19's index and the field tables of its chapter). -/
def regsEFL : List RegDesc := [
  ⟨EFL_CTRL, 1, 0, 1, 0, 0x78000000, 0x78000000, 0x0, 0x0, 0x0, 0x80000000, 0x0⟩,
  ⟨EFL_ADDR, 1, 0, 1, 0, 0x7FFFE0, 0x7FFFE0, 0x0, 0x0, 0x0, 0x0, 0x0⟩,
  ⟨EFL_STATUS, 1, 0, 1, 0, 0x0, 0x0, 0xC0000000, 0x7F9, 0x0, 0x0, 0x0⟩,
  ⟨EFL_ERASE_PROGRESS, 1, 0, 1, 0, 0x0, 0x0, 0x1FFFF, 0x0, 0x0, 0x0, 0x0⟩,
  ⟨EFL_WP, 1, 0, 1, 0, 0x0, 0x0, 0x0, 0x0, 0xFFFFFFFF, 0x0, 0x0⟩,
  ⟨EFL_ECC_STATUS, 1, 0, 1, 0, 0x0, 0x0, 0xFFFFF8, 0xC0000000, 0x0, 0x0, 0x0⟩,
  ⟨EFL_CNT_CE, 1, 0, 1, 0, 0x0, 0x0, 0xFFFFFFFF, 0x0, 0x0, 0x0, 0x0⟩,
  ⟨EFL_CNT_UE, 1, 0, 1, 0, 0x0, 0x0, 0xFFFFFFFF, 0x0, 0x0, 0x0, 0x0⟩,
  ⟨EFL_RD_ADDR, 1, 0, 1, 0, 0xFFFFF8, 0xFFFFF8, 0x0, 0x0, 0x0, 0x0, 0x0⟩,
  ⟨EFL_RD_DATA_LO, 1, 0, 1, 0, 0x0, 0x0, 0xFFFFFFFF, 0x0, 0x0, 0x0, 0x0⟩,
  ⟨EFL_RD_DATA_HI, 1, 0, 1, 0, 0x0, 0x0, 0xFFFFFFFF, 0x0, 0x0, 0x0, 0x0⟩,
  ⟨EFL_ROW, 8, 4, 1, 0, 0xFFFFFFFF, 0xFFFFFFFF, 0x0, 0x0, 0x0, 0x0, 0xFFFFFFFF⟩]

/-- The registers of block SEQ (R19's index and the field tables of its chapter). -/
def regsSEQ : List RegDesc := [
  ⟨SEQ_CTRL, 1, 0, 1, 0, 0x1FFFFF, 0x1FFFFF, 0x0, 0x0, 0x0, 0x80000000, 0x1401F4⟩,
  ⟨SEQ_STATUS, 1, 0, 1, 0, 0x0, 0x0, 0xFF1F0000, 0x0, 0x0, 0x0, 0x8000000⟩,
  ⟨SEQ_CAUSE, 1, 0, 1, 0, 0x0, 0x0, 0x0, 0x7F, 0x0, 0x0, 0x0⟩,
  ⟨SEQ_EN_STATE, 1, 0, 1, 0, 0x0, 0x0, 0xFFFFFFFF, 0x0, 0x0, 0x0, 0x0⟩,
  ⟨SEQ_PG_STATE, 1, 0, 1, 0, 0x0, 0x0, 0xFFFFFFFF, 0x0, 0x0, 0x0, 0x0⟩,
  ⟨SEQ_TIME, 1, 0, 1, 0, 0x0, 0x0, 0xFFFFF, 0x0, 0x0, 0x0, 0x0⟩,
  ⟨SEQ_SLOT_CFG, 1, 0, 1, 0, 0xFF7F033F, 0xFF7F033F, 0x0, 0x0, 0x0, 0x0, 0x0⟩,
  ⟨SEQ_SLOT_ON, 1, 0, 1, 0, 0xFFFFF, 0xFFFFF, 0x0, 0x0, 0x0, 0x0, 0x0⟩,
  ⟨SEQ_SLOT_OFF, 1, 0, 1, 0, 0xFFFFF, 0xFFFFF, 0x0, 0x0, 0x0, 0x0, 0x0⟩,
  ⟨SEQ_SLOT_PG, 1, 0, 1, 0, 0xFFFFFCFF, 0xFFFFFCFF, 0x0, 0x0, 0x0, 0x0, 0x0⟩,
  ⟨SEQ_SLOT_CFG1, 1, 0, 1, 0, 0xFF7F033F, 0xFF7F033F, 0x0, 0x0, 0x0, 0x0, 0x1D⟩,
  ⟨SEQ_SLOT_ON1, 1, 0, 1, 0, 0xFFFFF, 0xFFFFF, 0x0, 0x0, 0x0, 0x0, 0x0⟩,
  ⟨SEQ_SLOT_OFF1, 1, 0, 1, 0, 0xFFFFF, 0xFFFFF, 0x0, 0x0, 0x0, 0x0, 0x190⟩,
  ⟨SEQ_SLOT_PG1, 1, 0, 1, 0, 0xFFFFFCFF, 0xFFFFFCFF, 0x0, 0x0, 0x0, 0x0, 0x6432032⟩,
  ⟨SEQ_SLOT_CFG2, 1, 0, 1, 0, 0xFF7F033F, 0xFF7F033F, 0x0, 0x0, 0x0, 0x0, 0xD⟩,
  ⟨SEQ_SLOT_ON2, 1, 0, 1, 0, 0xFFFFF, 0xFFFFF, 0x0, 0x0, 0x0, 0x0, 0x32⟩,
  ⟨SEQ_SLOT_OFF2, 1, 0, 1, 0, 0xFFFFF, 0xFFFFF, 0x0, 0x0, 0x0, 0x0, 0x190⟩,
  ⟨SEQ_SLOT_PG2, 1, 0, 1, 0, 0xFFFFFCFF, 0xFFFFFCFF, 0x0, 0x0, 0x0, 0x0, 0x6432032⟩,
  ⟨SEQ_SLOT_CFG3, 3, 16, 1, 0, 0xFF7F033F, 0xFF7F033F, 0x0, 0x0, 0x0, 0x0, 0x1D⟩,
  ⟨SEQ_SLOT_ON3, 3, 16, 1, 0, 0xFFFFF, 0xFFFFF, 0x0, 0x0, 0x0, 0x0, 0x5DC⟩,
  ⟨SEQ_SLOT_OFF3, 3, 16, 1, 0, 0xFFFFF, 0xFFFFF, 0x0, 0x0, 0x0, 0x0, 0x12C⟩,
  ⟨SEQ_SLOT_PG3, 3, 16, 1, 0, 0xFFFFFCFF, 0xFFFFFCFF, 0x0, 0x0, 0x0, 0x0, 0x6432032⟩,
  ⟨SEQ_SLOT_CFG6, 1, 0, 1, 0, 0xFF7F033F, 0xFF7F033F, 0x0, 0x0, 0x0, 0x0, 0x1D⟩,
  ⟨SEQ_SLOT_ON6, 1, 0, 1, 0, 0xFFFFF, 0xFFFFF, 0x0, 0x0, 0x0, 0x0, 0x9C4⟩,
  ⟨SEQ_SLOT_OFF6, 1, 0, 1, 0, 0xFFFFF, 0xFFFFF, 0x0, 0x0, 0x0, 0x0, 0xC8⟩,
  ⟨SEQ_SLOT_PG6, 1, 0, 1, 0, 0xFFFFFCFF, 0xFFFFFCFF, 0x0, 0x0, 0x0, 0x0, 0x6432032⟩,
  ⟨SEQ_SLOT_CFG7, 3, 16, 1, 0, 0xFF7F033F, 0xFF7F033F, 0x0, 0x0, 0x0, 0x0, 0x1D⟩,
  ⟨SEQ_SLOT_ON7, 3, 16, 1, 0, 0xFFFFF, 0xFFFFF, 0x0, 0x0, 0x0, 0x0, 0xDAC⟩,
  ⟨SEQ_SLOT_OFF7, 3, 16, 1, 0, 0xFFFFF, 0xFFFFF, 0x0, 0x0, 0x0, 0x0, 0x0⟩,
  ⟨SEQ_SLOT_PG7, 3, 16, 1, 0, 0xFFFFFCFF, 0xFFFFFCFF, 0x0, 0x0, 0x0, 0x0, 0x6432032⟩,
  ⟨SEQ_SLOT_CFG10, 22, 16, 1, 0, 0xFF7F033F, 0xFF7F033F, 0x0, 0x0, 0x0, 0x0, 0x0⟩,
  ⟨SEQ_SLOT_ON10, 22, 16, 1, 0, 0xFFFFF, 0xFFFFF, 0x0, 0x0, 0x0, 0x0, 0x0⟩,
  ⟨SEQ_SLOT_OFF10, 22, 16, 1, 0, 0xFFFFF, 0xFFFFF, 0x0, 0x0, 0x0, 0x0, 0x0⟩,
  ⟨SEQ_SLOT_PG10, 22, 16, 1, 0, 0xFFFFFCFF, 0xFFFFFCFF, 0x0, 0x0, 0x0, 0x0, 0x0⟩]

/-- The registers of block TWB (R19's index and the field tables of its chapter). -/
def regsTWB : List RegDesc := [
  ⟨TWB_CTRL, 3, 256, 1, 0, 0x0, 0x0, 0x0, 0x0, 0x0, 0x7, 0x0⟩,
  ⟨TWB_CFG, 3, 256, 1, 0, 0xF1F, 0xF1F, 0x0, 0x0, 0x0, 0x0, 0x803⟩,
  ⟨TWB_CMD, 3, 256, 1, 0, 0xFEFFFF03, 0xFEFFFF03, 0x0, 0x0, 0x0, 0x0, 0x0⟩,
  ⟨TWB_STATUS, 3, 256, 1, 0, 0x0, 0x0, 0xBFFFE1FF, 0x40000000, 0x0, 0x0, 0x0⟩,
  ⟨TWB_CNT, 3, 256, 1, 0, 0x0, 0x0, 0xFFFFFFFF, 0x0, 0x0, 0x0, 0x0⟩,
  ⟨TWB_TWT_CFG, 1, 0, 1, 0, 0xFF1F, 0xFF1F, 0x0, 0x0, 0x0, 0x0, 0xB003⟩,
  ⟨TWB_TWT_STATUS, 1, 0, 1, 0, 0x0, 0x0, 0xFFFFFFFF, 0x0, 0x0, 0x0, 0x0⟩,
  ⟨TWB_TWT_MBOX_CTRL, 1, 0, 1, 0, 0x3F0000, 0x3F0000, 0x3F, 0x4000, 0x8000, 0x0, 0x0⟩,
  ⟨TWB_TWT_MBOX_REQ, 8, 4, 1, 0, 0x0, 0x0, 0xFFFFFFFF, 0x0, 0x0, 0x0, 0x0⟩,
  ⟨TWB_TWT_MBOX_RESP, 8, 4, 1, 0, 0xFFFFFFFF, 0xFFFFFFFF, 0x0, 0x0, 0x0, 0x0, 0x0⟩,
  -- last: the words whose offset another register has too are that register's (log 75)
  ⟨TWB_BUF, 3, 256, 64, 4, 0xFFFFFFFF, 0xFFFFFFFF, 0x0, 0x0, 0x0, 0x0, 0x0⟩]

/-- The registers of block CAL (R19's index and the field tables of its chapter). -/
def regsCAL : List RegDesc := [
  ⟨CAL_CTRL, 1, 0, 1, 0, 0xFF, 0xFF, 0x0, 0x0, 0x0, 0x80000000, 0x3C⟩,
  ⟨CAL_CFG, 1, 0, 1, 0, 0xFF, 0xFF, 0x0, 0x0, 0x0, 0x0, 0x20⟩,
  ⟨CAL_STATUS, 1, 0, 1, 0, 0x0, 0x0, 0x9F80FFFF, 0x60000000, 0x0, 0x0, 0x0⟩,
  ⟨CAL_DST, 1, 0, 1, 0, 0xFFFF8, 0xFFFF8, 0x0, 0x0, 0x0, 0x0, 0x0⟩,
  ⟨CAL_SEL, 1, 0, 1, 0, 0xFF0000FF, 0xFF0000FF, 0x0, 0x0, 0x0, 0x0, 0x1000000⟩,
  ⟨CAL_QUAL, 1, 0, 1, 0, 0x0, 0x0, 0xFFFFFFFF, 0x0, 0x0, 0x0, 0x0⟩,
  ⟨CAL_REF_STATUS, 1, 0, 1, 0, 0x0, 0x0, 0xFFFF, 0x0, 0x0, 0x0, 0x0⟩]

/-- The registers of block SNS (R19's index and the field tables of its chapter). -/
def regsSNS : List RegDesc := [
  ⟨SNS_STATUS, 1, 0, 1, 0, 0x0, 0x0, 0xF0000, 0xFFFF, 0x0, 0x0, 0x0⟩,
  ⟨SNS_TEMP, 16, 4, 1, 0, 0x0, 0x0, 0xFFFFFFFF, 0x0, 0x0, 0x0, 0x0⟩,
  ⟨SNS_VOLT, 24, 4, 1, 0, 0x0, 0x0, 0xFFFFFFFF, 0x0, 0x0, 0x0, 0x0⟩,
  ⟨SNS_THRESH, 16, 4, 1, 0, 0xFFFF, 0xFFFF, 0x0, 0x0, 0x0, 0x0, 0x6E0⟩]

/-- The registers of block EVR (R19's index and the field tables of its chapter). -/
def regsEVR : List RegDesc := [
  ⟨EVR_STATUS, 1, 0, 1, 0, 0x0, 0x0, 0xC7FFFFFF, 0x20000000, 0x0, 0x0, 0x0⟩,
  ⟨EVR_SEQ_NEXT, 1, 0, 1, 0, 0x0, 0x0, 0xFFFFFFFF, 0x0, 0x0, 0x0, 0x0⟩,
  ⟨EVR_CURSOR, 1, 0, 1, 0, 0x7FF, 0x7FF, 0x0, 0x0, 0x0, 0x0, 0x0⟩,
  ⟨EVR_FW_TRIG, 1, 0, 1, 0, 0x0, 0x0, 0x0, 0x0, 0x0, 0x7FF, 0x0⟩,
  ⟨EVR_CNT_RECORDS, 1, 0, 1, 0, 0x0, 0x0, 0xFFFFFFFF, 0x0, 0x0, 0x0, 0x0⟩,
  ⟨EVR_TRIG_CFG, 32, 4, 1, 0, 0x8000003F, 0x8000003F, 0x0, 0x0, 0x0, 0x0, 0x80000000⟩,
  ⟨EVR_WIN, 64, 4, 1, 0, 0x0, 0x0, 0xFFFFFFFF, 0x0, 0x0, 0x0, 0x0⟩,
  ⟨EVR_LIST, 32, 256, 58, 4, 0x3FFFFFC, 0x3FFFFFC, 0x0, 0x0, 0x0, 0x0, 0x0⟩]

/-- The registers of block CTL (R19's index and the field tables of its chapter). -/
def regsCTL : List RegDesc := [
  ⟨CTL_STATUS, 1, 0, 1, 0, 0x0, 0x0, 0xFF80FFFF, 0x0, 0x0, 0x0, 0x0⟩,
  ⟨CTL_ERR, 1, 0, 1, 0, 0x20, 0x20, 0x0, 0x1F, 0x0, 0x0, 0x0⟩,
  ⟨CTL_ERR_ADDR, 1, 0, 1, 0, 0x0, 0x0, 0x3FFFFFF, 0x0, 0x0, 0x0, 0x0⟩,
  ⟨CTL_NOTIFY_DROP, 1, 0, 1, 0, 0x0, 0x0, 0xFFFFFFFF, 0x0, 0x0, 0x0, 0x0⟩,
  ⟨CTL_DMA_CTRL, 1, 0, 1, 0, 0x0, 0x0, 0x0, 0x0, 0x0, 0xFF, 0x0⟩,
  ⟨CTL_DMA_STATUS, 8, 4, 1, 0, 0x0, 0x0, 0xFF000000, 0x0, 0x0, 0x0, 0x0⟩,
  ⟨CTL_RING0_CFG, 1, 0, 1, 0, 0x3FF00, 0x3FF00, 0x0, 0x0, 0x0, 0x0, 0x400⟩,
  ⟨CTL_RING_CFG, 15, 64, 1, 0, 0x3FFFF, 0x3FFFF, 0x0, 0x0, 0x0, 0x0, 0x404⟩,
  ⟨CTL_RING_STATUS, 16, 64, 1, 0, 0x0, 0x0, 0xE000FFFF, 0x0, 0x0, 0x0, 0x0⟩,
  ⟨CTL_RING_SQ_BASE_LO, 15, 64, 1, 0, 0xFFFFF000, 0xFFFFF000, 0x0, 0x0, 0x0, 0x0, 0x0⟩,
  ⟨CTL_RING_SQ_BASE_HI, 15, 64, 1, 0, 0xFFFFFFFF, 0xFFFFFFFF, 0x0, 0x0, 0x0, 0x0, 0x0⟩,
  ⟨CTL_RING_CQ_BASE_LO, 16, 64, 1, 0, 0xFFFFF000, 0xFFFFF000, 0x0, 0x0, 0x0, 0x0, 0x0⟩,
  ⟨CTL_RING_CQ_BASE_HI, 16, 64, 1, 0, 0xFFFFFFFF, 0xFFFFFFFF, 0x0, 0x0, 0x0, 0x0, 0x0⟩,
  ⟨CTL_RING_SQ_TAIL, 15, 64, 1, 0, 0xFFFF, 0xFFFF, 0x0, 0x0, 0x0, 0x0, 0x0⟩,
  ⟨CTL_RING_SQ_HEAD, 15, 64, 1, 0, 0x0, 0x0, 0xFFFF, 0x0, 0x0, 0x0, 0x0⟩,
  ⟨CTL_RING_CQ_TAIL, 16, 64, 1, 0, 0x0, 0x0, 0xFFFF, 0x0, 0x0, 0x0, 0x0⟩,
  ⟨CTL_RING_CQ_HEAD, 16, 64, 1, 0, 0xFFFF, 0xFFFF, 0x0, 0x0, 0x0, 0x0, 0x0⟩]

end Reg

/-- The offset belongs to the register family. -/
def RegDesc.covers (r : RegDesc) (off : Nat) : Bool :=
  r.base ≤ off &&
  (let d := off - r.base
   let i := if r.stride = 0 then 0 else d / r.stride
   let i := if i < r.count then i else r.count - 1
   let e := d - i * r.stride
   let j := if r.stride2 = 0 then 0 else e / r.stride2
   decide (i * r.stride + j * r.stride2 = d) && decide (j < r.count2))

/-- The registers of the block an offset falls in (chapter 19's base column). -/
def blockRegs (off : Nat) : List RegDesc :=
  if off < 0x010000 then Reg.regsTOP
  else if off < 0x020000 then Reg.regsTCK
  else if off < 0x040000 then Reg.regsPWR
  else if off < 0x080000 then Reg.regsPRT
  else if off < 0x0C0000 then Reg.regsTRN
  else if off < 0x0E0000 then Reg.regsWIN
  else if off < 0x100000 then Reg.regsTEN
  else if off < 0x180000 then Reg.regsCLE
  else if off < 0x1A0000 then Reg.regsSTG
  else if off < 0x1C0000 then Reg.regsMED
  else if off < 0x200000 then Reg.regsDRC
  else if off < 0x240000 then Reg.regsNTL
  else if off < 0x260000 then Reg.regsDUR
  else if off < 0x280000 then Reg.regsTWN
  else if off < 0x2A0000 then Reg.regsINT
  else if off < 0x2C0000 then Reg.regsSEC
  else if off < 0x2D0000 then Reg.regsEFL
  else if off < 0x2E0000 then Reg.regsSEQ
  else if off < 0x2F0000 then Reg.regsTWB
  else if off < 0x300000 then Reg.regsCAL
  else if off < 0x310000 then Reg.regsSNS
  else if off < 0x320000 then Reg.regsEVR
  else Reg.regsCTL

/-- The register listed at an offset; none where the offset is unlisted (R12). -/
def regAt (off : Nat) : Option RegDesc := (blockRegs off).find? (fun r => r.covers off)

/-- The register belongs to a data-plane block (R17): its rw fields wait for the frame boundary, and its other bits
show the copy of the last tick boundary (R19, R26). -/
def isDataPlane (off : Nat) : Bool :=
  (0x010000 ≤ off && off < 0x020000) || (0x040000 ≤ off && off < 0x280000)

/-- The value of a register after power-on (R16). -/
def resetOf (off : Nat) : Word :=
  match regAt off with
  | some r => BitVec.ofNat 32 r.reset
  | none => 0

end Sys2Proof.Machine
end

