-- ==== Sys2Proof/Machine/StateTypes.lean ====
section
/-! DEFINITION. The records the machine's state is made of, block by block (R17): the tick counter, the ports and
QP contexts, the Operation Table and requests, windows and tenants, clause engines, tiles, the placement buffer. -/

namespace Sys2Proof.Machine

/-- The four service classes, in class-number order (R40). -/
inductive Cls
  | ristretto | lungo | drip | grounds
  deriving DecidableEq, Repr

/-- The states of a QP (chapter 03's context table). -/
inductive QpState
  | reset | init | rtr | rts | error
  deriving DecidableEq, Repr

/-- What a frame released to egress is (R69). -/
inductive FrameKind
  | readResponse | ack | atomicAck | atomicWriteResponse | invokeReply | notice | cnp | arpReply | neighborAdvert | pfc
  | nakSeq | nakInvalid | nakAccess | nakOper | nakRnr
  deriving DecidableEq, Repr

/-- A frame on its way out: released to a logical port's egress, or kept for retransmission (R90). -/
structure Frame where
  kind : FrameKind
  /-- BTH opcode (R69). -/
  bth : Nat := 0x11
  qpn : BitVec 24 := 0
  cls : Cls := .ristretto
  psn : BitVec 24 := 0
  msn : BitVec 24 := 0
  /-- Original value of an ATOMIC Acknowledge. -/
  orig : DWord := 0
  /-- Payload bytes. -/
  data : List Byte := []
  /-- Priority of a PFC frame, and its quanta (R65). -/
  prio : Nat := 0
  quanta : Nat := 0
  /-- Operation Table entries released when the frame is released: its request's own, and those of the WRITE messages that an Acknowledge
  covers (R96). -/
  opt : Option Nat := none
  acks : List Nat := []
  /-- ECN codepoint ECT(0) (R67), PCP and DSCP (R63), filled in at egress. -/
  ect0 : Bool := false
  pcp : Nat := 0
  dscp : Nat := 0
  deriving DecidableEq, Repr

/-- What a received request packet asks for, kept while it waits in a miss buffer (R80). -/
inductive ReqBody
  | read (r : Reth)
  | write (part : Part) (r : Reth) (payload : List Byte)
  | cmpSwap (rkey : Word) (va cmp swap : DWord)
  | fetchAdd (rkey : Word) (va add : DWord)
  | atomicWrite (rkey : Word) (va data : DWord)
  | flush (r : Reth) (sel placement : Byte)
  | send (part : Part) (payload : List Byte)
  | ack (kind : AckKind)
  | cnp
  | readResponse
  | unsupported (opcode : Byte)
  deriving DecidableEq, Repr

/-- A packet waiting in a physical port's miss buffer (R80, R81, R121). -/
structure MissEntry where
  pkt : Pkt
  body : ReqBody
  /-- Only its headers were kept (R81). -/
  headersOnly : Bool
  /-- 512 B units it occupies. -/
  units : Nat
  /-- Its place in the order of arrival, over all ports (R80). -/
  seq : Nat := 0
  deriving DecidableEq, Repr

/-- A WRITE or SEND message whose later packets are still to come. -/
structure OpenMsg where
  opt : Nat
  /-- Bytes of the message still to come, and the offset of the next one in the window. -/
  left : Nat
  next : Nat
  /-- Window index and generation of the message's entry (R118), and its key. -/
  win : Nat
  gen : Nat
  rkey : Word
  deriving DecidableEq, Repr

/-- An entry of a QP's atomic response history (R86). -/
structure AtomicHist where
  psn : BitVec 24
  orig : DWord
  /-- An ATOMIC WRITE, which is answered without an original value. -/
  isWrite : Bool
  deriving DecidableEq, Repr

/-- An entry of the outstanding READ/atomic queue (R86, R89): its PSN, response packets, Operation Table entry, and a
READ's RETH. -/
structure OutRec where
  psn : BitVec 24
  packets : Nat
  opt : Nat
  reth : Option Reth
  deriving DecidableEq, Repr

/-- A QP context (chapter 03's table), with the write sequence of R351 and R352 and the repeat window of R370. -/
structure Qp where
  state : QpState := .reset
  cls : Cls := .lungo
  tenant : Nat := 0
  remoteQpn : BitVec 24 := 0
  mac : BitVec 48 := 0
  vlan : BitVec 16 := 0
  ip : BitVec 128 := 0
  ipv6 : Bool := false
  udpPort : BitVec 16 := 0
  /-- 0 for 256 B to 4 for 4,096 B (R71). -/
  pmtu : Nat := 0
  egressLp : Nat := 0
  altLp : Nat := 0
  ePsn : BitVec 24 := 0
  msn : BitVec 24 := 0
  reqNext : BitVec 24 := 0
  reqOldest : BitVec 24 := 0
  ackCode : Nat := 0
  retry : Nat := 0
  rnrRetry : Nat := 0
  minRnr : Nat := 0
  maxRd : Nat := 1
  notice : Bool := false
  bond : Nat := 0
  /-- Last-status word: extended code and PSN (R88). -/
  lastCode : Nat := 0
  lastPsn : BitVec 24 := 0
  /-- Congestion rate r of R92 and the tick of the last CNP received or rate step. -/
  rate : Nat := 256
  rateTick : Nat := 0
  /-- Tick of the last CNP sent (R91). -/
  cnpSent : Option Nat := none
  /-- Tick and cycle at which the next paced frame may be released (R92), in CCLK since reset. -/
  paceAt : Nat := 0
  /-- A PSN sequence error NAK has been sent and ePSN has not arrived (R85). -/
  seqNaked : Bool := false
  /-- An RNR NAK has been sent and ePSN has not arrived (R82). -/
  rnrHold : Bool := false
  /-- Outstanding READ and atomic requests (R86, R89). -/
  outstanding : List OutRec := []
  history : List AtomicHist := []
  /-- Highest PSN already acknowledged (R86). -/
  ackedPsn : BitVec 24 := 0
  /-- PSNs whose Acknowledge is due (R87). -/
  ackDue : List (BitVec 24) := []
  /-- The lowest PSN of a request that failed: no Acknowledge covers it (R87). -/
  failed : Option (BitVec 24) := none
  /-- Messages begun: the message number of the newest (R87, R356). -/
  begun : BitVec 24 := 0
  /-- Operation Table entries of WRITE messages, by the PSN of the last packet whose Acknowledge releases them (R96). -/
  ackOpts : List (BitVec 24 × Nat) := []
  /-- Retransmission state: frames sent and not acknowledged, oldest first (R90). -/
  unacked : List Frame := []
  retriesLeft : Nat := 0
  rnrLeft : Nat := 0
  /-- Tick at which the requester last sent or heard (R90), and at which an RNR wait ends. -/
  sentTick : Nat := 0
  rnrUntil : Option (Nat × BitVec 24) := none
  /-- A SEND message being collected (R75). -/
  sendBuf : List Byte := []
  sendOpen : Bool := false
  openMsg : Option OpenMsg := none
  /-- ACC, PLC and MIR of R352, and the lines of each event not yet Placed or Mirrored: (WSEQ, unplaced, unmirrored, MSN). -/
  acc : Word := 0
  plc : Word := 0
  mir : Word := 0
  events : List (Nat × Nat × Nat × Nat) := []
  /-- The cross-checker's independent count: (WSEQ, lines, placed, mirrored) (R355). -/
  xcheck : List (Nat × Nat × Nat × Nat) := []
  /-- Last ASEQ given (R366). -/
  aseq : Nat := 0
  /-- Repeat window: entries still to be repeated, oldest first, by their ASEQ (R371). -/
  repeatLeft : List Nat := []
  deriving DecidableEq, Repr

/-- A tenant record (R98) with its key-lost mark (R131) and its meters of the present period (R133). -/
structure Tenant where
  encrypt : Bool := false
  risAllowed : Bool := false
  scmQuota : Nat := 0
  pinQuota : Nat := 0
  tileQuota : Nat := 0
  /-- WRAPPED_KEY as TENANT_CREATE gave it (R98, R478): the unwrapped key stands in the key-store slot alone (R130). -/
  key : List Byte := []
  keyLost : Bool := false
  /-- The six counters of R133 for the period not yet written. -/
  meters : List Nat := [0, 0, 0, 0, 0, 0]
  createdInPeriod : Bool := true
  /-- Destroyed; the record waits for the batch that holds it (R136). -/
  destroyed : Bool := false
  deriving DecidableEq, Repr

/-- An extent entry (R106). -/
structure Extent where
  tenant : Nat := 0
  /-- Home side: false A, true B. -/
  sideB : Bool := false
  pinCount : Nat := 0
  deriving DecidableEq, Repr

/-- A window's STATE (R110). -/
inductive WinState
  | free | opened | closing | retired
  deriving DecidableEq, Repr

/-- A window index's descriptor (R110), with the drain of a revocation (R124). -/
structure Window where
  vaBase : Nat := 0
  progId : Nat := 0
  pnaBase : Nat := 0
  tenant : Nat := 0
  length : Nat := 0
  /-- Bit 0 R, 1 W, 2 A, 3 F, 4 I. -/
  rights : BitVec 5 := 0
  pinned : Bool := false
  state : WinState := .free
  gen : Nat := 0
  /-- Revocation: ring and TAG of its completions, requests that held an entry at b, requests cut. -/
  revokers : List (Nat × Word) := []
  held : Nat := 0
  cut : Nat := 0
  deriving DecidableEq, Repr

/-- Where a page of the namespace lies (chapter 08 and 10): Unwritten pages have no entry. -/
inductive PageLoc
  /-- SCM: stack, region frame. -/
  | scm (stack : Nat) (frame : Nat)
  /-- NAND: TPN. -/
  | nand (tpn : Nat)
  deriving DecidableEq, Repr

/-- A request's operation kind number (R165) is a Nat; this is what its answer is. -/
inductive OptKind
  | read | write | cmpSwap | fetchAdd | atomicWrite | flush | invoke
  deriving DecidableEq, Repr

/-- An Operation Table entry (R96). -/
structure OptEntry where
  kind : OptKind
  qpn : BitVec 24
  cls : Cls
  lp : Nat
  /-- Tick of arrival (R53). -/
  tick : Nat
  psn : BitVec 24
  win : Nat
  gen : Nat
  /-- A WRITE message with packets still to come (R124). -/
  more : Bool := false
  /-- It was on a window at that window's boundary b (R124). -/
  drains : Bool := false
  /-- The WRITE_NEXT entry in force when the First packet was bound (R145). -/
  nextEntry : Option DWord := none
  firstEntry : Option DWord := none
  deriving DecidableEq, Repr

/-- The working copy of a request's clause state (R141, R146). -/
structure Ctx where
  pc : Nat := 0
  /-- g1–g31; g0 is never listed. -/
  g : Table DWord := []
  /-- p1–p7; p0 is never listed. -/
  p : Table Bool := []
  /-- Tile handles: the tile each handle binds. -/
  t : Table Nat := []
  /-- Kept pad, bytes 0–255. -/
  pad : Mem := []
  /-- Pad bytes 256–8,191 that the present segment has written; the others are undefined (R141): free values counted
  from `seed`. -/
  scratch : Table Byte := []
  seed : Nat := 0
  deriving DecidableEq, Repr

/-- A buffered effect of a window write: offset in the window and bytes (R197). -/
structure WinWrite where
  off : Nat
  bytes : List Byte
  deriving DecidableEq, Repr

/-- Effects buffered until COMMIT (R152). -/
structure Effects where
  writes : List WinWrite := []
  post : Option (Nat × DWord) := none
  reply : Option (Nat × List DWord) := none
  notifies : List (Nat × List Byte) := []
  meters : List (Nat × Nat) := []
  deriving DecidableEq, Repr

/-- An MREAD of the present clause (R196). -/
structure MRead where
  off : Nat
  len : Nat
  /-- none: the response path; some a: the pad at a. -/
  dst : Option Nat
  /-- Its first bytes, which are read before COMMIT: all of them, but for what lies past the first 16 KiB of a response (R196). -/
  now : Nat := 0
  done : Bool := false
  data : List Byte := []
  /-- Its bytes have been written to the pad at a resume. -/
  applied : Bool := false
  deriving DecidableEq, Repr

/-- A MATOM of the request (R155, R198). -/
structure MAtom where
  sub : Nat
  off : Nat
  ops : List DWord
  /-- Destination register. -/
  d : Nat
  pos : Nat
  /-- Its place in the order of issue of all MATOMs (R155). -/
  seq : Nat := 0
  /-- The PNA it acts on. -/
  pna : Nat := 0
  /-- The read of its line has been asked for; its old value cannot be read, and it will not be performed. -/
  read : Bool := true
  failed : Bool := false
  accepted : Bool := false
  orig : List DWord := []
  /-- Its original value has reached the destination registers. -/
  applied : Bool := false
  deriving DecidableEq, Repr

/-- A FENCE of the present clause (R200, R354). -/
structure FenceRec where
  target : Word
  /-- Tick of issue (R380). -/
  tick : Nat
  done : Bool := false
  deriving DecidableEq, Repr

/-- A tile of a stage: window source at an offset, or zeroed scratch. -/
structure TileSrc where
  off : Nat
  zero : Bool
  /-- The tile that holds it, once a fill has completed. -/
  tile : Option Nat := none
  /-- It first became resident before the last commit: BYTES_READ has counted it (R238). -/
  counted : Bool := false
  /-- It has been filled before: a further fill is a refetch (R233, R248). -/
  filled : Bool := false
  deriving DecidableEq, Repr

/-- A stage of a pour schedule (R199). -/
structure StageRec where
  tiles : List TileSrc
  /-- Failed with an extended code (R237, R241). -/
  failed : Option Nat := none
  deriving DecidableEq, Repr

/-- A request's pour schedule and cursor (R225). -/
structure Pour where
  stages : List StageRec := []
  cursor : Nat := 0
  deriving DecidableEq, Repr

/-- What a request waits for (R150). -/
inductive Wait
  | media | stage (k : Nat) | fence | time (tick : Nat) | commit (sub : Nat)
  deriving DecidableEq, Repr

/-- Where a request stands between admission and its end. -/
inductive ReqState
  /-- In its ready queue since the given ready order (R148). -/
  | ready (order : Nat) (resumed : Bool)
  /-- A segment of it runs on a strand. -/
  | running (strand : Nat)
  /-- It waits for an event; the boundary that followed the waiting segment is the given tick (R239). -/
  | waiting (w : Wait) (since : Nat)
  /-- Its awaited event is ready; it becomes ready at the next boundary. -/
  | wakes
  /-- Its segment was discarded by a fence or a fetch error; it restarts at the next boundary (R176, R178). -/
  | discarded
  /-- It waits in the restart queue, requester 33 of its cluster, since the given ready order. -/
  | restart (order : Nat)
  /-- Waits for merge reads (R360), for a NAND page to be promoted before a write (R279), or for the return gap. -/
  | held
  /-- It has ended; its MATOMs issued and not yet Accepted are still to be performed (R155, R206). -/
  | ended
  deriving DecidableEq, Repr

/-- A merge read of a request (R360): its line; returned; a write to the line was Accepted since it was issued. -/
structure MergeRec where
  line : Nat
  done : Bool := false
  stale : Bool := false
  deriving DecidableEq, Repr

/-- What is left of a long READ response (R196): the parts of the window still to be read, as offset and length, in order. -/
structure RestRec where
  parts : List (Nat × Nat)
  psn : BitVec 24
  /-- A read of it has failed, with its code. -/
  fail : Option Nat := none
  deriving DecidableEq, Repr

/-- A request bound for, or on, a clause engine (R144). -/
structure Request where
  qpn : BitVec 24 := 0
  lp : Nat := 0
  cls : Cls := .lungo
  /-- Operation kind (R165). -/
  kind : Nat := 0
  bthOp : Nat := 0
  rkey : Word := 0
  win : Nat := 0
  tenant : Nat := 0
  psn : BitVec 24 := 0
  /-- Message number the request completes (R87), for DURABLE_MSN (R356). -/
  msn : BitVec 24 := 0
  /-- Window-relative offset and length (cx_addr, cx_len of R141). -/
  addr : Nat := 0
  len : Nat := 0
  args : List DWord := []
  payload : List Byte := []
  tag : Word := 0
  /-- Last or Only packet of its message, and AckReq (R87). -/
  last : Bool := true
  ackReq : Bool := false
  /-- Operation Table entry; none for chip-originated work. -/
  opt : Option Nat := none
  /-- Rights it may use (R111, R156). -/
  rights : BitVec 5 := 0
  st : ReqState := .ready 0 false
  /-- Image slot and ENTRY bound at first dispatch (R22). -/
  slot : Option Nat := none
  entry : Nat := 0
  cluster : Option Nat := none
  frame : Nat := 0
  ctx : Ctx := {}
  stack : List Nat := []
  ckpt : Ctx := {}
  ckptPour : Option Pour := none
  /-- STAGEs executed since the checkpoint; the window tiles that first became resident since the last commit, by the number of the STAGE
  that declared them, stage, index and offset (R238, log 151). -/
  stagings : Nat := 0
  firsts : List (Nat × Nat × Nat × Nat) := []
  eff : Effects := {}
  mreads : List MRead := []
  /-- Data of the clause's earlier MREADs kept for a restart (R178). -/
  kept : List MRead := []
  matoms : List MAtom := []
  /-- MATOMs of the clause that were logged before a restart (R155). -/
  logged : List MAtom := []
  /-- A MEDIA wait has ended: what was read reaches pad and registers at the resume (R196, R198). -/
  mediaDue : Bool := false
  fences : List FenceRec := []
  pour : Option Pour := none
  cxTick : DWord := 0
  /-- ASEQ of a plain atomic, once it has been performed (R366). -/
  aseq : Nat := 0
  /-- A TRAP_FETCH_UE has already restarted it (R176). -/
  fetchUe : Bool := false
  /-- A clause of it has committed (R124's "nothing since its last COMMIT"). -/
  committed : Bool := false
  /-- It released a reply or response (R159). -/
  answered : Bool := false
  /-- It executes a duplicate again, whose message was counted before (R86, R87). -/
  again : Bool := false
  /-- Repeat of a logged atomic or Invoke (R371, R373): original values by MATOM position. -/
  repeated : Table (List DWord) := []
  /-- Merge reads issued for it (R360). -/
  merges : List MergeRec := []
  /-- Bytes read that a commit will count (R133). -/
  bytesRead : Nat := 0
  /-- A READ response longer than 16 KiB after its COMMIT (R196). -/
  rest : Option RestRec := none
  /-- Lines whose read failed, with the code the wait ends with (R150). -/
  readFail : Option Nat := none
  deriving DecidableEq, Repr

/-- An image slot (R172, R173). -/
structure Image where
  /-- 1 Executable, 2 Draining, 3 Loading (CLE_IMAGE_INFO.STATE). -/
  state : Nat
  id : Word
  version : Word
  blocks : Nat
  /-- Its entry records, as keys and entries of the conjugation table (R164, R171). -/
  records : List (Nat × DWord)
  code : List DWord
  /-- SIGNATURE of the image (R481). -/
  sig : List Byte := []
  deriving DecidableEq, Repr

/-- The MCP pair (R207–R213). -/
structure Mcp where
  pc : Nat := 0
  g : Table DWord := []
  p : Table Bool := []
  stack : List Nat := []
  /-- Internal CSRs by number (R209); CYCLE is separate. -/
  csr : Table DWord := []
  cycles : Nat := 0
  cycleHi : Word := 0
  irqPend : BitVec 16 := 0
  halted : Bool := false
  running : Bool := false
  /-- SRAM and the mapped memories the MCP addresses (chapter 14). -/
  sram : Mem := []
  /-- Instruction-buffer lines held, by address / 64, as they were fetched (R213). -/
  ibuf : Table (List Byte) := []
  deriving DecidableEq, Repr

/-- The states of a tile (R224); a Free tile has no record. -/
inductive TileState
  | filling | ready | held
  deriving DecidableEq, Repr

/-- A tile that is not Free. -/
structure Tile where
  state : TileState
  tenant : Nat
  /-- Its request and its place in the schedule. -/
  req : Nat
  stage : Nat
  index : Nat
  /-- Order in which its fill completed (R232). -/
  order : Nat := 0
  bytes : Mem := []
  /-- PNA of its first byte, and the bytes it takes from the window: none for scratch (R227, R229). -/
  base : Nat := 0
  len : Nat := 0
  /-- Request frame of its request (R244). -/
  frame : Nat := 0
  /-- Lines that have been read (R229). -/
  taken : List Nat := []
  /-- Its request has ended or its schedule was replaced while it is Filling: free it when its fill completes (R247). -/
  orphan : Bool := false
  /-- Free it at the next tick boundary (R225, R241, R247). -/
  freeing : Bool := false
  deriving DecidableEq, Repr

/-- A stager channel (R231, R244). -/
structure Channel where
  tile : Option Nat := none
  halted : Bool := false
  /-- RESUME written; the halt clears at the next frame boundary (R245). -/
  resume : Bool := false
  /-- Halts since reset (R443). -/
  halts : Nat := 0
  deriving DecidableEq, Repr

/-- A placement-buffer entry: one Accepted line (R357). -/
structure PbEntry where
  /-- Line number: PNA / 64. -/
  line : Nat
  /-- Its bytes, and their form: an entry of a line Accepted here as home holds plaintext, one from the twin what came. -/
  data : List Byte
  cipher : Bool := false
  tenant : Nat
  qpn : BitVec 24
  wseq : Nat
  epoch : Nat
  /-- Accepted from the twin link (mirror partition). -/
  mirror : Bool
  /-- Twin-link frame that carried it, for CONFIRM (R401). -/
  frame : Nat := 0
  /-- Its WR is issued; confirmed by the stack; sent to the twin. -/
  issued : Bool := false
  stored : Bool := false
  shipped : Bool := false
  placed : Bool := false
  mirrored : Bool := false
  cls : Cls := .lungo
  /-- Belongs to an intent slot (R375): its images go to the slot first. -/
  intent : Option Nat := none
  deriving DecidableEq, Repr

/-- What names an outcome entry: bond, plain atomic or Invoke, ASEQ or TAG, MATOM position (R368); and the QP of this unit's own ones,
which tells apart the QPs without a bond. -/
structure OutcomeKey where
  bond : Nat
  invoke : Bool
  seq : Nat
  pos : Nat
  qpn : BitVec 24 := 0
  deriving DecidableEq, Repr

/-- An outcome entry (R367). -/
structure Outcome where
  bond : Nat
  sideB : Bool
  kind : Nat
  /-- ASEQ, or the Invoke TAG. -/
  seq : Nat
  rkey : Word
  pos : Nat
  va : Nat
  ops : List DWord
  orig : List DWord
  epoch : Nat
  /-- The QP of this unit on which the MATOM ran, and its class and tenant (R41). -/
  qpn : BitVec 24 := 0
  cls : Cls := .grounds
  tenant : Nat := 0
  /-- The twin has confirmed it, or it is Placed locally in SOLO mode (R369). -/
  confirmed : Bool := false
  deriving DecidableEq, Repr

/-- The answer of a plain atomic or of an Invoke. -/
inductive Answer
  | atomic (psn : BitVec 24) (orig : DWord) (isWrite : Bool) (opt : Option Nat)
  | invoke (bytes : List Byte) (opt : Option Nat)
  deriving DecidableEq, Repr

/-- An answer that waits for outcome entries to be confirmed (R369): its QP and the entries' bond, kind, number and
position. -/
structure HeldAnswer where
  qpn : BitVec 24
  answer : Answer
  waits : List OutcomeKey
  deriving DecidableEq, Repr

/-- The pair-role record as persistent metadata holds it (R402). STATE: 1 Paired, 4 Survivor, 5 Yielded, 6 Returning,
7 Alone. -/
structure RoleRec where
  state : Nat
  /-- Bit 0: serves side A; bit 1: serves side B. -/
  serves : Nat
  solo : Bool
  epoch : Nat
  pairId : DWord
  deriving DecidableEq, Repr

/-- What an entry of the metadata held before a change whose journal group may not be Placed yet (R387): a page's location, a frame's
entry, an extent's in-flight mark, a line's poison mark, the pair-role record. -/
inductive Undo
  | page (page : Nat) (old : Option PageLoc)
  | frame (stack frame : Nat) (old : Option (Nat × Nat))
  | mark (extent : Nat) (old : Option (Nat × Nat))
  | poison (line : Nat) (old : Option Bool)
  | role (old : Option RoleRec)
  deriving DecidableEq, Repr

/-- A persistent intent slot in use (R374). -/
structure Intent where
  /-- Line numbers and images, as they are stored (R129). -/
  lines : List (Nat × List Byte)
  tenant : Nat
  epoch : Nat
  valid : Bool := false
  /-- Lines whose image is Placed; the header is issued; home writes are issued; lines whose home write is Placed. -/
  images : Nat := 0
  headed : Bool := false
  homing : Bool := false
  homes : Nat := 0
  twinDone : Bool := false
  /-- Received from the twin (INTENT): the twin's slot. -/
  fromTwin : Bool := false
  peer : Nat := 0
  /-- The header as it is stored, once Placed (R374, R377); its INTENT frames have been sent (R375). -/
  stored : List Byte := []
  shipped : Bool := false
  qpn : BitVec 24 := 0
  wseq : Nat := 0
  cls : Cls := .grounds
  deriving DecidableEq, Repr

/-- A command in progress on a ring: its completion waits (R578). -/
structure PendCmd where
  opcode : Nat
  tag : Word
  /-- It waits for the next tick boundary. -/
  tick : Bool := false
  /-- Journal group it waits for (R388). -/
  group : Option Nat := none
  /-- It waits for an event of its own: a pinned publication, a revoke drain, a freed extent, a drill. -/
  event : Bool := false
  result : Nat := 0
  w0 : DWord := 0
  w1 : DWord := 0
  w2 : DWord := 0
  deriving DecidableEq, Repr

/-- An entry written to a completion or notification ring (R584). -/
structure RingEntry where
  type : Nat
  phase : Bool
  b2 : Nat
  b3 : Nat
  tag : Word
  w0 : DWord
  w1 : DWord
  w2 : DWord
  deriving DecidableEq, Repr

/-- A control ring (R575, R576). Indices, sizes and bases are its CTL registers. -/
structure Ring where
  /-- Commands fetched and not begun. -/
  fetched : Nat := 0
  busy : Option PendCmd := none
  /-- PHASE of the chip's present pass through the completion or notification ring (R577). -/
  phase : Bool := true
  /-- The 32 bytes of each entry as the chip wrote them, by slot. -/
  entries : Table (List Byte) := []
  dropped : Nat := 0
  deriving DecidableEq, Repr

/-- A change of role on its way through the fault-signalling point, acted on at the next tick boundary (R27, R28). -/
inductive PairSignal
  /-- The link is silent: LinkHold (R411); it is back. -/
  | hold
  | paired
  /-- LinkSolo (R412); a Survivor without its twin is in SOLO mode again (R420). -/
  | solo
  | soloAgain
  /-- Takeover begins; the twin's side is served here (R405, R406). -/
  | takeover
  | serve
  /-- The unit yields, in a drill or not (R403, R423); a drill without HOLD ends (R415). -/
  | yield (drill hold : Bool)
  | returning
  /-- Resynchronization begins (R413, R415); the survivor's tables replace this unit's; the sides change back (R418). -/
  | resync
  | metadata
  | switchSides
  /-- The pair is lost; the unit goes on serving (R405) or serves nothing. -/
  | lost (serves : Bool)
  /-- The role at start-up is to be decided; PAIR_WAIT has passed (R421). -/
  | decide
  | alone
  deriving DecidableEq, Repr

/-- A change processed by the control plane and not yet published (R19, R20). -/
inductive Change
  | tenantCreate (id : Nat) (t : Tenant)
  | tenantDestroy (id : Nat)
  | extentAlloc (e : Nat) (x : Extent)
  /-- The free of an extent: ring and TAG of its completion. -/
  | extentFree (e : Nat) (ring : Nat) (tag : Word)
  /-- One more, or one fewer, pinned window covers an extent (R115). -/
  | pin (e : Nat) (up : Bool)
  /-- Pages a discard names, first and one past the last (R342). -/
  | discard (first last : Nat)
  | windowOpen (i gen : Nat) (d : WinDesc)
  | windowModify (i : Nat) (mask rights pinned prog : Nat)
  | revoke (i ring : Nat) (tag : Word)
  | qpCreate (q : Nat) (c : Qp)
  | qpModify (q : Nat) (b : QpBlock)
  | qpDestroy (q : Nat)
  /-- SCM_FORMAT: META_REGIONS and PAIR_ID (R581). -/
  | format (regions : Nat) (pairId : DWord)
  deriving DecidableEq, Repr

/-- A change with the journal group that must be Placed before it is published (R388); a pinned publication is held until no page
of its extents is in NAND (R115). -/
structure PendChange where
  group : Option Nat
  change : Change
  held : Bool := false
  deriving DecidableEq, Repr

/-- A pinned publication that waits for its extents' pages to leave NAND (R115): its ring and TAG. -/
structure PinRec where
  ring : Nat
  tag : Word
  deriving DecidableEq, Repr

end Sys2Proof.Machine
end

