-- ==== Sys2Proof/Machine/State.lean ====
section
/-! DEFINITION. The state of one BY-7420 and the queue of the commands waiting for it; the reasons a step can stop;
the state right after power-on reset. -/

namespace Sys2Proof.Machine

open Sys2Proof

/-- The BAR0 register bank. `val` holds every register as its own plane sees it now; `eff` the data-plane rw fields
in force since the last frame boundary (R19, point 2); `copy` the data-plane status bits as of the last tick boundary
(R26). Each is a valued table whose unlisted registers read as their reset values (R16). -/
structure Bar where
  val : Table Word := []
  eff : Table Word := []
  copy : Table Word := []
  /-- Upper halves captured per requester (R15): control port, MCP, JTAG, by lower register. -/
  capControl : Table Word := []
  capMcp : Table Word := []
  capJtag : Table Word := []
  /-- The last read completion given to each requester, zero-extended; 64 bits of a 64-bit access (R9). -/
  lastRead : Table DWord := []
  deriving DecidableEq, Repr

/-- Snapshots of the last tick boundary that a select register chooses among (R26): by slot, state and blocks and entries of
its image, IMAGE_ID, VERSION and requests bound; by QPN, the fronts ACC, PLC and MIR, and what QUERY shows of a
context (R581); by tenant, TILE_QUOTA and tiles charged. -/
structure Snap where
  images : Table (List Word) := []
  fronts : Table (List Word) := []
  qps : Table (Nat × Nat × Nat) := []
  tiles : Table Word := []
  deriving DecidableEq, Repr

/-- The tick and frame counter (chapter 02). -/
structure Tck where
  tick : DWord := 0
  /-- Tick boundaries since reset: every arbiter's rotation pointer is this modulo its n (R51). -/
  boundaries : Nat := 0
  /-- CCLK cycles since reset at which the present tick began, and at which the counter's last multiple of 3,000,000 began
  (R35, R48, R92). -/
  start : Nat := 0
  second : Nat := 0
  /-- The measured distances from PPS_IN and from the twin's counter, in CCLK, less what has been slewed since (R35, R36);
  ticks since the last slew tick. -/
  phase : Option Int := none
  offset : Option Int := none
  sinceSlew : Nat := 16
  /-- Length of the present tick in CCLK: 1,024, or 1,023 or 1,025 in a slew tick (R33, R36). -/
  length : Nat := 1024
  /-- The last selected PPS_IN edge, in tick boundaries since reset, which no load of the counter moves (R38). -/
  lastEdge : Option Nat := none
  /-- PPS_FAR has been reported for the present excursion (R37). -/
  farPosted : Bool := false
  /-- Applied staged tables before conversions, by table number (R588 step 1); unlisted: the reset table. -/
  applied : Table (BitVec 128) := []
  /-- Ristretto slots used in the present tick, by table (R45). -/
  risUsed : Table Nat := []
  /-- Ristretto slots that work already started uses in the ticks to come, by table (R45, R48). -/
  risNext : Table Nat := []
  /-- Entries of a table whose capacity work has taken, counted from the start of the present tick: an item that lasts past the tick
  takes entries of later ones too (R44, R48). -/
  slotUsed : Table Nat := []
  /-- Per-port urgency of R53. -/
  urgency : Table Nat := []
  /-- Engines whose strands' entries R55 passed over when the effective tables were last built. -/
  dead : BitVec 64 := 0
  deriving DecidableEq, Repr

/-- The Ethernet ports (chapter 03). -/
structure Prt where
  /-- Priorities paused by the peer: key 8 × lp + q, the end of the pause in CCLK since reset (R64). -/
  pausedRx : Table Nat := []
  /-- Priorities for which the chip asserts PFC: key 8 × lp + q, when it last sent it, in CCLK since reset (R65). -/
  pauseTx : Table Nat := []
  /-- Ingress occupancy: key 8 × lp + q, 256 B units. -/
  occ : Table Nat := []
  /-- Miss buffer of each physical port, oldest first (R80); packets that have joined one since reset. -/
  miss : Table (List MissEntry) := []
  missSeq : Nat := 0
  /-- Frames released to egress and not yet sent, oldest first, by logical port (R58). -/
  egress : Table (List Frame) := []
  /-- Frames held because both ports of their QP are down (R94). -/
  heldOut : List Frame := []
  /-- The last frame whose first bit left each logical port, with its tick and cycle. -/
  sent : Table (Frame × Nat × Nat) := []
  /-- When each logical port will have sent its last bit, in CCLK since reset (R48). -/
  busy : Table Nat := []
  /-- The slot-table entry last looked at, by the cycle it began in, counted from the start of the clock, and whether it was lent: it
  names Ristretto and no Ristretto frame was pending then (R46). -/
  loans : Table (Nat × Bool) := []
  /-- Logical ports that are up at the forced speed of their mode: AN_EN was 0 as the link came up (R60). -/
  forced : Table Bool := []
  deriving DecidableEq, Repr

/-- One set of a 16-way cache with tree-PLRU over 15 bits (R78, R120): way → key and dirty flag. -/
structure CacheSet where
  ways : Table (Nat × Bool) := []
  plru : BitVec 15 := 0
  deriving DecidableEq, Repr

/-- The transport (chapter 03). -/
structure Trn where
  /-- Published QP contexts. -/
  qps : Table Qp := []
  /-- Ristretto context store: entry → QPN (R78). -/
  store : Table Nat := []
  cache : Table CacheSet := []
  /-- QPs whose hot part is being fetched (R80), and victims being written back: QPN → accepted (R83). -/
  fetching : Table Bool := []
  writeback : Table Bool := []
  /-- Where an install under way will go: QPN → (set, way). -/
  installs : Table (Nat × Nat) := []
  opt : Table OptEntry := []
  /-- Frames of paced QPs that wait for their pacing interval (R92), by QPN. -/
  paceq : Table (List Frame) := []
  deriving DecidableEq, Repr

/-- Windows, tenants, extents and pages (chapter 04). -/
structure Win where
  tenants : Table Tenant := []
  extents : Table Extent := []
  windows : Table Window := []
  /-- Location of each written page, by page number PNA / 16,384; an Allocated page not listed is Unwritten (R107). -/
  pages : Table PageLoc := []
  /-- Pinned key store (window indices) and key cache (R120). -/
  pinStore : Table Bool := []
  keyCache : Table CacheSet := []
  /-- Descriptors being fetched (R121). -/
  fetching : Table Bool := []
  /-- Changes processed and not yet published, oldest first (R20). -/
  changes : List PendChange := []
  /-- Key-store slots holding an unwrapped key (R130). -/
  keySlots : Table (List Byte) := []
  /-- Pages a discard hint names and Grounds work has not yet visited (R342): a write was Accepted since. -/
  discards : Table Bool := []
  /-- NAND pages that an accepted pinning is to promote, each with a frame reserved (R116). -/
  reserved : List Nat := []
  /-- Pinned publications that wait for promotion (R115), oldest first, with their window indices. -/
  pinWait : List (Nat × PinRec) := []
  /-- Tenants that have met their SCM_QUOTA and whose pages are destaged down to seven eighths of it (R105). -/
  draining : List Nat := []
  deriving DecidableEq, Repr

/-- Tenant meters (chapter 04). -/
structure Ten where
  seq : Nat := 0
  /-- Slots written and not yet read, oldest first: TEN_BATCH_RD has not been advanced past them (R137). -/
  unread : List Nat := []
  /-- First minute of the period, minutes carried, and its flags (R135, R137). -/
  firstMinute : Nat := 0
  minutes : Nat := 0
  flags : Nat := 0
  /-- Batches written and not yet signed: slot, SEQ, bytes without the signature, tick of the mark (R138). -/
  unsigned : List (Nat × Nat × List Byte × Nat) := []
  /-- The batch ring as the chip wrote it, by slot. -/
  ring : Table (List Byte) := []
  deriving DecidableEq, Repr

/-- The clause engines (chapters 05 and 06). -/
structure Cle where
  reqs : Table Request := []
  /-- Ready order given so far (R148). -/
  order : Nat := 0
  /-- The segment that runs on each strand: request and tick of dispatch. -/
  strands : Table (Nat × Nat) := []
  fenced : BitVec 64 := 0
  gated : BitVec 64 := 0
  /-- Engines whose fence signal the data plane has not yet acted on (R27). -/
  fencing : BitVec 64 := 0
  /-- Engines that the integrity manager is about to fence (R439, R440, R443). -/
  fenceDue : BitVec 64 := 0
  /-- Overruns per engine; boundaries in a row at which an engine was offered work and issued nothing; engines offered work at
  the last boundary, and whether they have issued anything since (R440). -/
  overruns : Table Nat := []
  idle : Table Nat := []
  issued : Table Bool := []
  images : Table Image := []
  /-- Conjugation table, active and staged: key 32 × PROG_ID + KIND (R164). -/
  conj : Table DWord := []
  conjStaged : Table DWord := []
  /-- Chip-originated work held for want of a valid entry, oldest first: its kind and its command (R166). -/
  grounds : List (Nat × Instr) := []
  /-- Strand that issued last, by engine; turns that a strand's instruction still takes (R140). -/
  lastIssued : Table Nat := []
  turns : Table Nat := []
  /-- Lines of each engine's instruction cache, by 128 × engine + set: image slot and code line, newest first (R175). -/
  icache : Table (List (Nat × Nat)) := []
  lastTrapWin : Nat := 0
  deriving DecidableEq, Repr

/-- The stager and tile memory (chapter 07). -/
structure Stg where
  tiles : Table Tile := []
  channels : Table Channel := []
  order : Nat := 0
  deriving DecidableEq, Repr

/-- Durability (chapter 11). -/
structure Dur where
  /-- Placement buffer, in the order of admission (R365). -/
  pb : List PbEntry := []
  epoch : Nat := 0
  solo : Bool := false
  /-- Own outcome entries awaiting confirmation, and the twin outcome table by bond (R368). -/
  outcomes : List Outcome := []
  twinOutcomes : List Outcome := []
  /-- Answers held until the twin has their outcome entries (R369). -/
  heldAnswers : List HeldAnswer := []
  intents : Table Intent := []
  /-- In-flight extent map (R383): extent → journal group of its mark, frame boundaries in a row without an unmirrored
  line. -/
  inflight : Table (Nat × Nat) := []
  /-- Pages whose mapping is journalled and not yet Placed (R350): page → group. -/
  mapGroups : Table Nat := []
  /-- Journal: sequence of the newest group, groups not yet Placed, groups Placed and not yet applied (R387). -/
  journalSeq : Nat := 0
  journalOpen : List Nat := []
  journalPlaced : List Nat := []
  /-- TABLE and INDEX of each record of a group not yet applied; home writes outstanding of a group being applied (R387). -/
  groups : Table (List (Nat × Nat)) := []
  applying : Table Nat := []
  /-- Frames and TPNs that become free once a group is Placed (R388). -/
  frees : List (Nat × PageLoc) := []
  /-- What entries changed through journal groups held before, by group, oldest first, from the oldest group not yet Placed on (R387). -/
  undo : List (Nat × Undo) := []
  deriving DecidableEq, Repr

/-- The control port (chapter 19). -/
structure Ctl where
  rings : Table Ring := []
  notifySeq : Nat := 0
  /-- Notifications dropped since the last Lost entry (R585). -/
  lost : Nat := 0
  /-- MSI-X messages sent, by vector (R587). -/
  msix : Table Nat := []
  /-- The control-software region (R581), and the bytes the chip last wrote to the control CPU's memory. -/
  region : Mem := []
  hostData : List Byte := []
  /-- Notifications of the data plane waiting for the next tick boundary (R26): ring and bytes. -/
  outbound : List (Nat × List Byte) := []
  /-- Meter channels MB0 and MB1 whose RESUME waits for the next frame boundary (R586): bits 6 and 7. -/
  resume : Byte := 0
  deriving DecidableEq, Repr

/-- A transaction outstanding on a media link, named by its TAG (R255, R257). -/
inductive MTrans
  /-- RD of one line for a request (none: chip work): line number. -/
  | rd (line : Nat) (req : Option Nat)
  /-- RD of one line for a tile fill: line number and tile. -/
  | fill (line tile : Nat)
  /-- RD of a line of the chip's own metadata, by its LSA (R270, R274). -/
  | metaRd (lsa : Nat)
  /-- WR of a placement-buffer entry's line: line number, QP and WSEQ of the entry, in the mirror partition. -/
  | wr (line : Nat) (qpn : BitVec 24) (wseq : Nat) (mirror : Bool)
  /-- WR of a line of a repair, a copied line or a zero fill. -/
  | fix (line : Nat)
  /-- WR of a corrected line back to its slot, with its 88 B (R266). -/
  | writeBack (line : Nat) (data : List Byte)
  /-- WR of a corrected line of the chip's own metadata (R266). -/
  | metaFix (lsa : Nat) (line : List Byte)
  /-- WR of a line of a page being promoted (R279). -/
  | promo (line : Nat)
  /-- WR of a record of a journal group: the group, and the record's SEQ, TABLE and INDEX (R387). -/
  | journal (group seq table index : Nat)
  /-- WR of an entry's home location, of a group being applied: the group, TABLE and INDEX (R387). -/
  | tableHome (group table index : Nat)
  /-- WR of an intent slot's image of a line, of its header, of a home line, and of its header with STATE free (R375). -/
  | image (slot line : Nat)
  | header (slot : Nat)
  | home (slot line : Nat)
  | slotFree (slot : Nat)
  /-- WR of an outcome entry of this unit or of its twin (R368). -/
  | outcome (own : Bool) (key : OutcomeKey)
  | move (region : Nat)
  | cfgrd (index : Nat)
  | cfgwr (index : Nat)
  deriving DecidableEq, Repr

/-- A transaction bound for a stack, with the class and the tenant of the work that needs it (R41, R133). -/
structure MWork where
  trans : MTrans
  cls : Cls := .grounds
  tenant : Nat := 0
  /-- It drew ERR under this TAG, which it keeps, and is issued again (R281). -/
  again : Option Nat := none
  deriving DecidableEq, Repr

/-- An outstanding transaction: the address word that the tag of its line has (R264), the 88 B that it writes, and the class and the
tenant of its work. -/
structure MSentRec where
  trans : MTrans
  address : Nat := 0
  line : List Byte := []
  cls : Cls := .grounds
  tenant : Nat := 0
  deriving DecidableEq, Repr

/-- A DATA flit in the replay buffer: its SEQ, how often it has been replayed (R252, R254), and the transaction it carries in slot 0:
header and line (R250, R255). -/
structure FlitRec where
  seq : BitVec 12
  replays : Nat := 0
  header : DWord := 0
  line : List Byte := []
  deriving DecidableEq, Repr

/-- A media link and its stack (chapter 08). -/
structure MLinkRec where
  /-- 0 Absent, 1 Training, 2 Up, 3 Retrain, 4 Lost, 5 Refused (MED_LINK_STATUS). -/
  state : Nat := 0
  /-- The stack's identity differs from the recorded one (R262): MED_LINK_STATUS shows 6 while the link is Up. -/
  foreign : Bool := false
  /-- MED_LINK_STATUS.REFUSE. -/
  refuse : Nat := 0
  /-- Next DATA SEQ to send, next expected; the unacknowledged DATA flits sent, oldest first (R252, R254). -/
  txSeq : BitVec 12 := 0
  rxSeq : BitVec 12 := 0
  unacked : List FlitRec := []
  /-- DATA flits accepted since the last ACK flit sent. -/
  rxUnacked : Nat := 0
  /-- A NAK has been sent and the NAKed SEQ has not arrived (R251). -/
  discarding : Bool := false
  /-- The last flit sent, and the transactions released since (R250). -/
  out : List Byte := []
  released : Nat := 0
  /-- Tick boundaries since reset at the last valid flit, and at the declaration of down (R254). -/
  heard : Nat := 0
  downAt : Nat := 0
  /-- Outstanding transactions by TAG, and those held for a credit, a free place in the replay buffer, a slot or the link. -/
  trans : Table MSentRec := []
  held : List MWork := []
  /-- Errors in a row of a WR or MOVE, by TAG (R281). -/
  errs : Table Nat := []
  /-- CREDITS and low half of configuration word 0 as read, the identity, and whether it has been read (R261). -/
  credits : Nat := 0
  cap : Word := 0
  identity : DWord := 0
  idRead : Bool := false
  /-- Frames in use, by frame number (R275): page held and LAST_WRITE (R276). -/
  frames : Table (Nat × Nat) := []
  deriving DecidableEq, Repr

/-- A region's gap rotation (R271–R273). -/
structure RegionRec where
  start : Nat := 0
  gap : Nat := 2 ^ 24
  /-- START and GAP in the region's record. -/
  recStart : Nat := 0
  recGap : Nat := 2 ^ 24
  /-- Line writes since the last MOVE, MOVEs since the last record; a MOVE is under way. -/
  writes : Nat := 0
  moves : Nat := 0
  moving : Bool := false
  deriving DecidableEq, Repr

/-- A page being destaged (R278, R323): a write to it has been Accepted since the first read; its TPN. -/
structure DestageRec where
  written : Bool := false
  tpn : Nat
  /-- Its record has been laid out: superblock and first codeword. -/
  handed : Option (Nat × Nat) := none
  /-- Its switch has been asked for, and is made or given up at the next tick boundary (R278). -/
  switch : Bool := false
  deriving DecidableEq, Repr

/-- A page being promoted (R279): stack and frame taken, lines not yet confirmed. -/
structure PromoteRec where
  stack : Nat
  frame : Nat
  left : Nat
  /-- Its lines have been sent to the stack; it is a repair from the twin, line by line (R329). -/
  issued : Bool := false
  repair : Bool := false
  /-- The class of the write it is for (R41, R279). -/
  cls : Cls := .grounds
  /-- Its last line has been confirmed, and the location switches at the next tick boundary (R279). -/
  switch : Bool := false
  deriving DecidableEq, Repr

/-- A repair under way (R268): the twin has been asked; a write to the line has been Accepted since. -/
structure RepairRec where
  asked : Bool := false
  written : Bool := false
  deriving DecidableEq, Repr

/-- Who waits for a NAND read: a request, a tile fill, chip work, the background scan, or the copying of a record as work of a requester of
R332. -/
inductive NandWant
  | req (id : Nat)
  | tile (t : Nat)
  | chip
  | scan
  | copy (requester : Nat)
  deriving DecidableEq, Repr

/-- Persistent memory as the unit keeps it (chapter 08): bytes stored at their PNA, whatever tier holds the page. -/
structure Med where
  links : Table MLinkRec := []
  /-- Stored bytes by PNA, as they reached a stack or the NAND tier: ciphertext where the tenant's ENCRYPT is 1 (R128, R129). -/
  store : Mem := []
  /-- EPOCH stored with each line (R263); a line not listed has not been stored since its page was mapped. -/
  epochs : Table Nat := []
  poison : Table Bool := []
  /-- Stack identities recorded in the unit's metadata, by link (R262). -/
  recorded : Table DWord := []
  /-- Regions by key 512 × link + region. -/
  regions : Table RegionRec := []
  repairs : Table RepairRec := []
  /-- Lines whose repair the twin has asked for. -/
  repairServed : List Nat := []
  /-- Lines to which a write was Accepted while a read of them was outstanding (R266). -/
  rewritten : Table Bool := []
  destaging : Bool := false
  destages : Table DestageRec := []
  promotes : Table PromoteRec := []
  /-- NAND page reads waited for, oldest first. -/
  nandReads : List (Nat × NandWant) := []
  /-- Pages whose promotion a write waits for (R279), oldest first. -/
  promoteWant : List Nat := []
  /-- Next frame of the patrol scrub of each stack (R274). -/
  scrubNext : Table Nat := []
  /-- Tick from which the present pass of the scrub runs (R274). -/
  scrubFrom : Nat := 0
  deriving DecidableEq, Repr

/-- A request of the DRAM controller: its port, class number and tenant, the channel-local line, the words it writes under
their mask (R294), the tick at which it was presented, its DRAM address, and the QP whose context it writes back. -/
structure DramReqRec where
  port : Nat
  cls : Nat
  tenant : Nat
  write : Bool
  line : Nat
  mask : Nat := 65535
  words : List DWord := []
  since : Nat
  addr : Nat
  qpn : Option Nat := none
  deriving DecidableEq, Repr

/-- One DRAM channel (R292–R302). -/
structure DramChRec where
  /-- 0 Absent, 1 Training, 2 Up, 3 Self-refresh, 4 Frozen, 5 Refused (DRC_CH_STATUS). -/
  state : Nat := 0
  /-- Requests at the ports, read queue, write queue, partial writes whose line is being read, reads in flight; each oldest
  first. -/
  waiting : List DramReqRec := []
  rq : List DramReqRec := []
  wq : List DramReqRec := []
  merging : List DramReqRec := []
  inflight : List DramReqRec := []
  drain : Bool := false
  /-- Open row of each bank, by rank, bank group and bank: 32 × rank + 4 × group + bank. -/
  openRows : Table Nat := []
  /-- Cycle, counted from the start of the clock, of each bank's last access (R298). -/
  lastUse : Table Nat := []
  /-- Row hits in a row served for a bulk port while an older request that misses waits (R297), by port. -/
  hits : Table Nat := []
  /-- Same-bank refreshes owed, their catching up, the tick whose slot for it has been used, tREFI counted so far in
  hundredths of a tick (R301). -/
  owed : Nat := 0
  catchUp : Bool := false
  refreshTick : Option Nat := none
  refiAcc : Nat := 0
  /-- Tick of the last ZQ calibration of each rank. -/
  zq : Table Nat := []
  /-- Neighbour refreshes to be issued, oldest first: bank and row (R302). -/
  nr : List (Nat × Nat) := []
  deriving DecidableEq, Repr

/-- The DRAM controller (chapter 09). -/
structure Drc where
  channels : Table DramChRec := []
  /-- Contents by DRAM line (address / 128), as 16 words; a line not listed holds undefined words. -/
  lines : Table (List DWord) := []
  /-- The last line delivered to each port: DRAM address and words. -/
  delivered : Table (Nat × List DWord) := []
  /-- GiB of each DIMM and k of R288 as latched at start-up step 3 (R284, R289). -/
  dimmGib : Nat := 0
  userBase : Nat := 0
  grain : Nat := 12
  /-- Next line of the patrol scrub, and the tick from which its present pass runs (R305). -/
  scrubNext : Nat := 0
  scrubFrom : Nat := 0
  /-- The tick whose first 64 CCLK apply a calibration update (R303). -/
  calTick : Option Nat := none
  deriving DecidableEq, Repr


/-- What a record of the tier is (R315, R325). -/
inductive NandKind
  | data (tpn page : Nat)
  | segment (n : Nat)
  | filler
  deriving DecidableEq, Repr

/-- A record in a superblock's codeword stream: its first codeword; codewords of R314 it takes; their payload (R315). -/
structure NandRec where
  kind : NandKind
  start : Nat
  size : Nat := 19
  bytes : List Byte := []
  deriving DecidableEq, Repr

/-- A superblock in use (R317). -/
structure NandSbRec where
  /-- 0 SLC buffer, 1 bulk, 2 garbage collection, 3 map. -/
  stream : Nat
  seq : Nat
  /-- Working dies of its group when it was opened, ascending. -/
  dies : List Nat := []
  /-- Codewords laid out; pages whose program has reported, parity pages included, row × G + member: true for success. -/
  cws : Nat := 0
  progs : Table Bool := []
  recs : List NandRec := []
  /-- The stripe row whose first program was the last to report, and the frame of that report (R325, log 62). -/
  rowFrame : Option (Nat × Nat) := none
  closed : Bool := false
  /-- Reads since the last erase, by die (R337). -/
  reads : Table Nat := []
  /-- Its valid records are to be moved and it is then erased; its erase is under way. -/
  victim : Bool := false
  erasing : Bool := false
  deriving DecidableEq, Repr

/-- Where the map says a TPN's record is (R318): superblock and first codeword; and the page it holds. -/
structure NandLocRec where
  sb : Nat
  start : Nat
  page : Nat
  deriving DecidableEq, Repr

/-- A record on its way to a new place (R322, R335): TPN, old and new superblock and first codeword. -/
structure NandMoveRec where
  tpn : Nat
  fromSb : Nat
  fromStart : Nat
  sb : Nat
  start : Nat
  deriving DecidableEq, Repr

/-- A valid record that is to be copied (R322, R335): requester, stream, where it is, and whether it has been read, so that it waits only for
room in its stream (R339). -/
structure NandWantRec where
  requester : Nat
  stream : Nat
  sb : Nat
  start : Nat
  read : Bool := false
  deriving DecidableEq, Repr

/-- A die (R312): spare blocks left, operations failed in a row, Failed. -/
structure DieRec where
  spares : Nat := 0
  streak : Nat := 0
  failed : Bool := false
  /-- Suspends of the operation in progress; it is suspended for a read (R331). -/
  suspends : Nat := 0
  suspended : Bool := false
  deriving DecidableEq, Repr

/-- What a NAND channel does: the read of a page, by its page number in the namespace; the program of a page of a superblock; a
superblock's erase. -/
inductive NandJob
  | read (page : Nat)
  | prog (sb page : Nat)
  | erase (sb : Nat)
  deriving DecidableEq, Repr

/-- Work of a NAND channel (R332): the channel, the requester, the class and tenant; it has been issued. -/
structure NandOpRec where
  ch : Nat
  requester : Nat
  cls : Cls := .grounds
  tenant : Nat := 0
  job : NandJob
  issued : Bool := false
  /-- Tick in which it was queued (R331). -/
  since : Nat := 0
  deriving DecidableEq, Repr

/-- The NAND tier (chapter 10). -/
structure Ntl where
  /-- 0 Absent, 1 Replay, 2 Run, 4 Refused, 5 Unformatted; Run shows as ReadOnly while FULL or WORN (NTL_STATUS). -/
  state : Nat := 0
  full : Bool := false
  dies : Table DieRec := []
  sbs : Table NandSbRec := []
  map : Table NandLocRec := []
  /-- TPNs of destages under way (R323). -/
  taken : Table Nat := []
  /-- Segment directory: map segment → superblock and first codeword; segments written by a checkpoint under way. -/
  segments : Table (Nat × Nat) := []
  newSegments : Table (Nat × Nat) := []
  moves : List NandMoveRec := []
  /-- What the checkpoint root in place names, and the superblocks open when it was written with their codewords (R338, R340). -/
  rootHorizon : Table (List Nat) := []
  rootOpen : Table Nat := []
  /-- A new root under way: its journal group, and the horizons, open superblocks and SEQ that it names; it is in place once the group is
  Placed (R338). -/
  rootGroup : Option Nat := none
  nextHorizon : Table (List Nat) := []
  nextOpen : Table Nat := []
  nextSeq : Nat := 0
  /-- Records that wait to be copied, oldest first. -/
  copyWant : List NandWantRec := []
  /-- Where a page's record was when its read was asked for (R322, R335). -/
  reading : Table NandLocRec := []
  /-- Bits of NTL_EW whose condition held when it was last looked at (R345). -/
  held : Nat := 0
  /-- Erases by superblock. -/
  erases : Table Nat := []
  /-- SEQ of the newest superblock. -/
  seq : Nat := 0
  /-- Superblocks that each stream will open next, by stream (R338). -/
  horizon : Table (List Nat) := []
  /-- Records destaged since the last checkpoint, segments changed since, frame of the last checkpoint. -/
  destaged : Nat := 0
  changed : Table Bool := []
  ckptFrame : Nat := 0
  /-- A checkpoint has written its segments and waits for their parity. -/
  ckptDue : Bool := false
  /-- Staged pages, with the order of their last use (R328). -/
  staged : Table Nat := []
  stagedUse : Nat := 0
  /-- Frame of the last destage (R322). -/
  lastDestage : Nat := 0
  /-- The state WORN, kept in metadata (R348), and whether a format has been applied. -/
  worn : Bool := false
  formatted : Bool := false
  /-- SEQ of the last checkpoint. -/
  ckptSeq : Nat := 0
  /-- Blocks of a die outside the spares set aside at format. -/
  usable : Nat := 0
  /-- Suspends of the frame under way, by channel. -/
  suspended : Table Nat := []
  /-- NTL_FORMAT and TPNS as applied (R319). -/
  bulkTlc : Bool := false
  group32 : Bool := false
  tpns : Nat := 0
  /-- Collection runs (R335). -/
  collecting : Bool := false
  /-- Records read, retries, decode iterations and codewords decoded in the present minute (R345). -/
  minuteReads : Nat := 0
  minuteRetries : Nat := 0
  minuteIters : Nat := 0
  minuteCws : Nat := 0
  /-- Next TPN of the background scan, and the tick from which its present pass runs (R337). -/
  scanNext : Nat := 0
  scanFrom : Nat := 0
  /-- Work of the channels, waiting or issued, oldest first (R332). -/
  ops : List NandOpRec := []
  deriving DecidableEq, Repr

/-- A frame of the twin link that is kept until acknowledged (R393): every KIND but HEARTBEAT, ACK and NAK. -/
inductive TwinFrame
  /-- A MIRROR frame: the lines (line number, tenant, bytes), the QP and WSEQ of each, the sender's EPOCH, and the class of the write
  (R41). -/
  | mirror (lines : List (Nat × Nat × List Byte)) (events : List (BitVec 24 × Nat)) (epoch : Nat) (cls : Cls)
  /-- Frames all Placed, outcome entries and intent slots confirmed, free mirror entries. -/
  | confirm (frames : List Nat) (outcomes : List OutcomeKey) (intents : List Nat) (free : Nat)
  | outcome (o : Outcome)
  | intent (slot : Nat) (x : Intent)
  | giveup (sideB : Bool) (epoch : Nat) (drill hold : Bool)
  | reclaim (sideB : Bool) (s : Nat)
  | switch (sideB : Bool)
  | repairAsk (line : Nat)
  | repairReply (line : Nat) (data : Option (List Byte)) (epoch : Nat)
  | tenant (id : Nat) (t : Tenant)
  | extent (e : Nat) (x : Extent)
  | window (i : Nat) (w : Window)
  | copyLine (line : Nat) (tenant : Nat) (data : List Byte) (epoch : Nat)
  /-- The last frame of the metadata records, and of a copy; the report that a copy is complete. -/
  | metaEnd
  | copyEnd
  | copyDone
  /-- What a Returning unit needs: a full resynchronization, and the extents its in-flight map marks (R416, R417). -/
  | ask (full : Bool) (marked : List Nat)
  deriving DecidableEq, Repr

/-- An unacknowledged frame: its SEQ, and how often it has been replayed. -/
structure SentRec where
  seq : Nat
  replays : Nat
  frame : TwinFrame
  cls : Cls := .grounds
  tenant : Nat := 0
  deriving DecidableEq, Repr

/-- A frame that waits for a bundle, with the class and the tenant of the work it belongs to (R41, R133). -/
structure TwWork where
  frame : TwinFrame
  /-- It was unacknowledged on the other bundle when that went down (R394). -/
  first : Bool := false
  cls : Cls := .grounds
  tenant : Nat := 0
  deriving DecidableEq, Repr

/-- One bundle of the twin link (R393, R394). -/
structure BundleRec where
  up : Bool := false
  txSeq : Nat := 0
  rxSeq : Nat := 0
  /-- Unacknowledged frames, oldest first, at most 256, and frames waiting behind them. -/
  unacked : List SentRec := []
  held : List TwWork := []
  /-- Replay requests sent. -/
  naks : Nat := 0
  /-- Tick of the last valid frame, of the declaration of down, and since when heartbeats have been valid. -/
  heard : Nat := 0
  downAt : Nat := 0
  validSince : Option Nat := none
  deriving DecidableEq, Repr

/-- The lines of a received MIRROR frame: its name, the lines (line number, tenant, bytes), the sender's EPOCH. -/
structure ArrivedRec where
  frame : Nat
  lines : List (Nat × Nat × List Byte)
  epoch : Nat
  cls : Cls := .grounds
  /-- The images of an intent slot of the twin's, by its number (R375). -/
  intent : Option Nat := none
  deriving DecidableEq, Repr

/-- A repair reply received and not yet acted on (R268). -/
structure ReplyRec where
  line : Nat
  data : Option (List Byte)
  epoch : Nat
  deriving DecidableEq, Repr

/-- A resynchronization in which this unit is the source (R415, R416), or the copies of a start (R383, R421): full; pages of its copy;
whether it is a start. -/
structure ResyncRec where
  full : Bool
  pages : Nat := 0
  starting : Bool := false
  deriving DecidableEq, Repr

/-- A drill that this unit has accepted (R423): side, HOLD, ring and TAG of its completion; admission is stopped. -/
structure DrillRec where
  sideB : Bool
  hold : Bool
  ring : Nat
  tag : Word
  stopped : Bool := false
  deriving DecidableEq, Repr

/-- The twin pair (chapter 12). -/
structure Twn where
  bundle0 : BundleRec := {}
  bundle1 : BundleRec := {}
  /-- The twin's last heartbeat, and this unit's last one sent, with their ticks. -/
  hb : Option TwinHb := none
  hbTick : Nat := 0
  hbSent : Option TwinHb := none
  hbSentTick : Nat := 0
  /-- Free mirror entries last reported by the twin, and lines shipped since (R400). -/
  credit : Nat := 0
  shipped : Nat := 0
  /-- The pair-role record; none where the SCM holds none. -/
  role : Option RoleRec := none
  /-- Tick at which the link was declared silent; tick of the entry to LinkHold; the SOLO interval's start. -/
  silentAt : Option Nat := none
  holdAt : Nat := 0
  soloAt : Option Nat := none
  /-- Sideband: level driven, tick of the last toggle seen, yield-pattern intervals in a row, silence (R396). -/
  sbOut : Bool := false
  sbLast : Nat := 0
  sbRun : Nat := 0
  sbSilent : Bool := true
  /-- Changes of role that the next tick boundary acts on (R28), oldest first. -/
  signals : List PairSignal := []
  /-- A takeover is due, with the KIND of its cause; or under way: its start T and its record's group. -/
  takeoverDue : Option Nat := none
  takeover : Option (Nat × Nat) := none
  /-- Takeover starts counted; the last one's start, for TWN_TAKEOVER_TIME. -/
  takeoverAt : Nat := 0
  yieldedAt : Option Nat := none
  /-- A Yield-level signal has been acted on and the unit is to yield (R27, R403). -/
  yieldDue : Bool := false
  /-- Tick at which this unit sent a GIVEUP (R404). -/
  giveupAt : Option Nat := none
  /-- Pages written in SOLO mode (R378), and the epoch of the takeover or SOLO entry that began it. -/
  dirty : Table Bool := []
  soloEpoch : Nat := 0
  /-- Frame boundaries in a row at which the summaries differed (R101). -/
  skew : Nat := 0
  drill : Option DrillRec := none
  /-- Admission is stopped: yield, drill, Hold (R403, R423, R513). -/
  stopped : Bool := false
  /-- This unit copies to its twin; a full resynchronization is required of or by this unit (R417). -/
  resync : Option ResyncRec := none
  needFull : Bool := false
  /-- What the Returning twin has asked for. -/
  asked : Option (Bool × List Nat) := none
  /-- An epoch of the twin that is taken at the next tick boundary (R385). -/
  epochDue : Option Nat := none
  /-- EPOCH of the pair-role record as start-up found it (R389, R421). -/
  recordEpoch : Nat := 0
  /-- Tick at which start-up step 5 began to wait for a heartbeat (R421). -/
  waitFrom : Nat := 0
  /-- The reclaimed side whose SWITCH goes out once its last Accepted line is shipped (R418). -/
  switchDue : Option Bool := none
  /-- The survivor's tables as its metadata records have brought them (R415). -/
  metaTenants : Table Tenant := []
  metaExtents : Table Extent := []
  metaWindows : Table Window := []
  /-- The twin's metadata records, and its copy, have all arrived (R415, R416). -/
  metaIn : Bool := false
  copyIn : Bool := false
  copyDone : Bool := false
  /-- Extents marked in-flight at the last start-up (R383). -/
  marked : List Nat := []
  /-- Return: side and switch tick S; SWITCH frames still to come; the return gap holds requests. -/
  reclaim : Option (Bool × Nat) := none
  switchLeft : Nat := 0
  gap : Bool := false
  /-- Mirror reads are refused: the copy is not complete (R413). -/
  noMirrorReads : Bool := false
  /-- Lines from the twin link waiting for admission, and those of extents not held (R102, R359). -/
  arrived : List ArrivedRec := []
  heldLines : List ArrivedRec := []
  replies : List ReplyRec := []
  /-- MIRROR frames sent and not yet confirmed, by the name that their bundle and SEQ make: line, QP and WSEQ of each line. -/
  sentFrames : Table (List (Nat × BitVec 24 × Nat)) := []
  deriving DecidableEq, Repr

/-- The integrity manager (chapter 13). -/
structure Integ where
  /-- Tick from which the present pass of the SRAM scrub runs (R435). -/
  scrubFrom : Nat := 0
  /-- Detector reports on their way: fault code and SOURCE (R429). -/
  reports : List (Nat × Nat) := []
  /-- Fault signals raised and not yet acted on by the data plane (R27): code, level, SOURCE. -/
  signals : List (Nat × Nat × Nat) := []
  /-- An armed injection (R590): SRAM id, bits, first position. -/
  armed : Option (Nat × Nat × Nat) := none
  deriving DecidableEq, Repr

/-- A flash operation in progress, or held, on the embedded flash (R455, R459, R461). -/
structure FlashOpRec where
  /-- 0 PROGRAM, 1 ERASE, 4 OTP. -/
  kind : Nat
  bankB : Bool
  /-- Row address as EFL_ADDR.ROW names it: bits [22:5] of the bank offset. -/
  row : Nat
  words : List DWord := []
  /-- It belongs to the event recorder. -/
  recorder : Bool := false
  deriving DecidableEq, Repr

/-- Embedded flash, OTP and option row (chapter 14). An unlisted word reads as erased (R453). -/
structure Efl where
  wordsA : Table DWord := []
  wordsB : Table DWord := []
  /-- Rows left undefined by an interrupted operation (R460), by bank offset / 32. -/
  undefA : Table Bool := []
  undefB : Table Bool := []
  /-- OTP bytes programmed since manufacture, from offset 0x0A0 on. -/
  otp : Mem := []
  /-- The option row holds the pattern of R464; it is undefined after an interrupted operation. -/
  option : Bool := false
  optionUndef : Bool := false
  op : Option FlashOpRec := none
  /-- The suspended erase, kept while a PROGRAM runs (R455, R459). -/
  suspendedOp : Option FlashOpRec := none
  heldGo : Option FlashOpRec := none
  deriving DecidableEq, Repr

/-- Security state (chapter 14). -/
structure Sec where
  /-- Header and load of the running firmware image (R481). -/
  image : List Byte := []
  /-- The KEK that the key store region of both banks holds (R479). -/
  kek : Option (List Byte) := none
  /-- A mailbox submission is being handled (R482). -/
  submitted : Bool := false
  /-- The bank that a firmware install writes, once FW_BEGIN has erased it (R471). -/
  install : Option Bool := none
  /-- Last step of the start-up order that has ended (R29); after step 5 the unit is in Run. -/
  startup : Nat := 0
  /-- Start-up has stopped before step 4 (R30). -/
  stopped : Bool := false
  /-- A start-up has stopped before step 4, and none has reached step 5 since: data-plane registers read as if unlisted (R30). -/
  dark : Bool := false
  /-- A frame boundary has come in step 5: what control software wrote has been published (R29). -/
  published : Bool := false
  deriving DecidableEq, Repr

/-- The power sequencer and the power states (chapter 15). -/
structure Sqr where
  /-- Slots enabled at the common start of the off sequence; it leads to P3; it was caused by this chip's own sequence or rail
  fault (R505–R507). -/
  offSlots : Word := 0
  standby : Bool := false
  ownFault : Bool := false
  /-- The chip stays in P4 until a button press or the removal of VAON_IN (R507). -/
  latched : Bool := false
  /-- An accepted press waits to start an on sequence; the button is held, its press not yet taken (R508, R510). -/
  wake : Bool := false
  pressed : Bool := false
  /-- µs since the common start at which each slot was enabled, and since when its power-good has been high (R501, R502). -/
  enabledAt : Table Nat := []
  highSince : Table Nat := []
  /-- A power state requested and not yet entered; the way to Hold has begun (R512, R513). -/
  target : Option Nat := none
  holding : Bool := false
  /-- Physical ports gated in P1, those to be ungated at the next frame boundary, TWL1 gated (R514). -/
  gatedPorts : Byte := 0
  ungate : Byte := 0
  twl1 : Bool := false
  /-- MRST_N holds the planes in reset (R509). -/
  mrst : Bool := false
  /-- The table is to be loaded before an on sequence starts (R496). -/
  tableDue : Bool := true
  /-- The writes by which the sequencer last switched each slot over PMBus (R500). -/
  sent : Table (List (List Byte)) := []
  /-- On the way to Hold the NAND tier's open rows have been closed and its checkpoint begun (R349). -/
  tierShut : Bool := false
  /-- The Ethernet, twin and media SerDes are in electrical idle (R513). -/
  serdesIdle : Bool := false
  deriving DecidableEq, Repr


/-- A two-wire controller port (R518–R526). -/
structure TwbPortRec where
  /-- A transaction of management firmware runs, or waits for the bus. -/
  running : Bool := false
  waiting : Bool := false
  /-- Repeats made after lost arbitration (R525). -/
  repeats : Nat := 0
  /-- The bus has been cleared since the port's reset (R524); a clear ended BUS_STUCK, or SCL has stayed low (R522, R524). -/
  cleared : Bool := false
  busStuck : Bool := false
  sclStuck : Bool := false
  /-- Buffer bytes of the words whose offset another register has, which no register shows (log 75). -/
  high : Mem := []
  deriving DecidableEq, Repr

/-- The two-wire buses (chapter 16). -/
structure Twb where
  port0 : TwbPortRec := {}
  port1 : TwbPortRec := {}
  port2 : TwbPortRec := {}
  /-- The bytes TWT last returned, as latched at the command code byte (R528). -/
  reply : List Byte := []
  /-- The PEC that a read beyond those bytes returns (R527). -/
  replyPec : Byte := 0
  deriving DecidableEq, Repr


/-- A trigger input that has fired and whose snapshot has not begun (R545, R546). -/
structure FiringRec where
  input : Nat
  code : Nat
  level : Nat
  source : Nat
  deriving DecidableEq, Repr

/-- A record in the recorder's buffer (R547). -/
structure RecordRec where
  trigger : Nat
  code : Nat
  level : Nat
  source : Nat
  dropped : Nat
  values : List Word
  deriving DecidableEq, Repr

/-- The event recorder and the sensors (chapter 17). -/
structure Evr where
  fired : List FiringRec := []
  /-- The next sector of a clear under way (R552). -/
  clearing : Option Nat := none
  /-- Records built and not yet programmed, oldest first, at most 8. -/
  buffer : List RecordRec := []
  /-- Firings without a record since the last record made. -/
  dropped : Nat := 0
  /-- The sector ahead of HEAD whose erase has not ended (R548). -/
  erasing : Option Nat := none
  /-- The point of a calibration capture under way (R539). -/
  capture : Option Nat := none
  /-- Correction of every reading by CAL_REF: V22's raw reading at the last good check, in 0.1 mV (R542). -/
  reference : Nat := 12000
  /-- Last 16 corrected readings of each thermal sensor, newest first, in 1/16 °C; mean at which each sensor's items were last
  applied (R535, R537). -/
  readings : Table (List Int) := []
  appliedAt : Table Int := []
  /-- Parameters in force of each item by 65,536 × KIND + INDEX, and those staged, with whether a frame boundary has passed since
  (R537). -/
  params : Table (List Int) := []
  targets : Table (Bool × List Int) := []
  /-- Quality figures last measured, by 256 × KIND + INDEX (CAL_QUAL). -/
  figures : Table Word := []
  deriving DecidableEq, Repr

/-- Why the machine stops with a fault. Nothing in the specification stops the block: a broken part is fenced, frozen,
halted or yields, each of which is a next state. So there is no fault, and the type has no constructor. -/
inductive Fault
  deriving DecidableEq, Repr

/-- Why a command is refused. -/
inductive Refusal
  /-- Raised by an arm of exec whose command has no meaning yet. Safe: nothing can be proved of what it does. -/
  | notModelled (mnemonic : String)
  deriving DecidableEq, Repr

/-- One BY-7420, its attached media as far as the chip keeps track of them, and the commands waiting for it. -/
structure State where
  bar : Bar := {}
  snap : Snap := {}
  tck : Tck := {}
  prt : Prt := {}
  trn : Trn := {}
  win : Win := {}
  ten : Ten := {}
  cle : Cle := {}
  mcp : Mcp := {}
  stg : Stg := {}
  dur : Dur := {}
  ctl : Ctl := {}
  med : Med := {}
  drc : Drc := {}
  ntl : Ntl := {}
  twn : Twn := {}
  integ : Integ := {}
  efl : Efl := {}
  sec : Sec := {}
  sqr : Sqr := {}
  twb : Twb := {}
  evr : Evr := {}
  /-- The model's own field: how many free values have been taken. -/
  free : Nat := 0
  /-- The model's own field: commands waiting, first in, first out. -/
  pending : List Instr := []
  deriving DecidableEq, Repr

/-- The machine right after power-on reset: every field at its reset value, an empty queue. -/
def State.reset : State := {}

end Sys2Proof.Machine
end

