-- ==== Sys2Proof/Machine/Ops.lean ====
section
/-! DEFINITION. The named operations every family of commands is written with: BAR0 registers, rings and
notifications, the journal, egress. -/

namespace Sys2Proof.Machine

open Sys2Proof

/-- The outcome of every meaning: a next state. -/
abbrev Result := Host.Outcome State Fault Refusal

/-! ## Registers -/

/-- A register as its own plane sees it now. -/
def State.reg (s : State) (off : Nat) : Word := Maps.rd resetOf s.bar.val off

/-- The register with a new value, whatever its access codes: the chip's own update. -/
def State.setReg (s : State) (off : Nat) (v : Word) : State :=
  { s with bar := { s.bar with val := Maps.wr resetOf s.bar.val off v } }

/-- A field of a register as its own plane sees it now. -/
def State.getF (s : State) (off hi lo : Nat) : Nat := fld (s.reg off) hi lo

/-- The chip's own update of one field. -/
def State.setF (s : State) (off hi lo v : Nat) : State := s.setReg off (setFld (s.reg off) hi lo v)

/-- Bit `i` of a register. -/
def State.getB (s : State) (off i : Nat) : Bool := bitOf (s.reg off) i

/-- The chip's own update of one bit. -/
def State.setB (s : State) (off i : Nat) (b : Bool) : State := s.setF off i i (if b then 1 else 0)

/-- A field of a data-plane register in force since the last frame boundary (R19, point 2). -/
def State.effF (s : State) (off hi lo : Nat) : Nat := fld (Maps.rd resetOf s.bar.eff off) hi lo

/-- One bit of a data-plane register in force. -/
def State.effB (s : State) (off i : Nat) : Bool := bitOf (Maps.rd resetOf s.bar.eff off) i

/-- A counter register raised by `n`, wrapping modulo 2³². -/
def State.bumpBy (s : State) (off n : Nat) : State := if n = 0 then s else s.setReg off (s.reg off + BitVec.ofNat 32 n)

/-- A counter register raised by one, wrapping modulo 2³². -/
def State.bump (s : State) (off : Nat) : State := s.bumpBy off 1

/-- A counter field raised by one, stopping at its largest value. -/
def State.bumpSat (s : State) (off hi lo : Nat) : State :=
  s.setF off hi lo (Nat.min (s.getF off hi lo + 1) (2 ^ (hi + 1 - lo) - 1))

/-- A 64-bit value shown in a register pair. -/
def State.setPair (s : State) (lo : Nat) (v : Nat) : State :=
  (s.setReg lo (BitVec.ofNat 32 v)).setReg (lo + 4) (BitVec.ofNat 32 (v / 2 ^ 32))

/-- The value of a register after a write of `v` by the access codes of R10. -/
def RegDesc.written (r : RegDesc) (old v : Word) : Word :=
  let rw := BitVec.ofNat 32 r.rw
  let ro := BitVec.ofNat 32 r.ro
  let w1c := BitVec.ofNat 32 r.w1c
  let w1s := BitVec.ofNat 32 r.w1s
  (v &&& rw) ||| (old &&& ro) ||| (old &&& w1c &&& ~~~v) ||| ((old ||| v) &&& w1s)

/-- The bits of a register that a read shows: wo and rsv bits read as 0 (R10). -/
def RegDesc.readable (r : RegDesc) : Word := BitVec.ofNat 32 (r.rw ||| r.ro ||| r.w1c ||| r.w1s)

/-- The registers of the block range [lo, hi) at their reset values again. -/
def State.resetRange (s : State) (lo hi : Nat) : State :=
  { s with bar := { s.bar with
      val := s.bar.val.filter (fun e => e.1 < lo || hi ≤ e.1)
      eff := s.bar.eff.filter (fun e => e.1 < lo || hi ≤ e.1)
      copy := s.bar.copy.filter (fun e => e.1 < lo || hi ≤ e.1) } }

/-! ## Time -/

/-- The tick counter as a number. -/
def State.now (s : State) : Nat := s.tck.tick.toNat

/-- The unit is in Run: start-up step 5 has ended (R29). -/
def State.inRun (s : State) : Bool := s.sec.startup == 5

/-- The value that TCK_LOAD holds. -/
def State.loadValue (s : State) : Nat := (s.reg Reg.TCK_LOAD_HI).toNat * 2 ^ 32 + (s.reg Reg.TCK_LOAD_LO).toNat

/-- A load is refused in Run, and for a value that is no multiple of 3,000,000 (R37). -/
def State.loadOk (s : State) : Bool := !s.inRun && s.loadValue % 3000000 == 0

/-- A free-running load is due at the coming tick boundary (R37). -/
def State.loadDue (s : State) : Bool := s.getB Reg.TCK_CTRL 0 && s.effF Reg.TCK_CTRL 5 4 == 0

/-- What the tick counter will be from the coming boundary on (R31, R37). -/
def State.nextTick (s : State) : Nat :=
  if s.loadDue && s.loadOk then s.loadValue else (s.tck.tick + 1).toNat

/-- The coming tick boundary is a frame boundary, or a minute mark (R32). -/
def State.frameDue (s : State) : Bool := s.nextTick % 3000 == 0
def State.minuteDue (s : State) : Bool := s.nextTick % 180000000 == 0

/-- A rotation pointer of R51 over n requesters. -/
def State.ptr (s : State) (n : Nat) : Nat := s.tck.boundaries % n

/-- The first requester of `q` at or after the rotation pointer, with wrap (R51's search). -/
def rotate (ptr n : Nat) (q : List Nat) : Option Nat :=
  ((upTo n).map (fun k => (ptr + k) % n)).find? (fun i => q.contains i)

/-! ## Free values -/

/-- `n` free bytes, and the state that has taken them. -/
def State.takeBytes (s : State) : Nat → List Byte × State
  | 0 => ([], s)
  | n + 1 =>
    let (bs, s') := State.takeBytes { s with free := s.free + 1 } n
    (Config.freeByte s.free :: bs, s')

/-- One free word, and the state that has taken it. -/
def State.takeWord (s : State) : DWord × State := (Config.freeWord s.free, { s with free := s.free + 1 })

/-- The tick from which the pass after one that has just ended runs: each pass has its period (R274, R305, R337, R435, log 128). -/
def State.nextPass (s : State) (start period : Nat) : Nat := Nat.max s.tck.tick.toNat (start + period)

/-- Ticks of an hour. -/
def hourTicks : Nat := 3600 * 3000000

/-! ## The key engine (R478) -/

/-- The key that UNWRAP finds in a wrapped key: none where no KEK is loaded, VERSION or TENANT differs, the tag fails or the two
halves are equal (R478). -/
def State.unwrapKey (s : State) (tenant : Nat) (wrapped : List Byte) : Option (List Byte) :=
  match s.sec.kek with
  | none => none
  | some kek =>
    if !s.getB Reg.SEC_STATUS 22 || nthD wrapped 0 0 ≠ 1#8 || leNat (slice wrapped 2 2) % 4096 ≠ tenant then none
    else
      match Config.gcmOpen kek (slice wrapped 4 12) (slice wrapped 0 16) (slice wrapped 16 64) (slice wrapped 80 16) with
      | none => none
      | some key => if slice key 0 32 = slice key 32 32 then none else some (slice key 0 64)

/-- A key-store slot filled (R130). -/
def State.setKeySlot (s : State) (n : Nat) (key : List Byte) : State :=
  { s with win := { s.win with keySlots := Maps.put n key s.win.keySlots } }

/-! ## Control rings and notifications (R575–R587) -/

/-- CTL_RING_CFG[r]. -/
def ringCfg (r : Nat) : Nat := 0x320100 + 0x40 * r
/-- CTL_RING_STATUS[r]. -/
def ringStatus (r : Nat) : Nat := 0x320104 + 0x40 * r
/-- CTL_RING_SQ_TAIL[r]. -/
def ringSqTail (r : Nat) : Nat := 0x320118 + 0x40 * r
/-- CTL_RING_SQ_HEAD[r]. -/
def ringSqHead (r : Nat) : Nat := 0x32011C + 0x40 * r
/-- CTL_RING_CQ_TAIL[r]. -/
def ringCqTail (r : Nat) : Nat := 0x320120 + 0x40 * r
/-- CTL_RING_CQ_HEAD[r]. -/
def ringCqHead (r : Nat) : Nat := 0x320124 + 0x40 * r

/-- Ring `r`, disabled and empty where nothing is known of it. -/
def State.ring (s : State) (r : Nat) : Ring := Maps.getD s.ctl.rings r {}

/-- Ring `r` replaced. -/
def State.setRing (s : State) (r : Nat) (x : Ring) : State :=
  { s with ctl := { s.ctl with rings := Maps.put r x s.ctl.rings } }

/-- Ring `r` is enabled (R576). -/
def State.ringOn (s : State) (r : Nat) : Bool := s.getB (ringCfg r) 16

/-- Entries of ring r's completion or notification ring: 2^k, k clamped to 4–16 (R575). -/
def State.cqSize (s : State) (r : Nat) : Nat := 2 ^ clamp 4 16 (s.getF (ringCfg r) 15 8)

/-- Entries of ring r's submission ring. -/
def State.sqSize (s : State) (r : Nat) : Nat := 2 ^ clamp 4 16 (s.getF (ringCfg r) 7 0)

/-- Ring r's completion ring is full (R576). -/
def State.cqFull (s : State) (r : Nat) : Bool :=
  (s.getF (ringCqTail r) 15 0 + 1) % s.cqSize r == s.getF (ringCqHead r) 15 0 % s.cqSize r

/-- An MSI-X message on a vector (R587). -/
def State.sendMsix (s : State) (v : Nat) : State :=
  { s with ctl := { s.ctl with msix := Maps.put v (Maps.getD s.ctl.msix v 0 + 1) s.ctl.msix } }

/-- A bit of CTL_ERR set, with vector 16 when ERR_IRQ_EN is 1 (R587). -/
def State.ctlErr (s : State) (bit : Nat) : State :=
  let s := s.setB Reg.CTL_ERR bit true
  if s.getB Reg.CTL_ERR 5 then s.sendMsix 16 else s

/-- The 32 bytes of a completion or notification entry, little-endian (R6, R584). -/
def RingEntry.bytes (e : RingEntry) : List Byte :=
  [BitVec.ofNat 8 e.type, if e.phase then 1 else 0, BitVec.ofNat 8 e.b2, BitVec.ofNat 8 e.b3] ++ leBytes e.tag.toNat 4 ++
  leBytes e.w0.toNat 8 ++ leBytes e.w1.toNat 8 ++ leBytes e.w2.toNat 8

/-- An entry written at CQ_TAIL of ring r with the present PHASE, and CQ_TAIL advanced (R576, R577, R587). -/
def State.writeEntry (s : State) (r : Nat) (e : RingEntry) : State :=
  let x := s.ring r
  let t := s.getF (ringCqTail r) 15 0
  let n := s.cqSize r
  let t' := (t + 1) % n
  let s := s.setRing r { x with
    entries := Maps.put t ({ e with phase := x.phase } : RingEntry).bytes x.entries
    phase := if t' = 0 then !x.phase else x.phase }
  let s := s.setF (ringCqTail r) 15 0 t'
  if s.getB (ringCfg r) 17 then s.sendMsix r else s

/-- DMA channel `k` is halted (R586). -/
def State.dmaHalted (s : State) (k : Nat) : Bool := s.getB (Reg.CTL_DMA_STATUS + 4 * k) 31

/-- The notification ring takes an entry now: CR0 runs, CH2 runs and there is room (R585, R586). -/
def State.notifyRoom (s : State) : Bool := s.ringOn 0 && !s.dmaHalted 2 && !s.cqFull 0

/-- A Lost entry is due before any other (R585). -/
def State.writeLost (s : State) : State :=
  if s.ctl.lost ≠ 0 && s.notifyRoom then
    let e : RingEntry := { type := 0x19, phase := false, b2 := 0, b3 := 0, tag := BitVec.ofNat 32 s.ctl.notifySeq,
                           w0 := BitVec.ofNat 64 s.ctl.lost, w1 := 0, w2 := 0 }
    let s := s.writeEntry 0 e
    { s with ctl := { s.ctl with lost := 0, notifySeq := s.ctl.notifySeq + 1 } }
  else s

/-- A notification on CR0, numbered in sequence; dropped and counted when CR0 takes none (R584, R585). -/
def State.notify (s : State) (type b2 b3 : Nat) (w0 w1 w2 : DWord) : State :=
  let s := s.writeLost
  if s.notifyRoom then
    let e : RingEntry := { type, phase := false, b2, b3, tag := BitVec.ofNat 32 s.ctl.notifySeq, w0, w1, w2 }
    let s := s.writeEntry 0 e
    { s with ctl := { s.ctl with notifySeq := s.ctl.notifySeq + 1 } }
  else
    let s := s.bump Reg.CTL_NOTIFY_DROP
    { s with ctl := { s.ctl with lost := s.ctl.lost + 1 } }

/-- A trigger input of the event recorder fires (R544–R546): it waits for its snapshot, and a firing that finds the earlier
one of its input still waiting makes no record. -/
def State.trigger (s : State) (input code level source : Nat) : State :=
  if !s.getB (Reg.EVR_TRIG_CFG + 4 * input) 31 then s
  else if s.evr.fired.any (fun f => f.input == input) then
    ({ s with evr := { s.evr with dropped := Nat.min (s.evr.dropped + 1) 65535 } } : State).bumpSat Reg.EVR_STATUS 22 11
  else
    let f : FiringRec := { input, code, level, source }
    { s with evr := { s.evr with fired := s.evr.fired.filter (fun g => decide (g.input < input)) ++ [f] ++
                                          s.evr.fired.filter (fun g => decide (input < g.input)) } }

/-- A clause's NOTIFY entry delivered to its ring (R203, R575, R585): CR0 numbers it, a full ring drops it. -/
def State.deliverNotify (s : State) (r : Nat) (bytes : List Byte) : State :=
  let w (k : Nat) : DWord := BitVec.ofNat 64 (leNat (slice bytes (8 * k) 8))
  let b (k : Nat) : Nat := (nthD bytes k 0).toNat
  if r = 0 then s.notify 0x02 (b 2) (b 3) (w 1) (w 2) (w 3)
  else if s.ringOn r && !s.cqFull r && !s.dmaHalted 1 then
    s.writeEntry r { type := 0x02, phase := false, b2 := b 2, b3 := b 3,
                     tag := BitVec.ofNat 32 (leNat (slice bytes 4 4)), w0 := w 1, w1 := w 2, w2 := w 3 }
  else
    let s := s.setRing r { s.ring r with dropped := Nat.min (s.ring r).dropped.succ 65535 }
    s.setF (ringStatus r) 15 0 (s.ring r).dropped

/-! ## Slot tables (R43–R47) and meters (R133) -/

/-- Class number of entry `i` of effective slot table `n`. -/
def State.slot (s : State) (n i : Nat) : Nat :=
  s.getF (Reg.TCK_SLOT_EFF + 16 * n + 4 * (i / 16)) (2 * (i % 16) + 1) (2 * (i % 16))

/-- Ristretto entries of an effective slot table: the allowance of R45; an entry of a strand that R55 passes over is none. -/
def State.risEntries (s : State) (n : Nat) : Nat :=
  let dead (i : Nat) : Bool := 32 ≤ n && n < 40 && bitOf s.tck.dead (8 * (n - 32) + i / 8)
  ((List.range 64).filter (fun i => s.slot n i == 0 && !dead i)).length

/-- Ristretto still has slots of a table in this tick (R45, R47). -/
def State.risLeft (s : State) (n : Nat) : Bool := Maps.getD s.tck.risUsed n 0 < s.risEntries n

/-- A tenant's counter raised: 0 BYTES_READ, 1 BYTES_WRITTEN, 2 OPS, 3 SCM_PAGE_FRAMES, 4 NAND_PAGE_FRAMES,
5 RIS_SLOT_TICKS (R133). -/
def State.addMeter (s : State) (t k n : Nat) : State :=
  let add (x : Tenant) : Tenant := { x with meters := x.meters.set k ((x.meters.getD k 0 + n) % 2 ^ 64) }
  { s with win := { s.win with tenants := Maps.upd t add s.win.tenants } }

/-- Ristretto work of a tenant takes `n` slots of a table from entry `e` of this tick on (R45, R133); those past entry 63 are used in the
ticks that follow (DESIGN CHOICE, log 101). -/
def State.useRis (s : State) (table e n tenant : Nat) : State :=
  let now := Nat.min n (64 - e)
  let s := { s with tck := { s.tck with
    risUsed := Maps.put table (Maps.getD s.tck.risUsed table 0 + now) s.tck.risUsed
    risNext := if now = n then s.tck.risNext else Maps.put table (Maps.getD s.tck.risNext table 0 + (n - now)) s.tck.risNext } }
  s.addMeter tenant 5 n

/-- The order in which an instance's capacity is granted at entry `i` (R45): classes by number. -/
def State.grantOrder (s : State) (n i : Nat) : List Nat :=
  (if s.risLeft n then [0] else []) ++ [s.slot n i] ++ [0, 1, 2, 3]

/-! ## Egress (R58, R94) -/

/-- The QP context published for a QPN. -/
def State.qp (s : State) (q : BitVec 24) : Option Qp := Maps.find q.toNat s.trn.qps

/-- A QP context replaced. -/
def State.setQp (s : State) (q : BitVec 24) (c : Qp) : State :=
  { s with trn := { s.trn with qps := Maps.put q.toNat c s.trn.qps } }

/-- Logical port `lp` is up. -/
def State.lpUp (s : State) (lp : Nat) : Bool := s.getB (Reg.PRT_STATUS + 0x1000 * (lp / 4)) (16 + lp % 4)

/-- A frame queued on a logical port's egress. -/
def State.enqueue (s : State) (lp : Nat) (f : Frame) : State :=
  { s with prt := { s.prt with egress := Maps.put lp (Maps.getD s.prt.egress lp [] ++ [f]) s.prt.egress } }

/-- The Operation Table without entry `o`. -/
def State.freeOpt (s : State) (o : Nat) : State :=
  { s with trn := { s.trn with opt := Maps.del o s.trn.opt } }

/-- A failed or answered READ or atomic leaves the outstanding queue (R86, R89). -/
def State.dropOutstanding (s : State) (q : BitVec 24) (o : Option Nat) : State :=
  match s.qp q, o with
  | some c, some k => s.setQp q { c with outstanding := c.outstanding.filter (fun e => e.opt != k) }
  | _, _ => s

/-- A frame released to the egress of a port: the Operation Table entries that go with it are free, and their requests count as
outstanding no more (R89, R96). -/
def State.depart (s : State) (lp : Nat) (f : Frame) : State :=
  (f.opt.toList ++ f.acks).foldl (fun (s : State) (o : Nat) => (s.freeOpt o).dropOutstanding f.qpn (some o))
    (s.enqueue lp { f with opt := none, acks := [] })

/-- A frame of a QP sent on EGRESS_LP, on ALT_LP while that is down, held while both are down (R94); a yielded unit releases
nothing (R403). -/
def State.sendOut (s : State) (c : Qp) (f : Frame) : State :=
  if s.twn.yieldedAt.isSome then s
  else if s.lpUp c.egressLp then s.depart c.egressLp f
  else if s.lpUp c.altLp then s.depart c.altLp f
  else { s with prt := { s.prt with heldOut := s.prt.heldOut ++ [f] } }

/-- The mode of the physical port of a logical port, in force (R59). -/
def State.portMode (s : State) (lp : Nat) : Nat := s.effF (Reg.PRT_MODE + 0x1000 * (lp / 4)) 1 0

/-- A logical port exists in the mode in force (R59). -/
def State.lpExists (s : State) (lp : Nat) : Bool :=
  match s.portMode lp with
  | 0 => false
  | 1 => lp % 4 == 0
  | 2 => lp % 2 == 0
  | _ => true

/-- CCLK cycles per bit of a port, times 3,125: 24 at 400 Gb/s, 48 at 200, 96 at 100 (R59, R1). -/
def State.cclkPerBit (s : State) (lp : Nat) : Nat :=
  match s.portMode lp with
  | 2 => 48
  | 3 => 96
  | _ => 24

/-- Bytes of a frame (PRESUMED from the RoCEv2 headers, log 20): Ethernet, tag, IP, UDP, BTH, extended header, padded
payload, ICRC and FCS. -/
def frameLen (c : Qp) (f : Frame) : Nat :=
  14 + (if bitOf c.vlan 15 then 0 else 4) + (if c.ipv6 then 40 else 20) + 8 + 12 +
  (match f.kind with
   | .readResponse | .ack | .nakSeq | .nakInvalid | .nakAccess | .nakOper | .nakRnr | .atomicWriteResponse => 4
   | .atomicAck => 12
   | _ => 0) + (f.data.length + 3) / 4 * 4 + 8

/-- The QP is paced (R92, R93). -/
def State.isPaced (s : State) (c : Qp) : Bool :=
  s.effB Reg.TRN_CC_CFG2 24 && (c.cls == .lungo || c.cls == .drip)

/-- A paced QP's next release time after sending a frame now: length × 256 / r bit times later (R92). -/
def State.paceNext (s : State) (c : Qp) (f : Frame) : Nat :=
  s.tck.start + ceilDiv (frameLen c f * 8 * 256 * s.cclkPerBit c.egressLp) (c.rate * 3125)

/-- A frame sent for a QP now: the pacing interval started (R92), and the frame released or held (R94). -/
def State.sendNow (s : State) (q : BitVec 24) (c : Qp) (f : Frame) : State :=
  (if s.isPaced c then s.setQp q { c with paceAt := s.paceNext c f } else s).sendOut c f

/-- A frame of a QP released (R92): at once, or behind the QP's pacing interval. What was to answer on a QP that is destroyed leaves its
Operation Table entries free. -/
def State.release (s : State) (q : BitVec 24) (f : Frame) : State :=
  match s.qp q with
  | none => (f.opt.toList ++ f.acks).foldl State.freeOpt s
  | some c =>
    let f := { f with qpn := q, cls := c.cls }
    let waiting := Maps.getD s.trn.paceq q.toNat []
    if s.isPaced c && (!waiting.isEmpty || s.tck.start < c.paceAt) then
      { s with trn := { s.trn with paceq := Maps.put q.toNat (waiting ++ [f]) s.trn.paceq } }
    else s.sendNow q c f

end Sys2Proof.Machine
end

