-- ==== Sys2Proof/Machine/Flags.lean ====
section
/-! DEFINITION. Conditions and codes: what the compare and predicate instructions compute (R188), the extended status
codes (R446) and trap codes (R158), the class numbers (R40). -/

namespace Sys2Proof.Machine

open Sys2Proof

/-- The number of a class (R40). -/
def Cls.num : Cls → Nat
  | .ristretto => 0
  | .lungo => 1
  | .drip => 2
  | .grounds => 3

/-- The class with a number (R40; the slot-table codes of TCK_SLOT_STG). -/
def Cls.ofNum (n : Nat) : Cls :=
  match n % 4 with
  | 0 => .ristretto
  | 1 => .lungo
  | 2 => .drip
  | _ => .grounds

/-- The number of a QP state (R581). -/
def QpState.num : QpState → Nat
  | .reset => 0
  | .init => 1
  | .rtr => 2
  | .rts => 3
  | .error => 4

/-- The QP state with a number (R581); a value above 4 is out of range. -/
def QpState.ofNum? (n : Nat) : Option QpState :=
  match n with
  | 0 => some .reset
  | 1 => some .init
  | 2 => some .rtr
  | 3 => some .rts
  | 4 => some .error
  | _ => none

/-- Signed 64-bit value of a register. -/
def sval (v : DWord) : Int := v.toInt

/-- The compare conditions of CMP and CMPI, by sub (R188). -/
def cmpEq (a b : DWord) : Bool := a == b
def cmpNe (a b : DWord) : Bool := a != b
def cmpLtu (a b : DWord) : Bool := a.toNat < b.toNat
def cmpGeu (a b : DWord) : Bool := b.toNat ≤ a.toNat
def cmpLt (a b : DWord) : Bool := sval a < sval b
def cmpGe (a b : DWord) : Bool := sval b ≤ sval a
def cmpTst (a b : DWord) : Bool := (a &&& b) != 0
def cmpNtst (a b : DWord) : Bool := (a &&& b) == 0

/-! Extended status codes (R446). -/
namespace Code
def ok : Nat := 0x00
def keyInvalid : Nat := 0x01
def keyStale : Nat := 0x02
def bounds : Nat := 0x03
def rights : Nat := 0x04
def revoked : Nat := 0x05
def tenant : Nat := 0x06
def invalidRequest : Nat := 0x07
def noSpace : Nat := 0x10
def tierReadonly : Nat := 0x11
def stageLate : Nat := 0x20
def stageFail : Nat := 0x21
def mediaUe : Nat := 0x22
def overrun : Nat := 0x30
def clauseAbort : Nat := 0x31
def homeMoved : Nat := 0x40
def solo : Nat := 0x41
def yielded : Nat := 0x42

/-- Every code of R446's table. -/
def all : List Nat := [0x00, 0x01, 0x02, 0x03, 0x04, 0x05, 0x06, 0x07, 0x10, 0x11, 0x20, 0x21, 0x22, 0x30, 0x31,
  0x40, 0x41, 0x42]

/-- The code an ABORT with this operand ends its request with: OK and codes absent from R446's table become
CLAUSE_ABORT (R157, R205). -/
def ofAbort (c : Nat) : Nat := if c ≠ 0 && all.contains c then c else clauseAbort

/-- The NAK that shows a code to the host of a plain operation (R88). -/
def nak (c : Nat) : FrameKind :=
  if c = keyInvalid ∨ c = keyStale ∨ c = bounds ∨ c = rights ∨ c = revoked ∨ c = tenant then .nakAccess
  else if c = invalidRequest then .nakInvalid
  else .nakOper
end Code

/-- The traps of R158, with TRAP_FETCH_UE; R185 orders them. -/
inductive Trap
  | overrun | illegal | priv | pad | tile | window | effect | intent | fetchUe | payload | rights
  deriving DecidableEq, Repr

/-- A trap's code (R158). -/
def Trap.code : Trap → Nat
  | .overrun => 0x01
  | .illegal => 0x02
  | .priv => 0x03
  | .pad => 0x04
  | .tile => 0x05
  | .window => 0x06
  | .effect => 0x07
  | .intent => 0x08
  | .fetchUe => 0x09
  | .payload => 0x0A
  | .rights => 0x0B

/-- The extended code a trapped request ends with (R158). -/
def Trap.ends : Trap → Nat
  | .overrun => Code.overrun
  | .window => Code.bounds
  | .rights => Code.rights
  | _ => Code.clauseAbort

end Sys2Proof.Machine
end

