-- ==== Sys2Proof/Machine/Lines.lean ====
section
/-! DEFINITION. Lines of the namespace: what a read of one returns (R363), its form at rest (R128, R129), where it lies on a stack
(R264, R271), and its 88 B there (R263). -/

namespace Sys2Proof.Machine

open Sys2Proof

/-- Pages are 16 KiB, extents 2 MiB, lines 64 B. -/
def pageOf (pna : Nat) : Nat := pna / 16384
def extentOf (pna : Nat) : Nat := pna / 2097152
def lineOf (pna : Nat) : Nat := pna / 64
def pageOfLine (line : Nat) : Nat := line / 256

/-- The newest Accepted entry of a line in the placement buffer (R363). -/
def State.newest (s : State) (line : Nat) : Option PbEntry := s.dur.pb.reverse.find? (fun e => e.line == line)

/-- The extent entry of an extent number, as published. -/
def State.extent (s : State) (e : Nat) : Option Extent := Maps.find e s.win.extents

/-- The key under which a line's tenant has it encrypted: what the tenant's key-store slot holds; none where ENCRYPT is 0
(R128, R130). -/
def State.lineKey (s : State) (line : Nat) : Option (List Byte) :=
  match s.extent (line / 32768) with
  | none => none
  | some x => match Maps.find x.tenant s.win.tenants with
    | some t => if t.encrypt then some (Maps.getD s.win.keySlots x.tenant []) else none
    | none => none

/-- 64 bytes as the data unit of AES-XTS, and back. -/
def xtsUnit (data : List Byte) : BitVec 512 := BitVec.ofNat 512 (leNat data)
def xtsBytes (v : BitVec 512) : List Byte := leBytes v.toNat 64

/-- A line's bytes as they leave for a stack, the NAND tier or the twin: encrypted where ENCRYPT is 1, the data-unit number
being PNA[47:6] (R128). -/
def State.sealLine (s : State) (line : Nat) (data : List Byte) : List Byte :=
  match s.lineKey line with
  | some k => xtsBytes (Config.xts k line (xtsUnit data))
  | none => data

/-- A line's bytes as tile memory and responses get them (R128, R129). -/
def State.openLine (s : State) (line : Nat) (data : List Byte) : List Byte :=
  match s.lineKey line with
  | some k => xtsBytes ((Config.xts k line).symm (xtsUnit data))
  | none => data

/-- The line has been stored since its page was mapped: a line that has not reads as zeros (R107, R384). -/
def State.lineStored (s : State) (line : Nat) : Bool := Maps.has s.med.epochs line

/-- An entry's bytes as they are stored and travel: one that holds plaintext is encrypted as it leaves (R128, R129, R362). -/
def State.entryAtRest (s : State) (e : PbEntry) : List Byte :=
  if e.mirror || e.cipher then e.data else s.sealLine e.line e.data

/-- An entry's bytes as reads get them: ciphertext is decrypted (R363). -/
def State.entryPlain (s : State) (e : PbEntry) : List Byte := if e.cipher then s.openLine e.line e.data else e.data

/-- A line's newest Accepted contents in the form in which it is stored and travels (R129, R363). -/
def State.lineAtRest (s : State) (line : Nat) : List Byte :=
  match s.newest line with
  | some e => s.entryAtRest e
  | none => if s.lineStored line then s.med.store.bytes (line * 64) 64 else s.sealLine line (List.replicate 64 0)

/-- A line as every read of the unit sees it: the newest Accepted value (R363), decrypted (R129); a line of an Unwritten page
reads as zeros (R107). -/
def State.lineBytes (s : State) (line : Nat) : List Byte :=
  match s.newest line with
  | some e => s.entryPlain e
  | none => if s.lineStored line then s.openLine line (s.med.store.bytes (line * 64) 64) else List.replicate 64 0

/-- The byte at a PNA as every read of the unit sees it. -/
def State.byteAt (s : State) (a : Nat) : Byte := nthD (s.lineBytes (lineOf a)) (a % 64) 0

/-- `n` bytes from a PNA. -/
def State.readBytes (s : State) (a : Nat) : Nat → List Byte
  | 0 => []
  | n + 1 => s.byteAt a :: State.readBytes s (a + 1) n

/-- The tenant that owns a page. -/
def State.pageTenant (s : State) (page : Nat) : Option Nat := (s.extent (page / 128)).map (·.tenant)

/-- Logical lines of a region: N of R271. -/
def regionLines : Nat := 2 ^ 24

/-- The stack and the frame that hold a page, or are being filled with it (R279). -/
def State.frameOf (s : State) (page : Nat) : Option (Nat × Nat) :=
  match Maps.find page s.win.pages with
  | some (.scm m f) => some (m, f)
  | _ => (Maps.find page s.med.promotes).map (fun x => (x.stack, x.frame))

/-- The link of the stack that holds a line, or takes it. -/
def State.lineStack (s : State) (line : Nat) : Nat := match s.frameOf (pageOfLine line) with | some (m, _) => m | none => 0

/-- The LSA of a line: frame × 256 + line of the page, which is REGION × 2²⁴ + L (R264). -/
def State.lsa (s : State) (line : Nat) : Nat :=
  match s.frameOf (pageOfLine line) with | some (_, f) => f * 256 + line % 256 | none => 0

/-- The address word that a line's tag has where it lies now (R264). -/
def State.lineAddress (s : State) (line : Nat) : Nat :=
  scmAddress (s.lsa line) (s.lineStack line) ((s.pageTenant (pageOfLine line)).getD 0) false

/-- The EPOCH stored with a line (R263). -/
def State.storedEpoch (s : State) (line : Nat) : Nat := Maps.getD s.med.epochs line 0

/-- The 88 B of a line as its stack holds it (R263). -/
def State.storedLine (s : State) (line : Nat) : List Byte :=
  storedBytes (s.med.store.bytes (line * 64) 64) (s.lineAddress line) (s.storedEpoch line)

/-- The slot of logical line `k` of a region (R271). -/
def RegionRec.slotOf (x : RegionRec) (k : Nat) : Nat :=
  let p := (k + x.start) % regionLines
  if x.gap ≤ p then p + 1 else p

end Sys2Proof.Machine
end

