-- ==== Sys2Proof/Machine/Links.lean ====
section
/-! DEFINITION. The capacity of a tick by slot tables (R43–R48); the media links' sending side: flits (R250, R252), transaction headers
(R255, R256), the lines written (R263, R367, R374, R387), and the journal (R386–R388). -/

namespace Sys2Proof.Machine

open Sys2Proof

/-! ## Slots of the present tick (R43–R48) -/

/-- Entries of a table whose capacity has been taken in the present tick. -/
def State.slotsTaken (s : State) (n : Nat) : Nat := Maps.getD s.tck.slotUsed n 0

/-- The work that entry `i` of a table serves (R45); a Ristretto entry without Ristretto work is lent only to work that ends within it
(R46). DESIGN CHOICE, log 138: no chapter numbers requesters of the media links and the twin bundles for R51; of a class the oldest work
goes first. -/
def State.servedAt {α : Type} (s : State) (n : Nat) (l : List α) (cls : α → Cls) (size : α → Nat) (i : Nat) : Option α :=
  let lent := s.slot n i == 0 && !l.any (fun x => cls x == .ristretto)
  (s.grantOrder n i).findSome? (fun c => l.find? (fun x => (cls x).num == c && (!lent || decide (size x ≤ 1))))

/-- The work that goes next on an instance, and the entry it starts in: the first entry left in this tick that serves any. -/
def State.grant {α : Type} (s : State) (n : Nat) (l : List α) (cls : α → Cls) (size : α → Nat) : Option (Nat × α) :=
  let e := s.slotsTaken n
  (upTo (64 - e)).findSome? (fun k => (s.servedAt n l cls size (e + k)).map (fun x => (e + k, x)))

/-- Work of a class and tenant has taken `k` entries from entry `e` on (R45, R48, R133). -/
def State.takeSlots (s : State) (n e k : Nat) (cls : Cls) (tenant : Nat) : State :=
  let s := { s with tck := { s.tck with slotUsed := Maps.put n (e + k) s.tck.slotUsed } }
  if cls == .ristretto then s.useRis n e k tenant else s

/-! ## Links and regions -/

/-- A media link. -/
def State.link (s : State) (m : Nat) : MLinkRec := Maps.getD s.med.links m {}

/-- A media link replaced. -/
def State.setLink (s : State) (m : Nat) (l : MLinkRec) : State :=
  { s with med := { s.med with links := Maps.put m l s.med.links } }

/-- The line of the namespace that a transaction writes; that it reads. -/
def MTrans.written : MTrans → Option Nat
  | .wr l _ _ _ | .fix l | .writeBack l _ | .home _ l | .promo l => some l
  | _ => none
def MTrans.reads : MTrans → Option Nat
  | .rd l _ | .fill l _ => some l
  | _ => none

/-- The line of the namespace that a transaction is about. -/
def MTrans.line (t : MTrans) : Option Nat := t.written.orElse (fun _ => t.reads)

/-- The region and the logical line where a line of a page lies, or is being placed (R264, R275). -/
def State.regionOf (s : State) (line : Nat) : Option (Nat × Nat × Nat) :=
  (s.frameOf (pageOfLine line)).map (fun x => (x.1, x.2 / 65536, x.2 % 65536 * 256 + line % 256))

/-- A region's rotation state. -/
def State.region (s : State) (m r : Nat) : RegionRec := Maps.getD s.med.regions (512 * m + r) {}

/-- A region's rotation state replaced. -/
def State.setRegion (s : State) (m r : Nat) (x : RegionRec) : State :=
  { s with med := { s.med with regions := Maps.put (512 * m + r) x s.med.regions } }

/-- The slot that a region's next move reads, and the logical line it carries (R272, R273). -/
def RegionRec.source (x : RegionRec) : Nat := if x.gap = 0 then regionLines else x.gap - 1
def RegionRec.moved (x : RegionRec) : Nat :=
  ((if x.gap = 0 then regionLines - 1 else x.gap - 1) + regionLines - x.start) % regionLines

/-- What names the slot that a transaction writes: a line of the namespace or a line of the chip's own metadata (R281). -/
def MTrans.target (t : MTrans) : Option (List Nat) :=
  match t, t.written with
  | _, some l => some [0, l]
  | .metaFix a _, none => some [1, a]
  | .header k, none | .slotFree k, none => some [2, k]
  | .image k l, none => some [3, k, l]
  | .tableHome _ table index, none => some [4, table, index]
  | .journal _ seq _ _, none => some [5, seq]
  | .outcome own k, none => some [6, if own then 1 else 0, k.bond, if k.invoke then 1 else 0, k.seq, k.pos]
  | _, none => none

/-- A write waits: its line is being moved (R272), or an earlier write to its slot drew ERR and is not confirmed (R281); the write that
is issued again waits for a move alone. -/
def State.writeHeld (s : State) (l : MLinkRec) (w : MWork) : Bool :=
  (match w.trans.written.bind s.regionOf with
   | some (m, r, k) => (s.region m r).moving && k == (s.region m r).moved
   | none => false) ||
  (w.again.isNone && w.trans.target.isSome &&
    l.trans.any (fun e => e.2.trans.target == w.trans.target && Maps.has l.errs e.1))

/-- A line write counted for its region (R272). -/
def State.countWrite (s : State) (t : MTrans) : State :=
  match t.written.bind s.regionOf with
  | some (m, r, _) => s.setRegion m r { s.region m r with writes := (s.region m r).writes + 1 }
  | none => s

/-! ## Flits and headers (R250, R255, R256) -/

/-- A flit of 256 B: its header, slot 0 and zeros, and the CRC over them (R250). -/
def flitBytes (type seq ackSeq credit : Nat) (slot0 : List Byte) : List Byte :=
  let head := leBytes (type + seq % 4096 * 2 ^ 4 + ackSeq % 4096 * 2 ^ 16 + credit % 65536 * 2 ^ 32) 8
  let body := head ++ slice (slot0 ++ List.replicate 240 0) 0 240
  body ++ leBytes (crc64Inv body) 8

/-- A flit sent: every one carries the last SEQ accepted, a NAK the SEQ expected (log 114), and the transactions released since the last
flit (R250, R252). -/
def MLinkRec.sendFlit (l : MLinkRec) (type : Nat) (seq ackSeq : BitVec 12) (slot0 : List Byte) : MLinkRec :=
  { l with out := flitBytes type seq.toNat ackSeq.toNat l.released slot0, released := 0 }

/-- The last DATA SEQ accepted. -/
def MLinkRec.accepted (l : MLinkRec) : BitVec 12 := l.rxSeq - 1

/-- A DATA flit, an ACK flit, a NAK flit and an IDLE flit sent (R252). -/
def MLinkRec.dataFlit (l : MLinkRec) (f : FlitRec) : MLinkRec := l.sendFlit 1 f.seq l.accepted (leBytes f.header.toNat 8 ++ f.line)
def MLinkRec.ackFlit (l : MLinkRec) : MLinkRec := { l.sendFlit 2 0 l.accepted [] with rxUnacked := 0 }
def MLinkRec.nakFlit (l : MLinkRec) : MLinkRec := l.sendFlit 3 0 l.rxSeq []
def MLinkRec.idleFlit (l : MLinkRec) : MLinkRec := l.sendFlit 4 0 l.accepted []

/-- The transaction header of R255. -/
def mediaHeader (op tag cnt region slot reason : Nat) : DWord :=
  BitVec.ofNat 64 (op % 256 + tag % 1024 * 2 ^ 8 + cnt % 64 * 2 ^ 18 + region % 512 * 2 ^ 24 + slot % 2 ^ 25 * 2 ^ 33 + reason % 64 * 2 ^ 58)

/-- OP of a transaction (R256). -/
def MTrans.op : MTrans → Nat
  | .rd _ _ | .fill _ _ | .metaRd _ => 0x01
  | .move _ => 0x03
  | .cfgrd _ => 0x04
  | .cfgwr _ => 0x05
  | _ => 0x02

/-- REGION and SLOT of a transaction: a line of the namespace lies where R271 puts it, one of the metadata regions, which are not rotated
(R386), at its LSA. -/
def State.slotFor (s : State) (m : Nat) (t : MTrans) (address : Nat) : Nat × Nat :=
  match t, t.line.bind s.regionOf with
  | .move r, _ => (r, (s.region m r).source)
  | .cfgrd i, _ | .cfgwr i, _ => (0, i)
  | _, some (_, r, k) => (r, (s.region m r).slotOf k)
  | _, none => (address % 2 ^ 33 / regionLines, address % regionLines)

/-! ## The lines written (R263, R362, R367, R374, R387) -/

/-- A placement-buffer entry, by what a WR carries. -/
def PbEntry.isFor (e : PbEntry) (line : Nat) (qpn : BitVec 24) (wseq : Nat) (mirror : Bool) : Bool :=
  e.line == line && e.qpn == qpn && e.wseq == wseq && e.mirror == mirror

/-- 60 bytes of a metadata line, and their CRC-32C (R367, R374, R387). -/
def withCrc (bs : List Byte) : List Byte := bs ++ leBytes (crcInv bs) 4

/-- `n` bytes of a list, filled up with zeros. -/
def padTo (n : Nat) (bs : List Byte) : List Byte := slice (bs ++ List.replicate n 0) 0 n

/-- What names an outcome entry. -/
def Outcome.key (o : Outcome) : OutcomeKey := { bond := o.bond, invoke := o.kind == 3, seq := o.seq, pos := o.pos, qpn := o.qpn }

/-- The 64 B outcome entry of R367. -/
def Outcome.bytes (o : Outcome) : List Byte :=
  withCrc (leBytes (o.bond % 2 ^ 20 + (if o.sideB then 2 ^ 24 else 0) + o.kind % 16 * 2 ^ 28) 4 ++ leBytes o.seq 4 ++ leBytes o.rkey.toNat 4 ++
    leBytes (o.pos % 256) 4 ++ leBytes o.va 8 ++ padTo 16 (o.ops.flatMap (fun w => leBytes w.toNat 8)) ++
    padTo 16 (o.orig.flatMap (fun w => leBytes w.toNat 8)) ++ leBytes o.epoch 4)

/-- The header of an intent slot (R374), STATE free or valid. -/
def Intent.header (x : Intent) (valid : Bool) : List Byte :=
  withCrc (padTo 48 (x.lines.flatMap (fun l => leBytes l.1 6)) ++ leBytes x.lines.length 1 ++ [if valid then 0xA5 else 0x00] ++
    leBytes (x.tenant % 4096) 2 ++ leBytes x.epoch 4 ++ leBytes 0 4)

/-- A stored header is one of a valid slot: STATE is valid and the CRC passes (R377). -/
def headerValid (h : List Byte) : Bool :=
  decide (h.length = 64) && nthD h 49 0 == 0xA5 && leNat (slice h 60 4) == crcInv (slice h 0 60)

/-- A record of the journal (R387, log 125): the manual does not say how an entry of a table makes up VALUE, which is free. -/
def journalRecord (seq table : Nat) (last : Bool) (index : Nat) (value : List Byte) : List Byte :=
  withCrc (leBytes seq 8 ++ leBytes table 1 ++ [if last then 1 else 0] ++ leBytes 0 6 ++ leBytes index 8 ++ padTo 36 value)

/-- A line of the chip's own metadata (R264, R386, log 125): its place in the metadata regions is free. -/
def State.metaLine (s : State) (m : Nat) (t : MTrans) (data : List Byte) : MSentRec × State :=
  let (v, s) := s.takeWord
  let address := scmAddress (v.toNat % (s.getF Reg.DUR_META_CFG 5 0 * regionLines)) m 0 true
  ({ trans := t, address, line := storedBytes data address s.dur.epoch }, s)

/-- A transaction as it is sent on link `m`: the address word of its line's tag, and the line it writes (R264, R265, R362). -/
def State.compose (s : State) (m : Nat) (t : MTrans) : MSentRec × State :=
  let line (l : Nat) (data : List Byte) (epoch : Nat) : MSentRec :=
    { trans := t, address := s.lineAddress l, line := storedBytes data (s.lineAddress l) epoch }
  match t with
  | .rd l _ | .fill l _ => ({ trans := t, address := s.lineAddress l }, s)
  | .metaRd a => ({ trans := t, address := scmAddress a m 0 true }, s)
  | .metaFix a data => ({ trans := t, address := scmAddress a m 0 true, line := data }, s)
  | .writeBack l data => ({ trans := t, address := s.lineAddress l, line := data }, s)
  | .wr l q w mirror => match s.dur.pb.find? (fun e => e.isFor l q w mirror) with
    | some e => (line l (s.entryAtRest e) e.epoch, s)
    | none => ({ trans := t }, s)
  | .fix l | .promo l => ({ trans := t, address := s.lineAddress l, line := s.storedLine l }, s)
  | .home k l => match (Maps.find k s.dur.intents).bind (fun x => (x.lines.find? (fun e => e.1 == l)).map (fun e => (x, e.2))) with
    | some (x, data) => (line l data x.epoch, s)
    | none => ({ trans := t }, s)
  | .image k l => match (Maps.find k s.dur.intents).bind (fun x => x.lines.find? (fun e => e.1 == l)) with
    | some e => s.metaLine m t e.2
    | none => ({ trans := t }, s)
  | .header k => match Maps.find k s.dur.intents with
    | some x => s.metaLine m t (x.header true)
    | none => ({ trans := t }, s)
  | .slotFree k => match Maps.find k s.dur.intents with
    | some x => s.metaLine m t (x.header false)
    | none => ({ trans := t }, s)
  | .outcome own key => match (if own then s.dur.outcomes else s.dur.twinOutcomes).find? (fun o => o.key == key) with
    | some o => s.metaLine m t o.bytes
    | none => ({ trans := t }, s)
  | .journal g q table index =>
    let (v, s) := s.takeBytes 36
    s.metaLine m t (journalRecord q table (q == g) index v)
  | .tableHome _ _ _ =>
    let (v, s) := s.takeBytes 64
    s.metaLine m t v
  | .move _ | .cfgrd _ | .cfgwr _ => ({ trans := t }, s)

/-! ## Sending -/

/-- A tile takes its bytes of a line as the line reads now: the moment its read is issued (R229). -/
def State.takeLine (s : State) (tile line : Nat) : State :=
  match Maps.find tile s.stg.tiles with
  | none => s
  | some t =>
    let first := Nat.max t.base (line * 64)
    let last := Nat.min (t.base + t.len) (line * 64 + 64)
    let bytes := Mem.setBytes t.bytes (first - t.base) (s.readBytes first (last - first))
    { s with stg := { s.stg with tiles := Maps.put tile { t with bytes, taken := line :: t.taken } s.stg.tiles } }

/-- A transaction sent in a DATA flit of its own, in slot 0 (R250, R257). An RD asks for one line, CNT 0 (DESIGN CHOICE, log 145). -/
def State.send (s : State) (m : Nat) (w : MWork) : State :=
  let t := w.trans
  let (x, s) := s.compose m t
  let x := { x with cls := w.cls, tenant := w.tenant }
  let l := s.link m
  let tag := Maps.nextKey 0 l.trans
  let (region, slot) := s.slotFor m t x.address
  let f : FlitRec := { seq := l.txSeq, header := mediaHeader t.op tag 0 region slot 0, line := x.line }
  let l := { l with trans := Maps.put tag x l.trans, unacked := l.unacked ++ [f], txSeq := l.txSeq + 1 }
  let s := (s.setLink m (l.dataFlit f)).countWrite t
  match t with
  | .fill line tile => s.takeLine tile line
  | _ => s

/-- A transaction that drew ERR sent again, with its TAG, in a flit of its own (R281). -/
def State.resend (s : State) (m tag : Nat) : State :=
  let l := s.link m
  match Maps.find tag l.trans with
  | none => s
  | some x =>
    let (region, slot) := s.slotFor m x.trans x.address
    let f : FlitRec := { seq := l.txSeq, header := mediaHeader x.trans.op tag 0 region slot 0, line := x.line }
    s.setLink m (({ l with unacked := l.unacked ++ [f], txSeq := l.txSeq + 1 } : MLinkRec).dataFlit f)

/-- The held work that may go now: no write that waits, and nothing ahead of work on the same line (R272, R281, R362). -/
def freeWork (waits : MWork → Bool) : List MWork → List Nat → List MWork
  | [], _ => []
  | w :: ws, seen =>
    let ahead := match w.trans.line with | some l => seen.contains l | none => false
    let rest := freeWork waits ws (w.trans.line.toList ++ seen)
    if ahead || waits w then rest else w :: rest

/-- The slot table of a media link (R43). -/
def mediaTable (m : Nat) : Nat := 46 + m

/-- One transaction sent on a link that is Up: fewer transactions outstanding than CREDITS, or one of them issued again, fewer than 64
flits unacknowledged, a slot left in this tick (R43–R46, R252, R257, R281). -/
def State.pumpOne (s : State) (m : Nat) : State :=
  let l := s.link m
  if l.state ≠ 2 || s.sqr.serdesIdle || 64 ≤ l.unacked.length then s
  else
    let free := (freeWork (s.writeHeld l) l.held []).filter (fun w => w.again.isSome || decide (l.trans.length < l.credits))
    match s.grant (mediaTable m) free (·.cls) (fun _ => 1) with
    | none => s
    | some (e, w) =>
      let s := (s.setLink m { l with held := l.held.erase w }).takeSlots (mediaTable m) e 1 w.cls w.tenant
      match w.again with
      | some tag => s.resend m tag
      | none => s.send m w

/-- As many of a link's held transactions as may go are sent. -/
def State.pump (s : State) (m : Nat) : State := (s.link m).held.foldl (fun s _ => s.pumpOne m) s

/-- A transaction bound for a stack, for work of a class and a tenant. -/
def State.issueFor (s : State) (m : Nat) (cls : Cls) (tenant : Nat) (t : MTrans) : State :=
  let l := s.link m
  (s.setLink m { l with held := l.held ++ [{ trans := t, cls, tenant }] }).pumpOne m

/-- A transaction of the chip's own work (R40). -/
def State.issue (s : State) (m : Nat) (t : MTrans) : State := s.issueFor m .grounds 0 t

/-- At a tick boundary every link sends what it may; one that has nothing to send is idle (R252). -/
def State.pumpLink (s : State) (m : Nat) : State :=
  let l := s.link m
  if l.state = 2 && l.held.isEmpty && !s.sqr.serdesIdle then s.setLink m l.idleFlit else s.pump m
def State.pumpLinks (s : State) : State := (upTo 16).foldl State.pumpLink s

/-- The stack that takes metadata writes: the lowest-numbered one that is Up (log 30). -/
def State.metaStack (s : State) : Nat := ((upTo 16).find? (fun m => (s.link m).state == 2)).getD 0

/-- TABLE of a journal record (R387). -/
def Tbl.window : Nat := 1
def Tbl.tenant : Nat := 2
def Tbl.extent : Nat := 3
def Tbl.page : Nat := 4
def Tbl.frame : Nat := 5
def Tbl.region : Nat := 6
def Tbl.poison : Nat := 7
def Tbl.nand : Nat := 8
def Tbl.inflight : Nat := 9
def Tbl.role : Nat := 10

/-- What a table's entry holds before a change of it is journalled. -/
def State.before (s : State) (r : Nat × Nat) : Option Undo :=
  let (table, i) := r
  if table = Tbl.page then some (.page i (Maps.find i s.win.pages))
  else if table = Tbl.frame then some (.frame (i / 2 ^ 26) (i % 2 ^ 26) (Maps.find (i % 2 ^ 26) (s.link (i / 2 ^ 26)).frames))
  else if table = Tbl.inflight then some (.mark i (Maps.find i s.dur.inflight))
  else if table = Tbl.poison then some (.poison i (Maps.find i s.med.poison))
  else if table = Tbl.role then some (.role s.twn.role)
  else none

/-- A new journal group for changes of entries, each a TABLE and an INDEX, which are made after it: its records are written to the metadata
regions (R387). The group goes by the SEQ of its last record. -/
def State.journalFor (s : State) (cls : Cls) (tenant : Nat) (recs : List (Nat × Nat)) : Nat × State :=
  let q := s.dur.journalSeq
  let g := q + recs.length
  let undo := (recs.filterMap s.before).map (fun u => (g, u))
  let s := { s with dur := { s.dur with
    journalSeq := g, journalOpen := s.dur.journalOpen ++ [g], groups := Maps.put g recs s.dur.groups, undo := s.dur.undo ++ undo } }
  (g, (upTo recs.length).foldl (fun (s : State) (k : Nat) =>
    let r := nthD recs k (0, 0)
    s.issueFor s.metaStack cls tenant (.journal g (q + k + 1) r.1 r.2)) s)

/-- A journal group of the chip's own work. -/
def State.journal (s : State) (recs : List (Nat × Nat)) : Nat × State := s.journalFor .grounds 0 recs

end Sys2Proof.Machine
end

