-- ==== Sys2Proof/Machine/Channels.lean ====
section
/-! DEFINITION. The NAND channels: where a record's pages lie (R314, R317), and what a channel does next (R332). -/

namespace Sys2Proof.Machine

open Sys2Proof

/-! ## Where records lie (R317, R318) -/

/-- Codewords a stripe row holds besides its parity page. -/
def NandSbRec.rowCws (x : NandSbRec) : Nat := 16 * (x.dies.length - 1)

/-- The page of a superblock, row × G + member, that holds a codeword of its stream (R317). -/
def NandSbRec.pageOf (x : NandSbRec) (cw : Nat) : Nat :=
  let g := x.dies.length
  let k := cw / 16
  let row := k / (g - 1)
  let pos := k % (g - 1)
  row * g + if pos < row % g then pos else pos + 1

/-- The die of a page of a superblock. -/
def NandSbRec.dieOf (x : NandSbRec) (page : Nat) : Nat := nthD x.dies (page % Nat.max 1 x.dies.length) 0

/-- The dies that hold a run of codewords: two pages, or three (R317). -/
def NandSbRec.diesOf (x : NandSbRec) (start size : Nat) : List Nat :=
  [start, start + size / 2, start + size - 1].map (fun c => x.dieOf (x.pageOf c))

/-- Where a NAND-resident page's record is; a number from 2³⁴ on names a map segment (R318, R337). -/
def State.nandLoc (s : State) (page : Nat) : Option NandLocRec :=
  if 2 ^ 34 ≤ page then (Maps.find (page - 2 ^ 34) s.ntl.segments).map (fun e => { sb := e.1, start := e.2, page })
  else match Maps.find page s.win.pages with
  | some (.nand t) => Maps.find t s.ntl.map
  | _ => none

/-- Where the record is that a read of a page reads: where it was when the read was asked for (R322, R335). -/
def State.readLoc (s : State) (page : Nat) : Option NandLocRec := (Maps.find page s.ntl.reading).orElse (fun _ => s.nandLoc page)

/-- The dies that hold a page's record, and their channels. -/
def State.readDies (s : State) (page : Nat) : List Nat :=
  match s.readLoc page with
  | some e => match Maps.find e.sb s.ntl.sbs with
    | some x => (x.diesOf e.start 19).eraseDups
    | none => []
  | none => []
def State.readChannels (s : State) (page : Nat) : List Nat := ((s.readDies page).map (· / 64)).eraseDups

/-- A die's record. -/
def State.die (s : State) (d : Nat) : DieRec := Maps.getD s.ntl.dies d {}

/-- Work reads a record. -/
def NandJob.reads : NandJob → Bool
  | .read _ => true
  | _ => false

/-- The dies of a channel that a piece of work occupies. -/
def State.opDies (s : State) (o : NandOpRec) : List Nat :=
  (match o.job with
   | .read page => s.readDies page
   | .prog sb p => match Maps.find sb s.ntl.sbs with | some x => [x.dieOf p] | none => []
   | .erase sb => match Maps.find sb s.ntl.sbs with | some x => x.dies | none => []).filter (fun d => d / 64 == o.ch)

/-- A program or an erase is under way on a die (R331). -/
def State.dieBusy (s : State) (d : Nat) : Bool :=
  s.ntl.ops.any (fun o => o.issued && !o.job.reads && (s.opDies o).contains d)

/-- Work waits for a die that programs or erases; a read does not while that operation is suspended (R331). -/
def State.opWaits (s : State) (o : NandOpRec) : Bool :=
  (s.opDies o).any (fun d => s.dieBusy d && !(o.job.reads && (s.die d).suspended))

/-! ## The arbiter of a channel (R43, R332) -/

/-- The slot table of a NAND channel. -/
def nandTable (ch : Nat) : Nat := 62 + ch

/-- Entries that work takes: a page of 18,432 B at 2.4 GB/s lasts 1,475 of 16 CCLK, a command fits one (R1, R310, R314). -/
def NandJob.slots : NandJob → Nat
  | .erase _ => 1
  | _ => 1475

/-- The requester, class and tenant of a read (R332): a request's, a promotion in its write's class, the background scan, a copy. -/
def State.readFor (s : State) (page : Nat) (want : NandWant) : Nat × Cls × Nat :=
  let of (id : Nat) : Nat × Cls × Nat := match Maps.find id s.cle.reqs with | some r => (0, r.cls, r.tenant) | none => (0, .grounds, 0)
  match want with
  | .req id => of id
  | .tile t => match Maps.find t s.stg.tiles with | some x => of x.req | none => (0, .grounds, 0)
  | .chip => match Maps.find page s.med.promotes with
    | some x => (1, x.cls, (s.pageTenant page).getD 0)
    | none => (1, .grounds, 0)
  | .scan => (6, .grounds, 0)
  | .copy n => (n, .grounds, 0)

/-- The waiting work of a channel, from the requester at the rotation pointer on (R51). -/
def State.nandWaiting (s : State) (ch : Nat) : List NandOpRec :=
  let w := s.ntl.ops.filter (fun o => o.ch == ch && !o.issued && !s.opWaits o)
  (upTo 9).flatMap (fun k => w.filter (fun o => o.requester == (s.ptr 9 + k) % 9))

/-- One piece of work issued on a channel, where an entry of this tick is left for it; none in P2 Hold (R349). -/
def State.pumpNand (s : State) (ch : Nat) : State :=
  match if s.getF Reg.PWR_STATUS 31 29 = 2 then none else s.grant (nandTable ch) (s.nandWaiting ch) (·.cls) (·.job.slots) with
  | none => s
  | some (e, o) =>
    let s := s.takeSlots (nandTable ch) e o.job.slots o.cls o.tenant
    { s with ntl := { s.ntl with ops := s.ntl.ops.map (fun x => if x == o then { x with issued := true } else x) } }

/-- At a tick boundary every channel issues what it may. -/
def State.pumpChannels (s : State) : State :=
  (upTo 16).foldl (fun s ch => (s.nandWaiting ch).foldl (fun (s : State) _ => s.pumpNand ch) s) s

/-- Work that waits, joined by other work that needs the same: a request's read takes it over as its own from now on, and else the earlier
of the two classes counts (R331, R332). -/
def State.joinNand (s : State) (x o : NandOpRec) : NandOpRec :=
  let cls := if o.cls.num < x.cls.num then (o.cls, o.tenant) else (x.cls, x.tenant)
  if o.requester = 0 && x.requester ≠ 0 then { o with since := s.now, cls := cls.1, tenant := cls.2 }
  else { x with cls := cls.1, tenant := cls.2 }

/-- Work queued on its channel; a read that waits there already serves both. -/
def State.queueNand (s : State) (o : NandOpRec) : State :=
  let same (x : NandOpRec) : Bool := x.ch == o.ch && x.job == o.job
  let ops := if s.ntl.ops.any same then
      s.ntl.ops.map (fun x => if same x && !x.issued then s.joinNand x o else x)
    else s.ntl.ops ++ [{ o with since := s.now }]
  ({ s with ntl := { s.ntl with ops } } : State).pumpNand o.ch

/-- Work has been issued on every channel that it needs. -/
def State.nandIssued (s : State) (job : NandJob) : Bool := s.ntl.ops.all (fun o => o.job != job || o.issued)

/-- Work is done, or given up. -/
def State.dropNand (s : State) (job : NandJob) : State :=
  { s with ntl := { s.ntl with ops := s.ntl.ops.filter (fun o => o.job != job) } }

end Sys2Proof.Machine
end

