-- ==== Sys2Proof/Machine/Store.lean ====
section
/-! DEFINITION. The placement buffer and the pages: the lines of writes (R197, R360), admission (R357, R358), the write sequence and
durable front of a QP (R351, R352), pages and frames (R107, R275, R280). -/

namespace Sys2Proof.Machine

open Sys2Proof

/-- The lines a byte range touches. -/
def linesOf (a n : Nat) : List Nat :=
  if n = 0 then [] else (upTo ((a + n - 1) / 64 - a / 64 + 1)).map (fun k => a / 64 + k)

/-- A line's 64 bytes with a write of `bytes` from PNA `a` applied. -/
def overlay (line : Nat) (base : List Byte) (a : Nat) (bytes : List Byte) : List Byte :=
  (upTo 64).map (fun i =>
    let x := line * 64 + i
    if a ≤ x ∧ x < a + bytes.length then nthD bytes (x - a) 0 else nthD base i 0)

/-- Keep the first of equal numbers. -/
def dedup : List Nat → List Nat
  | [] => []
  | x :: xs => x :: (dedup xs).filter (· != x)

/-- The lines a clause's window writes touch, first touched first (R197's count). -/
def touched (base : Nat) (ws : List WinWrite) : List Nat :=
  dedup (ws.flatMap (fun w => linesOf (base + w.off) w.bytes.length))

/-- The lines of a write event with their new contents: partial lines are completed from the newest Accepted value
(R360), the writes applied in issue order (R197). -/
def State.mergedLines (s : State) (base : Nat) (ws : List WinWrite) : List (Nat × List Byte) :=
  (touched base ws).map (fun l =>
    (l, ws.foldl (fun d w => overlay l d (base + w.off) w.bytes) (s.readBytes (l * 64) 64)))

/-- A write covers all 64 bytes of a line. -/
def coversLine (base : Nat) (ws : List WinWrite) (l : Nat) : Bool :=
  (upTo 64).all (fun i => ws.any (fun w => base + w.off ≤ l * 64 + i && l * 64 + i < base + w.off + w.bytes.length))

/-! ## Pages, frames, tenants -/

/-- Pages of a tenant resident in SCM. -/
def State.residentPages (s : State) (t : Nat) : Nat :=
  (s.win.pages.filter (fun e => (match e.2 with | .scm _ _ => true | _ => false) && s.pageTenant e.1 == some t)).length

/-- Frames a stack's pool holds: 512 regions of 65,536 frames, less the metadata regions (R275, R386). -/
def State.poolFrames (s : State) : Nat := (512 - s.getF Reg.DUR_META_CFG 5 0) * 65536

/-- Free frames of a stack's pool. -/
def State.freeFrames (s : State) (m : Nat) : Nat :=
  if (s.link m).state < 2 || (s.link m).state = 5 then 0 else s.poolFrames - (s.link m).frames.length

/-- Frames promised to pinnings under way (R116). -/
def State.reservedFrames (s : State) : Nat := s.win.reserved.length

/-- Free frames of the unit's pool, and those that no pinning has reserved. -/
def State.rawFree (s : State) : Nat := ((upTo 16).map s.freeFrames).foldl (· + ·) 0
def State.poolFree (s : State) : Nat := s.rawFree - s.reservedFrames

/-- The stack with the most free frames, lowest ML index among equals (R275). -/
def State.emptiestStack (s : State) : Nat :=
  (upTo 16).foldl (fun best m => if s.freeFrames best < s.freeFrames m then m else best) 0

/-- The lowest-numbered free frame of a stack, frames numbered over its pool regions. -/
def State.lowFrame (s : State) (m : Nat) : Nat :=
  Maps.nextKey (s.getF Reg.DUR_META_CFG 5 0 * 65536) (s.link m).frames

/-- The minute counter, which stamps LAST_WRITE (R276). -/
def State.minute16 (s : State) : Nat := s.now / 180000000 % 65536

/-- A page given a frame of the pool, its mapping journalled, for work of a class and tenant (R41, R107, R275, R350). -/
def State.mapPage (s : State) (cls : Cls) (page : Nat) : State :=
  let m := s.emptiestStack
  let f := s.lowFrame m
  let (g, s) := s.journalFor cls ((s.pageTenant page).getD 0) [(Tbl.page, page), (Tbl.frame, m * 2 ^ 26 + f)]
  let l := s.link m
  let s := s.setLink m { l with frames := Maps.put f (page, s.minute16) l.frames }
  { s with win := { s.win with pages := Maps.put page (.scm m f) s.win.pages }
           dur := { s.dur with mapGroups := Maps.put page g s.dur.mapGroups } }

/-- A page with no location any more, and with nothing stored: its frame or TPN becomes free once the group is Placed (R107, R388). -/
def State.unmapPage (s : State) (page : Nat) : State :=
  match Maps.find page s.win.pages with
  | none => s
  | some loc =>
    let (g, s) := s.journal [(Tbl.page, page)]
    { s with win := { s.win with pages := Maps.del page s.win.pages }
             med := { s.med with
               store := Mem.clear s.med.store (page * 16384) 16384
               epochs := s.med.epochs.filter (fun x => pageOfLine x.1 != page) }
             dur := { s.dur with frees := s.dur.frees ++ [(g, loc)] } }

/-- The page is in NAND. -/
def State.inNand (s : State) (page : Nat) : Bool :=
  match Maps.find page s.win.pages with
  | some (.nand _) => true
  | _ => false

/-- A record read for one who waits for it, its work queued on the channels of the record's dies (R327, R332). -/
def State.askNand (s : State) (page : Nat) (want : NandWant) : State :=
  if s.med.nandReads.contains (page, want) then s
  else
    let reading := match s.readLoc page with | some e => Maps.put page e s.ntl.reading | none => s.ntl.reading
    let s := { s with med := { s.med with nandReads := s.med.nandReads ++ [(page, want)] }, ntl := { s.ntl with reading } }
    let (requester, cls, tenant) := s.readFor page want
    (s.readChannels page).foldl (fun s ch => s.queueNand { ch, requester, cls, tenant, job := .read page }) s

/-- A read of a NAND-resident page: served from its staging buffer, or waited for (R227, R328). -/
def State.wantNand (s : State) (page : Nat) (want : NandWant) : State :=
  if Maps.has s.ntl.staged page then
    { s with ntl := { s.ntl with staged := Maps.put page s.ntl.stagedUse s.ntl.staged, stagedUse := s.ntl.stagedUse + 1 } }
  else s.askNand page want

/-- The page has never been written (R107). -/
def State.unwritten (s : State) (page : Nat) : Bool := !Maps.has s.win.pages page

/-- SCM_QUOTA of a tenant; 0 for no limit (R98). -/
def State.scmQuota (s : State) (t : Nat) : Nat := match Maps.find t s.win.tenants with | some x => x.scmQuota | none => 0

/-- Pages of a tenant that are being promoted: each has a frame (R279). -/
def State.promotedPages (s : State) (t : Nat) : Nat :=
  (s.med.promotes.filter (fun e => s.inNand e.1 && s.pageTenant e.1 == some t)).length

/-- New SCM pages of a tenant, `n` of them, would pass its SCM_QUOTA (R105). -/
def State.pastQuota (s : State) (t n : Nat) : Bool :=
  let q := s.scmQuota t
  q ≠ 0 && decide (q < s.residentPages t + s.promotedPages t + n)

/-- Pages among the given ones that a write makes new SCM pages: Unwritten ones, and those in NAND that take no frame yet (R105, R107,
R279). -/
def State.newPages (s : State) (pages : List Nat) : Nat :=
  (pages.filter (fun p => s.unwritten p || (s.inNand p && !Maps.has s.med.promotes p))).length

/-- A write to pages of a tenant may proceed: its new pages pass no SCM_QUOTA, and the pool has frames for the Unwritten ones; a promotion
looks for its frame itself (R105, R280). -/
def State.newPagesFit (s : State) (t : Nat) (pages : List Nat) : Bool :=
  let n := s.newPages pages
  n = 0 || (!s.pastQuota t n && decide ((pages.filter s.unwritten).length ≤ s.poolFree))

/-- `n` requests of a tenant end with NO_SPACE for `pages` new pages: counted where the pool has no frame for them (R280),
else the tenant has its pages destaged (R105). -/
def State.noSpace (s : State) (t n pages : Nat) : State :=
  if !s.pastQuota t pages then s.bumpBy Reg.MED_CNT_NO_SPACE n
  else if !s.win.draining.contains t then
    { s with win := { s.win with draining := s.win.draining ++ [t] } }
  else s

/-- A destage given up: its TPN is free, its record invalid (R324). -/
def State.abandon (s : State) (page : Nat) : State :=
  { s with
    med := { s.med with destages := Maps.del page s.med.destages }
    ntl := { s.ntl with taken := s.ntl.taken.filter (fun e => e.2 != page) } }

/-- LAST_WRITE of a written page's frame (R276). -/
def State.stampPage (s : State) (page : Nat) : State :=
  match Maps.find page s.win.pages with
  | some (.scm m f) => s.setLink m { s.link m with frames := Maps.put f (page, s.minute16) (s.link m).frames }
  | _ => s

/-- The pinned key store holds every pinned window that is Open or Closing (R120). -/
def State.fillPins (s : State) : State :=
  let pins := s.win.windows.filter (fun e => e.2.pinned && (e.2.state == .opened || e.2.state == .closing))
  { s with win := { s.win with pinStore := pins.map (fun e => (e.1, true)) } }

/-! ## The placement buffer -/

/-- Entries kept for the twin link, and for Ristretto (R357). -/
def State.pbMirror (s : State) : Nat := 64 * s.effF Reg.DUR_PB_CFG 27 16
def State.pbRis (s : State) : Nat :=
  let m := s.effF Reg.DUR_PB_CFG 27 16
  let r := s.effF Reg.DUR_PB_CFG 11 0
  64 * (if m + r > 1792 then 1792 - m else r)

/-- The placement unit can take a write event of `n` lines of a class in one grant: a slot is left in this tick, and room (R43, R357,
R358). -/
def State.pbRoom (s : State) (c : Cls) (n : Nat) : Bool :=
  let home := (s.dur.pb.filter (fun e => !e.mirror)).length
  let other := (s.dur.pb.filter (fun e => !e.mirror && e.cls != .ristretto)).length
  decide (s.slotsTaken 80 < 64) &&
  if c == .ristretto then home + n ≤ 131072 - s.pbMirror
  else home + n ≤ 131072 - s.pbMirror && other + n ≤ 131072 - s.pbMirror - s.pbRis

/-- The mirror partition's free entries: lines of extents not held, and lines not yet admitted, are among the taken ones (R102, R359,
R393). -/
def State.mirrorFree (s : State) : Nat :=
  s.pbMirror - (s.dur.pb.filter (·.mirror)).length - ((s.twn.heldLines ++ s.twn.arrived).map (fun a => a.lines.length)).foldl (· + ·) 0

/-- Fronts recomputed from a QP's events: each is the last WSEQ before the first event still short (R352). -/
def Qp.advance (c : Qp) : Qp :=
  let plc := match (c.events.takeWhile (fun e => e.2.1 == 0)).getLast? with
    | some e => BitVec.ofNat 32 e.1 | none => c.plc
  let mir := match (c.events.takeWhile (fun e => e.2.2.1 == 0)).getLast? with
    | some e => BitVec.ofNat 32 e.1 | none => c.mir
  { c with plc := plc, mir := mir, events := c.events.dropWhile (fun e => e.2.1 == 0 && e.2.2.1 == 0) }

/-- One more line of an event is Placed. -/
def Qp.linePlaced (c : Qp) (w : Nat) : Qp :=
  ({ c with
      events := c.events.map (fun e => if e.1 = w then (e.1, e.2.1 - 1, e.2.2.1, e.2.2.2) else e)
      xcheck := c.xcheck.map (fun e => if e.1 = w then (e.1, e.2.1, e.2.2.1 + 1, e.2.2.2) else e) } : Qp).advance

/-- One more line of an event is Mirrored. -/
def Qp.lineMirrored (c : Qp) (w : Nat) : Qp :=
  ({ c with
      events := c.events.map (fun e => if e.1 = w then (e.1, e.2.1, e.2.2.1 - 1, e.2.2.2) else e)
      xcheck := c.xcheck.map (fun e => if e.1 = w then (e.1, e.2.1, e.2.2.1, e.2.2.2 + 1) else e) } : Qp).advance

/-- The durable front of a QP: min(PLC, MIR), or PLC in SOLO mode (R352). WSEQs are compared modulo 2³². -/
def durableFront (solo : Bool) (c : Qp) : Word :=
  if solo then c.plc else if (c.mir - c.plc).toNat < 2 ^ 31 then c.plc else c.mir

/-- `a` is at or after `b`, compared modulo 2³². -/
def wseqGe (a b : Word) : Bool := (a - b).toNat < 2 ^ 31

/-- DURABLE_MSN (R356): the MSN before the oldest message, by its MSN, that still has a write event short of Durable. -/
def durableMsn (solo : Bool) (c : Qp) : BitVec 24 :=
  let short := c.events.filter (fun e => !wseqGe (durableFront solo c) (BitVec.ofNat 32 e.1))
  let behind (e : Nat × Nat × Nat × Nat) : Nat := (c.msn + BitVec.ofNat 24 (2 ^ 16) - BitVec.ofNat 24 e.2.2.2).toNat
  if short.isEmpty then c.msn
  else c.msn + BitVec.ofNat 24 (2 ^ 16) - BitVec.ofNat 24 ((short.map behind).foldl Nat.max 0 + 1)

/-- A merge read is out of date once a write to its line has been Accepted (R360). -/
def MergeRec.mark (lines : List Nat) (m : MergeRec) : MergeRec := { m with stale := m.stale || lines.contains m.line }

/-- The request's merge reads after writes to `lines` were Accepted. -/
def Request.markStale (lines : List Nat) (r : Request) : Request := { r with merges := r.merges.map (MergeRec.mark lines) }

/-- A read of a line is outstanding on a stack. -/
def State.lineRead (s : State) (line : Nat) : Bool :=
  s.med.links.any (fun l => l.2.trans.any (fun e => e.2.trans.reads == some line))

/-- What every Accepted write to lines brings about, on the QP it came from or from the twin: poison marks go, repairs,
destages, merge reads, write-backs and discards of its lines and pages note it, and its pages are stamped (R266, R268, R269,
R276, R278, R342, R360). -/
def State.noteWrites (s : State) (lines : List Nat) : State :=
  let pages := dedup (lines.map pageOfLine)
  let s := pages.foldl State.stampPage s
  { s with
    dur := { s.dur with
      inflight := Maps.mapV (fun k (v : Nat × Nat) => if pages.any (fun p => p / 128 == k) then (v.1, 0) else v) s.dur.inflight }
    med := { s.med with
      poison := s.med.poison.filter (fun e => !lines.contains e.1)
      repairs := Maps.mapV (fun k (v : RepairRec) => { v with written := v.written || lines.contains k }) s.med.repairs
      rewritten := lines.foldl (fun (t : Table Bool) l => if s.lineRead l then Maps.put l true t else t) s.med.rewritten
      destages := Maps.mapV (fun k (v : DestageRec) => { v with written := v.written || pages.contains k }) s.med.destages }
    cle := { s.cle with reqs := Maps.mapV (fun _ (r : Request) => r.markStale lines) s.cle.reqs }
    win := { s.win with discards := Maps.mapV (fun k v => v || pages.contains k) s.win.discards } }

/-- A write event Accepted on a QP: its WSEQ, its entries in the placement buffer, which hold plaintext, its pages mapped (R350, R351,
R357), and the pages written in SOLO mode recorded (R378). -/
def State.accept (s : State) (qpn : BitVec 24) (tenant : Nat) (cls : Cls) (msn : Nat) (intent : Option Nat)
    (lines : List (Nat × List Byte)) : State :=
  let c := (s.qp qpn).getD {}
  let w := c.acc + 1
  let n := lines.length
  let es := lines.map (fun l =>
    ({ line := l.1, data := l.2, tenant, qpn, wseq := w.toNat, epoch := s.dur.epoch, mirror := false, cls, intent } : PbEntry))
  let pages := dedup (lines.map (fun l => pageOfLine l.1))
  let s := s.takeSlots 80 (s.slotsTaken 80) 1 cls tenant
  let s := (pages.filter s.unwritten).foldl (fun s p => s.mapPage cls p) s
  let s := s.noteWrites (lines.map Prod.fst)
  let s := match s.qp qpn with
    | some c => s.setQp qpn { c with
        acc := w
        events := c.events ++ [(w.toNat, n, n, msn)]
        xcheck := c.xcheck ++ [(w.toNat, n, 0, 0)] }
    | none => s
  let dirty := if s.dur.solo then pages.foldl (fun d p => Maps.put p true d) s.twn.dirty else s.twn.dirty
  let s := { s with dur := { s.dur with pb := s.dur.pb ++ es }, twn := { s.twn with dirty } }
  s.bumpBy Reg.DUR_CNT_ACCEPTED n

/-- Buffer entries that nothing holds any longer leave: Placed, and Mirrored or in SOLO mode (R361). Entries of an intent
slot in use and of lines with a merge read outstanding stay (R361, R376). -/
def State.reapPb (s : State) : State :=
  { s with dur := { s.dur with pb := s.dur.pb.filter (fun e =>
      !(e.placed && e.intent.isNone && (e.mirrored || e.mirror || s.dur.solo) &&
        !s.cle.reqs.any (fun r => r.2.merges.any (fun m => m.line == e.line && !m.done)))) } }

end Sys2Proof.Machine
end

