-- ==== Sys2Proof/Machine/Answers.lean ====
section
/-! DEFINITION. What a request is answered with and how it ends: NAKs and the last-status word (R88), Invoke replies
(R169), go-back-N retransmission (R90), the end of a request and of its tiles (R159, R247), the Operation Table (R97),
reports to the integrity manager (R429). -/

namespace Sys2Proof.Machine

open Sys2Proof

/-- A detector's report on its way to the integrity manager (R429, R445). -/
def State.report (s : State) (code source : Nat) : State :=
  { s with integ := { s.integ with reports := s.integ.reports ++ [(code, source)] } }

/-- A fault signal raised; the data plane acts on it at the next tick boundary (R27). -/
def State.signal (s : State) (code level source : Nat) : State :=
  { s with integ := { s.integ with signals := s.integ.signals ++ [(code, level, source)] } }

/-- Bytes of a path MTU (R71). -/
def mtuBytes (pmtu : Nat) : Nat := 256 * 2 ^ Nat.min pmtu 4

/-- A message cut into packets of at most `m` bytes; an empty message is one empty packet. -/
def chunks (m : Nat) (bs : List Byte) : List (List Byte) :=
  if bs.isEmpty then [[]] else (upTo (ceilDiv bs.length m)).map (fun k => slice bs (k * m) m)

/-- A QP moved to Error by the chip; its repeat window closes (R88, R371). -/
def State.qpError (s : State) (q : BitVec 24) : State :=
  match s.qp q with
  | some c => s.setQp q { c with state := .error, repeatLeft := [] }
  | none => s

/-- No Acknowledge of a QP covers a PSN from `psn` on any more (R87). -/
def State.markFailed (s : State) (q psn : BitVec 24) : State :=
  match s.qp q with
  | none => s
  | some c => s.setQp q { c with failed := some (match c.failed with | some f => if psnGe psn f then f else psn | none => psn) }

/-- A NAK for a request that failed with an extended code: the last-status word written, and the QP moved to Error
unless it is a notice QP (R88, R95); no Acknowledge covers it (R87). -/
def State.nakCode (s : State) (q : BitVec 24) (psn : BitVec 24) (code : Nat) : State :=
  match s.qp q with
  | none => s
  | some c =>
    let s := s.setQp q { c with lastCode := code, lastPsn := psn }
    let s := s.release q { kind := Code.nak code, psn, msn := c.msn }
    if c.notice then s else (s.qpError q).markFailed q psn

/-- An RNR NAK of timer code 0b00001 (R81, R97): ePSN stands, and later PSNs are dropped (R82). -/
def State.nakRnr (s : State) (q : BitVec 24) (psn : BitVec 24) (lp : Nat) : State :=
  match s.qp q with
  | none => s
  | some c =>
    let s := s.setQp q { c with rnrHold := true }
    let s := s.release q { kind := .nakRnr, psn, msn := c.msn }
    s.bump (Reg.PRT_RNR_SENT + 0x1000 * (lp / 4))

/-- Units of 10 µs of each 5-bit RNR timer code (PRESUMED from the InfiniBand code table, log 21). -/
def rnrUnits : List Nat :=
  [65536, 1, 2, 3, 4, 6, 8, 12, 16, 24, 32, 48, 64, 96, 128, 192, 256, 384, 512, 768, 1024, 1536, 2048, 3072, 4096,
   6144, 8192, 12288, 16384, 24576, 32768, 49152]

/-- Ticks of an RNR timer code: 30 ticks are 10 µs. -/
def rnrTicks (code : Nat) : Nat := 30 * nthD rnrUnits (code % 32) 1

/-- The bytes of an Invoke reply (R169), network byte order. -/
def replyBytes (opcode status : Nat) (tag : Word) (words : List DWord) : List Byte :=
  [0x01, BitVec.ofNat 8 opcode, BitVec.ofNat 8 status, 0x00] ++ beBytes tag.toNat 4 ++ beBytes words.length 2 ++
  [0, 0, 0, 0, 0, 0] ++ words.flatMap (fun w => beBytes w.toNat 8)

/-- The SEND opcode of packet `k` of `n` (R69). -/
def sendOpcode (k n : Nat) : Nat := if n = 1 then 0x04 else if k = 0 then 0x00 else if k + 1 = n then 0x02 else 0x01

/-- A SEND of the chip on a QP under its own requester sequence: one packet per path MTU, each kept until
acknowledged; the Operation Table entry goes with the last (R75, R90, R96). -/
def State.sendMsg (s : State) (q : BitVec 24) (kind : FrameKind) (bytes : List Byte) (opt : Option Nat) : State :=
  match s.qp q with
  | none => match opt with | some o => s.freeOpt o | none => s
  | some c =>
    let parts := chunks (mtuBytes c.pmtu) bytes
    let fs : List Frame := (upTo parts.length).map (fun k =>
      ({ kind, qpn := q, bth := sendOpcode k parts.length, cls := c.cls, psn := c.reqNext + BitVec.ofNat 24 k, data := nthD parts k [],
         opt := if k + 1 = parts.length then opt else none } : Frame))
    let s := s.setQp q { c with
      reqNext := c.reqNext + BitVec.ofNat 24 parts.length
      unacked := c.unacked ++ fs.map (fun f => { f with opt := none })
      sentTick := if c.unacked.isEmpty then s.now else c.sentTick
      retriesLeft := if c.unacked.isEmpty then c.retry else c.retriesLeft
      rnrLeft := if c.unacked.isEmpty then c.rnrRetry else c.rnrLeft }
    fs.foldl (fun s f => s.release q f) s

/-- The QP's frames from PSN `p` sent again (R90). -/
def State.retransmit (s : State) (q : BitVec 24) (p : BitVec 24) : State :=
  match s.qp q with
  | none => s
  | some c =>
    let fs := c.unacked.filter (fun f => psnGe f.psn p)
    let s := s.setQp q { c with sentTick := s.now }
    (fs.foldl (fun s f => s.release q f) s).bumpBy Reg.TRN_CNT_RETX fs.length

/-- A line read of a tile's fill has been issued, to a stack, to the NAND tier or to another source. -/
def State.fillBegun (s : State) (t : Nat) (x : Tile) : Bool :=
  x.len == 0 || !x.taken.isEmpty || s.med.nandReads.any (fun e => e.2 == .tile t && s.nandIssued (.read e.1))

/-- No tile: one past the last. A read that outlives its fill delivers to it. -/
def noTile : Nat := 4096

/-- A transaction of a fill that is given up. -/
def MSentRec.forNoTile (x : MSentRec) (t : Nat) : MSentRec :=
  match x.trans with | .fill l u => if u = t then { x with trans := .fill l noTile } else x | _ => x

/-- A fill given up: its reads still to be issued are not, those under way deliver to no tile, its channel is idle and its tile is Free
(R225, R241, R244, R247). -/
def State.cancelFill (s : State) (t : Nat) : State :=
  let keep (w : MWork) : Bool := match w.trans with | .fill _ u => u != t | _ => true
  let kept := s.med.nandReads.filter (fun e => e.2 != .tile t || s.nandIssued (.read e.1))
  let reads := kept.map (fun e => if e.2 == .tile t then (e.1, .tile noTile) else e)
  let wanted (o : NandOpRec) : Bool := match o.job with | .read p => reads.any (fun e => e.1 == p) | _ => true
  let link (_ : Nat) (l : MLinkRec) : MLinkRec :=
    { l with held := l.held.filter keep, trans := Maps.mapV (fun _ x => MSentRec.forNoTile x t) l.trans }
  { s with
    med := { s.med with links := Maps.mapV link s.med.links, nandReads := reads }
    ntl := { s.ntl with ops := s.ntl.ops.filter wanted }
    stg := { s.stg with
      tiles := Maps.del t s.stg.tiles
      channels := Maps.mapV (fun _ (c : Channel) => if c.tile == some t then { c with tile := none } else c) s.stg.channels } }

/-- A request's tiles leave with it: fills not yet begun are cancelled, Ready and Held tiles are freed at the next tick boundary,
Filling ones when their fill completes (R247). -/
def State.dropTiles (s : State) (id : Nat) : State :=
  let idle := s.stg.tiles.filter (fun e => e.2.req == id && e.2.state == .filling && !s.fillBegun e.1 e.2)
  let s := idle.foldl (fun (s : State) (e : Nat × Tile) => s.cancelFill e.1) s
  let tiles := Maps.mapV (fun _ (t : Tile) =>
      if t.req = id then
        (match t.state with
         | .filling => { t with orphan := true }
         | _ => { t with freeing := true })
      else t) s.stg.tiles
  { s with stg := { s.stg with tiles } }

/-- A MATOM issued, still to be Accepted, that can be. -/
def MAtom.due (m : MAtom) : Bool := !m.accepted && !m.failed

/-- An ended request of which only MATOMs to be performed are left (R155, R206). -/
def Request.ended (r : Request) : Request :=
  { r with st := .ended, opt := none, cluster := none, slot := none, pour := none, rest := none, eff := {}, mreads := []
           kept := [], fences := [], merges := [], answered := true }

/-- A request leaves the engines: its strand is free, its frame is free, its tiles go (R146, R247); MATOMs issued and not yet
Accepted are kept (R155, R206). -/
def State.dropReq (s : State) (id : Nat) : State :=
  let s := s.dropTiles id
  let left (r : Request) : Bool := (r.matoms ++ r.logged).any MAtom.due
  { s with cle := { s.cle with
      reqs := match Maps.find id s.cle.reqs with
        | some r => if left r then Maps.put id r.ended s.cle.reqs else Maps.del id s.cle.reqs
        | none => s.cle.reqs
      strands := s.cle.strands.filter (fun e => e.2.1 != id) } }

/-- The other packets of a WRITE message of which one has failed: the message is never complete, and none of them is acknowledged
(R87). -/
def State.orphanPackets (s : State) (o : Nat) : State :=
  let f (r : Request) : Request := if (r.kind == 1 || r.kind == 6) && r.opt == some o then { r with opt := none } else r
  { s with cle := { s.cle with reqs := Maps.mapV (fun _ r => f r) s.cle.reqs } }

/-- Chip-originated work (R165). -/
def Request.chip (r : Request) : Bool := decide (8 ≤ r.kind) && decide (r.kind < 16)

/-- How a request ended without a released answer is answered: an Invoke by a built reply with RCOUNT 0, a plain
request by the NAK of R88; chip-originated work by nothing (R159). -/
def State.answerEnded (s : State) (r : Request) (code : Nat) : State :=
  if r.answered || r.chip then s
  else if 16 ≤ r.kind then
    s.sendMsg r.qpn .invokeReply (replyBytes (r.bthOp % 256) code r.tag []) r.opt
  else
    let s := s.dropOutstanding r.qpn r.opt
    let s := match r.opt with | some o => (s.freeOpt o).orphanPackets o | none => s
    s.nakCode r.qpn r.psn code

/-- A request replaced. -/
def State.setReq (s : State) (id : Nat) (r : Request) : State :=
  { s with cle := { s.cle with reqs := Maps.put id r s.cle.reqs } }

/-- A request whose later clause has ended stays until the rest of its long response is out (R144, R157, R196). -/
def State.keepRest (s : State) (id : Nat) (r : Request) : State :=
  let s := s.dropTiles id
  let s := s.setReq id { r with st := .held, pour := none, eff := {}, mreads := [], kept := [], fences := [], merges := [], answered := true }
  { s with cle := { s.cle with strands := s.cle.strands.filter (fun e => e.2.1 != id) } }

/-- A long response stopped: a NAK with the next response PSN and the code; a later clause of the request goes on (R196). -/
def State.stopRest (s : State) (id : Nat) (r : Request) (x : RestRec) (code : Nat) : State :=
  let s := s.dropOutstanding r.qpn r.opt
  let s := match r.opt with | some o => s.freeOpt o | none => s
  let s := if r.st = .held then s.dropReq id else s.setReq id { r with rest := none, opt := none }
  s.nakCode r.qpn x.psn code

/-- A request ends with an extended code; nothing it buffered since its last COMMIT leaves, and what its earlier clauses released goes
out (R157, R159). -/
def State.endReq (s : State) (id : Nat) (code : Nat) : State :=
  match Maps.find id s.cle.reqs with
  | none => s
  | some r =>
    if r.st = .ended then s
    else if r.rest.isSome then (if r.st = .held then s else s.keepRest id r)
    else (s.dropReq id).answerEnded r code

/-- A request ends with no answer of its own: it was served by its committed clause. -/
def State.finishReq (s : State) (id : Nat) : State := s.dropReq id

/-- The next ready order (R148). -/
def State.nextOrder (s : State) : Nat × State :=
  (s.cle.order, { s with cle := { s.cle with order := s.cle.order + 1 } })

/-- A new request put in its ready queue; its number, which no other request has had. -/
def State.addReq (s : State) (r : Request) (st : Nat → ReqState) : Nat × State :=
  let (o, s) := s.nextOrder
  (o, s.setReq o { r with st := st o })

/-- Entries of the Operation Table. -/
def optSize : Nat := 65536

/-- An Operation Table entry is free to a class: Ristretto may take any, others only an unreserved one (R97); values of RIS_RESERVE above
32,768 act as 32,768. -/
def State.optFree (s : State) (c : Cls) (invoke : Bool) : Bool :=
  let used := s.trn.opt.length
  let ris := Maps.count (fun (e : OptEntry) => e.cls == .ristretto && !(e.kind == .invoke)) s.trn.opt
  let reserve := Nat.min (s.effF Reg.TRN_OPT_CFG 16 0) 32768
  if c == .ristretto && !invoke then used < optSize
  else used < optSize && used - Nat.min ris reserve < optSize - reserve

/-- A new Operation Table entry; its number. -/
def State.addOpt (s : State) (e : OptEntry) : Nat × State :=
  let o := Maps.nextKey 0 s.trn.opt
  (o, { s with trn := { s.trn with opt := Maps.put o e s.trn.opt } })

end Sys2Proof.Machine
end

