-- ==== Sys2Proof/Machine/Caches.lean ====
section
/-! DEFINITION. The QP context store and cache (R78, R83), the key store and key cache (R120), and the miss buffers
(R80, R81, R121). -/

namespace Sys2Proof.Machine

open Sys2Proof

/-! ## Tree-PLRU over 16 ways, 15 bits: node n has children 2n and 2n + 1, and its bit points at the older half -/

/-- The bits after a use of `way`: every node on its path points away from it. -/
def plruTouch (bits : BitVec 15) (way : Nat) : BitVec 15 :=
  ([3, 2, 1, 0].foldl (fun (a : BitVec 15 × Nat) l =>
    let dir := way / 2 ^ l % 2
    (setBit a.1 (a.2 - 1) (dir == 0), 2 * a.2 + dir)) (bits, 1)).1

/-- The way the bits point at. -/
def plruVictim (bits : BitVec 15) : Nat :=
  ([3, 2, 1, 0].foldl (fun (a : Nat × Nat) _ =>
    let dir := if bitOf bits (a.2 - 1) then 1 else 0
    (2 * a.1 + dir, 2 * a.2 + dir)) (0, 1)).1

/-- The way that holds a key. -/
def CacheSet.wayOf (c : CacheSet) (key : Nat) : Option Nat := (c.ways.find? (fun e => e.2.1 == key)).map (·.1)

/-- The PLRU victim among the ways not kept for another install: a kept one counts as just used (log 105). -/
def plruSpare (taken : List Nat) : Nat → BitVec 15 → Nat
  | 0, bits => plruVictim bits
  | n + 1, bits =>
    let v := plruVictim bits
    if taken.contains v then plruSpare taken n (plruTouch bits v) else v

/-- The way an install takes, but for those kept for other installs: the lowest-numbered empty one, otherwise the PLRU victim
(R78). -/
def CacheSet.target (c : CacheSet) (taken : List Nat) : Nat :=
  match (upTo 16).find? (fun w => !Maps.has c.ways w && !taken.contains w) with
  | some w => w
  | none => plruSpare taken 16 c.plru

/-- The set with a key used. -/
def CacheSet.touch (c : CacheSet) (way : Nat) : CacheSet := { c with plru := plruTouch c.plru way }

/-- The set with a key installed in a way. -/
def CacheSet.install (c : CacheSet) (way key : Nat) (dirty : Bool) : CacheSet :=
  { ways := Maps.put way (key, dirty) c.ways, plru := plruTouch c.plru way }

/-- The set of a QPN: QPN[11:0] XOR QPN[19:12] (R78). -/
def qpSet (q : BitVec 24) : Nat := Nat.xor (q.toNat % 4096) (q.toNat / 4096 % 256)

/-- The set of a window index: RKey[19:8] XOR RKey[31:20] (R120). -/
def keySet (index : Nat) : Nat := Nat.xor (index % 4096) (index / 4096 % 4096)

/-- Where a lookup of a QP's hot part ends (R78). -/
inductive Lookup
  | hit | miss
  deriving DecidableEq, Repr

/-- The context of a QP is on chip: in the Ristretto store, or in the cache and not an accepted victim (R78, R83). -/
def State.ctxLookup (s : State) (q : BitVec 24) : Lookup :=
  if Maps.find (q.toNat % 4096) s.trn.store = some q.toNat then .hit
  else if ((Maps.getD s.trn.cache (qpSet q) {}).wayOf q.toNat).isSome &&
      !(Maps.find q.toNat s.trn.writeback == some true) then .hit
  else .miss

/-- Ways of a QP's set that are kept for the installs of other QPs under way. -/
def State.taken (s : State) (q : BitVec 24) : List Nat :=
  (s.trn.installs.filter (fun e => e.2.1 == qpSet q && e.1 != q.toNat)).map (fun e => e.2.2)

/-- The install of a QP takes a way of its set as it stands: the way is kept for it, and a dirty victim is written back (R78,
R80). -/
def State.keepWay (s : State) (q : BitVec 24) : State :=
  let cs := Maps.getD s.trn.cache (qpSet q) {}
  let w := cs.target (s.taken q)
  let s := { s with trn := { s.trn with installs := Maps.put q.toNat (qpSet q, w) s.trn.installs } }
  match Maps.find w cs.ways with
  | some (v, true) => { s with trn := { s.trn with writeback := Maps.put v false s.trn.writeback } }
  | _ => s

/-- A hit: counted, the way most recently used and dirty, and an eviction of it not yet accepted cancelled, its install
choosing its victim again (R83); so does the install of a victim that was clean (log 105). -/
def State.ctxHit (s : State) (q : BitVec 24) : State :=
  let s := s.bump Reg.TRN_CNT_HIT
  if Maps.find (q.toNat % 4096) s.trn.store = some q.toNat then s
  else
    let cs := Maps.getD s.trn.cache (qpSet q) {}
    match cs.wayOf q.toNat with
    | none => s
    | some w =>
      let cs := (cs.install w q.toNat true)
      let s := { s with trn := { s.trn with cache := Maps.put (qpSet q) cs s.trn.cache } }
      let cancelled := Maps.find q.toNat s.trn.writeback == some false
      match s.trn.installs.find? (fun e => e.2 == (qpSet q, w) && e.1 != q.toNat) with
      | none => s
      | some (x, _) =>
        let s := { s with trn := { s.trn with writeback := Maps.del q.toNat s.trn.writeback } }
        let s := s.keepWay (BitVec.ofNat 24 x)
        if cancelled then s.bump Reg.TRN_CNT_EVICT_CANCEL else s

/-- A context fetch issued, at most one per QP; a full set's dirty victim is written back (R80). A copy of the QP that another
install is to overwrite, its write-back accepted, is given up (R83). -/
def State.ctxFetch (s : State) (q : BitVec 24) : State :=
  if Maps.has s.trn.fetching q.toNat then s
  else
    let cs := Maps.getD s.trn.cache (qpSet q) {}
    let cs := match cs.wayOf q.toNat with | some w => { cs with ways := Maps.del w cs.ways } | none => cs
    let s := { s with trn := { s.trn with
      cache := Maps.put (qpSet q) cs s.trn.cache
      fetching := Maps.put q.toNat true s.trn.fetching
      writeback := Maps.del q.toNat s.trn.writeback } }
    (s.keepWay q).bump Reg.TRN_CNT_MISS

/-- A window's descriptor is on chip (R120). -/
def State.keyPresent (s : State) (index : Nat) : Bool :=
  Maps.has s.win.pinStore index || ((Maps.getD s.win.keyCache (keySet index) {}).wayOf index).isSome

/-- A descriptor lookup counted; on a hit in the key cache its way is used, on a miss a fetch is issued (R121). -/
def State.keyTouch (s : State) (index : Nat) : State :=
  if Maps.has s.win.pinStore index then s.bump Reg.WIN_CNT_KC_HIT
  else
    let cs := Maps.getD s.win.keyCache (keySet index) {}
    match cs.wayOf index with
    | some w => ({ s with win := { s.win with keyCache := Maps.put (keySet index) (cs.touch w) s.win.keyCache } }).bump
        Reg.WIN_CNT_KC_HIT
    | none => ({ s with win := { s.win with fetching := Maps.put index true s.win.fetching } }).bump Reg.WIN_CNT_KC_MISS

/-! ## The miss buffers -/

/-- Bytes of payload a packet carries. -/
def ReqBody.payload : ReqBody → List Byte
  | .write _ _ b => b
  | .send _ b => b
  | _ => []

/-- Occupancy of a physical port's miss buffer, in 512 B units. -/
def State.missOcc (s : State) (port : Nat) : Nat :=
  ((Maps.getD s.prt.miss port []).map (·.units)).foldl (· + ·) 0

/-- A packet of the QP waits in a miss buffer (R80). -/
def State.inMiss (s : State) (q : BitVec 24) : Bool :=
  s.prt.miss.any (fun e => e.2.any (fun m => m.pkt.qpn == q))

/-- A packet put in its physical port's miss buffer: headers only above THRESH, dropped and counted when the buffer is
full (R80, R81). -/
def State.joinMiss (s : State) (p : Pkt) (b : ReqBody) : State :=
  let port := p.lp.val / 4
  let occ := s.missOcc port
  let only := decide (s.effF (Reg.PRT_MISS_CFG + 0x1000 * port) 9 0 < occ)
  let units := if only then 1 else ceilDiv (128 + b.payload.length) 512
  if 1024 < occ + units then s.bump (Reg.PRT_DROP_FULL + 0x1000 * port)
  else
    let e : MissEntry := { pkt := p, body := b, headersOnly := only, units, seq := s.prt.missSeq }
    { s with prt := { s.prt with
        miss := Maps.put port (Maps.getD s.prt.miss port [] ++ [e]) s.prt.miss, missSeq := s.prt.missSeq + 1 } }

/-- A packet put among others by its place in the order of arrival (R80). -/
def insertMiss (x : MissEntry) : List MissEntry → List MissEntry
  | [] => [x]
  | y :: l => if x.seq < y.seq then x :: y :: l else y :: insertMiss x l

/-- The packets of a QP leave the miss buffers of all ports, in arrival order (R80). -/
def State.takeMiss (s : State) (q : BitVec 24) : List MissEntry × State :=
  ((s.prt.miss.flatMap (fun e => e.2.filter (fun m => m.pkt.qpn == q))).foldl (fun l x => insertMiss x l) [],
   { s with prt := { s.prt with miss := Maps.mapV (fun _ l => l.filter (fun m => m.pkt.qpn != q)) s.prt.miss } })

end Sys2Proof.Machine
end

