-- ==== Sys2Proof/Machine/Ingress.lean ====
section
/-! DEFINITION. What a port does with what it receives before the transport sees it, and what it sends of itself:
timestamp capture (R68), PFC (R64, R65), held and diverted frames (R94). -/

namespace Sys2Proof.Machine

open Sys2Proof

/-- A register of the physical port that holds logical port `lp`. -/
def prtReg (base lp : Nat) : Nat := base + 0x1000 * (lp / 4)

/-- A register of logical port `lp`. -/
def lpReg (base lp : Nat) : Nat := base + 0x40 * lp

/-- A capture written to the port's ring, WIDX and COUNT advanced (R68). -/
def State.capture (s : State) (lp : Nat) (sent qpPacket : Bool) (cycle type seq : Nat) : State :=
  let w := s.getF (prtReg Reg.PRT_TS_WIDX lp) 3 0
  let e := prtReg Reg.PRT_TS_ENTRY0 lp + 16 * w
  let s := s.setReg e (BitVec.ofNat 32 s.now)
  let s := s.setReg (e + 4) (BitVec.ofNat 32
    (2 ^ 31 + (if sent then 2 ^ 30 else 0) + lp % 4 * 2 ^ 28 + (if qpPacket then 2 ^ 26 else 0) + cycle))
  let s := s.setReg (e + 8) (BitVec.ofNat 32 (type * 2 ^ 24 + seq))
  let s := s.setF (prtReg Reg.PRT_TS_WIDX lp) 31 16 (s.getF (prtReg Reg.PRT_TS_WIDX lp) 31 16 + 1)
  s.setF (prtReg Reg.PRT_TS_WIDX lp) 3 0 (w + 1)

/-- A RoCEv2 packet of a QP captured when the port's TS_CFG selects the QP (R68). -/
def State.captureQp (s : State) (lp : Nat) (sent : Bool) (qpn : BitVec 24) (cycle bth : Nat) (psn : BitVec 24) : State :=
  if s.effB (prtReg Reg.PRT_TS_CFG lp) 24 && s.effF (prtReg Reg.PRT_TS_CFG lp) 23 0 == qpn.toNat then
    s.capture lp sent true cycle bth psn.toNat
  else s

/-- Frames held while both ports of their QPs were down are sent where a port is up now (R94). -/
def State.sendHeld (s : State) : State :=
  s.prt.heldOut.foldl (fun s f => match s.qp f.qpn with | some c => s.sendOut c f | none => s)
    { s with prt := { s.prt with heldOut := [] } }

/-- A logical port goes down: its QPs' queued frames go to ALT_LP or are held, frames of the port itself are lost
(R94). -/
def State.portDown (s : State) (lp : Nat) : State :=
  let fs := Maps.getD s.prt.egress lp []
  let s := s.setB (prtReg Reg.PRT_STATUS lp) (16 + lp % 4) false
  let s := { s with prt := { s.prt with egress := Maps.del lp s.prt.egress, forced := Maps.del lp s.prt.forced } }
  fs.foldl (fun s f => match s.qp f.qpn with | some c => s.sendOut c f | none => s) s

/-- Key of priority `q` on logical port `lp`. -/
def prioKey (lp q : Nat) : Nat := 8 * lp + q

/-- The chip asserts PFC for a priority of a logical port. -/
def State.pausing (s : State) (lp q : Nat) : Bool := Maps.has s.prt.pauseTx (prioKey lp q)

/-- A PFC frame sent: quanta 0xFFFF asserts, 0 lifts (R65). -/
def State.sendPfc (s : State) (lp q quanta : Nat) : State :=
  let tx := if quanta = 0 then Maps.del (prioKey lp q) s.prt.pauseTx else Maps.put (prioKey lp q) s.tck.start s.prt.pauseTx
  ({ s with prt := { s.prt with pauseTx := tx } }).enqueue lp { kind := .pfc, bth := 0, prio := q, quanta }

/-- XOFF and XON of a port in force; XON at or above XOFF acts as XOFF − 1. -/
def State.xoff (s : State) (lp : Nat) : Nat := s.effF (prtReg Reg.PRT_PFC_THRESH lp) 25 16
def State.xon (s : State) (lp : Nat) : Nat :=
  let on := s.effF (prtReg Reg.PRT_PFC_THRESH lp) 9 0
  if s.xoff lp ≤ on then s.xoff lp - 1 else on

/-- CCLK cycles of `n` pause quanta of 512 bit times on a port (R64). -/
def State.quantaCycles (s : State) (lp n : Nat) : Nat := ceilDiv (n * 512 * s.cclkPerBit lp) 3125

/-- The ingress buffer of a physical port: 256 KiB in 256 B units (R65). -/
def ingressUnits : Nat := 1024

/-- What the ingress buffer of a physical port holds, but for one priority of one logical port (R65). -/
def State.ingressOther (s : State) (lp q : Nat) : Nat :=
  ((s.prt.occ.filter (fun e => e.1 / 32 == lp / 4 && e.1 != prioKey lp q)).map (·.2)).foldl (· + ·) 0

/-- The ingress occupancy of a priority is now `occ`, at most what the buffer has room for: PFC is sent above XOFF and lifted at or below XON (R65). A
yielded unit keeps its PFC (R404). -/
def State.ingress (s : State) (lp q occ : Nat) : State :=
  let occ := Nat.min occ (ingressUnits - s.ingressOther lp q)
  let m := Maps.wr (fun _ => 0) s.prt.occ (prioKey lp q) occ
  let s := { s with prt := { s.prt with occ := m } }
  if s.twn.yieldedAt.isSome then s
  else if !s.pausing lp q && s.xoff lp < occ && s.effB (prtReg Reg.PRT_PFC_CFG lp) (8 + q) then s.sendPfc lp q 0xFFFF
  else if s.pausing lp q && occ ≤ s.xon lp then s.sendPfc lp q 0
  else s

/-- Priority that a class maps to on a port (R63). -/
def State.classPrio (s : State) (lp : Nat) : Cls → Nat
  | .ristretto => s.effF (prtReg Reg.PRT_PRI_MAP lp) 2 0
  | .lungo => s.effF (prtReg Reg.PRT_PRI_MAP lp) 5 3
  | _ => s.effF (prtReg Reg.PRT_PRI_MAP lp) 8 6

/-- DSCP that a class maps to on a port (R63). -/
def State.classDscp (s : State) (lp : Nat) : Cls → Nat
  | .ristretto => s.effF (prtReg Reg.PRT_DSCP_MAP lp) 5 0
  | .lungo => s.effF (prtReg Reg.PRT_DSCP_MAP lp) 13 8
  | _ => s.effF (prtReg Reg.PRT_DSCP_MAP lp) 21 16

/-- The peer has paused a priority of a logical port, and the pause has not expired (R64). -/
def State.paused (s : State) (lp q : Nat) : Bool := decide (s.tck.start < Maps.getD s.prt.pausedRx (prioKey lp q) 0)

/-! ## What a received frame is (R61, R63) -/

/-- The MAC address of a logical port in force. -/
def State.lpMacNat (s : State) (lp : Nat) : Nat :=
  s.effF (lpReg Reg.PRT_LP_MAC_HI lp) 15 0 * 2 ^ 32 + s.effF (lpReg Reg.PRT_LP_MAC_LO lp) 31 0

/-- The IPv6 address of a logical port in force. -/
def State.lpIpv6 (s : State) (lp : Nat) : Nat :=
  (upTo 4).foldl (fun a m => a + s.effF (lpReg Reg.PRT_LP_IPV6 lp + 4 * m) 31 0 * 2 ^ (32 * m)) 0

/-- The tag of a frame is what the logical port takes: with VLAN_EN a tag of its VLAN, without it any one tag or none (R61, log 103). -/
def State.vlanOk (s : State) (lp : Nat) (vlan : Option Nat) : Bool :=
  !s.effB (lpReg Reg.PRT_LP_CFG lp) 12 || vlan == some (s.effF (lpReg Reg.PRT_LP_CFG lp) 11 0)

/-- A RoCEv2 packet is the logical port's own: its MAC, an enabled IP address of it, UDP port 4791 (R61). -/
def State.addressed (s : State) (p : Pkt) : Bool :=
  p.dmac.toNat == s.lpMacNat p.lp && p.udp.toNat == 4791 && s.vlanOk p.lp (p.tag.map (fun t => t.2.toNat)) &&
  (if p.ipv6 then s.effB (lpReg Reg.PRT_LP_CFG p.lp) 14 && p.dip.toNat == s.lpIpv6 p.lp
   else s.effB (lpReg Reg.PRT_LP_CFG p.lp) 13 && p.dip.toNat == s.effF (lpReg Reg.PRT_LP_IPV4 p.lp) 31 0)

/-- The class a DSCP maps to on a port; an unmapped one counts as Drip's (R63). -/
def State.dscpClass (s : State) (lp dscp : Nat) : Cls :=
  if dscp = s.classDscp lp .ristretto then .ristretto else if dscp = s.classDscp lp .lungo then .lungo else .drip

/-- The priority of a received packet: its PCP, or by DSCP (R63); an untagged one has PCP 0 (log 103). -/
def State.rxPrio (s : State) (p : Pkt) : Nat :=
  if s.effB (prtReg Reg.PRT_PRI_MAP p.lp) 9 then s.classPrio p.lp (s.dscpClass p.lp p.dscp.toNat)
  else match p.tag with | some t => t.1.toNat | none => 0

/-- Bytes of a received packet's extended headers and payload (PRESUMED from the RoCEv2 headers, log 20). -/
def ReqBody.bytes : ReqBody → Nat
  | .read _ => 16
  | .write .first _ b | .write .only _ b => 16 + b.length
  | .write _ _ b | .send _ b => b.length
  | .cmpSwap _ _ _ _ | .fetchAdd _ _ _ => 28
  | .atomicWrite _ _ _ => 24
  | .flush _ _ _ => 20
  | .ack _ => 4
  | .cnp => 16
  | .readResponse => 4
  | .unsupported _ => 0

/-- 256 B units a received packet takes in the ingress buffer (R65). -/
def rxUnits (p : Pkt) (b : ReqBody) : Nat :=
  ceilDiv (14 + (if p.tag.isSome then 4 else 0) + (if p.ipv6 then 40 else 20) + 8 + 12 + (b.bytes + 3) / 4 * 4 + 8) 256

end Sys2Proof.Machine
end

