-- ==== Sys2Proof/Machine/Admission.lean ====
section
/-! DEFINITION. The window check (R111, R117, R118), media reads a request issues, and its admission (R96, R97). -/

namespace Sys2Proof.Machine

open Sys2Proof

/-- A window index's descriptor; an index never opened is Free with GEN 0 (R110). -/
def State.window (s : State) (i : Nat) : Window := Maps.getD s.win.windows i {}

/-- This unit serves a side (R391). -/
def State.serves (s : State) (sideB : Bool) : Bool := s.getB Reg.TWN_STATUS (if sideB then 27 else 26)

/-- STATE of TWN_STATUS. -/
def State.pairState (s : State) : Nat := s.getF Reg.TWN_STATUS 31 29

/-- The home side of a window: that of its extents, which all have the same one (R114). -/
def State.windowSide (s : State) (w : Window) : Bool :=
  match s.extent (extentOf w.pnaBase) with
  | some x => x.sideB
  | none => false

/-- What a request asks of its window (R111). -/
structure Access where
  rkey : Word
  rights : BitVec 5
  /-- Address of the first byte: a host virtual address, or an offset in the window for an Invoke. -/
  start : Nat
  relative : Bool
  len : Nat
  /-- FLUSH of level 1 checks no bytes. -/
  noBytes : Bool
  home : Bool
  deriving DecidableEq, Repr

/-- Step 6 of R117 fails. -/
def Access.outside (a : Access) (w : Window) : Bool :=
  let start := if a.relative then w.vaBase + a.start else a.start
  if a.noBytes then false
  else if a.len = 0 then start < w.vaBase || w.vaBase + w.length < start
  else start < w.vaBase || w.vaBase + w.length < start + a.len || 2 ^ 64 < start + a.len

/-- Step 7 of R117, and what a unit that does not serve the side answers while the link is silent (R405, R411, R413). -/
def State.homeCode (s : State) (a : Access) (w : Window) : Nat :=
  if s.serves (s.windowSide w) then Code.ok
  else if s.getB Reg.TWN_STATUS 21 then Code.yielded
  else if a.home || s.pairState ≠ 1 || s.twn.noMirrorReads then Code.homeMoved
  else Code.ok

/-- The window check: OK, or the first code that applies (R117). -/
def State.checkAccess (s : State) (tenant : Nat) (a : Access) : Nat :=
  let w := s.window (a.rkey.toNat / 256)
  let gen := a.rkey.toNat % 256
  let lost := match Maps.find w.tenant s.win.tenants with | some t => t.keyLost | none => false
  if gen = 0 || w.gen = 0 then Code.keyInvalid
  else if gen ≠ w.gen then Code.keyStale
  else if w.state ≠ .opened then Code.revoked
  else if w.tenant ≠ tenant || lost then Code.tenant
  else if w.rights &&& a.rights ≠ a.rights then Code.rights
  else if a.outside w then Code.bounds
  else s.homeCode a w

/-- The counter register of a refusal code. -/
def refCounter (code : Nat) : Option Nat :=
  if code = Code.keyInvalid then some Reg.WIN_CNT_REF_INVALID
  else if code = Code.keyStale then some Reg.WIN_CNT_REF_STALE
  else if code = Code.revoked then some Reg.WIN_CNT_REF_REVOKED
  else if code = Code.tenant then some Reg.WIN_CNT_REF_TENANT
  else if code = Code.rights then some Reg.WIN_CNT_REF_RIGHTS
  else if code = Code.bounds then some Reg.WIN_CNT_REF_BOUNDS
  else if code = Code.homeMoved then some Reg.WIN_CNT_REF_HOME
  else none

/-- A refusal by R117 or R118 counted and shown. -/
def State.noteRefusal (s : State) (q : BitVec 24) (rkey : Word) (code : Nat) : State :=
  let s := match refCounter code with | some r => s.bump r | none => s
  let s := s.setReg Reg.WIN_LAST_REF_KEY rkey
  s.setReg Reg.WIN_LAST_REF_INFO (BitVec.ofNat 32 (code * 2 ^ 24 + q.toNat))

/-! ## Media reads -/

/-- Every transaction outstanding on the media links. -/
def State.transactions (s : State) : List MTrans :=
  s.med.links.flatMap (fun l => l.2.trans.map (·.2.trans) ++ l.2.held.map (·.trans))

/-- A request one of whose reads has failed, with the code its wait ends with (R150, R267): the first failure stands, and MATOMs
whose old value `bad` says cannot be read are not performed (R155). -/
def Request.fail (r : Request) (code : Nat) (bad : MAtom → Bool) : Request :=
  let mark (m : MAtom) : MAtom := if !m.accepted && bad m then { m with failed := true } else m
  { r with readFail := some (r.readFail.getD code), matoms := r.matoms.map mark, logged := r.logged.map mark }

/-- A request changed; one that has ended leaves with its last MATOM. -/
def State.updReq (s : State) (id : Nat) (f : Request → Request) : State :=
  match Maps.find id s.cle.reqs with
  | none => s
  | some r =>
    let r := f r
    if r.st = .ended && !(r.matoms ++ r.logged).any MAtom.due then
      { s with cle := { s.cle with reqs := Maps.del id s.cle.reqs } }
    else s.setReq id r

/-- Byte ranges [a, a + n) and [b, b + k) meet. -/
def meets (a n b k : Nat) : Bool := decide (a < b + k) && decide (b < a + n)

/-- The present clause of a request reads something of [a, a + n): by an MREAD not yet delivered, a MATOM or a merge read; `base` is the
PNA of its window. -/
def Request.asks (r : Request) (base a n : Nat) : Bool :=
  r.mreads.any (fun m => !m.done && meets (base + m.off) m.now a n) ||
  (r.matoms ++ r.logged).any (fun m => !m.accepted && meets m.pna 8 a n) ||
  r.merges.any (fun m => !m.done && meets (m.line * 64) 64 a n)

/-- The read of [a, a + n) for a request has failed: it ends the wait of its present clause, or stops the rest of its long response,
whichever asked for it (R150, R196). -/
def Request.failAt (r : Request) (base a n code : Nat) : Request :=
  let stop (x : RestRec) : RestRec :=
    if x.parts.any (fun p => meets (base + p.1) p.2 a n) then { x with fail := some (x.fail.getD code) } else x
  let r := { r with rest := r.rest.map stop }
  if r.rest.isSome && !r.asks base a n then r else r.fail code (fun m => meets m.pna 8 a n)

/-- The read of a line, and of a page, for a request has failed. -/
def State.failRead (s : State) (id line code : Nat) : State :=
  s.updReq id (fun r => r.failAt (s.window r.win).pnaBase (line * 64) 64 code)
def State.failPage (s : State) (id page code : Nat) : State :=
  s.updReq id (fun r => r.failAt (s.window r.win).pnaBase (page * 16384) 16384 code)

/-- The read of a line: issued to the stack that holds its page, queued to the NAND tier, or none at all for an
Unwritten page (R107, R363); a Poisoned line fails the request (R269). -/
def State.readLine (s : State) (line : Nat) (req : Option Nat) : State :=
  if Maps.has s.med.poison line then
    match req with
    | none => s
    | some id => s.failRead id line Code.mediaUe
  else match Maps.find (pageOfLine line) s.win.pages with
  | some (.scm m _) =>
    let (cls, tenant) := match req.bind (fun id => Maps.find id s.cle.reqs) with | some r => (r.cls, r.tenant) | none => (Cls.grounds, 0)
    s.issueFor m cls tenant (.rd line req)
  | some (.nand _) =>
    s.wantNand (pageOfLine line) (match req with | some id => .req id | none => .chip)
  | none => s

/-- The reads of the lines a byte range touches, but for lines the placement buffer serves, which are counted
(R363). -/
def State.readRange (s : State) (a n : Nat) (req : Option Nat) : State :=
  (linesOf a n).foldl (fun s l => if (s.newest l).isSome then s.bump Reg.DUR_CNT_FWD else s.readLine l req) s

/-- A read of a request is outstanding on a line of a byte range. -/
def State.readsPending (s : State) (id : Nat) (a n : Nat) : Bool :=
  s.transactions.any (fun t => match t with
    | .rd l (some r) => r == id && a / 64 ≤ l && l * 64 < a + n
    | _ => false) ||
  s.med.nandReads.any (fun e => e.2 == .req id && a / 16384 ≤ e.1 && e.1 * 16384 < a + n)

/-! ## Admission -/

/-- Outstanding READ and atomic requests would pass MAX_RD_ATOMIC (R89). -/
def Qp.rdFull (c : Qp) : Bool := c.maxRd ≤ c.outstanding.length

/-- Response packets of a READ of `n` bytes. -/
def Qp.packets (c : Qp) (n : Nat) : Nat := Nat.max 1 (ceilDiv n (mtuBytes c.pmtu))

/-- The QP's context after its expected packet was processed: ePSN advanced by `n`, and a sequence or RNR NAK forgotten
(R82, R85). -/
def Qp.expect (c : Qp) (n : Nat) : Qp :=
  { c with ePsn := c.ePsn + BitVec.ofNat 24 n, seqNaked := false, rnrHold := false }

/-- An Acknowledge is due on a QP (R87). -/
def State.ackAt (s : State) (q psn : BitVec 24) : State :=
  match s.qp q with
  | some c => s.setQp q { c with ackDue := c.ackDue ++ [psn] }
  | none => s

/-- One more message of a QP is complete (R87). -/
def State.messageDone (s : State) (q : BitVec 24) : State :=
  match s.qp q with
  | some c => s.setQp q { c with msn := c.msn + 1 }
  | none => s

/-- The lines of a write whose first or last line it covers only in part (R360). -/
def partialLines (a n : Nat) : List Nat :=
  if n = 0 then []
  else dedup ((if a % 64 ≠ 0 || n < 64 then [a / 64] else []) ++
    (if (a + n) % 64 ≠ 0 then [(a + n - 1) / 64] else []))

/-- A request put in its ready queue; a write's merge reads are issued with it, but for lines that the
placement buffer serves, which are counted (R148, R360, R363). -/
def State.launch (s : State) (r : Request) : State :=
  let w := s.window r.win
  let (id, s) := s.addReq r (fun o => .ready o false)
  if r.kind = 1 || r.kind = 6 then
    let ms := (partialLines (w.pnaBase + r.addr) r.payload.length).filter
      (fun l => Maps.has s.win.pages (pageOfLine l) && !s.inNand (pageOfLine l))
    let held (l : Nat) : Bool := (s.newest l).isSome
    let s := match Maps.find id s.cle.reqs with
      | some r => s.setReq id { r with merges := ms.map (fun l => { line := l, done := held l }) }
      | none => s
    ms.foldl (fun s l => if (s.newest l).isSome then s.bump Reg.DUR_CNT_FWD else s.readLine l (some id)) s
  else s

/-- The conjugation entry in force for a program ID and kind; none when not VALID (R164, R166). -/
def State.conjEntry (s : State) (prog kind : Nat) : Option DWord :=
  let e := Maps.getD s.cle.conj (32 * prog + kind) 0
  if bitOf e 63 then some e else none

/-- An answer to a request refused by the window check: the NAK of R88, or an Invoke reply. -/
def State.refuse (s : State) (p : Pkt) (rkey : Word) (code : Nat) : State :=
  (s.noteRefusal p.qpn rkey code).nakCode p.qpn p.psn code

end Sys2Proof.Machine
end

