-- ==== Sys2Proof/Machine/Receive.lean ====
section
/-! DEFINITION. How the transport processes a packet: state check (R77), PSN check (R85), duplicates (R86), validity
(R70–R75), window check, Operation Table and admission (R96, R97, R117), acknowledgement (R87), the requester side
(R90) and congestion (R91–R93). -/

namespace Sys2Proof.Machine

open Sys2Proof

/-! ## Congestion and the requester side -/

/-- A CE mark draws a CNP, at most one per QP in CNP_INTERVAL ticks (R91). -/
def State.congested (s : State) (p : Pkt) : State :=
  match s.qp p.qpn with
  | none => s
  | some c =>
    let due := match c.cnpSent with
      | none => true
      | some t => s.effF Reg.TRN_CC_CFG 15 0 ≤ s.now - t
    if p.ce && due then
      let s := s.setQp p.qpn { c with cnpSent := some s.now }
      (s.release p.qpn { kind := .cnp, bth := 0x81 }).bump Reg.TRN_CNT_CNP_TX
    else s

/-- A CNP received: a Lungo or Drip QP's rate falls, whatever CC_EN is (log 106), and it is counted (R92, R93). -/
def State.gotCnp (s : State) (q : BitVec 24) (c : Qp) : State :=
  let s := s.bump Reg.TRN_CNT_CNP_RX
  if c.cls == .ristretto then s
  else
    let cut := Nat.max 1 (s.effF Reg.TRN_CC_CFG 23 16)
    let low := Nat.max 1 (s.effF Reg.TRN_CC_CFG2 23 16)
    s.setQp q { c with rate := Nat.max (c.rate * cut / 256) low, rateTick := s.now }

/-- A QP moved to Error by the chip as requester, with a QP error event of RESULT 0 (R90, R584). -/
def State.requesterError (s : State) (q : BitVec 24) : State :=
  ((s.qpError q).notify 0x16 0 0 (BitVec.ofNat 64 q.toNat) 0 0)

/-- An Acknowledge or NAK for the chip's requester sequence (R90). -/
def State.gotAck (s : State) (p : Pkt) (c : Qp) (k : AckKind) : State :=
  let q := p.qpn
  match k with
  | .ack =>
    let left := c.unacked.filter (fun f => !psnGe p.psn f.psn)
    s.setQp q { c with
      unacked := left, sentTick := s.now, retriesLeft := c.retry, rnrLeft := c.rnrRetry, rnrUntil := none
      reqOldest := match left with | f :: _ => f.psn | [] => c.reqNext }
  | .seqErr =>
    if c.retriesLeft = 0 then s.requesterError q
    else
      let left := c.unacked.filter (fun f => psnGe f.psn p.psn)
      let s := s.setQp q { c with unacked := left, retriesLeft := c.retriesLeft - 1, reqOldest := p.psn }
      s.retransmit q p.psn
  | .rnr ticks =>
    if c.rnrRetry ≠ 7 && c.rnrLeft = 0 then s.requesterError q
    else
      let wait := Nat.max ticks (rnrTicks c.minRnr)
      s.setQp q { c with rnrLeft := c.rnrLeft - 1, rnrUntil := some (s.now + wait, p.psn) }
  | .fatal => s.requesterError q

/-! ## Negative answers -/

/-- A NAK of syndrome invalid request (R70–R75, R86, R89, R95). -/
def State.invalid (s : State) (p : Pkt) : State := s.nakCode p.qpn p.psn Code.invalidRequest

/-- A packet ahead of ePSN: one PSN sequence error NAK, then silence until ePSN arrives (R82, R85). -/
def State.ahead (s : State) (p : Pkt) (c : Qp) : State :=
  if c.seqNaked || c.rnrHold then s
  else
    let s := s.setQp p.qpn { c with seqNaked := true }
    (s.release p.qpn { kind := .nakSeq, psn := c.ePsn, msn := c.msn }).bump Reg.TRN_CNT_SEQ_NAK

/-- No Operation Table entry is free: an RNR NAK, as for a miss buffer refusal (R97). -/
def State.noEntry (s : State) (p : Pkt) : State := s.nakRnr p.qpn p.psn p.lp

/-! ## Requests -/

/-- Fields every request of a packet has. -/
def baseRequest (p : Pkt) (c : Qp) (rkey : Word) (kind bth : Nat) : Request :=
  { qpn := p.qpn, lp := p.lp, cls := c.cls, kind, bthOp := bth, rkey, win := rkey.toNat / 256, tenant := c.tenant,
    psn := p.psn, ackReq := p.ackReq }

/-- The entry an admitted request takes in the Operation Table (R96). -/
def State.entryFor (s : State) (p : Pkt) (c : Qp) (kind : OptKind) (win : Nat) (more : Bool) : OptEntry :=
  { kind, qpn := p.qpn, cls := c.cls, lp := p.lp, tick := s.now, psn := p.psn, win, gen := (s.window win).gen, more }

/-- A READ admitted: from `skip` packets into the message named by its RETH, `fresh` when it is no duplicate (R86). -/
def State.admitRead (s : State) (p : Pkt) (c : Qp) (r : Reth) (skip : Nat) (fresh : Bool) : State :=
  let start := r.va.toNat + skip * mtuBytes c.pmtu
  let len := r.len.toNat - skip * mtuBytes c.pmtu
  let a : Access := { rkey := r.rkey, rights := 1, start, relative := false, len, noBytes := false, home := false }
  let code := s.checkAccess c.tenant a
  if code ≠ Code.ok then s.refuse p r.rkey code
  else if fresh && c.rdFull then s.invalid p
  else if !s.optFree c.cls false then s.noEntry p
  else
    let w := s.window (r.rkey.toNat / 256)
    let (o, s) := s.addOpt (s.entryFor p c .read (r.rkey.toNat / 256) false)
    let n := c.packets len
    let s := if fresh then
        s.setQp p.qpn { c.expect n with
          outstanding := c.outstanding ++ [{ psn := p.psn, packets := n, opt := o, reth := some r }]
          begun := c.begun + 1 }
      else s
    s.launch { baseRequest p c r.rkey 0 0x0C with
      addr := start - w.vaBase, len, again := !fresh, opt := some o, rights := 1, msn := c.begun + 1 }

/-- A READ or WRITE of DMA length 0: performed as nothing, and answered (R119). -/
def State.emptyRead (s : State) (p : Pkt) (c : Qp) : State :=
  let s := s.setQp p.qpn { c.expect 1 with begun := c.begun + 1, msn := c.msn + 1 }
  s.release p.qpn { kind := .readResponse, bth := 0x10, psn := p.psn, msn := c.msn + 1 }

def State.emptyWrite (s : State) (p : Pkt) (c : Qp) : State :=
  let s := s.setQp p.qpn { c.expect 1 with begun := c.begun + 1, msn := c.msn + 1 }
  s.ackAt p.qpn p.psn

/-- A WRITE First or Only packet admitted (R117, R145). -/
def State.admitWrite (s : State) (p : Pkt) (c : Qp) (r : Reth) (only : Bool) (payload : List Byte) : State :=
  let a : Access := { rkey := r.rkey, rights := 2, start := r.va.toNat, relative := false, len := r.len.toNat,
                      noBytes := false, home := true }
  let code := s.checkAccess c.tenant a
  if code ≠ Code.ok then s.refuse p r.rkey code
  else if !s.optFree c.cls false then s.noEntry p
  else
    let i := r.rkey.toNat / 256
    let w := s.window i
    let (o, s) := s.addOpt (s.entryFor p c .write i (!only))
    let addr := r.va.toNat - w.vaBase
    let om : Option OpenMsg := if only then none else
      some { opt := o, left := r.len.toNat - payload.length, next := addr + payload.length, win := i, gen := w.gen,
             rkey := r.rkey }
    let s := s.setQp p.qpn { c.expect 1 with begun := c.begun + 1, openMsg := om }
    s.launch { baseRequest p c r.rkey 1 (if only then 0x0A else 0x06) with
      addr, len := payload.length, payload, last := only, opt := some o, rights := 2, msn := c.begun + 1 }

/-- A WRITE Middle or Last packet: only STATE and GEN of the recorded index are checked (R118). -/
def State.admitWriteNext (s : State) (p : Pkt) (c : Qp) (m : OpenMsg) (last : Bool) (payload : List Byte) : State :=
  let w := s.window m.win
  if w.state ≠ .opened || w.gen ≠ m.gen then s.refuse p m.rkey Code.revoked
  else
    let om : Option OpenMsg := if last then none else
      some { m with left := m.left - payload.length, next := m.next + payload.length }
    let s := s.setQp p.qpn { c.expect 1 with openMsg := om }
    let opt := Maps.upd m.opt (fun (e : OptEntry) => { e with more := !last }) s.trn.opt
    let s := { s with trn := { s.trn with opt } }
    s.launch { baseRequest p c m.rkey 6 (if last then 0x08 else 0x07) with
      addr := m.next, len := payload.length, payload, last, opt := some m.opt, rights := 2, msn := c.begun }

/-- A plain atomic that is the next repeat of an open repeat window (R371): answered from its outcome entry, or refused
with the window closed. -/
def State.repeatAtomic (s : State) (p : Pkt) (c : Qp) (kind : OptKind) (rkey : Word) (va : DWord) (ops : List DWord)
    (seq : Nat) (rest : List Nat) : State :=
  let k := match kind with | .cmpSwap => 0 | .fetchAdd => 1 | _ => 2
  let hit := s.dur.twinOutcomes.find? (fun o => o.bond == c.bond && o.kind < 3 && o.seq == seq)
  match hit with
  | some o =>
    let two (l : List DWord) : List DWord := [nthD l 0 0, nthD l 1 0]
    if o.rkey == rkey && o.va == va.toNat && o.kind == k && two o.ops == two ops then
      let orig := nthD o.orig 0 0
      let h : AtomicHist := { psn := p.psn, orig, isWrite := k == 2 }
      let history := (c.history ++ [h]).drop (c.history.length + 1 - 16)
      let s := s.setQp p.qpn { c.expect 1 with begun := c.begun + 1, msn := c.msn + 1, repeatLeft := rest, history }
      let s := s.bump Reg.DUR_CNT_REPEAT
      s.release p.qpn { kind := if k = 2 then .atomicWriteResponse else .atomicAck, bth := if k = 2 then 0x10 else 0x12,
                        psn := p.psn, msn := c.msn + 1, orig }
    else (s.setQp p.qpn { c with repeatLeft := [] }).nakCode p.qpn p.psn Code.yielded
  | none => (s.setQp p.qpn { c with repeatLeft := [] }).nakCode p.qpn p.psn Code.yielded

/-- A CmpSwap, FetchAdd or ATOMIC WRITE admitted at the home unit, or answered as a repeat (R74, R117, R371). -/
def State.admitAtomic (s : State) (p : Pkt) (c : Qp) (kind : OptKind) (rkey : Word) (va : DWord) (ops : List DWord) :
    State :=
  let a : Access := { rkey, rights := 4, start := va.toNat, relative := false, len := 8, noBytes := false, home := true }
  let code := s.checkAccess c.tenant a
  match c.repeatLeft with
  | seq :: rest => s.repeatAtomic p c kind rkey va ops seq rest
  | [] =>
    if code ≠ Code.ok then s.refuse p rkey code
    else if c.rdFull then s.invalid p
    else if !s.optFree c.cls false then s.noEntry p
    else
      let i := rkey.toNat / 256
      let w := s.window i
      let (o, s) := s.addOpt (s.entryFor p c kind i false)
      let s := s.setQp p.qpn { c.expect 1 with
        begun := c.begun + 1
        outstanding := c.outstanding ++ [{ psn := p.psn, packets := 1, opt := o, reth := none }] }
      let kn := match kind with | .cmpSwap => 2 | .fetchAdd => 3 | _ => 4
      let bth := match kind with | .cmpSwap => 0x13 | .fetchAdd => 0x14 | _ => 0x1D
      s.launch { baseRequest p c rkey kn bth with
        addr := va.toNat - w.vaBase, len := 8, args := ops, opt := some o, rights := 4, msn := c.begun + 1 }

/-- A FLUSH admitted (R73, R191); `fresh` when it is no duplicate (R86). -/
def State.admitFlush (s : State) (p : Pkt) (c : Qp) (r : Reth) (sel : Byte) (fresh : Bool) : State :=
  let a : Access := { rkey := r.rkey, rights := 8, start := r.va.toNat, relative := false, len := r.len.toNat,
                      noBytes := sel == 1, home := true }
  let code := s.checkAccess c.tenant a
  if code ≠ Code.ok then s.refuse p r.rkey code
  else if !s.optFree c.cls false then s.noEntry p
  else
    let i := r.rkey.toNat / 256
    let w := s.window i
    let (o, s) := s.addOpt (s.entryFor p c .flush i false)
    let s := if fresh then s.setQp p.qpn { c.expect 1 with begun := c.begun + 1 } else s
    s.launch { baseRequest p c r.rkey 5 0x1C with
      addr := if sel == 1 then 0 else r.va.toNat - w.vaBase
      len := if sel == 1 then w.length else r.len.toNat
      opt := some o, rights := 8, msn := c.begun + 1, again := !fresh }

/-! ## Invoke (R75, R168, R373) -/

/-- The header at the front of an Invoke message is valid (R168). -/
def headerOk (m : List Byte) : Bool :=
  32 ≤ m.length && nthD m 0 0 == 1 && 0x10 ≤ (nthD m 1 0).toNat && (nthD m 1 0).toNat ≤ 0x1F && nthD m 2 0 == 0 &&
  nthD m 3 0 == 0

/-- A field of an Invoke header, in network byte order. -/
def headerField (m : List Byte) (o n : Nat) : Nat := beNat (slice m o n)

/-- An Invoke answered without running: its reply carries the code and RCOUNT 0 (R88, R159). -/
def State.replyNow (s : State) (q : BitVec 24) (m : List Byte) (code : Nat) : State :=
  s.sendMsg q .invokeReply (replyBytes (headerField m 1 1) code (BitVec.ofNat 32 (headerField m 20 4)) []) none

/-- Original values that the twin outcome table holds for an Invoke TAG, by MATOM position; they count on the bond's QP at the unit that
has taken over (R373). -/
def State.repeatsFor (s : State) (bond tag : Nat) : Table (List DWord) :=
  (s.dur.twinOutcomes.filter (fun o => o.bond == bond && o.kind == 3 && o.seq == tag)).foldl
    (fun t o => Maps.put o.pos o.orig t) []

/-- A complete Invoke message: checked, admitted, or answered with its code (R117, R167, R168, R373). -/
def State.admitInvoke (s : State) (p : Pkt) (c : Qp) (m : List Byte) : State :=
  let rkey : Word := BitVec.ofNat 32 (headerField m 4 4)
  let i := rkey.toNat / 256
  let w := s.window i
  let kind := headerField m 1 1
  let tag := headerField m 20 4
  let declared : BitVec 5 := match s.conjEntry w.progId kind with | some e => BitVec.ofNat 5 (fld e 62 58) | none => 0
  let a : Access := { rkey, rights := declared ||| 16, start := headerField m 8 8, relative := true,
                      len := headerField m 16 4, noBytes := false, home := bitOf declared 1 || bitOf declared 2 }
  let code := s.checkAccess c.tenant a
  let reps := if c.bond ≠ 0 && s.pairState == 4 then s.repeatsFor c.bond tag else []
  let code := if code = Code.ok && !reps.isEmpty && !Maps.has reps 0 then Code.yielded else code
  let taken := { c.expect 1 with begun := c.begun + 1, msn := c.msn + 1, sendBuf := [], sendOpen := false }
  if code ≠ Code.ok then
    let s := (s.setQp p.qpn taken).ackAt p.qpn p.psn
    (s.noteRefusal p.qpn rkey code).replyNow p.qpn m code
  else if !s.optFree c.cls true then s.noEntry p
  else
    let (o, s) := s.addOpt (s.entryFor p c .invoke i false)
    let s := (s.setQp p.qpn taken).ackAt p.qpn p.psn
    s.launch { baseRequest p c rkey kind kind with
      addr := headerField m 8 8, len := headerField m 16 4, payload := m.drop 32, opt := some o, rights := declared
      args := [BitVec.ofNat 64 (headerField m 24 4), BitVec.ofNat 64 (headerField m 28 4), BitVec.ofNat 64 tag]
      tag := BitVec.ofNat 32 tag, repeated := reps, msn := c.begun + 1 }

/-- A SEND packet collected, or the message completed (R75, R87). -/
def State.admitSend (s : State) (p : Pkt) (c : Qp) (part : Part) (payload : List Byte) : State :=
  let m := c.sendBuf ++ payload
  let final := part == .last || part == .only
  let opens := part == .first || part == .only
  if 16384 < m.length || (opens && !headerOk m) then s.invalid p
  else if final then s.admitInvoke p c m
  else
    let s := s.setQp p.qpn { c.expect 1 with sendBuf := m, sendOpen := true }
    if p.ackReq then s.ackAt p.qpn p.psn else s

/-! ## Validity (R70–R75), then the request's own admission -/

/-- The First/Middle/Last length rules of a WRITE packet (R71). -/
def writeShape (c : Qp) (part : Part) (r : Reth) (n : Nat) : Bool :=
  let mtu := mtuBytes c.pmtu
  match part, c.openMsg with
  | .only, none => n == r.len.toNat && n ≤ mtu
  | .first, none => n == mtu && mtu < r.len.toNat
  | .middle, some m => n == mtu && mtu < m.left
  | .last, some m => n == m.left && 0 < n && n ≤ mtu
  | _, _ => false

/-- The First/Middle/Last length rules of a SEND packet (R71). -/
def sendShape (c : Qp) (part : Part) (n : Nat) : Bool :=
  let mtu := mtuBytes c.pmtu
  match part with
  | .only => !c.sendOpen && n ≤ mtu
  | .first => !c.sendOpen && n == mtu
  | .middle => c.sendOpen && n == mtu
  | .last => c.sendOpen && 0 < n && n ≤ mtu

/-- A message of several packets is open, and no other request may come between (R71). -/
def Qp.between (c : Qp) : Bool := c.sendOpen || c.openMsg.isSome

/-- A request at ePSN (R85). -/
def State.process (s : State) (p : Pkt) (c : Qp) (b : ReqBody) : State :=
  if c.notice then (s.setQp p.qpn (c.expect 1)).invalid p
  else match b with
  | .read r =>
    if c.between || 2 ^ 30 < r.len.toNat then s.invalid p
    else if r.len = 0 then s.emptyRead p c
    else s.admitRead p c r 0 true
  | .write part r payload =>
    if c.sendOpen || !writeShape c part r payload.length || ((part == .first || part == .only) && 2 ^ 30 < r.len.toNat)
    then s.invalid p
    else match part, c.openMsg with
      | .only, _ => if r.len = 0 then s.emptyWrite p c else s.admitWrite p c r true payload
      | .first, _ => s.admitWrite p c r false payload
      | .middle, some m => s.admitWriteNext p c m false payload
      | .last, some m => s.admitWriteNext p c m true payload
      | _, none => s
  | .cmpSwap k va x y =>
    if c.between || va.toNat % 8 ≠ 0 then s.invalid p else s.admitAtomic p c .cmpSwap k va [x, y]
  | .fetchAdd k va x =>
    if c.between || va.toNat % 8 ≠ 0 then s.invalid p else s.admitAtomic p c .fetchAdd k va [x]
  | .atomicWrite k va x =>
    if c.between || va.toNat % 8 ≠ 0 then s.invalid p else s.admitAtomic p c .atomicWrite k va [x]
  | .flush r sel placement =>
    if c.between || 1 < sel.toNat || placement == 0 then s.invalid p else s.admitFlush p c r sel true
  | .send part payload =>
    if c.openMsg.isSome || !sendShape c part payload.length then s.invalid p else s.admitSend p c part payload
  | .unsupported _ => s.invalid p
  | .ack _ => s
  | .cnp => s
  | .readResponse => s

/-- The outstanding READ whose response packets include a PSN (R86). -/
def Qp.readAt (c : Qp) (psn : BitVec 24) : Option OutRec :=
  c.outstanding.find? (fun o => o.reth.isSome && (psn - o.psn).toNat < o.packets)

/-- A duplicate atomic: answered from the history, left to its original, or refused (R86). -/
def State.duplicateAtomic (s : State) (p : Pkt) (c : Qp) : State :=
  match c.history.find? (fun h => h.psn == p.psn && !h.isWrite) with
  | some h => s.release p.qpn { kind := .atomicAck, bth := 0x12, psn := p.psn, msn := c.msn, orig := h.orig }
  | none => if c.outstanding.any (fun o => o.psn == p.psn && o.reth.isNone) then s else s.invalid p

/-- A duplicate request (R86). One of an opcode that R70 does not support is counted and dropped (log 106). -/
def State.duplicate (s : State) (p : Pkt) (c : Qp) (b : ReqBody) : State :=
  let s := s.bump Reg.TRN_CNT_DUP
  match b with
  | .write _ _ _ | .atomicWrite _ _ _ | .send _ _ =>
    s.release p.qpn { kind := .ack, psn := c.ackedPsn, msn := c.msn }
  | .read _ =>
    match c.readAt p.psn with
    | some o => match o.reth with
      | some r => s.admitRead p c r (p.psn - o.psn).toNat false
      | none => s
    | none => s.invalid p
  | .cmpSwap _ _ _ _ | .fetchAdd _ _ _ => s.duplicateAtomic p c
  | .flush r sel placement =>
    if 1 < sel.toNat || placement == 0 then s.invalid p else s.admitFlush p c r sel false
  | _ => s

/-- A request by its PSN (R85), a notice QP's too: one ahead draws its sequence NAK (R95, log 106); one of which only the headers were kept is answered RNR at ePSN (R81). -/
def State.psnCheck (s : State) (p : Pkt) (c : Qp) (b : ReqBody) (headersOnly : Bool) : State :=
  let d := psnBehind c.ePsn p.psn
  if d = 0 then (if headersOnly then s.nakRnr p.qpn p.psn p.lp else s.process p c b)
  else if d ≤ 2 ^ 23 then (if c.notice then s.invalid p else s.duplicate p c b)
  else s.ahead p c

/-- A packet whose context is on chip (R77); a CE mark draws its CNP before the QP's state is looked at (R91, log 106). -/
def State.admitPkt (s : State) (p : Pkt) (b : ReqBody) (headersOnly : Bool) : State :=
  let s := s.congested p
  match s.qp p.qpn with
  | none => s
  | some c =>
    match b with
    | .ack k => if c.state = .rts then s.gotAck p c k else s
    | .cnp => s.gotCnp p.qpn c
    | .readResponse => s
    | _ =>
      match c.state with
      | .reset | .init => s
      | .error => s.release p.qpn { kind := .nakOper, psn := p.psn, msn := c.msn }
      | _ => s.psnCheck p c b headersOnly

/-- The window key whose descriptor a packet's check needs; none where no check by R117 is made (R118, R119, R121). -/
def keyOf (c : Qp) (b : ReqBody) : Option Nat :=
  let k (w : Word) : Option Nat := some (w.toNat / 256)
  match b with
  | .read r => if r.len = 0 then none else k r.rkey
  | .write .first r _ | .write .only r _ => if r.len = 0 then none else k r.rkey
  | .cmpSwap rk _ _ _ => k rk
  | .fetchAdd rk _ _ => k rk
  | .atomicWrite rk _ _ => k rk
  | .flush r _ _ => k r.rkey
  | .send .first m | .send .only m => k (BitVec.ofNat 32 (headerField m 4 4))
  | .send .last m => k (BitVec.ofNat 32 (headerField (c.sendBuf ++ m) 4 4))
  | _ => none

/-- The return gap holds a request on a side this unit is about to serve (R418). -/
def State.gapHolds (s : State) (key : Option Nat) : Bool :=
  match s.twn.reclaim, key with
  | some (side, _), some i => s.twn.gap && s.windowSide (s.window i) == side
  | _, _ => false

/-- The descriptor a packet needs is fetched where it is not on chip (R121); whether the packet can be checked now. -/
def State.descriptorReady (s : State) (key : Option Nat) : Bool × State :=
  match key with
  | none => (true, s)
  | some i => (s.keyPresent i, s.keyTouch i)

/-- A RoCEv2 packet comes in: dropped and counted unless it is the logical port's own (R61), counted into the ingress buffer under
its priority and captured (R63, R65, R68); then what it brings about, after which it has left the buffer (R65, log 104). -/
def State.arrive (s : State) (p : Pkt) (bth : Nat) (b : ReqBody) (k : State → State) : State :=
  if !s.lpUp p.lp then s
  else if !s.addressed p then s.bump (prtReg Reg.PRT_DROP_OTHER p.lp)
  else
    let t := k ((s.ingress p.lp (s.rxPrio p) (p.occ + rxUnits p b)).captureQp p.lp false p.qpn p.cycle bth p.psn)
    t.ingress p.lp (t.rxPrio p) p.occ

/-- A RoCEv2 packet arrives: its context and descriptor are looked for; it goes on to its checks, or waits in the miss buffer (R79,
R80, R121). A unit that has stopped admission drops it (R403). -/
def State.receiveThen (s : State) (p : Pkt) (bth : Nat) (b : ReqBody) (check : State → State) : State :=
  s.arrive p bth b (fun s =>
    if !s.getB Reg.TRN_STATUS 0 || p.qpn.toNat ≤ 1 || s.twn.stopped then s
    else match s.qp p.qpn with
      | none => s
      | some c =>
        let key := keyOf c b
        let (haveKey, s) := s.descriptorReady key
        match s.ctxLookup p.qpn with
        | .hit =>
          let s := s.ctxHit p.qpn
          if s.inMiss p.qpn || !haveKey || s.gapHolds key then s.joinMiss p b else check s
        | .miss => (s.joinMiss p b).ctxFetch p.qpn)

/-- A RoCEv2 packet arrives and is admitted, refused, or waits (R77–R80, R121). -/
def State.receive (s : State) (p : Pkt) (bth : Nat) (b : ReqBody) : State :=
  s.receiveThen p bth b (fun s => s.admitPkt p b false)

/-- A waiting packet can be admitted: its QP's context and its descriptor are on chip, and no return gap holds it. -/
def State.canAdmit (s : State) (e : MissEntry) : Bool :=
  match s.qp e.pkt.qpn with
  | none => true
  | some c =>
    let key := keyOf c e.body
    s.ctxLookup e.pkt.qpn == .hit && (match key with | none => true | some i => s.keyPresent i) && !s.gapHolds key

/-- The packets of a QP leave the miss buffer in arrival order, up to the first that must wait (R80, R121). -/
def State.drainMiss (s : State) (q : BitVec 24) : State :=
  let (es, s) := s.takeMiss q
  let (s, kept) := es.foldl (fun (a : State × List MissEntry) e =>
    if a.2.isEmpty && a.1.canAdmit e then (a.1.admitPkt e.pkt e.body e.headersOnly, [])
    else
      let s := match a.1.qp q with
        | some c => match keyOf c e.body with
          | some i => if a.1.keyPresent i || Maps.has a.1.win.fetching i then a.1 else a.1.keyTouch i
          | none => a.1
        | none => a.1
      (s, a.2 ++ [e])) (s, [])
  kept.foldl (fun s e =>
    let port := e.pkt.lp.val / 4
    { s with prt := { s.prt with miss := Maps.put port (Maps.getD s.prt.miss port [] ++ [e]) s.prt.miss } }) s

/-- QPNs with packets in the miss buffers, each once. -/
def State.missQps (s : State) : List Nat :=
  dedup (s.prt.miss.flatMap (fun e => e.2.map (fun m => m.pkt.qpn.toNat)))

/-- A WRITE packet of a QP is still to be Accepted: admitted and not retired. -/
def State.writeOpen (s : State) (q : BitVec 24) (psn : BitVec 24) : Bool :=
  s.cle.reqs.any (fun r => r.2.st != .ended && r.2.qpn == q && (r.2.kind == 1 || r.2.kind == 6) && psnGe psn r.2.psn)

/-- An Acknowledge of this PSN covers no request that failed (R87). -/
def Qp.mayAck (c : Qp) (p : BitVec 24) : Bool := match c.failed with | some f => !psnGe p f | none => true

/-- The Acknowledges due on a QP, as one that carries the highest PSN which no WRITE packet still being performed precedes; it releases
the entries of the messages it covers (R87, R96). -/
def State.flushAck (s : State) (q : BitVec 24) : State :=
  match s.qp q with
  | none => s
  | some c =>
    let (ready, later) := (c.ackDue.filter c.mayAck).partition (fun p => !s.writeOpen q p)
    let (live, lost) := c.ackOpts.partition (fun o => c.mayAck o.1)
    let s := lost.foldl (fun (s : State) o => s.freeOpt o.2) s
    match ready with
    | [] => s.setQp q { c with ackDue := later, ackOpts := live }
    | p :: ps =>
      let top := ps.foldl psnMax p
      let (done, kept) := live.partition (fun o => psnGe top o.1)
      let s := s.setQp q { c with ackDue := later, ackOpts := kept, ackedPsn := psnMax top c.ackedPsn }
      s.release q { kind := .ack, psn := top, msn := c.msn, acks := done.map Prod.snd }

/-- The Acknowledges due at a tick boundary, those of each QP as one (R87). -/
def State.flushAcks (s : State) : State :=
  (s.trn.qps.filter (fun e => !e.2.ackDue.isEmpty)).foldl (fun s e => s.flushAck (BitVec.ofNat 24 e.1)) s

end Sys2Proof.Machine
end

