-- ==== Sys2Proof/Machine/Operands.lean ====
section
/-! DEFINITION. The Ausum instruction word (R181), which words are defined (R182, R186), the register files, the pad,
guards (R183), traps (R158, R185, R210), and the frame every instruction's meaning is run in. -/

namespace Sys2Proof.Machine

open Sys2Proof

/-! ## The instruction word (R181) -/

def wOp (w : DWord) : Nat := fld w 63 56
def wPn (w : DWord) : Bool := bitOf w 55
def wPr (w : DWord) : Nat := fld w 54 52
def wD (w : DWord) : Nat := fld w 51 47
def wA (w : DWord) : Nat := fld w 46 42
def wB (w : DWord) : Nat := fld w 41 37
def wSub (w : DWord) : Nat := fld w 36 32
def wImm (w : DWord) : Nat := fld w 31 0

/-- The immediate, sign-extended to 64 bits. -/
def wSimm (w : DWord) : DWord := sextTo64 (wImm w) 32

/-- Sub values listed for an op: R186 and each op's table; an unlisted op has none. -/
def subsOf (op : Nat) : List Nat :=
  match op with
  | 0x01 => [0]
  | 0x10 => upTo 15
  | 0x11 => upTo 16
  | 0x12 | 0x13 => upTo 8
  | 0x14 => upTo 5
  | 0x15 => upTo 5
  | 0x16 => upTo 3
  | 0x17 => upTo 3
  | 0x18 => upTo 8
  | 0x20 => upTo 24
  | 0x21 => [0, 1, 2, 3, 16, 17, 18, 19]
  | 0x30 | 0x31 | 0x32 | 0x33 | 0x34 | 0x35 | 0x36 | 0x37 | 0x38 => [0]
  | 0x40 | 0x41 => [0, 1]
  | 0x42 => upTo 6
  | 0x43 | 0x44 => [0]
  | 0x50 => upTo 4
  | 0x51 | 0x52 | 0x53 => [0]
  | 0x60 | 0x61 | 0x62 | 0x63 | 0x64 => [0]
  | 0x65 => upTo 5
  | 0x66 => upTo 3
  | 0x67 => [0]
  | 0x70 => upTo 4
  | 0x71 | 0x72 => [0]
  | 0x73 => upTo 6
  | _ => []

/-- The word has an op of R186 and a sub listed for it. -/
def defined (w : DWord) : Bool := (subsOf (wOp w)).contains (wSub w)

/-- The profiles that execute an op (R186). -/
inductive Profile
  | both | clause | management
  deriving DecidableEq, Repr

/-- What an instruction's row says of its word: op, the subs it covers, its profile, issue slots (R186), and which
words of it are allowed (R182). -/
structure Row where
  op : Nat
  subs : List Nat
  profile : Profile
  cost : Nat
  allowed : DWord → Bool
  /-- The MODE bit of a T-format row that shares its op with another row (R193). -/
  mode : Option Bool := none

/-- Fields that must be 0 because an instruction does not use them (R182). -/
def noD (w : DWord) : Bool := wD w == 0
def noA (w : DWord) : Bool := wA w == 0
def noB (w : DWord) : Bool := wB w == 0
def noImm (w : DWord) : Bool := wImm w == 0

/-! ## Registers (R141, R184) -/

/-- A request's register g[n]; g0 reads 0. -/
def Ctx.greg (c : Ctx) (n : Nat) : DWord := if n = 0 then 0 else Maps.rd (fun _ => 0) c.g n

/-- g[n] written; a write to g0 is discarded. -/
def Ctx.setG (c : Ctx) (n : Nat) (v : DWord) : Ctx := if n = 0 then c else { c with g := Maps.wr (fun _ => 0) c.g n v }

/-- p[n]; p0 reads 1. -/
def Ctx.preg (c : Ctx) (n : Nat) : Bool := if n = 0 then true else Maps.rd (fun _ => false) c.p n

/-- p[n] written; a write to p0 is discarded. -/
def Ctx.setP (c : Ctx) (n : Nat) (v : Bool) : Ctx := if n = 0 then c else { c with p := Maps.wr (fun _ => false) c.p n v }

/-- A byte of the pad; above 255 one that the segment has not written is undefined (R141). -/
def Ctx.padByte (c : Ctx) (a : Nat) : Byte :=
  if a < 256 then c.pad.byte a
  else match Maps.find a c.scratch with
    | some b => b
    | none => Config.freeByte (c.seed + a)

/-- `n` bytes of the pad. -/
def Ctx.padBytes (c : Ctx) (a n : Nat) : List Byte := (upTo n).map (fun i => c.padByte (a + i))

/-- A byte of the pad written. -/
def Ctx.setPadByte (c : Ctx) (a : Nat) (b : Byte) : Ctx :=
  if a < 256 then { c with pad := c.pad.setByte a b } else { c with scratch := Maps.put a b c.scratch }

/-- Bytes of the pad written, lowest address first. -/
def Ctx.setPad (c : Ctx) (a : Nat) : List Byte → Ctx
  | [] => c
  | b :: bs => Ctx.setPad (c.setPadByte a b) (a + 1) bs

/-! ## Who executes: a strand's request, or the MCP -/

/-- The request whose segment runs on a strand. -/
def State.running (s : State) (i : Fin 512) : Option (Nat × Request) :=
  match Maps.find i.val s.cle.strands with
  | some (id, _) => match Maps.find id s.cle.reqs with
    | some r => some (id, r)
    | none => none
  | none => none

/-- The registers an agent executes with; the MCP's are its own (R207). -/
def State.ctxOf (s : State) : Agent → Ctx
  | .strand i => match s.running i with
    | some (_, r) => r.ctx
    | none => {}
  | .mcp => { pc := s.mcp.pc, g := s.mcp.g, p := s.mcp.p }

/-- The agent's registers replaced. -/
def State.setCtx (s : State) (ag : Agent) (c : Ctx) : State :=
  match ag with
  | .strand i => match s.running i with
    | some (id, r) => s.setReq id { r with ctx := c }
    | none => s
  | .mcp => { s with mcp := { s.mcp with pc := c.pc, g := c.g, p := c.p } }

/-- The program counter one instruction on: an index for a clause (R204), a byte address for the MCP (R210). -/
def pcStep : Agent → Nat
  | .strand _ => 1
  | .mcp => 8

/-- The agent goes on to the next instruction. -/
def State.advance (s : State) (ag : Agent) : State :=
  let c := s.ctxOf ag
  s.setCtx ag { c with pc := c.pc + pcStep ag }

/-- The code of a request's image. -/
def State.codeOf (s : State) (r : Request) : List DWord :=
  match r.slot with
  | some k => match Maps.find k s.cle.images with
    | some im => im.code
    | none => []
  | none => []

/-! ## The MCP's memory (R447) -/

/-- Byte `a` of the OTP row: as manufactured below 0x0A0, as programmed since above (R449); the seeds read 0 (R450). -/
def State.otpByte (s : State) (a : Nat) : Byte :=
  if 0x20 ≤ a && a < 0x60 then 0 else if a < 0xA0 then Config.factory a else s.efl.otp.byte a

/-- The active owner slot: the lowest with an OWNER_HASH that is not revoked (R451). -/
def State.otpOwner (s : State) : Option Nat :=
  (upTo 4).find? (fun k => !allZero ((upTo 64).map (fun i => s.otpByte (0xA0 + 64 * k + i))) && !bitOf (s.otpByte 0x1A0) k)

/-- A signature verifies under the vendor key, whose hash is VENDOR_HASH (R449). -/
def State.vendorVerifies (s : State) (bytes sig : List Byte) : Bool :=
  Config.verifies ((upTo 64).map (fun i => s.otpByte (0x60 + i))) bytes sig

/-- A signature verifies under the active owner key; without one none does (R451). -/
def State.ownerVerifies (s : State) (bytes sig : List Byte) : Bool :=
  match s.otpOwner with
  | some k => Config.verifies ((upTo 64).map (fun i => s.otpByte (0xA0 + 64 * k + i))) bytes sig
  | none => false

/-- The 192 B device certificate: DEVICE_ID, the public keys of ATT and KEX, 48 zero bytes, and the vendor's signature over them
(R449, R474, log 126). -/
def certificate : List Byte :=
  let body := (upTo 16).map Config.factory ++ (upTo 16).flatMap (fun i => leBytes (Config.publicKey i).toNat 4) ++ List.replicate 48 0
  body ++ slice (Config.vendorSign body ++ List.replicate 64 0) 0 64

/-- What an unlisted word of a bank reads as: the certificate that Tyend stored at EFA offset 0x30_0000 (R474), or erased (R453). -/
def freshWord (bankB : Bool) (i : Nat) : DWord :=
  if !bankB && decide (0x60000 ≤ i) && decide (i < 0x60018) then BitVec.ofNat 64 (leNat (slice certificate (8 * (i - 0x60000)) 8))
  else BitVec.allOnes 64

/-- Byte `o` of a flash bank: an unlisted word reads as erased (R453); an undefined row is free (R460). -/
def State.flashByte (s : State) (bankB : Bool) (o : Nat) : Byte :=
  let words := if bankB then s.efl.wordsB else s.efl.wordsA
  let undef := if bankB then s.efl.undefB else s.efl.undefA
  if Maps.has undef (o / 32) then Config.freeByte (s.free + o)
  else nthD (leBytes (Maps.rd (freshWord bankB) words (o / 8)).toNat 8) (o % 8) 0

/-- A flash row has been read: an undefined one may read differently the next time (R460). -/
def State.readFlash (s : State) (bankB : Bool) (o : Nat) : State :=
  if Maps.has (if bankB then s.efl.undefB else s.efl.undefA) (o / 32) then { s with free := s.free + 2 ^ 24 } else s

/-- The byte at an address of the MCP's space 0; none outside its ranges (R447). -/
def State.mcpByte (s : State) (a : Nat) : Option Byte :=
  if a < 0x10000 then some (Config.bootRom a)
  else if 0x100000 ≤ a && a < 0x200000 then some (s.mcp.sram.byte (a - 0x100000))
  else if 0x1000000 ≤ a && a < 0x1800000 then some (s.flashByte false (a - 0x1000000))
  else if 0x1800000 ≤ a && a < 0x2000000 then some (s.flashByte true (a - 0x1800000))
  else if 0x2000000 ≤ a && a < 0x2000800 then some (s.otpByte (a - 0x2000000))
  else none

/-- `n` bytes of the MCP's space 0; none when one of them lies outside it. -/
def State.mcpBytes (s : State) (a : Nat) : Nat → Option (List Byte)
  | 0 => some []
  | n + 1 => match s.mcpByte a, State.mcpBytes s (a + 1) n with
    | some b, some bs => some (b :: bs)
    | _, _ => none

/-- A flash bank is being programmed or erased; a suspended erase leaves it free (R455, R458, R459). -/
def State.flashBusy (s : State) (bankB : Bool) : Bool :=
  match s.efl.op with
  | some o => decide (o.kind ≤ 1) && o.bankB == bankB
  | none => false

/-- A read of the MCP at an address stalls (R458). -/
def State.stalls (s : State) (a : Nat) : Bool := 0x1000000 ≤ a && a < 0x2000000 && s.flashBusy (decide (0x1800000 ≤ a))

/-- An address the MCP may fetch from: its map but the OTP row (R447). -/
def mcpFetchable (a : Nat) : Bool := a < 0x2000000

/-- The instruction words the MCP may be given at its pc: that of a buffered line, and that in memory (R213). -/
def State.mcpWords (s : State) : List DWord :=
  let pc := s.mcp.pc
  let held := match Maps.find (pc / 64) s.mcp.ibuf with
    | some l => [BitVec.ofNat 64 (leNat (slice l (pc % 64) 8))]
    | none => []
  match if mcpFetchable pc && !s.stalls pc then s.mcpBytes pc 8 else none with
  | some bs => held ++ [BitVec.ofNat 64 (leNat bs)]
  | none => held

/-- The line at the MCP's pc leaves the instruction buffer (R212). -/
def State.dropLine (s : State) : State := { s with mcp := { s.mcp with ibuf := Maps.del (s.mcp.pc / 64) s.mcp.ibuf } }

/-- The line at the pc enters the instruction buffer when the word came from memory. -/
def State.buffer (s : State) (w : DWord) : State :=
  let pc := s.mcp.pc
  let held := match Maps.find (pc / 64) s.mcp.ibuf with
    | some l => BitVec.ofNat 64 (leNat (slice l (pc % 64) 8)) == w
    | none => false
  if held then s
  else match s.mcpBytes (pc / 64 * 64) 64 with
    | some l => { s with mcp := { s.mcp with ibuf := Maps.put (pc / 64) l s.mcp.ibuf } }
    | none => s

/-! ## Traps -/

/-- A clause trap: counted, shown, and the request ended with the trap's code, its effects discarded (R158, R159). -/
def State.trap (s : State) (i : Fin 512) (id : Nat) (r : Request) (t : Trap) : State :=
  let s := s.bump Reg.CLE_CNT_TRAP
  let s := s.setReg Reg.CLE_LAST_TRAP (BitVec.ofNat 32 (t.code * 2 ^ 24 + t.ends * 2 ^ 16 + i.val))
  let s := s.setReg Reg.CLE_LAST_TRAP_PC (BitVec.ofNat 32 (r.slot.getD 0 * 2 ^ 26 + r.ctx.pc))
  let s := { s with cle := { s.cle with lastTrapWin := r.win } }
  s.endReq id t.ends

/-- An internal MCP CSR (R209). -/
def State.csr (s : State) (n : Nat) : DWord := Maps.rd (fun _ => 0) s.mcp.csr n

/-- An internal MCP CSR replaced. -/
def State.setCsr (s : State) (n : Nat) (v : DWord) : State :=
  { s with mcp := { s.mcp with csr := Maps.wr (fun _ => 0) s.mcp.csr n v } }

/-- The MCP enters a trap whose saved address is `x`; in a trap already, the pair halts and reports 0x07 (R210, R441). -/
def State.mcpTrap (s : State) (x cause val : Nat) : State :=
  let st := s.csr 0
  if bitOf st 2 then
    let s := { s with mcp := { s.mcp with halted := true } }
    s.report 0x07 0
  else
    let s := s.setCsr 2 (BitVec.ofNat 64 x)
    let s := s.setCsr 3 (BitVec.ofNat 64 cause)
    let s := s.setCsr 4 (BitVec.ofNat 64 val)
    let s := s.setCsr 0 (BitVec.ofNat 64 (4 + (if bitOf st 0 then 2 else 0)))
    { s with mcp := { s.mcp with pc := (s.csr 1).toNat } }

/-- An instruction an agent may not execute: the clause's trap, or management trap 0x02 (R158, R207). -/
def State.illegal (s : State) (ag : Agent) (t : Trap) : State :=
  match ag with
  | .strand i => match s.running i with
    | some (id, r) => s.trap i id r t
    | none => s
  | .mcp => s.mcpTrap s.mcp.pc 0x02 0

/-- The turns an instruction takes of its strand (R140); the cycles it holds the MCP pipeline (R207). -/
def State.spend (s : State) (ag : Agent) (n : Nat) : State :=
  match ag with
  | .strand i => { s with cle := { s.cle with turns := Maps.put i.val (Maps.getD s.cle.turns i.val 0 + n) s.cle.turns } }
  | .mcp => { s with mcp := { s.mcp with cycles := s.mcp.cycles + n } }

/-! ## The turns of an engine's strands (R140) -/

/-- The strands of an engine that run a segment, in the order of its search: from the strand after the one that issued last, with
wrap; the first search starts at strand 0 (log 112). -/
def State.searchOrder (s : State) (e : Nat) : List Nat :=
  ((upTo 8).map (fun k => 8 * e + (Maps.getD s.cle.lastIssued e 7 + 1 + k) % 8)).filter (fun k => Maps.has s.cle.strands k)

/-- Turns that a strand's present instruction still takes after the one it issued in. -/
def State.turnsLeft (s : State) (k : Nat) : Nat := Maps.getD s.cle.turns k 0 - 1

/-- The strand that issues an engine's next instruction: turns go round, and the first to have none left issues (R140). -/
def State.nextIssuer (s : State) (e : Nat) : Option Nat :=
  let l := s.searchOrder e
  l.find? (fun k => l.all (fun j => decide (s.turnsLeft k ≤ s.turnsLeft j)))

/-- It is the agent's turn to issue. -/
def State.inTurn (s : State) (ag : Agent) : Bool :=
  match ag with
  | .strand i => s.nextIssuer (i.val / 8) == some i.val
  | .mcp => true

/-- A strand issues: the turns that went round before it are taken, and its engine searches on from it (R140). -/
def State.takeTurn (s : State) (i : Fin 512) : State :=
  let l := s.searchOrder (i.val / 8)
  let before := l.takeWhile (fun k => k != i.val)
  let m := s.turnsLeft i.val
  let left (t : Table Nat) (k : Nat) : Table Nat :=
    if k = i.val then Maps.del k t
    else Maps.upd k (fun n => n - (m + if before.contains k then 1 else 0)) t
  { s with cle := { s.cle with
      turns := l.foldl left s.cle.turns
      lastIssued := Maps.put (i.val / 8) (i.val % 8) s.cle.lastIssued } }

/-- The line of an engine's instruction cache that holds a request's next instruction: the key of its set, and image slot and
code line, of 64 B (R175, log 112). -/
def icacheLine (i : Fin 512) (r : Request) : Nat × (Nat × Nat) :=
  (128 * (i.val / 8) + r.ctx.pc / 8 % 128, (r.slot.getD 0, r.ctx.pc / 8))

/-- The line of the instruction at a strand's pc is in its engine's cache; one of 4 ways, of the cache's own choice, makes room for
it (R175). -/
def State.fillIcache (s : State) (i : Fin 512) : State :=
  match s.running i with
  | none => s
  | some (_, r) =>
    let (k, x) := icacheLine i r
    let ways := Maps.getD s.cle.icache k []
    if ways.contains x then s
    else if ways.length < 4 then { s with cle := { s.cle with icache := Maps.put k (x :: ways) s.cle.icache } }
    else
      let (v, s) := s.takeWord
      { s with cle := { s.cle with icache := Maps.put k (x :: ways.eraseIdx (v.toNat % 4)) s.cle.icache } }

/-! ## The frame every instruction runs in -/

/-- The agent is about to execute the word: a strand in its turn (R140) has a segment whose image holds it at the pc (the fetch beyond the
code is handled apart); the MCP runs, and its instruction buffer or its memory holds it at the pc (R213). -/
def State.fetches (s : State) (ag : Agent) (w : DWord) : Bool :=
  match ag with
  | .strand i => match s.running i with
    | some (_, r) => s.inTurn ag && (s.codeOf r)[r.ctx.pc]? == some w
    | none => false
  | .mcp => s.mcp.running && !s.mcp.halted && s.mcpWords.contains w

/-- The MCP's fetch finds no memory at its pc (R211, code 0x0D). -/
def State.fetchFault (s : State) (ag : Agent) : Bool :=
  match ag with
  | .strand _ => false
  | .mcp => s.mcp.running && !s.mcp.halted && !s.stalls s.mcp.pc && s.mcpWords.isEmpty

/-- The strand's segment has run past the image's last instruction (R204). -/
def State.beyond (s : State) (ag : Agent) : Bool :=
  match ag with
  | .strand i => match s.running i with
    | some (_, r) => s.inTurn ag && decide ((s.codeOf r).length ≤ r.ctx.pc)
    | none => false
  | .mcp => false

/-- The guard of R183 holds. -/
def guardOk (c : Ctx) (w : DWord) : Bool := c.preg (wPr w) != wPn w

/-- What the checks before an instruction's own effect decide. -/
inductive Verdict
  | absent | trap (t : Trap) | skip | run
  deriving DecidableEq, Repr

/-- The checks in the order of R183 and R185: undefined word or disallowed field, then the guard, then the wrong
profile. A word of another row, or one the agent does not fetch, is none of this command's business. -/
def State.verdict (s : State) (ag : Agent) (w : DWord) (row : Row) : Verdict :=
  if s.beyond ag then .trap .illegal
  else if !s.fetches ag w then .absent
  else if !defined w then .trap .illegal
  else if wOp w ≠ row.op || !row.subs.contains (wSub w) || (row.mode.isSome && row.mode != some (bitOf w 0)) then .absent
  else if !row.allowed w then .trap .illegal
  else if ag == .mcp && (row.op == 0x20 || row.op == 0x21) && row.profile == .clause then .trap .illegal
  else if !guardOk (s.ctxOf ag) w then .skip
  else match ag, row.profile with
    | .strand _, .management => .trap .priv
    | .mcp, .clause => .trap .illegal
    | _, _ => .run

/-- The word was fetched: the strand has its turn, its engine's cache holds the word's line (R140, R175), and the engine has issued
something since its last offer of work (R440); the MCP's buffer holds the word's line from now on. -/
def State.took (s : State) (ag : Agent) (w : DWord) : State :=
  match ag with
  | .strand i =>
    let s := (s.fillIcache i).takeTurn i
    { s with cle := { s.cle with issued := Maps.upd (i.val / 8) (fun _ => true) s.cle.issued } }
  | .mcp => s.buffer w

/-- An instruction: the checks, and then `body`, which moves the pc itself. -/
def State.instruct (s : State) (ag : Agent) (w : DWord) (row : Row) (body : State → State) : State :=
  if s.fetchFault ag then s.mcpTrap s.mcp.pc 0x0D s.mcp.pc
  else match s.verdict ag w row with
    | .absent => s
    | .trap t => (s.took ag w).illegal ag t
    | .skip => ((s.took ag w).spend ag 1).advance ag
    | .run => body ((s.took ag w).spend ag row.cost)

/-- An instruction that writes one general register and goes on. -/
def State.writesG (s : State) (ag : Agent) (w : DWord) (row : Row) (f : Ctx → DWord) : State :=
  s.instruct ag w row (fun s =>
    let c := s.ctxOf ag
    s.setCtx ag { c.setG (wD w) (f c) with pc := c.pc + pcStep ag })

/-- An instruction that writes one predicate and goes on. -/
def State.writesP (s : State) (ag : Agent) (w : DWord) (row : Row) (f : Ctx → Bool) : State :=
  s.instruct ag w row (fun s =>
    let c := s.ctxOf ag
    s.setCtx ag { c.setP (wD w % 8) (f c) with pc := c.pc + pcStep ag })

/-- An instruction of a clause: its body gets the strand, the request number and the request. -/
def State.clauseOp (s : State) (ag : Agent) (w : DWord) (row : Row)
    (body : State → Fin 512 → Nat → Request → State) : State :=
  s.instruct ag w row (fun s =>
    match ag with
    | .strand i => match s.running i with
      | some (id, r) => body s i id r
      | none => s
    | .mcp => s)

/-- The request goes on at the next instruction with what an instruction made of it. -/
def State.goOn (s : State) (id : Nat) (r : Request) : State :=
  s.setReq id { r with ctx := { r.ctx with pc := r.ctx.pc + 1 } }

end Sys2Proof.Machine
end

