-- ==== Sys2Proof/Machine/Clauses.lean ====
section
/-! DEFINITION. What clauses share: the end of a segment and restarts (R144, R149, R176, R178), window access (R156),
the answers a COMMIT releases (R87, R153, R369), and COMMIT itself (R153–R155, R160, R360). -/

namespace Sys2Proof.Machine

open Sys2Proof

/-! ## Segments -/

/-- The request's segment ends: the strand is free, the return stack and the scratch pad are gone (R141, R204). -/
def State.endSegment (s : State) (id : Nat) (r : Request) (st : ReqState) : State :=
  let s := s.setReq id { r with st, stack := [], ctx := { r.ctx with scratch := [] } }
  { s with cle := { s.cle with strands := s.cle.strands.filter (fun e => e.2.1 != id) } }

/-- The schedule as it stood with none of its tiles filled; which of them have been filled since stays noted (R233, R248). -/
def Pour.emptied (p : Pour) (since : Option Pour) : Pour :=
  let bare (x : TileSrc) : TileSrc := { x with tile := none }
  { p with stages := (upTo p.stages.length).map (fun k =>
      let st := nthD p.stages k { tiles := [] }
      match since.bind (fun q => q.stages[k]?) with
      | some now => { st with tiles := now.tiles.map bare }
      | none => { st with tiles := st.tiles.map bare }) }

/-- The request restarts from its checkpoint through the restart queue: its tiles are freed, its handles unbound, the
clause's buffered effects gone; delivered MREAD data and logged MATOMs are kept (R155, R178, R206, R248). -/
def State.toRestart (s : State) (id : Nat) : State :=
  let s := s.dropTiles id
  match Maps.find id s.cle.reqs with
  | none => s
  | some r =>
    let r := { r with
      ctx := { r.ckpt with t := [] }, eff := {}
      pour := r.ckptPour.map (fun p => p.emptied (if r.stagings = 0 then r.pour else none)), stagings := 0
      kept := r.kept ++ r.mreads.filter (·.done), mreads := [], logged := r.logged ++ r.matoms, matoms := []
      fences := [], bytesRead := 0, mediaDue := false }
    s.endSegment id r .discarded

/-- TRAP_FETCH_UE on a strand: the line leaves the engine's cache, the code store's copy is that of the program store again, and the
clause restarts once; a second ends the request (R176). -/
def State.fetchUe (s : State) (i : Fin 512) (id : Nat) (r : Request) : State :=
  let s := (s.bump Reg.INT_CNT_UE).report 0x04 i
  let (k, x) := icacheLine i r
  let s := { s with cle := { s.cle with icache := Maps.upd k (fun l => l.erase x) s.cle.icache } }
  if r.fetchUe then s.trap i id r .fetchUe
  else
    let s := s.bump Reg.CLE_CNT_TRAP
    let s := s.setReg Reg.CLE_LAST_TRAP (BitVec.ofNat 32 (Trap.fetchUe.code * 2 ^ 24 + i.val))
    let s := s.setReg Reg.CLE_LAST_TRAP_PC (BitVec.ofNat 32 (r.slot.getD 0 * 2 ^ 26 + r.ctx.pc))
    (s.setReq id { r with fetchUe := true }).toRestart id

/-! ## Window access (R156) -/

/-- Why an access of `n` bytes at a window offset may not be made: bit 0 R, 1 W, 2 A, 3 F (R156);
one of no bytes is checked for its right alone (log 132). -/
def State.accessTrap (s : State) (r : Request) (off n right : Nat) : Option Trap :=
  if n ≠ 0 && (s.window r.win).length < off + n then some .window
  else if !bitOf r.rights right then some .rights
  else none

/-! ## Answers -/

/-- The answer of a plain atomic or Invoke released; an atomic's outcome enters the QP's history (R86, R96). -/
def State.give (s : State) (q : BitVec 24) (a : Answer) : State :=
  match a with
  | .invoke bytes opt => s.sendMsg q .invokeReply bytes opt
  | .atomic psn orig isWrite opt =>
    let s := s.messageDone q
    match s.qp q with
    | none => match opt with | some o => s.freeOpt o | none => s
    | some c =>
      let h : AtomicHist := { psn, orig, isWrite }
      let history := (c.history ++ [h]).drop (c.history.length + 1 - 16)
      let s := s.setQp q { c with history }
      s.release q { kind := if isWrite then .atomicWriteResponse else .atomicAck, bth := if isWrite then 0x10 else 0x12,
                    psn, msn := c.msn, orig, opt }

/-- Own outcome entries not yet confirmed, among the given ones (R369). -/
def State.unconfirmed (s : State) (ks : List OutcomeKey) : List OutcomeKey :=
  ks.filter (fun k => s.dur.outcomes.any (fun o => o.key == k && !o.confirmed))

/-- An answer released once its outcome entries are confirmed (R369). -/
def State.answer (s : State) (q : BitVec 24) (a : Answer) (ks : List OutcomeKey) : State :=
  let waits := s.unconfirmed ks
  if waits.isEmpty then s.give q a
  else { s with dur := { s.dur with heldAnswers := s.dur.heldAnswers ++ [{ qpn := q, answer := a, waits }] } }

/-- Held answers whose last outcome entry has been confirmed go out, oldest first (R369). -/
def State.releaseAnswers (s : State) : State :=
  let (go, stay) := s.dur.heldAnswers.partition (fun h => (s.unconfirmed h.waits).isEmpty)
  go.foldl (fun s h => s.give h.qpn h.answer) { s with dur := { s.dur with heldAnswers := stay } }

/-- BTH opcode of response packet `k` of `n` (R69). -/
def responseOpcode (k n : Nat) : Nat := if n = 1 then 0x10 else if k = 0 then 0x0D else if k + 1 = n then 0x0F else 0x0E

/-- Response packets of `bytes` from packet `first` of a response of `n` (R96: the last one releases the entry). -/
def State.respond (s : State) (r : Request) (first n : Nat) (bytes : List Byte) : State :=
  match s.qp r.qpn with
  | none => match r.opt with | some o => s.freeOpt o | none => s
  | some c =>
    let parts := chunks (mtuBytes c.pmtu) bytes
    (upTo parts.length).foldl (fun s k =>
      let j := first + k
      s.release r.qpn { kind := .readResponse, bth := responseOpcode j n, psn := r.psn + BitVec.ofNat 24 j, msn := c.msn,
                        data := nthD parts k [], opt := if j + 1 = n then r.opt else none }) s

/-- The first `n` bytes of a run of window parts, each an offset and a length. -/
def takeParts : Nat → List (Nat × Nat) → List (Nat × Nat)
  | _, [] => []
  | n, (o, l) :: ps => if n = 0 then [] else if n < l then [(o, n)] else (o, l) :: takeParts (n - l) ps

/-- What follows the first `n` bytes of a run of window parts. -/
def dropParts : Nat → List (Nat × Nat) → List (Nat × Nat)
  | _, [] => []
  | n, (o, l) :: ps => if n < l then (o + n, l - n) :: ps else dropParts (n - l) ps

/-- The window parts of a request's response path, in the order of its MREADs (R196). -/
def Request.responseParts (r : Request) : List (Nat × Nat) :=
  (r.mreads.filter (fun m => m.dst.isNone)).map (fun m => (m.off, m.len))

/-- Bytes that the clause's MREADs to the response path have asked for so far. -/
def Request.pathLength (r : Request) : Nat := (r.responseParts.map Prod.snd).foldl (· + ·) 0

/-- The lines of window parts are read for a request. -/
def State.readParts (s : State) (r : Request) (ps : List (Nat × Nat)) (req : Option Nat) : State :=
  ps.foldl (fun s p => s.readRange ((s.window r.win).pnaBase + p.1) p.2 req) s

/-- The bytes of window parts as they are Accepted now (R196, R363). -/
def State.partBytes (s : State) (r : Request) (ps : List (Nat × Nat)) : List Byte :=
  ps.flatMap (fun p => s.readBytes ((s.window r.win).pnaBase + p.1) p.2)

/-- Bytes MREAD has put in the response path. -/
def Request.path (r : Request) : List Byte := (r.mreads.filter (fun m => m.dst.isNone)).flatMap (·.data)

/-- A request's message is complete; a duplicate's was counted before (R86, R87). -/
def State.messageEnds (s : State) (r : Request) : State := if r.again then s else s.messageDone r.qpn

/-- The READ response released: its first 16 KiB now; the rest is read and sent as it comes (R196, R201). DESIGN CHOICE, log 142: of MREADs
to the response path that a clause has not waited for, what has been delivered is sent. -/
def State.postResponse (s : State) (id : Nat) (r : Request) : State :=
  let mtu := match s.qp r.qpn with | some c => mtuBytes c.pmtu | none => 4096
  let n := Nat.max 1 (ceilDiv r.len mtu)
  let now := r.path.take 16384
  let s := s.respond r 0 n now
  let parts := dropParts 16384 r.responseParts
  if parts.isEmpty then s.messageEnds r
  else
    let rest : RestRec := { parts, psn := r.psn + BitVec.ofNat 24 (16384 / mtu) }
    let s := match Maps.find id s.cle.reqs with | some r => s.setReq id { r with rest := some rest } | none => s
    s.readParts r (takeParts 16384 parts) (some id)

/-- The Acknowledge of a WRITE packet where R87 calls for one; the message is complete at its last packet (R96). A packet without an entry
belongs to a message that has failed. -/
def State.postAck (s : State) (r : Request) : State :=
  match r.opt with
  | none => s
  | some o =>
    let s := if r.last then
        let s := s.messageDone r.qpn
        match s.qp r.qpn with
        | some c => s.setQp r.qpn { c with ackOpts := c.ackOpts ++ [(r.psn, o)] }
        | none => s.freeOpt o
      else s
    if r.last || r.ackReq then s.ackAt r.qpn r.psn else s

/-- The FLUSH response (R73). -/
def State.postFlushAck (s : State) (r : Request) : State :=
  let s := s.messageEnds r
  match s.qp r.qpn with
  | none => match r.opt with | some o => s.freeOpt o | none => s
  | some c =>
    let s := s.setQp r.qpn { c with ackedPsn := psnMax r.psn c.ackedPsn }
    s.release r.qpn { kind := .ack, psn := r.psn, msn := c.msn, opt := r.opt }

/-- Outcome entries of a request's MATOMs (R367, R369). -/
def State.outcomeKeys (s : State) (r : Request) : List OutcomeKey :=
  let c := (s.qp r.qpn).getD {}
  (r.matoms ++ r.logged).map (fun m =>
    if r.kind < 8 then { bond := c.bond, invoke := false, seq := r.aseq, pos := 0, qpn := r.qpn }
    else { bond := c.bond, invoke := true, seq := r.tag.toNat, pos := m.pos, qpn := r.qpn })

/-- The answer that POST or REPLY queued, released at COMMIT (R201, R202). -/
def State.releasePost (s : State) (id : Nat) (r : Request) : State :=
  match r.eff.post, r.eff.reply with
  | some (0, _), _ => s.postResponse id r
  | some (1, _), _ => s.postAck r
  | some (2, v), _ => s.answer r.qpn (.atomic r.psn v (r.kind == 4) r.opt) (s.outcomeKeys r)
  | some (_, _), _ => s.postFlushAck r
  | none, some (status, words) =>
    s.answer r.qpn (.invoke (replyBytes r.bthOp status r.tag words) r.opt) (s.outcomeKeys r)
  | none, none => s

/-- An answer is queued in the clause. -/
def Effects.answers (e : Effects) : Bool := e.post.isSome || e.reply.isSome

/-! ## COMMIT -/

/-- Lines that the clause's writes cover only in part and that need a base: neither in the placement buffer nor of an
Unwritten page (R360). -/
def State.baseLines (s : State) (base : Nat) (ws : List WinWrite) : List Nat :=
  (touched base ws).filter (fun l => !coversLine base ws l && (s.newest l).isNone && Maps.has s.win.pages (pageOfLine l))

/-- A merge read of the line has returned and is not out of date. -/
def Request.merged (r : Request) (l : Nat) : Bool := r.merges.any (fun m => m.line == l && m.done && !m.stale)

/-- A merge read of the line is outstanding. -/
def Request.merging (r : Request) (l : Nat) : Bool := r.merges.any (fun m => m.line == l && !m.done)

/-- Why a COMMIT cannot be carried out now. -/
inductive CommitGate
  | go
  | intentTrap
  /-- End the request with a code (R105, R269, R280). -/
  | fail (code : Nat)
  /-- Retire as a yield: merge reads to issue, pages to promote, and whether the placement unit refused (R154, R279). -/
  | defer (reads pages : List Nat) (admission : Bool)
  deriving DecidableEq, Repr

/-- The gate of a COMMIT (sub 0), COMMIT.C (1) or COMMIT.A (2); without writes it needs no admission (log 133). -/
def State.commitGate (s : State) (r : Request) (sub : Nat) : CommitGate :=
  let base := (s.window r.win).pnaBase
  let lines := touched base r.eff.writes
  let pages := dedup (lines.map pageOfLine)
  let need := (s.baseLines base r.eff.writes).filter (fun l => !r.merged l)
  let toPromote := pages.filter s.inNand
  if sub = 2 && (8 < lines.length || !s.serves (s.windowSide (s.window r.win))) then .intentTrap
  else if lines.any (fun l => !coversLine base r.eff.writes l && Maps.has s.med.poison l) then .fail Code.mediaUe
  else if r.matoms.any (fun m => !m.accepted) then .defer [] [] false
  else if !s.newPagesFit r.tenant pages then .fail Code.noSpace
  else if !toPromote.isEmpty then .defer [] toPromote false
  else if !need.isEmpty then .defer (need.filter (fun l => !r.merging l)) [] false
  else if lines.isEmpty then .go
  else if !s.pbRoom r.cls lines.length then .defer [] [] true
  else if sub = 2 && 16384 ≤ s.dur.intents.length then .defer [] [] true
  else .go

/-- The COMMIT retires as YIELD.W NEXT and is executed again at the next boundary, with what it waits for begun (R154). -/
def State.deferCommit (s : State) (id : Nat) (r : Request) (sub : Nat) (reads pages : List Nat) (admission : Bool) : State :=
  let s := s.bump Reg.CLE_CNT_COMMIT_DEFER
  let s := if admission then s.bump Reg.DUR_CNT_ADMIT_DEFER else s
  let keep := r.merges.filter (fun m => !reads.contains m.line)
  let r := { r with merges := keep ++ reads.map (fun l => ({ line := l } : MergeRec)) }
  let s := s.endSegment id r (.waiting (.commit sub) s.now)
  let s := reads.foldl (fun s l => s.readLine l (some id)) s
  { s with med := { s.med with promoteWant := s.med.promoteWant ++ pages.filter (fun p => !s.med.promoteWant.contains p) } }

/-- The schedule, that of the STAGE of number `n` since the checkpoint, with its tiles among those noted marked as counted (R238). -/
def Pour.count (p : Pour) (n : Nat) (firsts : List (Nat × Nat × Nat × Nat)) : Pour :=
  let mark (k j : Nat) (t : TileSrc) : TileSrc := { t with counted := t.counted || firsts.contains (n, k, j, t.off) }
  { p with stages := (upTo p.stages.length).map (fun k =>
      let st := nthD p.stages k { tiles := [] }
      { st with tiles := (upTo st.tiles.length).map (fun j => mark k j (nthD st.tiles j { off := 0, zero := true })) }) }

/-- Meter increments of a committing clause (R133, R203, R238). -/
def State.countClause (s : State) (r : Request) (final : Bool) : State :=
  if r.chip then s
  else
    let resp := match r.eff.post with | some (0, _) => r.len | _ => 0
    let reads := r.matoms.countP (fun m => m.sub != 5) * 8
    let tiles := 4096 * r.firsts.length
    let written := (r.eff.writes.map (fun w => w.bytes.length)).foldl (· + ·) 0 + 8 * r.matoms.length
    let s := s.addMeter r.tenant 0 (resp + reads + tiles + r.bytesRead)
    let s := s.addMeter r.tenant 1 written
    let s := r.eff.meters.foldl (fun s m => s.addMeter r.tenant m.1 m.2) s
    if final then s.addMeter r.tenant 2 1 else s

/-- NOTIFY entries of the clause wait for the next tick boundary (R26). -/
def State.queueNotifies (s : State) (ns : List (Nat × List Byte)) : State :=
  { s with ctl := { s.ctl with outbound := s.ctl.outbound ++ ns } }

/-- The clause's window writes Accepted in one cycle (R153), whole lines before merged ones (R361), through an intent slot for COMMIT.A (R375). -/
def State.acceptClause (s : State) (r : Request) (sub : Nat) : State :=
  let base := (s.window r.win).pnaBase
  if r.eff.writes.isEmpty then s
  else
    let whole := coversLine base r.eff.writes
    let all := s.mergedLines base r.eff.writes
    let lines := all.filter (fun l => whole l.1) ++ all.filter (fun l => !whole l.1)
    let s := s.bumpBy Reg.DUR_CNT_MERGE ((touched base r.eff.writes).countP (fun l => !coversLine base r.eff.writes l))
    if sub = 2 then
      let k := Maps.nextKey 0 s.dur.intents
      let w := match s.qp r.qpn with | some c => c.acc + 1 | none => 0
      let x : Intent := {
        lines := lines.map (fun l => (l.1, s.sealLine l.1 l.2)), tenant := r.tenant, epoch := s.dur.epoch
        qpn := r.qpn, wseq := w.toNat, cls := r.cls }
      let s := { s with dur := { s.dur with intents := Maps.put k x s.dur.intents } }
      (s.accept r.qpn r.tenant r.cls r.msn.toNat (some k) lines).bump Reg.DUR_CNT_INTENT
    else s.accept r.qpn r.tenant r.cls r.msn.toNat none lines

/-- The request as its next clause begins it: the checkpoint is taken here (R144, R146). -/
def Request.nextClause (r : Request) : Request :=
  let ctx := { r.ctx with pc := r.ctx.pc + 1, scratch := [] }
  let pour := r.pour.map (fun p => p.count r.stagings r.firsts)
  { r with ctx, pour, ckpt := ctx, ckptPour := pour, stagings := 0, firsts := [], eff := {}, mreads := [], kept := [], matoms := [], logged := [],
           fences := [], bytesRead := 0, committed := true, answered := r.answered || r.eff.answers }

/-- What is left of a request after its last clause: nothing, or the reading out of a long response (R196). -/
def State.retire (s : State) (id : Nat) (answered : Bool) : State :=
  match Maps.find id s.cle.reqs with
  | none => s
  | some r =>
    if r.rest.isSome then
      let s := s.dropTiles id
      s.endSegment id { r with answered := true } .held
    else
      let s := s.dropReq id
      if answered then s else s.answerEnded r (if 16 ≤ r.kind then Code.ok else Code.clauseAbort)

/-- COMMIT, COMMIT.C and COMMIT.A (R144, R153, R154, R160). -/
def State.commit (s : State) (i : Fin 512) (id : Nat) (r : Request) (sub : Nat) : State :=
  match s.commitGate r sub with
  | .intentTrap => s.trap i id r .intent
  | .fail code =>
    let pages := dedup ((touched (s.window r.win).pnaBase r.eff.writes).map pageOfLine)
    (if code = Code.noSpace then s.noSpace r.tenant 1 (s.newPages pages) else s).endReq id code
  | .defer reads pages admission => s.deferCommit id r sub reads pages admission
  | .go =>
    let s := s.bump Reg.CLE_CNT_COMMIT
    let s := s.acceptClause r sub
    let s := s.releasePost id r
    let s := s.queueNotifies r.eff.notifies
    let s := s.countClause r (sub != 1)
    if sub = 1 then
      match Maps.find id s.cle.reqs with
      | some r => s.endSegment id r.nextClause .wakes
      | none => s
    else s.retire id (r.answered || r.eff.answers)

end Sys2Proof.Machine
end

