-- ==== Sys2Proof/Machine/Integer.lean ====
section
/-! DEFINITION. The meanings of the integer, compare, bit and CRC instructions of both profiles (R187–R190). -/

namespace Sys2Proof.Machine

open Sys2Proof

/-! ## ALU and ALUI (R187) -/

/-- The word of an ALU row: imm is 0. -/
def aluRow (sub cost : Nat) : Row := { op := 0x10, subs := [sub], profile := .both, cost, allowed := noImm }

/-- The word of an ALUI row: b is 0, and a shift's imm[31:6] is 0. -/
def aluiRow (sub cost : Nat) (shift : Bool) : Row :=
  { op := 0x11, subs := [sub], profile := .both, cost, allowed := fun w => noB w && (!shift || wImm w < 64) }

/-- Both source registers of a word given to a two-operand function. -/
def onRegs (w : DWord) (f : DWord → DWord → DWord) (c : Ctx) : DWord := f (c.greg (wA w)) (c.greg (wB w))

/-- The source register and the sign-extended immediate given to a two-operand function. -/
def onImm (w : DWord) (f : DWord → DWord → DWord) (c : Ctx) : DWord := f (c.greg (wA w)) (wSimm w)

/-- ADD's result. -/
def aluAdd (a b : DWord) : DWord := a + b

/-- SUB's result. -/
def aluSub (a b : DWord) : DWord := a - b

/-- AND's result. -/
def aluAnd (a b : DWord) : DWord := a &&& b

/-- OR's result. -/
def aluOr (a b : DWord) : DWord := a ||| b

/-- XOR's result. -/
def aluXor (a b : DWord) : DWord := a ^^^ b

/-- SHL's result. -/
def aluShl (a b : DWord) : DWord := a <<< (b.toNat % 64)

/-- SHR's result. -/
def aluShr (a b : DWord) : DWord := a >>> (b.toNat % 64)

/-- SAR's result. -/
def aluSar (a b : DWord) : DWord := a.sshiftRight (b.toNat % 64)

/-- MUL's result. -/
def aluMul (a b : DWord) : DWord := a * b

/-- MULHU's result. -/
def aluMulhu (a b : DWord) : DWord := BitVec.ofNat 64 (a.toNat * b.toNat / 2 ^ 64)

/-- MINU's result. -/
def aluMinu (a b : DWord) : DWord := if a.toNat ≤ b.toNat then a else b

/-- MAXU's result. -/
def aluMaxu (a b : DWord) : DWord := if a.toNat ≤ b.toNat then b else a

/-- MIN's result. -/
def aluMin (a b : DWord) : DWord := if a.toInt ≤ b.toInt then a else b

/-- MAX's result. -/
def aluMax (a b : DWord) : DWord := if a.toInt ≤ b.toInt then b else a

/-- ANDN's result. -/
def aluAndn (a b : DWord) : DWord := a &&& ~~~b

/-- ADD (R187). -/
def execAdd (ag : Agent) (w : DWord) (s : State) : Result :=
  .next (s.writesG ag w (aluRow 0 1) (onRegs w aluAdd))

/-- SUB (R187). -/
def execSub (ag : Agent) (w : DWord) (s : State) : Result :=
  .next (s.writesG ag w (aluRow 1 1) (onRegs w aluSub))

/-- AND (R187). -/
def execAnd (ag : Agent) (w : DWord) (s : State) : Result :=
  .next (s.writesG ag w (aluRow 2 1) (onRegs w aluAnd))

/-- OR (R187). -/
def execOr (ag : Agent) (w : DWord) (s : State) : Result :=
  .next (s.writesG ag w (aluRow 3 1) (onRegs w aluOr))

/-- XOR (R187). -/
def execXor (ag : Agent) (w : DWord) (s : State) : Result :=
  .next (s.writesG ag w (aluRow 4 1) (onRegs w aluXor))

/-- SHL (R187). -/
def execShl (ag : Agent) (w : DWord) (s : State) : Result :=
  .next (s.writesG ag w (aluRow 5 1) (onRegs w aluShl))

/-- SHR (R187). -/
def execShr (ag : Agent) (w : DWord) (s : State) : Result :=
  .next (s.writesG ag w (aluRow 6 1) (onRegs w aluShr))

/-- SAR (R187). -/
def execSar (ag : Agent) (w : DWord) (s : State) : Result :=
  .next (s.writesG ag w (aluRow 7 1) (onRegs w aluSar))

/-- MUL (R187). -/
def execMul (ag : Agent) (w : DWord) (s : State) : Result :=
  .next (s.writesG ag w (aluRow 8 3) (onRegs w aluMul))

/-- MULHU (R187). -/
def execMulhu (ag : Agent) (w : DWord) (s : State) : Result :=
  .next (s.writesG ag w (aluRow 9 3) (onRegs w aluMulhu))

/-- MINU (R187). -/
def execMinu (ag : Agent) (w : DWord) (s : State) : Result :=
  .next (s.writesG ag w (aluRow 10 1) (onRegs w aluMinu))

/-- MAXU (R187). -/
def execMaxu (ag : Agent) (w : DWord) (s : State) : Result :=
  .next (s.writesG ag w (aluRow 11 1) (onRegs w aluMaxu))

/-- MIN (R187). -/
def execMin (ag : Agent) (w : DWord) (s : State) : Result :=
  .next (s.writesG ag w (aluRow 12 1) (onRegs w aluMin))

/-- MAX (R187). -/
def execMax (ag : Agent) (w : DWord) (s : State) : Result :=
  .next (s.writesG ag w (aluRow 13 1) (onRegs w aluMax))

/-- ANDN (R187). -/
def execAndn (ag : Agent) (w : DWord) (s : State) : Result :=
  .next (s.writesG ag w (aluRow 14 1) (onRegs w aluAndn))

/-- ADDI (R187). -/
def execAddi (ag : Agent) (w : DWord) (s : State) : Result :=
  .next (s.writesG ag w (aluiRow 0 1 false) (onImm w aluAdd))

/-- SUBI (R187). -/
def execSubi (ag : Agent) (w : DWord) (s : State) : Result :=
  .next (s.writesG ag w (aluiRow 1 1 false) (onImm w aluSub))

/-- ANDI (R187). -/
def execAndi (ag : Agent) (w : DWord) (s : State) : Result :=
  .next (s.writesG ag w (aluiRow 2 1 false) (onImm w aluAnd))

/-- ORI (R187). -/
def execOri (ag : Agent) (w : DWord) (s : State) : Result :=
  .next (s.writesG ag w (aluiRow 3 1 false) (onImm w aluOr))

/-- XORI (R187). -/
def execXori (ag : Agent) (w : DWord) (s : State) : Result :=
  .next (s.writesG ag w (aluiRow 4 1 false) (onImm w aluXor))

/-- SHLI (R187). -/
def execShli (ag : Agent) (w : DWord) (s : State) : Result :=
  .next (s.writesG ag w (aluiRow 5 1 true) (onImm w aluShl))

/-- SHRI (R187). -/
def execShri (ag : Agent) (w : DWord) (s : State) : Result :=
  .next (s.writesG ag w (aluiRow 6 1 true) (onImm w aluShr))

/-- SARI (R187). -/
def execSari (ag : Agent) (w : DWord) (s : State) : Result :=
  .next (s.writesG ag w (aluiRow 7 1 true) (onImm w aluSar))

/-- MULI (R187). -/
def execMuli (ag : Agent) (w : DWord) (s : State) : Result :=
  .next (s.writesG ag w (aluiRow 8 3 false) (onImm w aluMul))

/-- MULHUI (R187). -/
def execMulhui (ag : Agent) (w : DWord) (s : State) : Result :=
  .next (s.writesG ag w (aluiRow 9 3 false) (onImm w aluMulhu))

/-- MINUI (R187). -/
def execMinui (ag : Agent) (w : DWord) (s : State) : Result :=
  .next (s.writesG ag w (aluiRow 10 1 false) (onImm w aluMinu))

/-- MAXUI (R187). -/
def execMaxui (ag : Agent) (w : DWord) (s : State) : Result :=
  .next (s.writesG ag w (aluiRow 11 1 false) (onImm w aluMaxu))

/-- MINI (R187). -/
def execMini (ag : Agent) (w : DWord) (s : State) : Result :=
  .next (s.writesG ag w (aluiRow 12 1 false) (onImm w aluMin))

/-- MAXI (R187). -/
def execMaxi (ag : Agent) (w : DWord) (s : State) : Result :=
  .next (s.writesG ag w (aluiRow 13 1 false) (onImm w aluMax))

/-- ANDNI (R187). -/
def execAndni (ag : Agent) (w : DWord) (s : State) : Result :=
  .next (s.writesG ag w (aluiRow 14 1 false) (onImm w aluAndn))

/-- DEPH: the low half of g[a] under imm in the upper half (R187). -/
def execDeph (ag : Agent) (w : DWord) (s : State) : Result :=
  .next (s.writesG ag w (aluiRow 15 1 false) (fun c =>
    BitVec.ofNat 64 ((c.greg (wA w)).toNat % 2 ^ 32 + wImm w * 2 ^ 32)))

/-! ## CMP, CMPI and PLOG (R188) -/

/-- The words of CMP, CMPI and PLOG rows: d names a predicate, so d[4:3] is 0. -/
def cmpRow (sub : Nat) : Row :=
  { op := 0x12, subs := [sub], profile := .both, cost := 1, allowed := fun w => wD w < 8 && noImm w }
def cmpiRow (sub : Nat) : Row :=
  { op := 0x13, subs := [sub], profile := .both, cost := 1, allowed := fun w => wD w < 8 && noB w }
def plogRow (sub : Nat) : Row :=
  { op := 0x14, subs := [sub], profile := .both, cost := 1,
    allowed := fun w => wD w < 8 && wA w < 8 && wB w < 8 && noImm w }

/-- CMP_EQ (R188). -/
def execCmpEq (ag : Agent) (w : DWord) (s : State) : Result :=
  .next (s.writesP ag w (cmpRow 0) (fun c => cmpEq (c.greg (wA w)) (c.greg (wB w))))

/-- CMP_NE (R188). -/
def execCmpNe (ag : Agent) (w : DWord) (s : State) : Result :=
  .next (s.writesP ag w (cmpRow 1) (fun c => cmpNe (c.greg (wA w)) (c.greg (wB w))))

/-- CMP_LTU (R188). -/
def execCmpLtu (ag : Agent) (w : DWord) (s : State) : Result :=
  .next (s.writesP ag w (cmpRow 2) (fun c => cmpLtu (c.greg (wA w)) (c.greg (wB w))))

/-- CMP_GEU (R188). -/
def execCmpGeu (ag : Agent) (w : DWord) (s : State) : Result :=
  .next (s.writesP ag w (cmpRow 3) (fun c => cmpGeu (c.greg (wA w)) (c.greg (wB w))))

/-- CMP_LT (R188). -/
def execCmpLt (ag : Agent) (w : DWord) (s : State) : Result :=
  .next (s.writesP ag w (cmpRow 4) (fun c => cmpLt (c.greg (wA w)) (c.greg (wB w))))

/-- CMP_GE (R188). -/
def execCmpGe (ag : Agent) (w : DWord) (s : State) : Result :=
  .next (s.writesP ag w (cmpRow 5) (fun c => cmpGe (c.greg (wA w)) (c.greg (wB w))))

/-- CMP_TST (R188). -/
def execCmpTst (ag : Agent) (w : DWord) (s : State) : Result :=
  .next (s.writesP ag w (cmpRow 6) (fun c => cmpTst (c.greg (wA w)) (c.greg (wB w))))

/-- CMP_NTST (R188). -/
def execCmpNtst (ag : Agent) (w : DWord) (s : State) : Result :=
  .next (s.writesP ag w (cmpRow 7) (fun c => cmpNtst (c.greg (wA w)) (c.greg (wB w))))

/-- CMPI_EQ (R188). -/
def execCmpiEq (ag : Agent) (w : DWord) (s : State) : Result :=
  .next (s.writesP ag w (cmpiRow 0) (fun c => cmpEq (c.greg (wA w)) (wSimm w)))

/-- CMPI_NE (R188). -/
def execCmpiNe (ag : Agent) (w : DWord) (s : State) : Result :=
  .next (s.writesP ag w (cmpiRow 1) (fun c => cmpNe (c.greg (wA w)) (wSimm w)))

/-- CMPI_LTU (R188). -/
def execCmpiLtu (ag : Agent) (w : DWord) (s : State) : Result :=
  .next (s.writesP ag w (cmpiRow 2) (fun c => cmpLtu (c.greg (wA w)) (wSimm w)))

/-- CMPI_GEU (R188). -/
def execCmpiGeu (ag : Agent) (w : DWord) (s : State) : Result :=
  .next (s.writesP ag w (cmpiRow 3) (fun c => cmpGeu (c.greg (wA w)) (wSimm w)))

/-- CMPI_LT (R188). -/
def execCmpiLt (ag : Agent) (w : DWord) (s : State) : Result :=
  .next (s.writesP ag w (cmpiRow 4) (fun c => cmpLt (c.greg (wA w)) (wSimm w)))

/-- CMPI_GE (R188). -/
def execCmpiGe (ag : Agent) (w : DWord) (s : State) : Result :=
  .next (s.writesP ag w (cmpiRow 5) (fun c => cmpGe (c.greg (wA w)) (wSimm w)))

/-- CMPI_TST (R188). -/
def execCmpiTst (ag : Agent) (w : DWord) (s : State) : Result :=
  .next (s.writesP ag w (cmpiRow 6) (fun c => cmpTst (c.greg (wA w)) (wSimm w)))

/-- CMPI_NTST (R188). -/
def execCmpiNtst (ag : Agent) (w : DWord) (s : State) : Result :=
  .next (s.writesP ag w (cmpiRow 7) (fun c => cmpNtst (c.greg (wA w)) (wSimm w)))

/-- PAND (R188). -/
def execPand (ag : Agent) (w : DWord) (s : State) : Result :=
  .next (s.writesP ag w (plogRow 0) (fun c =>
    let a := c.preg (wA w)
    let b := c.preg (wB w)
    a && b))

/-- POR (R188). -/
def execPor (ag : Agent) (w : DWord) (s : State) : Result :=
  .next (s.writesP ag w (plogRow 1) (fun c =>
    let a := c.preg (wA w)
    let b := c.preg (wB w)
    a || b))

/-- PXOR (R188). -/
def execPxor (ag : Agent) (w : DWord) (s : State) : Result :=
  .next (s.writesP ag w (plogRow 2) (fun c =>
    let a := c.preg (wA w)
    let b := c.preg (wB w)
    a != b))

/-- PANDN (R188). -/
def execPandn (ag : Agent) (w : DWord) (s : State) : Result :=
  .next (s.writesP ag w (plogRow 3) (fun c =>
    let a := c.preg (wA w)
    let b := c.preg (wB w)
    a && !b))

/-- P2G: g[d] = p[a] as 0 or 1; b is 0 (R188). -/
def execP2g (ag : Agent) (w : DWord) (s : State) : Result :=
  .next (s.writesG ag w
    { op := 0x14, subs := [4], profile := .both, cost := 1, allowed := fun w => wA w < 8 && noB w && noImm w }
    (fun c => if c.preg (wA w) then 1 else 0))

/-! ## BIT and BFX (R189) -/

/-- The word of a BIT row: b and imm are 0. -/
def bitRow (sub : Nat) : Row :=
  { op := 0x15, subs := [sub], profile := .both, cost := 1, allowed := fun w => noB w && noImm w }

/-- Leading zeros of 64 bits; 64 for 0. -/
def clz64 (v : DWord) : Nat := if v = 0 then 64 else 63 - v.toNat.log2

/-- Trailing zeros; 64 for 0. -/
def ctz64 (v : DWord) : Nat := ((upTo 64).find? (fun i => bitOf v i)).getD 64

/-- CLZ (R189). -/
def execClz (ag : Agent) (w : DWord) (s : State) : Result :=
  .next (s.writesG ag w (bitRow 0) (fun c => BitVec.ofNat 64 (clz64 (c.greg (wA w)))))

/-- CTZ (R189). -/
def execCtz (ag : Agent) (w : DWord) (s : State) : Result :=
  .next (s.writesG ag w (bitRow 1) (fun c => BitVec.ofNat 64 (ctz64 (c.greg (wA w)))))

/-- POPC (R189). -/
def execPopc (ag : Agent) (w : DWord) (s : State) : Result :=
  .next (s.writesG ag w (bitRow 2) (fun c => BitVec.ofNat 64 (popCount (c.greg (wA w)).toNat 64)))

/-- BSWAP of all 8 bytes (R189). -/
def execBswap (ag : Agent) (w : DWord) (s : State) : Result :=
  .next (s.writesG ag w (bitRow 3) (fun c => BitVec.ofNat 64 (beNat (leBytes (c.greg (wA w)).toNat 8))))

/-- BSWAP32 of bytes [3:0], upper half zeroed (R189). -/
def execBswap32 (ag : Agent) (w : DWord) (s : State) : Result :=
  .next (s.writesG ag w (bitRow 4) (fun c => BitVec.ofNat 64 (beNat (leBytes (c.greg (wA w)).toNat 4))))

/-- Position and width of a BFX word. -/
def bfxP (w : DWord) : Nat := fld w 13 8
def bfxW (w : DWord) : Nat := fld w 6 0

/-- The word of a BFX row: b is 0, W from 1 to 64, P + W at most 64, the other imm bits 0. -/
def bfxRow (sub : Nat) : Row :=
  { op := 0x16, subs := [sub], profile := .both, cost := 1,
    allowed := fun w => noB w && 1 ≤ bfxW w && bfxW w ≤ 64 && bfxP w + bfxW w ≤ 64 && fld w 7 7 == 0 && fld w 31 14 == 0 }

/-- Bits [P + W − 1 : P] of a register. -/
def bfxBits (w : DWord) (v : DWord) : Nat := v.toNat / 2 ^ bfxP w % 2 ^ bfxW w

/-- EXTU (R189). -/
def execExtu (ag : Agent) (w : DWord) (s : State) : Result :=
  .next (s.writesG ag w (bfxRow 0) (fun c => BitVec.ofNat 64 (bfxBits w (c.greg (wA w)))))

/-- EXTS (R189). -/
def execExts (ag : Agent) (w : DWord) (s : State) : Result :=
  .next (s.writesG ag w (bfxRow 1) (fun c => sextTo64 (bfxBits w (c.greg (wA w))) (bfxW w)))

/-- INS: the bits of g[d] replaced by the low bits of g[a] (R189). -/
def execIns (ag : Agent) (w : DWord) (s : State) : Result :=
  .next (s.writesG ag w (bfxRow 2) (fun c =>
    setFld (c.greg (wD w)) (bfxP w + bfxW w - 1) (bfxP w) (c.greg (wA w)).toNat))

/-! ## CRC (R190) -/

/-- The word of a CRC row: imm is 0. -/
def crcRow (sub : Nat) : Row := { op := 0x17, subs := [sub], profile := .both, cost := 2, allowed := noImm }

/-- CRC32C_B: one byte, g[b][7:0] (R190). -/
def execCrc32cB (ag : Agent) (w : DWord) (s : State) : Result :=
  .next (s.writesG ag w (crcRow 0) (fun c =>
    BitVec.ofNat 64 (crc32c (c.greg (wA w)).toNat (leBytes (c.greg (wB w)).toNat 1))))

/-- CRC32C_D: the 8 bytes of g[b], least significant first (R190). -/
def execCrc32cD (ag : Agent) (w : DWord) (s : State) : Result :=
  .next (s.writesG ag w (crcRow 1) (fun c =>
    BitVec.ofNat 64 (crc32c (c.greg (wA w)).toNat (leBytes (c.greg (wB w)).toNat 8))))

/-- CRC64_D: the 8 bytes of g[b], least significant first (R190). -/
def execCrc64D (ag : Agent) (w : DWord) (s : State) : Result :=
  .next (s.writesG ag w (crcRow 2) (fun c =>
    BitVec.ofNat 64 (crc64 (c.greg (wA w)).toNat (leBytes (c.greg (wB w)).toNat 8))))

/-! ## NOP (R183, R186) -/

/-- NOP_INSTRUCTION: retires without effect; every field is 0. A fetch error is TRAP_FETCH_UE (R176): the clause restarts
from its checkpoint once, and a second ends the request with CLAUSE_ABORT; the MCP takes trap 0x09 (R212). -/
def execNopInstruction (ag : Agent) (w : DWord) (fetchUe : Bool) (s : State) : Result :=
  .next (
    if fetchUe then
      match ag with
      | .strand i => match s.running i with
        | some (id, r) => s.fetchUe i id r
        | none => s
      | .mcp => if s.mcp.running && !s.mcp.halted then
          (s.dropLine.report 0x05 0x70).mcpTrap s.mcp.pc 0x09 s.mcp.pc
        else s
    else s.instruct ag w
      { op := 0x01, subs := [0], profile := .both, cost := 1, allowed := fun w => noD w && noA w && noB w && noImm w }
      (fun s => s.advance ag))

end Sys2Proof.Machine
end

