-- ==== Sys2Proof/Machine/Memory.lean ====
section
/-! DEFINITION. GETCX (R191), LD and ST (R192), and the reading and writing of tiles by a clause (R192, R246). -/

namespace Sys2Proof.Machine

open Sys2Proof

/-! ## Context registers (R141, R191) -/

/-- The value of a request's context register. -/
def Request.cx (r : Request) (k : Nat) : DWord :=
  match k with
  | 0 => if r.chip then 0 else BitVec.ofNat 64 r.qpn.toNat
  | 1 => BitVec.ofNat 64 r.rkey.toNat
  | 2 => BitVec.ofNat 64 (r.tenant % 4096)
  | 3 => BitVec.ofNat 64 (r.bthOp % 256 * 256 + r.kind % 32)
  | 4 => BitVec.ofNat 64 r.addr
  | 5 => BitVec.ofNat 64 r.len
  | 6 => BitVec.ofNat 64 r.cls.num
  | _ => r.cxTick

/-- GETCX copies the context register selected by sub into g[d] (R191). -/
def execGetcx (ag : Agent) (w : DWord) (s : State) : Result :=
  .next (s.clauseOp ag w
    { op := 0x18, subs := upTo 8, profile := .clause, cost := 1, allowed := fun w => noA w && noB w && noImm w }
    (fun s _ id r => s.goOn id { r with ctx := r.ctx.setG (wD w) (r.cx (wSub w)) }))

/-! ## LD and ST (R192) -/

/-- Bytes an LD or ST moves: sub[1:0]. -/
def moveSize (w : DWord) : Nat := 2 ^ (wSub w % 4)

/-- The value an LD writes: zero-extended, or sign-extended when sub[2] is set. -/
def loaded (w : DWord) (bs : List Byte) : DWord :=
  if bitOf w 34 then sextTo64 (leNat bs) (8 * moveSize w) else BitVec.ofNat 64 (leNat bs)

/-- The 64-bit address g[a] + imm. -/
def moveAddr (c : Ctx) (w : DWord) : Nat := (c.greg (wA w) + wSimm w).toNat

/-- The request ends with MEDIA_UE for `n` uncorrectable tile words, which are counted and reported (R246). -/
def State.tileUe (s : State) (id : Nat) (tile n : Nat) : State :=
  (((s.bumpBy Reg.INT_CNT_UE n).bumpBy Reg.STG_CNT_TILE_UE n).report 0x0F tile).endReq id Code.mediaUe

/-- A tile instruction whose words read were wrong in the given bits: corrected words are counted, and it goes on with its own
effect unless a word was uncorrectable (R246). -/
def State.readingTile (s : State) (id tile : Nat) (wrong : List (BitVec 80)) (f : State → State) : State :=
  let s := (s.bumpBy Reg.INT_CNT_CE (ceCount wrong)).bumpBy Reg.STG_CNT_TILE_CE (ceCount wrong)
  if ueCount wrong = 0 then f s else s.tileUe id tile (ueCount wrong)

/-- `n` bytes of a tile from an offset, wrapping at byte 4,095. -/
def State.tileBytes (s : State) (tile o n : Nat) : List Byte :=
  match Maps.find tile s.stg.tiles with
  | some t => (upTo n).map (fun i => t.bytes.byte ((o + i) % 4096))
  | none => []

/-- Bytes written into a tile from an offset, wrapping at byte 4,095. -/
def State.setTile (s : State) (tile o : Nat) (bs : List Byte) : State :=
  let put (t : Tile) : Tile :=
    { t with bytes := (upTo bs.length).foldl (fun m i => Mem.setByte m ((o + i) % 4096) (nthD bs i 0)) t.bytes }
  { s with stg := { s.stg with tiles := Maps.upd tile put s.stg.tiles } }

/-- A corrected, or uncorrectable, word of a flash bank read: counted and shown, an uncorrectable one with its bank and word,
with interrupt source 3 (R462). -/
def State.flashErr (s : State) (bankB : Bool) (off : Nat) (err : WordErr) : State :=
  match err with
  | .ok => s
  | .ce => ((s.bump Reg.INT_CNT_CE).bump Reg.EFL_CNT_CE).setB Reg.EFL_ECC_STATUS 30 true
  | .ue =>
    let s := ((s.bump Reg.INT_CNT_UE).bump Reg.EFL_CNT_UE).setB Reg.EFL_ECC_STATUS 31 true
    let s := (s.setB Reg.EFL_ECC_STATUS 23 bankB).setF Reg.EFL_ECC_STATUS 22 3 (off / 8)
    { s with mcp := { s.mcp with irqPend := setBit s.mcp.irqPend 3 true } }

/-- What the decoder makes of the word at `a` of a memory the MCP read: by the memory it lies in (R211, R444, R462). -/
def State.mcpErr (s : State) (a : Nat) (err : WordErr) : State :=
  if 0x1000000 ≤ a && a < 0x2000000 then s.flashErr (decide (0x1800000 ≤ a)) (a % 0x800000) err
  else match err with
    | .ok => s
    | .ce => (s.bump Reg.INT_CNT_CE).report 0x01 (if a < 0x10000 then 0x71 else 0x70)
    | .ue => (s.bump Reg.INT_CNT_UE).report 0x05 (if a < 0x10000 then 0x71 else 0x70)

/-- The 64-bit words that `n` bytes from `a` touch, by their byte addresses. -/
def wordsAt (a n : Nat) : List Nat := (upTo ((a % 8 + n + 7) / 8)).map (fun i => (a / 8 + i) * 8)

/-- The words read, each with the bits of it that were wrong: none where the list ends. -/
def readWords (a n : Nat) (wrong : List (BitVec 80)) : List (Nat × WordErr) := (wordsAt a n).zip (wrong.map wordErr)

/-- The byte address of the first uncorrectable word. -/
def badWord (ws : List (Nat × WordErr)) : Option Nat := (ws.find? (fun x => x.2 == .ue)).map Prod.fst

/-- The MCP's load from its map: an unmapped address is trap 0x0D, an uncorrectable word of SRAM or of the ROM trap 0x0C; a load
from a busy bank stalls (R211, R447, R458). -/
def State.mcpLoad (s : State) (w : DWord) (wrong : List (BitVec 80)) : State :=
  let c := s.ctxOf .mcp
  let a := moveAddr c w
  match s.mcpBytes a (moveSize w) with
  | none => s.mcpTrap s.mcp.pc 0x0D a
  | some bs =>
    if s.stalls a then s
    else
      let ws := readWords a (moveSize w) wrong
      let s := ws.foldl (fun s x => s.mcpErr x.1 x.2) s
      let s := if 0x1000000 ≤ a && a < 0x2000000 then s.readFlash (decide (0x1800000 ≤ a)) (a % 0x800000) else s
      match badWord ws with
      | some x => if x < 0x200000 then s.mcpTrap s.mcp.pc 0x0C x else (s.setCtx .mcp (c.setG (wD w) (loaded w bs))).advance .mcp
      | none => (s.setCtx .mcp (c.setG (wD w) (loaded w bs))).advance .mcp

/-- A corrected, or uncorrectable, word of a strand's pad (R444). -/
def State.padErr (s : State) (i : Fin 512) (err : WordErr) : State :=
  match err with
  | .ok => s
  | .ce => (s.bump Reg.INT_CNT_CE).report 0x01 (0x50 + i.val / 64)
  | .ue => (s.bump Reg.INT_CNT_UE).report 0x1C (0x50 + i.val / 64)

/-- LD from the pad, or from the MCP's map in the management profile (R192, R447). -/
def execLdPad (ag : Agent) (w : DWord) (wrong : List (BitVec 80)) (s : State) : Result :=
  .next (s.instruct ag w { op := 0x20, subs := upTo 8, profile := .both, cost := 2, allowed := noB } (fun s =>
    match ag with
    | .mcp => s.mcpLoad w wrong
    | .strand i => match s.running i with
      | none => s
      | some (id, r) =>
        let a := moveAddr r.ctx w
        if 8192 < a + moveSize w then s.trap i id r .pad
        else
          let s := (readWords a (moveSize w) wrong).foldl (fun s x => s.padErr i x.2) s
          if (badWord (readWords a (moveSize w) wrong)).isSome then s.endReq id Code.clauseAbort
          else s.goOn id { r with ctx := r.ctx.setG (wD w) (loaded w (r.ctx.padBytes a (moveSize w))) }))

/-- LD from the request payload (R143, R192). -/
def execLdPayload (ag : Agent) (w : DWord) (s : State) : Result :=
  .next (s.clauseOp ag w
    { op := 0x20, subs := (upTo 8).map (· + 8), profile := .clause, cost := 3, allowed := noB }
    (fun s i id r =>
      let a := moveAddr r.ctx w
      if r.payload.length < a + moveSize w then s.trap i id r .payload
      else s.goOn id { r with ctx := r.ctx.setG (wD w) (loaded w (slice r.payload a (moveSize w))) }))

/-- LD from a bound tile, named by b[2:0] (R192, R246). -/
def execLdTile (ag : Agent) (w : DWord) (wrong : List (BitVec 80)) (s : State) : Result :=
  .next (s.clauseOp ag w
    { op := 0x20, subs := (upTo 8).map (· + 16), profile := .clause, cost := 3, allowed := fun w => wB w < 8 }
    (fun s i id r =>
      match Maps.find (wB w % 8) r.ctx.t with
      | none => s.trap i id r .tile
      | some tile =>
        s.readingTile id tile wrong (fun s =>
          let bs := s.tileBytes tile (moveAddr r.ctx w) (moveSize w)
          s.goOn id { r with ctx := r.ctx.setG (wD w) (loaded w bs) })))

/-- ST to the pad, or to SRAM in the management profile; a store elsewhere in the MCP's space is trap 0x0D (R192,
R447). -/
def execStPad (ag : Agent) (w : DWord) (s : State) : Result :=
  .next (s.instruct ag w { op := 0x21, subs := upTo 4, profile := .both, cost := 1, allowed := noD } (fun s =>
    let c := s.ctxOf ag
    let a := moveAddr c w
    let bs := leBytes (c.greg (wB w)).toNat (moveSize w)
    match ag with
    | .mcp =>
      if 0x100000 ≤ a && a + moveSize w ≤ 0x200000 then
        ({ s with mcp := { s.mcp with sram := s.mcp.sram.setBytes (a - 0x100000) bs } }).advance .mcp
      else s.mcpTrap s.mcp.pc 0x0D a
    | .strand i => match s.running i with
      | none => s
      | some (id, r) =>
        if 8192 < a + moveSize w then s.trap i id r .pad
        else s.goOn id { r with ctx := r.ctx.setPad a bs }))

/-- ST to a bound tile, named by d[2:0] (R192). -/
def execStTile (ag : Agent) (w : DWord) (s : State) : Result :=
  .next (s.clauseOp ag w
    { op := 0x21, subs := (upTo 4).map (· + 16), profile := .clause, cost := 2, allowed := fun w => wD w < 8 }
    (fun s i id r =>
      match Maps.find (wD w % 8) r.ctx.t with
      | none => s.trap i id r .tile
      | some tile =>
        (s.setTile tile (moveAddr r.ctx w) (leBytes (r.ctx.greg (wB w)).toNat (moveSize w))).goOn id r))

end Sys2Proof.Machine
end

