-- ==== Sys2Proof/Machine/Tiles.lean ====
section
/-! DEFINITION. The tile instructions (R193–R195), tile states (R224–R226), and STAGE (R199). -/

namespace Sys2Proof.Machine

open Sys2Proof

/-! ## The T format (R193) -/

def tTA (w : DWord) : Nat := fld w 31 29
def tTB (w : DWord) : Nat := fld w 28 26
def tRL (w : DWord) : Bool := bitOf w 25
def tOff (w : DWord) : Nat := fld w 24 13
def tLenM1 (w : DWord) : Nat := fld w 12 1
def tMode (w : DWord) : Bool := bitOf w 0

/-- The range fields are allowed: OFF is 0 when the range comes from g[b], and b is 0 when it does not. -/
def tRangeOk (w : DWord) : Bool := if tRL w then tOff w == 0 else noB w

/-- TB is not used. -/
def noTB (w : DWord) : Bool := tTB w == 0

/-- The range [o, o + n) of a T word, clipped at byte 4,095 (R193). -/
def tRange (w : DWord) (c : Ctx) : Nat × Nat :=
  let g := c.greg (wB w)
  let o := if tRL w then fld g 27 16 else tOff w
  let n := if tRL w then Nat.min (fld g 12 0) (tLenM1 w + 1) else tLenM1 w + 1
  (o, Nat.min n (4096 - o))

/-- What TCMP and TSCAN answer when nothing is found (R194). -/
def notFound : DWord := BitVec.allOnes 64

/-! ## Residence and states (R224–R226) -/

/-- Stage `k` is resident: not retired, not failed, and every tile of it filled. -/
def Pour.resident (p : Pour) (k : Nat) : Bool :=
  match p.stages[k]? with
  | some st => decide (p.cursor ≤ k) && st.failed.isNone && st.tiles.all (fun t => t.tile.isSome)
  | none => false

/-- A filled tile of the request is Held while its stage is at the cursor or a handle binds it, else Ready (R226). -/
def State.refreshTiles (s : State) (id : Nat) (cursor : Nat) (bound : List Nat) : State :=
  let f (k : Nat) (t : Tile) : Tile :=
    if t.req = id && !t.orphan && !t.freeing && t.state != .filling then
      { t with state := if t.stage = cursor || bound.contains k then .held else .ready }
    else t
  { s with stg := { s.stg with tiles := Maps.mapV f s.stg.tiles } }

/-- The request goes on with new bindings: its tiles' states follow (R226). -/
def State.rebind (s : State) (id : Nat) (r : Request) : State :=
  match r.pour with
  | some p => s.refreshTiles id p.cursor (r.ctx.t.map Prod.snd)
  | none => s

/-- The cursor moved to stage `k`: stages below it are retired, their handles unbound, and their tiles freed at the next
tick boundary (R225). -/
def State.moveCursor (s : State) (id : Nat) (r : Request) (k : Nat) : Request × State :=
  match r.pour with
  | none => (r, s)
  | some p =>
    if k ≤ p.cursor then (r, s)
    else
      let old (t : Tile) : Bool := t.req == id && decide (t.stage < k) && !t.orphan && !t.freeing
      let gone := (s.stg.tiles.filter (fun e => old e.2)).map Prod.fst
      let f (_ : Nat) (t : Tile) : Tile := if old t then { t with freeing := true } else t
      let stages := (upTo p.stages.length).map (fun i =>
        let st := nthD p.stages i { tiles := [] }
        if i < k then { st with tiles := st.tiles.map (fun x => { x with tile := none }) } else st)
      let r := { r with
        pour := some { p with stages, cursor := k }
        ctx := { r.ctx with t := r.ctx.t.filter (fun e => !gone.contains e.2) } }
      let s := { s with stg := { s.stg with tiles := Maps.mapV f s.stg.tiles } }
      (r, s.rebind id r)

/-! ## Instructions -/

/-- A tile instruction: its handles must be bound (R195), it takes a turn more per 1,024 B of its range, TST per 512 B (R186), then
`body` gets tile TA and tile TB. -/
def State.tileOp (s : State) (ag : Agent) (w : DWord) (row : Row) (usesTB : Bool)
    (body : State → Fin 512 → Nat → Request → Nat → Nat → State) : State :=
  let turns (c : Ctx) : Nat := ceilDiv (tRange w c).2 (if row.op = 0x31 then 512 else 1024)
  s.clauseOp ag w row (fun s i id r =>
    match Maps.find (tTA w) r.ctx.t, (if usesTB then Maps.find (tTB w) r.ctx.t else some 0) with
    | some ta, some tb => body (s.spend ag (turns r.ctx)) i id r ta tb
    | _, _ => s.trap i id r .tile)

/-- The word of a T row without MODE variants. -/
def tRow (op : Nat) (allowed : DWord → Bool) : Row :=
  { op, subs := [0], profile := .clause, cost := if op = 0x31 then 6 else 1, allowed := fun w => tRangeOk w && !tMode w && allowed w }

/-- The word of a T row with a MODE of its own. -/
def tModeRow (op : Nat) (mode : Bool) (allowed : DWord → Bool) : Row :=
  { op, subs := [0], profile := .clause, cost := 1, allowed := fun w => tRangeOk w && allowed w, mode := some mode }

/-- TLD binds t[TA] to tile TB of stage g[a] of the schedule (R194, R195, R226). -/
def execTld (ag : Agent) (w : DWord) (s : State) : Result :=
  .next (s.clauseOp ag w
    { op := 0x30, subs := [0], profile := .clause, cost := 1
      allowed := fun w => noD w && noB w && !tRL w && tOff w == 0 && tLenM1 w == 0 && !tMode w }
    (fun s i id r =>
      let k := (r.ctx.greg (wA w)).toNat
      let tile := match r.pour with
        | some p => if p.resident k then
            (match p.stages[k]? with
             | some st => match st.tiles[tTB w]? with
               | some x => x.tile
               | none => none
             | none => none) else none
        | none => none
      match tile with
      | none => s.trap i id r .tile
      | some t =>
        let r := { r with ctx := { r.ctx with t := Maps.put (tTA w) t r.ctx.t } }
        (s.rebind id r).goOn id r))

/-- The lines a write of `n` bytes at window offset `off` counts against the limit of 256 (R197, R152, log 32). -/
def State.linesAt (s : State) (r : Request) (off n : Nat) : Nat := (linesOf ((s.window r.win).pnaBase + off) n).length

/-- Lines already counted in the clause. -/
def State.linesUsed (s : State) (r : Request) : Nat :=
  (r.eff.writes.map (fun x => s.linesAt r x.off x.bytes.length)).foldl (· + ·) 0

/-- A buffered window write of a clause (R152, R156, R185, R197): the traps in their order, or the request with the
write. -/
def State.bufferWrite (s : State) (i : Fin 512) (id : Nat) (r : Request) (off n : Nat) (bytes : List Byte)
    (tooLong : Bool) : State :=
  match s.accessTrap r off n 1 with
  | some t => s.trap i id r t
  | none =>
    if tooLong || 256 < s.linesUsed r + s.linesAt r off n then s.trap i id r .effect
    else if n = 0 then s.goOn id r
    else s.goOn id { r with eff := { r.eff with writes := r.eff.writes ++ [{ off, bytes }] } }

/-- TST buffers a window write of t[TA]'s range (R194, R197). -/
def execTst (ag : Agent) (w : DWord) (wrong : List (BitVec 80)) (s : State) : Result :=
  .next (s.tileOp ag w (tRow 0x31 (fun w => noD w && noTB w)) false (fun s i id r ta _ =>
    let (o, n) := tRange w r.ctx
    s.readingTile id ta (if n = 0 then [] else wrong) (fun s =>
      s.bufferWrite i id r (r.ctx.greg (wA w)).toNat n (s.tileBytes ta o n) false)))

/-- TCOPY of one tile range to another (R194). -/
def execTcopy (ag : Agent) (w : DWord) (wrong : List (BitVec 80)) (s : State) : Result :=
  .next (s.tileOp ag w (tModeRow 0x32 false (fun w => noD w && noA w)) true (fun s _ id r ta tb =>
    let (o, n) := tRange w r.ctx
    s.readingTile id tb (if n = 0 then [] else wrong) (fun s => (s.setTile ta o (s.tileBytes tb o n)).goOn id r)))

/-- TCOPY of payload bytes at offset g[a] into a tile range (R194). -/
def execTcopyPayload (ag : Agent) (w : DWord) (s : State) : Result :=
  .next (s.tileOp ag w (tModeRow 0x32 true (fun w => noD w && noTB w)) false (fun s i id r ta _ =>
    let (o, n) := tRange w r.ctx
    let p := (r.ctx.greg (wA w)).toNat
    if n ≠ 0 && r.payload.length < p + n then s.trap i id r .payload
    else (s.setTile ta o (slice r.payload p n)).goOn id r))

/-- TFILL: byte i of the range is byte (i mod 8) of g[a] (R194). -/
def execTfill (ag : Agent) (w : DWord) (s : State) : Result :=
  .next (s.tileOp ag w (tRow 0x33 (fun w => noD w && noTB w)) false (fun s _ id r ta _ =>
    let (o, n) := tRange w r.ctx
    let pat := leBytes (r.ctx.greg (wA w)).toNat 8
    (s.setTile ta o ((upTo n).map (fun i => nthD pat ((o + i) % 8) 0))).goOn id r))

/-- TXOR of one tile range into another (R194). -/
def execTxor (ag : Agent) (w : DWord) (wrong : List (BitVec 80)) (s : State) : Result :=
  .next (s.tileOp ag w (tRow 0x34 (fun w => noD w && noA w)) true (fun s _ id r ta tb =>
    let (o, n) := tRange w r.ctx
    s.readingTile id ta (if n = 0 then [] else wrong) (fun s =>
      (s.setTile ta o ((s.tileBytes ta o n).zipWith (· ^^^ ·) (s.tileBytes tb o n))).goOn id r)))

/-- A tile instruction that computes g[d] from t[TA]'s range: `f` gets the registers, o and the bytes. -/
def State.tileResult (s : State) (ag : Agent) (w : DWord) (row : Row) (wrong : List (BitVec 80))
    (f : Ctx → Nat → List Byte → DWord) : State :=
  s.tileOp ag w row false (fun s _ id r ta _ =>
    let (o, n) := tRange w r.ctx
    s.readingTile id ta (if n = 0 then [] else wrong) (fun s =>
      s.goOn id { r with ctx := r.ctx.setG (wD w) (f r.ctx o (s.tileBytes ta o n)) }))

/-- TCRC of the range from g[a]; an empty range leaves g[a] (R190, R193, R194). -/
def tcrc (crc : Nat → List Byte → Nat) (w : DWord) (c : Ctx) (_o : Nat) (bs : List Byte) : DWord :=
  if bs.isEmpty then c.greg (wA w) else BitVec.ofNat 64 (crc (c.greg (wA w)).toNat bs)

/-- TCRC with CRC-32C (R194). -/
def execTcrcCrc32c (ag : Agent) (w : DWord) (wrong : List (BitVec 80)) (s : State) : Result :=
  .next (s.tileResult ag w (tModeRow 0x35 false noTB) wrong (tcrc crc32c w))

/-- TCRC with CRC-64 (R194). -/
def execTcrcCrc64 (ag : Agent) (w : DWord) (wrong : List (BitVec 80)) (s : State) : Result :=
  .next (s.tileResult ag w (tModeRow 0x35 true noTB) wrong (tcrc crc64 w))

/-- TCMP: the first offset at which the two ranges differ (R194). -/
def execTcmp (ag : Agent) (w : DWord) (wrong : List (BitVec 80)) (s : State) : Result :=
  .next (s.tileOp ag w (tRow 0x36 noA) true (fun s _ id r ta tb =>
    let (o, n) := tRange w r.ctx
    s.readingTile id ta (if n = 0 then [] else wrong) (fun s =>
      let x := s.tileBytes ta o n
      let y := s.tileBytes tb o n
      let v := match (upTo n).find? (fun i => nthD x i 0 != nthD y i 0) with
        | some i => BitVec.ofNat 64 (o + i)
        | none => notFound
      s.goOn id { r with ctx := r.ctx.setG (wD w) v })))

/-- The whole 8-byte words of a range at multiples of 8: offset and value. -/
def words8 (o : Nat) (bs : List Byte) : List (Nat × DWord) :=
  ((upTo (bs.length + 1)).filter (fun i => (o + i) % 8 == 0 && decide (i + 8 ≤ bs.length))).map
    (fun i => (o + i, BitVec.ofNat 64 (leNat (slice bs i 8))))

/-- TSCAN: the first word of the range that satisfies `p` against g[a] (R194). -/
def tscan (p : DWord → DWord → Bool) (w : DWord) (c : Ctx) (o : Nat) (bs : List Byte) : DWord :=
  match (words8 o bs).find? (fun e => p e.2 (c.greg (wA w))) with
  | some e => BitVec.ofNat 64 e.1
  | none => notFound

/-- TSCAN for a word equal to g[a] (R194). -/
def execTscanEq (ag : Agent) (w : DWord) (wrong : List (BitVec 80)) (s : State) : Result :=
  .next (s.tileResult ag w (tModeRow 0x37 false noTB) wrong (tscan (· == ·) w))

/-- TSCAN for a word that differs from g[a] (R194). -/
def execTscanNe (ag : Agent) (w : DWord) (wrong : List (BitVec 80)) (s : State) : Result :=
  .next (s.tileResult ag w (tModeRow 0x37 true noTB) wrong (tscan (· != ·) w))

/-- TSUM: g[a] and every whole word of the range put together (R194). -/
def tsum (f : DWord → DWord → DWord) (w : DWord) (c : Ctx) (o : Nat) (bs : List Byte) : DWord :=
  ((words8 o bs).map Prod.snd).foldl f (c.greg (wA w))

/-- TSUM by addition (R194). -/
def execTsumAdd (ag : Agent) (w : DWord) (wrong : List (BitVec 80)) (s : State) : Result :=
  .next (s.tileResult ag w (tModeRow 0x38 false noTB) wrong (tsum (· + ·) w))

/-- TSUM by XOR (R194). -/
def execTsumXor (ag : Agent) (w : DWord) (wrong : List (BitVec 80)) (s : State) : Result :=
  .next (s.tileResult ag w (tModeRow 0x38 true noTB) wrong (tsum (· ^^^ ·) w))

/-! ## STAGE (R199, R237) -/

/-- A field of the descriptor, little-endian. -/
def dField (c : Ctx) (base o n : Nat) : Nat := leNat (c.padBytes (base + o) n)

/-- Bytes 0 to 15 of the descriptor are in range. -/
def headOk (c : Ctx) (base : Nat) : Bool :=
  let form := dField c base 0 1
  let count := dField c base 1 1
  let source := dField c base 2 1
  let tiles := dField c base 4 4
  let off := dField c base 8 8
  dField c base 3 1 == 0 &&
  (if form = 0 then 1 ≤ count && count ≤ 16 && source == 0 && tiles == 0 && off == 0
   else form == 1 && count == 0 && source ≤ 1 && 1 ≤ tiles && tiles ≤ 128 && off % 4096 == 0)

/-- List entry `k` is in range. -/
def entryOk (c : Ctx) (base k : Nat) : Bool :=
  let b := base + 16 + 16 * k
  let tiles := dField c b 8 1
  dField c b 0 8 % 4096 == 0 && 1 ≤ tiles && tiles ≤ 8 && dField c b 9 1 ≤ 1 && dField c b 10 6 == 0

/-- The stages a descriptor declares. -/
def stagesOf (c : Ctx) (base : Nat) : List StageRec :=
  let src (off : Nat) (zero : Bool) (k : Nat) : TileSrc := { off := off + 4096 * k, zero }
  if dField c base 0 1 = 0 then
    (upTo (dField c base 1 1)).map (fun k =>
      let b := base + 16 + 16 * k
      ({ tiles := (upTo (dField c b 8 1)).map (src (dField c b 0 8) (dField c b 9 1 == 1)) } : StageRec))
  else
    let n := dField c base 4 4
    let off := dField c base 8 8
    let zero := dField c base 2 1 == 1
    (upTo (ceilDiv n 8)).map (fun k =>
      ({ tiles := (upTo (Nat.min 8 (n - 8 * k))).map (fun j => src off zero (8 * k + j)) } : StageRec))

/-- The first trap the descriptor of STAGE meets, in R199's order. -/
def State.stageTrap (s : State) (r : Request) (base : Nat) : Option Trap :=
  let c := r.ctx
  let list := dField c base 0 1 == 0
  let count := dField c base 1 1
  if 8191 < base + 15 then some .pad
  else if !headOk c base then some .illegal
  else if list && 8192 < base + 16 + 16 * count then some .pad
  else if list && !(upTo count).all (entryOk c base) then some .illegal
  else
    let window := (stagesOf c base).flatMap (fun st => st.tiles.filter (fun t => !t.zero))
    if window.any (fun t => (s.window r.win).length ≤ t.off) then some .window
    else if !window.isEmpty && !bitOf r.rights 0 then some .rights
    else none

/-- The request as a STAGE replaces its schedule: of the checkpoint's it stays noted which tiles have been filled (R233). -/
def Request.restage (r : Request) (pour : Pour) : Request :=
  let ckptPour := if r.stagings = 0 then r.ckptPour.map (fun p => p.emptied r.pour) else r.ckptPour
  { r with ckptPour, stagings := r.stagings + 1, ctx := { r.ctx with t := [] }, pour := some pour }

/-- STAGE declares the request's pour schedule, its cursor at 0; an earlier schedule goes, with its bindings (R199, R225,
R247). A stage with more tiles than the tenant's quota fails at once (R237). -/
def execStage (ag : Agent) (w : DWord) (s : State) : Result :=
  .next (s.clauseOp ag w
    { op := 0x43, subs := [0], profile := .clause, cost := 4, allowed := fun w => noD w && noB w && wImm w ≤ 8191 }
    (fun s i id r =>
      let base := moveAddr r.ctx w
      match s.stageTrap r base with
      | some t => s.trap i id r t
      | none =>
        let quota := match Maps.find r.tenant s.win.tenants with | some t => t.tileQuota | none => 0
        let stages := (stagesOf r.ctx base).map (fun st =>
          if quota < st.tiles.length then { st with failed := some Code.stageFail } else st)
        let s := (s.dropTiles id).bumpBy Reg.STG_CNT_QUOTA (stages.countP (fun st => st.failed.isSome))
        s.goOn id (r.restage { stages })))

end Sys2Proof.Machine
end

