-- ==== Sys2Proof/Machine/Link.lean ====
section
/-! DEFINITION. Frames of the twin link (R393, R394, R399), and the outcome entry of a MATOM (R367–R369). -/

namespace Sys2Proof.Machine

open Sys2Proof

/-- A bundle of the twin link: TWL0, or TWL1. -/
def State.bundle (s : State) (one : Bool) : BundleRec := if one then s.twn.bundle1 else s.twn.bundle0

/-- A bundle replaced. -/
def State.setBundle (s : State) (one : Bool) (b : BundleRec) : State :=
  { s with twn := if one then { s.twn with bundle1 := b } else { s.twn with bundle0 := b } }

/-- The lines that a frame carries. -/
def TwinFrame.lines : TwinFrame → List Nat
  | .mirror ls _ _ _ => ls.map Prod.fst
  | .copyLine l _ _ _ => [l]
  | .intent _ x => x.lines.map Prod.fst
  | .repairReply l (some _) _ => [l]
  | _ => []

/-- Lines with their tenants as runs of consecutive lines of one tenant, at most 64 in a run: first line, tenant, lines (R398). -/
def runsOf : List (Nat × Nat) → List (Nat × Nat × Nat)
  | [] => []
  | (l, t) :: rest =>
    match runsOf rest with
    | (l2, t2, n) :: rs => if l2 = l + 1 ∧ t2 = t ∧ n < 64 then (l, t, n + 1) :: rs else (l, t, 1) :: (l2, t2, n) :: rs
    | [] => [(l, t, 1)]

/-- The descriptor of a run (R398). -/
def runWord (line tenant n : Nat) : DWord := BitVec.ofNat 64 (line % 2 ^ 42 * 2 ^ 22 + tenant % 4096 * 2 ^ 10 + (n - 1) % 64 * 2 ^ 4)

/-- Bytes of a MIRROR frame of these lines: header, CRC, a descriptor for each run, the lines (R393, R398). -/
def mirrorLen (ls : List (Nat × Nat)) : Nat := 24 + 8 * (runsOf ls).length + 64 * ls.length

/-- The descriptors of a MIRROR frame in their order (R398). -/
def TwinFrame.descriptors : TwinFrame → List DWord
  | .mirror ls _ _ _ => (runsOf (ls.map (fun l => (l.1, l.2.1)))).map (fun r => runWord r.1 r.2.1 r.2.2)
  | _ => []

/-- LEN of a frame of lines, or the least a frame has (R393); what else a frame holds is not laid out (log 117). -/
def TwinFrame.len : TwinFrame → Nat
  | .mirror ls _ _ _ => mirrorLen (ls.map (fun l => (l.1, l.2.1)))
  | f => 24 + 72 * f.lines.length

/-- Entries of a bundle's slot table that a frame takes, at 512 B in 16 CCLK (R43). -/
def TwinFrame.slots (f : TwinFrame) : Nat := ceilDiv f.len 512

/-- The waiting frames that may go now: a line's values keep their order (R399), a frame without lines waits for all ahead of it, and
what went unacknowledged on the other bundle goes first (R394). -/
def readyFrames : List TwWork → List Nat → Bool → List TwWork
  | [], _, _ => []
  | w :: ws, seen, head =>
    let ls := w.frame.lines
    let ok := if ls.isEmpty then head else !ls.any seen.contains
    if w.first then (if head then [w] else [])
    else if ok then w :: readyFrames ws (ls ++ seen) false
    else readyFrames ws (ls ++ seen) false

/-- The slot table of a bundle (R43). -/
def bundleTable (one : Bool) : Nat := if one then 79 else 78

/-- The name of a frame, by its bundle and SEQ; 0 names none (R393). -/
def frameName (one : Bool) (seq : Nat) : Nat := 2 * seq + (if one then 2 else 1)

/-- A MIRROR frame awaits the twin's confirmation of its lines under its bundle and SEQ (R401). -/
def State.noteSent (s : State) (one : Bool) (seq : Nat) : TwinFrame → State
  | .mirror ls ev _ _ =>
    { s with twn := { s.twn with sentFrames := Maps.put (frameName one seq) ((ls.map Prod.fst).zip ev) s.twn.sentFrames } }
  | _ => s

/-- One waiting frame sent under the bundle's next SEQ, while fewer than 256 are unacknowledged and a slot of this tick is left (R43–R46,
R393). -/
def State.pumpTwinOne (s : State) (one : Bool) : State :=
  let b := s.bundle one
  if !b.up || s.sqr.serdesIdle || 256 ≤ b.unacked.length then s
  else
    match s.grant (bundleTable one) (readyFrames b.held [] true) (·.cls) (·.frame.slots) with
    | none => s
    | some (e, w) =>
      let sent : SentRec := { seq := b.txSeq, replays := 0, frame := w.frame, cls := w.cls, tenant := w.tenant }
      let s := s.setBundle one { b with txSeq := b.txSeq + 1, unacked := b.unacked ++ [sent], held := b.held.erase w }
      (s.takeSlots (bundleTable one) e w.frame.slots w.cls w.tenant).noteSent one b.txSeq w.frame

/-- Waiting frames sent as long as the replay buffer and the tick have room. -/
def State.pumpTwin (s : State) (one : Bool) : State := (s.bundle one).held.foldl (fun s _ => s.pumpTwinOne one) s

/-- A frame sent on a bundle for work of a class and tenant, and kept until it is acknowledged (R41, R393). -/
def State.sendFor (s : State) (one : Bool) (cls : Cls) (tenant : Nat) (f : TwinFrame) : State :=
  let b := s.bundle one
  (s.setBundle one { b with held := b.held ++ [{ frame := f, cls, tenant }] }).pumpTwinOne one

/-- A frame of the chip's own work sent on a bundle (R40). -/
def State.sendFrame (s : State) (one : Bool) (f : TwinFrame) : State := s.sendFor one .grounds 0 f

/-- The bundle a frame goes out on: the wanted one, or the one bundle that is up (R394, R399). -/
def State.pickBundle (s : State) (want : Bool) : Bool :=
  if (s.bundle want).up then want else if (s.bundle (!want)).up then !want else want

/-- A frame shipped to the twin; a unit in SOLO mode ships nothing (R378). A frame that the manual gives no bundle goes
out on TWL0 while that is up (log 31). -/
def State.ship (s : State) (cls : Cls) (tenant : Nat) (f : TwinFrame) : State :=
  if s.dur.solo || s.twn.yieldedAt.isSome then s else s.sendFor (s.pickBundle false) cls tenant f

/-- A link frame of a state message, which is sent whether or not the unit mirrors: pair frames and heartbeats. -/
def State.tell (s : State) (f : TwinFrame) : State :=
  if s.twn.yieldedAt.isSome then s else s.sendFrame (s.pickBundle false) f

/-- KIND of the outcome entries of a request (R367). -/
def outcomeKind (r : Request) : Nat := if r.kind = 2 then 0 else if r.kind = 3 then 1 else if r.kind = 4 then 2 else 3

/-- The ASEQ of a plain atomic is given when it is performed (R366). -/
def State.giveAseq (s : State) (id : Nat) : State :=
  match Maps.find id s.cle.reqs with
  | none => s
  | some r =>
    if 8 ≤ r.kind || r.aseq ≠ 0 then s
    else match s.qp r.qpn with
      | none => s
      | some c =>
        let n := (c.aseq + 1) % 2 ^ 32
        (s.setQp r.qpn { c with aseq := n }).setReq id { r with aseq := n }

/-- The outcome entry of a performed MATOM: kept until confirmed, shipped to the twin, or written locally in SOLO mode
(R367, R369). -/
def State.logOutcome (s : State) (r : Request) (m : MAtom) (orig : List DWord) : State :=
  let c := (s.qp r.qpn).getD {}
  let w := s.window r.win
  let kind := outcomeKind r
  let o : Outcome := {
    bond := c.bond, sideB := s.getB Reg.TWN_STATUS 28, kind, seq := if kind = 3 then r.tag.toNat else r.aseq, rkey := r.rkey
    pos := if kind = 3 then m.pos else 0, va := if kind = 3 then m.off else w.vaBase + m.off, ops := m.ops.take 2, orig
    epoch := s.dur.epoch, qpn := r.qpn, cls := r.cls, tenant := r.tenant }
  let s := { s with dur := { s.dur with outcomes := s.dur.outcomes ++ [o] } }
  if s.dur.solo then s.issueFor s.metaStack r.cls r.tenant (.outcome true o.key) else s.ship r.cls r.tenant (.outcome o)

end Sys2Proof.Machine
end

