-- ==== Sys2Proof/Machine/Window.lean ====
section
/-! DEFINITION. The window and media instructions (R196–R198, R200), the return of MREAD data (R196) and the acceptance
of MATOMs (R155). -/

namespace Sys2Proof.Machine

open Sys2Proof

/-- The word of an X row: `sub`, its cost, and which words are allowed. -/
def xRow (op sub cost : Nat) (allowed : DWord → Bool) : Row := { op, subs := [sub], profile := .clause, cost, allowed }

/-! ## MREAD (R196) -/

/-- An MREAD issued: data that the clause's earlier run has already delivered is served from what was kept (R178), an
empty one delivers at once, and any other reads its lines, at most the first 16 KiB of a response. -/
def State.mread (s : State) (id : Nat) (r : Request) (off len : Nat) (dst : Option Nat) : State :=
  let now := if dst.isNone then Nat.min len (16384 - r.pathLength) else len
  match r.kept.find? (fun m => m.off == off && m.len == len && m.now == now && m.dst.isNone == dst.isNone) with
  | some m => s.goOn id { r with mreads := r.mreads ++ [{ m with dst, applied := false }] }
  | none =>
    let s := s.goOn id { r with mreads := r.mreads ++ [{ off, len, dst, now, done := now == 0 }] }
    s.readRange ((s.window r.win).pnaBase + off) now (some id)

/-- MREAD to the response path: a READ's only, of at most its DMA length in all (R196). -/
def execMreadResponse (ag : Agent) (w : DWord) (s : State) : Result :=
  .next (s.clauseOp ag w (xRow 0x40 0 1 (fun w => noD w && noImm w)) (fun s i id r =>
    let off := (r.ctx.greg (wA w)).toNat
    let len := (r.ctx.greg (wB w)).toNat
    if r.kind ≠ 0 then s.trap i id r .illegal
    else match s.accessTrap r off len 0 with
      | some t => s.trap i id r t
      | none => if r.len < r.pathLength + len then s.trap i id r .effect else s.mread id r off len none))

/-- MREAD to the pad at g[d] (R196). -/
def execMreadPad (ag : Agent) (w : DWord) (s : State) : Result :=
  .next (s.clauseOp ag w (xRow 0x40 1 1 noImm) (fun s i id r =>
    let off := (r.ctx.greg (wA w)).toNat
    let len := (r.ctx.greg (wB w)).toNat
    let dst := (r.ctx.greg (wD w)).toNat
    if 8192 < dst + len then s.trap i id r .pad
    else match s.accessTrap r off len 0 with
      | some t => s.trap i id r t
      | none => s.mread id r off len (some dst)))

/-- The last of a long response is out: a request that has ended leaves, one whose later clause still runs goes on (R144, R196). -/
def State.restDone (s : State) (id : Nat) (r : Request) : State :=
  if r.st = .held then s.dropReq id else s.setReq id { r with rest := none }

/-- A line of the next 16 KiB of a long READ response is still to come (R196). -/
def State.restPending (s : State) (id : Nat) (r : Request) (x : RestRec) : Bool :=
  (takeParts 16384 x.parts).any (fun p => s.readsPending id ((s.window r.win).pnaBase + p.1) p.2)

/-- The next 16 KiB of a long READ response after its COMMIT: read and sent, or stopped by a NAK with the next response
PSN (R196). -/
def State.longRead (s : State) (id : Nat) (r : Request) (x : RestRec) : State :=
  let next := takeParts 16384 x.parts
  if s.restPending id r x then s
  else match x.fail with
    | some code => s.stopRest id r x code
    | none =>
      let mtu := match s.qp r.qpn with | some c => mtuBytes c.pmtu | none => 4096
      let s := s.respond r (x.psn - r.psn).toNat (Nat.max 1 (ceilDiv r.len mtu)) (s.partBytes r next)
      let parts := dropParts 16384 x.parts
      if parts.isEmpty then (s.messageEnds r).restDone id r
      else
        let s := s.setReq id { r with rest := some { parts, psn := x.psn + BitVec.ofNat 24 (16384 / mtu) } }
        s.readParts r (takeParts 16384 parts) (some id)

/-- The lines of MREAD `index` of a request have all come: its data is what is Accepted now (R196, R363). -/
def State.mreadDone (s : State) (id : Nat) (r : Request) (index : Nat) : State :=
  match r.mreads[index]? with
  | none => s
  | some m =>
    let a := (s.window r.win).pnaBase + m.off
    if m.done || r.readFail.isSome || s.readsPending id a m.now then s
    else s.setReq id { r with mreads := r.mreads.set index { m with done := true, data := s.readBytes a m.now } }

/-- MREAD_DATA_RETURN: the lines of MREAD `index` of a request have all come, or those of the next part of its long response (R196). -/
def execMreadDataReturn (req index : Nat) (s : State) : Result :=
  .next (match Maps.find req s.cle.reqs with
    | none => s
    | some r =>
      match r.rest.bind (fun x => if s.restPending req r x then none else some x) with
      | some x => s.longRead req r x
      | none => s.mreadDone req r index)

/-! ## MWRITE (R197) -/

/-- NMAX of an MWRITE word. -/
def mwMax (w : DWord) : Nat := fld w 14 0 + 1

/-- An MWRITE word's row: NMAX at most 16,384, and a turn per 512 B of it (R186, R197). -/
def mwriteRow (sub : Nat) (w : DWord) : Row := xRow 0x41 sub (6 + ceilDiv (mwMax w) 512) (fun w => fld w 31 15 == 0 && mwMax w ≤ 16384)

/-- MWRITE from the pad (R197). -/
def execMwritePad (ag : Agent) (w : DWord) (s : State) : Result :=
  .next (s.clauseOp ag w (mwriteRow 0 w) (fun s i id r =>
    let n := (r.ctx.greg (wB w)).toNat
    let src := (r.ctx.greg (wD w)).toNat
    if n ≠ 0 && 8192 < src + n then s.trap i id r .pad
    else s.bufferWrite i id r (r.ctx.greg (wA w)).toNat n
      (if mwMax w < n then [] else r.ctx.padBytes src n) (mwMax w < n)))

/-- MWRITE from the payload (R197). -/
def execMwritePayload (ag : Agent) (w : DWord) (s : State) : Result :=
  .next (s.clauseOp ag w (mwriteRow 1 w) (fun s i id r =>
    let n := (r.ctx.greg (wB w)).toNat
    let src := (r.ctx.greg (wD w)).toNat
    if n ≠ 0 && r.payload.length < src + n then s.trap i id r .payload
    else s.bufferWrite i id r (r.ctx.greg (wA w)).toNat n (slice r.payload src n) (mwMax w < n)))

/-! ## MATOM (R155, R198) -/

/-- The bytes a MATOM acts on. -/
def matomSize (sub : Nat) : Nat := if sub = 4 then 16 else 8

/-- The new bytes of a MATOM from its old ones (R198). -/
def matomNew (sub : Nat) (ops : List DWord) (old : List Byte) : List Byte :=
  let o := leNat (old.take 8)
  let x := nthD ops 0 0
  let y := nthD ops 1 0
  match sub with
  | 0 => if o = x.toNat then leBytes y.toNat 8 else old
  | 1 => leBytes (o + x.toNat) 8
  | 2 => leBytes x.toNat 8
  | 3 => leBytes ((BitVec.ofNat 64 o &&& ~~~y) ||| (x &&& y)).toNat 8
  | 4 =>
    if o = x.toNat && leNat (old.drop 8) = y.toNat then
      leBytes (nthD ops 2 0).toNat 8 ++ leBytes (nthD ops 3 0).toNat 8
    else old
  | _ => leBytes x.toNat 8

/-- The operand registers of a MATOM: how many from g[b] on. -/
def matomOps (sub : Nat) : Nat := if sub = 0 || sub = 3 then 2 else if sub = 4 then 4 else 1

/-- The word of a MATOM row: its register runs end by g31 (R184), imm is 0. -/
def matomRow (sub : Nat) : Row :=
  xRow 0x42 sub 4 (fun w => noImm w && wB w + matomOps sub ≤ 32 && (sub != 4 || wD w ≤ 30))

/-- A MATOM issued: the strand goes on; a logged one, or one that the twin's outcome table already holds, is not performed
again (R155, R373); any other reads its line. -/
def State.matom (s : State) (ag : Agent) (w : DWord) (sub : Nat) : State :=
  s.clauseOp ag w (matomRow sub) (fun s i id r =>
    let size := matomSize sub
    let off := (r.ctx.greg (wA w)).toNat / size * size
    match s.accessTrap r off size 2 with
    | some t => s.trap i id r t
    | none =>
      let pos := r.matoms.length
      let ops := (upTo (matomOps sub)).map (fun k => r.ctx.greg (wB w + k))
      let (seq, s) := s.nextOrder
      let a := (s.window r.win).pnaBase + off
      let far := s.inNand (pageOf a)
      let m : MAtom := { sub, off, ops, d := wD w, pos, seq, pna := a, read := !far }
      match r.logged.find? (fun x => x.pos == pos), Maps.find pos r.repeated with
      | some x, _ =>
        s.goOn id { r with matoms := r.matoms ++ [{ x with d := wD w, applied := false }]
                           logged := r.logged.filter (fun x => x.pos != pos) }
      | none, some orig =>
        (s.bump Reg.DUR_CNT_REPEAT).goOn id { r with matoms := r.matoms ++ [{ m with accepted := true, orig }] }
      | none, none =>
        let s := s.goOn id { r with matoms := r.matoms ++ [m] }
        if far && !(linesOf a size).any (fun l => Maps.has s.med.poison l) then
          { s with med := { s.med with promoteWant :=
              if s.med.promoteWant.contains (pageOf a) then s.med.promoteWant else s.med.promoteWant ++ [pageOf a] } }
        else s.readRange a size (some id))

/-- CAS8 (R198). -/
def execCas8 (ag : Agent) (w : DWord) (s : State) : Result := .next (s.matom ag w 0)

/-- FADD8 (R198). -/
def execFadd8 (ag : Agent) (w : DWord) (s : State) : Result := .next (s.matom ag w 1)

/-- SWAP8 (R198). -/
def execSwap8 (ag : Agent) (w : DWord) (s : State) : Result := .next (s.matom ag w 2)

/-- MASK8 (R198). -/
def execMask8 (ag : Agent) (w : DWord) (s : State) : Result := .next (s.matom ag w 3)

/-- CAS16 (R198). -/
def execCas16 (ag : Agent) (w : DWord) (s : State) : Result := .next (s.matom ag w 4)

/-- WRITE8 (R198). -/
def execWrite8 (ag : Agent) (w : DWord) (s : State) : Result := .next (s.matom ag w 5)

/-- An earlier MATOM on the same line still waits (R155). -/
def State.matomBehind (s : State) (line seq : Nat) : Bool :=
  s.cle.reqs.any (fun e => (e.2.matoms ++ e.2.logged).any (fun m =>
    m.due && m.seq < seq && lineOf m.pna == line))

/-- A MATOM performed: the old bytes read, the new line Accepted, the outcome logged (R155, R198, R366, R367). -/
def State.perform (s : State) (id : Nat) (r : Request) (m : MAtom) : State :=
  let a := m.pna
  let size := matomSize m.sub
  let line := lineOf a
  let old := s.readBytes a size
  let data := overlay line (s.readBytes (line * 64) 64) a (matomNew m.sub m.ops old)
  let orig := if size = 16 then [BitVec.ofNat 64 (leNat (old.take 8)), BitVec.ofNat 64 (leNat (old.drop 8))]
    else [BitVec.ofNat 64 (leNat old)]
  let s := s.accept r.qpn r.tenant r.cls r.msn.toNat none [(line, data)]
  let s := s.giveAseq id
  match Maps.find id s.cle.reqs with
  | none => s
  | some r =>
    let done (x : MAtom) : MAtom := if x.pos = m.pos then { x with accepted := true, orig } else x
    (s.updReq id (fun r => { r with matoms := r.matoms.map done, logged := r.logged.map done })).logOutcome r m orig

/-- MATOM_ACCEPTED: the MATOM at position `index` of a request is performed once its line has been read, no earlier MATOM
on the line waits and the placement buffer has room (R155, R358); a page it may not have ends the wait (R105, R280). -/
def execMatomAccepted (req index : Nat) (s : State) : Result :=
  .next (match Maps.find req s.cle.reqs with
    | none => s
    | some r =>
      match (r.matoms ++ r.logged).find? (fun m => m.pos == index && m.due) with
      | none => s
      | some m =>
        if !m.read || s.readsPending req m.pna (matomSize m.sub) || s.matomBehind (lineOf m.pna) m.seq then s
        else if !s.newPagesFit r.tenant [pageOf m.pna] then
          (s.noSpace r.tenant 1 (s.newPages [pageOf m.pna])).updReq req (fun r => r.fail Code.noSpace (fun x => x.pos == index))
        else if !s.pbRoom r.cls 1 then s
        else s.perform req r m)

/-! ## FENCE (R200, R354) -/

/-- FENCE asks for the durability of a range: its target is the QP's ACC now; one of length 0 is complete (R200). -/
def execFence (ag : Agent) (w : DWord) (s : State) : Result :=
  .next (s.clauseOp ag w (xRow 0x44 0 1 (fun w => noD w && noImm w)) (fun s i id r =>
    let len := (r.ctx.greg (wB w)).toNat
    match s.accessTrap r (r.ctx.greg (wA w)).toNat len 3 with
    | some t => s.trap i id r t
    | none =>
      let target := match s.qp r.qpn with | some c => c.acc | none => 0
      let f : FenceRec := { target, tick := s.now, done := len == 0 }
      (if len = 0 then s.bump Reg.DUR_CNT_FLUSH else s).goOn id { r with fences := r.fences ++ [f] }))

end Sys2Proof.Machine
end

