-- ==== Sys2Proof/Machine/Flow.lean ====
section
/-! DEFINITION. The flow instructions (R204, R205): branches and calls of both profiles, the ends of a segment (R149,
R150, R153, R157), and TIME_WAKE. -/

namespace Sys2Proof.Machine

open Sys2Proof

/-! ## Branches and calls (R204) -/

/-- The target of a branch: the branch plus imm instructions, sign-extended; none when it lies outside the image's code.
The MCP counts bytes, and finds out at its fetch (R204, R210). -/
def State.target (s : State) (ag : Agent) (w : DWord) : Option Nat :=
  let t : Int := ((s.ctxOf ag).pc : Int) + (pcStep ag : Int) * (wSimm w).toInt
  match ag with
  | .strand i => match s.running i with
    | some (_, r) => if 0 ≤ t ∧ t < (s.codeOf r).length then some t.toNat else none
    | none => none
  | .mcp => some (t % 2 ^ 64).toNat

/-- The agent's return stack (R204). -/
def State.stackOf (s : State) : Agent → List Nat
  | .strand i => match s.running i with
    | some (_, r) => r.stack
    | none => []
  | .mcp => s.mcp.stack

/-- The agent's return stack replaced. -/
def State.setStack (s : State) (ag : Agent) (l : List Nat) : State :=
  match ag with
  | .strand i => match s.running i with
    | some (id, r) => s.setReq id { r with stack := l }
    | none => s
  | .mcp => { s with mcp := { s.mcp with stack := l } }

/-- The agent goes on at `t`. -/
def State.goTo (s : State) (ag : Agent) (t : Nat) : State :=
  let c := s.ctxOf ag
  s.setCtx ag { c with pc := t }

/-- A branch taken: one cycle more, and the target, which must be code (R204, R186). -/
def State.branch (s : State) (ag : Agent) (w : DWord) : State :=
  match s.target ag w with
  | some t => (s.spend ag 1).goTo ag t
  | none => s.illegal ag .illegal

/-- BR (R204). -/
def execBr (ag : Agent) (w : DWord) (s : State) : Result :=
  .next (s.instruct ag w
    { op := 0x60, subs := [0], profile := .both, cost := 1, allowed := fun w => noD w && noA w && noB w }
    (fun s => s.branch ag w))

/-- BRP jumps when p[a[2:0]] XOR a[3] is 1 (R204). -/
def execBrp (ag : Agent) (w : DWord) (s : State) : Result :=
  .next (s.instruct ag w
    { op := 0x61, subs := [0], profile := .both, cost := 1, allowed := fun w => noD w && noB w && wA w < 16 }
    (fun s =>
      if (s.ctxOf ag).preg (wA w % 8) != bitOf w 45 then s.branch ag w else s.advance ag))

/-- CALL pushes the return index on the stack of 8 entries and jumps (R204). -/
def execCall (ag : Agent) (w : DWord) (s : State) : Result :=
  .next (s.instruct ag w
    { op := 0x62, subs := [0], profile := .both, cost := 2, allowed := fun w => noD w && noA w && noB w }
    (fun s =>
      let st := s.stackOf ag
      match s.target ag w with
      | none => s.illegal ag .illegal
      | some t =>
        if 8 ≤ st.length then s.illegal ag .illegal
        else (s.setStack ag (((s.ctxOf ag).pc + pcStep ag) :: st)).goTo ag t))

/-- RET pops the return stack (R204). -/
def execRet (ag : Agent) (w : DWord) (s : State) : Result :=
  .next (s.instruct ag w
    { op := 0x63, subs := [0], profile := .both, cost := 2, allowed := fun w => noD w && noA w && noB w && noImm w }
    (fun s => match s.stackOf ag with
      | t :: rest => (s.setStack ag rest).goTo ag t
      | [] => s.illegal ag .illegal))

/-! ## The end of a segment (R144, R149, R150) -/

/-- The segment ends after this instruction, and the request waits as given. -/
def State.yieldTo (s : State) (id : Nat) (r : Request) (st : ReqState) : State :=
  s.endSegment id { r with ctx := { r.ctx with pc := r.ctx.pc + 1 } } st

/-- The word of YIELD. -/
def yieldRow : Row :=
  { op := 0x64, subs := [0], profile := .clause, cost := 1, allowed := fun w => noD w && noA w && noB w && noImm w }

/-- The word of a YIELD.W row; a is used only by STAGE and TIME (R205). -/
def waitRow (sub : Nat) : Row :=
  xRow 0x65 sub 1 (fun w => noD w && noB w && noImm w && (sub == 2 || sub == 4 || noA w))

/-- YIELD (R149). -/
def execYield (ag : Agent) (w : DWord) (s : State) : Result :=
  .next (s.clauseOp ag w yieldRow (fun s _ id r => s.yieldTo id r .wakes))

/-- YIELD.W NEXT, the same as YIELD (R150). -/
def execYieldWNext (ag : Agent) (w : DWord) (s : State) : Result :=
  .next (s.clauseOp ag w (waitRow 0) (fun s _ id r => s.yieldTo id r .wakes))

/-- YIELD.W MEDIA: what the clause read reaches pad and registers at the resume (R150, R196, R198). -/
def execYieldWMedia (ag : Agent) (w : DWord) (s : State) : Result :=
  .next (s.clauseOp ag w (waitRow 1) (fun s _ id r =>
    s.yieldTo id { r with mediaDue := true } (.waiting .media (s.now + 1))))

/-- A request ended by the failure of its stage (R151, R242). -/
def State.failWait (s : State) (id code : Nat) : State :=
  let s := s.bump Reg.CLE_CNT_ABORT
  let s := if code = Code.stageFail then s.bump Reg.STG_CNT_FAIL else if code = Code.mediaUe then s.bump Reg.STG_CNT_UE else s
  s.endReq id code

/-- YIELD.W STAGE moves the cursor as the segment retires; a wait on a failed stage ends the request (R205, R225, R237,
R242). -/
def execYieldWStage (ag : Agent) (w : DWord) (s : State) : Result :=
  .next (s.clauseOp ag w (waitRow 2) (fun s i id r =>
    let k := (r.ctx.greg (wA w)).toNat
    let stage := match r.pour with | some p => p.stages[k]? | none => none
    match stage with
    | none => s.trap i id r .illegal
    | some st => match st.failed with
      | some code => s.failWait id code
      | none =>
        let (r, s) := s.moveCursor id r k
        s.yieldTo id r (.waiting (.stage k) (s.now + 1))))

/-- YIELD.W FENCE (R150). -/
def execYieldWFence (ag : Agent) (w : DWord) (s : State) : Result :=
  .next (s.clauseOp ag w (waitRow 3) (fun s _ id r => s.yieldTo id r (.waiting .fence (s.now + 1))))

/-- YIELD.W TIME: values more than 3,000 ticks ahead act as 3,000 ticks ahead (R150). -/
def execYieldWTime (ag : Agent) (w : DWord) (s : State) : Result :=
  .next (s.clauseOp ag w (waitRow 4) (fun s _ id r =>
    let t := Nat.min (r.ctx.greg (wA w)).toNat (s.now + 3000)
    s.yieldTo id r (.waiting (.time t) (s.now + 1))))

/-- TIME_WAKE: the tick counter has reached a waiting request's value, and the request is made ready at the first boundary after
(R150). -/
def execTimeWake (req : Nat) (s : State) : Result :=
  .next (match Maps.find req s.cle.reqs with
    | none => s
    | some r => match r.st with
      | .waiting (.time t) _ => if t ≤ s.now then s.setReq req { r with st := .wakes } else s
      | _ => s)

/-- The word of a COMMIT row. -/
def commitRow (sub : Nat) : Row :=
  xRow 0x66 sub 2 (fun w => noD w && noA w && noB w && noImm w)

/-- COMMIT (R144, R153). -/
def execCommit (ag : Agent) (w : DWord) (s : State) : Result :=
  .next (s.clauseOp ag w (commitRow 0) (fun s i id r => s.commit i id r 0))

/-- COMMIT.C ends the clause only (R144). -/
def execCommitC (ag : Agent) (w : DWord) (s : State) : Result :=
  .next (s.clauseOp ag w (commitRow 1) (fun s i id r => s.commit i id r 1))

/-- COMMIT.A commits through an intent slot (R160). -/
def execCommitA (ag : Agent) (w : DWord) (s : State) : Result :=
  .next (s.clauseOp ag w (commitRow 2) (fun s i id r => s.commit i id r 2))

/-- ABORT ends the request with the code of imm[7:0] (R157, R205). -/
def execAbort (ag : Agent) (w : DWord) (s : State) : Result :=
  .next (s.clauseOp ag w
    { op := 0x67, subs := [0], profile := .clause, cost := 2
      allowed := fun w => noD w && noA w && noB w && wImm w < 256 }
    (fun s _ id _ => (s.bump Reg.CLE_CNT_ABORT).endReq id (Code.ofAbort (wImm w))))

end Sys2Proof.Machine
end

