-- ==== Sys2Proof/Machine/Management.lean ====
section
/-! DEFINITION. The management profile's own instructions but for register access and key operations: internal CSRs
(R208, R209), TRET and interrupts (R210), IFLUSH (R213). -/

namespace Sys2Proof.Machine

open Sys2Proof

/-- A read of internal CSR `n`: reading CYCLE_LO captures CYCLE_HI (R209); an unlisted number reads 0 (R208). -/
def State.readCsr (s : State) (n : Nat) : DWord × State :=
  if n ≤ 5 || n = 0x11 then (s.csr n, s)
  else if n = 6 then
    (BitVec.ofNat 64 (s.mcp.cycles % 2 ^ 32),
     { s with mcp := { s.mcp with cycleHi := BitVec.ofNat 32 (s.mcp.cycles / 2 ^ 32) } })
  else if n = 7 then (BitVec.ofNat 64 s.mcp.cycleHi.toNat, s)
  else if n = 0x10 then (BitVec.ofNat 64 s.mcp.irqPend.toNat, s)
  else (0, s)

/-- A write of internal CSR `n`; read-only and unlisted ones ignore it (R208, R209). -/
def State.writeCsr (s : State) (n : Nat) (v : DWord) : State :=
  let x := v.toNat
  if n = 0 then s.setCsr 0 (BitVec.ofNat 64 (x % 8))
  else if n = 1 then s.setCsr 1 (BitVec.ofNat 64 (x / 8 * 8))
  else if n = 3 then s.setCsr 3 (BitVec.ofNat 64 (x / 2 ^ 31 % 2 * 2 ^ 31 + x % 256))
  else if n = 2 || n = 4 || n = 5 then s.setCsr n v
  else if n = 0x11 then s.setCsr 0x11 (BitVec.ofNat 64 (x % 2 ^ 32))
  else s

/-- The word of a management row. -/
def mRow (op sub cost : Nat) (allowed : DWord → Bool) : Row :=
  { op, subs := [sub], profile := .management, cost, allowed }

/-- CSRR: g[d] = internal CSR imm[11:0] (R208). -/
def execCsrr (ag : Agent) (w : DWord) (s : State) : Result :=
  .next (s.instruct ag w (mRow 0x70 0 1 (fun w => noA w && noB w && wImm w < 4096)) (fun s =>
    let (v, s) := s.readCsr (wImm w)
    (s.setCtx ag ((s.ctxOf ag).setG (wD w) v)).advance ag))

/-- CSRW: internal CSR imm[11:0] = g[a] (R208). -/
def execCsrw (ag : Agent) (w : DWord) (s : State) : Result :=
  .next (s.instruct ag w (mRow 0x70 1 1 (fun w => noD w && noB w && wImm w < 4096)) (fun s =>
    (s.writeCsr (wImm w) ((s.ctxOf ag).greg (wA w))).advance ag))

/-- TRET returns from a trap: IE takes PIE, IN_TRAP clears, the pc takes TEPC (R210). -/
def execTret (ag : Agent) (w : DWord) (s : State) : Result :=
  .next (s.instruct ag w (mRow 0x71 0 2 (fun w => noD w && noA w && noB w && noImm w)) (fun s =>
    let st := s.csr 0
    let s := s.setCsr 0 (BitVec.ofNat 64 (if bitOf st 1 then 3 else 0))
    { s with mcp := { s.mcp with pc := (s.csr 2).toNat } }))

/-- IFLUSH invalidates the buffered lines that cover g[a] to g[a] + g[b] − 1, or all of them when g[b] is 0 (R213); a line
is 64 B (log 33). -/
def execIflush (ag : Agent) (w : DWord) (s : State) : Result :=
  .next (s.instruct ag w (mRow 0x72 0 2 (fun w => noD w && noImm w)) (fun s =>
    let c := s.ctxOf ag
    let a := (c.greg (wA w)).toNat
    let n := (c.greg (wB w)).toNat
    let last := (a + n - 1) / 64
    let ibuf := if n = 0 then [] else s.mcp.ibuf.filter (fun e => e.1 < a / 64 || last < e.1)
    let s := s.spend ag (if n = 0 then 62 else last - a / 64 + 1)
    ({ s with mcp := { s.mcp with ibuf } }).advance ag))

/-- MCP_INTERRUPT: a pending enabled source is taken between instructions while IE is 1; its pending bit is cleared
(R209, R210, log 34). -/
def execMcpInterrupt (source : Fin 16) (s : State) : Result :=
  .next (
    let k := source.val
    if s.mcp.running && !s.mcp.halted && bitOf (s.csr 0) 0 && bitOf s.mcp.irqPend k && bitOf (s.csr 0x11) k then
      let s := { s with mcp := { s.mcp with irqPend := setBit s.mcp.irqPend k false } }
      s.mcpTrap s.mcp.pc (2 ^ 31 + k) 0
    else s)

end Sys2Proof.Machine
end

