-- ==== Sys2Proof/Machine/Shown.lean ====
section
/-! DEFINITION. What a BAR0 register shows a reader (R10, R12, R19, R26, R30): the stored value of its rw and w1s fields; its other fields as
they stand now in the control and management planes, and as the last tick boundary copied them in the data plane. -/

namespace Sys2Proof.Machine

open Sys2Proof

/-- A word of the list that a select register has chosen; 0 where nothing is listed. -/
def chosen (t : Table (List Word)) (k i : Nat) : Word := nthD (Maps.getD t k []) i 0

/-- Word `i` of the recorder slot that EVR_CURSOR selects, read from flash; 0 while EFB is busy (R551). -/
def State.evrWin (s : State) (i : Nat) : Word :=
  if s.flashBusy true then 0
  else
    let a := 0x780000 + 256 * s.getF Reg.EVR_CURSOR 10 0 + 4 * i
    BitVec.ofNat 32 (leNat ((upTo 4).map (fun k => s.flashByte true (a + k))))

/-- A register whose value a select register, OTP, the key engine or flash gives at the moment of the read. -/
def State.derived (s : State) (off : Nat) : Option Word :=
  if Reg.TOP_DEVICE_ID ≤ off && off < Reg.TOP_DEVICE_ID + 16 then
    some (BitVec.ofNat 32 (leNat ((upTo 4).map (fun k => Config.factory (off - Reg.TOP_DEVICE_ID + k)))))
  else if Reg.SEC_ATT_PUB ≤ off && off < Reg.SEC_ATT_PUB + 64 then some (Config.publicKey ((off - Reg.SEC_ATT_PUB) / 4))
  else if Reg.EVR_WIN ≤ off && off < Reg.EVR_WIN + 256 then some (s.evrWin ((off - Reg.EVR_WIN) / 4))
  else if Reg.CLE_IMAGE_INFO ≤ off && off ≤ Reg.CLE_IMAGE_BOUND then
    some (chosen s.snap.images (s.getF Reg.CLE_IMAGE_SEL 5 0) ((off - Reg.CLE_IMAGE_INFO) / 4))
  else if off = Reg.CAL_QUAL then
    some (Maps.getD s.evr.figures (256 * s.getF Reg.CAL_SEL 31 24 + s.getF Reg.CAL_SEL 7 0) 0)
  else if off = Reg.STG_TEN_USE then some (Maps.getD s.snap.tiles (s.getF Reg.STG_TEN_SEL 11 0) 0)
  else if Reg.DUR_QP_ACC ≤ off && off ≤ Reg.DUR_QP_MIR then
    some (chosen s.snap.fronts (s.getF Reg.DUR_QP_SEL 23 0) ((off - Reg.DUR_QP_ACC) / 4))
  else none

/-- What a read of the register at an offset returns, the capture of R15 apart: 0 where none is listed (R12), and 0 in the data
plane since a start-up stopped before step 4, until one reaches step 5 (R30). A w1s bit,
such as LOAD_ARM, shows its stored value and not the copy of R26 (R10, log 130). -/
def State.shown (s : State) (off : Nat) : Word :=
  match regAt off with
  | none => 0
  | some r =>
    if isDataPlane off && s.sec.dark then 0
    else match s.derived off with
      | some v => v
      | none =>
        if isDataPlane off then
          (s.reg off &&& BitVec.ofNat 32 (r.rw ||| r.w1s)) |||
          (Maps.rd resetOf s.bar.copy off &&& BitVec.ofNat 32 (r.ro ||| r.w1c))
        else s.reg off &&& r.readable

end Sys2Proof.Machine
end

