-- ==== Sys2Proof/Machine/Flash.lean ====
section
/-! DEFINITION. The embedded flash, the OTP row and the option row (R449–R465): operations, their ends, reads. -/

namespace Sys2Proof.Machine

open Sys2Proof

/-! ## Security state a requester is judged by -/

/-- Debug state in force: 0 CLOSED, 1 TOKEN, 2 OPEN (R486). -/
def State.debug (s : State) : Nat := s.getF Reg.SEC_STATUS 29 28

/-- A permission in force: 0 CORE, 1 REGS, 2 INJECT, 3 FLASH (R486). -/
def State.perm (s : State) (k : Nat) : Bool := s.getB Reg.SEC_PERMS k

/-- Read-out protection level as derived at the last reset (R464). -/
def State.rdp (s : State) : Nat := s.getF Reg.SEC_STATUS 27 26

/-- A requester may start flash operations: the MCP, or JTAG with permission FLASH (R455). -/
def State.flashAllowed (s : State) (rq : Requester) : Bool :=
  match rq with
  | .mcp => true
  | .jtag => decide (s.debug ≠ 0) && s.perm 3
  | .control => false

/-- An MCP interrupt source pends (R209, R448). -/
def State.pend (s : State) (k : Nat) : State :=
  { s with mcp := { s.mcp with irqPend := setBit s.mcp.irqPend k true } }

/-! ## Words of a bank -/

/-- The words of a bank, and its undefined rows. -/
def State.bankWords (s : State) (bankB : Bool) : Table DWord := if bankB then s.efl.wordsB else s.efl.wordsA
def State.bankUndef (s : State) (bankB : Bool) : Table Bool := if bankB then s.efl.undefB else s.efl.undefA

/-- A bank's words and undefined rows replaced. -/
def State.setBank (s : State) (bankB : Bool) (words : Table DWord) (undef : Table Bool) : State :=
  if bankB then { s with efl := { s.efl with wordsB := words, undefB := undef } }
  else { s with efl := { s.efl with wordsA := words, undefA := undef } }

/-- A row reads as erased: none of its four words is programmed, and nothing interrupted it (R453, R456). -/
def State.rowErased (s : State) (bankB : Bool) (row : Nat) : Bool :=
  !Maps.has (s.bankUndef bankB) row &&
  (upTo 4).all (fun i => Maps.rd (freshWord bankB) (s.bankWords bankB) (4 * row + i) == BitVec.allOnes 64)

/-- Four words stored in a row. -/
def State.storeRow (s : State) (bankB : Bool) (row : Nat) (ws : List DWord) : State :=
  let words := (upTo 4).foldl (fun (t : Table DWord) i => Maps.wr (freshWord bankB) t (4 * row + i) (nthD ws i (BitVec.allOnes 64)))
    (s.bankWords bankB)
  s.setBank bankB words (s.bankUndef bankB)

/-- Rows [first, last) erased. -/
def State.eraseRows (s : State) (bankB : Bool) (first last : Nat) : State :=
  let out (r : Nat) : Bool := decide (r < first) || decide (last ≤ r)
  let words := (s.bankWords bankB).filter (fun e => out (e.1 / 4))
  let words := (upTo 24).foldl (fun (t : Table DWord) i =>
    if out (0x18000 + i / 4) then t else Maps.wr (freshWord bankB) t (0x60000 + i) (BitVec.allOnes 64)) words
  s.setBank bankB words ((s.bankUndef bankB).filter (fun e => out e.1))

/-- A sector's rows left undefined (R459, R460). -/
def State.undefRows (s : State) (bankB : Bool) (first n : Nat) : State :=
  s.setBank bankB (s.bankWords bankB) ((upTo n).foldl (fun (t : Table Bool) i => Maps.put (first + i) true t) (s.bankUndef bankB))

/-- An interrupted operation leaves its row or sector undefined; nothing is recorded of it (R460). -/
def State.interruptFlash (s : State) : State :=
  let cut (s : State) (o : FlashOpRec) : State :=
    if o.kind = 0 then s.undefRows o.bankB o.row (if o.recorder then 8 else 1)
    else if o.kind = 1 then s.undefRows o.bankB (o.row / 256 * 256) 256
    else s
  let s := match s.efl.op with | some o => cut s o | none => s
  let s := match s.efl.suspendedOp with | some o => cut s o | none => s
  { s with efl := { s.efl with op := none, suspendedOp := none, heldGo := none } }

/-! ## OTP -/

/-- OTP bits programmed: no bit goes from 1 to 0 (R449). -/
def State.otpProgram (s : State) (off : Nat) (bytes : List Byte) : State :=
  let bs := (upTo bytes.length).map (fun i => s.efl.otp.byte (off + i) ||| nthD bytes i 0)
  { s with efl := { s.efl with otp := s.efl.otp.setBytes off bs } }

/-! ## GO (R455–R457, R461) -/

/-- A bit of EFL_STATUS set. -/
def State.eflFlag (s : State) (bit : Nat) : State := s.setB Reg.EFL_STATUS bit true

/-- BUSY and SUSPENDED of EFL_STATUS. -/
def State.showEfl (s : State) : State :=
  let mine := match s.efl.op with | some o => !o.recorder | none => false
  (s.setB Reg.EFL_STATUS 31 (mine || s.efl.heldGo.isSome)).setB Reg.EFL_STATUS 30 s.efl.suspendedOp.isSome

/-! ## The event recorder's operations (R461, R547, R548, R552) -/

/-- First row of a recorder slot, and of a recorder sector, in EFB. -/
def recorderSlot (n : Nat) : Nat := 0x3C000 + 8 * n
def recorderSector (n : Nat) : Nat := 0x3C000 + 256 * n

/-- The 256 bytes of a record (R547). -/
def RecordRec.bytes (r : RecordRec) (seq : Word) : List Byte :=
  let vs := r.values.take 58
  let b := leBytes 0x5245 2 ++ [BitVec.ofNat 8 r.trigger, BitVec.ofNat 8 vs.length] ++ leBytes seq.toNat 4 ++
    [BitVec.ofNat 8 r.code, BitVec.ofNat 8 r.level] ++ leBytes (r.source % 4096) 2 ++ leBytes r.dropped 2 ++ leBytes 0 2 ++
    vs.flatMap (fun v => leBytes v.toNat 4) ++ List.replicate (4 * (58 - vs.length) + 4) 0
  b ++ leBytes (crcInv b) 4

/-- Bytes as flash words of 64 bits. -/
def flashWords (b : List Byte) (n : Nat) : List DWord := (upTo n).map (fun i => BitVec.ofNat 64 (leNat (slice b (8 * i) 8)))

/-- The sector that the recorder's next record goes to can take it: its erase has ended (R548, R552). -/
def State.headReady (s : State) : Bool :=
  let k := s.getF Reg.EVR_STATUS 10 0 / 32
  s.evr.erasing != some k && (match s.evr.clearing with | some j => decide (k < j) | none => true) &&
  (match s.efl.suspendedOp with | some o => !o.bankB || o.row != recorderSector k | none => true)

/-- The recorder starts what it has to do once the flash is free: its oldest record first (R548), while the input is qualified
(R495) and the scan is done (R549); else the erase it owes. Its own erase gives way to a record. -/
def State.recorderGo (s : State) : State :=
  let free := match s.efl.op with | none => s.efl.heldGo.isNone | some o => o.recorder && o.kind == 1
  if !free then s
  else
    let op : Option FlashOpRec :=
      match s.evr.buffer with
      | r :: _ =>
        if s.getB Reg.EVR_STATUS 31 && s.getB Reg.SEQ_PG_STATE 0 && s.headReady then
          some { kind := 0, bankB := true, row := recorderSlot (s.getF Reg.EVR_STATUS 10 0), recorder := true
                 words := flashWords (r.bytes (s.reg Reg.EVR_SEQ_NEXT)) 32 }
        else none
      | [] => none
    let due := if s.efl.suspendedOp.isSome then none else s.evr.clearing.orElse (fun _ => s.evr.erasing)
    let op := op.orElse (fun _ => due.map (fun k => { kind := 1, bankB := true, row := recorderSector k, recorder := true }))
    { s with efl := { s.efl with op } }

/-! ## GO, from its acceptance on -/

/-- The bank that the MCP's present instruction comes from. -/
def State.pcBank (s : State) : Option Bool :=
  if 0x1000000 ≤ s.mcp.pc && s.mcp.pc < 0x1800000 then some false
  else if 0x1800000 ≤ s.mcp.pc && s.mcp.pc < 0x2000000 then some true
  else none

/-- The block of an operation is write-protected (R456): 512 KiB blocks, EFB in the upper half. -/
def State.writeProtected (s : State) (bankB : Bool) (row : Nat) : Bool :=
  s.getB Reg.EFL_WP (row / 16384 % 16 + (if bankB then 16 else 0))

/-- An accepted operation starts, or is held behind the recorder that asked in the same cycle (R461). -/
def State.startOp (s : State) (o : FlashOpRec) (sameCycle : Bool) : State :=
  let recFirst := match s.efl.op with | some x => x.recorder | none => false
  (if sameCycle && recFirst then { s with efl := { s.efl with heldGo := some o } }
   else { s with efl := { s.efl with op := some o } } : State).showEfl

/-- A firmware operation, or a held one, is pending; the recorder's own makes a later GO wait only when both asked in the same
cycle (R455, R461). -/
def State.eflBusy (s : State) (sameCycle : Bool) : Bool :=
  s.efl.heldGo.isSome || (match s.efl.op with | some o => !(o.recorder && sameCycle) | none => false)

/-- The bank and row that EFL_CTRL and EFL_ADDR name. -/
def State.eflBank (s : State) : Bool := s.getB Reg.EFL_CTRL 27
def State.eflRow (s : State) : Nat := s.getF Reg.EFL_ADDR 22 5

/-- FLASH_PROGRAM: GO with OP PROGRAM (R455–R457). -/
def execFlashProgram (rq : Requester) (sameCycle : Bool) (s : State) : Result :=
  .next (
    let b := s.eflBank
    let row := s.eflRow
    let inSuspended := match s.efl.suspendedOp with
      | some o => o.bankB == b && o.row / 256 == row / 256
      | none => false
    if !s.flashAllowed rq then s.eflFlag 9
    else if s.eflBusy sameCycle || inSuspended then s.eflFlag 8
    else if s.writeProtected b row then s.eflFlag 7
    else if rq == .mcp && s.pcBank == some b then s.eflFlag 6
    else if !s.rowErased b row then s.eflFlag 5
    else
      let words := (upTo 4).map (fun i =>
        BitVec.ofNat 64 ((s.reg (Reg.EFL_ROW + 8 * i)).toNat + (s.reg (Reg.EFL_ROW + 8 * i + 4)).toNat * 2 ^ 32))
      s.startOp { kind := 0, bankB := b, row, words } sameCycle)

/-- FLASH_ERASE: GO with OP ERASE; no second erase while one is suspended (R455–R457, R459). -/
def execFlashErase (rq : Requester) (sameCycle : Bool) (s : State) : Result :=
  .next (
    let b := s.eflBank
    let row := s.eflRow / 256 * 256
    if !s.flashAllowed rq then s.eflFlag 9
    else if s.eflBusy sameCycle || s.efl.suspendedOp.isSome then s.eflFlag 8
    else if s.writeProtected b row then s.eflFlag 7
    else if rq == .mcp && s.pcBank == some b then s.eflFlag 6
    else
      (s.setReg Reg.EFL_ERASE_PROGRESS (BitVec.ofNat 32 (row / 256 * 128))).startOp { kind := 1, bankB := b, row } sameCycle)

/-- FLASH_SUSPEND: the erase pulse in progress is abandoned (R459). -/
def execFlashSuspend (rq : Requester) (s : State) : Result :=
  .next (
    if !s.flashAllowed rq then s.eflFlag 9
    else match s.efl.op with
      | some o =>
        if o.kind = 1 && !o.recorder then
          ({ s with efl := { s.efl with op := none, suspendedOp := some o } } : State).showEfl.recorderGo
        else s
      | none => s)

/-- FLASH_RESUME: the abandoned pulse starts again; refused while another operation runs (R455, R459). -/
def execFlashResume (rq : Requester) (s : State) : Result :=
  .next (
    if !s.flashAllowed rq then s.eflFlag 9
    else match s.efl.suspendedOp with
      | none => s
      | some o =>
        if s.eflBusy false then s.eflFlag 8
        else ({ s with efl := { s.efl with op := some o, suspendedOp := none } } : State).showEfl)

/-- OTP_PROGRAM: GO with OP OTP programs a bit of FW_SVN; any other bit is refused with DENIED (R470). -/
def execOtpProgram (rq : Requester) (sameCycle : Bool) (s : State) : Result :=
  .next (
    let bit := s.getF Reg.EFL_ADDR 18 5
    if !s.flashAllowed rq || s.getF Reg.EFL_ADDR 22 19 ≠ 0 || bit < 3456 || 3711 < bit then s.eflFlag 9
    else if s.eflBusy sameCycle || s.efl.suspendedOp.isSome then s.eflFlag 8
    else s.startOp { kind := 4, bankB := false, row := bit } sameCycle)

/-! ## Ends (R452, R459, R461) -/

/-- An operation of firmware has ended without refusal, whether or not it failed: interrupt source 2, DONE and the flag of its result;
the recorder may start its own. -/
def State.endOp (s : State) (flag : Nat) : State :=
  (((({ s with efl := { s.efl with op := none } } : State).eflFlag 0).eflFlag flag).pend 2).showEfl.recorderGo

/-- FLASH_PROGRAM_DONE: the row, or OTP bit, is programmed, or did not verify (R452). -/
def execFlashProgramDone (ok : Bool) (s : State) : Result :=
  .next (match s.efl.op with
    | none => s
    | some o =>
      if o.recorder || o.kind = 1 then s
      else if o.kind = 0 then
        if ok then (s.storeRow o.bankB o.row o.words).endOp 0 else (s.undefRows o.bankB o.row 1).endOp 3
      else if ok then (s.otpProgram (o.row / 8) [BitVec.ofNat 8 (2 ^ (o.row % 8))]).endOp 0
      else s.endOp 3)

/-- ERASE_PULSE_DONE: a pulse has completed and been verified; the erase ends erased, or fails after 80 (R459). -/
def execErasePulseDone (erased : Bool) (s : State) : Result :=
  .next (match s.efl.op with
    | none => s
    | some o =>
      if o.recorder || o.kind ≠ 1 then s
      else
        let n := s.getF Reg.EFL_ERASE_PROGRESS 6 0 + 1
        let s := s.setF Reg.EFL_ERASE_PROGRESS 6 0 n
        if erased then (s.eraseRows o.bankB o.row (o.row + 256)).endOp 0
        else if 80 ≤ n then (s.undefRows o.bankB o.row 256).endOp 4
        else s)

/-- HELD_GO_START: the recorder's operation has ended, and the held one starts (R461). -/
def execHeldGoStart (s : State) : Result :=
  .next (match s.efl.op, s.efl.heldGo with
    | none, some o => ({ s with efl := { s.efl with op := some o, heldGo := none } } : State).showEfl
    | _, _ => s)

/-! ## Reads (R462, R464) -/

/-- A requester's flash reads are refused by read-out protection (R464). -/
def State.readDenied (s : State) (rq : Requester) : Bool :=
  match rq with
  | .mcp => false
  | .control => decide (s.rdp ≠ 0)
  | .jtag => s.rdp == 2 || (s.rdp == 1 && !(s.debug == 1 && s.perm 3))

/-- A word read through EFL_RD_ADDR; 0 when refused, or while the bank is busy (R462, R464). -/
def State.flashRead (s : State) (rq : Requester) (v : Word) (err : WordErr) : State :=
  let s := s.setReg Reg.EFL_RD_ADDR (v &&& 0xFFFFF8#32)
  let b := bitOf v 23
  let a := fld v 22 3 * 8
  if s.readDenied rq then (s.eflFlag 9).setPair Reg.EFL_RD_DATA_LO 0
  else if s.flashBusy b then s.setPair Reg.EFL_RD_DATA_LO 0
  else
    let bytes := (upTo 8).map (fun i => s.flashByte b (a + i))
    ((s.flashErr b a err).readFlash b a).setPair Reg.EFL_RD_DATA_LO (leNat bytes)

/-- FLASH_READ: a write to EFL_RD_ADDR starts a read (R464). -/
def execFlashRead (rq : Requester) (v : Word) (wrong : BitVec 80) (s : State) : Result :=
  .next (s.flashRead rq v (wordErr wrong))

end Sys2Proof.Machine
end

