-- ==== Sys2Proof/Machine/Security.lean ====
section
/-! DEFINITION. Security (chapter 14): lifecycle, owner keys and debug state, the key store, key operations of the MCP, the
mailbox and its kinds, error injection. -/

namespace Sys2Proof.Machine

open Sys2Proof

/-! ## What a reset decodes (R451, R464, R486) -/

/-- The lifecycle: 0 BLANK, 1 PROVISIONED, 2 SEALED, 3 RETURN. -/
def State.otpLifecycle (s : State) : Nat :=
  let b := s.otpByte 0x1A4
  if bitOf b 2 then 3 else if bitOf b 1 then 2 else if bitOf b 0 then 1 else 0

/-- FW_SVN: consecutive 1 bits from bit 0. -/
def State.otpSvn (s : State) : Nat :=
  ((upTo 256).find? (fun i => !bitOf (s.otpByte (0x1B0 + i / 8)) (i % 8))).getD 256

/-- The read-out protection level. -/
def State.otpRdp (s : State) : Nat :=
  if bitOf (s.otpByte 0x1A8) 0 then 2 else if s.efl.option && !s.efl.optionUndef then 0 else 1

/-- The lifecycle decoded at the last reset. -/
def State.lifecycle (s : State) : Nat := s.getF Reg.SEC_STATUS 31 30

/-- The debug state and its permissions. -/
def State.setDebug (s : State) (d perms : Nat) : State :=
  (s.setF Reg.SEC_STATUS 29 28 d).setReg Reg.SEC_PERMS (BitVec.ofNat 32 perms)

/-- OWNER_SLOT and OWNER_NONE (R451). -/
def State.showOwner (s : State) : State :=
  match s.otpOwner with
  | some k => (s.setF Reg.SEC_STATUS 25 24 k).setB Reg.SEC_STATUS 23 false
  | none => (s.setF Reg.SEC_STATUS 25 24 0).setB Reg.SEC_STATUS 23 true

/-- SEC_STATUS.SLOTS. -/
def State.showKeys (s : State) : State := s.setF Reg.SEC_STATUS 21 9 s.win.keySlots.length

/-- A fresh nonce (R484). -/
def State.newNonce (s : State) : State :=
  let (bs, s) := s.takeBytes 32
  (upTo 8).foldl (fun (s : State) i => s.setReg (Reg.SEC_NONCE + 4 * i) (BitVec.ofNat 32 (leNat (slice bs (4 * i) 4)))) s

/-- What every reset of the management plane does to security: lifecycle, owner key, FW_SVN, read-out protection and debug state
are decoded, the stored KEK is loaded, the nonce is fresh (R451, R464, R479, R484, R486). -/
def State.secReset (s : State) : State :=
  let lc := s.otpLifecycle
  let rdp := s.otpRdp
  let opens := (lc == 0 || lc == 3) && rdp != 2
  let s := (s.setF Reg.SEC_STATUS 31 30 lc).setF Reg.SEC_STATUS 27 26 rdp
  let s := ((s.showOwner.setB Reg.SEC_STATUS 22 s.sec.kek.isSome).setF Reg.SEC_STATUS 8 0 s.otpSvn).showKeys
  ((s.setDebug (if opens then 2 else 0) (if opens then 15 else 0)).setReg Reg.SEC_MBOX_CTRL 0).newNonce

/-- The tenant key store cleared (R477). -/
def State.clearKeys (s : State) : State := ({ s with win := { s.win with keySlots := [] } } : State).showKeys

/-! ## Key operations of the MCP (R214, R476) -/

/-- A field of a KEYOP descriptor. -/
def kdField (d : List Byte) (o n : Nat) : Nat := leNat (slice d o n)

/-- [a, a + n) lies in SRAM; or in ROM, SRAM or flash. -/
def inSram (a n : Nat) : Bool := 0x100000 ≤ a && a + n ≤ 0x200000
def inReadable (a n : Nat) : Bool := a + n ≤ 0x10000 || inSram a n || (0x1000000 ≤ a && a + n ≤ 0x2000000)

/-- Bytes the key engine reads. -/
def State.keyInput (s : State) (a n : Nat) : List Byte := (s.mcpBytes a n).getD []

/-- Bytes the key engine writes to SRAM. -/
def State.keyOutput (s : State) (a : Nat) (bs : List Byte) : State :=
  { s with mcp := { s.mcp with sram := s.mcp.sram.setBytes (a - 0x100000) bs } }

/-- The word of a KEYOP row. -/
def keyRow (sub : Nat) : Row :=
  { op := 0x73, subs := [sub], profile := .management, cost := 1, allowed := fun w => noB w && noImm w }

/-- A KEYOP: its descriptor read from SRAM at g[a], `body` run on it, its status in g[d] (R214, R476). -/
def State.keyop (s : State) (ag : Agent) (w : DWord) (sub : Nat) (body : State → List Byte → Nat × State) : State :=
  s.instruct ag w (keyRow sub) (fun s =>
    let a := ((s.ctxOf ag).greg (wA w)).toNat
    let (st, s) :=
      if !inSram a 32 then (1, s)
      else
        let d := s.keyInput a 32
        if nthD d 23 0 ≠ 0 then (1, s) else body s d
    (s.setCtx ag ((s.ctxOf ag).setG (wD w) (BitVec.ofNat 64 st))).advance ag)

/-- KEYOP UNWRAP: a wrapped key unwrapped into its key-store slot (R476, R478). -/
def execKeyopUnwrap (ag : Agent) (w : DWord) (s : State) : Result :=
  .next (s.keyop ag w 0 (fun s d =>
    let a := kdField d 0 8
    let slot := kdField d 20 2
    if !inReadable a 96 || 4095 < slot then (1, s)
    else if !s.getB Reg.SEC_STATUS 22 then (4, s)
    else match s.unwrapKey slot (s.keyInput a 96) with
      | none => (3, s)
      | some key => (0, (s.setKeySlot slot key).showKeys)))

/-- KEYOP CLEAR (R476). -/
def execKeyopClear (ag : Agent) (w : DWord) (s : State) : Result :=
  .next (s.keyop ag w 1 (fun s d =>
    let slot := kdField d 20 2
    if 4095 < slot then (1, s)
    else (0, ({ s with win := { s.win with keySlots := Maps.del slot s.win.keySlots } } : State).showKeys)))

/-- KEYOP SIGN under ATT (R476). -/
def execKeyopSign (ag : Agent) (w : DWord) (s : State) : Result :=
  .next (s.keyop ag w 2 (fun s d =>
    let a := kdField d 0 8
    let b := kdField d 8 8
    let n := kdField d 16 4
    if !inReadable a n || !inSram b 64 || kdField d 22 1 ≠ 0 then (1, s)
    else (0, s.keyOutput b (slice (Config.ed25519ph (s.keyInput a n)) 0 64))))

/-- KEYOP VERIFY: under the vendor key, the active owner key, or the public key at ADDR_C (R476). -/
def execKeyopVerify (ag : Agent) (w : DWord) (s : State) : Result :=
  .next (s.keyop ag w 3 (fun s d =>
    let key := kdField d 22 1
    if !inReadable (kdField d 0 8) (kdField d 16 4) || !inReadable (kdField d 8 8) 64 || 2 < key ||
        (key == 2 && !inReadable (kdField d 24 8) 32) then (1, s)
    else if key = 1 && s.getB Reg.SEC_STATUS 23 then (4, s)
    else
      let bytes := s.keyInput (kdField d 0 8) (kdField d 16 4)
      let sig := s.keyInput (kdField d 8 8) 64
      let ok := match key with
        | 0 => s.vendorVerifies bytes sig
        | 1 => s.ownerVerifies bytes sig
        | _ => Config.verifies (Config.sha512 (s.keyInput (kdField d 24 8) 32)) bytes sig
      (if ok then 0 else 2, s)))

/-- KEYOP HASH: SHA-512 (R476). -/
def execKeyopHash (ag : Agent) (w : DWord) (s : State) : Result :=
  .next (s.keyop ag w 4 (fun s d =>
    let a := kdField d 0 8
    let b := kdField d 8 8
    let n := kdField d 16 4
    if !inReadable a n || !inSram b 64 then (1, s)
    else (0, s.keyOutput b (slice (Config.sha512 (s.keyInput a n)) 0 64))))

/-- The bytes of an attestation quote before its signature (R481). -/
def State.quoteBody (s : State) (nonce : List Byte) : List Byte :=
  let images := (s.cle.images.filter (fun e => e.2.state == 1)).flatMap (fun e =>
    leBytes e.2.id.toNat 4 ++ leBytes e.2.version.toNat 4 ++ e.2.sig)
  [0x01, 0x00, BitVec.ofNat 8 s.lifecycle, BitVec.ofNat 8 s.debug, BitVec.ofNat 8 s.rdp,
   if s.getB Reg.SEC_STATUS 23 then 0xFF else BitVec.ofNat 8 (s.getF Reg.SEC_STATUS 25 24)] ++
  leBytes (s.getF Reg.SEC_STATUS 8 0) 2 ++ (upTo 16).map s.otpByte ++ leBytes s.now 8 ++ slice nonce 0 32 ++
  slice (Config.sha512 s.sec.image) 0 64 ++ slice (Config.sha512 images) 0 64

/-- A quote (R481). -/
def State.quote (s : State) (nonce : List Byte) : List Byte :=
  let b := s.quoteBody nonce
  b ++ slice (Config.ed25519ph b) 0 64

/-- KEYOP ATTEST (R476, R481). -/
def execKeyopAttest (ag : Agent) (w : DWord) (s : State) : Result :=
  .next (s.keyop ag w 5 (fun s d =>
    let a := kdField d 0 8
    let b := kdField d 8 8
    if !inReadable a 32 || !inSram b 256 then (1, s)
    else (0, s.keyOutput b (s.quote (s.keyInput a 32)))))

/-! ## The mailbox (R482–R485) -/

/-- Bytes of SEC_MBOX from an offset. -/
def State.mbox (s : State) (o n : Nat) : List Byte :=
  (upTo n).map (fun i => BitVec.ofNat 8 ((s.reg (Reg.SEC_MBOX + 4 * ((o + i) / 4))).toNat / 2 ^ (8 * ((o + i) % 4))))

/-- SEC_MBOX overwritten from offset 0. -/
def State.setMbox (s : State) (bs : List Byte) : State :=
  (upTo (ceilDiv bs.length 4)).foldl (fun (s : State) i =>
    s.setReg (Reg.SEC_MBOX + 4 * i) (BitVec.ofNat 32 (leNat (slice bs (4 * i) 4)))) s

/-- KIND and LEN of the submission. -/
def State.mboxKind (s : State) : Nat := leNat (s.mbox 0 1)
def State.mboxLen (s : State) : Nat := leNat (s.mbox 2 2)

/-- BODY of the submission. -/
def State.mboxBody (s : State) : List Byte := s.mbox 56 s.mboxLen

/-- The kinds of R485. -/
def mboxKinds : List Nat :=
  [0x01, 0x02, 0x03, 0x04, 0x05, 0x06, 0x07, 0x08, 0x0A, 0x0B, 0x0C, 0x10, 0x40, 0x41, 0x42, 0x43]

/-- Signed kinds. -/
def mboxSigned (k : Nat) : Bool := [0x02, 0x03, 0x04, 0x05, 0x06, 0x0A, 0x0B, 0x0C].contains k

/-- The LEN a kind has (R485). -/
def mboxLenOk (k n : Nat) : Bool :=
  match k with
  | 0x01 | 0x0B => n == 64
  | 0x02 => n == 4
  | 0x05 => n == 1
  | 0x07 | 0x42 => 4 ≤ n && n ≤ 132
  | 0x0A => n == 92
  | 0x40 => n == 32
  | _ => n == 0

/-- The submission is well formed (R483): FORMAT of the check order. -/
def State.mboxFormat (s : State) : Bool :=
  let k := s.mboxKind
  let n := s.mboxLen
  mboxKinds.contains k && mboxLenOk k n && nthD (s.mbox 1 1) 0 0 == 0#8 && allZero (s.mbox 4 4) &&
  (mboxSigned k || (allZero (s.mbox 8 48) && allZero (s.mbox 192 64))) &&
  (k != 0x02 || leNat s.mboxBody < 16) && (k != 0x05 || leNat s.mboxBody == 1 || leNat s.mboxBody == 2)

/-- A submission answered: RESULT, the answer's length, DONE, a fresh nonce (R484, R485); a signed one refused is a security
event (R544). -/
def State.mboxDone (s : State) (result : Nat) (answer : List Byte) : State :=
  let s := if result ≠ 0 && mboxSigned s.mboxKind then s.trigger 20 3 0 result else s
  let s := if answer.isEmpty then s else s.setMbox answer
  let s := (s.setF Reg.SEC_MBOX_CTRL 19 16 result).setF Reg.SEC_MBOX_CTRL 15 8 (ceilDiv answer.length 4)
  let s := ((s.setB Reg.SEC_MBOX_CTRL 3 true).setB Reg.SEC_MBOX_CTRL 2 false).setB Reg.SEC_MBOX_CTRL 1 false
  ({ s with sec := { s.sec with submitted := false } } : State).newNonce

/-- A submission of a kind handled: FORMAT, DEVICE, NONCE, SIGNATURE, STATE in this order, and then its action, which gives a
result and an answer; a refusal changes nothing. Signed kinds are signed under the active owner key (R483, R485). -/
def State.submission (s : State) (kind : Nat) (allowed : Bool) (act : State → State × Nat × List Byte) : State :=
  if !s.sec.submitted || s.mboxKind ≠ kind then s
  else if !s.mboxFormat then s.mboxDone 1 []
  else if mboxSigned kind && s.mbox 8 16 ≠ (upTo 16).map s.otpByte then s.mboxDone 2 []
  else if mboxSigned kind && (upTo 8).any (fun i => leNat (s.mbox (24 + 4 * i) 4) ≠ (s.reg (Reg.SEC_NONCE + 4 * i)).toNat) then
    s.mboxDone 3 []
  else if mboxSigned kind && !s.ownerVerifies (s.mbox 0 192) (s.mbox 192 64) then s.mboxDone 4 []
  else if !allowed then s.mboxDone 5 []
  else
    let (s, result, answer) := act s
    s.mboxDone result answer

/-- A submission is put forward (R482, R485): a kind that R485 does not list is refused at once, and a kind of management
firmware pends interrupt source 1. -/
def State.submit (s : State) : State :=
  let s := ({ s with sec := { s.sec with submitted := true } } : State).setB Reg.SEC_MBOX_CTRL 2 true
  let k := s.mboxKind
  if !mboxKinds.contains k then s.mboxDone 1 []
  else if 0x40 ≤ k then s.pend 1
  else s

/-- The owner of the mailbox, by SEC_MBOX_CTRL.OWNER: 1 control port, 2 JTAG. -/
def Requester.mboxOwner : Requester → Nat
  | .control => 1
  | .jtag => 2
  | .mcp => 0

/-- MBOX_CLAIM (R482). -/
def execMboxClaim (rq : Requester) (s : State) : Result :=
  .next (if s.getF Reg.SEC_MBOX_CTRL 31 30 = 0 then s.setF Reg.SEC_MBOX_CTRL 31 30 (Requester.mboxOwner rq) else s)

/-- MBOX_RELEASE: the owner clears DONE (R482). -/
def execMboxRelease (rq : Requester) (s : State) : Result :=
  .next (
    if s.getB Reg.SEC_MBOX_CTRL 3 && s.getF Reg.SEC_MBOX_CTRL 31 30 == Requester.mboxOwner rq && Requester.mboxOwner rq ≠ 0 then
      (s.setB Reg.SEC_MBOX_CTRL 3 false).setF Reg.SEC_MBOX_CTRL 31 30 0
    else s)

/-- NEW_NONCE (R484). -/
def execNewNonce (s : State) : Result := .next s.newNonce

/-- Security events shown to the recorder (R544). -/
def State.debugEvent (s : State) : State := s.trigger 20 1 0 0
def State.lifecycleEvent (s : State) : State := s.trigger 20 2 0 0

/-- PROVISION (R485). -/
def execProvision (ok : Bool) (s : State) : Result :=
  .next (s.submission 0x01 (s.lifecycle == 0) (fun s =>
    if !ok then (s, 6, [])
    else (((s.otpProgram 0xA0 s.mboxBody).otpProgram 0x1A4 [1]).showOwner.lifecycleEvent, 0, [])))

/-- Lifecycle PROVISIONED or SEALED. -/
def State.owned (s : State) : Bool := s.lifecycle == 1 || s.lifecycle == 2

/-- DEBUG_TOKEN: TOKEN with its PERMS; in SEALED the key store is cleared, and encrypted tenants are key-lost from the next
tick boundary on (R132, R486). -/
def execDebugToken (s : State) : Result :=
  .next (s.submission 0x02 (s.owned && s.rdp != 2) (fun s =>
    let s := (s.setDebug 1 (leNat s.mboxBody)).debugEvent
    if s.lifecycle ≠ 2 then (s, 0, [])
    else (s.clearKeys.report 0x1A 0, 0, [])))

/-- SEAL (R485). -/
def execSeal (ok : Bool) (s : State) : Result :=
  .next (s.submission 0x03 (s.lifecycle == 1) (fun s =>
    if !ok then (s, 6, []) else ((s.otpProgram 0x1A4 [2]).lifecycleEvent, 0, [])))

/-- The key store region of a bank: bank offsets 0x30_0000 to 0x3F_FFFF (R454). -/
def State.eraseKeyRegion (s : State) (bankB : Bool) : State := s.eraseRows bankB 0x18000 0x20000

/-- RETURN (R485). -/
def execReturnUnit (ok : Bool) (s : State) : Result :=
  .next (s.submission 0x04 s.owned (fun s =>
    let s := ((s.clearKeys.eraseKeyRegion false).eraseKeyRegion true)
    let s := ({ s with sec := { s.sec with kek := none } } : State).setB Reg.SEC_STATUS 22 false
    if !ok then (s, 6, []) else ((s.otpProgram 0x1A4 [4]).lifecycleEvent, 0, [])))

/-- RDP_RAISE: the option row erased, or RDP2 programmed (R464, R485). -/
def execRdpRaise (ok : Bool) (s : State) : Result :=
  .next (s.submission 0x05 (s.lifecycle != 0) (fun s =>
    if leNat s.mboxBody = 1 then
      ({ s with efl := { s.efl with option := false, optionUndef := !ok } }, if ok then 0 else 7, [])
    else if !ok then (s, 6, []) else (s.otpProgram 0x1A8 [1], 0, [])))

/-- RDP_REGRESS: keys and KEK gone, both banks erased, the option row programmed (R465). -/
def execRdpRegress (ok : Bool) (s : State) : Result :=
  .next (s.submission 0x06 (s.rdp == 1) (fun s =>
    let s := s.clearKeys.setB Reg.SEC_STATUS 22 false
    let s := (s.eraseRows false 0 0x40000).eraseRows true 0 0x40000
    let s := { s with sec := { s.sec with kek := none }, efl := { s.efl with option := ok, optionUndef := false } }
    (s, if ok then 0 else 7, [])))

/-- BOOT_FAIL is set (R469). -/
def State.bootFail (s : State) : Bool := s.getB Reg.SEC_BOOT_STATUS 31

/-- RECOVERY_DATA: a chunk written to SRAM (R472). -/
def execRecoveryData (s : State) : Result :=
  .next (s.submission 0x07 s.bootFail (fun s =>
    let b := s.mboxBody
    let o := leNat (b.take 4)
    if 0x100000 < o + (b.length - 4) then (s, 1, [])
    else (s.keyOutput (0x100000 + o) (b.drop 4), 0, [])))

/-- Header fields of a firmware image (R466). -/
def fwField (h : List Byte) (o n : Nat) : Nat := leNat (slice h o n)

/-- Every field of a firmware header is in range and its SIGNER matches the lifecycle (R466, R467). -/
def State.fwInRange (s : State) (h : List Byte) : Bool :=
  let lc := s.lifecycle
  let signer := fwField h 6 2
  let n := fwField h 16 4
  let e := fwField h 20 4
  fwField h 0 4 == 0x57465942 && fwField h 4 2 == 1 && fwField h 12 4 ≤ 256 &&
  n % 8 == 0 && 8 ≤ n && n ≤ 983040 && e % 8 == 0 && e < n && allZero (slice h 24 8) &&
  signer == (if lc == 0 || lc == 3 then 0 else 1)

/-- The signature of a firmware image verifies: under the vendor key in BLANK and RETURN, else under the active owner key (R467). -/
def State.imageVerifies (s : State) (h bytes sig : List Byte) : Bool :=
  if fwField h 6 2 = 0 then s.vendorVerifies bytes sig else s.ownerVerifies bytes sig

/-- A firmware image's SVN is at least FW_SVN (R467). -/
def State.fwNewEnough (s : State) (h : List Byte) : Bool := s.getF Reg.SEC_STATUS 8 0 ≤ fwField h 12 4

/-- The header of a firmware image is acceptable (R466, R467). -/
def State.fwHeaderOk (s : State) (h : List Byte) : Bool := s.fwInRange h && s.fwNewEnough h

/-- The MCP starts at an address of firmware just verified. -/
def State.startMcp (s : State) (pc : Nat) (image : List Byte) : State :=
  { s with
    mcp := { s.mcp with pc, running := true, halted := false, ibuf := [] }
    sec := { s.sec with image } }

/-- RECOVERY_RUN: SRAM is verified as an image and run (R472). -/
def execRecoveryRun (s : State) : Result :=
  .next (s.submission 0x08 s.bootFail (fun s =>
    let h := s.keyInput 0x100000 32
    let n := fwField h 16 4
    if !s.fwHeaderOk h || !s.imageVerifies h (s.keyInput 0x100000 (32 + n)) (s.keyInput (0x100020 + n) 64) then (s, 4, [])
    else
      let s := (s.setB Reg.SEC_BOOT_STATUS 30 true).setF Reg.SEC_BOOT_STATUS 8 0 (fwField h 12 4)
      (s.startMcp (0x100020 + fwField h 20 4) (s.keyInput 0x100000 (32 + n)), 0, [])))

/-- The KEK that a KEK_INSTALL body carries: E, IV, ciphertext and tag, under the first 32 B of HKDF-SHA-512 over X25519(KEX, E)
with salt DEVICE_ID and info "BY-KEK" (R479); its encryption carries no additional data (log 108). -/
def State.kekOf (s : State) (body : List Byte) : Option (List Byte) :=
  let info : List Byte := [0x42, 0x59, 0x2D, 0x4B, 0x45, 0x4B]
  let key := slice (Config.hkdfSha512 (Config.kexShared (slice body 0 32)) ((upTo 16).map s.otpByte) info) 0 32
  (Config.gcmOpen key (slice body 32 12) [] (slice body 44 32) (slice body 76 16)).map (fun k => slice k 0 32)

/-- KEK_INSTALL: refused with STATE while an encrypted tenant exists; the manual gives no result for a body that does not decrypt,
which takes a free one of the codes but OK and changes nothing (R479, log 108). -/
def execKekInstall (s : State) : Result :=
  .next (s.submission 0x0A (s.owned && !s.win.tenants.any (fun e => e.2.encrypt)) (fun s =>
    match s.kekOf s.mboxBody with
    | none =>
      let (v, s) := s.takeWord
      (s, 1 + v.toNat % 9, [])
    | some k => (({ s with sec := { s.sec with kek := some k } } : State).setB Reg.SEC_STATUS 22 true, 0, [])))

/-- OWNER_ROTATE: the next slot programmed, then the active one revoked (R485). -/
def execOwnerRotate (ok : Bool) (s : State) : Result :=
  .next (
    let k := s.getF Reg.SEC_STATUS 25 24
    s.submission 0x0B (s.owned && decide (k < 3)) (fun s =>
      if !ok then (s, 6, [])
      else (((s.otpProgram (0xA0 + 64 * (k + 1)) s.mboxBody).otpProgram 0x1A0 [BitVec.ofNat 8 (2 ^ k)]).showOwner, 0, [])))

/-- EVR_CLEAR: the recorder begins to erase its 64 sectors, HEAD is 0, SEQ_NEXT stays (R552). -/
def execEvrClear (s : State) : Result :=
  .next (s.submission 0x0C (s.lifecycle != 0) (fun s =>
    let s := { s with evr := { s.evr with clearing := some 0 } }
    (((s.setB Reg.EVR_STATUS 30 true).setF Reg.EVR_STATUS 10 0 0).recorderGo, 0, [])))

/-- DEBUG_CLOSE (R485). -/
def execDebugClose (s : State) : Result :=
  .next (s.submission 0x10 true (fun s => ((s.setDebug 0 0).debugEvent, 0, [])))

/-- QUOTE, answered by management firmware (R481, R485). -/
def execQuote (refused : Bool) (s : State) : Result :=
  .next (s.submission 0x40 true (fun s => if refused then (s, 9, []) else (s, 0, s.quote s.mboxBody)))

/-- The bank the unit did not boot from (R471). -/
def State.otherBank (s : State) : Bool := !s.getB Reg.SEC_BOOT_STATUS 29

/-- FW_BEGIN: firmware slot and boot sector of the other bank erased (R454, R471). -/
def execFwBegin (refused ok : Bool) (s : State) : Result :=
  .next (s.submission 0x41 true (fun s =>
    if refused then (s, 9, [])
    else if !ok then (s.undefRows s.otherBank 0 256, 7, [])
    else
      let b := s.otherBank
      (({ s with sec := { s.sec with install := some b } } : State).eraseRows b 0 0x8000, 0, [])))

/-- FW_DATA: a chunk programmed at its offset of the firmware slot, in whole erased rows (R454, R456, R471). -/
def execFwData (refused ok : Bool) (s : State) : Result :=
  .next (s.submission 0x42 true (fun s =>
    match s.sec.install with
    | none => (s, 9, [])
    | some b =>
      let body := s.mboxBody
      let o := leNat (body.take 4)
      let bs := body.drop 4
      let rows := ceilDiv bs.length 32
      let first := (0x2000 + o) / 32
      if refused || o % 32 ≠ 0 || 0xFE000 < o + bs.length then (s, 9, [])
      else if !ok || (upTo rows).any (fun i => !s.rowErased b (first + i)) then (s, 7, [])
      else
        let word (i j : Nat) : DWord :=
          let x := slice bs (32 * i + 8 * j) 8
          BitVec.ofNat 64 (leNat (x ++ List.replicate (8 - x.length) 0xFF))
        ((upTo rows).foldl (fun (s : State) i => s.storeRow b (first + i) ((upTo 4).map (word i))) s, 0, [])))

/-- Bytes of a flash bank. -/
def State.bankBytes (s : State) (bankB : Bool) (o n : Nat) : List Byte := (upTo n).map (fun i => s.flashByte bankB (o + i))

/-- A RECORD row (R468). -/
def recordRow (seq svn len : Nat) : List Byte :=
  let b := leBytes 0x44524342 4 ++ leBytes seq 4 ++ leBytes svn 4 ++ leBytes len 4 ++ List.replicate 12 0
  b ++ leBytes (Nat.xor (crc32c 0xFFFFFFFF b) 0xFFFFFFFF) 4

/-- A bank's RECORD is valid (R468). -/
def State.recordValid (s : State) (bankB : Bool) : Bool :=
  let b := s.bankBytes bankB 0 32
  leNat (b.take 4) == 0x44524342 && leNat (b.drop 28) == Nat.xor (crc32c 0xFFFFFFFF (b.take 28)) 0xFFFFFFFF

/-- A row's four words from its bytes. -/
def rowWords (b : List Byte) : List DWord := (upTo 4).map (fun i => BitVec.ofNat 64 (leNat (slice b (8 * i) 8)))

/-- FW_END: the new image verified in flash, and its RECORD programmed with a BOOT_SEQ one above the booted bank's (R471). -/
def execFwEnd (refused ok : Bool) (s : State) : Result :=
  .next (s.submission 0x43 true (fun s =>
    match s.sec.install with
    | none => (s, 9, [])
    | some b =>
      let h := s.bankBytes b 0x2000 32
      let n := fwField h 16 4
      if refused || !s.fwHeaderOk h || !s.imageVerifies h (s.bankBytes b 0x2000 (32 + n)) (s.bankBytes b (0x2020 + n) 64) then
        (s, 9, [])
      else if !ok || !s.rowErased b 0 then (s, 7, [])
      else
        let seq := leNat (s.bankBytes (!b) 4 4) + 1
        let s := { s with sec := { s.sec with install := none } }
        (s.storeRow b 0 (rowWords (recordRow seq (fwField h 12 4) (fwField h 16 4))), 0, [])))

/-! ## Error injection (R590) -/

/-- The SRAM ids of R444. -/
def sramId (k : Nat) : Bool :=
  decide (k ≤ 0x07D) || (0x080 ≤ k && k ≤ 0x091) || (0x0A0 ≤ k && k ≤ 0x0A7)

/-- INJECT: GO arms an injection, or is refused (R590). -/
def execInject (s : State) : Result :=
  .next (
    let k := s.getF Reg.INT_INJECT 11 0
    if (s.debug == 2 || (s.debug == 1 && s.perm 2)) && sramId k && k != 0x071 then
      let bits := Nat.max 1 (s.getF Reg.INT_INJECT 30 29)
      let pos := Nat.min 79 (s.getF Reg.INT_INJECT 22 16)
      ({ s with integ := { s.integ with armed := some (k, bits, pos) } } : State).setB Reg.INT_INJECT 28 false
    else s.setB Reg.INT_INJECT 28 true)

end Sys2Proof.Machine
end

