-- ==== Sys2Proof/Machine/Calibration.lean ====
section
/-! DEFINITION. The calibration store and the oscillator's trim (R532–R538). -/

namespace Sys2Proof.Machine

open Sys2Proof

/-- First bank offset and size of an area: 0 factory, 1 to 3 the points 20, 60 and 100 (R533). -/
def calArea (k : Nat) : Nat × Nat := if k = 0 then (0x100000, 0x10000) else (0x110000 + 0x80000 * (k - 1), 0x80000)

/-- A bank's copy of an area is valid: MAGIC, FORMAT and both CRCs pass (R533, R534). -/
def State.calValid (s : State) (bankB : Bool) (k : Nat) : Bool :=
  let (base, size) := calArea k
  let h := s.bankBytes bankB base 64
  let len := leNat (slice h 12 4)
  leNat (slice h 0 4) == 0x4C414350 && leNat (slice h 4 2) == 1 && decide (len + 64 ≤ size) &&
  leNat (slice h 60 4) == crcInv (h.take 60) && leNat (slice h 56 4) == crcInv (s.bankBytes bankB (base + 64) len)

/-- The bank whose copy of an area is used: the valid one with the higher SEQ, EFA's when they are equal (R534). -/
def State.calBank (s : State) (k : Nat) : Option Bool :=
  let seq (b : Bool) : Nat := leNat (s.bankBytes b ((calArea k).1 + 16) 4)
  match s.calValid false k, s.calValid true k with
  | true, true => some (decide (seq false < seq true))
  | true, false => some false
  | false, true => some true
  | false, false => none

/-- Parameters of the entry of a kind and index among the entries of an area (R532). -/
def calFind (kind index : Nat) : Nat → List Byte → Option (List Int)
  | 0, _ => none
  | fuel + 1, b =>
    if b.length < 8 then none
    else
      let n := (nthD b 4 0).toNat
      if (nthD b 0 0).toNat = kind && leNat (slice b 2 2) = index then
        some ((upTo n).map (fun i => (BitVec.ofNat 16 (leNat (slice b (8 + 2 * i) 2))).toInt))
      else calFind kind index fuel (b.drop (8 + ceilDiv (2 * n) 8 * 8))

/-- Parameters of an item in a bank's copy of an area. -/
def State.calIn (s : State) (b : Bool) (k kind index : Nat) : Option (List Int) :=
  let base := (calArea k).1
  let entries := s.bankBytes b (base + 64) (leNat (s.bankBytes b (base + 12) 4))
  calFind kind index (leNat (s.bankBytes b (base + 10) 2)) entries

/-- Parameters of an item in the valid copy of an area (log 123). -/
def State.calItem (s : State) (k kind index : Nat) : Option (List Int) := (s.calBank k).bind (fun b => s.calIn b k kind index)

/-- n / d rounded to the nearest integer, halves toward zero. -/
def roundZero (n : Int) (d : Nat) : Int :=
  let q : Int := ((2 * n.natAbs + d - 1) / (2 * d) : Nat)
  if n < 0 then -q else q

/-- The value at a temperature in 1/16 °C on the line through its values at two points in °C (R536). -/
def onLine (p q a b t : Int) : Int := roundZero (a * 16 * (q - p) + (b - a) * (t - 16 * p)) (16 * (q - p)).toNat

/-- A parameter at a temperature in 1/16 °C from its values at the points whose areas are valid, rising (R536). -/
def interpolate (t : Int) : List (Int × Int) → Option Int
  | [] => none
  | [(_, v)] => some v
  | [(p, a), (q, b)] => some (onLine p q a b t)
  | (p, a) :: (q, b) :: (r, c) :: _ => some (if t ≤ 16 * q then onLine p q a b t else onLine q r b c t)

/-- A value clamped to the legal range of parameter `k` of a kind (R536). -/
def legal (kind k : Nat) (v : Int) : Int :=
  let r := Config.legalRange kind k
  if v < r.1.toInt then r.1.toInt else if r.2.toInt < v then r.2.toInt else v

/-- An oscillator trim code in force for a temperature, from its codes at 20, 60 and 100 °C; untrimmed without them (R537). -/
def State.setTrim (s : State) (codes : Option (List Int)) (t : Int) : State :=
  match codes with
  | some [a, b, c] => match interpolate t [(20, a), (60, b), (100, c)] with
    | some v => s.setF Reg.CAL_STATUS 15 0 (BitVec.ofInt 16 (legal 9 0 v)).toNat
    | none => s
  | _ => s

/-! ## The items of the interfaces (R532, R535–R537) -/

/-- Parameters of an item of a kind (R532). -/
def paramCount (kind : Nat) : Nat :=
  match kind with
  | 1 | 2 => 19
  | 3 => 9
  | 4 => 8
  | 5 => 3
  | 6 => 4
  | _ => 0

/-- The items of the blocks that a thermal sensor is assigned to: kind and index (R532, R535). -/
def itemsOf (i : Nat) : List (Nat × Nat) :=
  if i < 4 then (upTo 8).map (fun k => (1, 8 * i + k))
  else if i = 4 then (upTo 16).map (fun k => (2, k))
  else if i < 9 then (upTo 32).map (fun k => (3, 32 * (i - 5) + k))
  else if i < 11 then (upTo 120).map (fun k => (4, 120 * (i - 9) + k)) ++ (upTo 6).map (fun k => (5, 6 * (i - 9) + k))
  else if i = 11 then (upTo 16).map (fun k => (6, k))
  else []

/-- An item's parameters at a temperature: from the valid areas of the three points, or as the boot ROM has them (R536). -/
def State.calParams (s : State) (kind index : Nat) (t : Int) : List Int :=
  let points := ([(1, 20), (2, 60), (3, 100)] : List (Nat × Int)).filterMap (fun p =>
    (s.calItem p.1 kind index).map (fun vs => (p.2, vs)))
  (upTo (paramCount kind)).map (fun k =>
    match interpolate t (points.map (fun p => (p.1, nthD p.2 k 0))) with
    | some v => legal kind k v
    | none => (Config.romParam kind index k).toInt)

/-- The key of an item. -/
def itemKey (kind index : Nat) : Nat := 65536 * kind + index

/-- The parameters of a sensor's items for a temperature staged (R537). -/
def State.stageItems (s : State) (i : Nat) (t : Int) : State :=
  (itemsOf i).foldl (fun (s : State) (x : Nat × Nat) =>
    { s with evr := { s.evr with targets := Maps.put (itemKey x.1 x.2) (false, s.calParams x.1 x.2 t) s.evr.targets } }) s

/-- The parameters in force of a sensor's items at once: what training starts from (R303, R537). -/
def State.forceItems (s : State) (i : Nat) (t : Int) : State :=
  (itemsOf i).foldl (fun (s : State) (x : Nat × Nat) =>
    { s with evr := { s.evr with params := Maps.put (itemKey x.1 x.2) (s.calParams x.1 x.2 t) s.evr.params } }) s

/-- A sum of readings. -/
def sumInt (l : List Int) : Int := l.foldl (· + ·) 0

/-- The readings of a thermal sensor, newest first. -/
def State.temps (s : State) (i : Nat) : List Int := Maps.getD s.evr.readings i []

/-- The mean of a sensor's last readings (R535). -/
def State.meanTemp (s : State) (i : Nat) : Option Int :=
  let l := s.temps i
  if l.isEmpty then none else some (sumInt l / (l.length : Int))

/-- The parameters of a sensor's items for its mean, or for 60 °C before it has been read, in force at once (R303, R309, R537, log 123). -/
def State.startItem (s : State) (i : Nat) : State :=
  let t := (s.meanTemp i).getD 960
  ({ s with evr := { s.evr with appliedAt := Maps.put i t s.evr.appliedAt } } : State).forceItems i t

/-- One code toward a value. -/
def oneStep (v target : Int) : Int := if v < target then v + 1 else if target < v then v - 1 else v

/-- Every SerDes parameter moves by at most one code per frame toward its staged value (R537). -/
def State.moveLanes (s : State) : State :=
  let lanes := s.evr.targets.filter (fun e => e.1 / 65536 ≤ 3)
  lanes.foldl (fun (s : State) (e : Nat × Bool × List Int) =>
    let now : List Int := match Maps.find e.1 s.evr.params with
      | some vs => (vs.zip e.2.2).map (fun p => oneStep p.1 p.2)
      | none => e.2.2
    let targets := if now = e.2.2 then Maps.del e.1 s.evr.targets else s.evr.targets
    { s with evr := { s.evr with params := Maps.put e.1 now s.evr.params, targets } }) s

/-- Staged DDR5 parameters are applied in the first 64 CCLK of the frame, in which the channels issue only refreshes (R303, R537). -/
def State.moveDdr (s : State) : State :=
  let items := s.evr.targets.filter (fun e => e.1 / 65536 == 4 || e.1 / 65536 == 5)
  if items.isEmpty then s
  else
    let s := items.foldl (fun (s : State) (e : Nat × Bool × List Int) =>
      { s with evr := { s.evr with params := Maps.put e.1 e.2.2 s.evr.params, targets := Maps.del e.1 s.evr.targets } }) s
    { s with drc := { s.drc with calTick := some s.nextTick } }

/-- What was staged for the interfaces takes effect from a frame boundary on (R537). -/
def State.moveItems (s : State) : State :=
  let s := s.moveLanes.moveDdr
  { s with evr := { s.evr with targets := s.evr.targets.map (fun e => (e.1, true, e.2.2)) } }

/-- A channel's staged ONFI parameters are applied at the first gap between its commands after the frame boundary (R537). -/
def State.moveOnfi (s : State) : State :=
  let due := s.evr.targets.filter (fun e => e.1 / 65536 == 6 && e.2.1 && !s.ntl.ops.any (fun o => o.issued && o.ch == e.1 % 65536))
  due.foldl (fun (s : State) (e : Nat × Bool × List Int) =>
    { s with evr := { s.evr with params := Maps.put e.1 e.2.2 s.evr.params, targets := Maps.del e.1 s.evr.targets } }) s

/-! ## The oscillator, and the store at start-up -/

/-- The oscillator trimmed for a temperature from the factory area (R537). -/
def State.trimOsc (s : State) (t : Int) : State := s.setTrim (s.calItem 0 9 0) t

/-- The oscillator trimmed in start-up step 1 at 60 °C, from EFA's factory area or else EFB's (R538). -/
def State.trimFirst (s : State) : State :=
  if s.calValid false 0 then s.setTrim (s.calIn false 0 9 0) 960
  else if s.calValid true 0 then s.setTrim (s.calIn true 0 9 0) 960
  else s

/-- What the calibration engine finds when it starts: each area's validity, DEFAULT, and the trim code at 60 °C (R534, R536,
R538). -/
def State.readCalStore (s : State) : State :=
  let v := (upTo 4).foldl (fun (v : Nat) (k : Nat) => if (s.calBank k).isSome then v + 2 ^ k else v) 0
  ((s.setF Reg.CAL_STATUS 26 23 v).setB Reg.CAL_STATUS 27 (v / 2 == 0)).trimOsc 960

/-- A reading corrected by the factory gain and offset of its sensor: kind 7 thermal, 8 voltage (R532, R541, log 77). -/
def State.factory (s : State) (kind i : Nat) (raw : Int) : Int :=
  match s.calItem 0 kind i with
  | some (gain :: offset :: _) => (raw - offset) * 65536 / (65536 + gain)
  | _ => raw

end Sys2Proof.Machine
end

