-- ==== Sys2Proof/Machine/Dram.lean ====
section
/-! DEFINITION. The DRAM controller (chapter 09): interleave, queues, scheduling, refresh, errors, freeze. -/

namespace Sys2Proof.Machine

open Sys2Proof

/-- A channel. -/
def State.dram (s : State) (c : Nat) : DramChRec := Maps.getD s.drc.channels c {}

/-- A channel replaced. -/
def State.setDram (s : State) (c : Nat) (x : DramChRec) : State :=
  { s with drc := { s.drc with channels := Maps.put c x s.drc.channels } }

/-- The controller is frozen (R307). -/
def State.frozen (s : State) : Bool := s.getB Reg.DRC_STATUS 8

/-- A register of channel `c` of the family that begins at `base`. -/
def dramReg (base c : Nat) : Nat := base + 0x40 * c

/-! ## Addresses (R286, R288) -/

/-- XOR of the 3-bit groups of a number, `n` groups taken. -/
def xorGroups (q : Nat) : Nat → Nat
  | 0 => 0
  | n + 1 => Nat.xor (q % 8) (xorGroups (q / 8) n)

/-- Channel and channel-local address of a DRAM address with grain 2^k (R288). -/
def dramMap (k a : Nat) : Nat × Nat :=
  let n := a / 2 ^ k
  let q := n / 6
  ((n % 6 + xorGroups q 14 % 6) % 6, q * 2 ^ k + a % 2 ^ k)

/-- Row of a channel-local line (R286). -/
def dramRow (gib line : Nat) : Nat := line / 2 ^ 13 % (if gib = 128 then 2 ^ 17 else 2 ^ 16)

/-- Rank, bank group and bank of a channel-local line as one number: 32 × rank + 4 × group + bank (R286). -/
def dramBank (gib line : Nat) : Nat :=
  let row := dramRow gib line
  line / 2 ^ 12 % 2 * 32 + Nat.xor (line % 8) (row / 4 % 8) * 4 + Nat.xor (line / 2 ^ 10 % 4) (row % 4)

/-- Bytes of DRAM installed: one DIMM on each of six channels (R283). -/
def State.dramBytes (s : State) : Nat := 6 * s.drc.dimmGib * 2 ^ 30

/-! ## Freeze (R306–R308) -/

/-- The controller freezes: what is detected first is captured and reported as a dangerous failure (R307). -/
def State.freeze (s : State) (cause ch port cls word syndrome addr : Nat) : State :=
  if s.frozen then s
  else
    let s := s.setB Reg.DRC_STATUS 8 true
    let s := s.setReg Reg.DRC_FREEZE_CAUSE (BitVec.ofNat 32 (ch * 16 + cause))
    let s := s.setReg Reg.DRC_FREEZE_INFO (BitVec.ofNat 32 (port * 2 ^ 28 + cls * 2 ^ 26 + word * 2 ^ 20 + syndrome))
    let s := s.setPair Reg.DRC_FREEZE_ADDR_LO (addr / 128 * 128)
    let frozen (x : DramChRec) : DramChRec := { x with state := 4 }
    let s := { s with drc := { s.drc with channels := Maps.mapV (fun _ x => frozen x) s.drc.channels } }
    s.report 0x10 ch

/-- An uncorrectable word of a queue entry: item `6 × (16 × entry + word) + channel` of the queues' SRAM, the read queue's 64 entries
before the write queue's; what the entry says is captured (R306, R307, R444, log 61). -/
def State.queueUe (s : State) (item : Nat) (wrong : BitVec 80) : State :=
  let c := item % 6
  let e := item / 96
  let x := s.dram c
  match if e < 64 then x.rq[e]? else x.wq[e - 64]? with
  | some r => s.freeze 3 c r.port r.cls (item / 6 % 16) (syndrome wrong).toNat r.addr
  | none => s.freeze 3 c 0 0 (item / 6 % 16) (syndrome wrong).toNat 0

/-- CA_PARITY_ALERT: a DIMM's register clock driver reports a parity error of a command (R306). -/
def execCaParityAlert (ch : Fin 6) (port : Fin 12) (cls : Fin 4) (addr : BitVec 40) (s : State) : Result :=
  .next (if s.effB Reg.DRC_CTRL 0 then s.freeze 2 ch port cls 0 0 addr.toNat else s)

/-! ## Requests at the ports (R290–R297, R299) -/

/-- The requests a request presents itself among: oldest first at its channel; beyond the installed capacity it freezes the
controller (R290). -/
def State.present (s : State) (r : DramReq) : State :=
  let (c, x) := dramMap s.drc.grain r.addr.toNat
  if s.dramBytes ≤ r.addr.toNat then s.freeze 4 c r.port r.cls 0 0 r.addr.toNat
  else
    let q : DramReqRec := { port := r.port, cls := r.cls, tenant := r.tenant.toNat, write := r.write, line := x / 128
                            mask := if r.write then r.mask.toNat else 65535, words := r.words, since := s.now, addr := r.addr.toNat
                            qpn := r.qpn.map (·.toNat) }
    s.setDram c { s.dram c with waiting := (s.dram c).waiting ++ [q] }

/-- A write-back of a context whose eviction has been cancelled is withdrawn (R83), and one of a corrected line that the
write queue has come to hold (R304). -/
def State.stillWanted (s : State) (c : Nat) (r : DramReqRec) : Bool :=
  match r.qpn with
  | some q => Maps.has s.trn.writeback q
  | none => !(r.write && r.port == 11 && ((s.dram c).wq ++ (s.dram c).merging).any (fun e => e.line == r.line))

/-- A port carries metadata (R291). -/
def dramMetadata (port : Nat) : Bool := decide (port < 5)

/-- AGE_LIMIT or ROWHIT_MAX of a port. -/
def State.dramLimit (s : State) (port : Nat) : Nat := Nat.max 1 (s.effF (Reg.DRC_PORT_CFG0 + 8 * port) 15 8)

/-- Urgency of a port, as the last tick boundary set it (R299). -/
def State.dramUrgency (s : State) (port : Nat) : Nat := s.getF (Reg.DRC_PORT_STATUS + 8 * port) 17 16

/-- A request hits the open row of its bank. -/
def State.rowHit (s : State) (c : Nat) (r : DramReqRec) : Bool :=
  Maps.find (dramBank s.drc.dimmGib r.line) (s.dram c).openRows == some (dramRow s.drc.dimmGib r.line)

/-- The head a port offers a channel (R296, R297, R299); `order` is the class order of R45. -/
def State.dramHead (s : State) (c : Nat) (order : List Nat) (port : Nat) : Option DramReqRec :=
  let l := (s.dram c).waiting.filter (fun r => r.port == port)
  let oldest := l.head?
  if 2 ≤ s.dramUrgency port then oldest
  else if dramMetadata port then
    let aged := l.find? (fun r => decide (s.dramLimit port ≤ s.now - r.since))
    let byClass := (order.filterMap (fun k => l.find? (fun r => r.cls == k))).head?
    aged.or (byClass.or oldest)
  else if s.dramLimit port ≤ Maps.getD (s.dram c).hits port 0 then oldest
  else (l.find? (s.rowHit c)).or oldest

/-- The class a port's head competes in: one class higher at urgency 3, never into Ristretto (R299). -/
def State.dramClass (s : State) (r : DramReqRec) : Nat :=
  if s.dramUrgency r.port = 3 && decide (2 ≤ r.cls) then r.cls - 1 else r.cls

/-- A queue has room for a request: a whole-line write needs a write-queue place unless it merges, a read a read-queue place
unless it is forwarded, and a partial write without an entry both (R292–R295). -/
def State.dramRoom (s : State) (c : Nat) (r : DramReqRec) : Bool :=
  let x := s.dram c
  let held (l : List DramReqRec) : Bool := l.any (fun e => e.line == r.line)
  if held x.wq then true
  else if r.write && held x.merging then true
  else if !r.write then decide (x.rq.length < 64)
  else
    decide (x.wq.length + x.merging.length < 128) && (r.mask == 65535 || decide (x.rq.length < 64))

/-- R51 over `n` requesters: the first class of `order` in which anyone asks, and the first asker at or after the pointer. -/
def State.arbitrate (s : State) (n : Nat) (order : List Nat) (asks : List (Nat × Nat)) : Option Nat :=
  match order.find? (fun k => asks.any (fun a => a.2 == k)) with
  | some k => rotate (s.ptr n) n ((asks.filter (fun a => a.2 == k)).map (·.1))
  | none => none

/-- The words of a line with those of a write merged in under its mask (R294). -/
def mergeWords (old new : List DWord) (mask : Nat) : List DWord :=
  (upTo 16).map (fun i => if mask / 2 ^ i % 2 = 1 then nthD new i 0 else nthD old i 0)

/-- A later write merged into an earlier one of its line. -/
def DramReqRec.absorb (e r : DramReqRec) : DramReqRec :=
  { e with words := mergeWords e.words r.words r.mask, mask := Nat.lor e.mask r.mask }

/-- A line delivered to a port. -/
def State.deliver (s : State) (r : DramReqRec) (words : List DWord) : State :=
  { s with drc := { s.drc with delivered := Maps.put r.port (r.addr, words) s.drc.delivered } }

/-- `n` free words. -/
def State.freeWords (s : State) : Nat → List DWord × State
  | 0 => ([], s)
  | n + 1 =>
    let (ws, t) := State.freeWords { s with free := s.free + 1 } n
    (Config.freeWord s.free :: ws, t)

/-- The words of a DRAM line; where nothing has written it, free words that stay the line's. -/
def State.lineWords (s : State) (l : Nat) : List DWord × State :=
  match Maps.find l s.drc.lines with
  | some ws => (ws, s)
  | none =>
    let (ws, s) := s.freeWords 16
    (ws, { s with drc := { s.drc with lines := Maps.put l ws s.drc.lines } })

/-- A read accepted while its line waits for a merge; it keeps the words merged before it, under their mask, for later ones are not
its own (R292, R294). -/
def DramReqRec.awaitsMerge (r : DramReqRec) : Bool := !r.write && decide (65536 ≤ r.mask)

/-- The request entered into its queue: forwarded, merged, or queued (R292–R294); a write-back it carries is accepted
(R83), and one of a corrected line takes what the line holds (R304). -/
def State.dramEnter (s : State) (c : Nat) (r : DramReqRec) : State :=
  let (words, s) := if r.write && r.port == 11 then s.lineWords (r.addr / 128) else (r.words, s)
  let s := if r.write && r.port == 11 then s.bump (dramReg Reg.DRC_CH_CNT_WB c) else s
  let r := { r with words }
  let x := s.dram c
  let absorbIn (l : List DramReqRec) : List DramReqRec := l.map (fun e => if e.line = r.line then e.absorb r else e)
  let s := match r.qpn with
    | some q => { s with trn := { s.trn with writeback := Maps.put q true s.trn.writeback } }
    | none => s
  match x.wq.find? (fun e => e.line == r.line) with
  | some e =>
    if r.write then s.setDram c { x with wq := absorbIn x.wq }
    else (s.deliver r e.words).bump (dramReg Reg.DRC_CH_CNT_FWD c)
  | none =>
    if !r.write then
      let r := match x.merging.find? (fun e => e.line == r.line) with
        | some e => { r with mask := 65536 + e.mask, words := e.words }
        | none => r
      s.setDram c { x with rq := x.rq ++ [r] }
    else if x.merging.any (fun e => e.line == r.line) then s.setDram c { x with merging := absorbIn x.merging }
    else if r.mask = 65535 then s.setDram c { x with wq := x.wq ++ [r] }
    else s.setDram c { x with merging := x.merging ++ [r], rq := x.rq ++ [{ r with write := false, mask := 0, qpn := none }] }

/-- DRAM_REQUEST_ACCEPT: requests appear at the ports, and a channel takes at most one of the ports' heads into its queues
(R288–R297). A frozen controller keeps its queues, and a channel that is not Up serves no port (R307, R309). DESIGN CHOICE, log 146:
a row hit counts toward ROWHIT_MAX when it is accepted, against the rows open then. -/
def execDramRequestAccept (ch : Fin 6) (slot : Fin 64) (arrivals : List DramReq) (s : State) : Result :=
  .next (
    let s := arrivals.foldl State.present s
    let s := s.setDram ch { s.dram ch with waiting := (s.dram ch).waiting.filter (s.stillWanted ch) }
    let order := s.grantOrder (40 + ch) slot
    let heads := ((upTo 12).filterMap (s.dramHead ch order)).filter (s.dramRoom ch)
    let heads := if s.frozen || (s.dram ch).state ≠ 2 then [] else heads
    match s.arbitrate 12 order (heads.map (fun r => (r.port, s.dramClass r))) with
    | none => s
    | some p =>
      match heads.find? (fun r => r.port == p) with
      | none => s
      | some r =>
        let x := s.dram ch
        let older := (x.waiting.filter (fun e => e.port == p)).head?
        let run := if older == some r || !s.rowHit ch r then 0 else Maps.getD x.hits p 0 + 1
        let s := s.setDram ch { x with waiting := x.waiting.erase r, hits := Maps.put p run x.hits }
        s.dramEnter ch r)

/-! ## Issue and return (R300–R302, R304) -/

/-- The requests that may issue: reads, or the write queue during a drain or where no read can issue; a Ristretto read precedes writes
even in a drain (R300). A read accepted behind a merge of its line waits for the merge (R294); a write
waits for a read of its line accepted before it (R292). -/
def State.dramCandidates (s : State) (c : Nat) : List DramReqRec :=
  let x := s.dram c
  let reads := x.rq.filter (fun r => !r.awaitsMerge)
  let writes := x.wq.filter (fun w => !reads.any (fun r => r.line == w.line))
  if x.drain then
    let first := reads.filter (fun r => r.cls == 0)
    if !first.isEmpty then first else if writes.isEmpty then reads else writes
  else if reads.isEmpty then writes
  else reads

/-- A refresh precedes every class: four tREFI behind, until caught up, one slot per tick (R301). -/
def State.refreshFirst (s : State) (c : Nat) : Bool :=
  (s.dram c).catchUp && (s.dram c).refreshTick != some s.now

/-- What requester 12 has to issue: refreshes owed, of which one a tick at most while it catches up, and neighbour refreshes, which
are activates and so wait on a frozen or silent channel (R301, R302, R307). -/
def State.refreshOwed (s : State) (c : Nat) : Bool :=
  decide (0 < (s.dram c).owed) && !((s.dram c).catchUp && (s.dram c).refreshTick == some s.now)
def State.neighbourOwed (s : State) (c : Nat) : Bool := !s.frozen && (s.dram c).state == 2 && !(s.dram c).nr.isEmpty

/-- Who is granted a channel's slot: 12 for the refresh requester, else a port (R300, R301). -/
def State.dramGrant (s : State) (c slot : Nat) : Option Nat :=
  let x := s.dram c
  if s.refreshFirst c then some 12
  else
    let calibrating := s.drc.calTick == some s.now && decide (slot < 4)
    let work := if s.frozen || x.state ≠ 2 || calibrating then [] else (s.dramCandidates c).map (fun r => (r.port, r.cls))
    let refresh := if s.refreshOwed c || s.neighbourOwed c then [(12, 3)] else []
    s.arbitrate 13 (s.grantOrder (40 + c) slot) (work ++ refresh)

/-- The drain flag after the write queue has changed (R300). -/
def State.dramDrain (s : State) (c : Nat) : State :=
  let x := s.dram c
  let high := s.effF Reg.DRC_SCHED_CFG 31 24
  let low := Nat.min (s.effF Reg.DRC_SCHED_CFG 23 16) (high - 1)
  s.setDram c { x with drain := if x.drain then decide (low < x.wq.length) else decide (high < x.wq.length) }

/-- The rows next to a row that its neighbour refresh covers, nearest first (R302). -/
def neighbours (gib row : Nat) (far : Bool) : List Nat :=
  let rows := if gib = 128 then 2 ^ 17 else 2 ^ 16
  let near (d : Nat) : List Nat := (if d ≤ row then [row - d] else []) ++ (if row + d < rows then [row + d] else [])
  near 1 ++ (if far then near 2 else [])

/-- The row of a request opened, if it is not open: activates and row hits counted, and its neighbours' refreshes left to requester 12
where the draw says so (R298, R302). -/
def State.openRow (s : State) (c : Nat) (r : DramReqRec) (neighbour : Bool) : State :=
  if s.rowHit c r then s.bump (dramReg Reg.DRC_CH_CNT_ROWHIT c)
  else
    let gib := s.drc.dimmGib
    let row := dramRow gib r.line
    let s := s.setDram c { s.dram c with openRows := Maps.put (dramBank gib r.line) row (s.dram c).openRows }
    let s := s.bump (dramReg Reg.DRC_CH_CNT_ACT c)
    if neighbour && s.effB Reg.DRC_CTRL 2 then
      let rows := neighbours gib row (s.effB Reg.DRC_REF_CFG 12)
      s.setDram c { s.dram c with nr := (s.dram c).nr ++ rows.map (fun n => (dramBank gib r.line, n)) }
    else s

/-- A slot of a channel used: each holds one column command or one refresh (R300, R301). -/
def State.useDramSlot (s : State) (c slot : Nat) : State :=
  { s with tck := { s.tck with slotUsed := Maps.put (40 + c) (slot + 1) s.tck.slotUsed } }

/-- A column command issued in a slot: a read is in flight, a write's line is in DRAM. -/
def State.dramIssue (s : State) (c slot : Nat) (r : DramReqRec) (neighbour : Bool) : State :=
  let s := (s.openRow c r neighbour).useDramSlot c slot
  let used := Maps.put (dramBank s.drc.dimmGib r.line) (s.tck.start + 16 * slot) (s.dram c).lastUse
  let s := s.setDram c { s.dram c with lastUse := used }
  let s := if r.cls = 0 then s.useRis (40 + c) slot 1 r.tenant else s
  let x := s.dram c
  if r.write then
    let s := s.setDram c { x with wq := x.wq.erase r }
    { s with drc := { s.drc with lines := Maps.put (r.addr / 128) r.words s.drc.lines } }
  else
    let (words, s) := s.lineWords (r.addr / 128)
    s.setDram c { x with rq := x.rq.erase r, inflight := x.inflight ++ [{ r with words }] }

/-- DRAM_COLUMN_ISSUE: the slot's winner among the ports issues its oldest candidate of the winning class; `neighbour` is the
draw of the channel's entropy source (R300, R302). -/
def execDramColumnIssue (ch : Fin 6) (slot : Fin 64) (neighbour : Bool) (s : State) : Result :=
  .next (
    let s := s.dramDrain ch
    match if slot < s.slotsTaken (40 + ch) then none else s.dramGrant ch slot with
    | none => s
    | some p =>
      let mine := (s.dramCandidates ch).filter (fun r => r.port == p)
      let best := ((s.grantOrder (40 + ch) slot).filterMap (fun k => mine.find? (fun r => r.cls == k))).head?
      match best with
      | some r => (s.dramIssue ch slot r neighbour).dramDrain ch
      | none => s)

/-- The line of a partial write arrived: merged, placed in the write queue; the reads that waited for it are served (R294). -/
def State.finishMerge (s : State) (c : Nat) (r : DramReqRec) (words : List DWord) : State :=
  let x := s.dram c
  match x.merging.find? (fun e => e.line == r.line) with
  | none => s
  | some e =>
    let full := mergeWords words e.words e.mask
    let mine (q : DramReqRec) : Bool := q.line == r.line && q.awaitsMerge
    let s := s.setDram c { x with
      merging := x.merging.erase e
      wq := x.wq ++ [{ e with mask := 65535, words := full }]
      rq := x.rq.filter (fun q => !mine q) }
    (x.rq.filter mine).foldl (fun (s : State) (q : DramReqRec) => s.deliver q (mergeWords words q.words (q.mask % 65536))) s

/-- A corrected line is to be written back through port 11, unless the write queue holds it (R304). -/
def State.writeBack (s : State) (c : Nat) (r : DramReqRec) : State :=
  let w : DramReqRec := { r with port := 11, cls := 3, tenant := 0, write := true, mask := 65535, words := [], since := s.now,
                                 qpn := none }
  if s.stillWanted c w then s.setDram c { s.dram c with waiting := (s.dram c).waiting ++ [w] } else s

/-- A read that has its words: it completes a merge, or is delivered (R294). -/
def State.readDone (s : State) (c : Nat) (r : DramReqRec) (words : List DWord) : State :=
  if r.mask = 0 then s.finishMerge c r words else s.deliver r words

/-- DRAM_READ_RETURN: the oldest burst in flight arrives with some bits of its 16 words wrong, which are corrected, or are
uncorrectable; a frozen controller discards it (R285, R304, R306, R307). -/
def execDramReadReturn (ch : Fin 6) (wrong : List (BitVec 80)) (s : State) : Result :=
  .next (
    let x := s.dram ch
    match x.inflight with
    | [] => s
    | r :: rest =>
      let s := s.setDram ch { x with inflight := rest }
      if s.frozen then s
      else
        match (upTo wrong.length).find? (fun i => wordErr (nthD wrong i 0) == .ue) with
        | some w => (s.bump Reg.INT_CNT_UE).freeze 1 ch r.port r.cls w (syndrome (nthD wrong w 0)).toNat r.addr
        | none =>
          let bits := bitsCorrected wrong
          let s := if bits = 0 then s
            else
              let s := (s.bumpBy (dramReg Reg.DRC_CH_CNT_CE ch) bits).bump Reg.INT_CNT_CE
              if Nat.max 1 (s.effF Reg.DRC_SCRUB_CFG 15 8) ≤ bits then s.writeBack ch r else s
          s.readDone ch r r.words)

/-- What a channel holds in its queues is worked off: bursts in flight and reads, then the lines of the write queue in their order
(R309). -/
def State.workOff (s : State) (c : Nat) : State :=
  let s := (s.dram c).inflight.foldl (fun (s : State) (r : DramReqRec) => s.readDone c r r.words) s
  let reads := (s.dram c).rq.filter (fun r => !r.awaitsMerge)
  let s := reads.foldl (fun (s : State) (r : DramReqRec) => let (words, s) := s.lineWords (r.addr / 128); s.readDone c r words) s
  let s := (s.dram c).wq.foldl (fun (s : State) (r : DramReqRec) =>
    { s with drc := { s.drc with lines := Maps.put (r.addr / 128) r.words s.drc.lines } }) s
  s.setDram c { s.dram c with inflight := [], rq := [], wq := [], merging := [] }

/-- A channel on entry to Hold: its queues drained and what still waits at its ports after them, an all-bank refresh of both ranks, and
self-refresh; a frozen controller keeps its queues (R307, R309). -/
def State.selfRefresh (s : State) (c : Nat) : State :=
  if s.frozen || (s.dram c).state ≠ 2 then s
  else
    let waiting := (s.dram c).waiting.filter (s.stillWanted c)
    let s := waiting.foldl (fun (s : State) (r : DramReqRec) => (s.dramEnter c r).workOff c) (s.workOff c)
    let x := { s.dram c with waiting := [], openRows := [], owed := 0, catchUp := false, nr := [], drain := false, state := 3 }
    (s.setDram c x).bumpBy (dramReg Reg.DRC_CH_CNT_REF c) 2

/-! ## Refresh, idle rows, scrub (R298, R301, R305) -/

/-- A neighbour refresh issued, an activate and a precharge: it is counted, and leaves no row of the bank open (R302). -/
def State.refreshNeighbour (s : State) (c : Nat) (bank : Nat) (rest : List (Nat × Nat)) : State :=
  let x := s.dram c
  (s.setDram c { x with nr := rest, openRows := Maps.del bank x.openRows }).bump (dramReg Reg.DRC_CH_CNT_NR c)

/-- REFRESH: requester 12 has the slot and issues one neighbour refresh, unless refreshes precede every class, or one same-bank
refresh; a frozen controller goes on refreshing (R301, R302, R307). -/
def execRefresh (ch : Fin 6) (slot : Fin 64) (s : State) : Result :=
  .next (
    let x := s.dram ch
    let free := decide (s.slotsTaken (40 + ch) ≤ slot)
    if free && s.dramGrant ch slot = some 12 && (x.state == 2 || x.state == 4) then
      let s := s.useDramSlot ch slot
      match if s.neighbourOwed ch && !s.refreshFirst ch then x.nr else [] with
      | (bank, _) :: rest => s.refreshNeighbour ch bank rest
      | [] =>
        if 0 < x.owed then
          (s.setDram ch { x with
            owed := x.owed - 1
            catchUp := x.catchUp && decide (1 < x.owed)
            refreshTick := if x.catchUp then some s.now else x.refreshTick }).bump (dramReg Reg.DRC_CH_CNT_REF ch)
        else s
    else s)

/-- ZQ_CALIBRATION: a rank is calibrated every 128 ms (R301). -/
def execZqCalibration (ch : Fin 6) (rank : Fin 2) (s : State) : Result :=
  .next (
    let x := s.dram ch
    if x.state = 2 && Maps.getD x.zq rank 0 + 384000 ≤ s.now then s.setDram ch { x with zq := Maps.put rank s.now x.zq } else s)

/-- ROW_IDLE_CLOSE: in a cycle of the tick, a row without a hit for PAGE_IDLE × 8 CCLK is closed (R298). -/
def execRowIdleClose (ch : Fin 6) (bank : Fin 64) (cycle : Fin 1025) (s : State) : Result :=
  .next (
    let idle := 8 * Nat.max 1 (s.effF Reg.DRC_SCHED_CFG 15 8)
    if s.frozen || s.tck.start + cycle < Maps.getD (s.dram ch).lastUse bank 0 + idle then s
    else s.setDram ch { s.dram ch with openRows := Maps.del bank (s.dram ch).openRows })

/-- DRAM_SCRUB: the patrol's next line is read through port 11 as Grounds work; the last line of DRAM ends a pass, and the next one
begins PERIOD after it (R305). -/
def execDramScrub (s : State) : Result :=
  .next (
    if s.effB Reg.DRC_CTRL 1 && decide (0 < s.dramBytes) && !s.frozen && decide (s.drc.scrubFrom ≤ s.now) then
      let a := s.drc.scrubNext * 128
      let s := s.present { port := 11, cls := 3, tenant := 0, write := false, addr := BitVec.ofNat 40 a, mask := 65535, words := [],
                           qpn := none }
      let total := s.dramBytes / 128
      let next := s.drc.scrubNext + 1
      let after := s.nextPass s.drc.scrubFrom (Nat.max 1 (s.effF Reg.DRC_SCRUB_CFG 7 0) * hourTicks)
      let s := { s with drc := { s.drc with
        scrubNext := if next < total then next else 0, scrubFrom := if next < total then s.drc.scrubFrom else after } }
      if next < total then s.setF Reg.DRC_SCRUB_STATUS 9 0 (next * 1000 / total)
      else (s.setF Reg.DRC_SCRUB_STATUS 31 16 (s.getF Reg.DRC_SCRUB_STATUS 31 16 + 1)).setF Reg.DRC_SCRUB_STATUS 9 0 0
    else s)

/-! ## At the tick boundary -/

/-- Refreshes fall due: 3.9 µs is 11.7 ticks, 1.95 µs half of it; one refresh for each of 4 bank indices of 2 ranks (R301). -/
def DramChRec.refi (x : DramChRec) (double : Bool) : DramChRec :=
  if x.state ≠ 2 && x.state ≠ 4 then x
  else
    let acc := x.refiAcc + if double then 200 else 100
    let x := if acc < 1170 then { x with refiAcc := acc } else { x with refiAcc := acc - 1170, owed := x.owed + 8 }
    { x with catchUp := x.catchUp || decide (32 ≤ x.owed) }

/-- u of R53's thresholds for an age and a TARGET; 0 disables. -/
def urgencyOf (age target : Nat) : Nat :=
  if target = 0 || 2 * age < target then 0
  else if 4 * age < 3 * target then 1
  else if age < target then 2
  else 3

/-- Urgencies, oldest ages, channel statuses and due refreshes at a tick boundary (R26, R299, R301). -/
def State.dramTick (s : State) : State :=
  let double := s.effB Reg.DRC_REF_CFG 0
  let s := { s with drc := { s.drc with channels := Maps.mapV (fun _ x => x.refi double) s.drc.channels } }
  let waiting := s.drc.channels.flatMap (fun e => e.2.waiting)
  let s := (upTo 12).foldl (fun (s : State) (p : Nat) =>
    let age := ((waiting.filter (fun r => r.port == p)).map (fun r => s.now - r.since)).foldl Nat.max 0
    let u := urgencyOf age (s.effF (Reg.DRC_PORT_CFG0 + 8 * p) 31 16)
    s.setReg (Reg.DRC_PORT_STATUS + 8 * p) (BitVec.ofNat 32 (u * 65536 + Nat.min age 65535))) s
  s.drc.channels.foldl (fun (s : State) (e : Nat × DramChRec) =>
    s.setReg (dramReg Reg.DRC_CH_STATUS e.1) (BitVec.ofNat 32 (e.2.state * 2 ^ 29 + e.2.wq.length * 2 ^ 16 +
      e.2.rq.length * 2 ^ 8 + (if double then 2 else 0) + (if e.2.drain then 1 else 0)))) s

end Sys2Proof.Machine
end

