-- ==== Sys2Proof/Machine/Control.lean ====
section
/-! DEFINITION. The control plane: the state its processed commands leave (R19, R20), publication at a tick boundary,
revocation at b (R123, R124), rings and completions (R575–R582). -/

namespace Sys2Proof.Machine

open Sys2Proof

/-! ## The tables of the window-table point -/

/-- What commands change: tenants, extents, windows and QP contexts. -/
structure Tables where
  tenants : Table Tenant
  extents : Table Extent
  windows : Table Window
  qps : Table Qp
  deriving DecidableEq, Repr

/-- The QP context that QP_CREATE names (R581). -/
def qpOf (b : QpBlock) (tick : Nat) : Qp :=
  { state := (QpState.ofNum? b.state.toNat).getD .init, cls := Cls.ofNum b.cls.toNat, tenant := b.tenant.toNat
    remoteQpn := BitVec.ofNat 24 b.remoteQpn.toNat, mac := b.mac, vlan := b.vlan, ip := b.ip, ipv6 := b.ipv6
    udpPort := b.udpPort, pmtu := b.pmtu.toNat, egressLp := b.egressLp.toNat, altLp := b.altLp.toNat
    ePsn := BitVec.ofNat 24 b.ePsn.toNat, reqNext := BitVec.ofNat 24 b.reqPsn.toNat
    reqOldest := BitVec.ofNat 24 b.reqPsn.toNat, ackedPsn := BitVec.ofNat 24 b.ePsn.toNat - 1
    ackCode := b.ackCode.toNat, retry := b.retry.toNat, rnrRetry := b.rnrRetry.toNat, minRnr := b.minRnr.toNat
    maxRd := b.maxRd.toNat, notice := b.notice, bond := b.bond.toNat, rateTick := tick }

/-- A QP context after QP_MODIFY, group by group of MASK (R581); a QP that leaves RTS closes its repeat window (R371). -/
def Qp.modified (c : Qp) (b : QpBlock) : Qp :=
  let m (i : Nat) : Bool := bitOf b.mask i
  let c := if m 0 then { c with state := (QpState.ofNum? b.state.toNat).getD c.state } else c
  let c := if c.state == .reset then { c with failed := none } else c
  let c := if m 1 then { c with
    pmtu := b.pmtu.toNat, egressLp := b.egressLp.toNat, altLp := b.altLp.toNat, mac := b.mac, vlan := b.vlan, ip := b.ip
    ipv6 := b.ipv6, udpPort := b.udpPort, remoteQpn := BitVec.ofNat 24 b.remoteQpn.toNat } else c
  let c := if m 2 then { c with
    ackCode := b.ackCode.toNat, retry := b.retry.toNat, rnrRetry := b.rnrRetry.toNat, minRnr := b.minRnr.toNat } else c
  let c := if m 3 then { c with maxRd := b.maxRd.toNat } else c
  let c := if m 4 then { c with
    ePsn := BitVec.ofNat 24 b.ePsn.toNat, ackedPsn := BitVec.ofNat 24 b.ePsn.toNat - 1
    reqNext := BitVec.ofNat 24 b.reqPsn.toNat, reqOldest := BitVec.ofNat 24 b.reqPsn.toNat } else c
  let c := if m 5 then { c with notice := b.notice, bond := b.bond.toNat } else c
  if c.state == .rts then c else { c with repeatLeft := [] }

/-- The extents a byte range covers. -/
def extentsOf (base len : Nat) : List Nat :=
  if len = 0 then [] else (upTo ((base + len - 1) / 2097152 - base / 2097152 + 1)).map (fun k => base / 2097152 + k)

/-- An extent's PINNED count raised or lowered by one. -/
def Extent.pinned (x : Extent) (up : Bool) : Extent :=
  { x with pinCount := if up then x.pinCount + 1 else x.pinCount - 1 }

/-- The window that an opening publishes (R110, R112). -/
def openedWindow (gen : Nat) (d : WinDesc) : Window :=
  { vaBase := d.vaBase.toNat, progId := d.progId.toNat, pnaBase := d.pnaBase.toNat, tenant := d.tenant.toNat
    length := d.length.toNat, rights := d.rights, pinned := d.pinned, state := .opened, gen }

/-- A window after WINDOW_MODIFY, under MASK (R116). -/
def Window.modified (w : Window) (mask rights pinned prog : Nat) : Window :=
  let m (i : Nat) : Bool := bitOf (BitVec.ofNat 8 mask) i
  { w with
    rights := if m 0 then BitVec.ofNat 5 rights else w.rights
    pinned := if m 1 then pinned == 1 else w.pinned
    progId := if m 2 then prog else w.progId }

/-- A window from b on (R123), with one more revocation to complete. -/
def Window.closed (w : Window) (ring : Nat) (tag : Word) : Window :=
  { w with state := .closing, revokers := w.revokers ++ [(ring, tag)] }

/-- A window in state Open or Closing. -/
def Window.isOpen (w : Window) : Bool := w.state == .opened || w.state == .closing

/-- What a change makes of the tables. -/
def Change.apply (t : Tables) : Change → Tables
  | .tenantCreate id x => { t with tenants := Maps.put id x t.tenants }
  | .tenantDestroy id => { t with tenants := Maps.upd id (fun x => { x with destroyed := true, keyLost := false }) t.tenants }
  | .extentAlloc e x => { t with extents := Maps.put e x t.extents }
  | .extentFree e _ _ => { t with extents := Maps.del e t.extents }
  | .pin e up => { t with extents := Maps.upd e (fun x => x.pinned up) t.extents }
  | .discard _ _ => t
  | .windowOpen i gen d => { t with windows := Maps.put i (openedWindow gen d) t.windows }
  | .windowModify i mask rights pinned prog =>
    { t with windows := Maps.upd i (fun w => w.modified mask rights pinned prog) t.windows }
  | .revoke i ring tag => { t with windows := Maps.upd i (fun w => if w.isOpen then w.closed ring tag else w) t.windows }
  | .qpCreate q c => { t with qps := Maps.put q c t.qps }
  | .qpModify q b => { t with qps := Maps.upd q (fun c => c.modified b) t.qps }
  | .qpDestroy q => { t with qps := Maps.del q t.qps }
  | .format _ _ => { t with tenants := [], extents := [], windows := [] }

/-- The published tables. -/
def State.tables (s : State) : Tables :=
  { tenants := s.win.tenants, extents := s.win.extents, windows := s.win.windows, qps := s.trn.qps }

/-- The tables as every processed command leaves them (R20). -/
def State.processed (s : State) : Tables :=
  (s.win.changes.map (·.change)).foldl Change.apply s.tables

/-- A change processed: it is published at a later tick boundary. -/
def State.stage (s : State) (group : Option Nat) (c : Change) : State :=
  { s with win := { s.win with changes := s.win.changes ++ [{ group, change := c }] } }

/-! ## Rings (R576–R579) -/

/-- CTL_RING_STATUS.STATE. -/
def State.showRing (s : State) (r : Nat) : State :=
  let st := if !s.ringOn r then 0
    else if r ≠ 0 && (s.dmaHalted 0 || s.dmaHalted 1) then 4
    else if s.cqFull r then 3
    else if (s.ring r).busy.isSome then 2 else 1
  s.setF (ringStatus r) 31 29 st

/-- Every ring's status, and which rings are enabled. -/
def State.showRings (s : State) : State :=
  let s := (upTo 16).foldl State.showRing s
  s.setF Reg.CTL_STATUS 15 0 (((upTo 16).map (fun r => if s.ringOn r then 2 ^ r else 0)).foldl (· + ·) 0)

/-- A command ring asks to begin a command (R579, R586). -/
def State.ringAsks (s : State) (r : Nat) : Bool :=
  1 ≤ r && s.ringOn r && decide ((s.ring r).fetched ≠ 0) && (s.ring r).busy.isNone && !s.cqFull r && !s.dmaHalted 0 &&
  !s.dmaHalted 1

/-- The ring wins the rotation of R579 over CR1–CR15. -/
def State.ringWins (s : State) (r : Nat) : Bool :=
  s.ringAsks r && (rotate (s.ptr 15) 15 ((upTo 15).filter (fun i => s.ringAsks (i + 1))) == some (r - 1))

/-- An entry is valid and names an image slot. -/
def names (v : DWord) (slot : Nat) : Bool := bitOf v 63 && fld v 53 48 == slot

/-- The staged table without the entries of an image slot. -/
def dropSlot (t : Table DWord) (slot : Nat) : Table DWord := t.filter (fun e => !names e.2 slot)

/-- The image of a slot marked Draining. -/
def State.drain (s : State) (slot : Nat) : State :=
  { s with cle := { s.cle with
      images := Maps.upd slot (fun x => { x with state := 2 }) s.cle.images
      conjStaged := dropSlot s.cle.conjStaged slot } }

/-- A PROGRAM_LOAD completes: the slot's image is Executable, its entries replace those with the same program ID and kind, and an
executable image with the same IMAGE_ID drains (R173). -/
def State.imageLoaded (s : State) (slot : Nat) : State :=
  match Maps.find slot s.cle.images with
  | none => s
  | some x =>
    if x.state ≠ 3 then s
    else
      let old := (s.cle.images.filter (fun e => e.2.state == 1 && e.2.id == x.id)).map Prod.fst
      let staged := x.records.foldl (fun t e => Maps.put e.1 e.2 t) s.cle.conjStaged
      let s := old.foldl State.drain { s with cle := { s.cle with conjStaged := staged } }
      { s with cle := { s.cle with images := Maps.put slot { x with state := 1 } s.cle.images } }

/-- A ring's finished command is completed (R578, R584). -/
def State.finish (s : State) (r : Nat) : State :=
  match (s.ring r).busy with
  | none => s
  | some p =>
    if p.tick || p.group.isSome || p.event || s.cqFull r || s.dmaHalted 1 then s
    else
      let s := s.setRing r { s.ring r with busy := none }
      let s := if p.opcode = 0x10 && p.result = 0 then s.imageLoaded p.w0.toNat else s
      s.writeEntry r { type := 1, phase := false, b2 := p.result, b3 := p.opcode, tag := p.tag, w0 := p.w0, w1 := p.w1,
                       w2 := p.w2 }

/-- Every ring whose command has finished completes it. -/
def State.finishAll (s : State) : State := ((upTo 16).foldl State.finish s).showRings

/-- What a command waits for changed, wherever it is in progress. -/
def State.updBusy (s : State) (f : PendCmd → PendCmd) : State :=
  { s with ctl := { s.ctl with rings := Maps.mapV (fun _ r => { r with busy := r.busy.map f }) s.ctl.rings } }

/-- The event a ring's command waited for has come. -/
def State.eventDone (s : State) (ring : Nat) (tag : Word) (f : PendCmd → PendCmd) : State :=
  let x := s.ring ring
  match x.busy with
  | some p => if p.tag = tag && p.event then (s.setRing ring { x with busy := some (f { p with event := false }) }).finish ring
    else s
  | none => s

/-! Reasons of R582. -/
namespace Reason
def badOpcode : Nat := 0x01
def badOperand : Nat := 0x02
def dma : Nat := 0x03
def state : Nat := 0x04
def resync : Nat := 0x05
def inUse : Nat := 0x06
def noTenant : Nat := 0x07
def qpn : Nat := 0x08
def cls : Nat := 0x09
def risSlot : Nat := 0x0A
def gen : Nat := 0x0B
def range : Nat := 0x0C
def home : Nat := 0x0D
def program : Nat := 0x0E
def pinFull : Nat := 0x0F
def pinQuota : Nat := 0x10
def noSpace : Nat := 0x11
def notOpen : Nat := 0x12
def keyUnwrap : Nat := 0x13
def signature : Nat := 0x14
def format : Nat := 0x15
def slots : Nat := 0x16
def storeFull : Nat := 0x17
def codeFull : Nat := 0x18
def capacity : Nat := 0x19
def firmware : Nat := 0x1A
end Reason

/-- Commands that a Yielded unit, and a Returning one before METADATA_DONE, still take (R583): REGION_READ, MGMT, NOP,
QUERY. -/
def exempt (opcode : Nat) : Bool := opcode == 0x18 || opcode == 0x1C || opcode == 0x1D || opcode == 0x1E

/-- The refusals every command shares, in R582's order; 0 for none. -/
def State.commonReason (s : State) (opcode : Nat) (bad : Bool) (ch : Option Nat) : Nat :=
  if bad then Reason.badOperand
  else if s.pairState = 5 && !exempt opcode then Reason.state
  else if s.pairState = 6 && !s.getB Reg.TWN_RESYNC_STATUS 27 && !exempt opcode then Reason.resync
  else match ch with
    | some k => if s.dmaHalted k then Reason.dma else 0
    | none => 0

/-- A command begins on its ring when the ring wins (R579): it is refused with the first reason that applies and changes
nothing, or has its effect and completes when what it waits for has come (R578, R582). -/
def State.command (s : State) (h : CmdHead) (opcode : Nat) (bad : Bool) (ch : Option Nat) (own : State → Nat)
    (effect : State → State × PendCmd) : State :=
  let r := h.ring.val
  if !s.ringWins r then s
  else
    let s := s.setRing r { s.ring r with fetched := (s.ring r).fetched - 1 }
    let common := s.commonReason opcode (h.reservedSet || bad) ch
    let code := if common ≠ 0 then common else own s
    let (s, p) := if code ≠ 0 then (s, ({ opcode, tag := h.tag, result := code } : PendCmd)) else effect s
    ((s.setRing r { s.ring r with busy := some p }).finish r).showRings

/-! ## Publication (R19, R20, R122–R124) -/

/-- What a change changes, so that changes of one thing are published in order. -/
def Change.thing : Change → Nat × Nat
  | .tenantCreate id _ | .tenantDestroy id => (0, id)
  | .extentAlloc e _ | .extentFree e _ _ | .pin e _ => (1, e)
  | .discard f _ => (2, f)
  | .windowOpen i _ _ | .windowModify i _ _ _ _ | .revoke i _ _ => (3, i)
  | .qpCreate q _ | .qpModify q _ | .qpDestroy q => (4, q)
  | .format _ _ => (5, 0)

/-- A change is published after another one: of the same thing, or either of them is a format (R20, R421). -/
def Change.follows (c d : Change) : Bool := c.thing == d.thing || c.thing.1 == 5 || d.thing.1 == 5

/-- A line of an extent is in the placement buffer. -/
def State.buffered (s : State) (e : Nat) : Bool := s.dur.pb.any (fun x => x.line / 32768 == e)

/-- A change may be published: it is not held, its group is Placed, and a freed extent has no line left in the placement buffer
(R108, R115, R388). -/
def State.publishable (s : State) (c : PendChange) : Bool :=
  !c.held && (match c.group with | some g => !s.dur.journalOpen.contains g | none => true) &&
  (match c.change with | .extentFree e _ _ => !s.buffered e | _ => true)

/-- Pages of an extent marked Unwritten, with whatever was stored or staged there (R107, R328). -/
def State.clearExtent (s : State) (e : Nat) : State :=
  let pages := ((s.win.pages.filter (fun x => x.1 / 128 == e)).map Prod.fst)
  let s := pages.foldl State.unmapPage s
  { s with med := { s.med with
      store := Mem.clear s.med.store (e * 2097152) 2097152
      epochs := s.med.epochs.filter (fun x => x.1 / 32768 != e)
      poison := s.med.poison.filter (fun x => x.1 / 32768 != e) }
           ntl := { s.ntl with staged := s.ntl.staged.filter (fun x => x.1 / 128 != e) }
           win := { s.win with discards := s.win.discards.filter (fun x => x.1 / 128 != e) } }

/-- Pages that a discard names and that are written (R342). -/
def State.markDiscards (s : State) (first last : Nat) : State :=
  let pages := (s.win.pages.filter (fun x => decide (first ≤ x.1) && decide (x.1 < last))).map Prod.fst
  { s with win := { s.win with discards := pages.foldl (fun d p => Maps.put p false d) s.win.discards } }

/-- A destroyed QP leaves the store, the cache, the miss buffers, and its frames still to be released; Operation Table entries that no
request of it holds any more are free (R84, R96). -/
def State.forgetQp (s : State) (q : Nat) : State :=
  let (_, s) := s.takeMiss (BitVec.ofNat 24 q)
  let kept (e : Nat × OptEntry) : Bool := e.2.qpn.toNat != q || s.cle.reqs.any (fun r => r.2.opt == some e.1)
  { s with prt := { s.prt with heldOut := s.prt.heldOut.filter (fun f => f.qpn.toNat != q) }
           trn := { s.trn with
      opt := s.trn.opt.filter kept
      store := s.trn.store.filter (fun e => e.2 != q)
      cache := Maps.mapV (fun _ c => { c with ways := c.ways.filter (fun e => e.2.1 != q) }) s.trn.cache
      fetching := Maps.del q s.trn.fetching, writeback := Maps.del q s.trn.writeback
      installs := Maps.del q s.trn.installs, paceq := Maps.del q s.trn.paceq } }

/-- The request an Operation Table entry belongs to. -/
def State.reqOf (s : State) (o : Nat) : Option (Nat × Request) := s.cle.reqs.find? (fun e => e.2.opt == some o)

/-- A request waits for a stage, or for a NAND fill before a write or an atomic (R124). -/
def State.cuttable (s : State) (r : Request) : Bool :=
  let base := (s.window r.win).pnaBase
  match r.st with
  | .waiting (.stage _) _ => true
  | .waiting (.commit _) _ =>
    r.eff.writes.any (fun w => (linesOf (base + w.off) w.bytes.length).any (fun l => s.inNand (pageOfLine l))) ||
    r.matoms.any (fun m => m.due && s.inNand (pageOf m.pna))
  | .waiting .media _ => r.matoms.any (fun m => m.due && s.inNand (pageOf m.pna))
  | _ => false

/-- A read of a request waits to be issued: its link holds it, or its page is in NAND. -/
def State.readsUnissued (s : State) (id : Nat) : Bool :=
  s.med.links.any (fun l => l.2.held.any (fun w => match w.trans with | .rd _ (some r) => r == id | _ => false)) ||
  s.med.nandReads.any (fun e => e.2 == .req id)

/-- Every media read of a READ is issued: all its MREADs, and of a response longer than 16 KiB its last part (R124, R196). -/
def State.readIssued (s : State) (id : Nat) (r : Request) : Bool :=
  !s.readsUnissued id &&
  (match r.rest with
   | some x => (dropParts 16384 x.parts).isEmpty
   | none => r.eff.answers || (r.pathLength == r.len && decide (r.len ≤ 16384)))

/-- The packets of a WRITE message that are admitted and not yet Accepted leave with the message (R125, log 107). -/
def State.dropPackets (s : State) (o : Nat) : State :=
  ((s.cle.reqs.filter (fun e => e.2.opt == some o)).map Prod.fst).foldl State.dropReq s

/-- One entry of the window at b: cut, ended, or left to drain (R124); a MATOM that waits for its page in NAND is not performed after
b (log 107). -/
def State.cutEntry (i : Nat) (s : State) (x : Nat × OptEntry) : State :=
  let (o, e) := x
  let cut (s : State) : State :=
    { s with win := { s.win with windows := Maps.upd i (fun w => { w with cut := w.cut + 1 }) s.win.windows } }
  let drain : State :=
    { s with
      trn := { s.trn with opt := Maps.upd o (fun e => { e with drains := true }) s.trn.opt }
      win := { s.win with windows := Maps.upd i (fun w => { w with held := w.held + 1 }) s.win.windows } }
  if e.kind == .write && e.more then cut (((s.dropPackets o).freeOpt o).markFailed e.qpn e.psn)
  else match s.reqOf o with
    | none => drain
    | some (id, r) =>
      if s.cuttable r then cut ((s.updReq id (fun r => r.fail Code.revoked (fun _ => true))).endReq id Code.revoked)
      else if e.kind == .read && !s.readIssued id r then
        match r.rest with
        | some x => cut ((((s.dropOutstanding r.qpn r.opt).freeOpt o).dropReq id).nakCode r.qpn x.psn Code.revoked)
        | none => cut (s.endReq id Code.revoked)
      else drain

/-- The window's entries at b (R124). -/
def State.cutWindow (s : State) (i : Nat) : State :=
  (s.trn.opt.filter (fun e => e.2.win == i && e.2.gen == (s.window i).gen)).foldl (State.cutEntry i) s

/-- A tenant marked key-lost (R131). -/
def State.loseKey (s : State) (id : Nat) : State :=
  { s with win := { s.win with tenants := Maps.upd id (fun t => { t with keyLost := true }) s.win.tenants } }

/-- SCM_FORMAT: the SCM holds no metadata but a new pair-role record, or none when the twin's PAIR_ID is to be adopted; the role is then to
be decided, through a signal (R421, R582, log 53, log 134). Keys of tenants created since stand. -/
def State.formatScm (s : State) (regions : Nat) (pairId : DWord) : State :=
  let links := Maps.mapV (fun _ (l : MLinkRec) => { l with frames := [], foreign := false }) s.med.links
  let recorded := s.med.links.filterMap (fun (l : Nat × MLinkRec) => if l.2.idRead then some (l.1, l.2.identity) else none)
  let role : Option RoleRec :=
    if pairId = 0 then none else some { state := 4, serves := 3, solo := true, epoch := s.dur.epoch, pairId }
  let created (id : Nat) : Bool := s.win.changes.any (fun c => match c.change with | .tenantCreate k _ => k == id | _ => false)
  let s := { s with
    med := { s.med with links, recorded, store := [], epochs := [], poison := [], regions := [], repairs := [] }
    win := { s.win with pages := [], pinStore := [], discards := [], keySlots := s.win.keySlots.filter (fun e => created e.1) }
    dur := { s.dur with intents := [], inflight := [], twinOutcomes := [], mapGroups := [] }
    twn := { s.twn with role, needFull := false, marked := [], signals := s.twn.signals ++ [PairSignal.decide] } }
  (s.setF Reg.DUR_META_CFG 5 0 regions).setB Reg.TWN_STATUS 21 false

/-- What a change brings with it beyond the tables. -/
def State.published (s : State) (c : Change) : State :=
  match c with
  | .tenantCreate id t =>
    if t.encrypt && !Maps.has s.win.keySlots id then s.loseKey id else s
  | .tenantDestroy id => { s with win := { s.win with keySlots := Maps.del id s.win.keySlots } }
  | .extentAlloc e _ => s.clearExtent e
  | .extentFree e ring tag => (s.markDiscards (e * 128) (e * 128 + 128)).eventDone ring tag id
  | .pin _ _ => s
  | .discard f l => s.markDiscards f l
  | .windowOpen i _ d =>
    if d.pinned then { s with win := { s.win with pinStore := Maps.put i true s.win.pinStore } } else s
  | .windowModify i mask _ pinned _ =>
    if bitOf (BitVec.ofNat 8 mask) 1 then
      { s with win := { s.win with
        pinStore := if pinned = 1 then Maps.put i true s.win.pinStore else Maps.del i s.win.pinStore } }
    else s
  | .revoke i _ _ => if (s.window i).revokers.length = 1 then s.cutWindow i else s
  | .qpCreate q c =>
    if c.cls == .ristretto then { s with trn := { s.trn with store := Maps.put (q % 4096) q s.trn.store } } else s
  | .qpModify _ _ => s
  | .qpDestroy q => s.forgetQp q
  | .format regions pairId => s.formatScm regions pairId

/-- The tables replaced. -/
def State.setTables (s : State) (t : Tables) : State :=
  { s with win := { s.win with tenants := t.tenants, extents := t.extents, windows := t.windows }
           trn := { s.trn with qps := t.qps } }

/-- One change published, unless it must wait or follows one that waits on the same thing (R20, R388). -/
def State.publishOne (a : State × List PendChange) (c : PendChange) : State × List PendChange :=
  let (s, left) := a
  if s.publishable c && !left.any (fun x => c.change.follows x.change) then
    ((s.setTables (c.change.apply s.tables)).published c.change, left)
  else (s, left ++ [c])

/-- Every change that may be published is (R19, point 1). -/
def State.publish (s : State) : State :=
  let cs := s.win.changes
  let (s, left) := cs.foldl State.publishOne (s, [])
  { s with win := { s.win with changes := left } }

end Sys2Proof.Machine
end

