-- ==== Sys2Proof/Machine/Placement.lean ====
section
/-! DEFINITION. What a confirmation from a stack brings about (R350, R352, R361, R375, R387, R388, R401), and the rows
of chapter 11. -/

namespace Sys2Proof.Machine

open Sys2Proof

/-! ## Lines become Placed -/

/-- A line's stored bytes, as they travel, and EPOCH (R263). -/
def State.storeLine (s : State) (line : Nat) (data : List Byte) (epoch : Nat) : State :=
  { s with med := { s.med with
      store := Mem.setBytes s.med.store (line * 64) data
      epochs := Maps.put line epoch s.med.epochs } }

/-- Entries changed by `f` where `p` holds. -/
def State.mapPb (s : State) (p : PbEntry → Bool) (f : PbEntry → PbEntry) : State :=
  { s with dur := { s.dur with pb := s.dur.pb.map (fun e => if p e then f e else e) } }

/-- A QP's counts after one of its lines became Placed, or Mirrored (R352). -/
def State.frontPlaced (s : State) (q : BitVec 24) (w : Nat) : State :=
  match s.qp q with | some c => s.setQp q (c.linePlaced w) | none => s
def State.frontMirrored (s : State) (q : BitVec 24) (w : Nat) : State :=
  match s.qp q with | some c => s.setQp q (c.lineMirrored w) | none => s

/-- The free entries of the mirror partition a CONFIRM reports, and a CONFIRM sent (R393, R401); a unit in SOLO mode sends
none (R378). -/
def State.confirm (s : State) (frames : List Nat) (outcomes : List OutcomeKey) (intents : List Nat) : State :=
  if s.dur.solo then s
  else s.tell (.confirm frames outcomes intents s.mirrorFree)

/-- CONFIRM for the frames of which no line is short of Placed any more, among the given ones (R401). -/
def State.confirmFrames (s : State) (frames : List Nat) : State :=
  let done := (dedup frames).filter (fun n => n ≠ 0 && !s.dur.pb.any (fun e => e.mirror && e.frame == n && !e.placed) &&
    !s.twn.heldLines.any (fun a => a.frame == n))
  if done.isEmpty then s else s.confirm done [] []

/-- A page's mapping is Placed (R350). -/
def State.mapPlaced (s : State) (line : Nat) : Bool := !Maps.has s.dur.mapGroups (pageOfLine line)

/-- Stored entries whose page mapping is Placed become Placed (R350): counted on their QP, confirmed to the twin when they
came from it. -/
def State.settle (s : State) : State :=
  let ready (e : PbEntry) : Bool := e.stored && !e.placed && s.mapPlaced e.line
  let es := s.dur.pb.filter ready
  let s := s.mapPb ready (fun e => { e with placed := true })
  let s := s.bumpBy Reg.DUR_CNT_PLACED es.length
  let s := es.foldl (fun (s : State) (e : PbEntry) => if e.mirror then s else s.frontPlaced e.qpn e.wseq) s
  (s.confirmFrames ((es.filter (·.mirror)).map (·.frame))).reapPb

/-- A frame of the pool, or a TPN, becomes free (R388). -/
def State.freeLoc (s : State) : PageLoc → State
  | .scm m f => let l := s.link m; s.setLink m { l with frames := Maps.del f l.frames }
  | .nand t => { s with ntl := { s.ntl with map := Maps.del t s.ntl.map } }

/-- An intent slot changed. -/
def State.updIntent (s : State) (k : Nat) (f : Intent → Intent) : State :=
  { s with dur := { s.dur with intents := Maps.upd k f s.dur.intents } }

/-- The write event of a slot counted Placed, or Mirrored, line by line (R375). -/
def State.slotPlaced (s : State) (x : Intent) : State :=
  x.lines.foldl (fun (s : State) _ => s.frontPlaced x.qpn x.wseq) (s.bumpBy Reg.DUR_CNT_PLACED x.lines.length)
def State.slotMirrored (s : State) (x : Intent) : State :=
  x.lines.foldl (fun (s : State) _ => s.frontMirrored x.qpn x.wseq) (s.bumpBy Reg.DUR_CNT_MIRRORED x.lines.length)

/-- A valid slot whose lines' pages all have their mapping Placed: the event is Placed, or the twin is told, once (R350, R375). -/
def State.settleSlot (s : State) (e : Nat × Intent) : State :=
  let (k, x) := e
  let due := s.dur.pb.any (fun e => e.intent == some k && !e.placed)
  if !x.valid || !due || !x.lines.all (fun l => s.mapPlaced l.1) then s
  else
    let s := s.mapPb (fun e => e.intent == some k) (fun e => { e with placed := true })
    if x.fromTwin then s.confirm [] [] [x.peer] else s.slotPlaced x

/-- A journal group is Placed (R387, R388): what it alone held back goes on. -/
def State.groupPlaced (s : State) (g : Nat) : State :=
  let gone := (s.dur.frees.filter (fun e => e.1 == g)).map Prod.snd
  let stillOpen := s.dur.journalOpen.filter (· != g)
  let s := { s with dur := { s.dur with
    journalOpen := stillOpen
    undo := match stillOpen.head? with | some o => s.dur.undo.filter (fun e => decide (o ≤ e.1)) | none => []
    journalPlaced := s.dur.journalPlaced ++ [g]
    frees := s.dur.frees.filter (fun e => e.1 != g)
    mapGroups := s.dur.mapGroups.filter (fun e => e.2 != g) } }
  let s := gone.foldl State.freeLoc s
  let s := s.updBusy (fun p => if p.group == some g then { p with group := none } else p)
  (s.dur.intents.foldl State.settleSlot s).settle.finishAll

/-! ## Intent slots (R374, R375) -/

/-- The header of a slot is Placed: the slot is valid (R375). -/
def State.headerPlaced (s : State) (k : Nat) : State :=
  match Maps.find k s.dur.intents with
  | none => s
  | some x =>
    let x := { x with valid := true, stored := x.header true }
    (s.updIntent k (fun _ => x)).settleSlot (k, x)

/-- A home line of a slot is Placed; after the last one its header is written with STATE free (R375, steps 4 and 5). -/
def State.homePlaced (s : State) (k line : Nat) : State :=
  match Maps.find k s.dur.intents with
  | none => s
  | some x =>
    let data := match x.lines.find? (fun l => l.1 == line) with | some l => l.2 | none => []
    let s := (s.storeLine line data x.epoch).updIntent k (fun x => { x with homes := x.homes + 1 })
    if x.homes + 1 < x.lines.length then s else s.issueFor s.metaStack x.cls x.tenant (.slotFree k)

/-- A slot's header is Placed with STATE free: the slot is free, and its entries leave with it (R361, R375). -/
def State.slotFreed (s : State) (k : Nat) : State :=
  let s := { s with dur := { s.dur with intents := Maps.del k s.dur.intents } }
  (s.mapPb (fun e => e.intent == some k) (fun e => { e with intent := none, mirrored := e.mirrored || s.dur.solo })).reapPb

/-! ## Outcome entries (R368, R369) -/

/-- The oldest own outcome entry of a name is confirmed; a name that the twin gives has no QP (R368). -/
def State.outcomeConfirmed (s : State) (k : OutcomeKey) : State :=
  match s.dur.outcomes.find? (fun o => o.key == k || { o.key with qpn := 0 } == k) with
  | some o => { s with dur := { s.dur with outcomes := s.dur.outcomes.erase o } }
  | none => s

/-- Own outcome entries confirmed: the answers that waited for them go out. -/
def State.outcomesConfirmed (s : State) (ks : List OutcomeKey) : State := (ks.foldl State.outcomeConfirmed s).releaseAnswers

/-! ## The rows of chapter 11 -/

/-- An extent has a line that is not Mirrored: one in the buffer, or one written in SOLO mode and not copied since (R378, R383). -/
def State.unmirrored (s : State) (e : Nat) : Bool :=
  s.dur.pb.any (fun x => !x.mirror && x.line / 32768 == e && !x.mirrored) || s.twn.dirty.any (fun p => p.1 / 128 == e)

/-- The in-flight mark of an extent: absent, or its journal group still open (R383). -/
def State.markPlaced (s : State) (e : Nat) : Bool :=
  match Maps.find e s.dur.inflight with
  | some (g, _) => !s.dur.journalOpen.contains g
  | none => false

/-- An extent marked in the in-flight map (R383). -/
def State.markExtent (s : State) (e : Nat) : State :=
  if Maps.has s.dur.inflight e then s
  else
    let (g, s) := s.journal [(Tbl.inflight, e)]
    { s with dur := { s.dur with inflight := Maps.put e (g, 0) s.dur.inflight } }

/-- A later write to a line is held back from the stack: an intent slot of an earlier entry covers the line (R376). -/
def State.slotHolds (s : State) (e : PbEntry) : Bool :=
  (s.dur.pb.takeWhile (· != e)).any (fun x => x.line == e.line && x.intent.isSome && x.intent != e.intent)

/-- An earlier entry of the same line has not been issued yet (R362). -/
def State.issuable (s : State) (e : PbEntry) : Bool :=
  !e.issued && !s.slotHolds e && (e.mirror || s.markPlaced (e.line / 32768)) &&
  (e.intent.isSome || (match Maps.find (pageOfLine e.line) s.win.pages with | some (.scm _ _) => true | _ => false))

/-- This unit ships its lines to the twin now: a bundle is up, there is no side conflict, and the pair is one that mirrors
(R390, R398, R411, R415). -/
def State.mirroring (s : State) : Bool :=
  !s.dur.solo && (s.twn.bundle0.up || s.twn.bundle1.up) && !s.getB Reg.TWN_STATUS 20 &&
  (s.pairState == 1 || s.pairState == 4 || s.pairState == 6)

/-- An entry is the first of its write event still to be shipped on the bundle of its page: merged lines follow whole ones, after
which they entered the buffer (R361). -/
def State.firstToShip (s : State) (e : PbEntry) : Bool :=
  s.dur.pb.find? (fun x => !x.shipped && !x.mirror && x.intent.isNone && x.qpn == e.qpn && x.wseq == e.wseq &&
    x.line / 256 % 2 == e.line / 256 % 2) == some e

/-- An entry can be shipped: the twin has room for it (R400). A slot's lines go in INTENT frames (R375). -/
def State.shippable (s : State) (e : PbEntry) : Bool :=
  !e.shipped && !e.mirror && e.intent.isNone && s.mirroring && s.twn.shipped < s.twn.credit && s.markPlaced (e.line / 32768) &&
  s.firstToShip e

/-- An entry's WR issued, or the image of a slot's line (R362, R375). -/
def State.issueEntry (s : State) (e : PbEntry) : State :=
  let s := s.mapPb (fun x => x == e) (fun x => { x with issued := true })
  match e.intent, Maps.find (pageOfLine e.line) s.win.pages with
  | some k, _ => s.issueFor s.metaStack e.cls e.tenant (.image k e.line)
  | none, some (.scm m _) => s.issueFor m e.cls e.tenant (.wr e.line e.qpn e.wseq e.mirror)
  | none, _ => s

/-- As many entries, from the first on, as one frame of 4,096 B holds (R393, R398). -/
def fitFrame (es : List PbEntry) : List PbEntry :=
  let fits (n : Nat) : Bool := mirrorLen ((es.take n).map (fun e => (e.line, e.tenant))) ≤ 4096
  es.take (((upTo (es.length + 1)).filter fits).foldl Nat.max 1)

/-- The entries that go in one MIRROR frame with an entry: those of its write event and bundle that follow it, as far as their extents
are marked, they have its EPOCH, the twin has room and the frame holds them (R361, R383, R393, R398, R400). -/
def State.shipGroup (s : State) (e : PbEntry) : List PbEntry :=
  let same (x : PbEntry) : Bool :=
    !x.shipped && !x.mirror && x.intent.isNone && x.qpn == e.qpn && x.wseq == e.wseq && x.line / 256 % 2 == e.line / 256 % 2
  let es := (s.dur.pb.filter same).takeWhile (fun x => s.markPlaced (x.line / 32768) && x.epoch == e.epoch)
  fitFrame (es.take (Nat.min 64 (s.twn.credit - s.twn.shipped)))

/-- Entries of one write event shipped in a MIRROR frame, on the bundle of their pages (R398, R399). -/
def State.shipEntries (s : State) (e : PbEntry) (es : List PbEntry) : State :=
  let s := s.mapPb (fun x => es.contains x) (fun x => { x with shipped := true })
  let s := { s with twn := { s.twn with shipped := s.twn.shipped + es.length } }
  s.sendFor (s.pickBundle (e.line / 256 % 2 == 1)) e.cls e.tenant
    (.mirror (es.map (fun x => (x.line, x.tenant, s.entryAtRest x))) (es.map (fun x => (x.qpn, x.wseq))) e.epoch e.cls)

/-- An entry shipped, and with it those that fit in its frame (R398). -/
def State.shipEntry (s : State) (e : PbEntry) : State := s.shipEntries e (s.shipGroup e)

/-- SWITCH goes out on each bundle that is up, once the reclaimed side's Accepted lines are all shipped (R418). -/
def State.trySwitch (s : State) : State :=
  match s.twn.switchDue with
  | none => s
  | some b =>
    let left := s.dur.pb.any (fun e => !e.mirror && e.intent.isNone && !e.shipped &&
      (match s.extent (e.line / 32768) with | some x => x.sideB == b | none => false))
    if left then s
    else
      let s := { s with twn := { s.twn with switchDue := none } }
      let s := if s.twn.bundle0.up then s.sendFrame false (.switch b) else s
      if s.twn.bundle1.up then s.sendFrame true (.switch b) else s

/-- PLACEMENT_ISSUE: the oldest entry with something left to do is written to the stack and shipped to the twin (R361,
R362, R398); its extent is marked in the in-flight map first (R383). -/
def execPlacementIssue (s : State) : Result :=
  .next (
    match s.dur.pb.find? (fun e => !e.mirror && !(e.issued && e.shipped) && !e.placed && !Maps.has s.dur.inflight (e.line / 32768)) with
    | some e => s.markExtent (e.line / 32768)
    | none =>
      match s.dur.pb.find? (fun e => s.issuable e || s.shippable e) with
      | none => s
      | some e =>
        let t := if s.shippable e then (s.shipEntry e).trySwitch else s
        if s.issuable e then t.issueEntry { e with shipped := e.shipped || s.shippable e } else t)

/-- INFLIGHT_MARK_CLEAR: an extent that is not pinned and has had no unmirrored line for a whole frame loses its mark
(R383). -/
def execInflightMarkClear (extent : BitVec 27) (s : State) : Result :=
  .next (
    let e := extent.toNat
    match Maps.find e s.dur.inflight with
    | none => s
    | some (_, quiet) =>
      let pinned := match s.extent e with | some x => x.pinCount ≠ 0 | none => false
      if quiet < 2 || s.unmirrored e || pinned then s
      else
        let s := (s.journal [(Tbl.inflight, e)]).2
        { s with dur := { s.dur with inflight := Maps.del e s.dur.inflight } })

/-- The independent count covers every line of a QP's write events up to a WSEQ (R355). -/
def Qp.covers (c : Qp) (solo : Bool) (t : Word) : Bool :=
  c.xcheck.all (fun e => !wseqGe t (BitVec.ofNat 32 e.1) || (e.2.2.1 ≥ e.2.1 && (solo || e.2.2.2 ≥ e.2.1)))

/-- A request's FENCEs whose targets pass, marked complete (R354). -/
def Request.fenced (r : Request) (pass : Word → Bool) : Request :=
  { r with fences := r.fences.map (fun f => if pass f.target then { f with done := true } else f) }

/-- The FENCEs of a QP whose targets the durable front covers complete, those that pass the cross-check; a mismatch releases none of the
later ones and is a dangerous failure (R354, R355). -/
def State.completeFences (s : State) (qpn : BitVec 24) : State :=
  match s.qp qpn with
  | none => s
  | some c =>
    let front := durableFront s.dur.solo c
    let mine := s.cle.reqs.filter (fun e => e.2.qpn == qpn)
    let due := mine.flatMap (fun e => e.2.fences.filter (fun f => !f.done && wseqGe front f.target))
    let good := due.filter (fun f => c.covers s.dur.solo f.target)
    let s := if good.length = due.length then s else (s.setB Reg.DUR_STATUS 0 true).report 0x16 (qpn.toNat % 4096)
    if good.isEmpty then s
    else
      let pass := fun (t : Word) => wseqGe front t && c.covers s.dur.solo t
      let s := mine.foldl (fun (s : State) (e : Nat × Request) => s.setReq e.1 (e.2.fenced pass)) s
      let c := { c with xcheck := c.xcheck.filter (fun e => !pass (BitVec.ofNat 32 e.1)) }
      (s.setQp qpn c).bumpBy Reg.DUR_CNT_FLUSH good.length

/-- At a tick boundary every QP's FENCEs are looked at (R354). -/
def State.fenceAll (s : State) : State :=
  (dedup ((s.cle.reqs.filter (fun e => e.2.fences.any (fun f => !f.done))).map (fun e => e.2.qpn.toNat))).foldl
    (fun (s : State) (q : Nat) => s.completeFences (BitVec.ofNat 24 q)) s

/-- FENCE_COMPLETE: the FENCEs of a QP complete whose targets the durable front covers (R354, R355). -/
def execFenceComplete (qpn : BitVec 24) (s : State) : Result := .next (s.completeFences qpn)

/-- FLUSH_LIMIT_EXPIRY: in LinkHold, a request that waits on a FENCE ends with SOLO once TWN_FLUSH_LIMIT ticks have passed
from the later of the FENCE's issue and the entry to LinkHold (R380, R151). -/
def execFlushLimitExpiry (req : Nat) (s : State) : Result :=
  .next (match Maps.find req s.cle.reqs with
    | none => s
    | some r =>
      let limit := s.effF Reg.TWN_FLUSH_LIMIT 23 0
      let waits := match r.st with | .waiting .fence _ => true | _ => false
      if s.pairState = 2 && limit ≠ 0 && waits &&
          r.fences.any (fun f => !f.done && Nat.max f.tick s.twn.holdAt + limit ≤ s.now) then
        (s.bump Reg.CLE_CNT_ABORT).endReq req Code.solo
      else s)

/-- A slot whose header has been issued goes to the twin in INTENT frames, once the twin has room for its lines (R375, R400). -/
def State.shipSlot (s : State) (e : Nat × Intent) : State :=
  let (k, x) := e
  if !x.headed || x.shipped || x.fromTwin || !s.mirroring || s.twn.credit < s.twn.shipped + x.lines.length then s
  else
    let s := s.updIntent k (fun x => { x with shipped := true })
    let s := { s with twn := { s.twn with shipped := s.twn.shipped + x.lines.length } }
    s.ship x.cls x.tenant (.intent k x)
def State.shipSlots (s : State) : State := s.dur.intents.foldl State.shipSlot s

/-- INTENT_HEADER_PLACED: every image of a slot is Placed, so its header is written with STATE valid and the slot goes to the
twin, unless it came from there, once the twin has room for it (R375, R400). -/
def execIntentHeaderPlaced (slot : BitVec 14) (s : State) : Result :=
  .next (match Maps.find slot.toNat s.dur.intents with
    | none => s
    | some x =>
      if x.headed || x.images < x.lines.length then s
      else
        let s := s.updIntent slot.toNat (fun x => { x with headed := true })
        (s.issueFor s.metaStack x.cls x.tenant (.header slot.toNat)).shipSlot (slot.toNat, { x with headed := true }))

/-- An earlier write to a line of a slot has not been issued to its stack yet (R362). -/
def State.earlierWaits (s : State) (k : Nat) (x : Intent) : Bool :=
  x.lines.any (fun l => (s.dur.pb.takeWhile (fun e => !(e.intent == some k && e.line == l.1))).any (fun e => e.line == l.1 && !e.issued))

/-- INTENT_HOME_WRITE: after the twin's confirmation the lines of a valid slot are written home; the slot is freed with the
last of them (R375). -/
def execIntentHomeWrite (slot : BitVec 14) (s : State) : Result :=
  .next (match Maps.find slot.toNat s.dur.intents with
    | none => s
    | some x =>
      if !x.valid || x.homing || !(x.twinDone || x.fromTwin || s.dur.solo) || s.earlierWaits slot.toNat x then s
      else
        let s := s.updIntent slot.toNat (fun x => { x with homing := true })
        x.lines.foldl (fun (s : State) (l : Nat × List Byte) =>
          match Maps.find (pageOfLine l.1) s.win.pages with
          | some (.scm m _) => s.issueFor m x.cls x.tenant (.home slot.toNat l.1)
          | _ => s.homePlaced slot.toNat l.1) s)

/-- JOURNAL_APPLY: the oldest Placed group is applied to the tables' home locations, once no earlier group is still open; the ring is
trimmed when its home writes are Placed (R387). -/
def execJournalApply (s : State) : Result :=
  .next (match s.dur.journalPlaced with
    | [] => s
    | g :: rest =>
      if s.dur.journalOpen.any (· < g) then s
      else
        let recs := Maps.getD s.dur.groups g []
        let applying := if recs.isEmpty then s.dur.applying else Maps.put g recs.length s.dur.applying
        let s := { s with dur := { s.dur with journalPlaced := rest, groups := Maps.del g s.dur.groups, applying } }
        recs.foldl (fun (s : State) (r : Nat × Nat) => s.issue s.metaStack (.tableHome g r.1 r.2)) s)

end Sys2Proof.Machine
end

