-- ==== Sys2Proof/Machine/Commands.lean ====
section
/-! DEFINITION. The commands of the control rings that cross through the window-table point, and those that cross
nothing (R98–R116, R123–R127, R342, R581, R589). -/

namespace Sys2Proof.Machine

open Sys2Proof

/-- The published or processed tenant of an ID, unless it is destroyed. -/
def Tables.tenant (t : Tables) (id : Nat) : Option Tenant :=
  match Maps.find id t.tenants with
  | some x => if x.destroyed then none else some x
  | none => none

/-- The entry of a metadata table that a change changes (R386, R387): TABLE and INDEX. -/
def Change.tables : Change → List (Nat × Nat)
  | .tenantCreate i _ | .tenantDestroy i => [(Tbl.tenant, i)]
  | .extentAlloc e _ | .extentFree e _ _ | .pin e _ => [(Tbl.extent, e)]
  | .windowOpen i _ _ | .windowModify i _ _ _ _ | .revoke i _ _ => [(Tbl.window, i)]
  | .format _ _ => [(Tbl.role, 0)]
  | .discard _ _ | .qpCreate _ _ | .qpModify _ _ | .qpDestroy _ => []

/-- A processed change with its journal group; the command completes after its group and the next boundary (R388, R578). -/
def State.crossing (s : State) (h : CmdHead) (opcode : Nat) (c : Change) : State × PendCmd :=
  let (g, s) := s.journal c.tables
  (s.stage (some g) c, { opcode, tag := h.tag, tick := true, group := some g })

/-! ## Tenants and extents -/

/-- TENANT_CREATE: the key engine puts the key into its slot, and the record is published at the next boundary (R98, R103, R130). -/
def execTenantCreate (h : CmdHead) (tenant : BitVec 16) (encrypt risAllowed : Bool) (scmQuota pinQuota : Word)
    (tileQuota : BitVec 16) (len : Word) (wrapped : List Byte) (s : State) : Result :=
  let bad := 4096 ≤ tenant.toNat || 4096 < tileQuota.toNat || len.toNat ≠ (if encrypt then 96 else 0)
  .next (s.command h 0x01 bad (if encrypt then some 3 else none)
    (fun s =>
      if Maps.has s.processed.tenants tenant.toNat then Reason.inUse
      else if encrypt && (s.unwrapKey tenant.toNat wrapped).isNone then Reason.keyUnwrap else 0)
    (fun s =>
      let key := if encrypt then s.unwrapKey tenant.toNat wrapped else none
      let s := match key with | some k => s.setKeySlot tenant.toNat k | none => s
      s.crossing h 0x01 (.tenantCreate tenant.toNat
        { encrypt, risAllowed, scmQuota := scmQuota.toNat, pinQuota := pinQuota.toNat, tileQuota := tileQuota.toNat
          key := if encrypt then wrapped else [] })))

/-- TENANT_DESTROY (R103, R136). -/
def execTenantDestroy (h : CmdHead) (tenant : BitVec 16) (s : State) : Result :=
  let id := tenant.toNat
  .next (s.command h 0x02 (4096 ≤ id) none
    (fun s =>
      let t := s.processed
      if (t.tenant id).isNone then Reason.noTenant
      else if t.extents.any (fun e => e.2.tenant == id) || t.qps.any (fun e => e.2.tenant == id) ||
          t.windows.any (fun e => e.2.tenant == id && (e.2.state == .opened || e.2.state == .closing)) then Reason.inUse
      else 0)
    (fun s => s.crossing h 0x02 (.tenantDestroy id)))

/-- EXTENT_ALLOC (R107, R108). -/
def execExtentAlloc (h : CmdHead) (extent : Word) (tenant : BitVec 16) (side : Byte) (s : State) : Result :=
  .next (s.command h 0x03 (2 ^ 27 ≤ extent.toNat || 4096 ≤ tenant.toNat || 1 < side.toNat) none
    (fun s =>
      if Maps.has s.processed.extents extent.toNat then Reason.inUse
      else if (s.processed.tenant tenant.toNat).isNone then Reason.noTenant else 0)
    (fun s => s.crossing h 0x03 (.extentAlloc extent.toNat { tenant := tenant.toNat, sideB := side == 1 })))

/-- A window in state Open or Closing covers part of an extent. -/
def Tables.covered (t : Tables) (e : Nat) : Bool :=
  t.windows.any (fun w => (w.2.state == .opened || w.2.state == .closing) &&
    decide (w.2.pnaBase < (e + 1) * 2097152) && decide (e * 2097152 < w.2.pnaBase + w.2.length))

/-- EXTENT_FREE completes when no line of the extent is left in the placement buffer (R108). -/
def execExtentFree (h : CmdHead) (extent : Word) (s : State) : Result :=
  let e := extent.toNat
  .next (s.command h 0x04 (2 ^ 27 ≤ e) none
    (fun s =>
      if !Maps.has s.processed.extents e then Reason.range
      else if s.processed.covered e then Reason.inUse else 0)
    (fun s =>
      let (s, p) := s.crossing h 0x04 (.extentFree e h.ring h.tag)
      (s, { p with event := true })))

/-- Every extent of a range is Allocated to a tenant. -/
def Tables.owns (t : Tables) (tenant base len : Nat) : Bool :=
  (extentsOf base len).all (fun e => match Maps.find e t.extents with | some x => x.tenant == tenant | none => false)

/-- EXTENT_DISCARD: the whole pages of the range are hinted (R342). -/
def execExtentDiscard (h : CmdHead) (pna length : DWord) (tenant : BitVec 16) (s : State) : Result :=
  let a := pna.toNat
  let n := length.toNat
  .next (s.command h 0x05 (4096 ≤ tenant.toNat) none
    (fun s => if s.processed.owns tenant.toNat a n then 0 else Reason.range)
    (fun s => (s.stage none (.discard (ceilDiv a 16384) ((a + n) / 16384)), { opcode := 0x05, tag := h.tag, tick := true })))

/-! ## Windows -/

/-- A program ID has an entry in the conjugation table in force (R114, R166). -/
def State.hasProgram (s : State) (prog : Nat) : Bool :=
  s.cle.conj.any (fun e => e.1 / 32 == prog && bitOf e.2 63)

/-- Extents of a range whose PINNED count rises from 0. -/
def Tables.newlyPinned (t : Tables) (exts : List Nat) : List Nat :=
  exts.filter (fun e => match Maps.find e t.extents with | some x => x.pinCount == 0 | none => false)

/-- Written pages of extents that are in NAND. -/
def State.nandPages (s : State) (exts : List Nat) : List Nat :=
  (s.win.pages.filter (fun e => exts.contains (e.1 / 128) && (match e.2 with | .nand _ => true | _ => false))).map Prod.fst

/-- Unwritten pages of extents. -/
def State.unwrittenPages (s : State) (exts : List Nat) : List Nat :=
  (exts.flatMap (fun e => (upTo 128).map (fun k => e * 128 + k))).filter s.unwritten

/-- The refusal of a pinning (R114, R116): 0, PIN_FULL, PIN_QUOTA or NO_SPACE. -/
def State.pinReason (s : State) (tenant : Nat) (exts : List Nat) : Nat :=
  let t := s.processed
  let fresh := t.newlyPinned exts
  let held := 128 * (t.extents.filter (fun e => e.2.tenant == tenant && e.2.pinCount != 0)).length
  let quota := match Maps.find tenant t.tenants with | some x => x.pinQuota | none => 0
  let frames := (s.nandPages fresh).length + (s.unwrittenPages fresh).length
  if 16384 ≤ Maps.count (fun (w : Window) => w.pinned && w.isOpen) t.windows then Reason.pinFull
  else if quota < held + 128 * fresh.length then Reason.pinQuota
  else if s.poolFree < frames then Reason.noSpace
  else 0

/-- An Unwritten page takes a frame of the pool, which is written with zeros (R384). -/
def State.zeroPage (s : State) (page : Nat) : State :=
  (upTo 256).foldl (fun (s : State) (k : Nat) =>
    let l := page * 256 + k
    (s.storeLine l (s.sealLine l (List.replicate 64 0)) s.dur.epoch).issue (s.lineStack l) (.fix l)) (s.mapPage .grounds page)

/-- A line of an extent that the chip itself writes is on its way to its stack. -/
def State.filling (s : State) (exts : List Nat) : Bool :=
  let fix (t : MTrans) : Bool := match t with | .fix l => exts.contains (l / 32768) | _ => false
  s.med.links.any (fun e => e.2.trans.any (fun x => fix x.2.trans) || e.2.held.any (fun w => fix w.trans))

/-- A pinning accepted: the PINNED counts rise, destages of its pages are given up, Unwritten pages take zeroed frames, NAND
pages are to be promoted into reserved frames, and the publication waits (R115, R116, R384). -/
def State.pin (s : State) (h : CmdHead) (opcode i : Nat) (exts : List Nat) (c : Change) : State × PendCmd :=
  let fresh := s.processed.newlyPinned exts
  let nand := s.nandPages fresh
  let s := ((s.med.destages.map Prod.fst).filter (fun p => exts.contains (p / 128))).foldl State.abandon s
  let s := (s.unwrittenPages fresh).foldl State.zeroPage s
  let (g, s) := s.journal (c.tables ++ exts.map (fun e => (Tbl.extent, e)))
  let s := exts.foldl (fun s e => s.stage (some g) (.pin e true)) s
  let x : PinRec := { ring := h.ring, tag := h.tag }
  let s := { s with
    win := { s.win with
      reserved := s.win.reserved ++ nand
      changes := s.win.changes ++ [{ group := some g, change := c, held := true }]
      pinWait := s.win.pinWait ++ [(i, x)] }
    med := { s.med with promoteWant := s.med.promoteWant ++ nand.filter (fun p => !s.med.promoteWant.contains p) } }
  (s, { opcode, tag := h.tag, group := some g, event := true })

/-- A generation with which an index may be opened (R112). -/
def Window.opensWith (w : Window) (gen : Nat) (recycle : Bool) : Bool :=
  (w.state == .free && gen == (if w.gen = 0 || w.gen = 255 then 1 else w.gen + 1)) ||
  (w.state == .retired && recycle && gen == 1)

/-- WINDOW_OPEN (R112, R114, R115). -/
def execWindowOpen (h : CmdHead) (rkey : Word) (recycle : Bool) (d : WinDesc) (s : State) : Result :=
  let i := rkey.toNat / 256
  let gen := rkey.toNat % 256
  let base := d.pnaBase.toNat
  let len := d.length.toNat
  let exts := extentsOf base len
  .next (s.command h 0x08 (len == 0) none
    (fun s =>
      let t := s.processed
      let side (e : Nat) : Bool := match Maps.find e t.extents with | some x => x.sideB | none => false
      if !(Maps.getD t.windows i {}).opensWith gen recycle then Reason.gen
      else if !t.owns d.tenant.toNat base len || 2 ^ 64 < d.vaBase.toNat + len then Reason.range
      else if exts.any (fun e => side e != side (extentOf base)) then Reason.home
      else if !s.hasProgram d.progId.toNat then Reason.program
      else if d.pinned then s.pinReason d.tenant.toNat exts else 0)
    (fun s =>
      let c : Change := .windowOpen i gen d
      if d.pinned then s.pin h 0x08 i exts c else s.crossing h 0x08 c))

/-- WINDOW_MODIFY (R115, R116). -/
def execWindowModify (h : CmdHead) (rkey : Word) (mask rights pinned : BitVec 8) (progId : BitVec 16) (s : State) : Result :=
  let i := rkey.toNat / 256
  let m (k : Nat) : Bool := bitOf mask k
  let bad := 7 < mask.toNat || (m 0 && 31 < rights.toNat) || (m 1 && 1 < pinned.toNat) || (m 2 && 1023 < progId.toNat)
  let c : Change := .windowModify i mask.toNat rights.toNat pinned.toNat progId.toNat
  .next (s.command h 0x09 bad none
    (fun s =>
      let w := Maps.getD s.processed.windows i {}
      if rkey.toNat % 256 ≠ w.gen then Reason.gen
      else if w.state != .opened then Reason.notOpen
      else if m 2 && !s.hasProgram progId.toNat then Reason.program
      else if m 1 && pinned == 1 && !w.pinned then s.pinReason w.tenant (extentsOf w.pnaBase w.length) else 0)
    (fun s =>
      let w := Maps.getD s.processed.windows i {}
      let exts := extentsOf w.pnaBase w.length
      if m 1 && pinned == 1 && !w.pinned then s.pin h 0x09 i exts c
      else
        let (s, p) := s.crossing h 0x09 c
        if m 1 && pinned == 0 && w.pinned then (exts.foldl (fun s e => s.stage p.group (.pin e false)) s, p) else (s, p)))

/-- The first held change of a thing, no longer held. -/
def unhold (k : Nat × Nat) : List PendChange → List PendChange
  | [] => []
  | c :: cs => if c.held && c.change.thing == k then { c with held := false } :: cs else c :: unhold k cs

/-- The oldest pinned publication of a window that waits, taken out (R115). -/
def dropPin (i : Nat) : List (Nat × PinRec) → List (Nat × PinRec)
  | [] => []
  | x :: xs => if x.1 = i then xs else x :: dropPin i xs

/-- PINNED_PUBLISH: no page of the window's extents is in NAND any more, its new frames are zeroed (R384), and the oldest pinned publication of the window, in its place
among the commands (R20), goes to the next boundary (R115). -/
def execPinnedPublish (index : BitVec 24) (s : State) : Result :=
  let i := index.toNat
  .next (match s.win.pinWait.find? (fun e => e.1 == i) with
    | none => s
    | some (_, x) =>
      let w := Maps.getD s.processed.windows i {}
      let exts := extentsOf w.pnaBase w.length
      if !(s.nandPages exts).isEmpty || s.filling exts then s
      else
        let s := { s with win := { s.win with
          pinWait := dropPin i s.win.pinWait, reserved := s.win.reserved.filter (fun p => !exts.contains (p / 128))
          changes := unhold (3, i) s.win.changes } }
        s.eventDone x.ring x.tag (fun p => { p with tick := true }))

/-- WINDOW_REVOKE (R123, R127, R582). -/
def execWindowRevoke (h : CmdHead) (rkey : Word) (s : State) : Result :=
  let i := rkey.toNat / 256
  .next (s.command h 0x0A false none
    (fun s =>
      let w := Maps.getD s.processed.windows i {}
      if rkey.toNat % 256 ≠ w.gen then Reason.gen
      else if w.state == .free || w.state == .retired then Reason.notOpen else 0)
    (fun s =>
      let (s, p) := s.crossing h 0x0A (.revoke i h.ring h.tag)
      (s, { p with event := true })))

/-- The ring and TAG of a revocation of a window, processed and not yet published. -/
def PendChange.revokes (i : Nat) (c : PendChange) : Option (Nat × Word) :=
  match c.change with
  | .revoke j r t => if j = i then some (r, t) else none
  | _ => none

/-- A request on a revoked window that holds no Operation Table entry leaves with what it still had to do: it was answered by an earlier
clause, and nothing of it may reach the index's next opening (R2, R124; DESIGN CHOICE, log 148). -/
def State.expel (s : State) (id : Nat) : State :=
  let s := s.dropReq id
  { s with cle := { s.cle with reqs := Maps.del id s.cle.reqs } }

/-- Requests of hosts on a window. -/
def State.onWindow (s : State) (i : Nat) : List Nat :=
  (s.cle.reqs.filter (fun e => e.2.win == i && !e.2.chip)).map Prod.fst

/-- WINDOW_REVOKE_DONE: no request on a closing window holds an Operation Table entry any more; every other revocation of it,
published or not, completes with the first (R113, R124, R127). -/
def execWindowRevokeDone (index : BitVec 24) (s : State) : Result :=
  let i := index.toNat
  .next (
    let w := s.window i
    if w.state != .closing || s.trn.opt.any (fun e => e.2.win == i && e.2.gen == w.gen) then s
    else
      let w' := { w with state := if w.gen = 255 then .retired else .free, revokers := [], held := 0, cut := 0 }
      let more := s.win.changes.filterMap (PendChange.revokes i)
      let s := { s with win := { s.win with
        windows := Maps.put i w' s.win.windows, changes := s.win.changes.filter (fun c => (c.revokes i).isNone) } }
      let s := if w.pinned then
          let exts := (extentsOf w.pnaBase w.length).foldl
            (fun t e => Maps.upd e (fun (x : Extent) => x.pinned false) t) s.win.extents
          { s with win := { s.win with extents := exts, pinStore := Maps.del i s.win.pinStore } }
        else s
      let s := ((s.onWindow i).foldl State.expel s).journal [(Tbl.window, i)] |>.2
      match w.revokers with
      | [] => s
      | (r, t) :: rest =>
        let s := s.eventDone r t (fun p => { p with w0 := BitVec.ofNat 64 w.held, w1 := BitVec.ofNat 64 w.cut })
        (rest ++ more).foldl (fun s x => s.eventDone x.1 x.2 id) s)

/-! ## QPs -/

/-- An operand of the QP block is out of range, among the groups it uses (R581). -/
def qpBad (b : QpBlock) (create : Bool) : Bool :=
  let m (i : Nat) : Bool := create || bitOf b.mask i
  (create && (4096 ≤ b.tenant.toNat || 3 < b.cls.toNat || b.state.toNat < 1 || 3 < b.state.toNat || b.mask != 0)) ||
  (!create && (63 < b.mask.toNat || (m 0 && 4 < b.state.toNat))) ||
  (m 1 && (4 < b.pmtu.toNat || 31 < b.egressLp.toNat || 31 < b.altLp.toNat || 2 ^ 24 ≤ b.remoteQpn.toNat ||
    fld b.vlan 14 12 != 0)) ||
  (m 2 && (7 < b.retry.toNat || 7 < b.rnrRetry.toNat || 31 < b.ackCode.toNat || 31 < b.minRnr.toNat)) ||
  (m 3 && (b.maxRd.toNat < 1 || 16 < b.maxRd.toNat)) ||
  (m 4 && (2 ^ 24 ≤ b.ePsn.toNat || 2 ^ 24 ≤ b.reqPsn.toNat)) ||
  (m 5 && 2 ^ 20 ≤ b.bond.toNat)

/-- QP_CREATE (R76, R104). -/
def execQpCreate (h : CmdHead) (b : QpBlock) (s : State) : Result :=
  let q := b.qpn.toNat
  .next (s.command h 0x0C (qpBad b true) none
    (fun s =>
      let t := s.processed
      let slotTaken := t.qps.any (fun e => e.2.cls == .ristretto && e.1 % 4096 == q % 4096)
      if q ≤ 1 || 0x100000 ≤ q then Reason.qpn
      else if Maps.has t.qps q then Reason.inUse
      else match t.tenant b.tenant.toNat with
        | none => Reason.noTenant
        | some x =>
          if b.cls == 3 || (b.cls == 0 && !x.risAllowed) then Reason.cls
          else if b.cls == 0 && slotTaken then Reason.risSlot else 0)
    (fun s => (s.stage none (.qpCreate q (qpOf b s.now)), { opcode := 0x0C, tag := h.tag, tick := true })))

/-- A change of state that QP_MODIFY may ask for (R581). -/
def stateChangeOk (c : QpState) (n : Nat) : Bool :=
  n == 4 || (match c with | .reset => n == 1 | .init => n == 2 | .rtr => n == 3 | .rts => false | .error => n == 0)

/-- QP_MODIFY (R589). -/
def execQpModify (h : CmdHead) (b : QpBlock) (s : State) : Result :=
  let q := b.qpn.toNat
  .next (s.command h 0x0D (qpBad b false) none
    (fun s => match Maps.find q s.processed.qps with
      | none => Reason.qpn
      | some c =>
        if bitOf b.mask 0 && !stateChangeOk c.state b.state.toNat then Reason.state
        else if bitOf b.mask 4 && c.state != .init && c.state != .rtr then Reason.state else 0)
    (fun s => (s.stage none (.qpModify q b), { opcode := 0x0D, tag := h.tag, tick := true })))

/-- QP_DESTROY (R84, R589). -/
def execQpDestroy (h : CmdHead) (qpn : Word) (s : State) : Result :=
  .next (s.command h 0x0E false none
    (fun s => if Maps.has s.processed.qps qpn.toNat then 0 else Reason.qpn)
    (fun s => (s.stage none (.qpDestroy qpn.toNat), { opcode := 0x0E, tag := h.tag, tick := true })))

/-! ## Commands that cross nothing -/

/-- REGION_READ of the 1 GiB control-software region (R287, R581). -/
def execRegionRead (h : CmdHead) (offset : DWord) (len : Word) (s : State) : Result :=
  .next (s.command h 0x18 (2 ^ 24 < len.toNat || 2 ^ 30 < offset.toNat + len.toNat) (some 4) (fun _ => 0)
    (fun s => ({ s with ctl := { s.ctl with hostData := s.ctl.region.bytes offset.toNat len.toNat } },
      { opcode := 0x18, tag := h.tag })))

/-- REGION_WRITE of the control-software region (R287, R581). -/
def execRegionWrite (h : CmdHead) (offset : DWord) (data : List Byte) (s : State) : Result :=
  .next (s.command h 0x19 (2 ^ 24 < data.length || 2 ^ 30 < offset.toNat + data.length) (some 5) (fun _ => 0)
    (fun s => ({ s with ctl := { s.ctl with region := s.ctl.region.setBytes offset.toNat data } },
      { opcode := 0x19, tag := h.tag })))

/-- MGMT: the body goes to management firmware, which answers; no firmware is FIRMWARE (R448, R581, R582). -/
def execMgmt (h : CmdHead) (_body : List Byte) (result : Byte) (w0 w1 w2 : DWord) (s : State) : Result :=
  .next (s.command h 0x1C false none
    (fun s => if !s.mcp.running || s.mcp.halted || result != 0 then Reason.firmware else 0)
    (fun s => ({ s with mcp := { s.mcp with irqPend := setBit s.mcp.irqPend 10 true } },
      { opcode := 0x1C, tag := h.tag, w0, w1, w2 })))

/-- NOP completes after the next tick boundary (R578). -/
def execNop (h : CmdHead) (s : State) : Result :=
  .next (s.command h 0x1D false none (fun _ => 0) (fun s => (s, { opcode := 0x1D, tag := h.tag, tick := true })))

/-- The four words of a window's descriptor (R110). -/
def Window.words (w : Window) : List Nat :=
  let st := match w.state with | .free => 0 | .opened => 1 | .closing => 2 | .retired => 3
  [w.vaBase, w.progId * 2 ^ 48 + w.pnaBase, w.tenant * 2 ^ 48 + w.length,
   w.rights.toNat * 2 ^ 11 + (if w.pinned then 2 ^ 10 else 0) + st * 2 ^ 8 + w.gen]

/-- The 32 B descriptor of a window index, little-endian (R6, R110). -/
def Window.bytes (w : Window) : List Byte := w.words.flatMap (fun v => leBytes v 8)

/-- The words QUERY returns of a published object, a QP context as of the last tick boundary (R26); zeros for an absent one
(R581). -/
def State.queryWords (s : State) (kind index : Nat) : Nat × Nat × Nat :=
  match kind with
  | 1 => match s.tables.tenant index with
    | some t => ((if t.encrypt then 1 else 0) + (if t.risAllowed then 2 else 0) + t.tileQuota * 2 ^ 16, t.scmQuota, t.pinQuota)
    | none => (0, 0, 0)
  | 2 => match Maps.find index s.win.extents with
    | some x => (1 + x.tenant * 2 ^ 16 + (if x.sideB then 2 ^ 32 else 0), x.pinCount, 0)
    | none => (0, 0, 0)
  | 3 =>
    let b := (s.window index).bytes
    (leNat (slice b 8 8), leNat (slice b 16 8), leNat (slice b 24 8))
  | _ => Maps.getD s.snap.qps index (0, 0, 0)

/-- QUERY (R581). -/
def execQuery (h : CmdHead) (kind : Byte) (index : Word) (s : State) : Result :=
  .next (s.command h 0x1E (kind == 0 || 4 < kind.toNat) none (fun _ => 0) (fun s =>
    let (a, b, c) := s.queryWords kind.toNat index.toNat
    (s, { opcode := 0x1E, tag := h.tag, w0 := BitVec.ofNat 64 a, w1 := BitVec.ofNat 64 b, w2 := BitVec.ofNat 64 c })))

end Sys2Proof.Machine
end

