-- ==== Sys2Proof/Machine/Stager.lean ====
section
/-! DEFINITION. The stager: taking and filling tiles (R230–R238), late and failed stages (R239–R243), channel halts
(R244, R245, R443). -/

namespace Sys2Proof.Machine

open Sys2Proof

/-- TILE_INIT_DONE: every tile is written with zeros, and fills may start (R222). -/
def execTileInitDone (s : State) : Result := .next (s.setB Reg.STG_STATUS 16 true)

/-! ## Choosing a fill (R230, R232, R236) -/

/-- Key of channel `k` of cluster `c`. -/
def chanKey (c k : Nat) : Nat := 8 * c + k

/-- A stager channel. -/
def State.chan (s : State) (c k : Nat) : Channel := Maps.getD s.stg.channels (chanKey c k) {}

/-- A stager channel replaced. -/
def State.setChan (s : State) (c k : Nat) (x : Channel) : State :=
  { s with stg := { s.stg with channels := Maps.put (chanKey c k) x s.stg.channels } }

/-- STG_CFG.DEPTH: 0 acts as 1, values above 4 as 4. -/
def State.stgDepth (s : State) : Nat := clamp 1 4 (s.effF Reg.STG_CFG 2 0)

/-- STG_CFG.RIS_TILES: values above 128 act as 128. -/
def State.risTiles (s : State) : Nat := Nat.min 128 (s.effF Reg.STG_CFG 15 8)

/-- Tiles charged to a tenant (R234). -/
def State.tilesOf (s : State) (t : Nat) : Nat := Maps.count (fun x => x.tenant == t) s.stg.tiles

/-- Tiles of a cluster that are not Free. -/
def State.tilesUsed (s : State) (c : Nat) : Nat := (s.stg.tiles.filter (fun e => e.1 / 512 == c)).length

/-- A fill of a tile of a request is under way. -/
def State.fillingAt (s : State) (id stage index : Nat) : Bool :=
  s.stg.tiles.any (fun e => e.2.req == id && e.2.stage == stage && e.2.index == index && !e.2.orphan && !e.2.freeing)

/-- The next fill R230 allows a request: stage and tile index. Stages are filled in order, each once the one before it is resident. -/
def State.nextFill (s : State) (id : Nat) (r : Request) : Option (Nat × Nat) :=
  match r.pour with
  | none => none
  | some p =>
    let may (k : Nat) (st : StageRec) : Bool := st.failed.isNone && (decide (k = p.cursor) || p.resident (k - 1))
    let lacks (k : Nat) (st : StageRec) (j : Nat) : Bool :=
      (match st.tiles[j]? with | some x => x.tile.isNone | none => false) && !s.fillingAt id k j
    (upTo (s.stgDepth + 1)).findSome? (fun i =>
      let k := p.cursor + i
      match p.stages[k]? with
      | some st => if may k st then ((upTo st.tiles.length).find? (lacks k st)).map (k, ·) else none
      | none => none)

/-- take_tile of R232: the tile a request's next fill takes. DESIGN CHOICE, log 143: a tile that is to be freed at the next tick boundary is
no victim. -/
def State.takeTile (s : State) (c : Nat) (ris : Bool) : Option Nat :=
  let free := 512 - s.tilesUsed c
  if (ris && 0 < free) || (!ris && s.risTiles < free) then
    (upTo 512).map (fun i => 512 * c + i) |>.find? (fun t => !Maps.has s.stg.tiles t)
  else
    let isRis (id : Nat) : Bool := match Maps.find id s.cle.reqs with | some r => r.cls == .ristretto | none => false
    let v := s.stg.tiles.filter (fun e =>
      e.1 / 512 == c && e.2.state == .ready && !e.2.orphan && !e.2.freeing && (ris || !isRis e.2.req))
    match v with
    | [] => none
    | x :: xs => some (xs.foldl (fun b e => if e.2.order < b.2.order then e else b) x).1

/-- A request is on this cluster with tiles to fill. -/
def Request.pours (r : Request) (c : Nat) : Bool :=
  r.cluster == some c && r.pour.isSome && r.st != .discarded && r.rest.isNone

/-- Its tenant's quota allows one more tile (R236). -/
def State.quotaAllows (s : State) (r : Request) : Bool :=
  let q := match Maps.find r.tenant s.win.tenants with | some t => t.tileQuota | none => 0
  s.tilesOf r.tenant + 1 ≤ q

/-- The requests of a cluster whose next fill R230 allows and for which a tile would be found. -/
def State.fillAsks (s : State) (c : Nat) : List (Nat × Request) :=
  s.cle.reqs.filter (fun e =>
    e.2.pours c && (s.nextFill e.1 e.2).isSome && (s.takeTile c (e.2.cls == .ristretto)).isSome)

/-- The first class in class-number order that is present (R45, R51). -/
def firstClass (l : List (Nat × Request)) : Option Cls :=
  [Cls.ristretto, .lungo, .drip, .grounds].find? (fun c => l.any (fun e => e.2.cls == c))

/-- The winner of R51 over the request frames of a cluster. -/
def State.fillWinner (s : State) (l : List (Nat × Request)) : Option (Nat × Request) :=
  match firstClass l with
  | none => none
  | some c =>
    let m := l.filter (fun e => e.2.cls == c)
    match rotate (s.ptr 1024) 1024 (m.map (fun e => e.2.frame)) with
    | none => none
    | some f => m.find? (fun e => e.2.frame == f)

/-- A stage fails: no further fill of it starts, its tiles are freed at the next tick boundary, and a request that waits on it ends with
the code (R241, R242, log 127). -/
def State.failStage (s : State) (id stage code : Nat) : State :=
  match Maps.find id s.cle.reqs with
  | none => s
  | some r =>
    let mine (t : Tile) : Bool := t.req == id && t.stage == stage && !t.orphan && !t.freeing
    let gone := (s.stg.tiles.filter (fun e => mine e.2)).map Prod.fst
    let f (_ : Nat) (t : Tile) : Tile :=
      if mine t then { t with freeing := true } else t
    let s := { s with stg := { s.stg with tiles := Maps.mapV f s.stg.tiles } }
    let fail (p : Pour) : Pour := { p with stages := (upTo p.stages.length).map (fun i =>
      let st := nthD p.stages i { tiles := [] }
      if i = stage then { tiles := st.tiles.map (fun x => { x with tile := none }), failed := some code } else st) }
    let r := { r with pour := r.pour.map fail, ctx := { r.ctx with t := r.ctx.t.filter (fun e => !gone.contains e.2) } }
    let s := s.setReq id r
    if (match r.st with | .waiting (.stage k) _ => k == stage | _ => false) then s.failWait id code else s

/-- The source of a tile has reported an error: its stage fails with MEDIA_UE or STAGE_FAIL (R241, log 127). -/
def State.failTile (s : State) (t code : Nat) : State :=
  match Maps.find t s.stg.tiles with
  | some x =>
    if x.orphan || x.freeing then s
    else s.failStage x.req x.stage (if code = Code.mediaUe then Code.mediaUe else Code.stageFail)
  | none => s

/-- The read of one line of a fill, from where the line is (R227, R228), in the class of its request (R231); a Poisoned line fails the
stage (R241, R269). -/
def State.readFill (s : State) (r : Request) (tile line : Nat) : State :=
  if (s.newest line).isSome then (s.bump Reg.DUR_CNT_FWD).takeLine tile line
  else if Maps.has s.med.poison line then s.failTile tile Code.mediaUe
  else match Maps.find (pageOfLine line) s.win.pages with
    | some (.scm m _) => s.issueFor m r.cls r.tenant (.fill line tile)
    | some (.nand _) =>
      if Maps.has s.ntl.staged (pageOfLine line) then (s.wantNand (pageOfLine line) (.tile tile)).takeLine tile line
      else s.wantNand (pageOfLine line) (.tile tile)
    | none => s.takeLine tile line

/-- A tile source of a schedule changed. -/
def Pour.setSrc (p : Pour) (k j : Nat) (f : TileSrc → TileSrc) : Pour :=
  { p with stages := (upTo p.stages.length).map (fun i =>
      let st := nthD p.stages i { tiles := [] }
      if i = k then { st with tiles := (upTo st.tiles.length).map (fun n =>
        let x := nthD st.tiles n { off := 0, zero := true }
        if n = j then f x else x) } else st) }

/-- A request's schedule changed. -/
def State.updPour (s : State) (id : Nat) (f : Pour → Pour) : State :=
  match Maps.find id s.cle.reqs with
  | some r => s.setReq id { r with pour := r.pour.map f }
  | none => s

/-- An evicted tile leaves its request's stage (R233). -/
def State.evict (s : State) (t : Nat) : State :=
  match Maps.find t s.stg.tiles with
  | none => s
  | some x => (s.updPour x.req (fun p => p.setSrc x.stage x.index (fun y => { y with tile := none }))).bump Reg.STG_CNT_EVICT

/-- The tile that a fill takes: for window source the bytes up to the window's last one, zeros past it and in scratch (R199, R227). -/
def State.fillTile (s : State) (id : Nat) (r : Request) (src : TileSrc) (stage index : Nat) : Tile :=
  let w := s.window r.win
  let base := if src.zero then 0 else w.pnaBase + src.off
  let len := if src.zero then 0 else Nat.min 4096 (w.length - src.off)
  { state := .filling, tenant := r.tenant, req := id, stage, index, base, len, frame := r.frame }

/-- The fill of a tile for a request goes on: neither its stage nor its request has failed (R241, R243). -/
def State.fillGoesOn (s : State) (t id : Nat) : Bool :=
  match Maps.find t s.stg.tiles with
  | some x => x.req == id && !x.orphan && !x.freeing
  | none => false

/-- The fill of a winner started on the lowest idle channel (R232). -/
def State.startFill (s : State) (c k : Nat) (id : Nat) (r : Request) : State :=
  match s.nextFill id r, s.takeTile c (r.cls == .ristretto), r.pour with
  | some (st, j), some t, some p =>
    let src := nthD (nthD p.stages st { tiles := [] }).tiles j { off := 0, zero := true }
    let s := s.evict t
    let x := s.fillTile id r src st j
    let s := { s with stg := { s.stg with tiles := Maps.put t x s.stg.tiles } }
    let s := s.setChan c k { s.chan c k with tile := some t }
    let s := s.bump Reg.STG_CNT_FILL
    let s := if src.filled then s.bump Reg.STG_CNT_REFETCH else s
    (linesOf x.base x.len).foldl (fun (s : State) l => if s.fillGoesOn t id then s.readFill r t l else s) s
  | _, _, _ => s

/-- TILE_FILL_START: one cycle of a cluster's stager (R222, R232, R236, R237). -/
def execTileFillStart (cluster : Fin 8) (s : State) : Result :=
  .next (
    let idle := (upTo 8).find? (fun k => (s.chan cluster k).tile.isNone && !(s.chan cluster k).halted)
    match idle with
    | none => s
    | some k =>
      if !s.getB Reg.STG_STATUS 16 then s
      else
        let asks := s.fillAsks cluster
        let e := asks.filter (fun x => s.quotaAllows x.2)
        let s := s.bumpBy Reg.STG_CNT_QUOTA_WAIT (asks.length - e.length)
        match s.fillWinner e with
        | none => s
        | some (id, r) => s.startFill cluster k id r)

/-! ## The end of a fill -/

/-- A read of a tile's fill is still outstanding on a media link or in the NAND tier. -/
def State.fillPending (s : State) (t : Nat) : Bool :=
  s.transactions.any (fun x => match x with | .fill _ u => u == t | _ => false) ||
  s.med.nandReads.any (fun e => e.2 == .tile t)

/-- The tile becomes Free. -/
def State.freeTile (s : State) (t : Nat) : State := { s with stg := { s.stg with tiles := Maps.del t s.stg.tiles } }

/-- A tile of a request's schedule has become resident: noted if it is of window source and never was (R238). -/
def Request.firstFill (r : Request) (stage index : Nat) : Request :=
  match (r.pour.bind (fun p => p.stages[stage]?)).bind (fun st => st.tiles[index]?) with
  | some y =>
    let k := (r.stagings, stage, index, y.off)
    if y.zero || y.counted || r.firsts.contains k then r else { r with firsts := r.firsts ++ [k] }
  | none => r

/-- A filled tile becomes Ready or Held, and counts for BYTES_READ at the next commit (R224, R226, R238). -/
def State.tileFilled (s : State) (t : Nat) (x : Tile) : State :=
  match Maps.find x.req s.cle.reqs with
  | none => s.freeTile t
  | some r =>
    let src (y : TileSrc) : TileSrc := { y with tile := some t, filled := true }
    let r := { r.firstFill x.stage x.index with pour := r.pour.map (fun p => p.setSrc x.stage x.index src) }
    let s := { s with stg := { s.stg with
      tiles := Maps.put t { x with state := .ready, order := s.stg.order } s.stg.tiles
      order := s.stg.order + 1 } }
    (s.setReq x.req r).rebind x.req r

/-- TILE_FILL_DONE: the last byte of a channel's tile is written, or its source reported an error (R224, R241, R247). -/
def execTileFillDone (cluster channel : Fin 8) (err : Option Byte) (s : State) : Result :=
  .next (
    let ch := s.chan cluster channel
    match ch.tile with
    | none => s
    | some t =>
      if ch.halted || s.fillPending t then s
      else
        let s := s.setChan cluster channel { ch with tile := none }
        let s := match err with | some code => s.failTile t code.toNat | none => s
        match Maps.find t s.stg.tiles with
        | none => s
        | some x => if x.freeing then s else if x.orphan then s.freeTile t else s.tileFilled t x)

/-- STAGE_LATE: at the boundary at which STG_LATE_LIMIT ticks have passed since the one that followed the waiting segment, a
request whose stage is not resident ends (R239, R240). -/
def execStageLate (req : Nat) (s : State) : Result :=
  .next (match Maps.find req s.cle.reqs with
    | none => s
    | some r => match r.st, r.pour with
      | .waiting (.stage k) since, some p =>
        let limit := s.effF Reg.STG_LATE_LIMIT 23 0
        if limit ≠ 0 && since + limit ≤ s.now + 1 && !p.resident k then
          ((s.bump Reg.STG_CNT_LATE).bump Reg.CLE_CNT_ABORT).endReq req Code.stageLate
        else s
      | _, _ => s)

/-! ## Channel halts (R244, R245, R443) -/

/-- The first register of a channel's status group. -/
def chanReg (c k : Nat) : Nat := Reg.STG_CHAN_STATUS + 0x20 * chanKey c k

/-- The status registers of a channel as they stand for a fill (R244). -/
def State.showChan (s : State) (c k tile cause source pna : Nat) (x : Tile) (halted : Bool) : State :=
  let b := chanReg c k
  let s := s.setReg b (BitVec.ofNat 32
    ((if halted then 2 ^ 31 else 0) + cause * 2 ^ 28 + source * 2 ^ 25 + tile))
  let s := s.setReg (b + 4) (BitVec.ofNat 32 (x.frame * 2 ^ 12 + x.tenant))
  (s.setReg (b + 8) (BitVec.ofNat 32 (pna / 64 % 2 ^ 26 * 64))).setReg (b + 12) (BitVec.ofNat 32 (pna / 2 ^ 32))

/-- INT_ESC_CFG.HALT_LIMIT: 0 acts as 1. -/
def State.haltLimit (s : State) : Nat := Nat.max 1 (s.getF Reg.INT_ESC_CFG 15 8)

/-- A channel halts: its status holds the cause, the request whose fill it carried ends with STAGE_FAIL, the tile is free
(R244). -/
def State.haltChannel (s : State) (c k cause source pna : Nat) : State :=
  let ch := s.chan c k
  match ch.tile with
  | none => s
  | some t =>
    if ch.halted then s
    else match Maps.find t s.stg.tiles with
      | none => s
      | some x =>
        let s := s.showChan c k t cause source pna x true
        let s := s.setChan c k { ch with tile := none, halted := true, halts := ch.halts + 1, resume := false }
        let s := ((s.cancelFill t).bump Reg.INT_CNT_UE).report 0x0E (chanKey c k)
        if !Maps.has s.cle.reqs x.req then s else (s.bump Reg.STG_CNT_FAIL).endReq x.req Code.stageFail

/-- STAGER_CHANNEL_HALT: an uncorrectable error in a channel's buffer (cause 1) or tile write (cause 2) halts it (R244). -/
def execStagerChannelHalt (cluster channel : Fin 8) (cause : Fin 8) (source : Fin 8) (pna : BitVec 48) (s : State) :
    Result :=
  .next (
    if (cause.val ≠ 1 && cause.val ≠ 2) || 4 < source.val then s else s.haltChannel cluster channel cause source pna.toNat)

/-- CHANNEL_RESUME: a RESUME written clears the halt and the channel's status at the next frame boundary (R245), unless the
channel has halted HALT_LIMIT times (R443). -/
def execChannelResume (cluster channel : Fin 8) (s : State) : Result :=
  .next (
    let ch := s.chan cluster channel
    if ch.halted && ch.resume && s.frameDue && ch.halts < s.haltLimit then
      let b := chanReg cluster channel
      (s.setChan cluster channel { ch with halted := false, resume := false }).resetRange b (b + 16)
    else s)

end Sys2Proof.Machine
end

