-- ==== Sys2Proof/Machine/Media.lean ====
section
/-! DEFINITION. The media links and the PM stacks (chapter 08): flits (R250–R254), replies (R255–R258, R265–R267), repair
and poison (R268–R270), gap rotation (R271–R273), patrol scrub (R274), the loss of a stack (R281). -/

namespace Sys2Proof.Machine

open Sys2Proof

/-! ## A link and its stack -/

/-- The link registers that count in the record of a link (R252, R254). -/
def linkReg (base m : Nat) : Nat := base + 0x40 * m

/-- A valid flit has come on a link (R254). -/
def State.hear (s : State) (m : Nat) : State := s.setLink m { s.link m with heard := s.tck.boundaries }

/-- A link declared down: reported, and a fast retrain started; what is bound for the stack is held (R254). -/
def State.linkDown (s : State) (m : Nat) : State :=
  let l := s.link m
  if l.state ≠ 2 then s
  else
    let s := s.setLink m { l with state := 3, discarding := false, downAt := s.tck.boundaries }
    (s.bump (linkReg Reg.MED_LINK_CNT_RETRAIN m)).report 0x13 m

/-- A stack declared Lost (R281): a dangerous failure. -/
def State.stackLost (s : State) (m : Nat) : State :=
  let l := s.link m
  if l.state = 4 then s else (s.setLink m { l with state := 4 }).report 0x14 m

/-- A transaction leaves its link, which may then send another (R250, R257). -/
def State.closeTrans (s : State) (m tag : Nat) : State :=
  let l := s.link m
  (s.setLink m { l with trans := Maps.del tag l.trans, errs := Maps.del tag l.errs, released := l.released + 1 }).pump m

/-! ## Errors of a line (R266–R270) -/

/-- MED_LAST_ERR and the LSA registers. -/
def State.lastMedErr (s : State) (kind m lsa : Nat) : State :=
  (s.setReg Reg.MED_LAST_ERR (BitVec.ofNat 32 (kind * 2 ^ 28 + m * 2 ^ 16))).setPair Reg.MED_LAST_ERR_LSA_LO lsa

/-- A line marked Poisoned (R269); with the list full its stack is lost. -/
def State.poisonLine (s : State) (m line : Nat) : State :=
  if Maps.has s.med.poison line then s
  else if 65536 ≤ s.med.poison.length then s.stackLost m
  else
    let s := (s.journal [(Tbl.poison, line)]).2
    let s := { s with med := { s.med with poison := Maps.put line true s.med.poison } }
    (s.lastMedErr 6 m (s.lsa line)).report 0x11 m

/-- A line of an allocated page has failed: repaired from the twin where that may be, marked Poisoned where not (R268,
R269). -/
def State.lineFailed (s : State) (m line : Nat) : State :=
  let s := s.report 0x11 m
  if (s.extent (line / 32768)).isNone then s
  else if s.effB Reg.MED_CTRL 2 && s.pairState == 1 then
    { s with med := { s.med with
      repairs := if Maps.has s.med.repairs line then s.med.repairs else Maps.put line {} s.med.repairs } }
  else s.poisonLine m line

/-- What a transaction's failed read does to whoever asked for it (R267, R270). -/
def State.readFailed (s : State) (m : Nat) (t : MTrans) (code : Nat) : State :=
  match t with
  | .rd line req =>
    let s := match req with | some id => s.failRead id line code | none => s
    s.lineFailed m line
  | .fill line tile => (s.failTile tile code).lineFailed m line
  | .metaRd _ => s.report 0x12 m
  | _ => s

/-- A merge read of a request has returned (R360). -/
def State.mergeReturned (s : State) (t : MTrans) : State :=
  match t with
  | .rd line (some id) =>
    let f (r : Request) : Request :=
      { r with merges := r.merges.map (fun m => if m.line = line then { m with done := true } else m) }
    ({ s with cle := { s.cle with reqs := Maps.upd id f s.cle.reqs } } : State).reapPb
  | _ => s

/-- MED_SCRUB_CFG.WB_BITS; 0 acts as 1. -/
def State.medWbBits (s : State) : Nat := Nat.max 1 (s.effF Reg.MED_SCRUB_CFG 15 8)

/-- Rewrite notes of lines that are not being read any more (R266). -/
def State.trimRewritten (s : State) : State :=
  { s with med := { s.med with rewritten := s.med.rewritten.filter (fun e => s.lineRead e.1) } }

/-! ## Replies (R256–R258, R265–R267, R281) -/

/-- A corrected line goes back to its slot with the same EPOCH: a line of the namespace unless a write to it has been Accepted since the
read, or one of the chip's own metadata (R266). -/
def State.lineWriteBack (s : State) (m : Nat) (x : MSentRec) (raw : List Byte) (fresh : Bool) : State :=
  match x.trans with
  | .rd line _ | .fill line _ => if fresh then s.issue m (.writeBack line (corrected raw x.address)) else s
  | .metaRd lsa => s.issue m (.metaFix lsa (corrected raw x.address))
  | _ => s

/-- A returned line decoded and tag-checked with the address word expected; corrected bits are counted and, from WB_BITS on, written
back; a line that fails ends what waits for it (R265–R270). A TAG that names no outstanding read, or a CNT that is not 0, the reads
being of one line, is the loss of the stack (R258). -/
def State.gotRdr (s : State) (m tag cnt : Nat) (raw : List Byte) : State :=
  match Maps.find tag (s.link m).trans with
  | none => s.stackLost m
  | some x =>
    if x.trans.op ≠ 0x01 || cnt ≠ 0 then s.stackLost m
    else
      let fresh := match x.trans.reads with | some l => !Maps.has s.med.rewritten l | none => false
      let s := (s.closeTrans m tag).trimRewritten
      match checkLine raw x.address with
      | .clean => s.mergeReturned x.trans
      | .corrected bits =>
        let s := ((s.bump Reg.INT_CNT_CE).bumpBy Reg.MED_CNT_CE bits).mergeReturned x.trans
        if s.medWbBits ≤ bits then s.lineWriteBack m x raw fresh else s
      | .uncorrectable =>
        let s := ((s.bump Reg.INT_CNT_UE).bump Reg.MED_CNT_UE).lastMedErr 1 m (x.address % 2 ^ 33)
        s.readFailed m x.trans Code.mediaUe
      | .wrongTag => ((s.bump Reg.MED_CNT_TAG).lastMedErr 2 m (x.address % 2 ^ 33)).readFailed m x.trans Code.mediaUe

/-- A region's gap after the MOVE under way is confirmed (R272). -/
def RegionRec.afterMove (x : RegionRec) : RegionRec :=
  if x.gap = 0 then
    { x with gap := regionLines, start := (x.start + 1) % regionLines, moves := x.moves + 1, moving := false }
  else { x with gap := x.gap - 1, moves := x.moves + 1, moving := false }

/-- One more line of a promotion is confirmed (R279). -/
def State.promoLine (s : State) (page : Nat) : State :=
  { s with med := { s.med with
      promotes := Maps.upd page (fun (x : PromoteRec) => { x with left := x.left - 1 }) s.med.promotes } }

/-- A record of a journal group is Placed; with its last one the group is (R387). -/
def State.recordPlaced (s : State) (g : Nat) : State :=
  if s.transactions.any (fun t => match t with | .journal h _ _ _ => h == g | _ => false) then s else s.groupPlaced g

/-- A home write of a group is Placed; with its last one the ring is trimmed up to the group (R387). -/
def State.homeApplied (s : State) (g : Nat) : State :=
  let n := Maps.getD s.dur.applying g 0
  { s with dur := { s.dur with applying := if n ≤ 1 then Maps.del g s.dur.applying else Maps.put g (n - 1) s.dur.applying } }

/-- A line written to its stack stands there as it was sent (R263). -/
def State.wrote (s : State) (line : Nat) (x : MSentRec) : State :=
  if x.line.isEmpty then s else s.storeLine line (slice x.line 0 64) (leNat (slice x.line 84 4))

/-- What the confirmation of a write brings about (R256, R350, R368, R375, R387). -/
def State.confirmed (s : State) (m : Nat) (x : MSentRec) : State :=
  match x.trans with
  | .wr line q w mirror =>
    ((s.wrote line x).mapPb (fun e => e.isFor line q w mirror) (fun e => { e with stored := true })).settle
  | .promo line => s.promoLine (pageOfLine line)
  | .journal g _ _ _ => s.recordPlaced g
  | .tableHome g _ _ => s.homeApplied g
  | .image k _ => s.updIntent k (fun x => { x with images := x.images + 1 })
  | .header k => s.headerPlaced k
  | .home k line => s.homePlaced k line
  | .slotFree k => s.slotFreed k
  | .outcome own k => if own then s.outcomesConfirmed [k] else s.confirm [] [k] []
  | .move r => (s.setRegion m r (s.region m r).afterMove).pump m
  | _ => s

/-- A transaction that a CNF answers (R256). -/
def MTrans.confirmable (t : MTrans) : Bool := t.op != 0x01 && t.op != 0x04

/-- A WR, MOVE or CFGWR is persistent (R256, R258, R350). -/
def State.gotCnf (s : State) (m tag : Nat) : State :=
  match Maps.find tag (s.link m).trans with
  | none => s.stackLost m
  | some x => if x.trans.confirmable then (s.closeTrans m tag).confirmed m x else s.stackLost m

/-- A WR or MOVE that drew ERR goes ahead of what the link holds, to be issued again (R281). -/
def State.issueAgain (s : State) (m tag : Nat) (x : MSentRec) : State :=
  let l := s.link m
  (s.setLink m { l with held := { trans := x.trans, cls := x.cls, tenant := x.tenant, again := some tag } :: l.held }).pumpOne m

/-- A transaction failed: a read ends with STAGE_FAIL; a WR or MOVE is issued again up to twice, later writes to its slot waiting, and
its third ERR loses the stack (R256, R258, R267, R281). -/
def State.gotErr (s : State) (m tag : Nat) : State :=
  let l := s.link m
  match Maps.find tag l.trans with
  | none => s.stackLost m
  | some x =>
    let s := s.bump Reg.MED_CNT_STACK_ERR
    if x.trans.confirmable then
      let s := s.lastMedErr 4 m (x.address % 2 ^ 33)
      let n := Maps.getD l.errs tag 0 + 1
      let s := s.setLink m { l with errs := Maps.put tag n l.errs }
      if 3 ≤ n then s.stackLost m else s.issueAgain m tag x
    else
      let s := if x.trans.op = 0x01 then s.lastMedErr 3 m (x.address % 2 ^ 33) else s
      (s.closeTrans m tag).trimRewritten.readFailed m x.trans Code.stageFail

/-- Why a stack's configuration word 0 is refused, as MED_LINK_STATUS.REFUSE shows it; 0 for none (R261). -/
def refuseOf (w : DWord) : Nat :=
  if !bitOf w 0 then 1
  else if !bitOf w 1 then 2
  else if !bitOf w 2 then 3
  else if fld w 15 8 ≠ 1 then 4
  else if fld w 31 16 < 512 then 5
  else if fld w 42 32 < 64 || 1024 < fld w 42 32 then 6
  else 0

/-- Word 0 accepts or refuses the stack; word 1 is its identity, which makes the link FOREIGN when it differs from the recorded one
(R261, R262). -/
def State.gotCfgr (s : State) (m tag : Nat) (w : DWord) : State :=
  match Maps.find tag (s.link m).trans with
  | some { trans := .cfgrd index, .. } =>
    let s := s.closeTrans m tag
    let l := s.link m
    if index = 0 then
      let code := refuseOf w
      (s.setLink m { l with
        cap := BitVec.ofNat 32 w.toNat, refuse := code
        credits := if code = 0 then fld w 42 32 else l.credits
        state := if code ≠ 0 then 5 else if l.state = 1 && l.idRead then 2 else l.state }).pump m
    else
      let foreign := match Maps.find m s.med.recorded with | some x => x != w | none => false
      let s := { s with twn := { s.twn with needFull := s.twn.needFull || foreign } }
      (s.setLink m { l with
        identity := w, idRead := true, foreign
        state := if l.state = 1 && l.credits ≠ 0 then 2 else l.state }).pump m
  | _ => s.stackLost m

/-! ## Flits received (R250–R252, R254) -/

/-- TYPE and SEQ of a flit, and whether its CRC passes (R250). -/
def flitType (f : List Byte) : Nat := leNat (slice f 0 2) % 16
def flitSeq (f : List Byte) : BitVec 12 := BitVec.ofNat 12 (leNat (slice f 0 2) / 16)
def flitOk (f : List Byte) : Bool := leNat (slice f 248 8) == crc64Inv (slice f 0 248)

/-- A command header received: CNF or ERR; another OP answers no transaction (R256, R258). An unused header is all zeros (R250). -/
def State.gotHeader (s : State) (m h : Nat) : State :=
  if h = 0 then s
  else if h % 256 = 0x82 then s.gotCnf m (h / 2 ^ 8 % 1024)
  else if h % 256 = 0x83 then s.gotErr m (h / 2 ^ 8 % 1024)
  else s.stackLost m

/-- The transactions of a slot applied: a line transaction, or up to 15 command headers (R250). -/
def State.gotSlot (s : State) (m : Nat) (x : List Byte) : State :=
  let h := leNat (slice x 0 8)
  if h % 256 = 0x81 then s.gotRdr m (h / 2 ^ 8 % 1024) (h / 2 ^ 18 % 64) (slice x 8 88)
  else if h % 256 = 0x84 then s.gotCfgr m (h / 2 ^ 8 % 1024) (BitVec.ofNat 64 (leNat (slice x 8 8)))
  else (upTo 15).foldl (fun s k => s.gotHeader m (leNat (slice x (8 * k) 8))) s

/-- A flit whose CRC fails is discarded with a NAK, and so is every later DATA flit until its SEQ comes again (R251, R252).
DESIGN CHOICE, log 144: MED_LINK_CNT_REPLAY counts one for it in the direction received, and none for the flits that the stack replays
after it. -/
def State.badFlit (s : State) (m : Nat) : State :=
  (s.setLink m { (s.link m).nakFlit with discarding := true }).bump (linkReg Reg.MED_LINK_CNT_REPLAY m)

/-- The expected DATA flit accepted, with an ACK flit after every 10th (R251, R252). -/
def State.takeFlit (s : State) (m : Nat) : State :=
  let l := s.link m
  let l := { l with rxSeq := l.rxSeq + 1, rxUnacked := l.rxUnacked + 1, discarding := false, heard := s.tck.boundaries }
  s.setLink m (if l.rxUnacked = 10 then l.ackFlit else l)

/-- MEDIA_DATA_FLIT: a DATA flit is checked and its transactions applied, or it is discarded with a NAK (R250–R252). -/
def execMediaDataFlit (ml : Fin 16) (flit : List Byte) (s : State) : Result :=
  let m := ml.val
  .next (
    let l := s.link m
    if l.state = 0 || l.state = 4 then s
    else if !flitOk flit then s.badFlit m
    else if flitType flit ≠ 1 || flitSeq flit ≠ l.rxSeq then s.hear m
    else ((s.takeFlit m).gotSlot m (slice flit 8 120)).gotSlot m (slice flit 128 120))

/-- MEDIA_FLIT_ACK: flits up to the acknowledged SEQ leave the replay buffer (R252). -/
def execMediaFlitAck (ml : Fin 16) (seq : BitVec 12) (s : State) : Result :=
  .next (
    let s := s.hear ml
    let l := s.link ml
    if !l.unacked.any (fun e => e.seq == seq) then s
    else (s.setLink ml { l with unacked := (l.unacked.dropWhile (fun e => e.seq != seq)).drop 1 }).pump ml)

/-- A flit of the replay buffer sent once more (R252). -/
def FlitRec.again (f : FlitRec) : FlitRec := { f with replays := f.replays + 1 }

/-- MEDIA_FLIT_NAK: flits from the NAKed SEQ on are replayed; the 8th replay of one declares the link down (R252, R254). DESIGN CHOICE,
log 144: a flit of the stack's that this chip has NAKed 8 times declares nothing. -/
def execMediaFlitNak (ml : Fin 16) (seq : BitVec 12) (s : State) : Result :=
  .next (
    let s := s.hear ml
    let l := s.link ml
    if l.state ≠ 2 || !l.unacked.any (fun e => e.seq == seq) then s
    else
      let first := l.unacked.takeWhile (fun e => e.seq != seq)
      let again := (l.unacked.dropWhile (fun e => e.seq != seq)).map FlitRec.again
      let s := s.setLink ml (again.foldl MLinkRec.dataFlit { l with unacked := first ++ again })
      let s := s.bumpBy (linkReg Reg.MED_LINK_CNT_REPLAY ml) again.length
      if again.any (fun e => 8 ≤ e.replays) then s.linkDown ml else s)

/-- MEDIA_ACK_DUE: an accepted DATA flit has waited 64 CCLK for its acknowledgement (R252). -/
def execMediaAckDue (ml : Fin 16) (s : State) : Result :=
  .next (
    let l := s.link ml
    if l.rxUnacked = 0 then s else s.setLink ml l.ackFlit)

/-- MEDIA_LINK_SILENT: no valid flit for 1,024 CCLK (R254): none since a tick boundary has passed. -/
def execMediaLinkSilent (ml : Fin 16) (s : State) : Result :=
  .next (if (s.link ml).heard < s.tck.boundaries then s.linkDown ml else s)

/-- RETRAIN_DONE: within 48 ticks the link is up again, and what was held goes out (R254). -/
def execRetrainDone (ml : Fin 16) (s : State) : Result :=
  .next (
    let l := s.link ml
    if l.state ≠ 3 || l.downAt + 48 < s.tck.boundaries then s
    else
      let unacked := l.unacked.map (fun e => { e with replays := 0 })
      (s.setLink ml { l with state := 2, unacked, heard := s.tck.boundaries }).pump ml)

/-- RETRAIN_TIMEOUT: not retrained after 48 ticks, the stack is Lost (R254, R281). -/
def execRetrainTimeout (ml : Fin 16) (s : State) : Result :=
  .next (
    let l := s.link ml
    if l.state = 3 && l.downAt + 48 ≤ s.tck.boundaries then s.stackLost ml else s)

/-- A transaction of a flit that stands in a command of its own: discarded with its flit where one before it failed (R251,
log 114). -/
def State.inFlit (s : State) (m : Nat) (f : State → State) : State := if (s.link m).discarding then s else f s

/-- RDR (R258, R265–R270). -/
def execRdr (ml : Fin 16) (tag : BitVec 10) (cnt : BitVec 6) (line : List Byte) (s : State) : Result :=
  .next (s.inFlit ml (fun s => s.gotRdr ml tag.toNat cnt.toNat line))

/-- CNF (R256, R258, R350). -/
def execCnf (ml : Fin 16) (tag : BitVec 10) (s : State) : Result := .next (s.inFlit ml (fun s => s.gotCnf ml tag.toNat))

/-- ERR (R256, R258, R267, R281); its REASON has no effect of its own. -/
def execErr (ml : Fin 16) (tag : BitVec 10) (_reason : BitVec 6) (s : State) : Result :=
  .next (s.inFlit ml (fun s => s.gotErr ml tag.toNat))

/-- CFGR (R261, R262). -/
def execCfgr (ml : Fin 16) (tag : BitVec 10) (w : DWord) (s : State) : Result :=
  .next (s.inFlit ml (fun s => s.gotCfgr ml tag.toNat w))

/-! ## Repair from the twin (R268) -/

/-- The clause that does a kind of chip-originated work is loaded; its absence holds the work and shows the kind in
CLE_STATUS.GROUNDS_HELD (R165, R166). -/
def State.groundsOk (s : State) (kind : Nat) : Bool := (s.conjEntry 0 kind).isSome

/-- Work of a kind held in its queue for want of a valid entry (R166). -/
def State.holdGrounds (s : State) (kind : Nat) (c : Instr) : State :=
  if s.cle.grounds.contains (kind, c) then s
  else { s with cle := { s.cle with grounds := s.cle.grounds ++ [(kind, c)] } }

/-- The window index of chip-originated work: past the last one, so that it has no window, and program ID 0 (R166). -/
def noWindow : Nat := 2 ^ 24

/-- Chip-originated work of a kind dispatched: a request of the Grounds program in queue 32, which takes a frame and strands until the
program ends it (R40, R146, R148, R165, log 38). -/
def State.startWork (s : State) (kind : Nat) : State :=
  (s.addReq { kind, cls := .grounds, win := noWindow } (fun o => .ready o false)).2

/-- LINE_REPAIR_REQUEST: no buffered write to the line is left, and the twin is asked for its copy (R268, step 1). -/
def execLineRepairRequest (line : BitVec 42) (s : State) : Result :=
  .next (match Maps.find line.toNat s.med.repairs with
    | none => s
    | some x =>
      if x.asked || (s.newest line.toNat).isSome then s
      else if !s.groundsOk 12 then s.holdGrounds 12 (.lineRepairRequest line)
      else
        let s := { s with med := { s.med with repairs := Maps.put line.toNat { asked := true } s.med.repairs } }
        (s.startWork 12).tell (.repairAsk line.toNat))

/-- A line that the twin asked for passes the checks of where it lies: 88 B as its stack returns them, or a line of a NAND page; one of an
Unwritten page needs none (R265, R268, R316). -/
def State.goodCopy (s : State) (line : Nat) (raw : List Byte) : Bool :=
  let address := if s.inNand (pageOfLine line) then nandAddress line ((s.pageTenant (pageOfLine line)).getD 0) false
    else s.lineAddress line
  !Maps.has s.med.poison line && (s.unwritten (pageOfLine line) ||
    (match checkLine raw address with | .clean | .corrected _ => true | _ => false))

/-- LINE_REPAIR_SERVE: no buffered write to a line the twin asked for is left; the copy goes out when its own checks pass
(R268, step 2). -/
def execLineRepairServe (line : BitVec 42) (raw : List Byte) (s : State) : Result :=
  .next (
    let k := line.toNat
    if !s.med.repairServed.contains k || (s.newest k).isSome then s
    else if !s.groundsOk 12 then s.holdGrounds 12 (.lineRepairServe line raw)
    else
      let copy := if s.goodCopy k raw then some (s.lineAtRest k) else none
      let s := { s with med := { s.med with repairServed := s.med.repairServed.erase k } }
      (s.startWork 12).tell (.repairReply k copy (s.storedEpoch k)))

/-- The line belongs to a NAND page that is being repaired from the twin (R329). -/
def State.nandRepair (s : State) (line : Nat) : Bool :=
  match Maps.find (pageOfLine line) s.med.promotes with
  | some x => x.repair
  | none => false

/-- All 256 lines of a NAND page Poisoned, its repair given up (R329). -/
def State.poisonPage (s : State) (page : Nat) : State :=
  let s := s.bump Reg.NTL_CNT_UE
  let s := { s with med := { s.med with
      promotes := Maps.del page s.med.promotes
      repairs := s.med.repairs.filter (fun e => pageOfLine e.1 != page) } }
  (upTo 256).foldl (fun s k => s.poisonLine (s.lineStack (page * 256)) (page * 256 + k)) s

/-- LINE_REPAIR_REPLY: the twin's copy is written with this unit's tag and the twin's EPOCH, unless a write to the line has
been Accepted since (R265); without a good copy the line is marked Poisoned (R268, R269). -/
def execLineRepairReply (line : BitVec 42) (s : State) : Result :=
  .next (
    let k := line.toNat
    match s.twn.replies.find? (fun r => r.line == k) with
    | none => s
    | some r =>
      let s := { s with twn := { s.twn with replies := s.twn.replies.erase r } }
      match Maps.find k s.med.repairs with
      | none => s
      | some x =>
        let s := { s with med := { s.med with repairs := Maps.del k s.med.repairs } }
        let m := s.lineStack k
        if !x.asked || x.written then s
        else match r.data with
          | none => if s.nandRepair k then s.poisonPage (pageOfLine k) else s.poisonLine m k
          | some d =>
            if s.nandRepair k then (s.storeLine k d r.epoch).issue m (.promo k)
            else
              let s := ((s.storeLine k d r.epoch).issue m (.fix k)).bump Reg.MED_CNT_REPAIR
              s.lastMedErr 5 m (s.lsa k))

/-- Outside Paired no repair can be made: the lines that wait for one are marked Poisoned, but for those written since, whose write
stands (R268, R269, R329). -/
def State.dropRepairs (s : State) : State :=
  if s.pairState = 1 then s
  else
    let gone := s.med.repairs
    let s := { s with med := { s.med with repairs := [] } }
    gone.foldl (fun (s : State) (e : Nat × RepairRec) =>
      if s.nandRepair e.1 then s.poisonPage (pageOfLine e.1)
      else if e.2.written then s else s.poisonLine (s.lineStack e.1) e.1) s

/-! ## Gap rotation (R271–R273) -/

/-- MED_GAP_CFG: INTERVAL, lower values acting as 16; RECORD_EVERY, 0 acting as 1. -/
def State.gapInterval (s : State) : Nat := Nat.max 16 (s.effF Reg.MED_GAP_CFG 25 16)
def State.recordEvery (s : State) : Nat := Nat.max 1 (s.effF Reg.MED_GAP_CFG 5 0)

/-- Regions that hold the unit's metadata, which are not rotated (R271, R386). -/
def State.metaRegions (s : State) : Nat := s.getF Reg.DUR_META_CFG 5 0

/-- GAP_MOVE: INTERVAL writes to a region of pool frames have been made, and its gap moves by one slot, a write of the region itself
(R272); a region whose record is due waits for it (R273). -/
def execGapMove (ml : Fin 16) (region : Fin 512) (s : State) : Result :=
  .next (
    let x := s.region ml region
    if x.moving || x.writes < s.gapInterval || region.val < s.metaRegions || s.recordEvery ≤ x.moves then s
    else (s.setRegion ml region { x with moving := true, writes := x.writes - s.gapInterval + 1 }).issue ml (.move region))

/-- A region's record written: START and GAP as they stand (R273). -/
def State.recordRegion (s : State) (m r : Nat) : State :=
  let x := s.region m r
  let s := s.setRegion m r { x with recStart := x.start, recGap := x.gap, moves := 0 }
  (s.journal [(Tbl.region, 512 * m + r)]).2

/-- REGION_RECORD_WRITE: after RECORD_EVERY moves the region's START and GAP go to its record (R273). -/
def execRegionRecordWrite (ml : Fin 16) (region : Fin 512) (s : State) : Result :=
  .next (if (s.region ml region).moves < s.recordEvery then s else s.recordRegion ml region)

/-- The tenant of the page that a frame holds. -/
def State.frameTenant (s : State) (m f : Nat) : Nat :=
  match Maps.find f (s.link m).frames with
  | some (page, _) => (s.pageTenant page).getD 0
  | none => 0

/-- A slot read decodes, and its tag passes for the LSA of the line that the region's next move carries (R273). -/
def State.probePasses (s : State) (m r : Nat) (x : RegionRec) (raw : List Byte) : Bool :=
  let lsa := r * regionLines + x.moved
  match checkLine raw (scmAddress lsa m (s.frameTenant m (lsa / 256)) false) with
  | .clean | .corrected _ => true
  | _ => false

/-- The probes of a region at start-up, at most `n`: a slot that passes is a move made since the record, the first that does not ends
them (R273, log 37). -/
def State.probeMoves (s : State) (m r : Nat) : Nat → List (List Byte) → RegionRec → RegionRec
  | n + 1, raw :: rest, x => if s.probePasses m r x raw then State.probeMoves s m r n rest x.afterMove else x
  | _, _, x => x

/-- A region recovered from its record, with what its probes read; its record is written (R273). -/
def State.recoverRegion (probes : List (Nat × List (List Byte))) (s : State) (e : Nat × RegionRec) : State :=
  let m := e.1 / 512
  let r := e.1 % 512
  let x := s.probeMoves m r s.recordEvery ((probes.find? (fun p => p.1 == e.1)).map Prod.snd |>.getD [])
    { start := e.2.recStart, gap := e.2.recGap }
  (s.setRegion m r x).recordRegion m r

/-! ## Patrol scrub (R274, R276) -/

/-- MED_SCRUB_CFG.PERIOD in ticks; 0 acts as one hour (R274). -/
def State.scrubPeriod (s : State) : Nat := Nat.max 1 (s.effF Reg.MED_SCRUB_CFG 7 0) * hourTicks

/-- Frames of a stack: those of its 512 regions (R275). -/
def stackFrames : Nat := 512 * 65536

/-- The next frame a stack's scrub reads: every frame of the metadata regions, then the allocated frames, in ascending LSA order
(R274). -/
def State.scrubFrame (s : State) (m : Nat) : Option Nat :=
  let k := Maps.getD s.med.scrubNext m 0
  if k < s.metaRegions * 65536 then some k else ((s.link m).frames.find? (fun e => decide (k ≤ e.1))).map (·.1)

/-- A stack's part of a pass is over; with the last stack's the pass is, and the next one begins PERIOD after it (R274). -/
def State.scrubEnd (s : State) (m : Nat) : State :=
  let next := Maps.put m stackFrames s.med.scrubNext
  let s := { s with med := { s.med with scrubNext := next } }
  if (upTo 16).any (fun k => (s.link k).state == 2 && decide (Maps.getD next k 0 < stackFrames)) then s
  else
    let s := s.setF Reg.MED_SCRUB_STATUS 31 16 (s.getF Reg.MED_SCRUB_STATUS 31 16 + 1)
    { s with med := { s.med with scrubNext := [], scrubFrom := s.nextPass s.med.scrubFrom s.scrubPeriod } }

/-- The 256 lines of a frame read: metadata, or the page it holds, whose LAST_WRITE is brought to 32,767 minutes where it is older
(R274, R276). -/
def State.scrubLines (s : State) (m f : Nat) : State :=
  match Maps.find f (s.link m).frames with
  | none => (upTo 256).foldl (fun s k => s.issue m (.metaRd (f * 256 + k))) s
  | some (page, stamp) =>
    let age := (s.minute16 + 65536 - stamp) % 65536
    let stamp := if 32767 < age then (s.minute16 + 65536 - 32767) % 65536 else stamp
    let s := s.setLink m { s.link m with frames := Maps.put f (page, stamp) (s.link m).frames }
    (upTo 256).foldl (fun s k => s.issue m (.rd (page * 256 + k) none)) s

/-- PATROL_SCRUB: the lines of a stack's next frame are read; after the last one its part of the pass is over (R274). -/
def execPatrolScrub (ml : Fin 16) (s : State) : Result :=
  .next (
    let m := ml.val
    if !s.effB Reg.MED_CTRL 0 || (s.link m).state ≠ 2 || s.now < s.med.scrubFrom then s
    else if !s.groundsOk 10 then s.holdGrounds 10 (.patrolScrub ml)
    else match s.scrubFrame m with
      | none => s.scrubEnd m
      | some f => (({ s with med := { s.med with scrubNext := Maps.put m (f + 1) s.med.scrubNext } } : State).startWork 10).scrubLines m f)

end Sys2Proof.Machine
end

