-- ==== Sys2Proof/Machine/Nand.lean ====
section
/-! DEFINITION. The NAND tier (chapter 10): superblocks, streams and parity rows, translation, destage, promotion, recovery,
garbage collection, checkpoints, health. -/

namespace Sys2Proof.Machine

open Sys2Proof

/-- The present frame. -/
def State.frameNow (s : State) : Nat := s.now / 3000

/-! ## Geometry (R310–R317) -/

/-- Targets of a channel, LUNs of a target, blocks of a die, pages of a block. -/
def State.targets (s : State) : Nat := s.getF Reg.NTL_GEOM 27 24
def State.luns (s : State) : Nat := s.getF Reg.NTL_GEOM 31 28
def State.dieBlocks (s : State) : Nat := 16 * s.getF Reg.NTL_GEOM 11 0
def State.blockPages (s : State) : Nat := s.getF Reg.NTL_GEOM 23 12

/-- Parity groups of the format applied (R313). -/
def State.groups (s : State) : Nat := s.targets * s.luns / (if s.ntl.group32 then 2 else 1)

/-- Dies of a parity group, ascending (R312, R313). -/
def State.groupDies (s : State) (g : Nat) : List Nat :=
  let l := g % Nat.max 1 s.luns
  let t := g / Nat.max 1 s.luns
  (upTo 16).flatMap (fun c => if s.ntl.group32 then [64 * c + 16 * t + l, 64 * c + 16 * t + 8 + l] else [64 * c + 8 * t + l])

/-- Every die fitted. -/
def State.allDies (s : State) : List Nat := (upTo s.groups).flatMap s.groupDies

/-- A die's record changed. -/
def State.setDie (s : State) (d : Nat) (x : DieRec) : State := { s with ntl := { s.ntl with dies := Maps.put d x s.ntl.dies } }

/-- Superblocks of the tier: one block of each die of a group, outside the spares. -/
def State.sbTotal (s : State) : Nat := s.groups * s.ntl.usable

/-- A superblock's name: group × 65,536 + block. -/
def State.allSbs (s : State) : List Nat := (upTo s.groups).flatMap (fun g => (upTo s.ntl.usable).map (fun b => g * 65536 + b))

/-- Superblocks that a horizon names, one in place or one of a root under way, and that are not open yet (R338). -/
def State.named (s : State) : List Nat :=
  (dedup ((s.ntl.horizon ++ s.ntl.nextHorizon).flatMap (fun e => e.2))).filter (fun sb => !Maps.has s.ntl.sbs sb)

/-- A superblock neither in use nor named in a horizon. -/
def State.unused (s : State) (sb : Nat) : Bool := !Maps.has s.ntl.sbs sb && !s.named.contains sb

/-- Superblocks of the tier that nothing uses. -/
def State.freeSbs (s : State) : Nat := s.sbTotal - s.ntl.sbs.length - s.named.length

/-- Free superblocks of a stream: its horizon and those that nothing uses. -/
def State.streamFree (s : State) (k : Nat) : Nat := (Maps.getD s.ntl.horizon k []).length + s.freeSbs

/-- Rows of a superblock: its block's pages in the mode of its stream (R320, R321). -/
def State.sbRows (s : State) (stream : Nat) : Nat :=
  if stream = 0 || stream = 3 then s.blockPages / 4
  else if s.ntl.bulkTlc then s.blockPages * 3 / 4
  else s.blockPages

/-- A page's program has been issued: a data page once its 16 codewords are laid out, a parity page with its row complete. -/
def NandSbRec.issued (x : NandSbRec) (page : Nat) : Bool :=
  let g := x.dies.length
  let row := page / g
  let i := page % g
  let par := row % g
  if i = par then decide ((row + 1) * x.rowCws ≤ x.cws)
  else
    let pos := if i < par then i else i - 1
    decide ((row * (g - 1) + pos + 1) * 16 ≤ x.cws)

/-- Every page of every stripe row that a run of codewords touches has been programmed, parity included. -/
def NandSbRec.protects (x : NandSbRec) (start size : Nat) : Bool :=
  let g := x.dies.length
  let r := Nat.max 1 x.rowCws
  (upTo ((start + size - 1) / r + 1)).all (fun row =>
    decide (row < start / r) || (upTo g).all (fun i => Maps.getD x.progs (row * g + i) false))

/-- A superblock changed. -/
def State.updSb (s : State) (sb : Nat) (f : NandSbRec → NandSbRec) : State :=
  { s with ntl := { s.ntl with sbs := Maps.upd sb f s.ntl.sbs } }

/-! ## Warnings and TIER_READONLY (R345–R348) -/

/-- A warning bit not yet set is set and posted (R345). -/
def State.earlyWarn (s : State) (bit : Nat) : State :=
  if s.getB Reg.NTL_EW bit then s
  else ((s.setB Reg.NTL_EW bit true).notify 0x13 0 bit 0 0 0).trigger 18 bit 0 0

/-- The tier is in TIER_READONLY (R346). -/
def State.tierRo (s : State) : Bool := s.ntl.full || s.ntl.worn

/-- TIER_READONLY entered: DESTAGE clauses under way end, their pages stay in SCM (R346, R347). -/
def State.enterRo (s : State) (worn : Bool) : State :=
  let was := s.tierRo
  let s := { s with ntl := { s.ntl with worn := s.ntl.worn || worn, full := s.ntl.full || !worn } }
  if was then s
  else
    let gone := s.med.destages.filter (fun e => e.2.handed.isNone)
    let s := { s with
      med := { s.med with destages := s.med.destages.filter (fun e => e.2.handed.isSome) }
      ntl := { s.ntl with taken := s.ntl.taken.filter (fun e => !gone.any (fun x => x.1 == e.2)) } }
    s.earlyWarn 6

/-- The smallest spare count of a working die (R343). -/
def State.spareLeft (s : State) : Nat :=
  match (s.ntl.dies.filter (fun e => !e.2.failed)).map (fun e => e.2.spares) with
  | [] => 0
  | x :: xs => xs.foldl Nat.min x

/-- Erases summed over superblocks in a bulk mode, and how many there are. -/
def State.bulkErases (s : State) : Nat × Nat :=
  let slc (sb : Nat) : Bool := match Maps.find sb s.ntl.sbs with | some x => x.stream == 0 || x.stream == 3 | none => false
  let n := s.sbTotal - (s.ntl.sbs.filter (fun e => e.2.stream == 0 || e.2.stream == 3)).length
  (((s.ntl.erases.filter (fun e => !slc e.1)).map Prod.snd).foldl (· + ·) 0, n)

/-- Wear used in thousandths (R343). -/
def State.wearUsed (s : State) : Nat :=
  let (sum, n) := s.bulkErases
  let rated := s.effF Reg.NTL_WEAR_CFG 31 16
  if n = 0 || rated = 0 then 0 else sum * 1000 / (n * rated)

/-- WEAR_80, WEAR_100 and SPARE_WARN, each when its condition first holds (R345). -/
def State.warnHealth (s : State) : State :=
  let holds (b : Nat) : Bool :=
    if b = 5 then decide (0 < s.ntl.dies.length) && decide (s.spareLeft ≤ s.effF Reg.NTL_SPARE_CFG 31 16)
    else decide ((if b = 0 then 800 else 1000) ≤ s.wearUsed)
  let bits := [0, 1, 5]
  let t := (bits.filter (fun b => holds b && !bitOf (BitVec.ofNat 8 s.ntl.held) b)).foldl State.earlyWarn s
  { t with ntl := { t.ntl with held := ((bits.filter holds).map (fun b => 2 ^ b)).foldl (· + ·) 0 } }

/-- A block of a die retired as grown bad, at the cost of a spare (R326). -/
def State.retireBlock (s : State) (d : Nat) : State :=
  let s := (s.setDie d { s.die d with spares := (s.die d).spares - 1 }).warnHealth
  if s.spareLeft ≤ s.effF Reg.NTL_SPARE_CFG 15 0 then s.enterRo true else s

/-! ## Streams (R317, R325, R338, R339) -/

/-- The unused superblock that a stream takes next: the fewest erases for the SLC buffer and the map, the most for garbage
collection (R336), the lowest-numbered for bulk (log 62). -/
def State.nextSb (s : State) (stream : Nat) : Option Nat :=
  let e (sb : Nat) : Nat := Maps.getD s.ntl.erases sb 0
  match s.allSbs.filter s.unused with
  | [] => none
  | x :: xs =>
    if stream = 0 || stream = 3 then some (xs.foldl (fun a b => if e b < e a then b else a) x)
    else if stream = 2 then some (xs.foldl (fun a b => if e a < e b then b else a) x)
    else some x

/-- A stream's horizon filled up to `n` superblocks. -/
def State.growHorizon (stream : Nat) : Nat → State → State
  | 0, s => s
  | n + 1, s =>
    match s.nextSb stream with
    | none => s
    | some sb =>
      State.growHorizon stream n { s with ntl := { s.ntl with
        horizon := Maps.put stream (Maps.getD s.ntl.horizon stream [] ++ [sb]) s.ntl.horizon } }

/-- Every stream's horizon as a new root names it (R338). -/
def State.newHorizon (s : State) : State :=
  let n := Nat.max 2 (s.effF Reg.NTL_CKPT_CFG 31 28)
  (upTo 4).foldl (fun (s : State) (k : Nat) => State.growHorizon k (n - (Maps.getD s.ntl.horizon k []).length) s) s

/-- The open superblock of a stream. -/
def State.openSb (s : State) (stream : Nat) : Option (Nat × NandSbRec) :=
  s.ntl.sbs.find? (fun e => e.2.stream == stream && !e.2.closed)

/-- The requester that programs a stream's records where they are not copied or rebuilt: destage, collection, checkpoints (R332). -/
def streamRequester (stream : Nat) : Nat := if stream = 2 then 4 else if stream = 3 then 5 else 2

/-- The pages of a superblock that have become complete from `x` to `y` (R317). -/
def NandSbRec.newPages (x y : NandSbRec) : List Nat :=
  let r := Nat.max 1 x.rowCws
  let first := x.cws / r * x.dies.length
  ((upTo ((y.cws / r + 1 - x.cws / r) * x.dies.length)).map (· + first)).filter (fun p => y.issued p && !x.issued p)

/-! ## Records and map entries (R315, R316, R318) -/

/-- The first 64 B of a record (R315). -/
def recordHeader (kind flags : Byte) (tpn page tenant seq : Nat) (poison : List Byte) : List Byte :=
  leBytes 0x5254 2 ++ [kind, flags] ++ leBytes tenant 2 ++ leBytes 0 2 ++ leBytes tpn 8 ++ leBytes page 8 ++ leBytes seq 8 ++ poison

/-- A record: its header with the CRC over it, the lines' tags and EPOCHs, their data (R315). -/
def recordOf (header tags data : List Byte) : List Byte :=
  header ++ leBytes (crcInv header) 4 ++ List.replicate 956 0 ++ tags ++ data

/-- A record as another superblock holds it: only SEQ, and the header's CRC, differ (R315, R322). -/
def recordUnder (bytes : List Byte) (seq : Nat) : List Byte :=
  let header := bytes.take 24 ++ leBytes seq 8 ++ slice bytes 32 32
  header ++ leBytes (crcInv header) 4 ++ bytes.drop 68

/-- The poison marks of a page's lines (R315). -/
def State.pagePoison (s : State) (page : Nat) : List Byte :=
  leBytes ((upTo 256).foldl (fun v k => if Maps.has s.med.poison (page * 256 + k) then v + 2 ^ k else v) 0) 32

/-- The record of a data page in a superblock of a SEQ: the lines as they are stored, under their NAND tags (R315, R316, R323). -/
def State.dataRecord (s : State) (tpn page seq : Nat) : List Byte :=
  let tenant := (s.pageTenant page).getD 0
  let poison := s.pagePoison page
  let data (k : Nat) : List Byte := s.med.store.bytes ((page * 256 + k) * 64) 64
  let tag (k : Nat) : List Byte :=
    leBytes (tagCrc (data k) (nandAddress (page * 256 + k) tenant false)) 4 ++ leBytes (s.storedEpoch (page * 256 + k)) 4
  let flags : Byte := if poison.any (· != 0) then 1 else 0
  recordOf (recordHeader 1 flags tpn page tenant seq poison) ((upTo 256).flatMap tag) ((upTo 256).flatMap data)

/-- The map entry of a record's place (R318). -/
def State.mapEntry (s : State) (e : NandLocRec) : Nat :=
  match Maps.find e.sb s.ntl.sbs with
  | none => 0
  | some x =>
    let page := x.pageOf e.start
    x.dieOf page * 2 ^ 54 + e.sb % 65536 * 2 ^ 38 + page / Nat.max 1 x.dies.length * 2 ^ 26 + e.start % 16 * 2 ^ 22 + 1

/-- The record of a map segment: its 2,048 entries as 256 lines (R315, R316, R318). -/
def State.segmentRecord (s : State) (n seq : Nat) : List Byte :=
  let entry (i : Nat) : List Byte := leBytes (match Maps.find (n * 2048 + i) s.ntl.map with | some e => s.mapEntry e | none => 0) 8
  let data (k : Nat) : List Byte := (upTo 8).flatMap (fun i => entry (8 * k + i))
  let tag (k : Nat) : List Byte := leBytes (tagCrc (data k) (nandAddress (n * 256 + k) 0 true)) 4 ++ leBytes s.dur.epoch 4
  recordOf (recordHeader 2 0 n 0 0 seq (List.replicate 32 0)) ((upTo 256).flatMap tag) ((upTo 256).flatMap data)

/-- Filler of `n` codewords from one of a stream on: records of KIND 0, the last cut short (R325). -/
def fillerRecs (seq start n : Nat) : List NandRec :=
  let bytes := recordOf (recordHeader 0 0 0 0 0 seq (List.replicate 32 0)) (List.replicate 2048 0) (List.replicate 16384 0)
  (upTo ((n + 18) / 19)).map (fun k =>
    let size := Nat.min 19 (n - 19 * k)
    { kind := .filler, start := start + 19 * k, size, bytes := bytes.take (1024 * size) })

/-- A codeword: 1,024 B of payload and 128 B of LDPC parity (R314). -/
def codeword (payload : List Byte) : List Byte := padTo 1024 payload ++ padTo 128 (Config.ldpc payload)

/-- The payload of codeword `k` of a superblock's stream (R315, R317). -/
def NandSbRec.payload (x : NandSbRec) (k : Nat) : List Byte :=
  match x.recs.find? (fun r => decide (r.start ≤ k) && decide (k < r.start + r.size)) with
  | some r => slice r.bytes (1024 * (k - r.start)) 1024
  | none => []

/-- The exclusive or of runs of bytes. -/
def xorRuns (n : Nat) (l : List (List Byte)) : List Byte :=
  l.foldl (fun a b => (a.zip b).map (fun p => p.1 ^^^ p.2)) (List.replicate n 0)

/-- The 18,432 B that a page of a superblock is programmed with: 16 codewords, or on the member p mod G of row p the exclusive or of the
row's other pages (R314, R317). -/
def NandSbRec.pageBytes (x : NandSbRec) (page : Nat) : List Byte :=
  let g := Nat.max 1 x.dies.length
  let row := page / g
  let data (i : Nat) : List Byte :=
    let pos := if i < row % g then i else i - 1
    (upTo 16).flatMap (fun k => codeword (x.payload ((row * (g - 1) + pos) * 16 + k)))
  if page % g = row % g then xorRuns 18432 (((upTo g).filter (· ≠ row % g)).map data) else data (page % g)

/-- Codewords laid out in a superblock, the programs of the pages they complete queued on their channels (R323, R332). -/
def State.fillSb (s : State) (requester sb : Nat) (f : NandSbRec → NandSbRec) : State :=
  match Maps.find sb s.ntl.sbs with
  | none => s
  | some x =>
    let op (p : Nat) : NandOpRec := { ch := x.dieOf p / 64, requester, job := .prog sb p }
    (x.newPages (f x)).foldl (fun (s : State) (p : Nat) => s.queueNand (op p)) (s.updSb sb f)

/-- The rest of an open superblock's incomplete row filled with filler, so that its parity page is programmed (R325). -/
def State.closeRow (s : State) (requester sb : Nat) : State :=
  s.fillSb requester sb (fun x =>
    let r := Nat.max 1 x.rowCws
    let n := (r - x.cws % r) % r
    if n = 0 then x else { x with cws := x.cws + n, recs := x.recs ++ fillerRecs x.seq x.cws n })

/-- A record of 19 codewords laid out in a superblock, its bytes those that the superblock's SEQ gives. -/
def State.layIn (s : State) (requester sb : Nat) (kind : NandKind) (bytes : Nat → List Byte) : State :=
  s.fillSb requester sb (fun x =>
    { x with cws := x.cws + 19, recs := x.recs ++ [{ kind, start := x.cws, bytes := bytes x.seq }] })

/-- A superblock holds another record. -/
def State.sbRoom (s : State) (x : NandSbRec) : Bool := decide (x.cws + 19 ≤ s.sbRows x.stream * x.rowCws)

/-- A record laid out in a stream, in its open superblock or the next of its horizon; none while the stream waits for a
checkpoint (R339). -/
def State.layOut (s : State) (requester stream : Nat) (kind : NandKind) (bytes : Nat → List Byte) : Option (Nat × Nat) × State :=
  let full := match s.openSb stream with | some (_, x) => !s.sbRoom x | none => false
  let s := match s.openSb stream with
    | some (sb, _) => if full then (s.closeRow requester sb).updSb sb (fun x => { x with closed := true }) else s
    | none => s
  match s.openSb stream with
  | some (sb, x) => (some (sb, x.cws), s.layIn requester sb kind bytes)
  | none =>
    match Maps.getD s.ntl.horizon stream [] with
    | [] => (none, s)
    | sb :: rest =>
      let dies := (s.groupDies (sb / 65536)).filter (fun d => !(s.die d).failed)
      let x : NandSbRec := { stream, seq := s.ntl.seq + 1, dies }
      let s := { s with ntl := { s.ntl with
        seq := s.ntl.seq + 1, sbs := Maps.put sb x s.ntl.sbs, horizon := Maps.put stream rest s.ntl.horizon } }
      if 2 ≤ dies.length && s.sbRoom x then (some (sb, 0), s.layIn requester sb kind bytes) else (none, s)

/-- The row that a superblock is filling. -/
def NandSbRec.row (x : NandSbRec) : Nat := x.cws / Nat.max 1 x.rowCws

/-- The first program of the row being filled has reported in this frame, if a program of page `p` is that one (R325, log 62). -/
def NandSbRec.rowBegun (x : NandSbRec) (p frame : Nat) : Option (Nat × Nat) :=
  let row := p / Nat.max 1 x.dies.length
  if row = x.row && x.rowFrame.map Prod.fst != some row then some (row, frame) else x.rowFrame

/-- The row being filled was begun so many frames ago. -/
def NandSbRec.rowOld (x : NandSbRec) (limit now : Nat) : Bool :=
  match x.rowFrame with | some (row, f) => row == x.row && decide (f + limit ≤ now) | none => false

/-- STRIPE_ROW_CLOSE: a row still incomplete CLOSE_FRAMES after its first program is filled (R325). -/
def execStripeRowClose (sb : BitVec 22) (s : State) : Result :=
  .next (match Maps.find sb.toNat s.ntl.sbs with
    | none => s
    | some x =>
      let limit := Nat.max 1 (s.effF Reg.NTL_GC_CFG 23 16)
      if !x.closed && x.cws % Nat.max 1 x.rowCws ≠ 0 && x.rowOld limit s.frameNow then
        s.closeRow (streamRequester x.stream) sb.toNat else s)

/-! ## The map (R318, R321, R323) -/

/-- The map entry of a TPN changed, its segment to be written by the next checkpoint. -/
def State.setMap (s : State) (tpn : Nat) (e : NandLocRec) : State :=
  { s with ntl := { s.ntl with map := Maps.put tpn e s.ntl.map, changed := Maps.put (tpn / 2048) true s.ntl.changed } }

/-- The lowest free TPN. -/
def State.freeTpn (s : State) : Option Nat :=
  let n := s.ntl.map.length + s.ntl.taken.length + 1
  match (upTo n).find? (fun t => !Maps.has s.ntl.map t && !Maps.has s.ntl.taken t) with
  | some t => if t < s.ntl.tpns then some t else none
  | none => none

/-- Superblocks the SLC buffer may hold, by the tier's fill (R321). -/
def State.slcLimit (s : State) : Nat :=
  let m := s.ntl.map.length
  let t := s.ntl.tpns
  s.sbTotal / (if 4 * m < t then 8 else if 2 * m < t then 16 else if 4 * m < 3 * t then 32 else if 10 * m < 9 * t then 64 else 256)

/-- Superblocks in the SLC buffer. -/
def State.slcUsed (s : State) : Nat := (s.ntl.sbs.filter (fun e => e.2.stream == 0)).length

/-- A record is the one that the map, a destage under way or the segment directory names. -/
def State.recValid (s : State) (sb : Nat) (r : NandRec) : Bool :=
  match r.kind with
  | .filler => false
  | .data t p =>
    (match Maps.find t s.ntl.map with | some e => e.sb == sb && e.start == r.start | none => false) ||
    (match Maps.find p s.med.destages with | some d => d.handed == some (sb, r.start) | none => false)
  | .segment n => Maps.find n s.ntl.segments == some (sb, r.start) || Maps.find n s.ntl.newSegments == some (sb, r.start)

/-- Valid records of a superblock. -/
def State.validRecs (s : State) (sb : Nat) : List NandRec :=
  match Maps.find sb s.ntl.sbs with
  | some x => x.recs.filter (s.recValid sb)
  | none => []

/-- The die of a page's first codeword. -/
def State.pageDie (s : State) (page : Nat) : Nat :=
  match s.readLoc page with
  | some e => (match Maps.find e.sb s.ntl.sbs with | some x => x.dieOf (x.pageOf e.start) | none => 0)
  | none => 0

/-- A read of a superblock is outstanding. -/
def State.sbRead (s : State) (sb : Nat) : Bool :=
  s.med.nandReads.any (fun r => match s.readLoc r.1 with | some e => e.sb == sb | none => false)

/-! ## Moving records (R322, R335) -/

/-- A record is to be copied. -/
def State.wantCopy (s : State) (w : NandWantRec) : State := { s with ntl := { s.ntl with copyWant := s.ntl.copyWant ++ [w] } }

/-- A valid record that has been read copied into a stream, or left to wait for room in it; its map entry moves once the copy is protected
(R322, R339). -/
def State.layCopy (s : State) (w : NandWantRec) (r : NandRec) : State :=
  match r.kind with
  | .data t _ =>
    if s.ntl.moves.any (fun m => m.tpn == t) || !Maps.has s.ntl.map t then s
    else
      match s.layOut w.requester w.stream r.kind (recordUnder r.bytes) with
      | (some (nsb, ns), s) =>
        let m : NandMoveRec := { tpn := t, fromSb := w.sb, fromStart := r.start, sb := nsb, start := ns }
        { s with ntl := { s.ntl with moves := s.ntl.moves ++ [m] } }
      | (none, s) => s.wantCopy w
  | _ => s

/-- The read by which a record is copied, while its page still lies there; one that failed is read again (R322, R332, log 118). -/
def State.readCopy (s : State) (w : NandWantRec) (page : Nat) : State :=
  match s.nandLoc page with
  | some e => if e.sb = w.sb && e.start = w.start then s.askNand page (.copy w.requester) else s
  | none => s

/-- A valid record read to be copied into a stream, as work of a requester; a map segment's goes with the next checkpoint, from the working
copy of the map (R322, R332, R335). -/
def State.copyRec (s : State) (requester stream sb : Nat) (r : NandRec) : State :=
  match r.kind with
  | .data t p =>
    if s.ntl.moves.any (fun m => m.tpn == t) || !Maps.has s.ntl.map t ||
        s.ntl.copyWant.any (fun w => w.sb == sb && w.start == r.start) then s
    else
      let w : NandWantRec := { requester, stream, sb, start := r.start }
      (s.wantCopy w).readCopy w p
  | .segment n => { s with ntl := { s.ntl with changed := Maps.put n true s.ntl.changed } }
  | .filler => s

/-- The records to be copied are looked at again: one that has been read is copied, one no longer valid is forgotten (R322, R339). -/
def State.retryCopies (s : State) : State :=
  let ws := s.ntl.copyWant
  ws.foldl (fun (s : State) (w : NandWantRec) =>
    match (s.validRecs w.sb).find? (fun r => r.start == w.start) with
    | some r =>
      if w.read then s.layCopy w r
      else match r.kind with
        | .data _ p => (s.wantCopy w).readCopy w p
        | _ => s
    | none => s) { s with ntl := { s.ntl with copyWant := [] } }

/-- The record at a place has been read: it is copied where it is to be (R322, R335). -/
def State.copyNow (s : State) (e : NandLocRec) : State :=
  let here (w : NandWantRec) : Bool := w.sb == e.sb && w.start == e.start
  let ws := s.ntl.copyWant.filter here
  let s := { s with ntl := { s.ntl with copyWant := s.ntl.copyWant.filter (fun w => !here w) } }
  ws.foldl (fun (s : State) (w : NandWantRec) =>
    match (s.validRecs w.sb).find? (fun r => r.start == w.start) with
    | some r => s.layCopy { w with read := true } r
    | none => s) s

/-- Every valid record of a superblock read and copied, and the superblock marked to be erased once they have moved. -/
def State.evacuate (s : State) (requester stream sb : Nat) : State :=
  let s := s.updSb sb (fun x => { x with victim := true })
  (s.validRecs sb).foldl (fun (s : State) (r : NandRec) => s.copyRec requester stream sb r) s

/-- A superblock is erased when none of its records is valid or on its way, and no read of it is outstanding (R322, R335):
victims, and closed ones of the SLC buffer and of the map stream. -/
def State.eraseSb (s : State) (e : Nat × NandSbRec) : State :=
  let (sb, x) := e
  if x.erasing || !x.closed || !(x.victim || x.stream == 0 || x.stream == 3) || !(s.validRecs sb).isEmpty || s.sbRead sb ||
      s.ntl.moves.any (fun m => m.sb == sb || m.fromSb == sb) then s
  else
    let s := s.updSb sb (fun x => { x with erasing := true })
    let s := { s with ntl := { s.ntl with copyWant := s.ntl.copyWant.filter (fun w => w.sb != sb) } }
    ((x.dies.map (· / 64)).eraseDups).foldl (fun (s : State) (ch : Nat) => s.queueNand { ch, requester := 8, job := .erase sb }) s

/-- Map entries of copies that are protected now move to them; what is then empty is erased. -/
def State.settleNand (s : State) : State :=
  let ready (m : NandMoveRec) : Bool :=
    match Maps.find m.sb s.ntl.sbs with | some x => x.protects m.start 19 | none => false
  let done := s.ntl.moves.filter ready
  let s := { s with ntl := { s.ntl with moves := s.ntl.moves.filter (fun m => !ready m) } }
  let s := done.foldl (fun (s : State) (m : NandMoveRec) =>
    match Maps.find m.tpn s.ntl.map with
    | some e => if e.sb == m.fromSb && e.start == m.fromStart then s.setMap m.tpn { e with sb := m.sb, start := m.start } else s
    | none => s) s
  s.ntl.sbs.foldl State.eraseSb s

/-- A new root and the segment directory written through the journal: the root names the horizons and where the open superblocks stand
(R338, step 3, R340). -/
def State.writeRoot (s : State) : State :=
  let opened := (s.ntl.sbs.filter (fun e => !e.2.closed)).map (fun e => (e.1, e.2.cws))
  let (g, s) := s.journal [(Tbl.nand, 0)]
  { s with ntl := { s.ntl with
      rootGroup := some g, nextHorizon := s.newHorizon.ntl.horizon, nextOpen := opened, nextSeq := s.ntl.seq
      destaged := 0, ckptFrame := s.frameNow } }

/-- The root's group is Placed and the root in place: its segment directory and horizons count from now on, and the old copies of
segments are invalid (R338, R339). -/
def State.installRoot (s : State) : State :=
  let left (l : List Nat) : List Nat := l.filter (fun sb => !Maps.has s.ntl.sbs sb)
  let s := { s with ntl := { s.ntl with
    segments := s.ntl.newSegments.foldl (fun (t : Table (Nat × Nat)) (e : Nat × Nat × Nat) => Maps.put e.1 e.2 t) s.ntl.segments
    newSegments := [], ckptDue := false, ckptSeq := s.ntl.nextSeq, rootHorizon := s.ntl.nextHorizon, rootOpen := s.ntl.nextOpen
    horizon := Maps.mapV (fun _ l => left l) s.ntl.nextHorizon, nextHorizon := [], nextOpen := [], rootGroup := none } }
  (s.setF Reg.NTL_STATUS 23 0 s.ntl.ckptSeq).settleNand

/-- A checkpoint whose segments all have their parity goes on to its root, and ends when that is in place (R338, steps 2 and 3). -/
def State.settleCkpt (s : State) : State :=
  let ok (e : Nat × Nat × Nat) : Bool :=
    match Maps.find e.2.1 s.ntl.sbs with | some x => x.protects e.2.2 19 | none => true
  match s.ntl.rootGroup with
  | some g => if s.dur.journalOpen.contains g then s else s.installRoot
  | none => if s.ntl.ckptDue && s.ntl.newSegments.all ok then s.writeRoot else s

/-- A stream needs a superblock beyond its horizon (R339). -/
def State.beyondHorizon (s : State) : Bool :=
  (upTo 4).any (fun k => (Maps.getD s.ntl.horizon k []).isEmpty &&
    (match s.openSb k with | some (_, x) => !s.sbRoom x | none => true))

/-- A checkpoint begun: changed segments written into the map stream; where that stream waits beyond its horizon, the root alone
goes first (R338, R339). -/
def State.checkpoint (s : State) : State :=
  let lay (s : State) (n : Nat) : State :=
    match s.layOut 5 3 (.segment n) (s.segmentRecord n) with
    | (some loc, s) => { s with ntl := { s.ntl with newSegments := Maps.put n loc s.ntl.newSegments, changed := Maps.del n s.ntl.changed } }
    | (none, s) => s
  let s := (s.ntl.changed.map Prod.fst).foldl lay s
  ({ s with ntl := { s.ntl with ckptDue := true } } : State).settleCkpt

/-- MAP_CHECKPOINT: due after CKPT_PAGES destaged records, after CKPT_FRAMES with a changed map, or for a stream that waits (R338,
R339). -/
def execMapCheckpoint (s : State) : Result :=
  .next (
    let due := decide (Nat.max 1 (s.effF Reg.NTL_CKPT_CFG 15 0) ≤ s.ntl.destaged) || s.beyondHorizon ||
      (!s.ntl.changed.isEmpty && decide (s.ntl.ckptFrame + Nat.max 1 (s.effF Reg.NTL_CKPT_CFG 27 16) ≤ s.frameNow))
    if s.ntl.state ≠ 2 || s.ntl.ckptDue || s.ntl.rootGroup.isSome || s.sqr.tierShut || !due then s
    else if !s.groundsOk 11 then s.holdGrounds 11 .mapCheckpoint
    else (s.startWork 11).checkpoint)

/-! ## Destage (R277, R278, R323, R324) -/

/-- Age bucket of a LAST_WRITE stamp (R276). -/
def State.ageBucket (s : State) (stamp : Nat) : Nat := Nat.min 15 (Nat.log2 ((s.minute16 + 65536 - stamp) % 65536 + 1))

/-- The page's tenant has met its SCM_QUOTA and is still above seven eighths of it, or is over it (R105, R277). -/
def State.overQuota (s : State) (page : Nat) : Bool :=
  match s.pageTenant page with
  | some t =>
    let q := s.scmQuota t
    q ≠ 0 && (decide (q < s.residentPages t) || (s.win.draining.contains t && decide (7 * q < 8 * s.residentPages t)))
  | none => false

/-- Age in minutes of a LAST_WRITE stamp (R276). -/
def State.age (s : State) (stamp : Nat) : Nat := (s.minute16 + 65536 - stamp) % 65536

/-- A page of an extent whose PINNED count is 0, as the commands processed so far leave it (R115). -/
def State.unpinned (s : State) (page : Nat) : Bool :=
  match Maps.find (page / 128) s.processed.extents with | some x => decide (x.pinCount = 0) | none => false

/-- A page the destager may take: no pinned extent, no line of it still buffered, nothing else under way with it. -/
def State.destageable (s : State) (page : Nat) : Bool :=
  (s.extent (page / 128)).isSome && s.unpinned page &&
  !s.dur.pb.any (fun e => pageOfLine e.line == page) && !Maps.has s.med.destages page &&
  (match Maps.find page s.win.pages with | some (.scm _ _) => true | _ => false)

/-- Place of a frame's page in R277's order: pages over quota, least recently written first (R105), then the highest age bucket
and the lowest frame. -/
def State.destageKey (s : State) (m f page stamp : Nat) : Nat :=
  ((if s.overQuota page then 65535 - s.age stamp else 65536 + (15 - s.ageBucket stamp)) * 2 ^ 26 + f) * 16 + m

/-- The page the destager takes next (R277): outside the pool's watermarks one over its tenant's quota (R105). -/
def State.destagePick (s : State) : Option Nat :=
  let all := s.med.links.flatMap (fun l => l.2.frames.map (fun f => (s.destageKey l.1 f.1 f.2.1 f.2.2, f.2.1)))
  let may (p : Nat) : Bool := s.destageable p && (s.med.destaging || s.overQuota p)
  let best := (all.filter (fun e => may e.2)).foldl
    (fun (a : Option (Nat × Nat)) (e : Nat × Nat) => match a with | some x => if e.1 < x.1 then some e else some x | none => some e) none
  best.map Prod.snd

/-- A tenant that has met its SCM_QUOTA is at or below seven eighths of it again (R105). -/
def State.drained (s : State) (t : Nat) : Bool := decide (8 * s.residentPages t ≤ 7 * s.scmQuota t)

/-- DESTAGE: the destager, which DESTAGE_EN permits, takes the page of R277 and the lowest free TPN, and reads the page's lines; no
free TPN makes the tier FULL (R277, R323, R346). -/
def execDestage (s : State) : Result :=
  .next (
    if !s.effB Reg.MED_CTRL 1 || s.ntl.state ≠ 2 || s.tierRo || s.twn.stopped then s
    else if !s.groundsOk 8 then s.holdGrounds 8 .destage
    else
      let s := { s with win := { s.win with draining := s.win.draining.filter (fun t => !s.drained t) } }
      match s.destagePick with
      | none => s
      | some page =>
        match s.freeTpn with
        | none => s.enterRo false
        | some t =>
          let d : DestageRec := { tpn := t }
          let s := { s with
            med := { s.med with destages := Maps.put page d s.med.destages }
            ntl := { s.ntl with taken := Maps.put t page s.ntl.taken, lastDestage := s.frameNow } }
          let s := s.startWork 8
          let m := s.lineStack (page * 256)
          (upTo 256).foldl (fun (s : State) (k : Nat) =>
            if Maps.has s.med.poison (page * 256 + k) then s else s.issue m (.rd (page * 256 + k) none)) s)

/-- A page's lines have been read and checked: no read or repair of one is under way. -/
def State.pageRead (s : State) (page : Nat) : Bool :=
  !(upTo 256).any (fun k => s.lineRead (page * 256 + k) || Maps.has s.med.repairs (page * 256 + k)) &&
  !s.med.links.any (fun l => l.2.held.any (fun t => match t.trans with | .rd k _ => pageOfLine k == page | _ => false))

/-- At a tick boundary, pages whose lines have been read are handed to the tier: their records are laid out in the SLC buffer or in
bulk (R321, R323). In P2 Hold nothing is (R349). -/
def State.handOver (s : State) : State :=
  if s.sqr.tierShut then s else s.med.destages.foldl (fun (s : State) (e : Nat × DestageRec) =>
    let (page, d) := e
    if d.handed.isSome then s
    else if d.written then s.abandon page
    else if !s.pageRead page then s
    else
      match s.layOut 2 (if s.slcUsed < s.slcLimit then 0 else 1) (.data d.tpn page) (s.dataRecord d.tpn page) with
      | (some loc, s) => { s with med := { s.med with destages := Maps.put page { d with handed := some loc } s.med.destages } }
      | (none, s) => s) s

/-- The record of a destaged page is protected (R323). -/
def State.destageDone (s : State) (d : DestageRec) : Bool :=
  match d.handed with
  | none => false
  | some (sb, start) => match Maps.find sb s.ntl.sbs with | some x => x.protects start 19 | none => false

/-- DESTAGE_SWITCH: the page's record is protected, and the switch is made, or given up, at the next tick boundary (R278, R323). -/
def execDestageSwitch (page : BitVec 34) (s : State) : Result :=
  let p := page.toNat
  .next (match Maps.find p s.med.destages with
    | some d =>
      if d.written || s.destageDone d then { s with med := { s.med with destages := Maps.put p { d with switch := true } s.med.destages } }
      else s
    | none => s)

/-- At a tick boundary a page whose switch is due goes to its TPN, and its frame is released with the journal group; one to which a
write was Accepted, or which has been pinned, stays in SCM (R115, R278, R324). -/
def State.switchDestage (s : State) (e : Nat × DestageRec) : State :=
  let (p, d) := e
  if !d.switch then s
  else match d.handed, Maps.find p s.win.pages with
    | some (sb, start), some loc =>
      if d.written || !s.unpinned p then (s.abandon p).settleNand
      else
        let s := (s.abandon p).setMap d.tpn { sb, start, page := p }
        let s := if (match Maps.find sb s.ntl.sbs with | some x => x.victim | none => false) then
            s.wantCopy { requester := 4, stream := 2, sb, start } else s
        let (g, s) := s.journal [(Tbl.page, p), (Tbl.nand, d.tpn)]
        let s := { s with
          win := { s.win with pages := Maps.put p (.nand d.tpn) s.win.pages }
          dur := { s.dur with frees := s.dur.frees ++ [(g, loc)] }
          ntl := { s.ntl with destaged := s.ntl.destaged + 1 } }
        s.bump Reg.MED_CNT_DESTAGE
    | _, _ => (s.abandon p).settleNand

/-! ## Promotion (R279, R280) -/

/-- A frame of the pool taken for a page that comes from NAND; the page's location switches later. -/
def State.takeFrame (s : State) (page : Nat) (repair : Bool) (cls : Cls) : State :=
  let m := s.emptiestStack
  let f := s.lowFrame m
  let s := s.setLink m { s.link m with frames := Maps.put f (page, s.minute16) (s.link m).frames }
  let x : PromoteRec := { stack := m, frame := f, left := 256, issued := repair, repair, cls }
  { s with med := { s.med with promotes := Maps.put page x s.med.promotes }
           win := { s.win with reserved := s.win.reserved.erase page } }

/-- The staged page's 256 lines are written to its new frame (R279). -/
def State.pourPage (s : State) (page : Nat) : State :=
  match Maps.find page s.med.promotes with
  | none => s
  | some x =>
    if x.issued then s
    else
      let s := { s with med := { s.med with promotes := Maps.put page { x with issued := true } s.med.promotes } }
      let t := (s.pageTenant page).getD 0
      (upTo 256).foldl (fun (s : State) (k : Nat) => s.issueFor x.stack x.cls t (.promo (page * 256 + k))) s

/-- A request's buffered writes touch a page, or an atomic of it does. -/
def State.writesPage (s : State) (page : Nat) (r : Request) : Bool :=
  let base := (s.window r.win).pnaBase
  (touched base r.eff.writes).any (fun l => pageOfLine l == page) ||
  (r.matoms ++ r.logged).any (fun m => m.due && pageOf m.pna == page)

/-- Requests that wait for a page's promotion end with a code: at a deferred commit, or through a failed atomic. -/
def State.endWriters (s : State) (page code : Nat) : State :=
  s.cle.reqs.foldl (fun (s : State) (e : Nat × Request) =>
    if !s.writesPage page e.2 then s
    else
      let s := s.failPage e.1 page code
      match e.2.st with
      | .waiting (.commit _) _ => s.endReq e.1 code
      | _ => s) s

/-- The class of the first write that waits for a page; chip-originated work is of class Grounds (R38, R41, R279). -/
def State.promoteClass (s : State) (page : Nat) : Cls :=
  match s.cle.reqs.find? (fun e => s.writesPage page e.2) with | some (_, r) => r.cls | none => .grounds

/-- A pinning or a mirrored line waits for a page's promotion (R115, R279). -/
def State.promoteKept (s : State) (page : Nat) : Bool :=
  !s.unpinned page || s.dur.pb.any (fun e => e.mirror && pageOfLine e.line == page)

/-- PROMOTE: a page that a write, a pinning or a mirrored line waits for takes a frame and is read from NAND; a pinning has its frame
reserved, and without a frame, or past the tenant's SCM_QUOTA, the writes end with NO_SPACE (R105, R115, R116, R279, R280). -/
def execPromote (page : BitVec 34) (s : State) : Result :=
  let p := page.toNat
  .next (
    if !s.med.promoteWant.contains p || Maps.has s.med.promotes p then s
    else
      let drop (s : State) : State := { s with
        med := { s.med with promoteWant := s.med.promoteWant.erase p }
        win := { s.win with reserved := s.win.reserved.erase p } }
      if !s.inNand p then drop s
      else if !s.groundsOk 9 then s.holdGrounds 9 (.promote page)
      else if s.rawFree = 0 || (s.poolFree = 0 && !s.win.reserved.contains p) ||
          (!s.promoteKept p && s.pastQuota ((s.pageTenant p).getD 0) 1) then
        let t := (s.pageTenant p).getD 0
        let n := (s.cle.reqs.filter (fun e => s.writesPage p e.2)).length
        let s := if n = 0 then s else (s.noSpace t n 1).endWriters p Code.noSpace
        if s.promoteKept p then s else drop s
      else
        let s := (s.takeFrame p false (s.promoteClass p)).startWork 9
        if Maps.has s.ntl.staged p then s.pourPage p else s.wantNand p .chip)

/-- PROMOTE_SWITCH: every line is confirmed, and the location switches at the next tick boundary (R279). -/
def execPromoteSwitch (page : BitVec 34) (s : State) : Result :=
  let p := page.toNat
  .next (match Maps.find p s.med.promotes with
    | some x =>
      if x.left ≠ 0 then s
      else { s with med := { s.med with promotes := Maps.put p { x with switch := true } s.med.promotes } }
    | none => s)

/-- At a tick boundary a promoted page's location switches to its frame; its TPN is released and its staged copy discarded (R279,
R328, R329). -/
def State.switchPromote (s : State) (e : Nat × PromoteRec) : State :=
  let (p, x) := e
  if !x.switch then s
  else match Maps.find p s.win.pages with
    | some (.nand t) =>
        let (g, s) := s.journalFor x.cls ((s.pageTenant p).getD 0) [(Tbl.page, p), (Tbl.frame, x.stack * 2 ^ 26 + x.frame)]
        let s := { s with
          med := { s.med with promotes := Maps.del p s.med.promotes, promoteWant := s.med.promoteWant.erase p }
          win := { s.win with pages := Maps.put p (.scm x.stack x.frame) s.win.pages }
          dur := { s.dur with frees := s.dur.frees ++ [(g, .nand t)] }
          ntl := { s.ntl with staged := Maps.del p s.ntl.staged, changed := Maps.put (t / 2048) true s.ntl.changed } }
        if x.repair then s else s.bump Reg.MED_CNT_PROMOTE
    | _ => { s with med := { s.med with promotes := Maps.del p s.med.promotes, promoteWant := s.med.promoteWant.erase p } }

/-- The lines of a request's MATOMs whose pages have left NAND are read (R155). -/
def State.readAtoms (s : State) (e : Nat × Request) : State :=
  let go (m : MAtom) : Bool := m.due && !m.read && !s.inNand (pageOf m.pna)
  let l := (e.2.matoms ++ e.2.logged).filter go
  if l.isEmpty then s
  else
    let mark (m : MAtom) : MAtom := if go m then { m with read := true } else m
    let s := s.updReq e.1 (fun r => { r with matoms := r.matoms.map mark, logged := r.logged.map mark })
    l.foldl (fun (s : State) (m : MAtom) => s.readRange m.pna (matomSize m.sub) (some e.1)) s

/-- The switches of locations that are due at a tick boundary (R278, R279), and the reads that waited for a page to leave NAND. -/
def State.switchPages (s : State) : State :=
  let s := s.med.destages.foldl State.switchDestage s
  let s := s.med.promotes.foldl State.switchPromote s
  s.cle.reqs.foldl State.readAtoms s

/-! ## Reading and recovery (R327–R331) -/

/-- Step 4 of R329: the page is taken from the twin into a fresh frame, or marked Poisoned where that may not be. -/
def State.pageLost (s : State) (page : Nat) : State :=
  if Maps.has s.med.promotes page && (match Maps.find page s.med.promotes with | some x => x.repair | none => false) then s
  else if s.effB Reg.MED_CTRL 2 && s.pairState == 1 && (0 < s.poolFree || Maps.has s.med.promotes page) then
    let s := s.bump Reg.NTL_CNT_TWIN_REPAIR
    let s := match Maps.find page s.med.promotes with
      | some x => { s with med := { s.med with promotes := Maps.put page { x with issued := true, repair := true } s.med.promotes } }
      | none => s.takeFrame page true .grounds
    { s with med := { s.med with repairs := (upTo 256).foldl (fun (t : Table RepairRec) (k : Nat) =>
        if Maps.has t (page * 256 + k) then t else Maps.put (page * 256 + k) {} t) s.med.repairs } }
  else
    let m := Maps.find page s.med.promotes
    let s := match m with
      | some x => s.setLink x.stack { s.link x.stack with frames := Maps.del x.frame (s.link x.stack).frames }
      | none => s
    s.poisonPage page

/-- A page's record is waited for no more: its reads leave the channels, and operations suspended for them resume (R331). -/
def State.endNandRead (s : State) (page : Nat) : State :=
  let s := (s.readDies page).foldl (fun (s : State) (d : Nat) => s.setDie d { s.die d with suspended := false }) s
  ({ s with
      med := { s.med with nandReads := s.med.nandReads.filter (fun e => e.1 != page) }
      ntl := { s.ntl with reading := Maps.del page s.ntl.reading } } : State).dropNand (.read page)

/-- Those who wait for a read of a page end with a code (R241, R330). -/
def State.failNand (s : State) (page code : Nat) : State :=
  let waits := s.med.nandReads.filter (fun e => e.1 == page)
  let s := s.endNandRead page
  waits.foldl (fun (s : State) (e : Nat × NandWant) =>
    match e.2 with
    | .req id => s.failPage id page code
    | .tile t => s.failTile t code
    | .chip => s.endWriters page code
    | .scan | .copy _ => s) s

/-- An operation of a die reports; eight failures in a row make it Failed (R333). -/
def State.dieResult (s : State) (d : Nat) (ok : Bool) : State :=
  s.setDie d { s.die d with streak := if ok then 0 else (s.die d).streak + 1 }

/-- A program or an erase of a die reports: the next one may be suspended anew (R331). -/
def State.dieDone (s : State) (d : Nat) (ok : Bool) : State :=
  let s := s.dieResult d ok
  s.setDie d { s.die d with suspends := 0 }

/-- A record whose page failed is laid out again in its stream; who waits for it waits for the new place (R326). -/
def State.relay (s : State) (stream sb : Nat) (r : NandRec) : State :=
  match r.kind with
  | .filler => s
  | .segment n =>
    match s.layOut (streamRequester stream) stream r.kind (recordUnder r.bytes) with
    | (some loc, s) =>
      if Maps.find n s.ntl.newSegments == some (sb, r.start) then
        { s with ntl := { s.ntl with newSegments := Maps.put n loc s.ntl.newSegments } }
      else s
    | (none, s) => { s with ntl := { s.ntl with changed := Maps.put n true s.ntl.changed } }
  | .data t p =>
    match s.layOut (streamRequester stream) stream r.kind (recordUnder r.bytes) with
    | (none, s) => { s with
        med := { s.med with destages := Maps.upd p (fun (d : DestageRec) =>
          if d.handed == some (sb, r.start) then { d with handed := none } else d) s.med.destages }
        ntl := { s.ntl with
          moves := s.ntl.moves.filter (fun m => !(m.tpn == t && m.sb == sb && m.start == r.start))
          copyWant := s.ntl.copyWant ++ (s.ntl.moves.filter (fun m => m.tpn == t && m.sb == sb && m.start == r.start)).map
            (fun m => { requester := 4, stream := 2, sb := m.fromSb, start := m.fromStart, read := true }) } }
    | (some (nsb, ns), s) =>
      let s := match Maps.find p s.med.destages with
        | some d => if d.handed == some (sb, r.start) then
            { s with med := { s.med with destages := Maps.put p { d with handed := some (nsb, ns) } s.med.destages } } else s
        | none => s
      { s with ntl := { s.ntl with moves := s.ntl.moves.map (fun m =>
          if m.tpn == t && m.sb == sb && m.start == r.start then { m with sb := nsb, start := ns } else m) } }

/-- Records of a superblock with a Failed die that are not protected go again into their stream (R326, R333). -/
def State.relayOpen (s : State) (e : Nat × NandSbRec) : State :=
  (e.2.recs.filter (fun r => !e.2.protects r.start r.size)).foldl (fun (s : State) (r : NandRec) => s.relay e.2.stream e.1 r) s

/-- The dies of a group that have failed. -/
def State.failedIn (s : State) (x : NandSbRec) : List Nat := x.dies.filter (fun d => (s.die d).failed)

/-- DIE_FAILED: a die is Failed: warned, shown, its superblocks closed, what is not protected there laid out again, and every valid record
that touches it relocated into superblocks without it; where its row lacks a second
die's page, the record is recovered from the twin or Poisoned (R333, R334). -/
def State.dieFailed (s : State) (d : Nat) : State :=
  if (s.die d).failed || !s.allDies.contains d then s
  else
    let s := s.setDie d { s.die d with failed := true }
    let reg := (if d % 64 < 32 then Reg.NTL_CH_DIE_FAIL_LO else Reg.NTL_CH_DIE_FAIL_HI) + 16 * (d / 64)
    let s := (s.setB reg (d % 32) true).earlyWarn 7
    let mine := s.ntl.sbs.filter (fun e => e.2.dies.contains d)
    let dead (o : NandOpRec) : Bool := !o.job.reads && (s.opDies o).contains d && (match o.job with | .prog _ _ => true | _ => false)
    let s := { s with ntl := { s.ntl with
      sbs := Maps.mapV (fun _ (x : NandSbRec) => if x.dies.contains d then { x with closed := true } else x) s.ntl.sbs
      ops := s.ntl.ops.filter (fun o => !dead o) } }
    let s := mine.foldl State.relayOpen s
    mine.foldl (fun (s : State) (e : Nat × NandSbRec) =>
        let two := decide (2 ≤ (s.failedIn e.2).length)
        (s.validRecs e.1).foldl (fun (s : State) (r : NandRec) =>
          let hit := (e.2.diesOf r.start r.size).any (fun k => (s.die k).failed)
          if !hit then s
          else if !two then s.copyRec 7 2 e.1 r
          else match r.kind with
            | .data _ p => if s.inNand p then s.pageLost p else s
            | _ => s) s) s

/-- DIE_FAILED (R333, R334): not ready for 100 ms, or eight failures in a row. -/
def execDieFailed (die : BitVec 10) (s : State) : Result := .next (s.dieFailed die.toNat)

/-- A page staged; the least recently used page that nobody waits for gives way when the area is full (R328, log 116). -/
def State.stagePage (s : State) (page : Nat) (evict : Bool) : State :=
  let idle := s.ntl.staged.filter (fun e => !s.med.nandReads.any (fun r => r.1 == e.1) && !Maps.has s.med.promotes e.1)
  let victim := idle.foldl (fun (a : Option (Nat × Nat)) (e : Nat × Nat) =>
    match a with | some x => if e.2 < x.2 then some e else some x | none => some e) none
  let staged := match evict, victim with | true, some v => Maps.del v.1 s.ntl.staged | _, _ => s.ntl.staged
  { s with ntl := { s.ntl with staged := Maps.put page s.ntl.stagedUse staged, stagedUse := s.ntl.stagedUse + 1 } }

/-- The bin of NTL_CBH for a codeword's first decode: the bits that hard decision corrected, if it did (R343). -/
def cwBin : Option Nat → Nat
  | none => 7
  | some n => if n = 0 then 0 else if n < 8 then 1 else if n < 16 then 2 else if n < 32 then 3 else if n < 48 then 4
    else if n < 64 then 5 else 6

/-- The steps of R329 as this read can have taken them, in their order: a soft decode for each codeword that fails hard decision, retries
of no more of them than that, at most RETRY_MAX options each, a rebuild of no more than went through every option; and a rebuild wherever a
die of the record is Failed (R329, R333). -/
def State.stepsTaken (s : State) (page : Nat) (x : NandSteps) : NandSteps :=
  let bad := (x.cws.filter Option.isNone).length
  let options := s.effF Reg.NTL_READ_CFG 3 0
  let retry := Nat.min x.retry (bad * options)
  let rebuild := Nat.min x.rebuild (if options = 0 then bad else retry / options)
  { x with
    soft := bad, retry
    rebuild := if (s.readDies page).any (fun d => (s.die d).failed) then Nat.max 1 rebuild else rebuild }

/-- A row of the record lacks two pages, so that none can be rebuilt (R334). -/
def State.beyondParity (s : State) (page : Nat) : Bool :=
  match (s.readLoc page).bind (fun e => Maps.find e.sb s.ntl.sbs) with
  | some x => decide (2 ≤ (x.dies.filter (fun d => (s.die d).failed)).length)
  | none => false

/-- What the reading of a record counts (R330, R343). -/
def State.countRead (s : State) (x : NandSteps) : State :=
  let s := (((s.bump Reg.NTL_CNT_READ).bumpBy Reg.NTL_CNT_SOFT x.soft).bumpBy Reg.NTL_CNT_RETRY x.retry).bumpBy Reg.NTL_CNT_REBUILD x.rebuild
  let s := x.cws.foldl (fun (s : State) (c : Option Nat) => s.bump (Reg.NTL_CBH + 4 * cwBin c)) s
  { s with ntl := { s.ntl with
      minuteReads := s.ntl.minuteReads + 1, minuteRetries := s.ntl.minuteRetries + x.retry
      minuteIters := s.ntl.minuteIters + x.iterations, minuteCws := s.ntl.minuteCws + x.cws.length } }

/-- A read of a record at `e` counts on the block of each of its dies; a scanned record that needs it is relocated, and the valid records
of a block that has been read too often (R337). -/
def State.refresh (s : State) (e : NandLocRec) (refresh : Bool) : State :=
  match Maps.find e.sb s.ntl.sbs with
  | none => s
  | some x =>
    let dies := (x.diesOf e.start 19).eraseDups
    let reads := dies.foldl (fun (t : Table Nat) d => Maps.put d (Maps.getD t d 0 + 1) t) x.reads
    let s := s.updSb e.sb (fun x => { x with reads })
    let worn := dies.filter (fun d => decide (s.effF Reg.NTL_SCAN_CFG 31 16 * 1024 ≤ Maps.getD reads d 0))
    let its := (s.validRecs e.sb).filter (fun r =>
      (refresh && r.start == e.start) || (x.closed && (x.diesOf r.start r.size).any worn.contains))
    its.foldl (fun (s : State) (r : NandRec) =>
      if r.start = e.start then s.layCopy { requester := 6, stream := 2, sb := e.sb, start := r.start, read := true } r
      else s.copyRec 6 2 e.sb r) s

/-- Line k of a record passes its tag: TAG_CRC at 8k of codewords 1 and 2, its data in codewords 3 to 18 (R315, R316). -/
def recordLineOk (record : List Byte) (page tenant k : Nat) : Bool :=
  leNat (slice record (1024 + 8 * k) 4) == tagCrc (slice record (3072 + 64 * k) 64) (nandAddress (page * 256 + k) tenant false)

/-- A decoded record passes its checks: it is the one that the map names for the page, or the directory for the segment, its CRC and
every line tag pass (R315, R316, R327). -/
def State.recordOk (s : State) (page : Nat) (record : List Byte) : Bool :=
  let seq := match (s.readLoc page).bind (fun e => Maps.find e.sb s.ntl.sbs) with | some x => x.seq | none => 0
  leNat (slice record 64 4) == crcInv (slice record 0 64) &&
  if 2 ^ 34 ≤ page then
    let n := page - 2 ^ 34
    slice record 0 64 == recordHeader 2 0 n 0 0 seq (List.replicate 32 0) &&
    (upTo 256).all (fun k => leNat (slice record (1024 + 8 * k) 4) == tagCrc (slice record (3072 + 64 * k) 64) (nandAddress (n * 256 + k) 0 true))
  else
    let tenant := (s.pageTenant page).getD 0
    let tpn := match Maps.find page s.win.pages with | some (.nand t) => t | _ => 0
    slice record 0 64 == recordHeader 1 (nthD record 3 0) tpn page tenant seq (slice record 32 32) &&
    (upTo 256).all (recordLineOk record page tenant)

/-- A tile gets the lines of a page that it has not read from elsewhere, from the page's staging buffer (R227, R229). -/
def State.serveTile (s : State) (page tile : Nat) : State :=
  match Maps.find tile s.stg.tiles with
  | none => s
  | some x => ((linesOf x.base x.len).filter (fun l => pageOfLine l == page && !x.taken.contains l)).foldl
      (fun (s : State) (l : Nat) => s.takeLine tile l) s

/-- The wait is for a page's data: a request's, a tile's or a promotion's, whose record is staged (R327). -/
def NandWant.stages : NandWant → Bool
  | .req _ | .tile _ | .chip => true
  | .scan | .copy _ => false

/-- A record has been read and checked: it is staged, and its waiters go on; one that is only scanned or copied is not staged (R327, R328,
R337). -/
def State.recordRead (s : State) (page : Nat) (evict : Bool) : State :=
  let waits := s.med.nandReads.filter (fun e => e.1 == page)
  if !waits.any (fun e => e.2.stages) then s.endNandRead page else
  let s := waits.foldl (fun (s : State) (e : Nat × NandWant) => match e.2 with | .tile t => s.serveTile page t | _ => s) s
  ((s.endNandRead page).stagePage page evict).pourPage page

/-- What is under way with a page that is discarded ends: a promotion with its frame, a destage, reads of its record, which find a page
without contents (R107, R342). -/
def State.dropPage (s : State) (p : Nat) : State :=
  let tiles := s.med.nandReads.filterMap (fun e => match e with | (q, .tile t) => if q = p then some t else none | _ => none)
  let s := tiles.foldl (fun (s : State) t => s.serveTile p t) s
  let s := s.endNandRead p
  let s := match Maps.find p s.med.promotes with
    | some x => s.setLink x.stack { s.link x.stack with frames := Maps.del x.frame (s.link x.stack).frames }
    | none => s
  { s with
    med := { s.med with
      poison := s.med.poison.filter (fun x => pageOfLine x.1 != p)
      promotes := Maps.del p s.med.promotes, promoteWant := s.med.promoteWant.erase p, destages := Maps.del p s.med.destages }
    ntl := { s.ntl with staged := Maps.del p s.ntl.staged, taken := s.ntl.taken.filter (fun x => x.2 != p) } }

/-- PAGE_DISCARD: a hinted page that no later write has touched becomes Unwritten, its frame or TPN and its poison marks go,
and a destage of it is abandoned (R342). -/
def execPageDiscard (page : BitVec 34) (s : State) : Result :=
  let p := page.toNat
  .next (match Maps.find p s.win.discards with
    | none => s
    | some written =>
      if s.dur.pb.any (fun e => pageOfLine e.line == p) && !written then s
      else
        let s := { s with win := { s.win with discards := Maps.del p s.win.discards } }
        if written then s else (s.unmapPage p).dropPage p)

/-- A record that steps 1 to 3 of R329 could not recover, or whose header or line tags fail: its waiters end with MEDIA_UE, and it goes
on from step 4; a map segment is written again from the working copy of the map (R329, R330, R338). -/
def State.recordLost (s : State) (page d : Nat) : State :=
  let s := ((s.dieResult d true).failNand page Code.mediaUe).report 0x15 d
  if 2 ^ 34 ≤ page then { s with ntl := { s.ntl with changed := Maps.put (page - 2 ^ 34) true s.ntl.changed } } else s.pageLost page

/-- A record that could not be recovered; what was to be copied of it is copied as it is, its page being Poisoned or on its way from the
twin (log 118). -/
def State.recordGone (s : State) (page d : Nat) : State :=
  let t := s.recordLost page d
  match s.readLoc page with | some e => t.copyNow e | none => t

/-- NAND_READ_DONE: `page` is a page of the namespace, or 2³⁴ and the number of a map segment (R337). The record is staged and its waiters
go on, or they end with the code of its failure; a device failure ends them with STAGE_FAIL (R327–R330). -/
def execNandReadDone (page : BitVec 35) (steps : NandSteps) (evict : Bool) (out : NandOutcome) (s : State) : Result :=
  let p := page.toNat
  .next (
    if !s.med.nandReads.any (fun e => e.1 == p) || (s.nandLoc p).isNone || !s.nandIssued (.read p) then s
    else
      let scan := s.med.nandReads.contains (p, .scan)
      let d := s.pageDie p
      let steps := s.stepsTaken p steps
      let limit := s.effF Reg.NTL_SCAN_CFG 15 8
      let weak := steps.cws.any (fun c => match c with | some n => decide (limit < n) | none => true) ||
        0 < steps.soft + steps.retry + steps.rebuild
      let s := s.countRead steps
      match out with
      | .read record =>
        if s.recordOk p record && !(0 < steps.rebuild && s.beyondParity p) then
          let t := (s.dieResult d true).recordRead p evict
          match s.readLoc p with | some e => (t.copyNow e).refresh e (scan && weak) | none => t
        else s.recordGone p d
      | .lost => s.recordGone p d
      | .status =>
        let s := ((s.dieResult d false).failNand p Code.stageFail).report 0x15 d
        if 8 ≤ (s.die d).streak then s.dieFailed d else s)

/-- NAND_READY_TIMEOUT: the device of a page's read is not ready within 10 ms (R330). -/
def execNandReadyTimeout (page : BitVec 35) (s : State) : Result :=
  let p := page.toNat
  .next (if s.med.nandReads.any (fun e => e.1 == p) && s.nandIssued (.read p) then (s.failNand p Code.stageFail).report 0x15 (s.pageDie p)
    else s)

/-- A request's read has waited SUSPEND_AFTER µs, of three ticks each, for a die (R331, R332). -/
def State.readStarves (s : State) (d : Nat) : Bool :=
  s.ntl.ops.any (fun o => !o.issued && o.job.reads && o.requester == 0 && (s.opDies o).contains d &&
    decide (o.since + 3 * s.effF Reg.NTL_READ_CFG 19 4 ≤ s.now))

/-- NAND_SUSPEND: a request's read that has waited SUSPEND_AFTER suspends the die's program or erase, at most 16 times (R331). -/
def execNandSuspend (die : BitVec 10) (s : State) : Result :=
  let d := die.toNat
  .next (
    if s.effB Reg.NTL_CTRL 2 && s.dieBusy d && !(s.die d).suspended && decide ((s.die d).suspends < 16) && s.readStarves d then
      let s := s.setDie d { s.die d with suspends := (s.die d).suspends + 1, suspended := true }
      let s := s.pumpNand (d / 64)
      { s with ntl := { s.ntl with suspended := Maps.put (d / 64) (Maps.getD s.ntl.suspended (d / 64) 0 + 1) s.ntl.suspended } }
    else s)

/-! ## Programs and erases (R323, R326) -/

/-- Records of a superblock that touch a row and are not protected go again into the same stream (R326). -/
def State.relayRow (s : State) (sb row : Nat) (x : NandSbRec) : State :=
  let touches (r : NandRec) : Bool := (upTo r.size).any (fun k => x.pageOf (r.start + k) / Nat.max 1 x.dies.length == row)
  (x.recs.filter (fun r => touches r && !x.protects r.start r.size)).foldl (fun (s : State) (r : NandRec) => s.relay x.stream sb r) s

/-- A page's program failed: its block is retired, the records of its row, which stays without that page, go again into the same stream,
the block's earlier records are relocated (R326). -/
def State.programFailed (s : State) (sb page d : Nat) (x : NandSbRec) : State :=
  let s := (s.bump Reg.NTL_CNT_PROG_FAIL).dieDone d false
  let s := (s.retireBlock d).earlyWarn 4
  let s := s.updSb sb (fun x => { x with closed := true, victim := true, progs := Maps.put page false x.progs })
  let s := (s.closeRow (streamRequester x.stream) sb).relayRow sb (page / Nat.max 1 x.dies.length) x
  let s := if 8 ≤ (s.die d).streak then s.dieFailed d else s
  s.evacuate 4 2 sb

/-- NAND_PROGRAM_DONE: a page's program reports (R323, R326). -/
def execNandProgramDone (sb : BitVec 22) (page : BitVec 17) (ok : Bool) (s : State) : Result :=
  let k := sb.toNat
  let p := page.toNat
  .next (match Maps.find k s.ntl.sbs with
    | none => s
    | some x =>
      if !x.issued p || Maps.has x.progs p || x.dies.isEmpty || !s.nandIssued (.prog k p) || (s.die (x.dieOf p)).suspended then s
      else
        let d := x.dieOf p
        let s := s.dropNand (.prog k p)
        let s := if ok then (s.updSb k (fun x => { x with progs := Maps.put p true x.progs, rowFrame := x.rowBegun p s.frameNow })).dieDone d true
          else s.programFailed k p d x
        s.settleNand.settleCkpt)

/-- NAND_ERASE_DONE: a superblock's erases report; a block that fails is retired (R322, R326, R335). -/
def execNandEraseDone (sb : BitVec 22) (bad : Option (BitVec 10)) (s : State) : Result :=
  let k := sb.toNat
  .next (match Maps.find k s.ntl.sbs with
    | none => s
    | some x =>
      if !x.erasing || !s.nandIssued (.erase k) || x.dies.any (fun d => (s.die d).suspended) then s
      else
        let s := s.dropNand (.erase k)
        let s := { s with ntl := { s.ntl with
          sbs := Maps.del k s.ntl.sbs, erases := Maps.put k (Maps.getD s.ntl.erases k 0 + 1) s.ntl.erases } }
        let s := x.dies.foldl (fun (s : State) (d : Nat) =>
          if bad.map (·.toNat) == some d then ((s.bump Reg.NTL_CNT_ERASE_FAIL).dieDone d false).retireBlock d else s.dieDone d true) s
        let s := match bad with
          | some d => if 8 ≤ (s.die d.toNat).streak then s.dieFailed d.toNat else s
          | none => s
        s.warnHealth)

/-! ## Fold, garbage collection, wear, scan (R322, R335–R337) -/

/-- The superblock of a list that is first by a key. -/
def leastSb (key : Nat × NandSbRec → Nat) : List (Nat × NandSbRec) → Option (Nat × NandSbRec)
  | [] => none
  | x :: xs => some (xs.foldl (fun a b => if key b < key a then b else a) x)

/-- FOLD: the oldest superblock of the SLC buffer is copied into bulk, when the buffer is more than three quarters of its limit or
a frame has passed without a destage (R322). -/
def execFold (s : State) : Result :=
  .next (
    let due := decide (3 * s.slcLimit < 4 * s.slcUsed) || decide (s.ntl.lastDestage + 1 < s.frameNow)
    if s.ntl.state ≠ 2 || s.sqr.tierShut || !due then s
    else
      match leastSb (fun e => e.2.seq) (s.ntl.sbs.filter (fun e => e.2.stream == 0 && e.2.closed && !e.2.victim)) with
      | some (sb, _) => (s.evacuate 3 1 sb).settleNand
      | none => s)

/-- GARBAGE_COLLECTION: where a stream has fewer than GC_LOW free superblocks, and until each has GC_HIGH, the closed bulk superblock with
the fewest valid records is emptied; with none that holds an invalid record, one being emptied included, and no free superblock left for
bulk, the tier is FULL (R335, R346). -/
def execGarbageCollection (s : State) : Result :=
  .next (
    let low := Nat.max 1 (s.effF Reg.NTL_GC_CFG 7 0)
    let high := Nat.max (low + 1) (s.effF Reg.NTL_GC_CFG 15 8)
    let free := (upTo 4).foldl (fun n k => Nat.min n (s.streamFree k)) (s.streamFree 1)
    let s := { s with ntl := { s.ntl with collecting := decide (free < low) || (s.ntl.collecting && decide (free < high)) } }
    if s.ntl.state ≠ 2 || s.sqr.tierShut || !s.ntl.collecting then s
    else
      let holed := s.ntl.sbs.filter (fun e => (e.2.stream == 1 || e.2.stream == 2) && e.2.closed &&
        e.2.recs.any (fun r => !s.recValid e.1 r))
      match leastSb (fun e => (s.validRecs e.1).length * 2 ^ 64 + e.2.seq) (holed.filter (fun e => !e.2.victim)) with
      | some (sb, _) => (s.evacuate 4 2 sb).settleNand
      | none => if s.streamFree 1 = 0 && holed.isEmpty then s.enterRo false else s)

/-- WEAR_RELOCATION: where the erase counts of the bulk superblocks of a group lie further apart than WL_DELTA, the least-erased
closed one is emptied (R336). -/
def execWearRelocation (s : State) : Result :=
  .next (
    let e (sb : Nat) : Nat := Maps.getD s.ntl.erases sb 0
    let delta := s.effF Reg.NTL_WEAR_CFG 15 0
    let slc (sb : Nat) : Bool := match Maps.find sb s.ntl.sbs with | some x => x.stream == 0 || x.stream == 3 | none => false
    let closed := s.ntl.sbs.filter (fun x => (x.2.stream == 1 || x.2.stream == 2) && x.2.closed && !x.2.victim &&
      s.ntl.erases.any (fun y => y.1 / 65536 == x.1 / 65536 && !slc y.1 && decide (e x.1 + delta < y.2)))
    if s.ntl.state ≠ 2 || s.sqr.tierShut || !s.effB Reg.NTL_CTRL 1 then s
    else match leastSb (fun x => e x.1) closed with
      | some (sb, _) => (s.evacuate 4 2 sb).settleNand
      | none => s)

/-- BACKGROUND_SCAN: the next valid record, in TPN order and then the map's segments, is read; after the last one the next pass begins
DAYS after this one (R337). -/
def execBackgroundScan (s : State) : Result :=
  .next (
    if s.ntl.state ≠ 2 || s.sqr.tierShut || !s.effB Reg.NTL_CTRL 0 || decide (s.now < s.ntl.scanFrom) then s
    else if !s.groundsOk 10 then s.holdGrounds 10 .backgroundScan
    else match s.ntl.map.find? (fun e => decide (s.ntl.scanNext ≤ e.1)) with
      | none =>
        match s.ntl.segments.find? (fun e => decide (s.ntl.scanNext ≤ 2 ^ 34 + e.1)) with
        | some (n, _) => (({ s with ntl := { s.ntl with scanNext := 2 ^ 34 + n + 1 } } : State).startWork 10).askNand (2 ^ 34 + n) .scan
        | none =>
          let period := Nat.max 1 (s.effF Reg.NTL_SCAN_CFG 7 0) * 24 * hourTicks
          { s with ntl := { s.ntl with scanNext := 0, scanFrom := s.nextPass s.ntl.scanFrom period } }
      | some (t, e) =>
        let s := { s with ntl := { s.ntl with scanNext := t + 1 } }
        (s.startWork 10).askNand e.page .scan)

/-! ## Format, boundaries, Hold -/

/-- TPNS as NTL_CAP holds it. -/
def State.capTpns (s : State) : Nat := (s.reg Reg.NTL_CAP_LO).toNat + s.getF Reg.NTL_CAP_HI 2 0 * 2 ^ 32

/-- The largest TPNS that R319 accepts: ⌊Q × 16/19 × (G − 1)/G × 0.85⌋. -/
def State.maxTpns (s : State) : Nat :=
  let g := if s.getB Reg.NTL_FORMAT 1 then 32 else 16
  let pages := if s.getB Reg.NTL_FORMAT 0 then s.blockPages else s.blockPages * 3 / 4
  let q := 16 * s.targets * s.luns * s.dieBlocks * pages
  q * 16 * (g - 1) * 85 / (19 * g * 100)

/-- The group of a die, by groups of 16 dies or of 32 (R313). -/
def State.groupOf (s : State) (group32 : Bool) (d : Nat) : Nat :=
  let t := d % 64 / 8
  (if group32 then t / 2 else t) * Nat.max 1 s.luns + d % 8

/-- The blocks that superblocks had opened, to be erased before they are opened again, under the names that the grouping gives them
(R320). -/
def State.toErase (s : State) (group32 : Bool) : Table NandSbRec :=
  s.ntl.sbs.foldl (fun (t : Table NandSbRec) (e : Nat × NandSbRec) =>
    e.2.dies.foldl (fun (t : Table NandSbRec) (d : Nat) =>
      let name := s.groupOf group32 d * 65536 + e.1 % 65536
      let x : NandSbRec := { stream := e.2.stream, seq := e.2.seq, closed := true, victim := true }
      let x := Maps.getD t name x
      Maps.put name { x with dies := x.dies ++ [d] } t) t) []

/-- TIER_FORMAT: NTL_FORMAT and TPNS are applied to an empty tier, whose opened blocks are erased; its first root is written through the
journal (R319, R320, R338). -/
def execTierFormat (h : CmdHead) (s : State) : Result :=
  .next (s.command h 0x15 false none
    (fun s =>
      if s.ntl.state = 0 || s.ntl.state = 4 then Reason.state
      else if s.maxTpns < s.capTpns then Reason.capacity
      else if s.win.pages.any (fun e => match e.2 with | .nand _ => true | _ => false) then Reason.inUse
      else 0)
    (fun s =>
      let spares := s.dieBlocks * s.getF Reg.NTL_FORMAT 15 8 / 1000
      let n : Ntl := { dies := s.ntl.dies, erases := s.ntl.erases, worn := s.ntl.worn, seq := s.ntl.seq, ckptSeq := s.ntl.seq
                       state := 2, formatted := true, bulkTlc := !s.getB Reg.NTL_FORMAT 0, group32 := s.getB Reg.NTL_FORMAT 1
                       tpns := s.capTpns, usable := s.dieBlocks - spares, ckptFrame := s.frameNow, lastDestage := s.frameNow
                       sbs := s.toErase (s.getB Reg.NTL_FORMAT 1) }
      let s := { s with ntl := n, med := { s.med with destages := [], nandReads := [] } }
      let s := s.allDies.foldl (fun (s : State) (d : Nat) => s.setDie d { s.die d with spares }) s
      let s := s.writeRoot
      (s.settleNand, { opcode := 0x15, tag := h.tag, group := s.ntl.rootGroup })))

/-- The tier's status registers at a tick boundary (R26). -/
def State.showNand (s : State) : State :=
  let st := if s.ntl.state = 2 && s.tierRo then 3 else s.ntl.state
  let s := s.setReg Reg.NTL_STATUS (BitVec.ofNat 32
    (st * 2 ^ 29 + (if s.ntl.worn then 2 else if s.ntl.full then 1 else 0) * 2 ^ 27 + s.ntl.ckptSeq % 2 ^ 24))
  let s := s.setPair Reg.NTL_MAPPED_LO s.ntl.map.length
  let s := s.setReg Reg.NTL_SLC (BitVec.ofNat 32 (s.slcLimit % 65536 * 65536 + s.slcUsed))
  s.setReg Reg.NTL_HEALTH (BitVec.ofNat 32 (Nat.min s.spareLeft 65535 * 65536 + Nat.min s.wearUsed 65535))

/-- At a frame boundary: the destager starts and stops, FULL is left, suspends are shown (R277, R331, R348). -/
def State.nandFrame (s : State) : State :=
  let total := ((upTo 16).map (fun m => if (s.link m).state < 2 then 0 else s.poolFrames)).foldl (· + ·) 0
  let used := (s.med.links.map (fun l => l.2.frames.length)).foldl (· + ·) 0
  let high := s.effF Reg.MED_POOL_WM 15 8
  let low := if s.effF Reg.MED_POOL_WM 7 0 < high then s.effF Reg.MED_POOL_WM 7 0 else high - 8
  let destaging := if s.med.destaging then !decide (used * 256 ≤ low * total) else decide (high * total < used * 256)
  let s := { s with med := { s.med with destaging } }
  let room := s.ntl.tpns ≤ 128 * (s.ntl.tpns - s.ntl.map.length - s.ntl.taken.length) &&
    Nat.max 1 (s.effF Reg.NTL_GC_CFG 7 0) ≤ s.streamFree 1
  let s := if s.ntl.full && room then { s with ntl := { s.ntl with full := false } } else s
  let s := (upTo 16).foldl (fun (s : State) (c : Nat) =>
    s.setF (Reg.NTL_CH_STATUS + 16 * c) 7 0 (Nat.min 255 (Maps.getD s.ntl.suspended c 0))) s
  ({ s with ntl := { s.ntl with suspended := [] } } : State).warnHealth

/-- At a tick boundary: records that wait for room, the checkpoint root, pages handed over (R322, R323, R338, R339). -/
def State.nandBoundary (s : State) : State :=
  ((if s.sqr.tierShut || s.ntl.copyWant.isEmpty then s else s.retryCopies.settleNand).settleCkpt).handOver

/-- Temperature bin of NTL_TEMP, a signed byte (R344). -/
def tempBin (t : Nat) : Nat := if 128 ≤ t || t < 25 then 0 else if 85 ≤ t then 7 else (t - 25) / 10 + 1

/-- At a minute mark: the temperature bin, the average decode iterations and the rate of read retries (R343–R345). -/
def State.nandMinute (s : State) : State :=
  let s := s.bump (Reg.NTL_TEMP_MIN + 4 * tempBin (s.effF Reg.NTL_TEMP 7 0))
  let avg := if s.ntl.minuteCws = 0 then 0 else s.ntl.minuteIters * 256 / s.ntl.minuteCws
  let s := s.setF Reg.NTL_ITER 15 0 (Nat.min avg 65535)
  let s := if s.effF Reg.NTL_EW_CFG 7 0 * 256 < avg then s.earlyWarn 2 else s
  let s := if s.effF Reg.NTL_EW_CFG 31 16 * s.ntl.minuteReads < s.ntl.minuteRetries * 1000000 then s.earlyWarn 3 else s
  { s with ntl := { s.ntl with minuteReads := 0, minuteRetries := 0, minuteIters := 0, minuteCws := 0 } }

/-! ## The map rebuilt (R340) -/

/-- Where a map entry says that a TPN's record is (R318). -/
def State.mapPlace (s : State) (tpn e : Nat) : Option NandLocRec :=
  let die := e / 2 ^ 54
  let owner := s.win.pages.find? (fun p => p.2 == .nand tpn)
  match (upTo s.groups).find? (fun g => (s.groupDies g).contains die) with
  | none => none
  | some g =>
    let sb := g * 65536 + e / 2 ^ 38 % 65536
    match Maps.find sb s.ntl.sbs with
    | none => none
    | some x =>
      let row := e / 2 ^ 26 % 4096
      let n := x.dies.length
      let i := ((upTo n).find? (fun i => nthD x.dies i 1024 == die)).getD 0
      let pos := if i < row % Nat.max 1 n then i else i - 1
      some { sb, start := (row * (n - 1) + pos) * 16 + e / 2 ^ 22 % 16, page := match owner with | some p => p.1 | none => 0 }

/-- The map entries that a segment's record holds, entered into a map. -/
def State.loadSegment (s : State) (m : Table NandLocRec) (e : Nat × Nat × Nat) : Table NandLocRec :=
  let (n, sb, start) := e
  match (match Maps.find sb s.ntl.sbs with | some x => x.recs.find? (fun (r : NandRec) => r.start == start) | none => none) with
  | none => m
  | some r => (upTo 2048).foldl (fun (m : Table NandLocRec) i =>
      let v := leNat (slice r.bytes (3072 + 8 * i) 8)
      match if v % 2 = 1 then s.mapPlace (n * 2048 + i) v else none with
      | some loc => Maps.put (n * 2048 + i) loc m
      | none => m) m

/-- One record of the replay: an unprotected one is passed over (R340). -/
def replayRec (sb : Nat) (x : NandSbRec) (m : Table NandLocRec × Table (Nat × Nat)) (r : NandRec) : Table NandLocRec × Table (Nat × Nat) :=
  if !x.protects r.start r.size then m
  else match r.kind with
    | .data t p => (Maps.put t { sb, start := r.start, page := p } m.1, m.2)
    | .segment n => (m.1, Maps.put n (sb, r.start) m.2)
    | .filler => m

/-- The map and the segment directory as R340 rebuilds them: the segments of the root, then, by SEQ, the records of the superblocks opened
since the root and those laid out since it in the ones that were open (log 122); a record whose header cannot be read ends its
superblock. -/
def State.replayTier (s : State) : State :=
  let from' (sb : Nat) (x : NandSbRec) : Option Nat :=
    match Maps.find sb s.ntl.rootOpen with
    | some n => some n
    | none => if s.ntl.rootHorizon.any (fun e => e.2.contains sb) && decide (s.ntl.ckptSeq < x.seq) then some 0 else none
  let sbs : Table (Nat × Nat × NandSbRec) := s.ntl.sbs.foldl (fun t e =>
    match from' e.1 e.2 with | some n => Maps.put e.2.seq (e.1, n, e.2) t | none => t) []
  let start := (s.ntl.segments.foldl s.loadSegment [], s.ntl.segments)
  let one (m : Table NandLocRec × Table (Nat × Nat)) (e : Nat × Nat × Nat × NandSbRec) : Table NandLocRec × Table (Nat × Nat) :=
    let (_, sb, n, x) := e
    ((x.recs.filter (fun r => decide (n ≤ r.start))).takeWhile (fun r => Maps.getD x.progs (x.pageOf r.start) false)).foldl (replayRec sb x) m
  let (map, segments) := sbs.foldl one start
  let used (tpn : Nat) : Bool := s.win.pages.any (fun p => p.2 == .nand tpn)
  { s with ntl := { s.ntl with map := map.filter (fun e => used e.1), segments, taken := [] } }

/-- NAND of which the root, the directory or a segment cannot be read holds no data: no page lies in it, and the blocks that were opened
are to be erased (R320, R341). -/
def State.emptyTier (s : State) : State :=
  let inScm (l : PageLoc) : Bool := match l with | .scm _ _ => true | .nand _ => false
  { s with
    ntl := { s.ntl with map := [], sbs := s.toErase s.ntl.group32, segments := [], horizon := [], rootHorizon := [], rootOpen := [] }
    win := { s.win with pages := s.win.pages.filter (fun e => inScm e.2) } }

/-- On entry to Hold: every open row is closed and a checkpoint begun (R349). -/
def State.nandHold (s : State) : State :=
  if s.ntl.state ≠ 2 then s
  else (s.ntl.sbs.foldl (fun (s : State) (e : Nat × NandSbRec) => if e.2.closed then s else s.closeRow (streamRequester e.2.stream) e.1) s).checkpoint

end Sys2Proof.Machine
end

