-- ==== Sys2Proof/Machine/Clock.lean ====
section
/-! DEFINITION. Aligning the tick counter (R33–R39): PPS_IN edges, the twin's counter, loads, slewing, holdover. -/

namespace Sys2Proof.Machine

open Sys2Proof

/-- TCK_CTRL.SRC in force: 0 free running, 1 PPS_IN, 2 twin. -/
def State.timeSrc (s : State) : Nat := s.effF Reg.TCK_CTRL 5 4

/-- TCK_PPS_CFG.LOCK_WINDOW, and LOST_LIMIT, 0 acting as 1. -/
def State.lockWindow (s : State) : Nat := s.effF Reg.TCK_PPS_CFG 7 0
def State.lostLimit (s : State) : Nat := Nat.max 1 (s.effF Reg.TCK_PPS_CFG 15 8)

/-- The CCLK distance above which nothing is slewed (R36, R37). -/
def farLimit : Nat := 3072000

/-- The signed distance from a point of the present tick to the nearest second of the counter (R35), counted in CCLK cycles that
have passed, slew ticks with their own length; the ticks still to come before a later second are taken as 1,024 CCLK each (log
100). -/
def State.secondDist (s : State) (cycle : Nat) : Int :=
  let since : Int := ((s.tck.start - s.tck.second + cycle : Nat) : Int)
  let left : Int := (((3000000 - 1 - s.now % 3000000) * 1024 + s.tck.length : Nat) : Int) - (cycle : Int)
  if since ≤ left then since else -left

/-- A distance of the selected source: larger than 1 ms in Run, it is reported once as PPS_FAR (R37). -/
def State.steer (s : State) (d : Int) : State :=
  if farLimit < d.natAbs then
    if !s.inRun then s
    else
      let s := s.setB Reg.TCK_STATUS 5 true
      if s.tck.farPosted then s
      else (({ s with tck := { s.tck with farPosted := true } } : State).notify 0x14 0 1 0 0 0).trigger 21 1 0 0
  else
    let s := s.setB Reg.TCK_STATUS 5 false
    { s with tck := { s.tck with farPosted := false } }

/-- A load of the tick counter, or its refusal (R37); a loaded counter begins the meter period anew (log 88). -/
def State.loadTick (s : State) (v : Nat) : State :=
  let s := s.setB Reg.TCK_CTRL 0 false
  if s.inRun || v % 3000000 ≠ 0 then s.setB Reg.TCK_STATUS 7 true
  else
    ({ s with
      tck := { s.tck with tick := BitVec.ofNat 64 v, second := s.tck.start }
      ten := { s.ten with firstMinute := v / 180000000 } } : State).setB Reg.TCK_STATUS 6 true

/-- LOAD_ARM is set (R37). -/
def State.loadArmed (s : State) : Bool := s.getB Reg.TCK_CTRL 0

/-- A distance measured from PPS_IN: reported, kept for slewing, and acted on (R35–R37). -/
def State.gotPhase (s : State) (d : Int) : State :=
  let s := s.setReg Reg.TCK_PPS_PHASE (BitVec.ofInt 32 d)
  let s := s.setB Reg.TCK_STATUS 2 (d.natAbs ≤ s.lockWindow)
  ({ s with tck := { s.tck with phase := some d } } : State).steer d

/-- PPS_EDGE: an edge of the selected polarity ends a holdover, takes an armed load, and is measured by the counter that the load
leaves (R35–R38, log 100). -/
def execPpsEdge (falling : Bool) (cycle : Fin 1025) (s : State) : Result :=
  .next (
    if falling != s.effB Reg.TCK_CTRL 6 then s
    else
      let s := { s with tck := { s.tck with lastEdge := some s.tck.boundaries } }
      let s := s.setB Reg.TCK_STATUS 0 true
      let s := if s.getB Reg.TCK_STATUS 4 then (s.setB Reg.TCK_STATUS 4 false).notify 0x14 0 3 0 0 0 else s
      if s.timeSrc ≠ 1 then s
      else
        let s := if s.loadArmed then s.loadTick s.loadValue else s
        s.gotPhase (s.secondDist cycle))

/-- LOAD_ARM: arms the load of R37. -/
def execLoadArm (s : State) : Result := .next (s.setB Reg.TCK_CTRL 0 true)

/-- No selected edge has come for LOST_LIMIT seconds (R38). -/
def State.edgeLost (s : State) : Bool := decide (s.tck.lastEdge.getD 0 + s.lostLimit * 3000000 ≤ s.tck.boundaries)

/-- PPS_LOST: no selected edge for LOST_LIMIT seconds with SRC selecting PPS_IN; the counter free-runs (R38). -/
def execPpsLost (s : State) : Result :=
  .next (
    if s.timeSrc ≠ 1 || s.getB Reg.TCK_STATUS 4 || !s.edgeLost then s
    else
      let s := (s.setB Reg.TCK_STATUS 4 true).setB Reg.TCK_STATUS 0 false
      (s.notify 0x14 0 2 0 0 0).trigger 21 2 0 0)

/-- The twin's counter, as a heartbeat carries it: loaded, measured and slewed as SRC says (R35, R37, R39). The heartbeat carries
ticks alone, so the distance is the difference of the counters in ticks of 1,024 CCLK, without the cycle of arrival and the
flight on the link, in the register's 32 bits (log 100). -/
def State.twinClock (s : State) (t : Nat) : State :=
  if s.timeSrc = 0 then s
  else
    let s := if s.timeSrc = 2 && s.loadArmed then s.loadTick t else s
    let d : Int := ((s.now : Int) - (t : Int)) * 1024
    let s := s.setReg Reg.TCK_TWIN_OFFSET (BitVec.ofInt 32 d)
    let s := s.setB Reg.TCK_STATUS 3 (d.natAbs ≤ s.lockWindow)
    let s := { s with tck := { s.tck with offset := some d } }
    if s.timeSrc = 2 then s.steer d else s

/-- The distance measured for the source that SRC selects; none while it is free running, or in a holdover of PPS_IN (R36,
R38). -/
def State.selDist (s : State) : Option Int :=
  if s.timeSrc = 1 then if s.getB Reg.TCK_STATUS 4 then none else s.tck.phase
  else if s.timeSrc = 2 then s.tck.offset
  else none

/-- The distance is to be slewed: SLEW_EN is 1, and it is beyond LOCK_WINDOW and at most 1 ms (R36). -/
def State.slews (s : State) : Bool :=
  match s.selDist with
  | some d => s.effB Reg.TCK_CTRL 7 && decide (s.lockWindow < d.natAbs) && decide (d.natAbs ≤ farLimit)
  | none => false

/-- The length of the coming tick, one tick in 16 being a slew tick while the distance is to be slewed; a slew tick brings the
counter nearer to every source measured, and a source that SRC no longer follows keeps no distance (R33, R36). -/
def State.slew (s : State) : State :=
  let active := s.slews
  let s := s.setB Reg.TCK_STATUS 1 active
  let phase := if s.timeSrc = 1 then s.tck.phase else none
  let offset := if s.timeSrc = 0 then none else s.tck.offset
  if active && 15 ≤ s.tck.sinceSlew then
    let up := decide (0 < s.selDist.getD 0)
    let nearer (d : Int) : Int := if up then d - 1 else d + 1
    { s with tck := { s.tck with
        length := if up then 1025 else 1023
        phase := phase.map nearer, offset := offset.map nearer, sinceSlew := 0 } }
  else { s with tck := { s.tck with length := 1024, phase, offset, sinceSlew := Nat.min 15 (s.tck.sinceSlew + 1) } }

/-- Half a second after an expected edge that did not come: the last edge is `n` ticks ago. -/
def halfSecondOver (n : Nat) : Bool := decide (3000000 < n) && n % 3000000 == 1500000

/-- No edge has come for LOST_LIMIT seconds: PPS_PRESENT reads 0. -/
def State.showLost (s : State) : State := if s.edgeLost then s.setB Reg.TCK_STATUS 0 false else s

/-- An edge expected half a second ago has not come (PPS_MISSED). -/
def State.countMissed (s : State) : State :=
  match s.tck.lastEdge with
  | none => s
  | some t =>
    if s.timeSrc = 1 && halfSecondOver (s.tck.boundaries - t) then s.bumpSat Reg.TCK_STATUS 15 8 else s

end Sys2Proof.Machine
end

