-- ==== Sys2Proof/Machine/TwinLink.lean ====
section
/-! DEFINITION. The twin link and the sideband (R390–R401): frames received, acknowledged and replayed, bundles declared down
and up, what the sideband shows; pair notices (R392, R408) and SOLO mode (R378, R379, R414). -/

namespace Sys2Proof.Machine

open Sys2Proof

/-! ## The pair's state -/

/-- STATE of TWN_STATUS. -/
def State.setPairState (s : State) (n : Nat) : State := s.setF Reg.TWN_STATUS 31 29 n

/-- The sides this unit serves: bit 0 A, bit 1 B (R391). -/
def State.servesBits (s : State) : Nat := (if s.serves false then 1 else 0) + (if s.serves true then 2 else 0)

/-- FLAGS bit `b` of the meter batch of the present period (R135). -/
def State.meterFlag (s : State) (b : Nat) : State :=
  if s.ten.flags / 2 ^ b % 2 = 1 then s else { s with ten := { s.ten with flags := s.ten.flags + 2 ^ b } }

/-- A change of role raised at the fault-signalling point (R28). -/
def State.raisePair (s : State) (x : PairSignal) : State :=
  if s.twn.signals.contains x then s else { s with twn := { s.twn with signals := s.twn.signals ++ [x] } }

/-- The sides served changed; a change in Run is a home side's change of the meter period (R135, R391). -/
def State.setServes (s : State) (n : Nat) : State :=
  let s := if s.inRun && s.servesBits ≠ n then s.meterFlag 4 else s
  (s.setB Reg.TWN_STATUS 26 (n % 2 == 1)).setB Reg.TWN_STATUS 27 (n / 2 % 2 == 1)

/-- This unit is unit B (R390). -/
def State.sideB (s : State) : Bool := s.getB Reg.TWN_STATUS 28

/-- A side as a number: 0 A, 1 B. -/
def sideNum (b : Bool) : Nat := if b then 1 else 0

/-- The bit of a side in SERVES. -/
def sideBit (b : Bool) : Nat := if b then 2 else 1

/-- A bundle is up. -/
def State.linkUp (s : State) : Bool := s.twn.bundle0.up || s.twn.bundle1.up

/-- A pair event shown, posted and presented to the recorder (R414, R544, R584): its KIND, side, tick and words. -/
def State.pairEvent (s : State) (kind side tick : Nat) (w1 : DWord) : State :=
  let s := s.setReg Reg.TWN_LAST_EVENT (BitVec.ofNat 32 (kind * 2 ^ 28 + side * 2 ^ 26))
  let s := s.setPair Reg.TWN_LAST_TICK_LO tick
  (s.notify 0x12 side kind (BitVec.ofNat 64 tick) w1 0).trigger 17 kind 0 side

/-- The pair-role record written through the journal; the group that holds it (R402). -/
def State.writeRole (s : State) (state : Nat) : Nat × State :=
  let old : RoleRec := s.twn.role.getD { state := 0, serves := 0, solo := false, epoch := 0, pairId := 0 }
  let r : RoleRec := { old with state, serves := s.servesBits, solo := s.dur.solo, epoch := s.dur.epoch }
  let (g, s) := s.journal [(Tbl.role, 0)]
  (g, { s with twn := { s.twn with role := some r } })

/-- The write epoch as it stands, in the pair-role record (R385). -/
def State.recordEpoch (s : State) : State :=
  match s.twn.role with
  | none => s
  | some r =>
    let s := (s.journal [(Tbl.role, 0)]).2
    { s with twn := { s.twn with role := some { r with epoch := s.dur.epoch } } }

/-- The write epoch (R385). -/
def State.setEpoch (s : State) (n : Nat) : State :=
  let e := n % 2 ^ 32
  ({ s with dur := { s.dur with epoch := e } } : State).setReg Reg.DUR_EPOCH (BitVec.ofNat 32 e)

/-- One above the larger of the two units' epochs (R385). -/
def State.jointEpoch (s : State) : State :=
  let other := match s.twn.hb with | some h => h.epoch | none => 0
  s.setEpoch (Nat.max s.dur.epoch other + 1)

/-- The pair is lost (R404, R405, R420, R421); a unit of it that has no complete copy serves nothing. -/
def State.pairLost (s : State) (serves : Bool) : State :=
  let s := s.setB Reg.TWN_STATUS 21 true
  if serves then s else s.setServes 0

/-! ## Pair notices (R392, R408) -/

/-- The QPs a notice QP covers: of a bond, with its remote IP address and VLAN ID (R392). -/
def Qp.covered (n c : Qp) : Bool := !c.notice && c.bond ≠ 0 && c.ip == n.ip && c.vlan == n.vlan

/-- The repeat window of a bond: the ASEQs of the plain-atomic entries held, oldest first (R370). -/
def State.repeatSeqs (s : State) (bond : Nat) : List Nat :=
  let l := (s.dur.twinOutcomes.filter (fun o => o.bond == bond && decide (o.kind < 3))).map (·.seq)
  l.drop (l.length - 16)

/-- A bond record of a notice. -/
def State.bondRecord (s : State) (bond : Nat) : Nat :=
  let l := s.repeatSeqs bond
  bond * 2 ^ 44 + l.length * 2 ^ 39 + l.getLast?.getD 0

/-- A part of a notice (R408). -/
def noticePart (type status side epoch tick part parts : Nat) (recs : List Nat) : List Byte :=
  [0x01, BitVec.ofNat 8 type, BitVec.ofNat 8 status, BitVec.ofNat 8 side] ++ beBytes epoch 4 ++ beBytes tick 8 ++
  beBytes part 2 ++ beBytes parts 2 ++ beBytes recs.length 2 ++ List.replicate 10 0 ++ recs.flatMap (fun r => beBytes r 8)

/-- A pair notice released on every notice QP that covers a bond (R392, R408). -/
def State.sendNotices (s : State) (type status side tick : Nat) : State :=
  let epoch := s.dur.epoch
  let qps := s.trn.qps.filter (fun e => e.2.notice)
  qps.foldl (fun (s : State) (e : Nat × Qp) =>
    let bonds := dedup ((s.trn.qps.filter (fun x => e.2.covered x.2)).map (fun x => x.2.bond))
    if bonds.isEmpty then s
    else
      let recs := bonds.map s.bondRecord
      let n := ceilDiv recs.length 508
      (upTo n).foldl (fun (s : State) (k : Nat) =>
        let bytes := noticePart type status side epoch tick k n (slice recs (508 * k) 508)
        (s.sendMsg (BitVec.ofNat 24 e.1) .notice bytes none).bump Reg.TWN_CNT_NOTICE) s) s

/-! ## SOLO mode (R378, R379, R414) -/

/-- A frame that ships what the unit mirrors (R375, R398). -/
def TwinFrame.ships : TwinFrame → Bool
  | .mirror _ _ _ _ | .intent _ _ | .outcome _ => true
  | _ => false

/-- What waits to be shipped is shipped no more (R378). -/
def State.stopShipping (s : State) : State :=
  let stop (b : BundleRec) : BundleRec := { b with held := b.held.filter (fun w => !w.frame.ships) }
  { s with twn := { s.twn with bundle0 := stop s.twn.bundle0, bundle1 := stop s.twn.bundle1 } }

/-- SOLO mode entered at the boundary of a tick: a Placed event is Durable, the dirty-range bitmap is empty, outcome entries
that wait for the twin are written locally (R369, R378). -/
def State.soloEnter (s : State) (tick : Nat) : State :=
  let s := (s.setEpoch (s.dur.epoch + 1)).stopShipping
  let s := { s with
    dur := { s.dur with solo := true }
    twn := { s.twn with dirty := [], soloEpoch := s.dur.epoch, soloAt := some tick } }
  let s := (s.bump Reg.TWN_CNT_SOLO).pairEvent 6 (sideNum s.sideB) tick 0
  (s.dur.outcomes.foldl (fun (s : State) (o : Outcome) => s.issueFor s.metaStack o.cls o.tenant (.outcome true o.key)) s).reapPb

/-- A QP's write events as the end of SOLO mode leaves them: none of them waits for the twin, and MIR goes on behind them (R352, R379;
DEDUCED, log 147). -/
def Qp.unsolo (c : Qp) : Qp :=
  ({ c with
      events := c.events.map (fun e => (e.1, e.2.1, 0, e.2.2.2))
      xcheck := c.xcheck.map (fun e => (e.1, e.2.1, e.2.2.1, e.2.1)) } : Qp).advance

/-- SOLO mode left at the boundary of a tick; the interval is reported; nothing given its WSEQ before waits for the twin (R379, R414). -/
def State.soloExit (s : State) (tick : Nat) : State :=
  if !s.dur.solo then s
  else
    let start := s.twn.soloAt.getD tick
    let s := s.mapPb (fun e => !e.mirror) (fun e => { e with mirrored := true, shipped := true })
    let free (x : Intent) : Intent := if x.fromTwin then x else { x with twinDone := true, shipped := true }
    let s := { s with
      dur := { s.dur with solo := false, intents := Maps.mapV (fun _ x => free x) s.dur.intents }
      trn := { s.trn with qps := Maps.mapV (fun _ (c : Qp) => c.unsolo) s.trn.qps }
      twn := { s.twn with soloAt := none } }
    let s := s.bumpBy Reg.TWN_CNT_SOLO_TICKS (tick - start)
    let s := s.setReg Reg.TWN_LAST_EVENT (BitVec.ofNat 32 (7 * 2 ^ 28 + sideNum s.sideB * 2 ^ 26))
    let s := s.setPair Reg.TWN_LAST_TICK_LO tick
    let s := s.notify 0x12 (sideNum s.sideB) 7 (BitVec.ofNat 64 start) (BitVec.ofNat 64 tick) 0
    (s.trigger 17 7 0 (sideNum s.sideB)).reapPb

/-! ## What the loss of the twin leads to (R405, R411, R420) -/

/-- A cause of takeover, by its KIND: it starts one when the unit is Paired or in LinkHold; a unit in LinkSolo takes nothing
over, and a Returning one has no complete copy; a Survivor stays one, in SOLO mode again (R405, R420). -/
def State.twinGone (s : State) (kind : Nat) : State :=
  let s := s.pairEvent kind (sideNum (!s.sideB)) s.now 0
  if s.getB Reg.TWN_STATUS 20 then s
  else match s.pairState with
    | 1 | 2 => { s with twn := { s.twn with takeoverDue := some (s.twn.takeoverDue.getD kind) } }
    | 3 => s.raisePair (.lost true)
    | 4 =>
      let s := { s with twn := { s.twn with resync := none, asked := none, copyDone := false, reclaim := none } }
      if s.dur.solo then s else s.raisePair .soloAgain
    | 6 => s.raisePair (.lost false)
    | _ => s

/-- The twin link has just become silent (R394, R397, R411). -/
def State.linkSilent (s : State) : State :=
  let s := { s with twn := { s.twn with silentAt := some (s.now + 1) } }
  if s.twn.sbSilent && !s.getB Reg.TWN_STATUS 19 then s.twinGone 4
  else
    let s := s.pairEvent 5 (sideNum s.sideB) (s.now + 1) 0
    if s.pairState = 1 then s.raisePair .hold
    else if s.pairState = 4 && !s.dur.solo then
      ({ s with twn := { s.twn with resync := none, asked := none, copyDone := false } } : State).raisePair .soloAgain
    else s

/-! ## Frames received (R393, R394) -/

/-- A frame on a bundle: one whose CRC fails is discarded and asked for again, one out of sequence is discarded, the one
expected is acted on; a yielded unit admits nothing (R393, R404). -/
def State.gotFrame (s : State) (h : TwinHead) (act : State → State) : State :=
  let b := s.bundle h.one
  if !h.crcOk then s.setBundle h.one { b with naks := b.naks + 1 }
  else
    let s := s.setBundle h.one { b with heard := s.now }
    if h.seq ≠ b.rxSeq then s
    else
      let s := s.setBundle h.one { s.bundle h.one with rxSeq := b.rxSeq + 1 }
      if s.twn.yieldedAt.isSome then s else act s

/-- The window-table summary of R101: tenants, Allocated extents, Open windows, extents pinned. -/
def State.summary (s : State) : Nat × Nat × Nat × Nat :=
  (Maps.count (fun (t : Tenant) => !t.destroyed) s.win.tenants, s.win.extents.length, Maps.count (fun (w : Window) => w.state == .opened) s.win.windows,
   Maps.count (fun (x : Extent) => decide (0 < x.pinCount)) s.win.extents)

/-- The twin's summary differs from this unit's (R101). -/
def State.summaryDiffers (s : State) : Bool :=
  match s.twn.hb with
  | some h => (h.tenants, h.extents, h.windows, h.pinned) != s.summary
  | none => false

/-- The heartbeat of this unit; a Starting one shows the state of its record (R393, R421). -/
def State.ownHb (s : State) : TwinHb :=
  let r := s.twn.role
  let rec0 : Nat := match r with | some x => x.state | none => 0
  let (t, e, w, p) := s.summary
  { sideB := s.sideB
    state := Fin.ofNat 8 (if s.pairState = 0 then rec0 else s.pairState)
    solo := if s.pairState = 0 then (match r with | some x => x.solo | none => false) else s.dur.solo
    epoch := s.dur.epoch, tick := s.tck.tick, pairId := (match r with | some x => x.pairId | none => 0)
    free := s.mirrorFree, tenants := t, extents := e, windows := w, pinned := p }

/-- HEARTBEAT_SEND: every 2 ticks on each bundle that is up, in every state but Yielded (R395). -/
def execHeartbeatSend (s : State) : Result :=
  .next (
    if s.twn.yieldedAt.isSome || !s.linkUp || (s.twn.hbSent.isSome && s.now < s.twn.hbSentTick + 2) then s
    else { s with twn := { s.twn with hbSent := some s.ownHb, hbSentTick := s.now } })

/-- A heartbeat's contents taken (R385, R390, R393, R400). -/
def State.gotHb (s : State) (hb : TwinHb) : State :=
  let higher := s.pairState = 1 && s.linkUp && decide (s.dur.epoch < hb.epoch)
  let s := { s with twn := { s.twn with
    hb := some hb, hbTick := s.now, credit := hb.free, shipped := 0
    epochDue := if higher then some hb.epoch else s.twn.epochDue } }
  let s := s.bump Reg.TWN_CNT_HB_RX
  let s := (if hb.sideB == s.sideB then s.setB Reg.TWN_STATUS 20 true else s).shipSlots
  s.twinClock hb.tick.toNat

/-- The lines of a run, as its descriptor places them: line number, tenant and bytes of each (R398). -/
def runLines (r : MirrorRun) : List (Nat × Nat × List Byte) :=
  let d := r.desc.toNat
  r.lines.zipIdx.map (fun x => (d / 2 ^ 22 + x.2, d / 2 ^ 10 % 4096, x.1))

/-- MIRROR: the lines of a frame arrive, for admission at the next tick boundary (R359, R401). -/
def execMirror (h : TwinHead) (runs : List MirrorRun) (epoch : Word) (cls : Fin 4) (s : State) : Result :=
  .next (s.gotFrame h (fun s =>
    let a : ArrivedRec := { frame := frameName h.one h.seq, epoch := epoch.toNat, cls := Cls.ofNum cls, lines := runs.flatMap runLines }
    { s with twn := { s.twn with arrived := s.twn.arrived ++ [a] } }))

/-- An extent is held Allocated to a tenant (R102). -/
def State.holdsFor (s : State) (extent tenant : Nat) : Bool :=
  match s.extent extent with | some x => x.tenant == tenant | none => false

/-- Lines from the twin become Accepted in the mirror partition; pages in NAND are promoted first (R279, R350, R359). -/
def State.admitLines (s : State) (a : ArrivedRec) (intent : Option Nat) : State :=
  let ls := a.lines
  let pages := dedup (ls.map (fun l => pageOfLine l.1))
  let s := s.takeSlots 80 (s.slotsTaken 80) 1 a.cls ((ls.head?.map (fun l => l.2.1)).getD 0)
  let s := (pages.filter s.unwritten).foldl (fun s p => s.mapPage a.cls p) s
  let s := s.noteWrites (ls.map Prod.fst)
  let nand := pages.filter (fun p => s.inNand p && !s.med.promoteWant.contains p)
  let es : List PbEntry := ls.map (fun l =>
    ({ line := l.1, data := l.2.2, cipher := (s.lineKey l.1).isSome, tenant := l.2.1, qpn := 0, wseq := a.frame, epoch := a.epoch, mirror := true, frame := a.frame
       shipped := true, mirrored := true, cls := a.cls, intent } : PbEntry))
  let s := { s with
    dur := { s.dur with pb := s.dur.pb ++ es }
    med := { s.med with promoteWant := s.med.promoteWant ++ nand } }
  s.bumpBy Reg.DUR_CNT_MIRROR_RX es.length

/-- Every line of a frame is of an extent held Allocated to its tenant (R102). -/
def State.holdsAll (s : State) (a : ArrivedRec) : Bool := a.lines.all (fun l => s.holdsFor (l.1 / 32768) l.2.1)

/-- The images of a slot of the twin's admitted into a slot of this unit's own, or kept apart (R102, R375). -/
def State.admitIntent (s : State) (peer : Nat) (a : ArrivedRec) : State :=
  if !s.holdsAll a then { s with twn := { s.twn with heldLines := s.twn.heldLines ++ [a] } }
  else match Maps.lowestFree s.dur.intents 16384 with
    | none => { s with twn := { s.twn with heldLines := s.twn.heldLines ++ [a] } }
    | some k =>
      let x : Intent := {
        lines := a.lines.map (fun l => (l.1, l.2.2)), tenant := (a.lines.head?.map (fun l => l.2.1)).getD 0, epoch := a.epoch
        fromTwin := true, peer, cls := a.cls }
      let s := { s with dur := { s.dur with intents := Maps.put k x s.dur.intents } }
      s.admitLines a (some k)

/-- One arrived frame admitted, the images of a slot into one of this unit's; lines of extents not held Allocated to their tenant are
kept apart (R102, R375). -/
def State.admitArrived (s : State) (a : ArrivedRec) : State :=
  match a.intent with
  | some k => s.admitIntent k a
  | none =>
  let ok (l : Nat × Nat × List Byte) : Bool := s.holdsFor (l.1 / 32768) l.2.1
  let held := a.lines.filter (fun l => !ok l)
  let s := s.admitLines { a with lines := a.lines.filter ok } none
  if held.isEmpty then s
  else { s with twn := { s.twn with heldLines := s.twn.heldLines ++ [{ a with lines := held }] } }

/-- MIRROR_ADMIT: at a tick boundary the lines that have arrived are admitted (R359). -/
def execMirrorAdmit (s : State) : Result :=
  .next (s.twn.arrived.foldl State.admitArrived { s with twn := { s.twn with arrived := [] } })

/-- HELD_MIRROR_PLACE: the lines kept for an extent are admitted at the boundary that publishes it (R102). -/
def execHeldMirrorPlace (extent : BitVec 27) (s : State) : Result :=
  .next (
    let ok (l : Nat × Nat × List Byte) : Bool := l.1 / 32768 == extent.toNat && s.holdsFor extent.toNat l.2.1
    let ready := s.twn.heldLines.filter (fun a => a.intent.isSome && s.holdsAll a)
    let held := s.twn.heldLines.filter (fun a => a.intent.isNone)
    let slots := s.twn.heldLines.filter (fun a => a.intent.isSome && !s.holdsAll a)
    let rest := slots ++ (held.map (fun a => { a with lines := a.lines.filter (fun l => !ok l) })).filter (fun a => !a.lines.isEmpty)
    let now := (held.map (fun a => { a with lines := a.lines.filter ok })).filter (fun a => !a.lines.isEmpty)
    let s := { s with twn := { s.twn with heldLines := rest } }
    let s := now.foldl (fun (s : State) (a : ArrivedRec) => s.admitLines a none) s
    ready.foldl (fun (s : State) (a : ArrivedRec) => s.admitIntent (a.intent.getD 0) a) s)

/-- The lines of a MIRROR frame the twin has confirmed count as Mirrored, each once (R350, R352, R394, R401). -/
def State.frameConfirmed (s : State) (n : Nat) : State :=
  match Maps.find n s.twn.sentFrames with
  | none => s
  | some ls =>
    let s := { s with twn := { s.twn with sentFrames := Maps.del n s.twn.sentFrames } }
    let due (l : Nat × BitVec 24 × Nat) : Bool := s.dur.pb.any (fun e => e.isFor l.1 l.2.1 l.2.2 false && !e.mirrored)
    let ls := ls.filter due
    let s := s.bumpBy Reg.DUR_CNT_MIRRORED ls.length
    ls.foldl (fun (s : State) (l : Nat × BitVec 24 × Nat) =>
      (s.frontMirrored l.2.1 l.2.2).mapPb (fun e => e.isFor l.1 l.2.1 l.2.2 false) (fun e => { e with mirrored := true })) s

/-- The twin has confirmed an intent slot (R375). -/
def State.slotConfirmed (s : State) (k : Nat) : State :=
  match Maps.find k s.dur.intents with
  | none => s
  | some x =>
    if x.twinDone || x.fromTwin then s
    else
      let s := s.updIntent k (fun x => { x with twinDone := true })
      (s.mapPb (fun e => e.intent == some k && !e.mirror) (fun e => { e with mirrored := true })).slotMirrored x

/-- CONFIRM: frames all Placed at the twin, its confirmations of outcome entries and intent slots, its free mirror entries
(R369, R375, R400, R401). -/
def execConfirm (h : TwinHead) (frames : List (Bool × Nat)) (outcomes : List OutcomeName) (intents : List (BitVec 14)) (free : Nat)
    (s : State) : Result :=
  .next (s.gotFrame h (fun s =>
    let s := (frames.map (fun f => frameName f.1 f.2)).foldl State.frameConfirmed s
    let s := s.outcomesConfirmed (outcomes.map (fun o =>
      ({ bond := o.bond.toNat, invoke := o.invoke, seq := o.seq.toNat, pos := o.pos.toNat } : OutcomeKey)))
    let s := intents.foldl (fun (s : State) (k : BitVec 14) => s.slotConfirmed k.toNat) s
    ({ s with twn := { s.twn with credit := free, shipped := 0 } } : State).shipSlots.reapPb))

/-- A new entry of the twin outcome table: it replaces the one of its ASEQ mod 16, or, for an Invoke, of its TAG and position
and else the oldest of 128 (R368). -/
def keepOutcome (t : List Outcome) (o : Outcome) : List Outcome :=
  if o.kind ≠ 3 then t.filter (fun x => !(x.bond == o.bond && x.kind != 3 && x.seq % 16 == o.seq % 16)) ++ [o]
  else
    let t := t.filter (fun x => !(x.bond == o.bond && x.kind == 3 && x.seq == o.seq && x.pos == o.pos))
    let mine := t.filter (fun x => x.bond == o.bond && x.kind == 3)
    let t := match mine with
      | oldest :: _ => if 128 ≤ mine.length then t.erase oldest else t
      | [] => t
    t ++ [o]

/-- OUTCOME: an entry of the twin's is kept, written, and confirmed once Placed (R368). -/
def execOutcome (h : TwinHead) (o : OutcomeBody) (s : State) : Result :=
  .next (s.gotFrame h (fun s =>
    let x : Outcome := {
      bond := o.bond.toNat, sideB := o.sideB, kind := o.kind, seq := o.seq.toNat, rkey := o.rkey, pos := o.pos.toNat
      va := o.va.toNat, ops := [o.op0, o.op1], orig := o.orig, epoch := o.epoch.toNat, confirmed := true }
    let s := { s with dur := { s.dur with twinOutcomes := keepOutcome s.dur.twinOutcomes x } }
    s.issueFor s.metaStack (Cls.ofNum o.cls) 0 (.outcome false x.key)))

/-- INTENT: the images of the twin's slot arrive, for admission at the next tick boundary, after what arrived before them, into a slot
of this unit's own (R359, R364, R375). -/
def execIntent (h : TwinHead) (slot : BitVec 14) (lines : List TwinLine) (epoch : Word) (s : State) : Result :=
  .next (s.gotFrame h (fun s =>
    let a : ArrivedRec := { frame := 0, lines := lines.map (fun l => (l.line.toNat, l.tenant.toNat, l.data)), epoch := epoch.toNat
                            cls := Cls.ofNum ((lines.head?.map (fun l => l.cls)).getD 3), intent := some slot.toNat }
    { s with twn := { s.twn with arrived := s.twn.arrived ++ [a] } }))

/-- GIVEUP: the twin gives its side up (R405). A yielded unit ignores it, unless both sent one in the same tick: then the
pair is lost (R404). -/
def execGiveup (h : TwinHead) (sideB : Bool) (epoch : Word) (drill hold sameTick : Bool) (s : State) : Result :=
  let _ := (sideB, epoch, drill, hold)
  .next (
    if sameTick && s.twn.giveupAt.isSome && h.crcOk && h.seq == (s.bundle h.one).rxSeq then
      (s.gotFrame h id).raisePair (.lost false)
    else s.gotFrame h (fun s => s.twinGone 2))

/-- RECLAIM: the survivor sends RETURN_PENDING notices with the switch tick (R418). -/
def execReclaim (h : TwinHead) (sideB : Bool) (at' : DWord) (s : State) : Result :=
  .next (s.gotFrame h (fun s =>
    if s.pairState ≠ 4 then s
    else
      ({ s with twn := { s.twn with reclaim := some (sideB, at'.toNat) } } : State).sendNotices 2 Code.homeMoved
        (sideNum sideB) at'.toNat))

/-- SWITCH: the last Accepted line of the reclaimed side has come on its bundle (R418). -/
def execSwitch (h : TwinHead) (sideB : Bool) (s : State) : Result :=
  .next (s.gotFrame h (fun s =>
    if s.twn.gap && sideB == s.sideB then { s with twn := { s.twn with switchLeft := s.twn.switchLeft - 1 } } else s))

/-- A frame of a resynchronization or of a repair (R268, R415, R416). -/
def State.gotResync (s : State) : ResyncBody → State
  | .tenant id encrypt risAllowed scmQuota pinQuota tileQuota key =>
    let t : Tenant := { encrypt, risAllowed, scmQuota := scmQuota.toNat, pinQuota := pinQuota.toNat, tileQuota := tileQuota.toNat, key
                        createdInPeriod := false }
    { s with twn := { s.twn with metaTenants := Maps.put id.toNat t s.twn.metaTenants } }
  | .extent e tenant sideB pinCount =>
    let x : Extent := { tenant := tenant.toNat, sideB, pinCount }
    { s with twn := { s.twn with metaExtents := Maps.put e.toNat x s.twn.metaExtents } }
  | .window i state gen d =>
    let w := openedWindow gen.toNat d
    let st : WinState := match state.val with | 0 => .free | 1 => .opened | 2 => .closing | _ => .retired
    { s with twn := { s.twn with metaWindows := Maps.put i.toNat { w with state := st } s.twn.metaWindows } }
  | .metaEnd => { s with twn := { s.twn with metaIn := true } }
  | .line l epoch =>
    let a : ArrivedRec := { frame := 0, lines := [(l.line.toNat, l.tenant.toNat, l.data)], epoch := epoch.toNat }
    { s with twn := { s.twn with arrived := s.twn.arrived ++ [a] } }
  | .copyEnd => { s with twn := { s.twn with copyIn := true } }
  | .copyDone => { s with twn := { s.twn with copyDone := true } }
  | .ask full marked => { s with twn := { s.twn with asked := some (full, marked.map BitVec.toNat) } }
  | .repairAsk line => { s with med := { s.med with repairServed := s.med.repairServed ++ [line.toNat] } }
  | .repairReply line good data epoch =>
    let r : ReplyRec := { line := line.toNat, data := if good then some data else none, epoch := epoch.toNat }
    { s with twn := { s.twn with replies := s.twn.replies ++ [r] } }

/-- RESYNC (R393, R416). -/
def execResync (h : TwinHead) (body : ResyncBody) (s : State) : Result := .next (s.gotFrame h (fun s => s.gotResync body))

/-- TWIN_ACK: frames up to a SEQ are acknowledged, and waiting ones follow (R393). -/
def execTwinAck (one : Bool) (seq : Nat) (s : State) : Result :=
  .next (
    let b := s.bundle one
    if !b.unacked.any (fun r => r.seq == seq) then s
    else (s.setBundle one { b with unacked := b.unacked.filter (fun r => decide (seq < r.seq)) }).pumpTwin one)

/-- TWIN_NAK: the frames from a SEQ on are sent again (R393, R394). -/
def execTwinNak (one : Bool) (seq : Nat) (s : State) : Result :=
  .next (
    let b := s.bundle one
    let n := (b.unacked.filter (fun r => decide (seq ≤ r.seq))).length
    let again := b.unacked.map (fun r => if seq ≤ r.seq then { r with replays := r.replays + 1 } else r)
    (s.setBundle one { b with unacked := again }).bumpBy Reg.TWN_CNT_REPLAY n)

/-! ## Bundles and the sideband (R394, R396, R397) -/

/-- TWN_LINK_CFG.SILENT; lower values act as 8. -/
def State.silentTicks (s : State) : Nat := Nat.max 8 (s.effF Reg.TWN_LINK_CFG 15 8)

/-- A bundle that is down: its frames go out on the other one, what was unacknowledged before any other traffic, from the next tick
boundary on (R394). -/
def State.dropBundle (s : State) (one : Bool) : State :=
  let b := s.bundle one
  let o := s.bundle (!one)
  let frames := b.unacked.map (fun r => ({ frame := r.frame, first := true, cls := r.cls, tenant := r.tenant } : TwWork)) ++ b.held
  let frames := frames.filter (fun w => !(s.dur.solo && w.frame.ships))
  let down : BundleRec := { up := false, heard := b.heard, downAt := s.now, naks := b.naks }
  let s := s.setB Reg.TWN_STATUS (if one then 23 else 22) false
  if o.up then (s.setBundle one down).setBundle (!one) { o with held := frames ++ o.held }
  else s.setBundle one { down with held := frames }

/-- A bundle declared down, and reported; with both down the link is silent (R394). -/
def State.bundleDown (s : State) (one : Bool) : State :=
  let other := (s.bundle (!one)).up
  let s := (s.dropBundle one).report 0x1B (sideNum one)
  if other then s else s.linkSilent

/-- BUNDLE_DOWN: no valid frame for SILENT ticks, a frame replayed 8 times, or an uncorrectable word in the replay buffer
(R394). -/
def execBundleDown (one : Bool) (ue : Bool) (s : State) : Result :=
  .next (
    let b := s.bundle one
    if b.up && (ue || b.heard + s.silentTicks ≤ s.now + 1 || b.unacked.any (fun r => decide (8 ≤ r.replays))) then s.bundleDown one
    else s)

/-- BUNDLE_UP: valid heartbeats have come for 64 ticks, counted from the declaration of down at the earliest; a link up from
LinkHold lets the unit be Paired again (R394, R413). -/
def execBundleUp (one : Bool) (s : State) : Result :=
  .next (
    let b := s.bundle one
    match b.validSince with
    | none => s
    | some v =>
      if b.up || (one && s.sqr.twl1) || s.now + 1 < Nat.max v b.downAt + 64 then s
      else
        let o := s.bundle (!one)
        let was := o.up
        let s := s.setB Reg.TWN_STATUS (if one then 23 else 22) true
        let moved := if was then [] else o.held
        let s := if was then s else s.setBundle (!one) { o with held := [] }
        let s := (s.setBundle one { b with up := true, heard := s.now, held := b.held ++ moved }).pumpTwin one
        if was then s
        else
          let s := { s with twn := { s.twn with silentAt := none } }
          if s.pairState = 2 then s.raisePair .paired else s)

/-- SIDEBAND_TOGGLE: the interval since the last toggle is alive, part of the yield pattern, or a glitch (R396, R405); a level held for
fewer than 64 CCLK is ignored (R563). -/
def execSidebandToggle (held : Nat) (s : State) : Result :=
  .next (
    if held < 64 then s else
    let d := s.now - s.twn.sbLast
    let s := { s with twn := { s.twn with sbLast := s.now } }
    if d ≤ 2 then
      let s := { s with twn := { s.twn with sbRun := 0, sbSilent := false } }
      ((s.setB Reg.TWN_STATUS 25 true).setB Reg.TWN_STATUS 24 false).setB Reg.TWN_STATUS 19 false
    else if 12 ≤ d && d ≤ 20 then
      let n := s.twn.sbRun + 1
      let s := { s with twn := { s.twn with sbRun := n, sbSilent := false } }
      if 2 ≤ n && !s.getB Reg.TWN_STATUS 24 then
        ((s.setB Reg.TWN_STATUS 24 true).setB Reg.TWN_STATUS 25 false).twinGone 3
      else s
    else
      let s := { s with twn := { s.twn with sbRun := 0 } }
      if 600 < d then { s with twn := { s.twn with sbSilent := true } } else s.bump Reg.TWN_CNT_SB_GLITCH)

/-- SIDEBAND_SILENT: no toggle for more than 600 ticks; with the link silent too the twin is silent, while with the link up the
sideband is at fault (R396, R397). -/
def execSidebandSilent (s : State) : Result :=
  .next (
    if s.twn.sbSilent || s.now ≤ s.twn.sbLast + 600 then s
    else
      let s := ({ s with twn := { s.twn with sbSilent := true, sbRun := 0 } } : State).setB Reg.TWN_STATUS 25 false
      if s.linkUp then s.setB Reg.TWN_STATUS 19 true
      else if s.getB Reg.TWN_STATUS 19 then s
      else s.twinGone 4)

end Sys2Proof.Machine
end

