-- ==== Sys2Proof/Machine/Sequencer.lean ====
section
/-! DEFINITION. What a loss of power or a reset leaves; the power sequencer, the button, MRST_N, the power states
(chapter 15, R487, R565). -/

namespace Sys2Proof.Machine

open Sys2Proof

/-! ## What survives (R386, R487, R511) -/

/-- The SCM stacks and what the chip's metadata in them says (R386): data, poison list, region records, page frames. -/
def Med.kept (m : Med) : Med :=
  let promo (p : Nat) : Bool := m.promotes.any (fun e => e.1 == p)
  let link (l : MLinkRec) : MLinkRec := { frames := l.frames.filter (fun f => !promo f.2.1) }
  { store := m.store, epochs := m.epochs, poison := m.poison, recorded := m.recorded, regions := m.regions
    links := Maps.mapV (fun _ l => link l) m.links }

/-- The NAND tier: map, superblocks, wear; copies not yet protected are not trusted, and nothing is open (R340). -/
def Ntl.kept (n : Ntl) : Ntl :=
  let shut (x : NandSbRec) : NandSbRec := { x with closed := true, reads := [], erasing := false, victim := x.victim && x.recs.isEmpty }
  { dies := Maps.mapV (fun _ (d : DieRec) => { d with suspends := 0, suspended := false }) n.dies, sbs := Maps.mapV (fun _ x => shut x) n.sbs, map := n.map, segments := n.segments, erases := n.erases
    seq := n.seq, horizon := n.horizon, rootHorizon := n.rootHorizon, rootOpen := n.rootOpen, changed := n.changed, ckptSeq := n.ckptSeq, worn := n.worn, formatted := n.formatted
    bulkTlc := n.bulkTlc, group32 := n.group32, tpns := n.tpns, usable := n.usable }

/-- A published window; a revocation under way has no one left to complete to. -/
def Window.kept (w : Window) : Window := { w with revokers := [], held := 0, cut := 0 }

/-- Windows, tenants, extents and page locations (R386); key slots, caches and meters are lost. -/
def Win.kept (w : Win) : Win :=
  { tenants := Maps.mapV (fun _ (t : Tenant) => { t with createdInPeriod := false, meters := [0, 0, 0, 0, 0, 0] })
      (w.tenants.filter (fun e => !e.2.destroyed))
    extents := w.extents, windows := Maps.mapV (fun _ (x : Window) => x.kept) w.windows, pages := w.pages }

/-- Intent slots with a stored header, the twin outcome table, the in-flight map, the journal's SEQ, the epoch (R377, R386). -/
def Dur.kept (d : Dur) : Dur :=
  { intents := d.intents.filter (fun e => !e.2.stored.isEmpty), twinOutcomes := d.twinOutcomes, inflight := d.inflight
    journalSeq := d.journalSeq, epoch := d.epoch }

/-- An entry of the metadata as it was before a change that is lost; a page with no location again has nothing stored (R107, R387). -/
def State.revert (s : State) (u : Undo) : State :=
  match u with
  | .page p old =>
    let pages := match old with | some l => Maps.put p l s.win.pages | none => Maps.del p s.win.pages
    let med := if old.isSome then s.med else { s.med with
      store := Mem.clear s.med.store (p * 16384) 16384, epochs := s.med.epochs.filter (fun x => pageOfLine x.1 != p) }
    let inScm := match old with | some (.scm _ _) => true | _ => false
    let link (l : MLinkRec) : MLinkRec := { l with frames := l.frames.filter (fun e => inScm || e.2.1 != p) }
    { s with win := { s.win with pages }, med := { med with links := Maps.mapV (fun _ l => link l) med.links } }
  | .frame m f old =>
    let l := s.link m
    s.setLink m { l with frames := match old with | some x => Maps.put f x l.frames | none => Maps.del f l.frames }
  | .mark e old =>
    { s with dur := { s.dur with inflight := match old with | some x => Maps.put e x s.dur.inflight | none => Maps.del e s.dur.inflight } }
  | .poison l old =>
    { s with med := { s.med with poison := match old with | some x => Maps.put l x s.med.poison | none => Maps.del l s.med.poison } }
  | .role old =>
    let epoch := match old with | some r => r.epoch | none => s.dur.epoch
    { s with twn := { s.twn with role := old }, dur := { s.dur with epoch } }

/-- Replay of the journal stops at the first group that is not Placed: its changes and all later ones are lost, newest first
(R387, R389). -/
def State.lastPlaced (s : State) : State :=
  if s.dur.journalOpen.isEmpty then s else s.dur.undo.reverse.foldl (fun (s : State) (e : Nat × Undo) => s.revert e.2) s

/-- The machine as a loss of its logic's state leaves it: what the media, flash and OTP hold, the registers of the blocks
in [lo, hi) ranges given, and the model's own queue and count. -/
def State.survive (s : State) (keep : Nat → Bool) : State :=
  let s := s.lastPlaced
  let regs (m : Table Word) : Table Word := m.filter (fun e => keep e.1)
  let t : State := {
    bar := { val := regs s.bar.val, eff := regs s.bar.eff, copy := regs s.bar.copy }
    med := s.med.kept, ntl := s.ntl.kept, win := s.win.kept, dur := s.dur.kept
    twn := { role := s.twn.role }
    efl := { s.efl with heldGo := none }
    sec := { kek := s.sec.kek, dark := s.sec.dark }
    free := s.free, pending := s.pending }
  let meta' := s.reg Reg.DUR_META_CFG
  let temps := (upTo 8).foldl (fun (t : State) (i : Nat) => t.setReg (Reg.NTL_TEMP_MIN + 4 * i) (s.reg (Reg.NTL_TEMP_MIN + 4 * i))) t
  temps.setReg Reg.DUR_META_CFG meta'

/-- Registers of the always-on domain that a P3 or P4 state with VAON_IN keeps: SEQ, TWB and TOP (log 70). -/
def keptAon (off : Nat) : Bool := decide (off < 0x10000) || decide (0x2D0000 ≤ off && off < 0x2F0000)

/-- Registers that MRST_N leaves: those, PWR and SNS, and GRAIN (R289, R509). -/
def keptMrst (off : Nat) : Bool :=
  keptAon off || decide (0x20000 ≤ off && off < 0x40000) || decide (0x300000 ≤ off && off < 0x310000) ||
  off == Reg.DRC_ILV_CFG || off == Reg.TWB_TWT_CFG

/-- Registers that an off sequence leaves: PWR as well on the way to P3 (R511). -/
def keptOff (standby : Bool) (off : Nat) : Bool :=
  keptAon off || off == Reg.DRC_ILV_CFG || (standby && decide (0x20000 ≤ off && off < 0x40000))

/-- The program of a record that has begun, which VDD_AON alone carries to its end (R495). -/
def State.recordBegun (s : State) : Option FlashOpRec := s.efl.op.filter (fun o => o.recorder && o.kind == 0)

/-- VDD_CORE has fallen: all logic of the core rails is lost; an operation on flash is interrupted, but for a record's
(R460, R487, R495). The recorder's buffer is always-on (R545); nothing of Hold is left (R512, R513). -/
def State.coreLost (s : State) : State :=
  let begun := s.recordBegun
  let t := if begun.isSome then { s with efl := { s.efl with op := none } } else s
  let t := t.interruptFlash.survive (keptOff s.sqr.standby)
  let t := t.setF Reg.DRC_ILV_CFG 12 8 0
  { t with sqr := { s.sqr with tierShut := false, serdesIdle := false }, twb := s.twb, evr := { buffer := s.evr.buffer }, efl := { t.efl with op := begun } }

/-- VAON_IN_LOSS: the always-on domain dies; OTP, flash, option row and what the media hold remain until the next power-on
(R487, R511, R565). -/
def execVaonInLoss (s : State) : Result := .next (s.interruptFlash.survive (fun _ => false))

/-! ## Sequencer state -/

/-- PHASE of SEQ_STATUS: 0 Off, 1 On sequence, 2 On, 3 Off sequence, 4 Off wait, 5 Standby. -/
def State.phase (s : State) : Nat := s.getF Reg.SEQ_STATUS 31 29
def State.setPhase (s : State) (p : Nat) : State := s.setF Reg.SEQ_STATUS 31 29 p

/-- A slot is enabled; it is qualified. -/
def State.slotOn (s : State) (n : Nat) : Bool := s.getB Reg.SEQ_EN_STATE n
def State.slotGood (s : State) (n : Nat) : Bool := s.getB Reg.SEQ_PG_STATE n

/-- Fields of a slot's registers. -/
def State.slotMode (s : State) (n : Nat) : Nat :=
  let m := s.getF (Reg.SEQ_SLOT_CFG + 16 * n) 1 0
  if 2 ≤ m && s.getF (Reg.SEQ_SLOT_CFG + 16 * n) 9 8 = 3 then 1 else m
def State.onDelay (s : State) (n : Nat) : Nat := s.getF (Reg.SEQ_SLOT_ON + 16 * n) 19 0
def State.offDelay (s : State) (n : Nat) : Nat := s.getF (Reg.SEQ_SLOT_OFF + 16 * n) 19 0
def State.slotQual (s : State) (n : Nat) : Nat := Nat.max 1 (s.getF (Reg.SEQ_SLOT_PG + 16 * n) 19 10)
def State.slotDeadline (s : State) (n : Nat) : Nat := 100 * Nat.max 1 (s.getF (Reg.SEQ_SLOT_PG + 16 * n) 31 20)

/-- The sequenced slots of the table in force. -/
def State.usedSlots (s : State) : List Nat := (upTo 32).filter (fun n => n ≠ 0 && s.slotMode n ≠ 0)

/-- µs since the common start, as SEQ_TIME shows it. -/
def State.seqTime (s : State) (us : Nat) : State := s.setReg Reg.SEQ_TIME (BitVec.ofNat 32 (Nat.min us 1048575))

/-- PWR_STATUS.STATE, with the recorder's trigger of a change (R512, R544). -/
def State.powerState (s : State) : Nat := s.getF Reg.PWR_STATUS 31 29
def State.setPowerState (s : State) (p : Nat) : State :=
  if s.powerState = p then s else (s.setF Reg.PWR_STATUS 31 29 p).trigger 19 p 0 0

/-- A cause bit of SEQ_CAUSE; the off sequence it starts, if the sequencer is in a phase that has one, with the recorder told
unless the input is lost (R504, R505). -/
def State.offSequence (s : State) (bit : Nat) (standby : Bool) : State :=
  let s := (s.setB Reg.SEQ_CAUSE bit true).pend 4
  let p := s.phase
  if p ≠ 1 && p ≠ 2 && p ≠ 5 then s
  else
    let s := (s.setPhase 3).seqTime 0
    let own := bit == 3 || bit == 4
    let s := { s with sqr := { s.sqr with
      offSlots := s.reg Reg.SEQ_EN_STATE, standby, ownFault := own, latched := own, wake := false } }
    let s := if own then (s.setB Reg.SEQ_STATUS 26 true).setB Reg.SEQ_STATUS 27 false else s
    if bit = 0 then s else s.trigger 16 (fld (s.reg Reg.SEQ_CAUSE) 7 0) 0 0

/-- An on sequence may begin: the table has been loaded since the last off sequence, the input is qualified and FAULT_N is high
(R496, R507, R510). -/
def State.mayStart (s : State) : Bool := !s.sqr.tableDue && s.slotGood 0 && s.getB Reg.SEQ_STATUS 27

/-- An on sequence begins: WAKE and OFF_SEQ of TOP_RST_CAUSE say what the start follows (R498, R510, R512). -/
def State.onSequence (s : State) : State :=
  let p := s.phase
  let s := if p = 5 then (s.setB Reg.TOP_RST_CAUSE 3 true).setB Reg.TOP_RST_CAUSE 4 true
    else if p = 4 then s.setB Reg.TOP_RST_CAUSE 4 true else s
  let s := { s with sqr := { s.sqr with enabledAt := [], highSince := [], wake := false, latched := false, ownFault := false } }
  (s.setPhase 1).seqTime 0

/-! ## Inputs (R504, R507–R510) -/

/-- INPUT_OK_LOW: low for 2 µs (R504). -/
def execInputOkLow (s : State) : Result :=
  .next (((s.setB Reg.SEQ_STATUS 28 false).setB Reg.SEQ_PG_STATE 0 false).offSequence 0 false)

/-- INPUT_OK_QUALIFIED: SQ0 qualifies; in phase Off that is the common start of the first on sequence, unless FAULT_N is low
(R498, R507). -/
def execInputOkQualified (s : State) : Result :=
  .next (
    let s := ((s.setB Reg.SEQ_STATUS 28 true).setB Reg.SEQ_PG_STATE 0 true).recorderGo
    if s.phase = 0 && s.mayStart then s.onSequence else s)

/-- FAULT_N_LOW: low for 1 µs, driven by another sequencer (R504, R506). -/
def execFaultNLow (s : State) : Result :=
  .next (if s.getB Reg.SEQ_STATUS 26 then s else (s.setB Reg.SEQ_STATUS 27 false).offSequence 1 false)

/-- FAULT_N_HIGH: the line is high; the chip restarts under R510, or starts its first on sequence (R507). -/
def execFaultNHigh (s : State) : Result :=
  .next (
    if s.getB Reg.SEQ_STATUS 26 then s
    else
      let s := s.setB Reg.SEQ_STATUS 27 true
      if s.phase = 0 && s.mayStart then s.onSequence else s)

/-- A wake from P3, taken at once or when an on sequence may begin; `by` is what PWR_WAKE.LAST shows (R507, R508, R512). -/
def State.wakeUp (s : State) (by' : Nat) : State :=
  let s := s.setF Reg.PWR_WAKE 1 0 by'
  if s.mayStart then s.onSequence else { s with sqr := { s.sqr with wake := true } }

/-- ON_SEQUENCE_START: T_OFF_MIN has passed, the input is qualified, FAULT_N is high, and AUTO_ON or a press asks for it; after a
fault of the chip's own only a press does, and from P3 only a wake (R507, R510). -/
def execOnSequenceStart (ms : Nat) (s : State) : Result :=
  .next (
    let asked := s.sqr.wake || (s.getB Reg.SEQ_CTRL 20 && !s.sqr.latched)
    if s.phase = 4 && Nat.max 1 (s.getF Reg.SEQ_CTRL 15 0) ≤ ms && s.mayStart && asked then
      (s.setF Reg.PWR_WAKE 1 0 (if s.sqr.wake then 1 else 0)).onSequence
    else if s.phase = 5 && s.mayStart && s.sqr.wake then s.onSequence
    else s)

/-- PWRBTN_PRESS: a debounced press (R508). -/
def execPwrbtnPress (s : State) : Result :=
  .next ({ s with sqr := { s.sqr with pressed := true } }.setB Reg.SEQ_STATUS 24 true)

/-- PWRBTN_RELEASE: a press shorter than LONGPRESS posts an event while the chip runs, and wakes it from P3 or P4 (R508, R510). -/
def execPwrbtnRelease (s : State) : Result :=
  .next (
    let s := s.setB Reg.SEQ_STATUS 24 false
    if !s.sqr.pressed then s
    else
      let s := { s with sqr := { s.sqr with pressed := false } }
      if s.phase = 2 then (s.notify 0x17 0 0 0 0 0).pend 4
      else if s.phase = 5 then if s.getB Reg.PWR_WAKE 16 then s.wakeUp 1 else s
      else if s.phase = 4 then { s with sqr := { s.sqr with wake := true } }
      else s)

/-- LONGPRESS: the button has been held for LONGPRESS seconds (R504, R508). -/
def execLongpress (s : State) : Result :=
  .next (if s.sqr.pressed then { s with sqr := { s.sqr with pressed := false } }.offSequence 2 false else s)

/-- SHUTDOWN: a write of 1 to SEQ_CTRL.SHUTDOWN (R504); every requester of a management-plane register may write it. -/
def execShutdown (rq : Requester) (s : State) : Result :=
  let _ := rq
  .next (s.offSequence 5 false)

/-- MRST_ASSERT: the MCP, the control plane and the data plane are held in reset; the slots and the power state stand, and a change of
power state under way is given up (R509, R512, log 136). -/
def execMrstAssert (s : State) : Result :=
  .next (
    let t := s.interruptFlash.survive keptMrst
    let t := (t.setB Reg.PWR_STATUS 28 false).setF Reg.DRC_ILV_CFG 12 8 0
    { t with sqr := { s.sqr with mrst := true, target := none, holding := false, tierShut := s.sqr.tierShut && s.powerState == 2 }, twb := s.twb, evr := { buffer := s.evr.buffer } })

/-- MRST_RELEASE: start-up runs from step 2 (R509). -/
def execMrstRelease (s : State) : Result :=
  .next (
    if !s.sqr.mrst then s
    else
      let s := s.setB Reg.TOP_RST_CAUSE 2 true
      { s with sqr := { s.sqr with mrst := false }, sec := { s.sec with startup := if s.phase = 2 then 1 else 0 } })

/-! ## The table (R496, R497) -/

/-- Rank of a fixed slot in the on order of R490. -/
def slotRank (n : Nat) : Nat := if n = 1 then 0 else if n = 2 then 1 else if n < 6 then 2 else if n = 6 then 3 else 4

/-- 32 bits of a table at an offset. -/
def tableWord (b : List Byte) (o : Nat) : Nat := leNat (slice b o 4)

/-- The delays of SQ1–SQ9 keep the order of R490. -/
def tableOrder (b : List Byte) : Bool :=
  let on (n : Nat) : Nat := tableWord b (16 + 16 * n + 4) % 2 ^ 20
  let off (n : Nat) : Nat := tableWord b (16 + 16 * n + 8) % 2 ^ 20
  let fixed := (upTo 10).filter (fun n => n ≠ 0)
  fixed.all (fun n => fixed.all (fun m => !decide (slotRank m < slotRank n) || (decide (on m ≤ on n) && decide (off n ≤ off m))))

/-- A table that R497 accepts: MAGIC, FORMAT, CRC-32C, and the delays' order. -/
def tableOk (b : List Byte) : Bool :=
  b.length == 532 && tableWord b 0 == 0x54514553 && leNat (slice b 4 2) == 1 &&
  tableWord b 528 == Nat.xor (crc32c 0xFFFFFFFF (b.take 528)) 0xFFFFFFFF && tableOrder b

/-- The registers of a slot. -/
def slotRegs (n : Nat) : List Nat := [Reg.SEQ_SLOT_CFG + 16 * n, Reg.SEQ_SLOT_ON + 16 * n, Reg.SEQ_SLOT_OFF + 16 * n, Reg.SEQ_SLOT_PG + 16 * n]

/-- The table, or its defaults, in force; a first on sequence that waited for it begins (R496, R498). -/
def State.tableLoaded (s : State) : State :=
  let s := { s with sqr := { s.sqr with tableDue := false } }
  if s.phase = 0 && s.mayStart then s.onSequence else s

/-- TABLE_LOAD: an accepted table fills the SEQ registers; a refused one leaves the defaults of R497 and sets TABLE (R496). -/
def execTableLoad (table : Option (List Byte)) (s : State) : Result :=
  .next (
    let p := s.phase
    if p = 1 || p = 2 || p = 3 then s
    else
      let b := table.getD []
      if tableOk b then
        let s := s.setF Reg.SEQ_CTRL 20 0
          ((if bitOf (BitVec.ofNat 16 (leNat (slice b 6 2))) 0 then 2 ^ 20 else 0) + leNat (slice b 8 1) % 16 * 2 ^ 16 + leNat (slice b 10 2))
        let s := (upTo 32).foldl (fun (s : State) (n : Nat) =>
          (upTo 4).foldl (fun (s : State) (k : Nat) =>
            let off := nthD (slotRegs n) k 0
            let mask := match regAt off with | some r => BitVec.ofNat 32 r.rw | none => 0
            s.setReg off (BitVec.ofNat 32 (tableWord b (16 + 16 * n + 4 * k)) &&& mask)) s) s
        (s.setB Reg.SEQ_STATUS 25 true).tableLoaded
      else
        let s := (s.setReg Reg.SEQ_CTRL (resetOf Reg.SEQ_CTRL))
        let s := ((upTo 32).flatMap slotRegs).foldl (fun (s : State) (off : Nat) => s.setReg off (resetOf off)) s
        ((s.setB Reg.SEQ_STATUS 25 false).setB Reg.SEQ_CAUSE 6 true).tableLoaded)

/-! ## Slots (R498–R503, R505) -/

/-- A sequence or rail fault of a slot: FAULT_SLOT, the off sequence, FAULT_N driven low (R502–R504, R506). -/
def State.slotFault (s : State) (n bit : Nat) : State := (s.setF Reg.SEQ_STATUS 20 16 n).offSequence bit false

/-- A controller port of the two-wire buses. -/
def State.twbPort (s : State) (n : Nat) : TwbPortRec := if n = 0 then s.twb.port0 else if n = 1 then s.twb.port1 else s.twb.port2

/-- The writes by which the sequencer switches a slot whose MODE includes PMBus, each with its PEC: PAGE when it has one, then
OPERATION (R500; the command codes are PMBus's, log 121). -/
def State.slotWrites (s : State) (n : Nat) (on : Bool) : List (List Byte) :=
  let cfg := s.reg (Reg.SEQ_SLOT_CFG + 16 * n)
  let frame (code v : Nat) : List Byte :=
    let b := [BitVec.ofNat 8 (2 * fld cfg 22 16), BitVec.ofNat 8 code, BitVec.ofNat 8 v]
    b ++ [crc8 b]
  (if fld cfg 31 24 = 255 then [] else [frame 0 (fld cfg 31 24)]) ++ [frame 1 (if on then 0x80 else 0)]

/-- A slot's enable switched: by pin, by PMBus, or both (R500). -/
def State.switchSlot (s : State) (n : Nat) (on : Bool) : State :=
  if s.slotMode n < 2 then s else { s with sqr := { s.sqr with sent := Maps.put n (s.slotWrites n on) s.sqr.sent } }

/-- The sequencer's transaction for a slot has to wait for firmware's on the slot's port (R520). -/
def State.busTaken (s : State) (n : Nat) : Bool :=
  2 ≤ s.slotMode n && (s.twbPort (s.getF (Reg.SEQ_SLOT_CFG + 16 * n) 9 8)).running

/-- SLOT_ENABLE: a slot's on-delay has passed and nothing it waits for holds it; a PMBus write NACKed three times is a sequence
fault (R498–R500). -/
def execSlotEnable (slot : Fin 32) (us : Nat) (nacks : Fin 4) (s : State) : Result :=
  let n := slot.val
  .next (
    let waits := s.getB (Reg.SEQ_SLOT_CFG + 16 * n) 4 &&
      s.usedSlots.any (fun m => decide (s.onDelay m < s.onDelay n) && s.slotOn m && !s.slotGood m)
    if s.phase ≠ 1 || !s.usedSlots.contains n || s.slotOn n || us < s.onDelay n || waits || s.busTaken n then s
    else
      let s := (s.seqTime us).switchSlot n true
      if 2 ≤ s.slotMode n && nacks.val = 3 then s.slotFault n 3
      else
        let s := s.setB Reg.SEQ_EN_STATE n true
        { s with sqr := { s.sqr with enabledAt := Maps.put n us s.sqr.enabledAt, highSince := Maps.put n us s.sqr.highSince } })

/-- Straps sampled when SQ9 first qualifies after VAON_IN was applied (R565). -/
def State.sampleStraps (s : State) (straps : BitVec 3) : State :=
  if s.getB Reg.TOP_RST_CAUSE 1 then s
  else (s.setReg Reg.TOP_STRAP (BitVec.ofNat 32 straps.toNat)).setB Reg.TOP_RST_CAUSE 1 true

/-- SLOT_QUALIFIED: power-good has stayed high for QUAL µs; with the last slot qualified the rails are up, and step 1 of start-up,
or the way to step 2 from P3, ends (R29, R501). -/
def execSlotQualified (slot : Fin 32) (us : Nat) (straps : BitVec 3) (s : State) : Result :=
  let n := slot.val
  .next (match Maps.find n s.sqr.highSince with
    | none => s
    | some t =>
      if s.phase ≠ 1 || !s.slotOn n || s.slotGood n || us < t + s.slotQual n then s
      else
        let s := (s.seqTime us).setB Reg.SEQ_PG_STATE n true
        let s := if n = 9 then s.sampleStraps straps else s
        if s.usedSlots.all (fun m => s.slotOn m && s.slotGood m) then
          let s := (s.setPhase 2).setPowerState 0
          ({ s with sec := { s.sec with startup := 1 } } : State).trimFirst
        else s)

/-- POWER_GOOD_BREAK: power-good low before qualification restarts the timer (R501). -/
def execPowerGoodBreak (slot : Fin 32) (us : Nat) (s : State) : Result :=
  let n := slot.val
  .next (
    if s.slotOn n && !s.slotGood n && s.getB (Reg.SEQ_SLOT_CFG + 16 * n) 3 then
      { s.seqTime us with sqr := { s.sqr with highSince := Maps.put n us s.sqr.highSince } }
    else s)

/-- SEQUENCE_FAULT: a slot not qualified DEADLINE × 100 µs after its enable (R502). -/
def execSequenceFault (slot : Fin 32) (us : Nat) (s : State) : Result :=
  let n := slot.val
  .next (match Maps.find n s.sqr.enabledAt with
    | none => s
    | some t =>
      if s.phase = 1 && s.slotOn n && !s.slotGood n && t + s.slotDeadline n ≤ us then (s.seqTime us).slotFault n 3 else s)

/-- RAIL_FAULT: a qualified slot's power-good low for longer than GLITCH (R503). -/
def execRailFault (slot : Fin 32) (s : State) : Result :=
  let n := slot.val
  .next (
    let p := s.phase
    if (p = 1 || p = 2 || p = 5) && n ≠ 0 && s.slotOn n && s.slotGood n && s.getB (Reg.SEQ_SLOT_CFG + 16 * n) 3 then s.slotFault n 4
    else s)

/-- A slot stays enabled in P3 (STBY_KEEP, ignored for SQ1–SQ9). -/
def State.slotKept (s : State) (n : Nat) : Bool := s.sqr.standby && 10 ≤ n && s.getB (Reg.SEQ_SLOT_CFG + 16 * n) 5

/-- A slot disabled; with SQ1 goes VDD_CORE and all that its logic holds (R487, R505). -/
def State.disableSlot (s : State) (n : Nat) : State :=
  let s := (s.setB Reg.SEQ_EN_STATE n false).setB Reg.SEQ_PG_STATE n false
  if n = 1 then s.coreLost else s

/-- SLOT_DISABLE: a slot's off-delay has passed in an off sequence (R498, R505). -/
def execSlotDisable (slot : Fin 32) (us : Nat) (s : State) : Result :=
  let n := slot.val
  .next (
    if s.phase ≠ 3 || !bitOf s.sqr.offSlots n || !s.slotOn n || s.slotKept n || us < s.offDelay n || s.busTaken n then s
    else ((s.seqTime us).switchSlot n false).disableSlot n)

/-- OFF_SEQUENCE_END: every slot to be disabled is, with its power-good pin low where that is used, or 100 ms have passed; the chip is
in P3, or in P4 and waits; FAULT_N, held low for at least 10 µs, is released, and the table is to be loaded again (R496, R505, R506,
R510). -/
def execOffSequenceEnd (us : Nat) (pg : BitVec 32) (s : State) : Result :=
  .next (
    let slots := (upTo 32).filter (fun n => bitOf s.sqr.offSlots n && !s.slotKept n)
    let left := slots.filter s.slotOn
    let high := slots.any (fun n => s.getB (Reg.SEQ_SLOT_CFG + 16 * n) 3 && bitOf pg n)
    if s.phase ≠ 3 || ((!left.isEmpty || high) && us < 100000) || (s.getB Reg.SEQ_STATUS 26 && us < 10) then s
    else
      let s := left.foldl State.disableSlot s
      let s := { s.seqTime us with sqr := { s.sqr with tableDue := true } }
      let s := if s.getB Reg.SEQ_STATUS 26 then (s.setB Reg.SEQ_STATUS 26 false).setB Reg.SEQ_STATUS 27 true else s
      if s.sqr.standby then
        let s := { (s.setPhase 5).setF Reg.PWR_STATUS 31 29 3 with sqr := { s.sqr with standby := false, offSlots := 0, target := none } }
        s.setB Reg.PWR_STATUS 28 false
      else { s.setPhase 4 with sqr := { s.sqr with offSlots := 0, target := none, holding := false } })

/-! ## Power states (R512–R514) -/

/-- A request made through PWR_CTRL.GO: refused with BUSY, PATH or SERVING, or taken, with MCP source 9 pending (R512). -/
def State.requestPower (s : State) (target : Nat) : State :=
  let s := s.setF Reg.PWR_CTRL 2 0 target
  let now := s.powerState
  let path := (now = 0 && target = 1) || (now = 1 && target = 0) || (now ≤ 1 && target = 2) || (now = 2 && target = 0) ||
    (now = 2 && target = 3)
  let refuse := if s.getB Reg.PWR_STATUS 28 then 3 else if !path then 1 else if target = 2 && s.servesBits ≠ 0 then 2 else 0
  let s := s.setF Reg.PWR_STATUS 27 24 refuse
  if refuse ≠ 0 then s
  else { (s.setB Reg.PWR_STATUS 28 true).pend 9 with sqr := { s.sqr with target := some target } }

/-- ENTER_RUN: P0 requested (R512). -/
def execEnterRun (rq : Requester) (s : State) : Result :=
  let _ := rq
  .next (s.requestPower 0)

/-- ENTER_TRIM: P1 requested (R512, R514). -/
def execEnterTrim (rq : Requester) (s : State) : Result :=
  let _ := rq
  .next (s.requestPower 1)

/-- ENTER_HOLD: P2 requested; refused while the unit serves a side (R512, R513). -/
def execEnterHold (rq : Requester) (s : State) : Result :=
  let _ := rq
  .next (s.requestPower 2)

/-- ENTER_STANDBY: P3 requested from Hold: TOKEN ends, the key store is cleared, and the slots without STBY_KEEP go off (R487,
R512). -/
def execEnterStandby (rq : Requester) (s : State) : Result :=
  let _ := rq
  .next (
    let s := s.requestPower 3
    if s.sqr.target = some 3 && s.powerState = 2 then
      let s := if s.debug = 1 then s.setDebug 0 0 else s
      s.clearKeys.offSequence 5 true
    else s)

/-- At a tick boundary on the way to Hold: with no operation and no buffered line left, the NAND tier closes its open rows and writes a
checkpoint (R349, R513). -/
def State.holdStep (s : State) : State :=
  if s.sqr.holding && !s.sqr.tierShut && s.trn.opt.isEmpty && s.dur.pb.isEmpty then
    { s.nandHold with sqr := { s.sqr with tierShut := true } }
  else s

/-- HOLD_QUIESCE_DONE: no operation and no buffered line is left: the tier, the DRAM controller and the SerDes are quiesced and
the chip is in P2 (R309, R349, R513). -/
def execHoldQuiesceDone (s : State) : Result :=
  .next (
    if !s.sqr.holding || !s.sqr.tierShut || !s.trn.opt.isEmpty || !s.dur.pb.isEmpty || !s.ntl.ops.isEmpty || s.ntl.ckptDue then s
    else
      let s := (upTo 6).foldl State.selfRefresh s
      { (s.setPowerState 2).setB Reg.PWR_STATUS 28 false with sqr := { s.sqr with holding := false, target := none, serdesIdle := true } })

/-- Engines gated by a mask: bits that would gate a whole cluster, or more than 32 engines, are ignored (R514). -/
def trimMask (mask : BitVec 64) : BitVec 64 :=
  (upTo 64).foldl (fun (g : BitVec 64) (e : Nat) =>
    let total := popCount g.toNat 64
    let mine := popCount (g.toNat / 2 ^ (e / 8 * 8) % 256) 8
    if bitOf mask e && total < 32 && mine < 7 then setBit g e true else g) 0

/-- A port's logical ports are all down. -/
def State.allDown (s : State) (p : Nat) : Bool := (upTo 4).all (fun k => !s.lpUp (4 * p + k))

/-- What P1 gates at a frame boundary (R514); nothing in another state. -/
def State.applyTrim (s : State) : State :=
  if s.powerState ≠ 1 then
    { s.setB Reg.PWR_STATUS 23 false with
      cle := { s.cle with gated := 0 }, sqr := { s.sqr with gatedPorts := 0, ungate := 0, twl1 := false } }
  else
    let mask : BitVec 64 := BitVec.ofNat 64 ((s.reg Reg.PWR_TRIM_ENG_HI).toNat * 2 ^ 32 + (s.reg Reg.PWR_TRIM_ENG_LO).toNat)
    let g := trimMask mask
    let s := { s with cle := { s.cle with gated := g } }
    let s := s.setB Reg.PWR_STATUS 23 (g != mask)
    let ports := (upTo 8).foldl (fun (b : Byte) (p : Nat) =>
      let on := s.getB Reg.PWR_TRIM_IO p && s.allDown p && !bitOf s.sqr.ungate p
      setBit b p on) s.sqr.gatedPorts
    let twl1 := s.getB Reg.PWR_TRIM_IO 8
    let s := if twl1 && (s.bundle true).up then s.dropBundle true else s
    { s with sqr := { s.sqr with gatedPorts := ports, twl1 } }

/-- Requested power states take effect at a frame boundary (R512, R513). -/
def State.powerFrame (s : State) : State :=
  let done (s : State) : State := { s.setB Reg.PWR_STATUS 28 false with sqr := { s.sqr with target := none } }
  let s := match s.sqr.target, s.powerState with
    | some 1, 0 => done (s.setPowerState 1)
    | some 0, 1 => done (s.setPowerState 0)
    | some 0, 2 =>
      let up (x : DramChRec) : DramChRec := if x.state = 3 then { x with state := 2 } else x
      let s := (s.startItem 9).startItem 10
      let s := { s with
        drc := { s.drc with channels := Maps.mapV (fun _ x => up x) s.drc.channels, calTick := some s.nextTick }
        twn := { s.twn with stopped := false }, sqr := { s.sqr with serdesIdle := false, tierShut := false } }
      done (s.setPowerState 0)
    | some 2, _ => { s with twn := { s.twn with stopped := true }, sqr := { s.sqr with holding := true } }
    | _, _ => s
  s.applyTrim

/-- SIGNAL_DETECT: a gated port sees a signal and is ungated at the next frame boundary (R514). -/
def execSignalDetect (port : Fin 8) (s : State) : Result :=
  .next (if bitOf s.sqr.gatedPorts port then { s with sqr := { s.sqr with ungate := setBit s.sqr.ungate port true } } else s)

end Sys2Proof.Machine
end

