-- ==== Sys2Proof/Machine/Recorder.lean ====
section
/-! DEFINITION. Sensors, captures and the event recorder (chapter 17). -/

namespace Sys2Proof.Machine

open Sys2Proof

/-! ## Sensors (R541–R543) -/

/-- A reading with the reference correction of R542: scaled so that CAL_REF reads 1.2000 V (log 77). -/
def State.corrected (s : State) (raw : Int) : Int := raw * 12000 / (s.evr.reference : Int)

/-- A signed 16-bit field as an integer. -/
def signed16 (v : Nat) : Int := (BitVec.ofNat 16 v).toInt

/-- One thermal sample shown; a crossing of HIGH sets ALERT, pends MCP source 7 and fires trigger 22 (R541, R543). -/
def State.senseTemp (s : State) (i : Nat) (raw : BitVec 16) : State :=
  let v := s.corrected (s.factory 7 i raw.toInt)
  let high := signed16 (s.getF (Reg.SNS_THRESH + 4 * i) 15 0)
  let above (x : Int) : Bool := decide (high < x)
  let was := match s.temps i with | x :: _ => above x | [] => false
  let s := { s with evr := { s.evr with readings := Maps.put i ((v :: s.temps i).take 16) s.evr.readings } }
  let r := Reg.SNS_TEMP + 4 * i
  let s := (s.setB r 31 true).setF r 15 0 (BitVec.ofInt 16 v).toNat
  if above v && !was then ((s.setB Reg.SNS_STATUS i true).pend 7).trigger 22 1 0 i else s

/-- The lowest-numbered sensor with the highest reading. -/
def State.hottest (s : State) : Nat :=
  let v (i : Nat) : Int := match s.temps i with | x :: _ => x | [] => -32768
  (upTo 16).foldl (fun (m : Nat) (i : Nat) => if v m < v i then i else m) 0

/-- The items of a sensor are applied again when its mean has moved by STEP; not during a capture (R537, R540). -/
def State.reapply (s : State) (i : Nat) : State :=
  match s.meanTemp i with
  | none => s
  | some m =>
    let step : Nat := Nat.max 1 (s.getF Reg.CAL_CFG 7 0)
    let due := match Maps.find i s.evr.appliedAt with | some a => decide (step ≤ (m - a).natAbs) | none => true
    if !due || s.evr.capture.isSome then s
    else
      let s := { s with evr := { s.evr with appliedAt := Maps.put i m s.evr.appliedAt } }
      if i = 15 then s.trimOsc m else s.stageItems i m

/-- The parameters that the interfaces of all blocks train with: for the mean of each block's sensor, or for 60 °C before it has been
read (R303, R537, log 123). -/
def State.startItems (s : State) : State :=
  (upTo 12).foldl State.startItem s

/-- The samples of a frame shown at its boundary: 16 thermal sensors, then 24 voltage monitors, each corrected by its factory gain
and offset (R541, log 77); none while the input is not good (R557). -/
def State.sense (s : State) (samples : List (BitVec 16)) : State :=
  if !s.getB Reg.SEQ_STATUS 28 then s else
  let s := (upTo 16).foldl (fun (s : State) (i : Nat) =>
    match samples[i]? with | some raw => s.senseTemp i raw | none => s) s
  let s := (upTo 24).foldl (fun (s : State) (j : Nat) =>
    match samples[16 + j]? with
    | some raw =>
      let r := Reg.SNS_VOLT + 4 * j
      (s.setB r 31 true).setF r 15 0 (BitVec.ofInt 16 (s.corrected (s.factory 8 j (raw.toNat : Int)))).toNat
    | none => s) s
  (upTo 16).foldl State.reapply (s.setF Reg.SNS_STATUS 19 16 s.hottest)

/-- A residual error shown, for a sensor of an entry kind. -/
def State.showResid (s : State) (kind base i : Nat) (r : BitVec 15) : State :=
  let s := s.setF (base + 4 * i) 30 16 r.toNat
  { s with evr := { s.evr with figures := Maps.put (256 * kind + i) (BitVec.ofNat 32 (r.toNat * 2 ^ 16)) s.evr.figures } }

/-- CAL_REF measured at a minute mark: a new reference correction and each sensor's residual error, or REF_BAD when it reads more
than 2 % from 1.2000 V (R542). -/
def State.checkRef (s : State) (refRaw : BitVec 16) (resid : List (BitVec 15)) : State :=
  let s := s.setF Reg.CAL_REF_STATUS 15 0 refRaw.toNat
  let far := ((refRaw.toNat : Int) - 12000).natAbs
  if 240 < far then (s.setB Reg.CAL_STATUS 28 true).trigger 23 1 0 0
  else
    let s := ({ s with evr := { s.evr with reference := refRaw.toNat } } : State).setB Reg.CAL_STATUS 28 false
    (upTo 40).foldl (fun (s : State) (i : Nat) =>
      match resid[i]? with
      | some r => if i < 16 then s.showResid 7 Reg.SNS_TEMP i r else s.showResid 8 Reg.SNS_VOLT (i - 16) r
      | none => s) s

/-! ## Capture (R539, R540) -/

/-- Every channel and link that is present is trained: ports in use up, both bundles up, media links and DRAM channels up, the
tier's channels running (R540, log 78). -/
def State.allTrained (s : State) : Bool :=
  (upTo 32).all (fun lp => !s.lpExists lp || s.lpUp lp) && s.twn.bundle0.up && s.twn.bundle1.up &&
  (upTo 16).all (fun m => (s.link m).state == 0 || (s.link m).state == 2) &&
  s.drc.channels.all (fun e => e.2.state == 0 || e.2.state == 2) && (s.ntl.state == 0 || s.ntl.state == 2)

/-- A sensor's mean lies within 3 °C of a point. -/
def State.near (s : State) (p i : Nat) : Bool :=
  match s.meanTemp i with
  | some m => decide ((m - ((16 * p : Nat) : Int)).natAbs ≤ 48)
  | none => false

/-- CAPTURE: CAL_CTRL written with CAPTURE and POINT; the capture begins, or is refused with CAPTURE_ERR (R539, R540). -/
def execCapture (point : Byte) (s : State) : Result :=
  .next (
    let p := point.toNat
    let s := s.setF Reg.CAL_CTRL 7 0 p
    let ok := (p = 20 || p = 60 || p = 100) && s.inRun && s.powerState == 0 && s.allTrained && s.evr.capture.isNone &&
      (upTo 12).all (s.near p)
    if ok then ({ s with evr := { s.evr with capture := some p } } : State).setB Reg.CAL_STATUS 31 true
    else s.setB Reg.CAL_STATUS 29 true)

/-- An entry's bytes (R532). -/
def calEntryBytes (e : CalEntry) : List Byte :=
  let b := [e.kind, 0] ++ leBytes e.index.toNat 2 ++ [BitVec.ofNat 8 e.params.length, 0] ++ leBytes e.quality.toNat 2 ++
    e.params.flatMap (fun v => leBytes v.toNat 2)
  b ++ List.replicate (ceilDiv b.length 8 * 8 - b.length) 0

/-- The image of a point's area (R533); its SEQ is for management firmware to give. -/
def calImage (point : Nat) (tjMean : BitVec 16) (seq : Nat) (entries : List CalEntry) : List Byte :=
  let body := entries.flatMap calEntryBytes
  let h := leBytes 0x4C414350 4 ++ leBytes 1 2 ++ [BitVec.ofNat 8 point, 0] ++ leBytes tjMean.toNat 2 ++
    leBytes entries.length 2 ++ leBytes body.length 4 ++ leBytes seq 4 ++ List.replicate 36 0 ++ leBytes (crcInv body) 4
  h ++ leBytes (crcInv h) 4 ++ body

/-- CAPTURE_DONE: the image is written to SRAM at CAL_DST, its figures are shown, and what waited for the end of the capture is
applied (R539, R540). -/
def execCaptureDone (tjMean : BitVec 16) (entries : List CalEntry) (s : State) : Result :=
  .next (match s.evr.capture with
    | none => s
    | some p =>
      let (seq, s) := s.takeWord
      let dst := s.getF Reg.CAL_DST 19 3 * 8
      let s := { s with
        mcp := { s.mcp with sram := s.mcp.sram.setBytes dst ((calImage p tjMean seq.toNat entries).take (0x100000 - dst)) }
        evr := { s.evr with
          capture := none
          figures := entries.foldl (fun (t : Table Word) (e : CalEntry) =>
            Maps.put (256 * e.kind.toNat + e.index.toNat % 256) (BitVec.ofNat 32 (e.figA.toNat * 2 ^ 16 + e.figB.toNat)) t)
            s.evr.figures } }
      let s := (s.setB Reg.CAL_STATUS 31 false).setB Reg.CAL_STATUS 30 true
      (upTo 16).foldl State.reapply (s.trigger 23 2 0 p))

/-! ## The recorder (R544–R552) -/

/-- BUF of EVR_STATUS. -/
def State.showBuf (s : State) : State := s.setF Reg.EVR_STATUS 26 23 s.evr.buffer.length

/-- RECORDER_TRIGGER: the lowest-numbered input that has fired is snapshot: a record of the registers it lists, or, with the buffer
full, one firing more without a record (R545, R546). -/
def execRecorderTrigger (s : State) : Result :=
  .next (match s.evr.fired with
    | [] => s
    | f :: rest =>
      let s := { s with evr := { s.evr with fired := rest } }
      if 8 ≤ s.evr.buffer.length then
        ({ s with evr := { s.evr with dropped := Nat.min (s.evr.dropped + 1) 65535 } } : State).bumpSat Reg.EVR_STATUS 22 11
      else
        let n := Nat.min 58 (s.getF (Reg.EVR_TRIG_CFG + 4 * f.input) 5 0)
        let values := (upTo n).map (fun k => s.shown (s.reg (Reg.EVR_LIST + 0x100 * f.input + 4 * k)).toNat)
        let r : RecordRec := { trigger := f.input, code := f.code, level := f.level, source := f.source,
                               dropped := s.evr.dropped, values }
        ({ s with evr := { s.evr with buffer := s.evr.buffer ++ [r], dropped := 0 } } : State).showBuf.recorderGo)

/-- FW_TRIGGER: a write of EVR_FW_TRIG (R544). -/
def execFwTrigger (input : Fin 8) (code : Byte) (s : State) : Result := .next (s.trigger (24 + input.val) code.toNat 0 0)

/-- RECORD_PROGRAMMED: the eight rows of the oldest record are programmed; HEAD and SEQ_NEXT advance, and a HEAD that enters a
sector has the sector after it erased (R548). -/
def execRecordProgrammed (s : State) : Result :=
  .next (match s.efl.op with
    | none => s
    | some o =>
      if !o.recorder || o.kind ≠ 0 then s
      else
        let s := (upTo 8).foldl (fun (s : State) (i : Nat) => s.storeRow true (o.row + i) (slice o.words (4 * i) 4)) s
        let s := { s with efl := { s.efl with op := none }, evr := { s.evr with buffer := s.evr.buffer.drop 1 } }
        let s :=
          if !s.getB Reg.EVR_STATUS 31 then s
          else
            let head := s.getF Reg.EVR_STATUS 10 0
            let s := ((s.showBuf.bump Reg.EVR_SEQ_NEXT).bump Reg.EVR_CNT_RECORDS).pend 11
            if o.row ≠ recorderSlot head then s
            else
              let next := (head + 1) % 2048
              let s := s.setF Reg.EVR_STATUS 10 0 next
              if next % 32 = 0 then { s with evr := { s.evr with erasing := some ((next / 32 + 1) % 64) } } else s
        s.recorderGo.showEfl)

/-- SECTOR_ERASE_DONE: the recorder's erase has ended: the sector ahead of HEAD, or the next one of a clear (R548, R552). -/
def execSectorEraseDone (s : State) : Result :=
  .next (match s.efl.op with
    | none => s
    | some o =>
      if !o.recorder || o.kind ≠ 1 then s
      else
        let k := (o.row - recorderSector 0) / 256
        let s := s.eraseRows true o.row (o.row + 256)
        let s := { s with efl := { s.efl with op := none } }
        let s :=
          if s.evr.clearing = some k then
            if k = 63 then ({ s with evr := { s.evr with clearing := none } } : State).setB Reg.EVR_STATUS 30 false
            else { s with evr := { s.evr with clearing := some (k + 1) } }
          else if s.evr.erasing = some k then { s with evr := { s.evr with erasing := none } }
          else s
        s.recorderGo.showEfl)

/-! ## The scan (R549) -/

/-- SEQ of a recorder slot that holds a valid record. -/
def State.slotSeq (s : State) (n : Nat) : Option Nat :=
  let b := s.bankBytes true (32 * recorderSlot n) 256
  if leNat (b.take 2) == 0x5245 && leNat (b.drop 252) == crcInv (b.take 252) then some (leNat (slice b 4 4)) else none

/-- Slots with a word that is programmed or a row that is undefined, rising. -/
def State.slotsUsed (s : State) : List Nat :=
  (upTo 2048).filter (fun n =>
    s.efl.wordsB.any (fun e => e.1 / 32 == recorderSlot n / 8) || s.efl.undefB.any (fun e => e.1 / 8 == recorderSlot n / 8))

/-- The scan of start-up: SEQ_NEXT and HEAD after the newest record, HEAD at the next sector when its own is not erased from there
on, the sector after HEAD's erased when it is not; SCANNED (R549). -/
def State.scanRecorder (s : State) : State :=
  let used := s.slotsUsed
  let newer (best : Option (Nat × Nat)) (n : Nat) : Option (Nat × Nat) :=
    match s.slotSeq n, best with
    | none, b => b
    | some q, none => some (n, q)
    | some q, some (m, p) => if 0 < (q + 2 ^ 32 - p) % 2 ^ 32 && (q + 2 ^ 32 - p) % 2 ^ 32 < 2 ^ 31 then some (n, q) else some (m, p)
  let newest := used.foldl newer none
  let seq := match newest with | some (_, q) => q + 1 | none => 0
  let head := match newest with | some (n, _) => (n + 1) % 2048 | none => 0
  let dirty := used.any (fun n => n / 32 == head / 32 && decide (head ≤ n))
  let head := if dirty then (head / 32 + 1) % 64 * 32 else head
  let ahead := (head / 32 + 1) % 64
  let s := (s.setReg Reg.EVR_SEQ_NEXT (BitVec.ofNat 32 seq)).setF Reg.EVR_STATUS 10 0 head
  let s := if used.any (fun n => n / 32 == ahead) then { s with evr := { s.evr with erasing := some ahead } } else s
  ((s.setB Reg.EVR_STATUS 31 true).showBuf).recorderGo

end Sys2Proof.Machine
end

