-- ==== Sys2Proof/Machine/Rings.lean ====
section
/-! DEFINITION. The control port's rings and DMA channels: doorbells, ring enables, halts and resumes (R576, R579, R585,
R586), a Function Level Reset and PERST_N (R574). -/

namespace Sys2Proof.Machine

open Sys2Proof

/-- The offset of an access that CTL_ERR flags. -/
def State.flagAddr (s : State) (off : Nat) : State := s.setReg Reg.CTL_ERR_ADDR (BitVec.ofNat 32 off)

/-- The commands from SQ_HEAD up to SQ_TAIL fetched, while the ring runs and CH0 does (R576, R586). -/
def State.fetchRing (s : State) (r : Nat) : State :=
  if r = 0 || !s.ringOn r || s.dmaHalted 0 then s
  else
    let n := s.sqSize r
    let tail := s.getF (ringSqTail r) 15 0
    let k := (tail + n - s.getF (ringSqHead r) 15 0 % n) % n
    let s := s.setRing r { s.ring r with fetched := (s.ring r).fetched + k }
    s.setF (ringSqHead r) 15 0 tail

/-- A write to CTL_RING_SQ_TAIL (R576): ignored while the ring is disabled, and at or above the ring size, which sets
DOORBELL. CR0 has no submission ring. -/
def State.doorbell (s : State) (r tail : Nat) : State :=
  if r = 0 || !s.ringOn r then s
  else if s.sqSize r ≤ tail then (s.flagAddr (ringSqTail r)).ctlErr 2
  else ((s.setF (ringSqTail r) 15 0 tail).fetchRing r).showRings

/-- A write to CTL_RING_CQ_HEAD (R576): space returns, so that a Lost entry or a waiting completion is written
(R578, R585). -/
def State.cqHeadTo (s : State) (r head : Nat) : State :=
  if !s.ringOn r then s
  else
    let s := s.setF (ringCqHead r) 15 0 head
    (if r = 0 then s.writeLost else s.finish r).showRings

/-- A write to CTL_RING_CFG (R575, R576): setting ENABLE zeroes the indices and starts the first pass, and a size written
while the ring was enabled is ignored and sets BASE. A unit whose start-up has stopped keeps its rings off (R30). -/
def State.ringCfgTo (s : State) (r : Nat) (v : Word) : State :=
  let v := if s.sec.stopped then setBit v 16 false else v
  let size : Nat := fld v 15 0
  let was := s.ringOn r
  let s := if was && size ≠ s.getF (ringCfg r) 15 0 then (s.flagAddr (ringCfg r)).ctlErr 1 else s
  let s := s.setF (ringCfg r) 17 16 (fld v 17 16)
  let s := if was then s else s.setF (ringCfg r) 15 0 size
  let s := if !was && bitOf v 16 then
      let s := s.setRing r { s.ring r with fetched := 0, phase := true, entries := [] }
      (((s.setF (ringSqTail r) 15 0 0).setF (ringSqHead r) 15 0 0).setF (ringCqTail r) 15 0 0).setF (ringCqHead r) 15 0 0
    else s
  s.showRings

/-- CTL_DMA_STATUS[k]. -/
def dmaReg (k : Nat) : Nat := Reg.CTL_DMA_STATUS + 4 * k

/-- A channel's halt cleared. -/
def State.clearHalt (s : State) (k : Nat) : State := s.setReg (dmaReg k) 0

/-- RESUME written (R586): CH0 to CH5 run again at once, MB0 and MB1 at the next frame boundary. -/
def State.resumeDma (s : State) (mask : Byte) : State :=
  let s := ((upTo 6).filter (fun k => bitOf mask k)).foldl State.clearHalt s
  let s := { s with ctl := { s.ctl with resume := s.ctl.resume ||| (mask &&& 0xC0#8) } }
  let s := (upTo 16).foldl State.fetchRing s
  s.writeLost.finishAll

/-- SQ_DOORBELL (R576). -/
def execSqDoorbell (ring : Fin 16) (tail : BitVec 16) (s : State) : Result := .next (s.doorbell ring tail.toNat)

/-- CQ_HEAD_WRITE (R576, R579, R585). -/
def execCqHeadWrite (ring : Fin 16) (head : BitVec 16) (s : State) : Result := .next (s.cqHeadTo ring head.toNat)

/-- RING_ENABLE: a write of CTL_RING_CFG (R576). -/
def execRingEnable (ring : Fin 16) (v : Word) (s : State) : Result := .next (s.ringCfgTo ring v)

/-- DMA_CHANNEL_HALT: an uncorrectable buffer word (cause 1), a host completion error (2) or poisoned completion data (3)
halts a channel, which keeps its status (R586, R444). -/
def execDmaChannelHalt (ch cause : Fin 8) (ring : Fin 16) (s : State) : Result :=
  .next (
    if cause.val = 0 || 3 < cause.val || s.dmaHalted ch then s
    else
      let s := s.setReg (dmaReg ch) (BitVec.ofNat 32 (2 ^ 31 + cause.val * 2 ^ 28 + ring.val * 2 ^ 24))
      let s := s.ctlErr 3
      let s := if cause.val = 1 then (s.bump Reg.INT_CNT_UE).report 0x1C (0xA0 + ch.val) else s
      s.showRings)

/-- DMA_RESUME (R586). -/
def execDmaResume (mask : Byte) (s : State) : Result := .next (s.resumeDma mask)

/-- A ring number no command was placed on: its completion is not posted. -/
def noRing : Nat := 16

/-- A processed change whose completion is not posted any more. -/
def Change.detached : Change → Change
  | .extentFree e _ tag => .extentFree e noRing tag
  | .revoke i _ tag => .revoke i noRing tag
  | c => c

/-- The PROGRAM_LOAD that a ring is processing finishes without its completion (R173, R574). -/
def State.finishLoad (s : State) (r : Nat) : State :=
  match (s.ring r).busy with
  | some p => if p.opcode = 0x10 && p.result = 0 then s.imageLoaded p.w0.toNat else s
  | none => s

/-- The control port reset (R574): the ring engines, CH0 to CH5 and the CTL registers; the status of the meter channels
stays with the meter-batch writer. A command being processed finishes, and posts no completion. -/
def State.resetPort (s : State) : State :=
  let s := (upTo 16).foldl State.finishLoad s
  let keep6 := s.reg (dmaReg 6)
  let keep7 := s.reg (dmaReg 7)
  let s := s.resetRange 0x320000 0x400000
  let s := (s.setReg (dmaReg 6) keep6).setReg (dmaReg 7) keep7
  let wins := Maps.mapV (fun _ (w : Window) => { w with revokers := w.revokers.map (fun x => (noRing, x.2)) }) s.win.windows
  { s with
    ctl := { s.ctl with rings := [], notifySeq := 0, lost := 0 }
    win := { s.win with
      windows := wins
      changes := s.win.changes.map (fun c => { c with change := c.change.detached })
      pinWait := s.win.pinWait.map (fun (x : Nat × PinRec) => (x.1, { x.2 with ring := noRing })) }
    twn := { s.twn with drill := s.twn.drill.map (fun d => { d with ring := noRing }) } }

/-- FUNCTION_LEVEL_RESET (R574); the link itself stays up. -/
def execFunctionLevelReset (s : State) : Result :=
  .next (s.resetPort.setF Reg.CTL_STATUS 31 23 (s.getF Reg.CTL_STATUS 31 23))

/-- PERST: PERST_N low resets the control port as a Function Level Reset does (R574). -/
def execPerst (s : State) : Result := .next s.resetPort

end Sys2Proof.Machine
end

