-- ==== Sys2Proof/Machine/TwoWire.lean ====
section
/-! DEFINITION. The two-wire controller ports and the target port (chapter 16). -/

namespace Sys2Proof.Machine

open Sys2Proof

/-! ## Controller ports -/

/-- A controller port replaced. -/
def State.setTwb (s : State) (n : Nat) (x : TwbPortRec) : State :=
  { s with twb := if n = 0 then { s.twb with port0 := x } else if n = 1 then { s.twb with port1 := x } else { s.twb with port2 := x } }

/-- A register of port n. -/
def twbReg (base n : Nat) : Nat := base + 0x100 * n

/-- Word `w` of a port's buffer has an offset of its own: no other register of the map lies there (log 75). -/
def twbListed (n w : Nat) : Bool :=
  match regAt (twbReg Reg.TWB_BUF n + 4 * w) with
  | some r => r.base == Reg.TWB_BUF
  | none => false

/-- Bytes of a port's buffer. -/
def State.twbByte (s : State) (n i : Nat) : Byte :=
  if twbListed n (i / 4) then BitVec.ofNat 8 (s.getF (twbReg Reg.TWB_BUF n + i / 4 * 4) (i % 4 * 8 + 7) (i % 4 * 8))
  else (s.twbPort n).high.byte i

/-- Bytes read on the bus, stored in a port's buffer from offset 0 (R518). -/
def State.twbStore (s : State) (n i : Nat) : List Byte → State
  | [] => s
  | b :: bs =>
    let s := if twbListed n (i / 4) then s.setF (twbReg Reg.TWB_BUF n + i / 4 * 4) (i % 4 * 8 + 7) (i % 4 * 8) b.toNat
      else s.setTwb n { s.twbPort n with high := (s.twbPort n).high.setByte i b }
    s.twbStore n (i + 1) bs

/-- Requesters whose GO, CLEAR and PORT_RESET count: the MCP alone. -/
def Requester.drivesBus : Requester → Bool
  | .mcp => true
  | _ => false

/-- A field of TWB_CNT that counts a result; none for the others. -/
def twbCounter (result : Nat) : Option Nat :=
  if result = 1 || result = 2 then some 24 else if result = 5 || result = 9 then some 8 else if result = 6 then some 0 else none

/-- RESULT set. -/
def State.twbResult (s : State) (n result : Nat) : State := s.setF (twbReg Reg.TWB_STATUS n) 29 26 result

/-- A transaction or a clear ends: RESULT, BYTES, DONE, the counter of its result. -/
def State.twbEnd (s : State) (n result bytes : Nat) : State :=
  let r := twbReg Reg.TWB_STATUS n
  let s := (((s.twbResult n result).setF r 8 0 bytes).setB r 30 true).setB r 31 false
  let s := match twbCounter result with
    | some k => s.bumpSat (twbReg Reg.TWB_CNT n) (k + 7) k
    | none => s
  (s.setTwb n { s.twbPort n with running := false, waiting := false, repeats := 0 }).pend 5

/-- INPUT_OK is qualified; from the cycle in which it is seen low the always-on domain's activity stops, the sequencer and the
recorder apart (R557). -/
def State.inputOk (s : State) : Bool := s.getB Reg.SEQ_STATUS 28

/-- TWB_GO: the transaction of TWB_CMD begins, or waits for the bus; refused while busy or stuck, or with a bad count (R518, R519,
R522, R524). -/
def execTwbGo (rq : Requester) (port : Fin 3) (s : State) : Result :=
  let n := port.val
  .next (
    let x := s.twbPort n
    let cmd := s.reg (twbReg Reg.TWB_CMD n)
    let w := fld cmd 23 16
    let r := fld cmd 15 8
    if !Requester.drivesBus rq || !s.inputOk then s
    else if x.running then s.twbResult n 11
    else if x.sclStuck then s.twbEnd n 9 0
    else if x.busStuck then s.twbEnd n 8 0
    else if (w = 0 && r = 0) || 256 < w + r then s.twbEnd n 7 0
    else
      let s := (s.setB (twbReg Reg.TWB_STATUS n) 31 true).setF (twbReg Reg.TWB_STATUS n) 25 24 0
      s.setTwb n { x with running := true, waiting := true, repeats := 0 })

/-- BUS_FREE: the bus is free; a waiting transaction, or the repeat after a lost arbitration, starts, and SCL is known not to be
stuck (R519, R522, R525). -/
def execBusFree (port : Fin 3) (s : State) : Result :=
  let n := port.val
  .next (
    let x := s.twbPort n
    s.setTwb n { x with waiting := x.waiting && !x.cleared, sclStuck := false })

/-- The address and data bytes of a transaction in the order of the bus: those its PEC covers (R518). -/
def State.twbWire (s : State) (n : Nat) (data : List Byte) : List Byte :=
  let cmd := s.reg (twbReg Reg.TWB_CMD n)
  let addr := 2 * fld cmd 31 25
  let w := fld cmd 23 16
  (if w = 0 then [] else BitVec.ofNat 8 addr :: (upTo w).map (s.twbByte n)) ++
  (if fld cmd 15 8 = 0 then [] else BitVec.ofNat 8 (addr + 1) :: data)

/-- The result of a reply: the count byte, and the PEC read after it, are checked (R518). -/
def State.replyResult (s : State) (n : Nat) (data : List Byte) (pec : Byte) : Nat :=
  let cmd := s.reg (twbReg Reg.TWB_CMD n)
  let r := fld cmd 15 8
  let c := (nthD data 0 0).toNat
  if bitOf cmd 1 && 0 < r && (c = 0 || r - 1 < c) then 7
  else if bitOf cmd 0 && 0 < r && pec != crc8 (s.twbWire n (data.take r)) then 6
  else 0

/-- TWB_TRANSACTION_DONE: the transaction ends on the bus; a lost arbitration is repeated up to RETRY times, a condition lost never
(R518, R521, R525, R526). -/
def execTwbTransactionDone (port : Fin 3) (bytes : Fin 258) (x : TwbEnd) (s : State) : Result :=
  let n := port.val
  .next (
    let p := s.twbPort n
    if !p.running || p.waiting then s
    else match x with
      | .reply data pec =>
        let cmd := s.reg (twbReg Reg.TWB_CMD n)
        let res := s.replyResult n data pec
        let kept := if res = 7 then data.take 1 else data.take (fld cmd 15 8)
        (s.twbStore n 0 kept).twbEnd n res bytes
      | .nackAddr => s.twbEnd n 1 bytes
      | .nackData => s.twbEnd n 2 bytes
      | .lostCond => (s.bumpSat (twbReg Reg.TWB_CNT n) 23 16).twbEnd n 4 bytes
      | .lost byte bit =>
        let r := twbReg Reg.TWB_STATUS n
        let s := ((s.setF r 23 16 byte.toNat).setF r 15 13 bit).bumpSat r 25 24
        let s := s.bumpSat (twbReg Reg.TWB_CNT n) 23 16
        if p.repeats < s.getF (twbReg Reg.TWB_CFG n) 11 10 then s.setTwb n { p with waiting := true, repeats := p.repeats + 1 }
        else s.twbEnd n 3 bytes)

/-- TWB_TIMEOUT: SCL low for 25 ms ends the transaction; low for 35 ms, every GO is refused until it has been high (R522). -/
def execTwbTimeout (port : Fin 3) (stuck : Bool) (bytes : Fin 258) (s : State) : Result :=
  let n := port.val
  .next (
    let s := if (s.twbPort n).running then s.twbEnd n 5 bytes else s
    if stuck then
      let s := (s.twbResult n 9).bumpSat (twbReg Reg.TWB_CNT n) 15 8
      s.setTwb n { s.twbPort n with sclStuck := true }
    else s)

/-- BUS_CLEAR: a clear, asked for by a write or due before the port's first transaction, has run (R524); a write while a
transaction runs, and one from the control port, is ignored. -/
def execBusClear (write : Option Requester) (port : Fin 3) (x : ClearEnd) (s : State) : Result :=
  let n := port.val
  .next (
    let p := s.twbPort n
    let own := write.isNone && !p.cleared
    let asked := match write with | some rq => Requester.drivesBus rq && (!p.running || p.waiting) | none => false
    if !own && !asked then s
    else
      let p := { p with cleared := true, sclStuck := x == .sclStuck, busStuck := x == .busStuck }
      let s := s.setTwb n p
      match x with
      | .clear => if p.running then s else s.twbEnd n 0 0
      | .sclStuck => s.twbEnd n 9 0
      | .busStuck => s.twbEnd n 8 0)

/-- PORT_RESET: the transaction is abandoned and the port reset; a clear follows (R524). -/
def execPortReset (rq : Requester) (port : Fin 3) (s : State) : Result :=
  let n := port.val
  .next (
    if !Requester.drivesBus rq then s
    else (s.setReg (twbReg Reg.TWB_STATUS n) 0).setTwb n { high := (s.twbPort n).high })

/-- SEQUENCER_PREEMPT: an off sequence needs the port, and firmware's transaction ends with PREEMPT (R520). -/
def execSequencerPreempt (port : Fin 3) (bytes : Fin 258) (s : State) : Result :=
  .next (if s.phase = 3 && (s.twbPort port).running then s.twbEnd port 10 bytes else s)

/-! ## The target port (R527–R530) -/

/-- TWT answers: the always-on domain is up, the input good (R557), and the chip is neither in P3 nor in P4 (R530). -/
def State.twtAwake (s : State) : Bool := s.inputOk && s.phase ≠ 5 && s.phase ≠ 4 && s.phase ≠ 0

/-- A field of a data-plane register as the last tick boundary copied it (R26, R528). -/
def State.copyF (s : State) (off hi lo : Nat) : Nat := fld (Maps.rd resetOf s.bar.copy off) hi lo

/-- The address byte of TWT, with write or read (R527). -/
def State.twtAddr (s : State) (read : Bool) : Byte := BitVec.ofNat 8 (2 * s.getF Reg.TWB_TWT_CFG 15 9 + if read then 1 else 0)

/-- A read served: its bytes as latched at the command code, and the PEC that follows them (R527, R528). -/
def State.twtRead (s : State) (code : Nat) (bytes : State → List Byte) : State :=
  if !s.twtAwake then s
  else
    let reply := bytes s
    let pec := crc8 ([s.twtAddr false, BitVec.ofNat 8 code, s.twtAddr true] ++ reply)
    { s.setF Reg.TWB_TWT_STATUS 31 24 code with twb := { s.twb with reply, replyPec := pec } }

/-- A block read's data after its count byte (R515). -/
def blockOf (data : List Byte) : List Byte := BitVec.ofNat 8 data.length :: data

/-- STATUS (R527). -/
def execStatus (s : State) : Result :=
  .next (s.twtRead 0x01 (fun s => leBytes (
    s.getF Reg.PWR_STATUS 31 29 + 8 * s.copyF Reg.TWN_STATUS 31 29 + 64 * s.getF Reg.INT_STATUS 31 30 +
    256 * s.getF Reg.SEC_BOOT_STATUS 31 31 + 512 * s.copyF Reg.DUR_RECOVERY 27 27 + 1024 * s.copyF Reg.TEN_STATUS 13 13 +
    2048 * (if s.copyF Reg.NTL_STATUS 31 29 = 3 then 1 else 0) + 4096 * s.copyF Reg.DRC_STATUS 8 8) 2))

/-- FIRST_FAULT (R527). -/
def execFirstFault (s : State) : Result := .next (s.twtRead 0x02 (fun s => blockOf (leBytes (s.reg Reg.INT_FIRST_FAULT).toNat 4)))

/-- SEQ_CAUSE (R527). -/
def execSeqCause (s : State) : Result := .next (s.twtRead 0x03 (fun s => leBytes (s.reg Reg.SEQ_CAUSE).toNat 2))

/-- DEVICE_ID (R527). -/
def execDeviceId (s : State) : Result := .next (s.twtRead 0x04 (fun _ => blockOf ((upTo 16).map Config.factory)))

/-- QUOTE_HASH: the first half of the running image's SHA-512 (R527). -/
def execQuoteHash (s : State) : Result := .next (s.twtRead 0x05 (fun s => blockOf ((Config.sha512 s.sec.image).take 32)))

/-- A write whose PEC does not match is discarded and counted; one whose PEC matches, or that has none, is served (R527). -/
def State.twtWrite (s : State) (code : Nat) (body : List Byte) (pec : Option Byte) (f : State → State) : State :=
  let wrong := match pec with | some p => p != crc8 ([s.twtAddr false, BitVec.ofNat 8 code] ++ body) | none => false
  if !s.twtAwake then s
  else if wrong then s.bumpSat Reg.TWB_TWT_STATUS 23 16
  else f (s.setF Reg.TWB_TWT_STATUS 31 24 code)

/-- The chip wakes from P3 by TWT (R512). -/
def State.twtWake (s : State) : State := if s.phase = 5 then s.wakeUp 2 else s

/-- POWER_REQ_WAKE: served when PWR_EN is 1; a chip that answers is already awake (R527, R530). -/
def execPowerReqWake (pec : Option Byte) (s : State) : Result :=
  .next (if s.getB Reg.TWB_TWT_CFG 8 then s.twtWrite 0x10 [1] pec State.twtWake else s)

/-- POWER_REQ_OFF: the off sequence, as SHUTDOWN, when PWR_EN is 1 (R527). -/
def execPowerReqOff (pec : Option Byte) (s : State) : Result :=
  .next (if s.getB Reg.TWB_TWT_CFG 8 then s.twtWrite 0x10 [2] pec (fun s => s.offSequence 5 false) else s)

/-- Bytes shown in eight registers, four to a register. -/
def State.setWords (s : State) (base : Nat) (bytes : List Byte) : State :=
  (upTo ((bytes.length + 3) / 4)).foldl (fun (s : State) (i : Nat) => s.setReg (base + 4 * i) (BitVec.ofNat 32 (leNat (slice bytes (4 * i) 4)))) s

/-- MBOX_REQ: a message of 1 to 32 bytes is kept for management firmware, and MCP source 6 pends; NACKed while an earlier one
waits (R529). -/
def execMboxReq (data : List Byte) (pec : Option Byte) (s : State) : Result :=
  .next (
    if s.getB Reg.TWB_TWT_MBOX_CTRL 14 || data.isEmpty || 32 < data.length then s
    else s.twtWrite 0x20 (blockOf data) pec (fun s =>
      let s := s.setWords Reg.TWB_TWT_MBOX_REQ data
      ((s.setF Reg.TWB_TWT_MBOX_CTRL 5 0 data.length).setB Reg.TWB_TWT_MBOX_CTRL 14 true).pend 6))

/-- MBOX_RESP: the reply, and RESP_VALID cleared; 0xFF while there is none (R529). -/
def execMboxResp (s : State) : Result :=
  .next (
    let ready := s.getB Reg.TWB_TWT_MBOX_CTRL 15
    let len := Nat.max 1 (s.getF Reg.TWB_TWT_MBOX_CTRL 21 16)
    let t := s.twtRead 0x21 (fun s =>
      if ready then
        blockOf ((upTo len).map (fun i => BitVec.ofNat 8 (s.getF (Reg.TWB_TWT_MBOX_RESP + i / 4 * 4) (i % 4 * 8 + 7) (i % 4 * 8))))
      else blockOf [0xFF])
    if ready && s.twtAwake then t.setB Reg.TWB_TWT_MBOX_CTRL 15 false else t)

/-- CAPABILITY (R527). -/
def execCapability (s : State) : Result := .next (s.twtRead 0x19 (fun _ => [0xC0]))

/-- A temperature in 1/16 °C as LINEAR11: the mantissa in 1/16 while it fits 11 bits, in 1/8 or coarser above (log 76). -/
def linear11 (v : Int) : Nat :=
  let fits (m : Int) : Bool := decide (-1024 ≤ m) && decide (m ≤ 1023)
  let enc (e m : Int) : Nat := (e % 32).toNat * 2048 + (m % 2048).toNat
  if fits v then enc (-4) v else if fits (v / 2) then enc (-3) (v / 2) else if fits (v / 4) then enc (-2) (v / 4)
  else if fits (v / 8) then enc (-1) (v / 8) else if fits (v / 16) then enc 0 (v / 16) else enc 1 (v / 32)

/-- READ_TEMPERATURE_1: the hottest thermal reading (R527, R543). -/
def execReadTemperature1 (s : State) : Result :=
  .next (s.twtRead 0x8D (fun s =>
    let raw := s.getF (Reg.SNS_TEMP + 4 * s.getF Reg.SNS_STATUS 19 16) 15 0
    leBytes (linear11 (BitVec.ofNat 16 raw).toInt) 2))

/-- PMBUS_REVISION, MFR_ID, MFR_MODEL, MFR_REVISION (R527): the ASCII codes of the names. -/
def execPmbusRevision (s : State) : Result := .next (s.twtRead 0x98 (fun _ => [0x44]))
def execMfrId (s : State) : Result := .next (s.twtRead 0x99 (fun _ => blockOf [0x54, 0x59, 0x45, 0x4E, 0x44]))
def execMfrModel (s : State) : Result := .next (s.twtRead 0x9A (fun _ => blockOf [0x42, 0x59, 0x2D, 0x37, 0x34, 0x32, 0x30]))
def execMfrRevision (s : State) : Result := .next (s.twtRead 0x9B (fun _ => blockOf [0x42, 0x30]))

/-- TWT_TIMEOUT: SCL low for 25 ms resets TWT and drops the transaction (R523). -/
def execTwtTimeout (s : State) : Result := .next (s.bumpSat Reg.TWB_TWT_STATUS 7 0)

/-- TWT_WAKE: TWT's address in P3 is NACKed and wakes the chip when WAKE_TWT is 1 (R530). -/
def execTwtWake (s : State) : Result :=
  .next (if s.phase = 5 && s.inputOk && s.getB Reg.PWR_WAKE 17 then (s.bumpSat Reg.TWB_TWT_STATUS 15 8).twtWake else s)

end Sys2Proof.Machine
end

