-- ==== Sys2Proof/Machine/Bus.lean ====
section
/-! DEFINITION. Accesses to BAR0 by the control port, the MCP and JTAG (R7–R15, R573, R591, R592), and the management
profile's register instructions (R208). A write to a register whose fields act does what the row of that action does. -/

namespace Sys2Proof.Machine

open Sys2Proof

/-- A state after a meaning. -/
def State.after (s : State) (f : State → Result) : State :=
  match f s with
  | .next t => t
  | _ => s

/-! ## Who reaches BAR0 -/

/-- The PCI Express link is up: the port has trained, and VDD_CORE and VDDA_ETH are on (R592). -/
def State.pcieUp (s : State) : Bool := s.getB Reg.CTL_STATUS 23 && s.getB Reg.SEQ_EN_STATE 1 && s.getB Reg.SEQ_EN_STATE 4

/-- The requester reaches BAR0: over the link, from the MCP, or by JTAG with the permission REGS (R7, R486, R592). -/
def State.reaches (s : State) (rq : Requester) : Bool :=
  match rq with
  | .control => s.pcieUp
  | .mcp => true
  | .jtag => decide (s.debug ≠ 0) && s.perm 1

/-- The number of a requester among the captures and the last reads. -/
def Requester.index : Requester → Nat
  | .control => 0
  | .mcp => 1
  | .jtag => 2

/-! ## Writes -/

/-- The register written by its access codes (R10): a field of a data-plane register that acts at once is in force now, the
others from the next frame boundary (R19). -/
def State.writeCodes (s : State) (off : Nat) (r : RegDesc) (v : Word) : State :=
  let new := r.written (s.reg off) v
  let now := BitVec.ofNat 32 r.now
  let eff := (Maps.rd resetOf s.bar.eff off &&& ~~~now) ||| (new &&& now)
  let s := s.setReg off new
  if isDataPlane off then { s with bar := { s.bar with eff := Maps.wr resetOf s.bar.eff off eff } } else s

/-- A write to a register of ring `r`, `e` bytes into its group: indices of a disabled ring, and bases of an enabled one, keep
their values (R576). -/
def State.writeRing (s : State) (r e off : Nat) (d : RegDesc) (v : Word) : State :=
  if e = 0 then s.ringCfgTo r (if r = 0 then setFld v 7 0 0 else v)
  else if e = 0x18 then s.doorbell r (fld v 15 0)
  else if e = 0x24 then s.cqHeadTo r (fld v 15 0)
  else if 8 ≤ e && e ≤ 0x14 && s.ringOn r then (s.flagAddr off).ctlErr 1
  else s.writeCodes off d v

/-- A write to SEC_MBOX_CTRL: whoever claims the free mailbox owns it; only its owner submits, while nothing is submitted, and
clears DONE, which frees the mailbox (R482). -/
def State.writeMboxCtrl (s : State) (rq : Requester) (v : Word) : State :=
  let k := Requester.mboxOwner rq
  let owner := s.getF Reg.SEC_MBOX_CTRL 31 30
  if k = 0 then s
  else if owner = 0 then if bitOf v 0 then s.after (execMboxClaim rq) else s
  else if owner ≠ k then s
  else if bitOf v 3 && s.getB Reg.SEC_MBOX_CTRL 3 then s.after (execMboxRelease rq)
  else if bitOf v 1 && !s.getB Reg.SEC_MBOX_CTRL 2 then (s.setB Reg.SEC_MBOX_CTRL 1 true).submit
  else s

/-- GO of EFL_CTRL with the OP just stored (R455); an OP above 4 is refused with BAD_OP. -/
def State.flashGo (s : State) (rq : Requester) : State :=
  let op := s.getF Reg.EFL_CTRL 30 28
  if op = 0 then s.after (execFlashProgram rq false)
  else if op = 1 then s.after (execFlashErase rq false)
  else if op = 2 then s.after (execFlashSuspend rq)
  else if op = 3 then s.after (execFlashResume rq)
  else if op = 4 then s.after (execOtpProgram rq false)
  else if !s.flashAllowed rq then s.eflFlag 9
  else s.eflFlag 10

/-- GO of PWR_CTRL with the TARGET just stored (R512). -/
def State.powerGo (s : State) (rq : Requester) : State :=
  let t := s.getF Reg.PWR_CTRL 2 0
  if t = 3 then s.after (execEnterStandby rq) else s.requestPower t

/-- A write to TWB_CTRL of port `n`: PORT_RESET, GO, and CLEAR, which leaves a clear to be run (R524). -/
def State.writeTwbCtrl (s : State) (rq : Requester) (n : Fin 3) (v : Word) : State :=
  let s := if bitOf v 2 then s.after (execPortReset rq n) else s
  let p := s.twbPort n.val
  let s := if bitOf v 1 && Requester.drivesBus rq && (!p.running || p.waiting) then s.setTwb n.val { p with cleared := false } else s
  if bitOf v 0 then s.after (execTwbGo rq n) else s

/-- What a write of `v` does beyond the access codes, where a field of the register acts. -/
def State.writeActs (s : State) (rq : Requester) (off : Nat) (v : Word) : State :=
  if off = Reg.PWR_CTRL then if bitOf v 31 then s.powerGo rq else s
  else if off = Reg.INT_INJECT then if bitOf v 31 then s.after execInject else s
  else if off = Reg.SEC_CTRL then if bitOf v 0 then (s.setReg Reg.SEC_CTRL 0).newNonce else s
  else if off = Reg.EFL_CTRL then if bitOf v 31 then s.flashGo rq else s
  else if off = Reg.SEQ_CTRL then if bitOf v 31 then s.offSequence 5 false else s
  else if off = Reg.CAL_CTRL then if bitOf v 31 then s.after (execCapture (BitVec.ofNat 8 v.toNat)) else s
  else if off = Reg.EVR_FW_TRIG then s.trigger (24 + fld v 10 8) (fld v 7 0) 0 0
  else if off = Reg.CTL_DMA_CTRL then s.resumeDma (BitVec.ofNat 8 v.toNat)
  else if off = Reg.TWB_CTRL then s.writeTwbCtrl rq 0 v
  else if off = Reg.TWB_CTRL + 0x100 then s.writeTwbCtrl rq 1 v
  else if off = Reg.TWB_CTRL + 0x200 then s.writeTwbCtrl rq 2 v
  else if Reg.STG_CHAN_CTRL ≤ off && off < Reg.STG_CHAN_CTRL + 0x20 * 64 && bitOf v 0 then
    let k := (off - Reg.STG_CHAN_CTRL) / 0x20
    let ch := s.chan (k / 8) (k % 8)
    if ch.halted then s.setChan (k / 8) (k % 8) { ch with resume := true } else s
  else s

/-- The value that a write stores: a SRC of 0b11 is ignored, and the field keeps its value (R591). -/
def State.asWritten (s : State) (off : Nat) (v : Word) : Word :=
  if off = Reg.TCK_CTRL && fld v 5 4 == 3 then setFld v 5 4 (s.getF Reg.TCK_CTRL 5 4) else v

/-- A 32-bit write that reaches BAR0: ignored at an unlisted offset (R12), and in the data plane while its registers read as
unlisted (R30); all fields are updated at once (R8). -/
def State.busWrite (s : State) (rq : Requester) (off : Nat) (v : Word) : State :=
  match regAt off with
  | none => s
  | some d =>
    if isDataPlane off && s.sec.dark then s
    else if 0x320100 ≤ off && off < 0x320500 then s.writeRing ((off - 0x320100) / 0x40) ((off - 0x320100) % 0x40) off d v
    else if off = Reg.SEC_MBOX_CTRL then s.writeMboxCtrl rq v
    else if off = Reg.EFL_RD_ADDR then s.flashRead rq v .ok
    else if Reg.SEC_MBOX ≤ off && off < Reg.SEC_MBOX + 256 then
      let k := Requester.mboxOwner rq
      if k ≠ 0 && s.getF Reg.SEC_MBOX_CTRL 31 30 == k then s.writeCodes off d v else s
    else (s.writeCodes off d (s.asWritten off v)).writeActs rq off v

/-- REGISTER_WRITE (R7–R12, R30, R591): a requester's 32-bit write, or the two of a 64-bit one, the lower offset first; nothing
reaches the chip without the link, or without the permission. -/
def execRegisterWrite (rq : Requester) (off : BitVec 26) (v : Word) (hi : Option Word) (s : State) : Result :=
  .next (
    if !s.reaches rq then s
    else
      let s := s.busWrite rq off.toNat v
      match hi with
      | some u => s.busWrite rq (off.toNat + 4) u
      | none => s)

/-- A write that is discarded: its bit of CTL_ERR, with its offset (R573). -/
def State.discard (s : State) (off : BitVec 26) (bit : Nat) : State :=
  if s.pcieUp then (s.flagAddr off.toNat).ctlErr bit else s

/-- SUBWORD_WRITE (R9, R573). -/
def execSubwordWrite (off : BitVec 26) (s : State) : Result := .next (s.discard off 0)

/-- POISONED_WRITE (R573). -/
def execPoisonedWrite (off : BitVec 26) (s : State) : Result := .next (s.discard off 4)

/-! ## Reads -/

/-- Lower registers of pairs, each the first of a family: base, count, stride (R15; every LO and HI of the field tables). -/
def pairLows : List (Nat × Nat × Nat) :=
  [(Reg.TCK_TICK_LO, 1, 4), (Reg.TCK_LOAD_LO, 1, 4), (Reg.TCK_URGENCY_LO, 1, 4), (Reg.PWR_TRIM_ENG_LO, 1, 4),
   (Reg.PRT_LP_MAC_LO, 32, 0x40), (Reg.TEN_BATCH_BASE_LO, 1, 4), (Reg.TEN_BATCH_SEQ_LO, 1, 4),
   (Reg.TEN_METER_VAL_LO, 6, 8), (Reg.CLE_FENCED_LO, 1, 4), (Reg.CLE_GATED_LO, 1, 4), (Reg.STG_CHAN_PNA_LO, 64, 0x20),
   (Reg.MED_LAST_ERR_LSA_LO, 1, 4), (Reg.MED_LINK_ID_LO, 16, 0x40), (Reg.DRC_FREEZE_ADDR_LO, 1, 4), (Reg.NTL_CAP_LO, 1, 4),
   (Reg.NTL_MAPPED_LO, 1, 4), (Reg.NTL_CH_DIE_FAIL_LO, 16, 0x10), (Reg.TWN_LAST_TICK_LO, 1, 4),
   (Reg.INT_FIRST_TICK_LO, 1, 4), (Reg.EFL_RD_DATA_LO, 1, 4), (Reg.CTL_RING_SQ_BASE_LO, 15, 0x40),
   (Reg.CTL_RING_CQ_BASE_LO, 16, 0x40)]

/-- The register at an offset is the lower one of a pair. -/
def isPairLow (off : Nat) : Bool :=
  pairLows.any (fun f => f.1 ≤ off && off < f.1 + f.2.1 * f.2.2 && (off - f.1) % f.2.2 == 0)

/-- The captures of a requester (R15). -/
def State.captures (s : State) : Requester → Table Word
  | .control => s.bar.capControl
  | .mcp => s.bar.capMcp
  | .jtag => s.bar.capJtag

/-- The captures of a requester replaced; those of the others stay (R15). DESIGN CHOICE, log 137: a requester has a capture for each
register pair, by its lower register. -/
def State.setCaptures (s : State) (rq : Requester) (m : Table Word) : State :=
  match rq with
  | .control => { s with bar := { s.bar with capControl := m } }
  | .mcp => { s with bar := { s.bar with capMcp := m } }
  | .jtag => { s with bar := { s.bar with capJtag := m } }

/-- The addressed bytes of a register's value; the other bytes are no part of the read (R9). -/
def AccessSize.pick (n : AccessSize) (off : Nat) (v : Word) : Word :=
  match n with
  | .one => BitVec.ofNat 32 (v.toNat / 2 ^ (8 * (off % 4)) % 2 ^ 8)
  | .two => BitVec.ofNat 32 (v.toNat / 2 ^ (8 * (off % 4)) % 2 ^ 16)
  | .four | .eight => v

/-- What reading a register does besides: a whole read of the recorder's window sets WIN_BUSY while EFB is busy, and else reads
flash (R9, R460, R551). -/
def State.readActs (s : State) (off : Nat) (n : AccessSize) : State :=
  if Reg.EVR_WIN ≤ off && off < Reg.EVR_WIN + 256 then
    if s.flashBusy true then if n == .four then s.setB Reg.EVR_STATUS 29 true else s
    else s.readFlash true (0x780000 + 256 * s.getF Reg.EVR_CURSOR 10 0 + (off - Reg.EVR_WIN))
  else s

/-- A read that reaches BAR0: its value, and the state after it. The lower register of a pair captures the upper one for the
requester; the next read of the upper register takes the capture, and without one the live value (R15). -/
def State.busRead (s : State) (rq : Requester) (off : Nat) (n : AccessSize) : Word × State :=
  let r := off / 4 * 4
  let t := s.readActs r n
  if isPairLow r then
    (AccessSize.pick n off (s.shown r), t.setCaptures rq (Maps.put (r + 4) (s.shown (r + 4)) (s.captures rq)))
  else match Maps.find r (s.captures rq) with
    | some v => (AccessSize.pick n off v, t.setCaptures rq (Maps.del r (s.captures rq)))
    | none => (AccessSize.pick n off (s.shown r), t)

/-- The value a requester was given last, kept in `lastRead`. -/
def State.given (s : State) (rq : Requester) (v : DWord) : State :=
  { s with bar := { s.bar with lastRead := Maps.put (Requester.index rq) v s.bar.lastRead } }

/-- REGISTER_PAIR_LOWER_READ: a requester's read; one of 8 bytes is two of 4, the lower offset first, so that the capture of a
pair's lower register is what its upper half returns (R9, R12, R15). -/
def execRegisterPairLowerRead (rq : Requester) (off : BitVec 26) (size : AccessSize) (s : State) : Result :=
  .next (
    if s.reaches rq then
      match size with
      | .eight =>
        let (v, t) := s.busRead rq off.toNat .four
        let (u, t) := t.busRead rq (off.toNat + 4) .four
        t.given rq (u ++ v)
      | _ =>
        let (v, t) := s.busRead rq off.toNat size
        t.given rq (BitVec.setWidth 64 v)
    else s)

/-! ## REGR and REGW (R208) -/

/-- The BAR0 offset a register instruction names; none where it is not a multiple of 4, or lies beyond 64 MiB. -/
def barAddr (c : Ctx) (w : DWord) : Option Nat :=
  let a := moveAddr c w
  if a % 4 = 0 && a < 2 ^ 26 then some a else none

/-- REGR: g[d] = BAR0 register at g[a] + imm, zero-extended (R208). -/
def execRegr (ag : Agent) (w : DWord) (s : State) : Result :=
  .next (s.instruct ag w (mRow 0x70 2 4 noB) (fun s =>
    let c := s.ctxOf ag
    match barAddr c w with
    | none => s.mcpTrap s.mcp.pc 0x0D (moveAddr c w)
    | some off =>
      let (v, s) := s.busRead .mcp off .four
      (s.setCtx ag (c.setG (wD w) (BitVec.ofNat 64 v.toNat))).advance ag))

/-- REGW: BAR0 register at g[a] + imm = g[b][31:0] (R208). -/
def execRegw (ag : Agent) (w : DWord) (s : State) : Result :=
  .next (s.instruct ag w (mRow 0x70 3 2 noD) (fun s =>
    let c := s.ctxOf ag
    match barAddr c w with
    | none => s.mcpTrap s.mcp.pc 0x0D (moveAddr c w)
    | some off => (s.busWrite .mcp off (BitVec.ofNat 32 (c.greg (wB w)).toNat)).advance ag))

end Sys2Proof.Machine
end

