-- ==== Sys2Proof/Machine/Engines.lean ====
section
/-! DEFINITION. What happens to clause engines: overruns (R163, R440), instruction caches (R175), fences and restarts
(R177–R180). -/

namespace Sys2Proof.Machine

open Sys2Proof

/-- Engines fenced now, whether or not the data plane has acted on it. -/
def State.fencedEngines (s : State) : BitVec 64 := s.cle.fenced ||| s.cle.fencing

/-- A segment has not retired at the boundary after its dispatch (R163). -/
def State.overran (s : State) (strand : Nat) : Bool :=
  match Maps.find strand s.cle.strands with
  | some (_, b) => decide (b < s.tck.boundaries)
  | none => false

/-- TRAP_OVERRUN raised on a strand: the engine's overruns of the frame are counted, and reaching the limit is an engine watchdog
fault (R163, R440). -/
def State.overrun (s : State) (strand : Fin 512) : State :=
  if !s.overran strand.val then s
  else match s.running strand with
    | none => s
    | some (id, r) =>
      let e := strand.val / 8
      let n := Maps.getD s.cle.overruns e 0 + 1
      let s := s.bump Reg.CLE_CNT_OVERRUN
      let s := { s with cle := { s.cle with overruns := Maps.put e n s.cle.overruns } }
      let s := (s.trap strand id r .overrun).report 0x0B strand.val
      if Nat.max 1 (s.getF Reg.INT_ESC_CFG 7 0) ≤ n then s.report 0x0C e else s

/-- TRAP_OVERRUN: a segment unretired at the boundary after its dispatch ends its request (R163). -/
def execTrapOverrun (strand : Fin 512) (s : State) : Result := .next (s.overrun strand)

/-- Every segment that has not retired at this boundary overruns (R163). -/
def State.overrunAll (s : State) : State :=
  s.cle.strands.foldl (fun (s : State) (e : Nat × (Nat × Nat)) => s.overrun (Fin.ofNat 512 e.1)) s

/-- ICACHE_INVALIDATION_DONE: every instruction cache is empty, and dispatch may begin (R175). -/
def execIcacheInvalidationDone (s : State) : Result :=
  .next ({ s with cle := { s.cle with icache := [] } }.setB Reg.CLE_STATUS 17 true)

/-- The requests whose segments run on an engine's strands. -/
def State.onEngine (s : State) (e : Nat) : List Nat :=
  (s.cle.strands.filter (fun x => x.1 / 8 == e)).map (fun x => x.2.1)

/-- An engine fenced: its unretired segments are discarded (R177), and with more than 8 engines fenced the unit yields
(R180). DESIGN CHOICE, log 141: each fence beyond the eighth is a report of fault 0x0D of its own; one that falls while the unit is Yielded
in a drill has no action, and the unit yields with the next one after its return. -/
def State.fence (s : State) (engine : Nat) : State :=
  if bitOf s.fencedEngines engine then s
  else
    let s := { s with cle := { s.cle with fencing := setBit s.cle.fencing engine true } }
    let s := (s.onEngine engine).foldl State.toRestart s
    let n := popCount s.fencedEngines.toNat 64
    if 8 < n then s.report 0x0D n else s

/-- ENGINE_FENCE: a due fence is raised (R177, R180). -/
def execEngineFence (engine : Fin 64) (s : State) : Result :=
  .next (
    if !bitOf s.cle.fenceDue engine then s
    else ({ s with cle := { s.cle with fenceDue := setBit s.cle.fenceDue engine false } } : State).fence engine)

/-- The next cluster from `c` on, with wrap, that has an unfenced engine (R178). -/
def State.liveCluster (s : State) (c : Nat) : Nat :=
  (((upTo 8).map (fun k => (c + k) % 8)).find? (fun c =>
    (upTo 8).any (fun k => !bitOf s.fencedEngines (8 * c + k)))).getD c

/-- The lowest free frame of a cluster; frame 0 beside its holder when the cluster has none for a frame moved to it (R146, log 110). -/
def State.freeFrame (s : State) (c : Nat) : Nat :=
  ((upTo 1024).find? (fun f => !s.cle.reqs.any (fun e => e.2.cluster == some c && e.2.frame == f))).getD 0

/-- REQUEST_RESTART: a request whose segment was discarded joins the restart queue, in the next cluster with an unfenced
engine when its own has none (R178). -/
def execRequestRestart (req : Nat) (s : State) : Result :=
  .next (match Maps.find req s.cle.reqs with
    | none => s
    | some r => match r.st, r.cluster with
      | .discarded, some c =>
        let d := s.liveCluster c
        let r := if d = c then r else { r with cluster := some d, frame := s.freeFrame d }
        let (o, s) := s.nextOrder
        (s.setReq req { r with st := .restart o }).bump Reg.CLE_CNT_RESTART
      | _, _ => s)

end Sys2Proof.Machine
end

