-- ==== Sys2Proof/Machine/Roles.lean ====
section
/-! DEFINITION. The roles of a pair (R402–R424): how a role is decided, yield, takeover, SOLO after a link fault,
resynchronization and return, drills, the format of the SCM. -/

namespace Sys2Proof.Machine

open Sys2Proof

/-! ## What a resynchronization copies (R416) -/

/-- The lines of a page that have been written. -/
def State.writtenLines (s : State) (page : Nat) : List Nat :=
  ((upTo 256).map (fun k => page * 256 + k)).filter (fun l => Maps.has s.med.epochs l || (s.newest l).isSome)

/-- EPOCH of a line's newest Accepted value. -/
def State.epochOf (s : State) (line : Nat) : Nat :=
  match s.newest line with
  | some e => e.epoch
  | none => Maps.rd (fun _ => 0) s.med.epochs line

/-- Pages of an extent that have a location. -/
def State.pagesIn (s : State) (e : Nat) : List Nat := (s.win.pages.filter (fun p => p.1 / 128 == e)).map Prod.fst

/-- A full copy: every written line of every Allocated extent, of one side or of both. -/
def State.fullCopy (s : State) (side : Option Bool) : List Nat :=
  (s.win.extents.filter (fun e => match side with | some b => e.2.sideB == b | none => true)).flatMap (fun e =>
    (s.pagesIn e.1).flatMap s.writtenLines)

/-- The written lines of marked extents. -/
def State.markedCopy (s : State) (marked : List Nat) : List Nat :=
  marked.flatMap (fun e => (s.pagesIn e).flatMap s.writtenLines)

/-- An incremental copy: the lines of dirty pages whose EPOCH is at or above that of the takeover, and the marked extents. -/
def State.dirtyCopy (s : State) (marked : List Nat) : List Nat :=
  dedup ((s.twn.dirty.flatMap (fun p => (s.writtenLines p.1).filter (fun l => decide (s.twn.soloEpoch ≤ s.epochOf l)))) ++
    s.markedCopy marked)

/-- Lines copied to the twin, each with its EPOCH, on the bundle of its page (R399, R416); the copy's end follows on both. -/
def State.sendCopy (s : State) (lines : List Nat) : State :=
  let s := lines.foldl (fun (s : State) (l : Nat) =>
    let t := (s.pageTenant (pageOfLine l)).getD 0
    s.sendFrame (s.pickBundle (l / 256 % 2 == 1)) (.copyLine l t (s.lineAtRest l) (s.epochOf l))) s
  s.tell .copyEnd

/-- This unit's tables sent to a Returning twin (R415). -/
def State.sendTables (s : State) : State :=
  let live := s.win.tenants.filter (fun e => !e.2.destroyed)
  let s := live.foldl (fun (s : State) (e : Nat × Tenant) => s.tell (.tenant e.1 e.2)) s
  let s := s.win.extents.foldl (fun (s : State) (e : Nat × Extent) => s.tell (.extent e.1 e.2)) s
  let s := s.win.windows.foldl (fun (s : State) (e : Nat × Window) => s.tell (.window e.1 e.2)) s
  s.tell .metaEnd

/-- TWN_RESYNC_STATUS: KIND and PHASE. -/
def State.showResync (s : State) (full : Bool) (phase : Nat) : State :=
  (s.setF Reg.TWN_RESYNC_STATUS 31 30 (if full then 2 else 1)).setF Reg.TWN_RESYNC_STATUS 29 28 phase

/-! ## Returning (R415, R417) -/

/-- The unit is Returning: it serves no side, and tells its twin what it needs (R415–R417). -/
def State.enterReturning (s : State) (marked : List Nat) : State :=
  let s := ((s.setServes 0).setPairState 6).setB Reg.TWN_RESYNC_STATUS 27 false
  let s := { s with twn := { s.twn with
    yieldedAt := none, stopped := false, yieldDue := false, drill := none, metaIn := false, copyIn := false, copyDone := false
    reclaim := none, metaTenants := [], metaExtents := [], metaWindows := [], noMirrorReads := true } }
  let s := { s with dur := { s.dur with solo := false } }
  ((s.writeRole 6).2).tell (.ask s.twn.needFull marked)

/-! ## The role at start-up (R421) -/

/-- The unit enters Run with a role. -/
def State.runAs (s : State) (st serves : Nat) : State :=
  let s := (s.setPairState st).setServes serves
  { s with sec := { s.sec with startup := 5 } }

/-- Paired at start-up: the epoch goes above both, marked extents of its home and, after SOLO mode, the served side are copied, and mirror reads
wait for the twin's copy (R383, R385, R421); a twin that shows LinkHold has kept running and copies nothing (log 135). -/
def State.startPaired (s : State) (mySolo : Bool) : State :=
  let s := { s with dur := { s.dur with solo := false } }
  let s := (s.runAs 1 (sideBit s.sideB)).jointEpoch
  let s := (s.writeRole 1).2
  let mine := s.twn.marked.filter (fun e => match s.extent e with | some x => x.sideB == s.sideB | none => false)
  let lines := if mySolo then dedup (s.fullCopy (some s.sideB) ++ s.markedCopy mine) else s.markedCopy mine
  let twinStarts := (match s.twn.hb with | some h => h.state.val | none => 0) ≠ 2
  let s := if twinStarts then { s with twn := { s.twn with
      resync := some { full := false, pages := (dedup (lines.map pageOfLine)).length, starting := true }, noMirrorReads := true } } else s
  if lines.isEmpty && !twinStarts then s else s.sendCopy lines

/-- A Survivor starts again: its bitmap is empty, so its twin returns in full (R417, R421). -/
def State.startSurvivor (s : State) : State :=
  let s := { s with
    dur := { s.dur with solo := true }
    twn := { s.twn with needFull := true, soloAt := some s.now } }
  (s.runAs 4 3).writeRole 4 |>.2

/-- Step 5 of R29 waits for the role alone: what was staged has been published, and no load of the counter is armed (log 109). -/
def State.roleDue (s : State) : Bool :=
  s.sec.startup == 4 && !s.sec.stopped && s.pairState == 0 && s.sec.published && !s.getB Reg.TCK_CTRL 0

/-- A unit whose record is Alone serves both sides by itself (R421). -/
def State.startAlone (s : State) : State :=
  match s.twn.role with
  | some r =>
    if s.roleDue && r.state = 7 && s.effB Reg.TWN_CTRL 1 && s.effB Reg.TWN_CTRL 0 then
      ((s.runAs 7 3).soloEnter s.now).writeRole 7 |>.2
    else s
  | none => s

/-- The role decided from this unit's record and the twin's heartbeat, while start-up step 5 waits (R421); the record's EPOCH is the one
before this start-up (log 135). -/
def State.decideRole (s : State) : State :=
  if !s.roleDue then s
  else match s.twn.hb with
    | none => s
    | some hb =>
      let t := hb.state.val
      let paired := t == 1 || t == 2 || t == 3
      match s.twn.role with
      | none =>
        if t = 0 then s
        else
          let r : RoleRec := { state := 6, serves := 0, solo := false, epoch := s.dur.epoch, pairId := hb.pairId }
          let s := { s with twn := { s.twn with role := some r, needFull := true } }
          (s.runAs 6 0).enterReturning []
      | some r =>
        if t ≠ 0 && hb.pairId ≠ r.pairId then s.pairLost false
        else if r.state = 1 then
          if paired then s.startPaired r.solo
          else if t = 4 && s.twn.recordEpoch < hb.epoch then (s.runAs 6 0).enterReturning s.twn.marked
          else s
        else if r.state = 4 then
          if t = 5 || t = 6 || t = 0 then s.startSurvivor
          else if t = 4 then s.pairLost false
          else s
        else if (r.state = 5 || r.state = 6) && t = 4 then (s.runAs 6 0).enterReturning s.twn.marked
        else s

/-- HEARTBEAT: the twin's state, epoch, counter, credit and summary are taken, the bundle is heard, and a role that waits is to
be decided (R385, R393–R395, R421). -/
def execHeartbeat (one : Bool) (crcOk : Bool) (hb : TwinHb) (s : State) : Result :=
  .next (
    let b := s.bundle one
    if !crcOk then s.setBundle one { b with naks := b.naks + 1 }
    else
      let since := if b.heard + 2 < s.now then some s.now else some (b.validSince.getD s.now)
      let s := s.setBundle one { b with heard := s.now, validSince := since }
      let s := s.gotHb hb
      if s.sec.startup = 4 then s.raisePair .decide else s)

/-- The sides in SERVES served without a twin, in SOLO mode; a Yielded or Returning unit never serves so (R421). -/
def State.serveAlone (s : State) : State :=
  if !s.roleDue || s.twn.hb.isSome || !s.effB Reg.TWN_CTRL 1 then s
  else match s.twn.role with
    | none => s
    | some r =>
      if r.state = 5 || r.state = 6 then s
      else if r.state = 7 then s.startAlone
      else
        let st := if r.state = 4 then 4 else 3
        let s := s.runAs st r.serves
        let s := { s with twn := { s.twn with needFull := s.twn.needFull || decide (st = 4) } }
        ((s.soloEnter s.now).writeRole (if st = 4 then 4 else 1)).2

/-- PAIR_WAIT_EXPIRY: no heartbeat for PAIR_WAIT seconds; with START_ALONE the unit is to serve by itself (R421). -/
def execPairWaitExpiry (s : State) : Result :=
  .next (
    let limit := Nat.max 1 (s.effF Reg.TWN_LINK_CFG 23 16) * 3000000
    if s.sec.startup ≠ 4 || s.sec.stopped || s.twn.hb.isSome || s.now + 1 < s.twn.waitFrom + limit || !s.effB Reg.TWN_CTRL 1 then s
    else s.raisePair .alone)

/-! ## Yield (R403, R404) -/

/-- A request that waits: for an event, or for the rest of a long response (R196, R282, R403). -/
def Request.waits (r : Request) : Bool :=
  match r.st with
  | .waiting _ _ => true
  | _ => r.rest.isSome

/-- A waiting request ends with a code: its clause, and the rest of its long response (R196, R403). -/
def State.endWait (s : State) (id code : Nat) : State :=
  let s := match Maps.find id s.cle.reqs with
    | some r => (match r.st with | .waiting _ _ => s.endReq id code | _ => s)
    | none => s
  match Maps.find id s.cle.reqs with
  | some r => (match r.rest with | some x => s.stopRest id r x code | none => s)
  | none => s

/-- PFC with 0xFFFF quanta for the three lossless classes on every logical port that is up (R403). -/
def State.yieldPfc (s : State) : State :=
  ((upTo 32).filter s.lpUp).foldl (fun (s : State) (lp : Nat) =>
    (dedup [s.classPrio lp .ristretto, s.classPrio lp .lungo, s.classPrio lp .drip]).foldl (fun (s : State) (q : Nat) =>
      s.sendPfc lp q 0xFFFF) s) s

/-- The unit yields (R403): admission stops, waiting requests end, GIVEUP goes out on each bundle that is up, the sideband shows
the yield pattern, PFC holds the hosts, the record says Yielded. -/
def State.yieldUnit (s : State) (drill hold : Bool) : State :=
  let give : TwinFrame := .giveup s.sideB s.dur.epoch drill hold
  let s := if s.twn.bundle0.up then s.sendFrame false give else s
  let s := if s.twn.bundle1.up then s.sendFrame true give else s
  let s := { s with twn := { s.twn with
    yieldedAt := some s.now, yieldDue := false, stopped := true, giveupAt := some s.now } }
  let s := ((s.cle.reqs.filter (fun e => e.2.waits)).map Prod.fst).foldl (fun (s : State) (id : Nat) =>
    (s.bump Reg.CLE_CNT_ABORT).endWait id Code.yielded) s
  let s := s.setPairState 5
  let s := s.yieldPfc.pairEvent (if drill then 9 else 1) (sideNum s.sideB) s.now 0
  (s.writeRole 5).2

/-- YIELD_UNIT: a Yield-level signal has been acted on, and the unit is to yield at the next tick boundary (R28, R403, R427). -/
def execYieldUnit (s : State) : Result :=
  .next (if s.twn.yieldDue && s.twn.yieldedAt.isNone && s.inRun then s.raisePair (.yield false false) else s)

/-- The unit yields, unless it has; a drill's command completes with its GIVEUP (R403, R423). -/
def State.yieldNow (s : State) (drill hold : Bool) : State :=
  if s.twn.yieldedAt.isSome then s
  else
    let t := s.yieldUnit drill hold
    match drill, s.twn.drill with
    | true, some d => t.eventDone d.ring d.tag id
    | _, _ => t

/-! ## Takeover (R405–R407) -/

/-- TAKEOVER_START: a cause of takeover goes to the fault-signalling point (R28, R405). -/
def execTakeoverStart (s : State) : Result :=
  .next (match s.twn.takeoverDue with
    | none => s
    | some _ => ({ s with twn := { s.twn with takeoverDue := none } } : State).raisePair .takeover)

/-- Takeover start T: a Paired unit or one in LinkHold enters SOLO mode on a new epoch and writes its record (R406). Mirror lines
stay Accepted here, and valid intent slots of the twin are written home by their own rows. -/
def State.takeOver (s : State) : State :=
  if (s.pairState ≠ 1 && s.pairState ≠ 2) || s.getB Reg.TWN_STATUS 20 then s
  else
    let t := s.now
    let s := (s.soloEnter t).setPairState 4
    let old : RoleRec := s.twn.role.getD { state := 0, serves := 0, solo := false, epoch := 0, pairId := 0 }
    let r : RoleRec := { old with state := 4, serves := 3, solo := true, epoch := s.dur.epoch }
    let (g, s) := s.journal [(Tbl.role, 0)]
    ({ s with twn := { s.twn with role := some r, takeover := some (t, g), takeoverAt := t } } : State).bump Reg.TWN_CNT_TAKEOVER

/-- Repeat windows opened on every QP of a bond that has entries of the yielded side (R370). -/
def State.openRepeats (s : State) : State :=
  let qps := Maps.mapV (fun _ (c : Qp) => if c.bond ≠ 0 && !c.notice then { c with repeatLeft := s.repeatSeqs c.bond } else c) s.trn.qps
  { s with trn := { s.trn with qps } }

/-- TAKEOVER_PUBLISH: the record is Placed, and the twin's side is to be served here from the next tick boundary (R406). -/
def execTakeoverPublish (s : State) : Result :=
  .next (match s.twn.takeover with
    | none => s
    | some (_, g) => if s.dur.journalOpen.contains g then s else s.raisePair .serve)

/-- The twin's side is served here, repeat windows open and TAKEOVER notices go out (R109, R370, R406). -/
def State.serveBoth (s : State) : State :=
  match s.twn.takeover with
  | none => s
  | some (t, _) =>
    let s := { s with twn := { s.twn with takeover := none } }
    let s := (s.setServes 3).openRepeats
    let s := s.sendNotices 1 Code.yielded (sideNum (!s.sideB)) t
    let d := Nat.min (s.now - t) 65535
    s.setReg Reg.TWN_TAKEOVER_TIME (BitVec.ofNat 32 (d * 65536 + d))

/-! ## SOLO after a link fault (R412) -/

/-- TWN_SOLO_DELAY; values below 700 act as 700. -/
def State.soloDelay (s : State) : Nat := Nat.max 700 (s.effF Reg.TWN_SOLO_DELAY 15 0)

/-- SOLO_DELAY_EXPIRY: the link is still silent, and SOLO_PERMIT lets the unit go on alone from the next tick boundary (R412). -/
def execSoloDelayExpiry (s : State) : Result :=
  .next (match s.twn.silentAt with
    | none => s
    | some t =>
      if s.pairState ≠ 2 || !s.effB Reg.TWN_CTRL 0 || s.now + 1 < t + s.soloDelay then s
      else s.raisePair .solo)

/-- LinkSolo entered, unless the link is back (R412). -/
def State.goSolo (s : State) : State :=
  if s.pairState ≠ 2 || s.twn.silentAt.isNone then s
  else
    let s := (s.setPairState 3).soloEnter s.now
    let s := s.sendNotices 4 Code.solo (sideNum s.sideB) s.now
    (s.writeRole 1).2

/-! ## Resynchronization (R413, R415, R416) -/

/-- The twin's state as its last heartbeat showed it. -/
def State.twinState (s : State) : Nat := match s.twn.hb with | some h => h.state.val | none => 0

/-- A resynchronization may begin: both units see each other (R415), or the link is back from LinkSolo (R413). -/
def State.resyncDue (s : State) : Bool :=
  s.linkUp && s.twn.resync.isNone &&
  (match s.pairState with
   | 4 => s.twn.asked.isSome && s.twinState == 6
   | 6 => s.twinState == 4 && s.getF Reg.TWN_RESYNC_STATUS 29 28 == 0
   | 3 => s.twinState == 3 || s.twinState == 1
   | _ => false)

/-- RESYNC_START: at a frame boundary at which a resynchronization may begin; the copy is RESYNC Grounds work (R413, R415, R416). -/
def execResyncStart (s : State) : Result :=
  .next (
    if !s.frameDue || !s.resyncDue then s
    else if s.pairState ≠ 6 && !s.groundsOk 12 then s.holdGrounds 12 .resyncStart
    else s.raisePair .resync)

/-- The survivor leaves SOLO mode and copies its tables and lines (R415, R416). -/
def State.resyncSurvivor (s : State) (ask : Bool) (marked : List Nat) : State :=
  let full := ask || s.twn.needFull
  let s := (s.soloExit s.now).jointEpoch
  let s := (s.writeRole 4).2
  let lines := if full then s.fullCopy none else s.dirtyCopy marked
  let pages := (dedup (lines.map pageOfLine)).length
  let s := { s with twn := { s.twn with resync := some { full, pages }, asked := none, copyDone := false } }
  (s.sendTables.sendCopy lines).showResync full 2

/-- A unit back from LinkSolo leaves SOLO mode and copies its own side (R413, R416). -/
def State.resyncSolo (s : State) : State :=
  let lines := s.dirtyCopy []
  let s := ((s.soloExit s.now).jointEpoch).setPairState 1
  let s := (s.writeRole 1).2
  let s := { s with twn := { s.twn with
    resync := some { full := false, pages := (dedup (lines.map pageOfLine)).length }
    copyIn := false, copyDone := false, noMirrorReads := true } }
  (s.sendCopy lines).showResync false 2

/-- Resynchronization begins (R413, R415). -/
def State.resyncNow (s : State) : State :=
  if !s.resyncDue then s
  else match s.pairState, s.twn.asked with
    | 4, some (ask, marked) => (s.startWork 12).resyncSurvivor ask marked
    | 6, _ => (s.jointEpoch.writeRole 6).2.showResync s.twn.needFull 1
    | 3, _ => (s.startWork 12).resyncSolo
    | _, _ => s

/-- A tenant's record of the survivor's tables, with this unit's own key-lost mark and meters of the period (R132, R133). -/
def Tenant.adopted (old : Option Tenant) (t : Tenant) : Tenant :=
  match old with
  | some x => { t with keyLost := x.keyLost, meters := x.meters, createdInPeriod := x.createdInPeriod }
  | none => t

/-- The survivor's tenants, beside this unit's own that are gone from them, whose records wait for their batch (R136). -/
def State.adoptTenants (s : State) (new : Table Tenant) : Table Tenant :=
  let gone := s.win.tenants.filter (fun e => !Maps.has new e.1)
  gone.foldl (fun (t : Table Tenant) (e : Nat × Tenant) => Maps.put e.1 { e.2 with destroyed := true, keyLost := false } t)
    (Maps.mapV (fun k t => t.adopted (Maps.find k s.win.tenants)) new)

/-- An encrypted tenant's key unwrapped into its slot, unless the slot holds it or the key is lost (R130, R480). -/
def State.adoptKey (s : State) (e : Nat × Tenant) : State :=
  if !e.2.encrypt || e.2.destroyed || e.2.keyLost || Maps.has s.win.keySlots e.1 then s
  else match s.unwrapKey e.1 e.2.key with
    | some k => s.setKeySlot e.1 k
    | none => s.loseKey e.1

/-- The survivor's tables have come and are not taken yet (R415). -/
def State.metaDue (s : State) : Bool := s.pairState == 6 && s.twn.metaIn && !s.getB Reg.TWN_RESYNC_STATUS 27

/-- The survivor's tables replace this unit's own at a tick boundary (R19, R21, R415); commands are taken again. -/
def State.takeMetadata (s : State) : State :=
  if !s.metaDue then s
  else
    let live := s.twn.metaTenants
    let same (e : Nat × List Byte) : Bool :=
      match Maps.find e.1 live, Maps.find e.1 s.win.tenants with
      | some t, some x => t.encrypt && t.key == x.key
      | _, _ => false
    let s := { s with win := { s.win with
      tenants := s.adoptTenants live, extents := s.twn.metaExtents, windows := s.twn.metaWindows
      keySlots := s.win.keySlots.filter same } }
    let s := (s.win.tenants.foldl State.adoptKey s).fillPins
    let s := (s.journal [(Tbl.window, 0), (Tbl.tenant, 0), (Tbl.extent, 0)]).2
    (s.setB Reg.TWN_RESYNC_STATUS 27 true).setF Reg.TWN_RESYNC_STATUS 29 28 2

/-- METADATA_DONE: the survivor's tables have come, and the change to them is signalled (R28, R415). -/
def execMetadataDone (s : State) : Result := .next (if s.metaDue then s.raisePair .metadata else s)

/-- Lines of a copy are still on their way to this unit's stacks. -/
def State.copyPending (s : State) : Bool :=
  !s.twn.arrived.isEmpty || s.dur.pb.any (fun e => e.mirror && e.frame == 0 && !e.placed)

/-- RESYNC_COPY_DONE: every copied line is Placed here; a Returning unit records its stacks and releases pages of extents not
Allocated any more (R262, R416). After LinkSolo, mirror reads are served again and SOLO_EXIT notices go out once both copies are
complete (R413); after a start, mirror reads are served (R383). -/
def execResyncCopyDone (s : State) : Result :=
  .next (
    if s.pairState = 6 then
      if !s.getB Reg.TWN_RESYNC_STATUS 27 || !s.twn.copyIn || s.twn.copyDone || s.copyPending then s
      else
        let gone := (s.win.pages.filter (fun p => (s.extent (p.1 / 128)).isNone)).map Prod.fst
        let s := gone.foldl State.unmapPage s
        let s := { s with
          med := { s.med with
            recorded := s.med.links.filterMap (fun (l : Nat × MLinkRec) => if l.2.idRead then some (l.1, l.2.identity) else none)
            links := Maps.mapV (fun _ (l : MLinkRec) => { l with foreign := false }) s.med.links }
          twn := { s.twn with copyDone := true, needFull := false } }
        ((s.journal [(Tbl.role, 0)]).2.tell .copyDone).setF Reg.TWN_RESYNC_STATUS 29 28 3
    else match s.twn.resync with
      | none => s
      | some x =>
        if s.pairState = 4 then
          if s.twn.copyDone then s.setF Reg.TWN_RESYNC_STATUS 29 28 3 else s
        else if !s.twn.copyIn || s.copyPending then s
        else
          let s := if s.twn.noMirrorReads then s.tell .copyDone else s
          let s := { s with twn := { s.twn with noMirrorReads := false } }
          if !s.twn.copyDone then s
          else
            let s := { s with twn := { s.twn with resync := none, copyIn := false, copyDone := false, dirty := [] } }
            if x.starting then s
            else (s.setF Reg.TWN_RESYNC_STATUS 29 28 3).sendNotices 5 Code.ok (sideNum s.sideB) (s.now + 1))

/-! ## Return (R418) -/

/-- RECLAIM_SEND: at the first frame boundary after the copy, with RETURN_HOLD 0 (R418). -/
def execReclaimSend (s : State) : Result :=
  .next (
    if s.pairState ≠ 6 || !s.twn.copyDone || s.twn.reclaim.isSome || !s.frameDue || s.effB Reg.TWN_CTRL 2 then s
    else
      let at' := s.nextTick + 3000
      ({ s with twn := { s.twn with reclaim := some (s.sideB, at') } } : State).tell (.reclaim s.sideB at'))

/-- A request of a reclaimed side whose window writes are not Accepted yet (R418). -/
def State.reclaimed (s : State) (sideB : Bool) (r : Request) : Bool :=
  s.windowSide (s.window r.win) == sideB && !r.committed && r.opt.isSome && (bitOf r.rights 1 || bitOf r.rights 2)

/-- RETURN_SWITCH: the coming tick boundary is S (R418). -/
def execReturnSwitch (s : State) : Result :=
  .next (match s.twn.reclaim with
    | none => s
    | some (_, at') =>
      if s.nextTick < at' || (s.pairState ≠ 4 && s.pairState ≠ 6) then s else s.raisePair .switchSides)

/-- At S the reclaimed side is served by the returning unit, which holds its requests until every SWITCH has come; the survivor
ends what it has not yet Accepted there (R418). -/
def State.switchSides (s : State) : State :=
  match s.twn.reclaim with
  | none => s
  | some (b, at') =>
      if s.pairState ≠ 4 && s.pairState ≠ 6 then s
      else
        let back := s.pairState = 6
        let s := s.jointEpoch.setPairState 1
        let s := s.setServes (sideBit s.sideB)
        let ups := (if s.twn.bundle0.up then 1 else 0) + (if s.twn.bundle1.up then 1 else 0)
        let s := { s with twn := { s.twn with
          reclaim := none, resync := none, asked := none, copyDone := false, copyIn := false, noMirrorReads := false, dirty := []
          gap := back, switchLeft := if back then ups else 0, switchDue := if back then none else some b } }
        let s := (s.bump Reg.TWN_CNT_RETURN).pairEvent 8 (sideNum b) at' 0
        let s := (s.writeRole 1).2
        if back then s
        else
          let ids := (s.cle.reqs.filter (fun e => s.reclaimed b e.2)).map Prod.fst
          (ids.foldl (fun (s : State) (id : Nat) => (s.bump Reg.CLE_CNT_ABORT).endReq id Code.homeMoved) s).trySwitch

/-- RETURN_ADMIT: every SWITCH has been admitted; held requests are admitted and RETURN_DONE notices released (R418). -/
def execReturnAdmit (s : State) : Result :=
  .next (
    if !s.twn.gap || s.twn.switchLeft ≠ 0 || !s.twn.arrived.isEmpty then s
    else
      let s := { s with twn := { s.twn with gap := false } }
      let s := s.missQps.foldl (fun (s : State) (q : Nat) => s.drainMiss (BitVec.ofNat 24 q)) s
      s.sendNotices 3 Code.ok (sideNum s.sideB) (s.now + 1))

/-! ## Drill and format (R423, R582) -/

/-- DRILL is refused with STATE unless this unit serves the side, both units are Paired, both bundles and the sideband are up
and no resynchronization runs (R423). -/
def State.drillOk (s : State) (sideB : Bool) : Bool :=
  s.serves sideB && s.pairState == 1 && s.twinState == 1 && s.twn.bundle0.up && s.twn.bundle1.up &&
  s.getB Reg.TWN_STATUS 25 && s.twn.resync.isNone && !s.twn.noMirrorReads && s.twn.drill.isNone

/-- DRILL (R423): the command completes once the drilled unit has sent its GIVEUP. -/
def execDrill (h : CmdHead) (side : Byte) (hold : Bool) (s : State) : Result :=
  .next (s.command h 0x14 (decide (1 < side.toNat)) none
    (fun s => if s.drillOk (side == 1#8) then 0 else Reason.state)
    (fun s =>
      let d : DrillRec := { sideB := side == 1#8, hold, ring := h.ring, tag := h.tag }
      ({ s with twn := { s.twn with drill := some d } }, { opcode := 0x14, tag := h.tag, event := true })))

/-- DRILL_YIELD: admission has stopped and every Accepted line is Mirrored, so the drilled unit is to yield (R28, R423). -/
def execDrillYield (s : State) : Result :=
  .next (match s.twn.drill with
    | none => s
    | some d =>
      if !d.stopped || s.twn.yieldedAt.isSome || s.dur.pb.any (fun e => !e.mirror && !e.mirrored) then s
      else s.raisePair (.yield true d.hold))

/-- A drilled unit without HOLD may return: its twin survives (R415, R423). -/
def State.drillOver (s : State) : Bool :=
  match s.twn.drill with
  | none => false
  | some d => !d.hold && s.pairState == 5 && s.twinState == 4

/-- At a frame boundary a drill that is over is signalled (R28, R415). -/
def State.drillReturn (s : State) : State := if s.drillOver then s.raisePair .returning else s

/-- A drilled unit becomes Returning: its PFC is released (R404, R415, R423). -/
def State.returnFromDrill (s : State) : State :=
  if !s.drillOver then s
  else
    let s := s.enterReturning (s.dur.inflight.map Prod.fst)
    s.prt.pauseTx.foldl (fun (s : State) (e : Nat × Nat) => s.sendPfc (e.1 / 8) (e.1 % 8) 0) s

/-! ## The fault-signalling point (R27, R28) -/

/-- A signalled change of role is made at a tick boundary. -/
def State.actPair (s : State) (x : PairSignal) : State :=
  match x with
  | .hold => if s.pairState = 1 && !s.linkUp then ({ s with twn := { s.twn with holdAt := s.now } } : State).setPairState 2 else s
  | .paired => if s.pairState = 2 && s.linkUp then s.setPairState 1 else s
  | .solo => s.goSolo
  | .soloAgain => if s.pairState = 4 && !s.dur.solo then ((s.soloEnter s.now).writeRole 4).2 else s
  | .takeover => s.takeOver
  | .serve => s.serveBoth
  | .yield drill hold => s.yieldNow drill hold
  | .returning => s.returnFromDrill
  | .resync => s.resyncNow
  | .metadata => s.takeMetadata
  | .switchSides => s.switchSides
  | .lost serves => s.pairLost serves
  | .decide => s.startAlone.decideRole
  | .alone => s.serveAlone

/-- Every signalled change of role, oldest first. -/
def State.actOnPair (s : State) : State :=
  (s.twn.signals.foldl State.actPair { s with twn := { s.twn with signals := [] } }).dropRepairs

/-- CMD_SKEW_DETECT: the summaries have differed at 1,000 frame boundaries in a row (R101). -/
def execCmdSkewDetect (s : State) : Result :=
  .next (
    if !s.frameDue || s.twn.skew < 999 || !s.summaryDiffers || s.pairState ≠ 1 || s.getB Reg.TWN_STATUS 18 then s
    else (s.setB Reg.TWN_STATUS 18 true).pairEvent 10 (sideNum s.sideB) (s.now + 1) 0)

/-- SCM_FORMAT: a change of metadata like any other: published at a tick boundary once its group is Placed, after the commands before it
(R19, R20, R388, R421, R582). -/
def execScmFormat (h : CmdHead) (pairId : DWord) (metaRegions : Byte) (s : State) : Result :=
  .next (s.command h 0x16 (decide (metaRegions.toNat = 0) || decide (63 < metaRegions.toNat)) none
    (fun s => if s.pairState = 0 && s.servesBits = 0 then 0 else Reason.state)
    (fun s => s.crossing h 0x16 (.format metaRegions.toNat pairId)))

end Sys2Proof.Machine
end

