-- ==== Sys2Proof/Machine/Grounds.lean ====
section
/-! DEFINITION. Chip-originated work that was held for want of a valid conjugation entry, and is dispatched from the first tick
boundary at which the entry is valid (R166). -/

namespace Sys2Proof.Machine

open Sys2Proof

/-- The state an outcome goes on with. -/
def resultOr (s : State) : Result → State
  | .next t => t
  | _ => s

/-- The work of a held command done. -/
def State.doWork (s : State) : Instr → State
  | .lineRepairRequest line => resultOr s (execLineRepairRequest line s)
  | .lineRepairServe line raw => resultOr s (execLineRepairServe line raw s)
  | .patrolScrub ml => resultOr s (execPatrolScrub ml s)
  | .mapCheckpoint => resultOr s (execMapCheckpoint s)
  | .destage => resultOr s (execDestage s)
  | .promote page => resultOr s (execPromote page s)
  | .backgroundScan => resultOr s (execBackgroundScan s)
  | .resyncStart => resultOr s (execResyncStart s)
  | _ => s

/-- A piece of held work dispatched, unless its entry is still not valid or, for the start of a resynchronization, the next boundary
is no frame boundary (R166, R413). -/
def State.runWork (s : State) (w : Nat × Instr) : State :=
  if !s.groundsOk w.1 || (w.2 == .resyncStart && s.resyncDue && !s.frameDue) then s
  else ({ s with cle := { s.cle with grounds := s.cle.grounds.erase w } } : State).doWork w.2

/-- Held work dispatched, oldest first (R166). -/
def State.runHeld (s : State) : State := s.cle.grounds.foldl State.runWork s

end Sys2Proof.Machine
end

