-- ==== Sys2Proof/Machine/Programs.lean ====
section
/-! DEFINITION. Program images: their layout and checks (R171, R172), loading, unloading and release (R23, R173, R174). -/

namespace Sys2Proof.Machine

open Sys2Proof

/-- An entry record of an image (R171). -/
structure EntryRec where
  prog : Nat
  kind : Nat
  rights : Nat
  entry : Nat
  segFirst : Nat
  segResume : Nat
  reserved : Nat
  deriving DecidableEq, Repr

/-- `n` little-endian bytes of an image from an offset. -/
def imgField (b : List Byte) (o n : Nat) : Nat := leNat (slice b o n)

/-- Entry record `k` of an image. -/
def imgEntry (b : List Byte) (k : Nat) : EntryRec :=
  let o := 32 + 16 * k
  { prog := imgField b o 2, kind := imgField b (o + 2) 1, rights := imgField b (o + 3) 1, entry := imgField b (o + 4) 4
    segFirst := imgField b (o + 8) 2, segResume := imgField b (o + 10) 2, reserved := imgField b (o + 12) 4 }

/-- CODE_LEN and ENTRIES of an image. -/
def imgCodeLen (b : List Byte) : Nat := imgField b 16 4
def imgCount (b : List Byte) : Nat := imgField b 20 2
def imgEntries (b : List Byte) : List EntryRec := (upTo (imgCount b)).map (imgEntry b)

/-- The instruction words of an image. -/
def imgCode (b : List Byte) : List DWord :=
  (upTo (imgCodeLen b / 8)).map (fun i => BitVec.ofNat 64 (imgField b (32 + 16 * imgCount b + 8 * i) 8))

/-- An entry record may stand in an image of `n` instructions (R172). -/
def EntryRec.ok (e : EntryRec) (n : Nat) : Bool :=
  e.prog < 1024 && e.kind < 32 && e.kind != 7 && !(13 ≤ e.kind && e.kind ≤ 15) &&
  (!(8 ≤ e.kind && e.kind ≤ 12) || e.prog == 0) && e.rights < 32 && e.entry < n && e.segFirst ≤ 112 && e.segResume ≤ 112 &&
  e.reserved == 0

/-- Key of a program ID and kind in the conjugation table (R164). -/
def EntryRec.key (e : EntryRec) : Nat := 32 * e.prog + e.kind

/-- The numbers are all different. -/
def distinct : List Nat → Bool
  | [] => true
  | x :: xs => !xs.contains x && distinct xs

/-- The image satisfies R172's FORMAT row. -/
def formatOk (b : List Byte) : Bool :=
  let n := imgCodeLen b
  let e := imgCount b
  imgField b 0 4 == 0x4D535541 && imgField b 4 2 == 1 && allZero (slice b 22 10) && n % 8 == 0 && 8 ≤ n && n ≤ 1048576 &&
  1 ≤ e && e ≤ 64 && b.length == 32 + 16 * e + n + 64 && (imgEntries b).all (fun x => x.ok (n / 8)) &&
  distinct ((imgEntries b).map EntryRec.key)

/-- Blocks of 1 KiB an image takes in the program store. -/
def imgBlocks (b : List Byte) : Nat := ceilDiv b.length 1024

/-- Program store blocks, and code bytes, held by the images (R172). -/
def State.storeUsed (s : State) : Nat := (s.cle.images.map (fun e => e.2.blocks)).foldl (· + ·) 0
def State.codeUsed (s : State) : Nat := (s.cle.images.map (fun e => 8 * e.2.code.length)).foldl (· + ·) 0

/-- The reason R172 refuses an image with, or 0. -/
def State.loadReason (s : State) (b : List Byte) : Nat :=
  if !s.ownerVerifies (b.take (b.length - 64)) (b.drop (b.length - 64)) then Reason.signature
  else if !formatOk b then Reason.format
  else if 64 ≤ s.cle.images.length then Reason.slots
  else if 4096 < s.storeUsed + imgBlocks b then Reason.storeFull
  else if 524288 < s.codeUsed + imgCodeLen b then Reason.codeFull
  else 0

/-- The conjugation entry of a record whose image lies in a slot (R164). -/
def EntryRec.word (e : EntryRec) (slot : Nat) : DWord :=
  BitVec.ofNat 64 (2 ^ 63 + e.rights * 2 ^ 58 + slot * 2 ^ 48 + e.segFirst * 2 ^ 40 + e.segResume * 2 ^ 32 + e.entry)

/-- An image that has passed its checks holds its slot, its blocks and its code, in state Loading, until its command completes
(R172); that is at the next tick boundary or later (log 111). -/
def State.loadImage (s : State) (slot : Nat) (b : List Byte) : State :=
  let x : Image := {
    state := 3, id := BitVec.ofNat 32 (imgField b 8 4), version := BitVec.ofNat 32 (imgField b 12 4), blocks := imgBlocks b
    records := (imgEntries b).map (fun e => (e.key, e.word slot)), code := imgCode b, sig := b.drop (b.length - 64) }
  { s with cle := { s.cle with images := Maps.put slot x s.cle.images } }

/-- PROGRAM_LOAD (R171–R173). -/
def execProgramLoad (h : CmdHead) (image : List Byte) (s : State) : Result :=
  .next (s.command h 0x10 (image.length < 120 || 1049696 < image.length) (some 3) (fun s => s.loadReason image)
    (fun s =>
      let slot := (Maps.lowestFree s.cle.images 64).getD 0
      (s.loadImage slot image, { opcode := 0x10, tag := h.tag, tick := true, w0 := BitVec.ofNat 64 slot })))

/-- Taking the image's entries away removes the last valid entry of a program ID that an Open window names, or one of kinds
8 to 12 of program ID 0 (R174). -/
def State.unloadInUse (s : State) (slot : Nat) : Bool :=
  let t := s.cle.conjStaged
  let left := dropSlot t slot
  let valid (t : Table DWord) (p : Nat) : Bool := t.any (fun e => e.1 / 32 == p && bitOf e.2 63)
  t.any (fun e => names e.2 slot && 8 ≤ e.1 && e.1 ≤ 12) ||
  s.processed.windows.any (fun w => w.2.state == .opened && valid t w.2.progId && !valid left w.2.progId)

/-- PROGRAM_UNLOAD (R174). -/
def execProgramUnload (h : CmdHead) (slot : Byte) (s : State) : Result :=
  .next (s.command h 0x11 (63 < slot.toNat) none
    (fun s => match Maps.find slot.toNat s.cle.images with
      | none => Reason.state
      | some x => if x.state = 3 then Reason.state else if x.state = 1 && s.unloadInUse slot.toNat then Reason.inUse else 0)
    (fun s =>
      let p : PendCmd := { opcode := 0x11, tag := h.tag }
      match Maps.find slot.toNat s.cle.images with
      | some x => if x.state = 1 then (s.drain slot.toNat, p) else (s, p)
      | none => (s, p)))

/-- PROGRAM_RELEASE: a Draining image that no request or open WRITE message is bound to, and that no entry in force names any more, becomes Free,
and its release is reported (R23, R173). -/
def execProgramRelease (slot : Fin 64) (s : State) : Result :=
  .next (match Maps.find slot.val s.cle.images with
    | none => s
    | some x =>
      if x.state ≠ 2 || s.cle.reqs.any (fun r => r.2.slot == some slot.val) || s.cle.conj.any (fun e => names e.2 slot) ||
          s.trn.opt.any (fun e => (e.2.firstEntry.toList ++ e.2.nextEntry.toList).any (fun v => names v slot)) then s
      else
        let s := { s with cle := { s.cle with images := Maps.del slot.val s.cle.images } }
        s.notify 0x15 0 0 (BitVec.ofNat 64 slot.val) (BitVec.ofNat 64 x.id.toNat) 0)

end Sys2Proof.Machine
end

