-- ==== Sys2Proof/Machine/Segments.lean ====
section
/-! DEFINITION. What a tick boundary does for requests: events that have come make them ready (R149, R150, R154), new requests
are bound to a program, a cluster and a frame (R142, R145–R147, R166), and free strands are filled (R148). -/

namespace Sys2Proof.Machine

open Sys2Proof

/-! ## Ready requests (R149–R151) -/

/-- The request in its ready queue, among those whose awaited event is ready (R148). -/
def State.makeReady (s : State) (id : Nat) (r : Request) : State :=
  let (o, s) := s.nextOrder
  s.setReq id { r with st := .ready o true }

/-- A request that has a schedule or bound handles and a clause still to run. -/
def Request.tiled (r : Request) : Bool :=
  (r.pour.isSome || !r.ctx.t.isEmpty) &&
  (match r.st with | .held | .ended | .discarded => false | _ => true)

/-- A request in the restart queue, in its place (R178). -/
def State.inRestart (s : State) (id o : Nat) : State :=
  match Maps.find id s.cle.reqs with
  | some r => s.setReq id { r with st := .restart o }
  | none => s

/-- A request of a cluster whose engines are all fenced moves to the next cluster that has an unfenced one; one with tiles
releases them and starts its clause again there (R147, R178, R248, log 110). -/
def State.moveReq (s : State) (id : Nat) : State :=
  match Maps.find id s.cle.reqs with
  | none => s
  | some r => match r.cluster with
    | none => s
    | some c =>
      let d := s.liveCluster c
      if d = c then s
      else
        let s := s.setReq id { r with cluster := some d, frame := s.freeFrame d }
        if !r.tiled then s
        else match r.st with
          | .restart o => (s.toRestart id).inRestart id o
          | _ => s.toRestart id

/-- Every request of a cluster without an unfenced engine moved (R178). -/
def State.moveAll (s : State) : State := (s.cle.reqs.map Prod.fst).foldl State.moveReq s

/-- Every read and atomic of the clause has delivered (R150). -/
def Request.delivered (r : Request) : Bool := r.mreads.all (·.done) && r.matoms.all (·.accepted)

/-- A request at a boundary: ready once what it waits for has come before it, ended with the event's code when it has failed (R150,
R151). -/
def State.wake (s : State) (id : Nat) (r : Request) : State :=
  match r.st with
  | .wakes => s.makeReady id r
  | .waiting w _ =>
    match w, r.readFail with
    | .media, some code | .commit _, some code => (s.bump Reg.CLE_CNT_ABORT).endReq id code
    | .media, none => if r.delivered then s.makeReady id r else s
    | .commit _, none => s.makeReady id r
    | .stage k, _ => if (match r.pour with | some p => p.resident k | none => false) then s.makeReady id r else s
    | .fence, _ => if r.fences.all (·.done) then s.makeReady id r else s
    | .time t, _ => if t < s.now then s.makeReady id r else s
  | _ => s

/-- Every request looked at, as it stood before the boundary. DESIGN CHOICE, log 140: those made ready at one boundary stand in their queue
in the order of their numbers. -/
def State.wakeAll (s : State) : State :=
  s.cle.reqs.foldl (fun (s : State) (e : Nat × Request) => if Maps.has s.cle.reqs e.1 then s.wake e.1 e.2 else s) s

/-! ## Candidates for dispatch (R147, R148) -/

/-- A request that may be dispatched: its class number, its requester of R148, whether an awaited event made it ready, and its
ready order. -/
structure Cand where
  id : Nat
  cls : Nat
  queue : Nat
  resumed : Bool
  order : Nat
  deriving DecidableEq, Repr

/-- Class number (R40). -/
def Cls.number : Cls → Nat
  | .ristretto => 0
  | .lungo => 1
  | .drip => 2
  | .grounds => 3

/-- The candidate a ready request is (R148). -/
def Request.cand (id : Nat) (r : Request) : Option Cand :=
  match r.st with
  | .ready o resumed =>
    some { id, cls := r.cls.number, queue := if r.chip then 32 else r.lp, resumed, order := o }
  | .restart o => some { id, cls := r.cls.number, queue := 33, resumed := true, order := o }
  | _ => none

/-- Candidate `x` goes before `y` in a queue. -/
def Cand.before (x y : Cand) : Bool := (x.resumed && !y.resumed) || (x.resumed == y.resumed && decide (x.order < y.order))

/-- A candidate put in its place of a queue. -/
def insertCand (x : Cand) : List Cand → List Cand
  | [] => [x]
  | y :: l => if x.before y then x :: y :: l else y :: insertCand x l

/-- The candidates among requests, those of resumed requests first, each group in ready order. -/
def State.cands (s : State) (p : Request → Bool) : List Cand :=
  (s.cle.reqs.filterMap (fun e => if p e.2 then e.2.cand e.1 else none)).foldl (fun l x => insertCand x l) []

/-- Requests whose first dispatch is to come, with the cluster picked for each at this boundary. -/
abbrev Picked := List (Cand × Nat)

/-- CLE_FRAME_CFG.RIS_FRAMES; values above 512 act as 512. -/
def State.risFrames (s : State) : Nat := Nat.min 512 (s.effF Reg.CLE_FRAME_CFG 9 0)

/-- A cluster has a frame free to a class, those picked at this boundary counted (R146). -/
def State.frameFree (s : State) (picked : Picked) (c cls : Nat) : Bool :=
  let held := s.cle.reqs.filter (fun e => e.2.cluster == some c)
  let new := picked.filter (fun x => x.2 == c)
  let used := held.length + new.length
  let ris := (held.filter (fun e => e.2.cls == .ristretto)).length + (new.filter (fun x => x.1.cls == 0)).length
  if cls = 0 then used < 1024 else used < 1024 && s.risFrames - ris < 1024 - used

/-- Ready requests of a class in a cluster. -/
def State.readyIn (s : State) (picked : Picked) (c cls : Nat) : Nat :=
  ((s.cands (fun r => r.cluster == some c)).filter (fun x => x.cls == cls)).length +
  (picked.filter (fun x => x.2 == c && x.1.cls == cls)).length

/-- The cluster of a request's first dispatch: of those with a free frame and an unfenced engine, the one with the fewest ready
requests of the class, the lowest index among equals (R147). -/
def State.pickCluster (s : State) (picked : Picked) (cls : Nat) : Option Nat :=
  let able := (upTo 8).filter (fun c => s.liveCluster c == c && s.frameFree picked c cls &&
    (upTo 8).any (fun k => !bitOf s.fencedEngines (8 * c + k)))
  able.foldl (fun (b : Option Nat) c => match b with
    | none => some c
    | some d => if s.readyIn picked c cls < s.readyIn picked d cls then some c else some d) none

/-- The clusters of the new requests, in ready order; one without a free frame stays in its ready queue (R146). -/
def State.pickAll (s : State) (l : List Cand) : Picked :=
  l.foldl (fun (p : Picked) x => match s.pickCluster p x.cls with
    | some c => p ++ [(x, c)]
    | none => p) []

/-! ## First dispatch (R142, R145, R166, R167) -/

/-- The conjugation entry of a request's first dispatch: the one in force, or for a packet of a WRITE message the one its message is
bound to (R145, R166). -/
def State.entryOf (s : State) (r : Request) : DWord :=
  let e := r.opt.bind (fun o => Maps.find o s.trn.opt)
  let bound := if r.kind = 6 then e.bind (·.nextEntry) else if r.kind = 1 then e.bind (·.firstEntry) else none
  bound.getD (Maps.getD s.cle.conj (32 * (s.window r.win).progId + r.kind) 0)

/-- The entries of a WRITE message's packets bound, WRITE and WRITE_NEXT, when the first of them is looked up (R22, R145, log 152). -/
def State.bindMessage (s : State) (r : Request) : State :=
  let at' (k : Nat) : Option DWord := some (Maps.getD s.cle.conj (32 * (s.window r.win).progId + k) 0)
  let f (x : OptEntry) : OptEntry := if x.nextEntry.isSome then x else { x with firstEntry := at' 1, nextEntry := at' 6 }
  match r.opt with
  | some o => if (r.kind = 1 && !r.last) || r.kind = 6 then { s with trn := { s.trn with opt := Maps.upd o f s.trn.opt } } else s
  | none => s

/-- The registers of a request's first segment (R142): the arguments in g1, g2 and g3. -/
def firstCtx (entry : Nat) (args : List DWord) : Ctx :=
  { pc := entry, g := (upTo args.length).foldl (fun t k => Maps.wr (fun _ => 0) t (k + 1) (nthD args k 0)) [] }

/-- A request bound to its program, its cluster and a frame (R22, R142, R146, R167), and its message's packets with it (R145). -/
def State.bindReq (s : State) (id c : Nat) : State :=
  match Maps.find id s.cle.reqs with
  | none => s
  | some r =>
    let e := s.entryOf r
    let ctx := firstCtx (fld e 16 0) r.args
    let rights : BitVec 5 := if 16 ≤ r.kind then BitVec.ofNat 5 (fld e 62 58) else r.rights
    (s.bindMessage r).setReq id { r with
      slot := some (fld e 53 48), entry := fld e 16 0, rights, cluster := some c, frame := s.freeFrame c, ctx, ckpt := ctx }

/-- New requests whose conjugation entry is not valid end without being dispatched; chip-originated work waits in its queue (R166). -/
def State.dropInvalid (s : State) (p : Picked) : State × Picked :=
  let invalid (r : Request) : Bool := !bitOf (s.entryOf r) 63
  let bad (x : Cand × Nat) : Bool := match Maps.find x.1.id s.cle.reqs with | some r => invalid r | none => true
  let ends (x : Cand × Nat) : Bool := match Maps.find x.1.id s.cle.reqs with | some r => invalid r && !r.chip | none => false
  ((p.filter ends).foldl (fun (s : State) x => s.endReq x.1.id Code.clauseAbort) s, p.filter (fun x => !bad x))

/-! ## Dispatch (R34, R44, R45, R51, R148) -/

/-- What a clause read, as a resume after YIELD.W MEDIA delivers it: bytes to the pad, original values to registers (R196,
R198). -/
def Request.resumed (r : Request) : Request :=
  if !r.mediaDue then r
  else
    let ctx := r.mreads.foldl (fun (c : Ctx) m => match m.dst with
      | some a => if m.applied then c else c.setPad a (m.data.take m.len)
      | none => c) r.ctx
    let ctx := r.matoms.foldl (fun (c : Ctx) m =>
      if m.applied then c
      else (upTo m.orig.length).foldl (fun (c : Ctx) k => c.setG (m.d + k) (nthD m.orig k 0)) c) ctx
    { r with
      ctx, mediaDue := false
      mreads := r.mreads.map (fun m => { m with applied := true })
      matoms := r.matoms.map (fun m => { m with applied := true }) }

/-- A segment dispatched to a strand: counted, charged, its registers set for the segment (R141, R196). -/
def State.dispatch (s : State) (c strand : Nat) (x : Cand) : State :=
  match Maps.find x.id s.cle.reqs with
  | none => s
  | some r =>
    let s := if x.cls = 0 then s.useRis (32 + c) 0 1 r.tenant else s
    let r := ({ r with
      st := .running strand, stack := [], cxTick := s.tck.tick
      ctx := { r.ctx with scratch := [], seed := s.free } } : Request).resumed
    let s := (s.setReq x.id r).bump Reg.CLE_CNT_DISPATCH
    { s with
      free := s.free + 8192
      cle := { s.cle with
        strands := Maps.put strand (x.id, s.tck.boundaries) s.cle.strands
        turns := Maps.del strand s.cle.turns
        issued := Maps.put (strand / 8) false s.cle.issued } }

/-- The candidate that an entry of a cluster's table serves: the first class in R45's order that asks, the requester of R51, and
of that requester the first in its queue (log 82). -/
def State.pickCand (s : State) (c i : Nat) (q : List Cand) : Option Cand :=
  match (s.grantOrder (32 + c) i).find? (fun k => q.any (fun x => x.cls == k)) with
  | none => none
  | some k =>
    let l := q.filter (fun x => x.cls == k)
    match rotate (s.ptr 34) 34 (l.map (·.queue)) with
    | some n => l.find? (fun x => x.queue == n)
    | none => none

/-- One strand of a cluster's dispatcher: entry `i` governs strand i mod 8 of engine i div 8; a strand that runs a segment, and
one of a fenced or gated engine, is passed over (R44, R55, R148, R177). -/
def State.fillStrand (c : Nat) (a : State × List Cand) (i : Nat) : State × List Cand :=
  let (s, q) := a
  let strand := 64 * c + i
  if bitOf (s.fencedEngines ||| s.cle.gated) (strand / 8) || Maps.has s.cle.strands strand then a
  else match s.pickCand c i q with
    | none => a
    | some x => (s.dispatch c strand x, q.filter (fun y => y.id != x.id))

/-- A cluster's free strands filled. A new request takes its frame as it is dispatched (R146). -/
def State.fillCluster (picked : Picked) (s : State) (c : Nat) : State :=
  let old := s.cands (fun r => r.cluster == some c)
  let new := (picked.filter (fun x => x.2 == c)).map Prod.fst
  if old.isEmpty && new.isEmpty then s
  else
    let bound := new.foldl (fun (s : State) x => s.bindReq x.id c) s
    let (t, left) := (upTo 64).foldl (State.fillStrand c) (bound, new.foldl (fun l x => insertCand x l) old)
    -- a new request that got no strand is as it was
    new.foldl (fun (t : State) x =>
      if left.any (fun y => y.id == x.id) then
        match Maps.find x.id s.cle.reqs with
        | some r => t.setReq x.id r
        | none => t
      else t) t

/-- Dispatch begins once the instruction caches are invalidated (R175). -/
def State.dispatchAll (s : State) : State :=
  if !s.getB Reg.CLE_STATUS 17 then s
  else
    let (s, picked) := s.dropInvalid (s.pickAll (s.cands (fun r => r.cluster.isNone)))
    (upTo 8).foldl (State.fillCluster picked) s

/-! ## Engines that issue nothing (R440) -/

/-- An engine that was offered work at two boundaries in a row and issued nothing in the ticks that followed is reported for
fencing. -/
def State.watchEngines (s : State) : State :=
  let hung := s.cle.issued.filter (fun e => !e.2 && !bitOf s.fencedEngines e.1)
  let idle := hung.map (fun e => (e.1, Maps.getD s.cle.idle e.1 0 + 1))
  let s := { s with cle := { s.cle with issued := [], idle := idle.filter (fun e => decide (e.2 < 2)) } }
  (idle.filter (fun e => decide (2 ≤ e.2))).foldl (fun (s : State) (e : Nat × Nat) => s.report 0x0C e.1) s

end Sys2Proof.Machine
end

