-- ==== Sys2Proof/Machine/Integrity.lean ====
section
/-! DEFINITION. The integrity manager (chapter 13): fault levels and reactions (R427–R430, R444, R445), the detector test, the
clock monitor and the SRAM scrub. -/

namespace Sys2Proof.Machine

open Sys2Proof

/-! ## The fault catalogue (R445) -/

/-- Level of a fault code: 1 Note, 2 Contain, 3 Yield, 0 for a code without one. -/
def faultLevel (code : Nat) : Nat :=
  if [0x01, 0x02, 0x0B, 0x13, 0x1B].contains code then 1
  else if [0x04, 0x05, 0x09, 0x0C, 0x0E, 0x0F, 0x11, 0x15, 0x1A, 0x1C].contains code then 2
  else if [0x03, 0x06, 0x07, 0x08, 0x0A, 0x0D, 0x10, 0x12, 0x14, 0x16, 0x17, 0x18].contains code then 3
  else 0

/-- A fault is posted: Contain, Yield, and the Notes marked E. -/
def faultPosted (code : Nat) : Bool := decide (2 ≤ faultLevel code) || [0x02, 0x0B, 0x13, 0x1B].contains code

/-- The recorder's trigger input of a fault code, if the table gives one. -/
def faultTrigger (code : Nat) : Option Nat :=
  match code with
  | 0x02 | 0x1C => some 1
  | 0x03 | 0x12 => some 0
  | 0x04 | 0x05 => some 2
  | 0x06 | 0x07 => some 3
  | 0x08 => some 4
  | 0x09 | 0x0A => some 5
  | 0x0B | 0x0C => some 6
  | 0x0D => some 7
  | 0x0E | 0x0F => some 8
  | 0x10 => some 9
  | 0x11 => some 10
  | 0x13 | 0x14 => some 11
  | 0x15 => some 12
  | 0x16 => some 13
  | 0x17 | 0x18 => some 14
  | 0x19 | 0x1A => some 15
  | _ => none

/-- The register counting faults of a level. -/
def levelCounter (level : Nat) : Nat :=
  if level = 1 then Reg.INT_CNT_NOTE else if level = 2 then Reg.INT_CNT_CONTAIN else Reg.INT_CNT_YIELD

/-- INT_FIRST_FAULT and INT_LAST_FAULT hold a code, its level and its SOURCE. -/
def faultWord (code source : Nat) : Word := BitVec.ofNat 32 (code * 2 ^ 24 + faultLevel code * 2 ^ 22 + source % 4096)

/-- The report with the lowest code. -/
def lowestReport (l : List (Nat × Nat)) : Option (Nat × Nat) :=
  l.foldl (fun (a : Option (Nat × Nat)) (r : Nat × Nat) =>
    match a with | some x => if r.1 < x.1 then some r else some x | none => some r) none

/-! ## Reactions -/

/-- An MCP interrupt source pends (R209, R448). -/
def State.pendIrq (s : State) (k : Nat) : State :=
  { s with mcp := { s.mcp with irqPend := setBit s.mcp.irqPend k true } }

/-- Start-up ends before Run: the control port is up with every ring disabled (R30). -/
def State.stopStartup (s : State) : State :=
  let s := (upTo 16).foldl (fun (s : State) (r : Nat) => s.setB (ringCfg r) 16 false) s
  ({ s with sec := { s.sec with stopped := true, dark := true } } : State).setB Reg.CTL_STATUS 23 true

/-- A Yield-level fault: the fault signal is raised, and the data plane acts on it at the next tick boundary; before Run,
start-up ends instead, and GIVEUP goes out where a bundle is up (R27, R427). -/
def State.yieldSignal (s : State) (code source : Nat) : State :=
  let s := (s.setB Reg.INT_STATUS 29 true).pendIrq 0
  if s.inRun then s.signal code 3 source
  else
    let s := s.stopStartup
    let give : TwinFrame := .giveup s.sideB s.dur.epoch false false
    let s := if s.twn.bundle0.up then s.sendFrame false give else s
    if s.twn.bundle1.up then s.sendFrame true give else s

/-- What a fault's catalogue row calls for beyond counting: the MCP pair halts, an engine is to be fenced, the unit yields
(R427, R439–R441). -/
def State.reaction (s : State) (code source : Nat) : State :=
  let s := if code = 0x06 || code = 0x07 then { s with mcp := { s.mcp with halted := true } } else s
  let s := if code = 0x09 || code = 0x0C then
      { s with cle := { s.cle with fenceDue := setBit s.cle.fenceDue (source % 64) true } }
    else s
  if faultLevel code = 3 && s.twn.yieldedAt.isNone then s.yieldSignal code source
  else if faultLevel code = 2 then
    let s := s.signal code 2 source
    if s.twn.yieldedAt.isNone then s.pendIrq 0 else s
  else s

/-- One reported fault counted, posted and reacted to (R428, R430, R445). -/
def State.oneFault (s : State) (code source : Nat) : State :=
  let level := faultLevel code
  let post := s.twn.yieldedAt.isNone
  let s := if level = 0 then s else s.bump (levelCounter level)
  let s := s.setF Reg.INT_STATUS 31 30 (Nat.max (s.getF Reg.INT_STATUS 31 30) level)
  let s := if post && faultPosted code then s.notify 0x10 level code (BitVec.ofNat 64 source) s.tck.tick 0 else s
  let s := match faultTrigger code with
    | some t => if post then s.trigger t code level source else s
    | none => s
  s.reaction code source

/-- Corrected, or uncorrectable, words counted (R444). -/
def State.countCe (s : State) (n : Nat) : State := s.bumpBy Reg.INT_CNT_CE n
def State.countUe (s : State) : State := s.bump Reg.INT_CNT_UE

/-- A QP context lost: the QP is in Error with MEDIA_UE in its last-status word (R444). -/
def State.contextLost (s : State) (q : BitVec 24) : State :=
  match s.qp q with
  | some c => (s.setQp q { c with lastCode := Code.mediaUe }).qpError q
  | none => s

/-- An uncorrectable word of an on-chip SRAM, as its owner's reading of it is handled; `item` names what the word belongs to
(R444). -/
def State.sramUe (s : State) (id : Nat) (wrong : BitVec 80) (item : Nat) (dirty : Bool) : State :=
  let s := if id < 0x050 || (0x058 ≤ id && id < 0x060) || 0x0A0 ≤ id then s else s.countUe
  if id < 0x048 then
    let i : Fin 512 := Fin.ofNat 512 item
    match s.running i with
    | some (rid, r) => s.fetchUe i rid r
    | none => s.countUe.report 0x04 i
  else if id < 0x050 then
    match Maps.find item s.stg.tiles with
    | some t => s.tileUe t.req item 1
    | none => (s.countUe.bump Reg.STG_CNT_TILE_UE).report 0x0F item
  else if id < 0x058 then
    (if Maps.has s.cle.reqs item then (s.bump Reg.CLE_CNT_ABORT).endReq item Code.clauseAbort else s).report 0x1C id
  else if id < 0x060 then s.haltChannel (id - 0x058) (item % 8) 1 0 0
  else if id = 0x060 && !dirty then
    let q : BitVec 24 := BitVec.ofNat 24 item
    let cs := Maps.getD s.trn.cache (qpSet q) {}
    let cache := Maps.put (qpSet q) { cs with ways := cs.ways.filter (fun e => e.2.1 != q.toNat) } s.trn.cache
    ({ s with trn := { s.trn with cache } } : State).report 0x02 id
  else if id = 0x060 || id = 0x061 then (s.contextLost (BitVec.ofNat 24 item)).report 0x1C id
  else if id = 0x062 then
    let cs := Maps.getD s.win.keyCache (keySet item) {}
    let keyCache := Maps.put (keySet item) { cs with ways := cs.ways.filter (fun e => e.2.1 != item) } s.win.keyCache
    ({ s with win := { s.win with keyCache } } : State).report 0x02 id
  else if id = 0x063 then s.report 0x02 id
  else if id < 0x068 then s.report 0x03 id
  else if id < 0x070 then (s.bump (Reg.PRT_DROP_CRC + 0x1000 * (id - 0x068))).report 0x1C id
  else if id = 0x071 && !s.mcp.running then s.stopStartup
  else if id < 0x072 then 
    (if item / 8 = s.mcp.pc / 8 then s.dropLine.mcpTrap s.mcp.pc 0x09 item else s.mcpTrap s.mcp.pc 0x0C item).report 0x05 id
  else if id < 0x07E then s.queueUe item wrong
  else if id < 0x080 then s
  else if id < 0x090 then s.linkDown (id - 0x080)
  else if id < 0x092 then (if (s.bundle (id == 0x091)).up then s.bundleDown (id == 0x091) else s)
  else if 0x0A0 ≤ id && id < 0x0A8 then
    match execDmaChannelHalt (Fin.ofNat 8 (id - 0x0A0)) 1 (Fin.ofNat 16 item) s with
    | .next t => t
    | _ => s
  else s

/-- A word of an on-chip SRAM read with some of its bits wrong (R433, R444). -/
def State.sramRead (s : State) (id : Nat) (wrong : BitVec 80) (item : Nat) (dirty : Bool) : State :=
  match wordErr wrong with
  | .ok => s
  | .ce => (s.countCe 1).report 0x01 id
  | .ue => s.sramUe id wrong item dirty

/-- The bits that an injection flips: consecutive ones from a position, modulo 80 (R590). -/
def flippedBits (bits pos : Nat) : BitVec 80 :=
  (upTo bits).foldl (fun (w : BitVec 80) (k : Nat) => w ^^^ BitVec.twoPow 80 ((pos + k) % 80)) 0

/-- What one finding brings about; its fault, if it has one, is reported. The word that an armed injection was written into is read once
so (R590, log 129). -/
def State.find1 (s : State) : Finding → State
  | .fault code source => s.report code.toNat source.toNat
  | .sram id wrong item dirty => s.sramRead id.toNat wrong item dirty
  | .injected item dirty => match s.integ.armed with
    | none => s
    | some (id, bits, pos) =>
      ({ s with integ := { s.integ with armed := none } } : State).sramRead id (flippedBits bits pos) item dirty

/-- FAULT_REPORT: the reports that have reached the manager in one cycle, and what detectors found in it, are counted and reacted
to; the lowest code is the last fault, and the first Yield-level one is kept. The manager's two copies disagreeing is a fault
of its own (R428–R430). -/
def execFaultReport (found : List Finding) (disagree : Option (BitVec 12)) (s : State) : Result :=
  .next (
    let s := found.foldl State.find1 s
    let s := match disagree with
      | some d => (s.setB Reg.INT_STATUS 26 true).report 0x18 d.toNat
      | none => s
    let batch := s.integ.reports
    let s := { s with integ := { s.integ with reports := [] } }
    let s := match lowestReport batch with
      | some r => s.setReg Reg.INT_LAST_FAULT (faultWord r.1 r.2)
      | none => s
    let s := match lowestReport (batch.filter (fun r => faultLevel r.1 == 3)) with
      | some r =>
        if s.reg Reg.INT_FIRST_FAULT = 0 then
          (s.setReg Reg.INT_FIRST_FAULT (faultWord r.1 r.2)).setPair Reg.INT_FIRST_TICK_LO s.now
        else s
      | none => s
    batch.foldl (fun (s : State) (r : Nat × Nat) => s.oneFault r.1 r.2) s)

/-- DETECTOR_TEST: a detector that fails to report its forced mismatch is fault 0x18; expected reports are discarded (R431). -/
def execDetectorTest (missing : Option (BitVec 12)) (s : State) : Result :=
  .next (match missing with
    | some d => (s.bump Reg.INT_CNT_DET_TEST).report 0x18 d.toNat
    | none => s)

/-- CLOCK_CHECK: a clock off frequency, a lost reference or an unlocked PLL is fault 0x17 (R442). -/
def execClockCheck (fault : Option (Fin 4)) (s : State) : Result :=
  .next (match fault with
    | some f => s.report 0x17 f
    | none => s)

/-- SRAM_SCRUB: the next word is read in an idle cycle, corrected or handled as its owner's read; the last word of a pass counts
it (R435). -/
def execSramScrub (found : Option Finding) (progress : BitVec 10) (last : Bool) (s : State) : Result :=
  .next (
    if !s.getB Reg.INT_CTRL 0 || decide (s.now < s.integ.scrubFrom) then s
    else
      let s := match found with
        | some f => s.find1 f
        | none => s
      if last then
        let period := Nat.max 1 (s.getF Reg.INT_SCRUB_CFG 15 0) * 3000
        let s := { s with integ := { s.integ with scrubFrom := s.nextPass s.integ.scrubFrom period } }
        (s.setF Reg.INT_SCRUB_STATUS 31 16 (s.getF Reg.INT_SCRUB_STATUS 31 16 + 1)).setF Reg.INT_SCRUB_STATUS 9 0 0
      else s.setF Reg.INT_SCRUB_STATUS 9 0 (Nat.min progress.toNat 999))

end Sys2Proof.Machine
end

