-- ==== Sys2Proof/Machine/Startup.lean ====
section
/-! DEFINITION. Start-up after the rails are up (R29, R30): boot, memories and recovery, the control port, and service. -/

namespace Sys2Proof.Machine

open Sys2Proof

/-! ## Step 2: the boot ROM (R436, R469) -/

/-- A bank's firmware header, and whether the bank may be tried. -/
def State.fwHeader (s : State) (b : Bool) : List Byte := s.bankBytes b 0x2000 32
def State.fwTried (s : State) (b : Bool) : Bool := !s.rowErased b 1
def State.fwConfirmed (s : State) (b : Bool) : Bool := (s.bankBytes b 64 32).all (· == 0xA5#8)

/-- RES_A or RES_B of a bank before an image of it is read: 2 RECORD invalid, 3 tried and unconfirmed, 1 not tried. -/
def State.bankResult (s : State) (b : Bool) : Nat :=
  if !s.recordValid b then 2 else if s.fwTried b && !s.fwConfirmed b then 3 else 1

/-- RES of a bank whose image is read: 4 header, 5 signature, 6 SVN, 0 booted (R466, R467). -/
def State.imageResult (s : State) (b : Bool) : Nat :=
  let h := s.fwHeader b
  let n := fwField h 16 4
  if !s.fwInRange h then 4
  else if !s.imageVerifies h (s.bankBytes b 0x2000 (32 + n)) (s.bankBytes b (0x2020 + n) 64) then 5
  else if !s.fwNewEnough h then 6
  else 0

/-- RES_A or RES_B shown. -/
def State.setRes (s : State) (b : Bool) (r : Nat) : State :=
  if b then s.setF Reg.SEC_BOOT_STATUS 24 22 r else s.setF Reg.SEC_BOOT_STATUS 27 25 r

/-- A bank's image runs: its load in SRAM, TRIED programmed unless CONFIRMED is present (R469). -/
def State.bootBank (s : State) (b : Bool) : State :=
  let h := s.fwHeader b
  let n := fwField h 16 4
  let load := s.bankBytes b 0x2020 n
  let trial := !s.fwConfirmed b
  let s := s.setRes b 0
  let s := if trial then s.storeRow b 1 (rowWords (List.replicate 32 0x5A)) else s
  let s := ((s.setB Reg.SEC_BOOT_STATUS 29 b).setB Reg.SEC_BOOT_STATUS 28 trial).setF Reg.SEC_BOOT_STATUS 8 0 (fwField h 12 4)
  let s := { s with mcp := { s.mcp with sram := s.mcp.sram.setBytes 0 load } }
  let s := s.startMcp (0x100000 + fwField h 20 4) (h ++ load)
  { s with sec := { s.sec with startup := 2 } }

/-- The banks tried in order, the first that passes booted; BOOT_FAIL when none does (R469). -/
def State.tryBanks (s : State) : List Bool → State
  | [] => s.stopStartup.setB Reg.SEC_BOOT_STATUS 31 true
  | b :: bs =>
    let r := s.imageResult b
    if r = 0 then s.bootBank b else (s.setRes b r).tryBanks bs

/-- Banks that may be tried, highest BOOT_SEQ first, EFA first among equals (R469). -/
def State.bootOrder (s : State) : List Bool :=
  let seq (b : Bool) : Nat := leNat (s.bankBytes b 4 4)
  let order := if seq false < seq true then [true, false] else [false, true]
  order.filter (fun b => s.bankResult b == 1)

/-- Step 2: what a reset decodes, the recorder's scan, the calibration store, the self-test, and the boot. -/
def State.boot (s : State) (bist : Option BistFail) : State :=
  let s := s.secReset.scanRecorder.readCalStore
  let s := (s.setB Reg.INT_STATUS 28 true).setB Reg.INT_STATUS 27 bist.isNone
  match bist with
  | some f =>
    (s.setReg Reg.INT_BIST_STATUS (BitVec.ofNat 32 (f.fails.toNat * 65536 + f.kind.toNat * 4096 + f.first.toNat))).report
      0x19 f.first.toNat |>.stopStartup
  | none =>
    let s := (s.setRes false (s.bankResult false)).setRes true (s.bankResult true)
    s.tryBanks s.bootOrder

/-! ## Step 3: memories and recovery (R284, R289, R303, R312, R389) -/

/-- DRC_DIMM_CFG describes a row of R283: 64 GiB of 16 Gb devices or 128 GiB of 32 Gb devices, of 2 ranks (R284). -/
def State.dimmRow (s : State) : Bool :=
  let gib := s.getF Reg.DRC_DIMM_CFG 23 16
  let gb := s.getF Reg.DRC_DIMM_CFG 15 8
  s.getF Reg.DRC_DIMM_CFG 3 0 == 2 && ((gib == 64 && gb == 16) || (gib == 128 && gb == 32))

/-- Training: DIMM_CFG and GRAIN are latched, channels are Up or Refused, links with a stack are asked for their configuration
words (R261, R284, R289, R303). -/
def State.memories (s : State) (present trained : BitVec 16) (dimms : Bool) (channels : BitVec 6) : State :=
  let s := s.startItems
  let grain := clamp 8 16 (s.getF Reg.DRC_ILV_CFG 4 0)
  let s := s.setF Reg.DRC_ILV_CFG 12 8 grain
  let s := { s with drc := { s.drc with
    grain, dimmGib := s.getF Reg.DRC_DIMM_CFG 23 16, userBase := s.getF Reg.DRC_DIMM_CFG 31 24
    channels := (upTo 6).map (fun c => (c, { state := if dimms && s.dimmRow && bitOf channels c then 2 else 5 })) } }
  let s := s.setF Reg.DRC_STATUS 5 0 channels.toNat
  let link (s : State) (m : Nat) : State :=
    let frames := (s.link m).frames
    if bitOf present m && bitOf trained m then
      let ask (k : Nat) : FlitRec := { seq := BitVec.ofNat 12 k, header := mediaHeader 0x04 k 0 0 k 0 }
      s.setLink m { state := 1, frames, trans := [(0, { trans := .cfgrd 0 }), (1, { trans := .cfgrd 1 })], txSeq := 2
                    unacked := [ask 0, ask 1], heard := s.tck.boundaries }
    else s.setLink m { state := if bitOf present m then 1 else 0, frames }
  ((upTo 16).foldl link s).setF Reg.DUR_RECOVERY 31 28 0

/-- Every stack fitted is accepted, and every DRAM channel trained (R261, R284). -/
def State.memoriesUp (s : State) : Bool :=
  (upTo 16).all (fun m => (s.link m).state == 0 || (s.link m).state == 2) && (upTo 16).any (fun m => (s.link m).state == 2) &&
  (upTo 6).all (fun c => (s.dram c).state == 2)

/-- Every valid intent slot is written home, and every slot freed; a slot is valid by what its stored header says (R377). -/
def State.replayIntents (s : State) : State :=
  let one (s : State) (x : Intent) : State := x.lines.foldl (fun (s : State) (l : Nat × List Byte) => s.storeLine l.1 l.2 x.epoch) s
  let valid := s.dur.intents.filter (fun e => headerValid e.2.stored)
  let s := valid.foldl (fun (s : State) (e : Nat × Intent) => one s e.2) s
  { s with dur := { s.dur with intents := [] } }

/-- SCM that holds no data: its metadata unreadable, or a stack of it foreign (R262, R389). -/
def State.emptyScm (s : State) : State :=
  { s with
    win := {}, dur := {}
    med := { s.med with
      store := [], epochs := [], poison := [], regions := [], links := Maps.mapV (fun _ l => { l with frames := [] }) s.med.links }
    twn := { s.twn with role := none, needFull := true } }

/-- The tier at start-up: its geometry, its state, and its map rebuilt (R311, R312, R340, R341). -/
def State.startTier (s : State) (dies : Option NandGeom) (nandOk : Bool) : State :=
  match dies with
  | none => s
  | some g =>
    let s := s.setReg Reg.NTL_GEOM (BitVec.ofNat 32
      (g.luns.toNat * 2 ^ 28 + g.targets.toNat * 2 ^ 24 + g.pages.toNat * 2 ^ 12 + g.blocksK.toNat))
    let fits := decide (16 * g.targets.toNat * g.luns.toNat * (16 * g.blocksK.toNat) * g.pages.toNat * 16384 ≤ 2 ^ 48)
    let good := g.good && fits
    let state := if !good then 4 else if s.ntl.formatted then 2 else 5
    let s := (upTo 16).foldl (fun (s : State) (c : Nat) => s.setF (Reg.NTL_CH_STATUS + 16 * c) 31 29 (if good then 2 else 3)) s
    let s := ({ s with ntl := { s.ntl with state } } : State)
    if nandOk then if state = 2 then s.replayTier else s
    else { s.emptyTier with twn := { s.emptyTier.twn with role := none, needFull := true } }

/-- Recovery, steps 2 to 8 of R389. -/
def State.recover (s : State) (dies : Option NandGeom) (metaOk nandOk : Bool) (probes : List (Nat × List (List Byte))) : State :=
  let foreign := s.med.links.any (fun e => e.2.foreign)
  let s := if foreign || !metaOk then s.emptyScm else s
  let s := { s with twn := { s.twn with recordEpoch := s.dur.epoch } }
  let s := (s.setEpoch (s.dur.epoch + 1)).recordEpoch
  let replayed := (s.dur.intents.filter (fun e => headerValid e.2.stored)).length
  let s := (s.med.regions.foldl (State.recoverRegion probes) s).replayIntents
  let s := { s with twn := { s.twn with marked := s.dur.inflight.map Prod.fst } }
  let s := s.startTier dies nandOk
  let s := s.setB Reg.TWN_STATUS 28 (s.getB Reg.TOP_STRAP 0)
  let s := s.setReg Reg.DUR_RECOVERY (BitVec.ofNat 32 (8 * 2 ^ 28 + (if s.twn.needFull then 2 ^ 27 else 0) + replayed))
  { s with sec := { s.sec with startup := 3 } }

/-! ## Steps 4 and 5 -/

/-- A tenant's key unwrapped into its slot, or the tenant marked key-lost (R480); a mark goes only in debug state CLOSED
(R131). -/
def State.refillKey (s : State) (e : Nat × Tenant) : State :=
  if !e.2.encrypt then s
  else
    match s.unwrapKey e.1 e.2.key with
    | some key =>
      let lost := e.2.keyLost && s.debug != 0
      let s := s.setKeySlot e.1 key
      { s with win := { s.win with tenants := Maps.upd e.1 (fun t => { t with keyLost := lost }) s.win.tenants } }
    | none => s.loseKey e.1

/-- Step 5: keys refilled; the unit waits for its twin's heartbeat, and its role is to be decided (R421, R480). -/
def State.service (s : State) : State :=
  let s := (s.win.tenants.foldl State.refillKey s).showKeys.fillPins
  let s := { s with sec := { s.sec with startup := 4, dark := false, published := false }, twn := { s.twn with waitFrom := s.now } }
  s.raisePair .decide

/-- STARTUP: the next part of start-up, in the order of R29; none begins before the one before it has ended, nor after start-up
has stopped, but for the PCI Express link (R30). That any one ring enabled ends step 4 is the model's choice (log 80). TEST_EN keeps the
unit out of Run (R565). -/
def execStartup (step : StartStep) (s : State) : Result :=
  .next (
    let at' := s.sec.startup
    if s.sqr.mrst || !s.slotGood 1 then s
    else match step with
      | .boot bist => if at' = 1 && !s.sec.stopped then s.boot bist else s
      | .memories present trained dimms channels =>
        if at' = 2 && !s.sec.stopped then s.memories present trained dimms channels else s
      | .recovery dies metaOk nandOk probes =>
        if at' = 2 && !s.sec.stopped && s.memoriesUp then s.recover dies metaOk nandOk probes else s
      | .control speed width =>
        if 3 ≤ at' || s.sec.stopped then
          ((s.setF Reg.CTL_STATUS 31 28 speed.toNat).setF Reg.CTL_STATUS 27 24 width.toNat).setB Reg.CTL_STATUS 23 true
        else s
      | .service =>
        let rings := (upTo 16).any s.ringOn
        if at' = 3 && !s.sec.stopped && s.getB Reg.CTL_STATUS 23 && rings && !s.getB Reg.TOP_STRAP 1 then s.service else s)

end Sys2Proof.Machine
end

