-- ==== Sys2Proof/Machine/Tick.lean ====
section
/-! DEFINITION. TICK_BOUNDARY (R31): the counter, what is published and signalled (R19, R20, R27), dispatch (R148), and the copies of
data-plane registers (R26). Events that coincide with a boundary stand before it in the queue. -/

namespace Sys2Proof.Machine

open Sys2Proof

/-- VDD_CORE is up and MRST_N is high: the data plane's clocks run (R509, R592). -/
def State.clocked (s : State) : Bool := s.slotGood 1 && !s.sqr.mrst

/-! ## The counter (R31–R37, R47, R51, R135) -/

/-- The present tick has ended: the next one begins its length later (R33). The MCP's count of SCLK cycles, two CCLK each, is then at
least the time passed since reset (R209, log 113). -/
def State.endTick (s : State) : State :=
  let start := s.tck.start + s.tck.length
  { s with tck := { s.tck with start }, mcp := { s.mcp with cycles := Nat.max s.mcp.cycles (start / 2) } }

/-- What an item that lasts past a tick takes of the next tick's entries (R44, R48). -/
def pastTick (e : Nat × Nat) : Option (Nat × Nat) := if 64 < e.2 then some (e.1, e.2 - 64) else none

/-- The tick that begins with the counter at `next`, with the whole Ristretto allowance but for items still under way (R47): a multiple of 3,000,000 is a second of the counter (R35). -/
def State.beginTick (s : State) (next : Nat) : State :=
  { s with tck := { s.tck with
    tick := BitVec.ofNat 64 next, boundaries := s.tck.boundaries + 1, risUsed := s.tck.risNext.map (fun e => (e.1, Nat.min e.2 64))
    risNext := s.tck.risNext.filterMap pastTick, slotUsed := s.tck.slotUsed.filterMap pastTick
    second := if next % 3000000 == 0 then s.tck.start else s.tck.second } }

/-- The counter advanced, or loaded; arbiters rotate; a new tick begins with the whole Ristretto allowance. -/
def State.nextTickState (s : State) : State :=
  let next := s.nextTick
  let s := s.endTick
  let s := if s.loadDue then s.loadTick s.loadValue else s
  let s := s.beginTick next
  let s := s.slew.showLost.countMissed
  let s := if s.getB Reg.TCK_STATUS 4 then s.meterFlag 0 else s
  let s := if s.getB Reg.TCK_STATUS 5 then s.meterFlag 1 else s
  if s.tck.length == 1024 then s else s.meterFlag 2

/-! ## Signals and publishing (R19, R20, R26, R27) -/

/-- The data plane acts on the signals raised: a Yield level stops admission and the unit is to yield (R403); fences are in
effect (R177); tenants whose keys were cleared are refused (R132). -/
def State.actOnSignals (s : State) : State :=
  let sig := s.integ.signals
  let s := { s with
    integ := { s.integ with signals := [] }
    cle := { s.cle with fenced := s.fencedEngines, fencing := 0 } }
  let s := if sig.any (fun x => x.2.1 == 3) && s.twn.yieldedAt.isNone then
      { s with twn := { s.twn with yieldDue := true, stopped := true } } else s
  if sig.any (fun x => x.1 == 0x1A) then
    { s with win := { s.win with
      tenants := Maps.mapV (fun _ (t : Tenant) => { t with keyLost := t.keyLost || (t.encrypt && !t.destroyed) }) s.win.tenants } }
  else s

/-- An epoch of the twin is taken, and recorded (R385). -/
def State.takeEpoch (s : State) : State :=
  match s.twn.epochDue with
  | some n => (({ s with twn := { s.twn with epochDue := none } } : State).setEpoch n).recordEpoch
  | none => s

/-- Processed changes are published, and the commands whose journal group is Placed complete (R20, R578). -/
def State.publishAll (s : State) : State :=
  (s.publish.updBusy (fun p => if p.group.isNone then { p with tick := false } else p)).finishAll

/-- NOTIFY entries of clauses committed since the last boundary go to their rings (R26, R203). -/
def State.deliverAll (s : State) : State :=
  let out := s.ctl.outbound
  out.foldl (fun (s : State) (n : Nat × List Byte) => s.deliverNotify n.1 n.2) { s with ctl := { s.ctl with outbound := [] } }

/-- Tiles of ended requests, and of retired and failed stages, become Free; a fill of one still under way is given up (R225, R241, R247). -/
def State.freeTiles (s : State) : State :=
  let s := (s.stg.tiles.filter (fun e => e.2.freeing && e.2.state == .filling)).foldl (fun (s : State) e => s.cancelFill e.1) s
  { s with stg := { s.stg with tiles := s.stg.tiles.filter (fun e => !e.2.freeing) } }

/-- TWIN_SB_OUT toggles, in Yielded only where the counter is a multiple of 16 (R396). -/
def State.toggleSb (s : State) : State :=
  if s.pairState = 5 && s.now % 16 ≠ 0 then s else { s with twn := { s.twn with sbOut := !s.twn.sbOut } }

/-! ## Status registers (R26) -/

/-- A sum of numbers. -/
def sumOf (l : List Nat) : Nat := l.foldl (· + ·) 0

/-- A word register set to a number. -/
def State.show (s : State) (off v : Nat) : State := s.setReg off (BitVec.ofNat 32 v)

/-- TCK_TICK, TCK_FRAME and TCK_MINUTE (R32). -/
def State.showTime (s : State) : State :=
  let t := s.now
  ((s.setPair Reg.TCK_TICK_LO t).show Reg.TCK_FRAME (t % 3000 * 65536 + t / 3000 % 60000)).show Reg.TCK_MINUTE (t / 180000000)

/-- Paused priorities and miss-buffer occupancy of a physical port (R65, R80); a buffer with all 1,024 units taken shows 1,023, the most
that OCC can (DESIGN CHOICE, log 139). -/
def State.showPort (s : State) (n : Nat) : State :=
  let bits (f : Nat → Nat → Bool) : Nat :=
    sumOf ((upTo 8).map (fun q => if (upTo 4).any (fun k => f (4 * n + k) q) then 2 ^ q else 0))
  let occ := Nat.min 1023 (sumOf ((Maps.getD s.prt.miss n []).map (·.units)))
  let s := s.setF (Reg.PRT_STATUS + 0x1000 * n) 15 0 (bits s.paused * 256 + bits s.pausing)
  s.show (Reg.PRT_MISS_STATUS + 0x1000 * n) occ

/-- The Operation Table, full where no unreserved entry is free (R97), windows, tenants, QPs and the selected tenant's live counters
(R110, R120, R133, R137). -/
def State.showTables (s : State) : State :=
  let s := s.show Reg.TRN_OPT_STATUS s.trn.opt.length
  let s := s.setB Reg.TRN_STATUS 1 (!s.optFree .lungo false)
  let s := s.show Reg.WIN_OPEN_COUNT (Maps.count (fun (w : Window) => w.state == .opened || w.state == .closing) s.win.windows)
  let s := s.show Reg.WIN_CLOSING (Maps.count (fun (w : Window) => w.state == .closing) s.win.windows)
  let s := s.show Reg.WIN_PIN_COUNT s.win.pinStore.length
  let lost := s.win.tenants.any (fun e => e.2.keyLost)
  let s := s.show Reg.TEN_STATUS ((if s.ten.minutes = 0 then 0 else 2 ^ 14) + (if lost then 2 ^ 13 else 0) +
    Maps.count (fun (t : Tenant) => !t.destroyed) s.win.tenants)
  let m := match Maps.find (s.effF Reg.TEN_METER_SEL 11 0) s.win.tenants with | some t => t.meters | none => []
  (upTo 6).foldl (fun (s : State) k => s.setPair (Reg.TEN_METER_VAL_LO + 8 * k) (nthD m k 0)) s

/-- Request frames of a cluster in use, and those held by Ristretto requests (R146). -/
def State.showFrames (s : State) (c : Nat) : State :=
  let held := s.cle.reqs.filter (fun e => e.2.cluster == some c)
  s.show (Reg.CLE_FRAME_USE + 4 * c) ((held.filter (fun e => e.2.cls == .ristretto)).length * 65536 + held.length)

/-- Kinds of chip-originated work held for want of a valid entry: commands not begun, and requests not dispatched (R166). -/
def State.heldKinds (s : State) : List Nat :=
  let waits (r : Request) : Bool := r.chip && r.cluster.isNone && !s.groundsOk r.kind
  s.cle.grounds.map Prod.fst ++ (s.cle.reqs.filter (fun e => waits e.2)).map (fun e => e.2.kind)

/-- Engines, images and the program store (R23, R166, R172, R180). -/
def State.showEngines (s : State) : State :=
  let n := popCount s.cle.fenced.toNat 64
  let s := s.setF Reg.CLE_STATUS 22 18 (sumOf ((dedup s.heldKinds).map (fun k => 2 ^ (k - 8))))
  let s := s.setF Reg.CLE_STATUS 16 8 ((if 8 < n then 256 else 0) + n)
  let s := s.setF Reg.CLE_STATUS 6 0 (Maps.count (fun (x : Image) => x.state == 1 || x.state == 2) s.cle.images)
  let s := (s.setPair Reg.CLE_FENCED_LO s.cle.fenced.toNat).setPair Reg.CLE_GATED_LO s.cle.gated.toNat
  let lines := sumOf (s.cle.images.map (fun e => ceilDiv (8 * e.2.code.length) 64))
  let s := s.show Reg.CLE_STORE_STATUS ((4096 - s.storeUsed) * 65536 + (8192 - lines))
  (upTo 8).foldl State.showFrames s

/-- Tiles of a cluster (R224). -/
def State.showPool (s : State) (c : Nat) : State :=
  let t := s.stg.tiles.filter (fun e => e.1 / 512 == c)
  let filling := (t.filter (fun e => e.2.state == .filling)).length
  s.show (Reg.STG_POOL + 4 * c) ((512 - t.length) * 2 ^ 20 + filling * 2 ^ 10 + (t.length - filling))

/-- Where a line is read from, as STG_CHAN_STATUS.SOURCE shows it (R227, R244). -/
def State.lineSource (s : State) (line : Nat) : Nat :=
  if (s.newest line).isSome then 0
  else match Maps.find (pageOfLine line) s.win.pages with
    | some (.scm _ _) => 1
    | some (.nand _) => if Maps.has s.ntl.staged (pageOfLine line) then 2 else 3
    | none => 4

/-- The line a fill is moving: the lowest one still outstanding on a media link, else the tile's first; none for scratch. -/
def State.fillLine (s : State) (t : Nat) (x : Tile) : Option Nat :=
  match (s.transactions.filterMap (fun y => match y with | .fill l u => if u = t then some l else none | _ => none)) with
  | l :: ls => some (ls.foldl Nat.min l)
  | [] => if x.len = 0 then none else some (x.base / 64)

/-- A channel's status while a fill runs on it: its tile and the line it is moving (R244, log 85). -/
def State.showFill (s : State) (c k : Nat) : State :=
  let ch := s.chan c k
  if ch.halted then s
  else match ch.tile with
    | some t => match Maps.find t s.stg.tiles with
      | some x => match s.fillLine t x with
        | some l => s.showChan c k t 0 (s.lineSource l) (l * 64) x false
        | none => s.showChan c k t 0 4 0 x false
      | none => s.resetRange (chanReg c k) (chanReg c k + 16)
    | none => s.resetRange (chanReg c k) (chanReg c k + 16)

/-- The stager's channels and tile pools. -/
def State.showStager (s : State) : State :=
  let halted := s.stg.channels.filter (fun e => e.2.halted)
  let s := s.setF Reg.STG_STATUS 6 0 halted.length
  let s := s.stg.channels.foldl (fun (s : State) e => s.showFill (e.1 / 8) (e.1 % 8)) s
  (upTo 8).foldl State.showPool s

/-- A media link's status (R261, R262, R275). -/
def State.showLink (s : State) (m : Nat) : State :=
  let l := s.link m
  let st := if l.state = 2 && l.foreign then 6 else l.state
  let s := s.show (linkReg Reg.MED_LINK_STATUS m) (st * 2 ^ 29 + l.refuse * 65536 + l.credits)
  let s := s.setReg (linkReg Reg.MED_LINK_CAP m) l.cap
  let s := s.setPair (linkReg Reg.MED_LINK_ID_LO m) l.identity.toNat
  s.show (linkReg Reg.MED_LINK_FREE m) (s.freeFrames m)

/-- The media tier's status: links up and lost, the pool, the poison list, the scrub pass (R269, R274, R275, R281). -/
def State.showMedia (s : State) : State :=
  let mask (p : MLinkRec → Bool) : Nat := sumOf ((upTo 16).map (fun m => if p (s.link m) then 2 ^ m else 0))
  let s := s.show Reg.MED_STATUS (mask (fun l => l.state == 4) * 65536 + mask (fun l => l.state == 2))
  let present := (upTo 16).filter (fun m => 2 ≤ (s.link m).state && (s.link m).state ≠ 5)
  let s := s.show Reg.MED_POOL_TOTAL (present.length * s.poolFrames)
  let s := s.show Reg.MED_POOL_FREE (sumOf (present.map s.freeFrames))
  let s := s.show Reg.MED_POISON s.med.poison.length
  let done := sumOf (present.map (fun m => Maps.getD s.med.scrubNext m 0))
  let total := present.length * 2 ^ 25
  let s := s.setF Reg.MED_SCRUB_STATUS 9 0 (if total = 0 then 0 else done * 1000 / total)
  (upTo 16).foldl State.showLink s

/-- FENCEs of requests that are not complete. -/
def State.openFences (s : State) : List FenceRec := s.cle.reqs.flatMap (fun e => e.2.fences.filter (fun f => !f.done))

/-- The placement buffer, the fronts and the journal (R352, R354, R357, R374, R387). -/
def State.showDurability (s : State) : State :=
  let mode := if !s.inRun then 0 else if s.dur.solo then 2 else 1
  let s := s.setF Reg.DUR_STATUS 31 30 mode
  let s := s.show Reg.DUR_PB_STATUS s.dur.pb.length
  let s := s.show Reg.DUR_PB_MIRROR (s.dur.pb.filter (·.mirror)).length
  let f := s.openFences
  let oldest := (f.map (fun x => s.now - x.tick)).foldl Nat.max 0
  let s := s.show Reg.DUR_FLUSH_STATUS (Nat.min 65535 f.length * 65536 + Nat.min 65535 oldest)
  let s := s.show Reg.DUR_INTENT_STATUS (Maps.count (fun (x : Intent) => x.valid) s.dur.intents)
  let fill := (Config.journalFill (s.dur.journalOpen.length + s.dur.journalPlaced.length + s.dur.applying.length)).toNat
  s.show Reg.DUR_JOURNAL_STATUS (fill * 2 ^ 24 + s.dur.journalSeq % 2 ^ 24)

/-- Pages of the copy that have not yet reached the twin. -/
def State.copyLeft (s : State) : Nat :=
  let frames (b : BundleRec) : List TwinFrame := b.unacked.map (·.frame) ++ b.held.map (·.frame)
  (dedup ((frames s.twn.bundle0 ++ frames s.twn.bundle1).filterMap
    (fun f => match f with | .copyLine l _ _ _ => some (pageOfLine l) | _ => none))).length

/-- The twin link and a resynchronization (R393, R395, R416). -/
def State.showTwin (s : State) : State :=
  let age := if s.twn.hb.isSome then s.now - s.twn.hbTick else 65535
  let s := s.show Reg.TWN_LINK_STATUS (Nat.min 65535 (s.twn.credit / 64) * 65536 + Nat.min 65535 age)
  match s.twn.resync with
  | none => s.setF Reg.TWN_RESYNC_STATUS 9 0 0
  | some x =>
    let left := s.copyLeft
    let s := s.setF Reg.TWN_RESYNC_STATUS 9 0 (if x.pages = 0 then 0 else Nat.min 999 ((x.pages - left) * 1000 / x.pages))
    s.show Reg.TWN_RESYNC_LEFT (ceilDiv left 1024)

/-- What select registers choose among (R26). -/
def State.takeSnap (s : State) : State :=
  let image (k : Nat) (x : Image) : List Word :=
    [BitVec.ofNat 32 (x.state * 2 ^ 30 + x.blocks * 2 ^ 12 + x.records.length), x.id, x.version,
     BitVec.ofNat 32 (s.cle.reqs.filter (fun e => e.2.slot == some k)).length]
  { s with snap := {
      images := Maps.mapV image s.cle.images
      fronts := Maps.mapV (fun _ (c : Qp) => [c.acc, c.plc, c.mir]) s.trn.qps
      qps := Maps.mapV (fun _ (c : Qp) =>
        (c.state.num + c.cls.num * 2 ^ 4 + c.tenant * 2 ^ 16, c.ePsn.toNat, c.reqNext.toNat)) s.trn.qps
      tiles := Maps.mapV (fun k (t : Tenant) => BitVec.ofNat 32 (t.tileQuota * 65536 + s.tilesOf k)) s.win.tenants } }

/-- Data-plane status registers brought up to date, and copied for the control port and the MCP (R26). -/
def State.refreshCopies (s : State) : State :=
  let s := (upTo 8).foldl State.showPort s.showTime
  let s := s.showTables.showEngines.showStager.showMedia.dramTick.showNand.showDurability.showTwin.showKeys.takeSnap
  { s with bar := { s.bar with copy := s.bar.val } }

/-- TICK_BOUNDARY (R31). -/
def execTickBoundary (s : State) : Result :=
  .next (
    if !s.clocked then s
    else
      let s := s.nextTickState.actOnSignals.actOnPair.takeEpoch.publishAll.deliverAll.freeTiles
      let s := s.overrunAll.moveAll.switchPages.runHeld.fenceAll.wakeAll.watchEngines.dispatchAll
      let s := ((((s.flushAcks.nandBoundary.pumpLinks).pumpChannels).pumpTwin false).pumpTwin true).holdStep.moveOnfi
      s.toggleSb.refreshCopies)

end Sys2Proof.Machine
end

