-- ==== Sys2Proof/Machine/Meters.lean ====
section
/-! DEFINITION. Tenant meters: what is sampled at frame boundaries (R133, R134), the batch of a minute mark (R135–R137) and its
signature (R138). -/

namespace Sys2Proof.Machine

open Sys2Proof

/-- Each page of a served side's extents counted once, as a page frame of its tier (R133, R134). -/
def State.samplePages (s : State) : State :=
  s.win.pages.foldl (fun (s : State) (p : Nat × PageLoc) =>
    match s.extent (p.1 / 128) with
    | some x => if s.serves x.sideB then s.addMeter x.tenant (match p.2 with | .scm _ _ => 3 | .nand _ => 4) 1 else s
    | none => s) s

/-- TEN_BATCH_CFG.SLOTS; values outside 2 to 256 act as the nearest limit. -/
def State.batchSlots (s : State) : Nat := clamp 2 256 (s.effF Reg.TEN_BATCH_CFG 8 0)

/-- The slots that a move of TEN_BATCH_RD from `old` to `new` has passed are read (R137). -/
def State.batchRead (s : State) (old new : Nat) : State :=
  let n := s.batchSlots
  let passed := (upTo ((new + n - old % n) % n)).map (fun k => (old + k) % n)
  { s with ten := { s.ten with unread := s.ten.unread.filter (fun k => !passed.contains k) } }

/-- A tenant's record of a batch (R135). -/
def Tenant.record (id : Nat) (t : Tenant) : List Byte :=
  leBytes id 2 ++
  leBytes ((if t.createdInPeriod then 1 else 0) + (if t.destroyed then 2 else 0) + (if t.keyLost then 4 else 0)) 2 ++
  leBytes 0 4 ++ t.meters.flatMap (fun m => leBytes m 8) ++ leBytes 0 8

/-- A batch without its signature (R135). -/
def State.batchBytes (s : State) (mark : Nat) : List Byte :=
  let flags := s.ten.flags % 8 + (if s.ten.minutes = 0 then 0 else 8) + s.ten.flags / 16 % 2 * 16
  leBytes 1 2 ++ leBytes (sideNum s.sideB) 1 ++ leBytes flags 1 ++ leBytes s.win.tenants.length 4 ++ leBytes s.ten.seq 8 ++
  leBytes s.ten.firstMinute 8 ++ leBytes (s.ten.minutes + 1) 4 ++ leBytes 0 4 ++ (upTo 16).map Config.factory ++
  leBytes mark 8 ++ leBytes 0 8 ++ s.win.tenants.flatMap (fun e => e.2.record e.1)

/-- Bytes put at a DRAM address: those that fall in the control-software region, whose base is
latched with the memories' training (R284, R287, R581). -/
def State.putRegion (s : State) (addr : Nat) (bytes : List Byte) : State :=
  let base := s.drc.userBase * 2 ^ 30
  if base ≤ addr && addr + bytes.length ≤ base + 2 ^ 30 then
    { s with ctl := { s.ctl with region := s.ctl.region.setBytes (addr - base) bytes } }
  else s

/-- DRAM address of a batch slot (R135). -/
def State.batchAddr (s : State) (slot : Nat) : Nat :=
  s.effF Reg.TEN_BATCH_BASE_HI 7 0 * 2 ^ 32 + s.effF Reg.TEN_BATCH_BASE_LO 31 16 * 2 ^ 16 + 270336 * slot

/-- A new meter period begins at a mark: counters at 0, destroyed tenants gone, their IDs free (R135, R136). -/
def State.newPeriod (s : State) (mark : Nat) : State :=
  { s with
    ten := { s.ten with firstMinute := mark / 180000000, minutes := 0, flags := 0 }
    win := { s.win with tenants := Maps.mapV (fun _ (t : Tenant) =>
      { t with meters := [0, 0, 0, 0, 0, 0], createdInPeriod := false }) (s.win.tenants.filter (fun e => !e.2.destroyed)) } }

/-- The batch of a minute mark written to the slot at TEN_BATCH_WR (R135). -/
def State.writeBatch (s : State) (mark : Nat) : State :=
  let slot := s.getF Reg.TEN_BATCH_WR 7 0 % s.batchSlots
  let bytes := s.batchBytes mark
  let seq := s.ten.seq
  let s := s.putRegion (s.batchAddr slot) bytes
  let s := { s with ten := { s.ten with
    seq := seq + 1, unread := s.ten.unread ++ [slot], ring := Maps.put slot bytes s.ten.ring
    unsigned := s.ten.unsigned ++ [(slot, seq, bytes, mark)] } }
  let s := s.setF Reg.TEN_BATCH_WR 7 0 ((slot + 1) % s.batchSlots)
  (s.setPair Reg.TEN_BATCH_SEQ_LO seq).newPeriod mark

/-- No batch can be written: its slot is unread, a channel of the writer is halted, or the unit is in P2 (R137, R513, R586). -/
def State.batchHeld (s : State) : Bool :=
  s.ten.unread.contains (s.getF Reg.TEN_BATCH_WR 7 0 % s.batchSlots) || s.dmaHalted 6 || s.dmaHalted 7 || s.powerState == 2

/-- MINUTE_MARK, before the tick boundary it coincides with: the batch, or the minute's counts carried forward (R25, R135–R137);
the reference and the temperature bin (R344, R542). -/
def execMinuteMark (refRaw : BitVec 16) (resid : List (BitVec 15)) (s : State) : Result :=
  .next (
    if !s.clocked || !s.minuteDue then s
    else
      let s := if s.batchHeld then { s with ten := { s.ten with minutes := s.ten.minutes + 1 } } else s.writeBatch s.nextTick
      s.nandMinute.checkRef refRaw resid)

/-- METER_BATCH_SIGNED: the oldest batch not yet signed gets its signature and is announced (R138); it waits while MB1 is halted,
and the signature goes by the BASE then in force (log 131). -/
def execMeterBatchSigned (s : State) : Result :=
  .next (match s.ten.unsigned with
    | [] => s
    | (slot, seq, bytes, _) :: rest =>
      if s.dmaHalted 7 then s
      else
        let sig := slice (Config.ed25519ph bytes) 0 64
        let s := s.putRegion (s.batchAddr slot + bytes.length) sig
        let s := { s with ten := { s.ten with unsigned := rest, ring := Maps.put slot (bytes ++ sig) s.ten.ring } }
        s.notify 0x11 0 0 (BitVec.ofNat 64 slot) (BitVec.ofNat 64 seq) 0)

end Sys2Proof.Machine
end

