-- ==== Sys2Proof/Machine/Transport.lean ====
section
/-! DEFINITION. The meanings of the port and transport commands (chapter 03): links, received frames and packets, the
fetches and timers of the transport, and the start of a frame at a port's egress. -/

namespace Sys2Proof.Machine

open Sys2Proof


/-! ## Links -/

/-- LOGICAL_PORT_UP: the link of a logical port of the mode in force comes up, trained by auto-negotiation with AN_EN 1 and forced
to the mode's speed with AN_EN 0; frames held for it are sent (R60, R94). -/
def execLogicalPortUp (lp : Fin 32) (s : State) : Result :=
  .next (
    if !s.lpExists lp then s
    else
      let an := s.effB (prtReg Reg.PRT_MODE lp) 4
      let forced := if an then Maps.del lp.val s.prt.forced else Maps.put lp.val true s.prt.forced
      (({ s with prt := { s.prt with forced } } : State).setB (prtReg Reg.PRT_STATUS lp) (16 + lp % 4) true).sendHeld)

/-- LOGICAL_PORT_DOWN: its QPs send on ALT_LP, or their frames are held (R94). -/
def execLogicalPortDown (lp : Fin 32) (s : State) : Result := .next (s.portDown lp)

/-! ## RoCEv2 packets -/

/-- RDMA_READ_REQUEST: received; copies of the window check that differ hold it and report fault 0x08 (R438). -/
def execRdmaReadRequest (p : Pkt) (r : Reth) (copiesDiffer : Bool) (s : State) : Result :=
  .next (s.receiveThen p 0x0C (.read r) (fun s =>
    if copiesDiffer then (s.report 0x08 (p.lp / 4)).joinMiss p (.read r) else s.admitPkt p (.read r) false))

/-- RDMA_WRITE_FIRST: a WRITE First or Only packet received (R145). -/
def execRdmaWriteFirst (p : Pkt) (r : Reth) (only : Bool) (payload : List Byte) (s : State) : Result :=
  .next (s.receive p (if only then 0x0A else 0x06) (.write (if only then .only else .first) r payload))

/-- RDMA_WRITE_MIDDLE: a WRITE Middle or Last packet received (R118). -/
def execRdmaWriteMiddle (p : Pkt) (last : Bool) (payload : List Byte) (s : State) : Result :=
  .next (s.receive p (if last then 0x08 else 0x07)
    (.write (if last then .last else .middle) { rkey := 0, va := 0, len := 0 } payload))

/-- CMPSWAP received (R74). -/
def execCmpswap (p : Pkt) (rkey : Word) (va cmp swap : DWord) (s : State) : Result :=
  .next (s.receive p 0x13 (.cmpSwap rkey va cmp swap))

/-- FETCHADD received (R74). -/
def execFetchadd (p : Pkt) (rkey : Word) (va add : DWord) (s : State) : Result :=
  .next (s.receive p 0x14 (.fetchAdd rkey va add))

/-- ATOMIC_WRITE received (R74). -/
def execAtomicWrite (p : Pkt) (rkey : Word) (va data : DWord) (s : State) : Result :=
  .next (s.receive p 0x1D (.atomicWrite rkey va data))

/-- FLUSH received (R73). -/
def execFlush (p : Pkt) (r : Reth) (sel placement : Byte) (s : State) : Result :=
  .next (s.receive p 0x1C (.flush r sel placement))

/-- BTH opcode of a SEND packet (R69). -/
def sendBth : Part → Nat
  | .first => 0x00
  | .middle => 0x01
  | .last => 0x02
  | .only => 0x04

/-- SEND received (R75). -/
def execSend (p : Pkt) (part : Part) (payload : List Byte) (s : State) : Result :=
  .next (s.receive p (sendBth part) (.send part payload))

/-- ACKNOWLEDGE received for the chip's requester sequence (R90). -/
def execAcknowledge (p : Pkt) (kind : AckKind) (s : State) : Result := .next (s.receive p 0x11 (.ack kind))

/-- CNP_RECEIVED (R92, R93). -/
def execCnpReceived (p : Pkt) (s : State) : Result := .next (s.receive p 0x81 .cnp)

/-- RDMA_READ_RESPONSE_RX: dropped without answer and counted; no state of the QP changes (R70). -/
def execRdmaReadResponseRx (p : Pkt) (opcode : Byte) (s : State) : Result :=
  .next (s.arrive p opcode.toNat .readResponse (fun s => s.bump (prtReg Reg.PRT_DROP_OTHER p.lp)))

/-- UNSUPPORTED_OPCODE: another RC opcode is a request of no valid kind; a packet of another transport is dropped (R70). -/
def execUnsupportedOpcode (p : Pkt) (rc : Bool) (opcode : Byte) (s : State) : Result :=
  .next (if rc then s.receive p opcode.toNat (.unsupported opcode) else s.arrive p opcode.toNat (.unsupported opcode) id)

/-! ## Other frames -/

/-- The MAC address of a logical port in force, big-endian bytes. -/
def State.lpMac (s : State) (lp : Nat) : List Byte := beBytes (s.lpMacNat lp) 6

/-- ARP_REQUEST: answered in hardware when it asks for the port's enabled IPv4 address, otherwise dropped (R61). The
answer's data are the port's addresses and then the asker's. -/
def execArpRequest (lp : Fin 32) (vlan : Option (BitVec 12)) (target : Word) (senderMac : BitVec 48) (senderIp : Word)
    (s : State) : Result :=
  .next (
    if !s.lpUp lp then s
    else if s.vlanOk lp (vlan.map BitVec.toNat) && s.effB (lpReg Reg.PRT_LP_CFG lp) 13 && s.effF (lpReg Reg.PRT_LP_IPV4 lp) 31 0 == target.toNat then
      let data := s.lpMac lp ++ beBytes target.toNat 4 ++ beBytes senderMac.toNat 6 ++ beBytes senderIp.toNat 4
      s.enqueue lp { kind := .arpReply, bth := 0, data }
    else s.bump (prtReg Reg.PRT_DROP_OTHER lp))

/-- NEIGHBOR_SOLICITATION: answered in hardware when it asks for the port's enabled IPv6 address (R61). -/
def execNeighborSolicitation (lp : Fin 32) (vlan : Option (BitVec 12)) (target : BitVec 128) (senderMac : BitVec 48)
    (senderIp : BitVec 128) (s : State) : Result :=
  .next (
    if !s.lpUp lp then s
    else if s.vlanOk lp (vlan.map BitVec.toNat) && s.effB (lpReg Reg.PRT_LP_CFG lp) 14 && s.lpIpv6 lp == target.toNat then
      let data := s.lpMac lp ++ beBytes target.toNat 16 ++ beBytes senderMac.toNat 6 ++ beBytes senderIp.toNat 16
      s.enqueue lp { kind := .neighborAdvert, bth := 0, data }
    else s.bump (prtReg Reg.PRT_DROP_OTHER lp))

/-- PFC_FRAME: the named priorities whose RX_EN bit is 1 are paused for their quanta, counted from the tick's beginning, or lifted
by 0 (R64, log 104). -/
def execPfcFrame (lp : Fin 32) (quanta : List (Fin 8 × BitVec 16)) (s : State) : Result :=
  .next (
    if !s.lpUp lp then s
    else quanta.foldl (fun s e =>
      if s.effB (prtReg Reg.PRT_PFC_CFG lp) e.1 then
        let m := if e.2 = 0 then Maps.del (prioKey lp e.1) s.prt.pausedRx
          else Maps.put (prioKey lp e.1) (s.tck.start + s.quantaCycles lp e.2.toNat) s.prt.pausedRx
        { s with prt := { s.prt with pausedRx := m } }
      else s) s)

/-- PFC_PAUSE_EXPIRY: a pause that ends within the present tick is over (R64). -/
def execPfcPauseExpiry (lp : Fin 32) (prio : Fin 8) (s : State) : Result :=
  .next (
    if s.tck.start + s.tck.length < Maps.getD s.prt.pausedRx (prioKey lp prio) 0 then s
    else { s with prt := { s.prt with pausedRx := Maps.del (prioKey lp prio) s.prt.pausedRx } })

/-- OTHER_FRAME_DROP: counted (R61); an IEEE 1588 event message is captured first when PTP_EN is 1 (R68). -/
def execOtherFrameDrop (lp : Fin 32) (ptp : Option PtpEvent) (s : State) : Result :=
  .next (
    if !s.lpUp lp then s
    else
      let s := match ptp with
        | some e => if s.effB (prtReg Reg.PRT_TS_CFG lp) 25 then
            s.capture lp false false e.cycle e.type.toNat e.seq.toNat else s
        | none => s
      s.bump (prtReg Reg.PRT_DROP_OTHER lp))

/-- BAD_CRC_FRAME: dropped without answer and counted (R62). -/
def execBadCrcFrame (lp : Fin 32) (s : State) : Result :=
  .next (if s.lpUp lp then s.bump (prtReg Reg.PRT_DROP_CRC lp) else s)

/-- The last PFC for a priority was sent 0x8000 quanta before the end of this tick, or earlier (R65). -/
def State.repeatDue (s : State) (lp q : Nat) : Bool :=
  decide (Maps.getD s.prt.pauseTx (prioKey lp q) 0 + s.quantaCycles lp 0x8000 ≤ s.tck.start + s.tck.length)

/-- PFC_REPEAT: the occupancy of an asserted priority is `occ` now: at XON or below its PFC is lifted; above, it is sent again once
0x8000 quanta have passed (R65). A yielded unit repeats it whatever the occupancy (R404). -/
def execPfcRepeat (lp : Fin 32) (prio : Fin 8) (occ : Nat) (s : State) : Result :=
  .next (
    if !s.pausing lp prio then s
    else
      let s := s.ingress lp prio occ
      if s.pausing lp prio && s.repeatDue lp prio then s.sendPfc lp prio 0xFFFF else s)

/-! ## Fetches and invalidations -/

/-- The fetched hot part of a QP installed in the way kept for it, over the victim (R78, R80). -/
def State.installQp (s : State) (q : BitVec 24) : State :=
  let at' := Maps.getD s.trn.installs q.toNat (qpSet q, (Maps.getD s.trn.cache (qpSet q) {}).target (s.taken q))
  let cs := Maps.getD s.trn.cache at'.1 {}
  let wb := match Maps.find at'.2 cs.ways with
    | some (v, _) => Maps.del v s.trn.writeback
    | none => s.trn.writeback
  { s with trn := { s.trn with
      cache := Maps.put at'.1 (cs.install at'.2 q.toNat (s.inMiss q)) s.trn.cache
      writeback := Maps.del q.toNat wb
      installs := Maps.del q.toNat s.trn.installs } }

/-- CONTEXT_FETCH_DONE: the hot part is installed and the QP's packets go to admission; `occ` is the ingress occupancy
left of the first one's priority (R65, R80). -/
def execContextFetchDone (qpn : BitVec 24) (occ : Nat) (s : State) : Result :=
  .next (
    if !Maps.has s.trn.fetching qpn.toNat then s
    else
      let first := (s.prt.miss.flatMap (·.2)).find? (fun e => e.pkt.qpn == qpn)
      let s := { s with trn := { s.trn with fetching := Maps.del qpn.toNat s.trn.fetching } }
      let s := if (s.qp qpn).isSome then s.installQp qpn else s
      let s := s.drainMiss qpn
      match first with
      | some e => s.ingress e.pkt.lp (s.rxPrio e.pkt) occ
      | none => s)

/-- DESCRIPTOR_FETCH_DONE: the descriptor enters the key cache and the packets that waited proceed (R120, R121). -/
def execDescriptorFetchDone (index : BitVec 24) (s : State) : Result :=
  .next (
    let i := index.toNat
    if !Maps.has s.win.fetching i then s
    else
      let cs := Maps.getD s.win.keyCache (keySet i) {}
      let keyCache := if s.keyPresent i then s.win.keyCache
        else Maps.put (keySet i) (cs.install (cs.target []) i false) s.win.keyCache
      let s := { s with win := { s.win with fetching := Maps.del i s.win.fetching, keyCache } }
      s.missQps.foldl (fun s q => s.drainMiss (BitVec.ofNat 24 q)) s)

/-- CONTEXT_INVALIDATION_DONE: store and cache are empty, and INVAL_DONE is set (R79). -/
def execContextInvalidationDone (s : State) : Result :=
  .next (if s.getB Reg.TRN_STATUS 0 then s
    else ({ s with trn := { s.trn with store := [], cache := [] } }).setB Reg.TRN_STATUS 0 true)

/-- KEY_CACHE_INVALIDATION_DONE: pinned key store and key cache are empty, and KC_INVAL_DONE is set (R120). -/
def execKeyCacheInvalidationDone (s : State) : Result :=
  .next (if s.getB Reg.WIN_STATUS 0 then s
    else ({ s with win := { s.win with pinStore := [], keyCache := [] } }).setB Reg.WIN_STATUS 0 true)

/-! ## Timers -/

/-- Ticks of an ACK timeout code: 4.096 µs × 2^code (R90). -/
def ackTicks (code : Nat) : Nat := ceilDiv (12288 * 2 ^ code) 1000

/-- ACK_TIMEOUT: retransmits from the oldest unacknowledged PSN, or moves the QP to Error (R90). -/
def execAckTimeout (qpn : BitVec 24) (s : State) : Result :=
  .next (match s.qp qpn with
    | none => s
    | some c =>
      match c.unacked with
      | [] => s
      | f :: _ =>
        if c.state ≠ .rts || c.ackCode = 0 || c.rnrUntil.isSome || s.now - c.sentTick < ackTicks c.ackCode then s
        else if c.retriesLeft = 0 then s.requesterError qpn
        else (s.setQp qpn { c with retriesLeft := c.retriesLeft - 1 }).retransmit qpn f.psn)

/-- RNR_TIMER_EXPIRY: retransmits from the NAK's PSN (R90). -/
def execRnrTimerExpiry (qpn : BitVec 24) (s : State) : Result :=
  .next (match s.qp qpn with
    | none => s
    | some c =>
      match c.rnrUntil with
      | none => s
      | some (t, p) => if s.now < t then s else (s.setQp qpn { c with rnrUntil := none }).retransmit qpn p)

/-- CC_RATE_INCREASE: after CC_INC_TICKS without a CNP the rate rises by CC_AI, to 256 at most (R92). -/
def execCcRateIncrease (qpn : BitVec 24) (s : State) : Result :=
  .next (match s.qp qpn with
    | none => s
    | some c =>
      if !s.isPaced c || c.rate = 256 || s.now - c.rateTick < Nat.max 1 (s.effF Reg.TRN_CC_CFG2 15 0) then s
      else s.setQp qpn { c with rate := Nat.min (c.rate + s.effF Reg.TRN_CC_CFG 31 24) 256, rateTick := s.now })

/-- PACED_RELEASE: the next frame of a paced QP is released once its interval has passed (R92). -/
def execPacedRelease (qpn : BitVec 24) (s : State) : Result :=
  .next (match s.qp qpn, Maps.getD s.trn.paceq qpn.toNat [] with
    | some c, f :: fs =>
      if s.isPaced c && s.tck.start < c.paceAt then s
      else
        let m := if fs.isEmpty then Maps.del qpn.toNat s.trn.paceq else Maps.put qpn.toNat fs s.trn.paceq
        let s := { s with trn := { s.trn with paceq := m } }
        s.sendNow qpn c f
    | _, _ => s)

/-! ## Egress -/

/-- A frame the port sends of itself, before any class: PFC, ARP and neighbour answers. -/
def Frame.ofPort (f : Frame) : Bool := f.kind == .pfc || f.kind == .arpReply || f.kind == .neighborAdvert

/-- CCLK a frame occupies the port, with preamble and gap (20 B, R43). -/
def State.frameCycles (s : State) (lp : Nat) (f : Frame) : Nat :=
  let c := (s.qp f.qpn).getD {}
  let n := if f.ofPort then 64 else frameLen c f
  ceilDiv ((n + 20) * 8 * s.cclkPerBit lp) 3125

/-- The next frame of a class: its oldest, but a notice goes ahead of other SENDs of the chip (R95). -/
def nextOf (fs : List Frame) (cls : Nat) : Option Frame :=
  let mine := fs.filter (fun f => !f.ofPort && f.cls.num == cls)
  match mine with
  | [] => none
  | f :: _ => if f.kind == .invokeReply then some ((mine.find? (fun g => g.kind == .notice)).getD f) else some f

/-- The slot-table entry that governs a cycle of a logical port (R44, log 101). -/
def entryAt (cycle : Nat) : Nat := Nat.min (cycle / 16) 63

/-- Frames of a class are ready to go on a logical port (R64). -/
def State.readyFrame (s : State) (lp c : Nat) : Option Frame :=
  if s.paused lp (s.classPrio lp (Cls.ofNum c)) then none else nextOf (Maps.getD s.prt.egress lp []) c

/-- The entry of a cycle is lent, as settled when the port first looked at it: it names Ristretto, of which nothing was pending
(R46, log 101). -/
def State.lent (s : State) (lp cycle : Nat) : Bool :=
  match Maps.find lp s.prt.loans with
  | some (t, l) => if t = s.tck.start + 16 * entryAt cycle then l else s.slot lp (entryAt cycle) == 0 && (s.readyFrame lp 0).isNone
  | none => s.slot lp (entryAt cycle) == 0 && (s.readyFrame lp 0).isNone

/-- The loan of a cycle's entry settled. -/
def State.settleLoan (s : State) (lp cycle : Nat) : State :=
  { s with prt := { s.prt with loans := Maps.put lp (s.tck.start + 16 * entryAt cycle, s.lent lp cycle) s.prt.loans } }

/-- The frame that starts on a logical port in a cycle: none while an earlier one is on the wire (R48); the port's own first, then
by R45 to R48 and R64; a lent Ristretto entry takes only a frame that ends within it (R46). Cycle 1,024 of a long slew tick is
governed by entry 63 (log 101). -/
def State.chooseFrame (s : State) (lp cycle : Nat) : Option Frame :=
  let fs := Maps.getD s.prt.egress lp []
  if s.tck.start + cycle < Maps.getD s.prt.busy lp 0 then none
  else match fs.find? Frame.ofPort with
  | some f => some f
  | none =>
    (s.grantOrder lp (entryAt cycle)).findSome? (fun c =>
      match s.readyFrame lp c with
      | some f => if c ≠ 0 && s.lent lp cycle && 16 * entryAt cycle + 16 < cycle + s.frameCycles lp f then none else some f
      | none => none)

/-- PORT_EGRESS: at most one frame starts on the port, marked with its class's PCP and DSCP and the ECN codepoint, and
captured when selected (R45, R63, R67, R68). -/
def execPortEgress (lp : Fin 32) (cycle : Fin 1025) (s : State) : Result :=
  .next (
    if !s.lpUp lp || s.sqr.serdesIdle then s
    else
    let s := s.settleLoan lp cycle
    match s.chooseFrame lp cycle with
    | none => s
    | some f =>
      let fs := (Maps.getD s.prt.egress lp []).erase f
      let egress := if fs.isEmpty then Maps.del lp s.prt.egress else Maps.put lp fs s.prt.egress
      let out := if f.ofPort then f else
        { f with ect0 := s.effB Reg.TRN_CTRL 0, pcp := s.classPrio lp f.cls, dscp := s.classDscp lp f.cls }
      let slots := ceilDiv (s.frameCycles lp f) 16
      let tenant := match s.qp f.qpn with | some c => c.tenant | none => 0
      let s := { s with prt := { s.prt with
        egress, sent := Maps.put lp (out, s.now, cycle.val) s.prt.sent
        busy := Maps.put lp (s.tck.start + cycle + s.frameCycles lp f) s.prt.busy } }
      if f.ofPort then s
      else
        let s := if f.cls == .ristretto then s.useRis lp (entryAt cycle) slots tenant else s
        s.captureQp lp true f.qpn cycle f.bth f.psn)

end Sys2Proof.Machine
end

