-- ==== Sys2Proof/Machine/Frame.lean ====
section
/-! DEFINITION. FRAME_BOUNDARY (R32): slot tables (R49, R50, R53–R55, R588), the conjugation table (R173), staged register fields
(R19, point 2), port modes (R60), and what each block does once a frame. It stands before the tick boundary it coincides with. -/

namespace Sys2Proof.Machine

open Sys2Proof

/-! ## Slot tables (R43, R588) -/

/-- A slot table: entry i in bits [2i + 1:2i]. -/
abbrev SlotTable := BitVec 128

/-- Class number of an entry. -/
def SlotTable.entry (t : SlotTable) (i : Nat) : Nat := fld t (2 * i + 1) (2 * i)

/-- The table with an entry of another class. -/
def SlotTable.set (t : SlotTable) (i c : Nat) : SlotTable := setFld t (2 * i + 1) (2 * i) c

/-- Entries of a class. -/
def SlotTable.count (t : SlotTable) (c : Nat) : Nat := ((upTo 64).filter (fun i => t.entry i == c)).length

/-- Both views after reset: entries 0–55 Lungo, 56–61 Drip, 62–63 Grounds. -/
def resetTable : SlotTable := 0xFAAA5555555555555555555555555555#128

/-- The four words of a table in a register file. -/
def State.tableAt (s : State) (base n : Nat) : SlotTable :=
  BitVec.ofNat 128 (leNat ((upTo 4).flatMap (fun w => leBytes (s.reg (base + 16 * n + 4 * w)).toNat 4)))

/-- The four words of an effective table shown. -/
def State.setEff (s : State) (n : Nat) (t : SlotTable) : State :=
  (upTo 4).foldl (fun (s : State) w => s.setReg (Reg.TCK_SLOT_EFF + 16 * n + 4 * w)
    (BitVec.ofNat 32 (fld t (32 * w + 31) (32 * w)))) s

/-- Step 1 of R588: the staged table, unless R50 holds it or R49 refuses it. -/
def State.applyTable (s : State) (n : Nat) : State :=
  let t := s.tableAt Reg.TCK_SLOT_STG n
  if s.getB Reg.TCK_CTRL 8 then s
  else if 16 < t.count 0 then s.setB (Reg.TCK_SLOT_ERR + 4 * (n / 32)) (n % 32) true
  else { s with tck := { s.tck with applied := Maps.wr (fun _ => resetTable) s.tck.applied n t } }

/-- The highest entries, at most `k` of those that satisfy `p`, given class `c`. -/
def SlotTable.raise (t : SlotTable) (k : Nat) (p : Nat → Bool) (c : Nat) : SlotTable :=
  (((upTo 64).reverse.filter p).take k).foldl (fun t i => t.set i c) t

/-- Step 2 of R588: the conversions of R54 with an urgency and a STEP. -/
def SlotTable.urge (t : SlotTable) (u step : Nat) : SlotTable := t.raise (u * step) (fun i => t.entry i == 2) 1

/-- Step 3 of R588: for each Ristretto entry on a dead strand an entry of a live one becomes Ristretto, Lungo entries first, then
Drip, each from the highest index down (R55). -/
def SlotTable.remap (t : SlotTable) (dead : Nat → Bool) : SlotTable :=
  let k := ((upTo 64).filter (fun i => dead i && t.entry i == 0)).length
  let lungo (i : Nat) : Bool := !dead i && t.entry i == 1
  let n := ((upTo 64).filter lungo).length
  (t.raise k lungo 0).raise (k - n) (fun i => !dead i && t.entry i == 2) 0

/-- TCK_SHARE_CFG.STEP; values above 16 act as 16. -/
def State.slotStep (s : State) : Nat := Nat.min 16 (s.effF Reg.TCK_SHARE_CFG 4 0)

/-- The effective table of an instance (R588). -/
def State.buildTable (s : State) (n : Nat) : SlotTable :=
  let t := Maps.rd (fun _ => resetTable) s.tck.applied n
  let chip := (s.tck.urgency.map Prod.snd).foldl Nat.max 0
  let t := t.urge (if n < 32 then Maps.getD s.tck.urgency n 0 else chip) s.slotStep
  if 32 ≤ n && n < 40 then
    let off := s.fencedEngines ||| s.cle.gated
    t.remap (fun i => bitOf off (8 * (n - 32) + i / 8))
  else t

/-- Effective tables built and shown. -/
def State.buildTables (s : State) : State :=
  let s := (upTo 81).foldl State.applyTable s
  let s := { s with tck := { s.tck with dead := s.fencedEngines ||| s.cle.gated } }
  (upTo 81).foldl (fun (s : State) n => s.setEff n (s.buildTable n)) s

/-- Age in ticks of the oldest Lungo operation that arrived on a port (R53). -/
def State.lungoAge (s : State) (lp : Nat) : Option Nat :=
  match s.trn.opt.filter (fun e => e.2.cls == .lungo && e.2.lp == lp) with
  | [] => none
  | l => some ((l.map (fun e => s.now - e.2.tick)).foldl Nat.max 0)

/-- Urgencies taken at the end of a frame, with the TARGETs then in force, and shown (R53). -/
def State.takeUrgency (s : State) : State :=
  let u (lp : Nat) : Nat := match s.lungoAge lp with
    | some a => urgencyOf a (s.effF (Reg.TCK_LUNGO_TGT + 4 * lp) 15 0)
    | none => 0
  let us := (upTo 32).map (fun lp => (lp, u lp))
  let s := { s with tck := { s.tck with urgency := us.filter (fun e => e.2 != 0) } }
  let s := s.show Reg.TCK_URGENCY_CHIP ((us.map Prod.snd).foldl Nat.max 0)
  s.setPair Reg.TCK_URGENCY_LO (sumOf (us.map (fun e => e.2 * 4 ^ e.1)))

/-! ## Once a frame -/

/-- Staged rw fields take effect; a port whose PRT_MODE changes goes down (R19, R60); TEN_BATCH_RD frees the slots it passed. -/
def State.applyFields (s : State) : State :=
  let modes (s : State) : List Word := (upTo 8).map (fun n => Maps.rd resetOf s.bar.eff (Reg.PRT_MODE + 0x1000 * n))
  let old := modes s
  let rd := s.effF Reg.TEN_BATCH_RD 7 0
  let s := { s with bar := { s.bar with eff := s.bar.val } }
  let s := s.batchRead rd (s.effF Reg.TEN_BATCH_RD 7 0)
  let new := modes s
  (upTo 32).foldl (fun (s : State) lp => if nthD old (lp / 4) 0 = nthD new (lp / 4) 0 then s else s.portDown lp) s

/-- All 8 channels of a cluster have halted HALT_LIMIT times and are halted: its engines are fenced (R443). -/
def State.fenceHalted (s : State) : State :=
  ((upTo 8).filter (fun c => (upTo 8).all (fun k => (s.chan c k).halted && s.haltLimit ≤ (s.chan c k).halts))).foldl
    (fun (s : State) c => (upTo 8).foldl (fun (s : State) k => s.fence (8 * c + k)) s) s

/-- Frame boundaries in a row without an unmirrored line, of each marked extent (R383). -/
def State.countQuiet (s : State) : State :=
  { s with dur := { s.dur with
    inflight := Maps.mapV (fun e (v : Nat × Nat) => (v.1, if s.unmirrored e then 0 else v.2 + 1)) s.dur.inflight } }

/-- Boundaries in a row at which the summaries of two Paired units differ; CMD_SKEW goes when they agree (R101). -/
def State.countSkew (s : State) : State :=
  let paired := s.pairState = 1 && s.twinState = 1
  if paired && s.summaryDiffers then { s with twn := { s.twn with skew := s.twn.skew + 1 } }
  else
    let s := { s with twn := { s.twn with skew := 0 } }
    if paired then s.setB Reg.TWN_STATUS 18 false else s

/-- An accepted drill stops admission (R423). -/
def State.drillStop (s : State) : State :=
  match s.twn.drill with
  | some d => if d.stopped then s else { s with twn := { s.twn with drill := some { d with stopped := true }, stopped := true } }
  | none => s

/-- What was staged is published at this frame boundary, and a role that waits for that in start-up step 5 is to be decided (R29). -/
def State.publishStep (s : State) : State :=
  if s.sec.startup = 4 then ({ s with sec := { s.sec with published := true } } : State).raisePair .decide else s

/-- MB0 and MB1 resume (R586). -/
def State.resumeMb (s : State) : State :=
  let r := s.ctl.resume
  let s := { s with ctl := { s.ctl with resume := 0 } }
  let s := if bitOf r 6 then s.clearHalt 6 else s
  if bitOf r 7 then s.clearHalt 7 else s

/-- FRAME_BOUNDARY (R32): `samples` are the frame's raw readings of the thermal sensors and voltage monitors (R541). -/
def execFrameBoundary (samples : List (BitVec 16)) (s : State) : Result :=
  .next (
    if !s.clocked || !s.frameDue then s
    else
      let s := s.samplePages.takeUrgency.applyFields.fenceHalted.powerFrame
      let s := { s with cle := { s.cle with conj := s.cle.conjStaged, overruns := [] } }
      let s := s.buildTables.nandFrame.countQuiet.countSkew.drillReturn.drillStop.resumeMb.publishStep
      (s.moveItems.sense samples).pend 8)

end Sys2Proof.Machine
end

