-- ==== Sys2Proof/Machine/Messages.lean ====
section
/-! DEFINITION. The message instructions: what a clause queues for its COMMIT (R152, R201–R203). -/

namespace Sys2Proof.Machine

open Sys2Proof

/-- The word of a POST row: a is used only by sub 2. -/
def postRow (sub : Nat) : Row := xRow 0x50 sub 6 (fun w => noD w && noB w && noImm w && (sub == 2 || noA w))

/-- POST: the form must fit the request's kind, and a clause posts once (R152, R201). -/
def State.post (s : State) (ag : Agent) (w : DWord) (sub : Nat) (kinds : List Nat) (ready : Request → Bool) : State :=
  s.clauseOp ag w (postRow sub) (fun s i id r =>
    if !kinds.contains r.kind then s.trap i id r .illegal
    else if r.eff.post.isSome || !ready r then s.trap i id r .effect
    else s.goOn id { r with eff := { r.eff with post := some (sub, r.ctx.greg (wA w)) } })

/-- POST.RESPONSE: the response-path MREADs must total the DMA length (R201). -/
def execPostResponse (ag : Agent) (w : DWord) (s : State) : Result :=
  .next (s.post ag w 0 [0] (fun r => ((r.mreads.filter (fun m => m.dst.isNone)).map (·.len)).foldl (· + ·) 0 == r.len))

/-- POST.ACK (R87, R201). -/
def execPostAck (ag : Agent) (w : DWord) (s : State) : Result := .next (s.post ag w 1 [1, 6] (fun _ => true))

/-- POST.ATOMIC with g[a] as the original value (R74, R201). -/
def execPostAtomic (ag : Agent) (w : DWord) (s : State) : Result := .next (s.post ag w 2 [2, 3, 4] (fun _ => true))

/-- POST.FLUSHACK (R73, R201). -/
def execPostFlushack (ag : Agent) (w : DWord) (s : State) : Result := .next (s.post ag w 3 [5] (fun _ => true))

/-- It is a STATUS of the standard program set: OPCODE 0x10, IMAGE_ID 1, program ID 0 (R170). -/
def State.standardStatus (s : State) (r : Request) : Bool :=
  r.kind == 16 && (s.window r.win).progId == 0 &&
  (match r.slot.bind (fun k => Maps.find k s.cle.images) with | some x => x.id == 1 | none => false)

/-- What STATUS replies for the QP that ARG0 names, 0 for its own: TENANT, BOUNDS, or OK with the last-status word, the QP's state and
DURABLE_MSN (R88, R170, R593). No instruction reads another QP's context, so that the words come with the REPLY (log 119). -/
def State.statusReply (s : State) (r : Request) : Nat × List DWord :=
  let arg : BitVec 24 := BitVec.ofNat 24 (nthD r.args 0 0).toNat
  match s.qp (if arg = 0 then r.qpn else arg) with
  | none => (Code.bounds, [])
  | some c =>
    if c.tenant ≠ r.tenant then (Code.tenant, [])
    else (Code.ok, [c.lastCode * 2 ^ 24 + c.lastPsn.toNat, c.state.num, (durableMsn s.dur.solo c).toNat].map (BitVec.ofNat 64))

/-- REPLY queues the Invoke reply: STATUS imm[7:0], g[b] result words from the pad at g[a] (R202); the standard STATUS clause's own
answer (R170). -/
def execReply (ag : Agent) (w : DWord) (s : State) : Result :=
  .next (s.clauseOp ag w (xRow 0x51 0 6 (fun w => noD w && wImm w < 256)) (fun s i id r =>
    let n := (r.ctx.greg (wB w)).toNat
    let a := (r.ctx.greg (wA w)).toNat
    if r.kind < 16 then s.trap i id r .illegal
    else if n ≠ 0 && 8192 < a + 8 * n then s.trap i id r .pad
    else if 510 < n || r.eff.reply.isSome then s.trap i id r .effect
    else
      let words := (upTo n).map (fun k => BitVec.ofNat 64 (leNat (r.ctx.padBytes (a + 8 * k) 8)))
      let reply := if s.standardStatus r then s.statusReply r else (wImm w, words)
      s.goOn id { r with eff := { r.eff with reply := some reply } }))

/-- NOTIFY queues a 32-byte entry from the pad at g[a] for control ring imm[3:0] (R152, R203). -/
def execNotify (ag : Agent) (w : DWord) (s : State) : Result :=
  .next (s.clauseOp ag w (xRow 0x52 0 4 (fun w => noD w && noB w && wImm w < 16)) (fun s i id r =>
    let a := (r.ctx.greg (wA w)).toNat
    if 8192 < a + 32 then s.trap i id r .pad
    else if 4 ≤ r.eff.notifies.length then s.trap i id r .effect
    else s.goOn id { r with eff := { r.eff with notifies := r.eff.notifies ++ [(wImm w, r.ctx.padBytes a 32)] } }))

/-- METER queues the addition of g[b] to BYTES_READ (imm 0) or BYTES_WRITTEN (imm 1) (R152, R203). -/
def execMeter (ag : Agent) (w : DWord) (s : State) : Result :=
  .next (s.clauseOp ag w (xRow 0x53 0 1 (fun w => noD w && noA w && wImm w < 2)) (fun s i id r =>
    if 8 ≤ r.eff.meters.length then s.trap i id r .effect
    else s.goOn id { r with eff := { r.eff with
      meters := r.eff.meters ++ [(wImm w, (r.ctx.greg (wB w)).toNat)] } }))

end Sys2Proof.Machine
end

