-- ==== Sys2Proof/Machine/Dispatch.lean ====
section
/-! DEFINITION. What each command does: one arm per row of the opcode table, each one call of that row's meaning. -/

namespace Sys2Proof.Machine

open Sys2Proof

/-- The effect of a command on everything but the queue. -/
def exec (i : Instr) (s : State) : Host.Outcome State Fault Refusal :=
  match i with
  | .registerWrite rq off v hi => Sys2Proof.Machine.execRegisterWrite rq off v hi s
  | .registerPairLowerRead rq off size => Sys2Proof.Machine.execRegisterPairLowerRead rq off size s
  | .subwordWrite off => Sys2Proof.Machine.execSubwordWrite off s
  | .poisonedWrite off => Sys2Proof.Machine.execPoisonedWrite off s
  | .tickBoundary => Sys2Proof.Machine.execTickBoundary s
  | .frameBoundary samples => Sys2Proof.Machine.execFrameBoundary samples s
  | .minuteMark refRaw resid => Sys2Proof.Machine.execMinuteMark refRaw resid s
  | .meterBatchSigned => Sys2Proof.Machine.execMeterBatchSigned s
  | .ppsEdge falling cycle => Sys2Proof.Machine.execPpsEdge falling cycle s
  | .loadArm => Sys2Proof.Machine.execLoadArm s
  | .ppsLost => Sys2Proof.Machine.execPpsLost s
  | .logicalPortUp lp => Sys2Proof.Machine.execLogicalPortUp lp s
  | .logicalPortDown lp => Sys2Proof.Machine.execLogicalPortDown lp s
  | .rdmaReadRequest p r copiesDiffer => Sys2Proof.Machine.execRdmaReadRequest p r copiesDiffer s
  | .rdmaWriteFirst p r only payload => Sys2Proof.Machine.execRdmaWriteFirst p r only payload s
  | .rdmaWriteMiddle p last payload => Sys2Proof.Machine.execRdmaWriteMiddle p last payload s
  | .cmpswap p rkey va cmp swap => Sys2Proof.Machine.execCmpswap p rkey va cmp swap s
  | .fetchadd p rkey va add => Sys2Proof.Machine.execFetchadd p rkey va add s
  | .atomicWrite p rkey va data => Sys2Proof.Machine.execAtomicWrite p rkey va data s
  | .flush p r sel placement => Sys2Proof.Machine.execFlush p r sel placement s
  | .send p part payload => Sys2Proof.Machine.execSend p part payload s
  | .acknowledge p kind => Sys2Proof.Machine.execAcknowledge p kind s
  | .cnpReceived p => Sys2Proof.Machine.execCnpReceived p s
  | .rdmaReadResponseRx p opcode => Sys2Proof.Machine.execRdmaReadResponseRx p opcode s
  | .unsupportedOpcode p rc opcode => Sys2Proof.Machine.execUnsupportedOpcode p rc opcode s
  | .arpRequest lp vlan target senderMac senderIp => Sys2Proof.Machine.execArpRequest lp vlan target senderMac senderIp s
  | .neighborSolicitation lp vlan target senderMac senderIp => Sys2Proof.Machine.execNeighborSolicitation lp vlan target senderMac senderIp s
  | .pfcFrame lp quanta => Sys2Proof.Machine.execPfcFrame lp quanta s
  | .pfcPauseExpiry lp prio => Sys2Proof.Machine.execPfcPauseExpiry lp prio s
  | .otherFrameDrop lp ptp => Sys2Proof.Machine.execOtherFrameDrop lp ptp s
  | .badCrcFrame lp => Sys2Proof.Machine.execBadCrcFrame lp s
  | .pfcRepeat lp prio occ => Sys2Proof.Machine.execPfcRepeat lp prio occ s
  | .contextFetchDone qpn occ => Sys2Proof.Machine.execContextFetchDone qpn occ s
  | .descriptorFetchDone index => Sys2Proof.Machine.execDescriptorFetchDone index s
  | .contextInvalidationDone => Sys2Proof.Machine.execContextInvalidationDone s
  | .keyCacheInvalidationDone => Sys2Proof.Machine.execKeyCacheInvalidationDone s
  | .ackTimeout qpn => Sys2Proof.Machine.execAckTimeout qpn s
  | .rnrTimerExpiry qpn => Sys2Proof.Machine.execRnrTimerExpiry qpn s
  | .ccRateIncrease qpn => Sys2Proof.Machine.execCcRateIncrease qpn s
  | .pacedRelease qpn => Sys2Proof.Machine.execPacedRelease qpn s
  | .tenantCreate h tenant encrypt risAllowed scmQuota pinQuota tileQuota len wrapped => Sys2Proof.Machine.execTenantCreate h tenant encrypt risAllowed scmQuota pinQuota tileQuota len wrapped s
  | .tenantDestroy h tenant => Sys2Proof.Machine.execTenantDestroy h tenant s
  | .extentAlloc h extent tenant side => Sys2Proof.Machine.execExtentAlloc h extent tenant side s
  | .extentFree h extent => Sys2Proof.Machine.execExtentFree h extent s
  | .extentDiscard h pna length tenant => Sys2Proof.Machine.execExtentDiscard h pna length tenant s
  | .pageDiscard page => Sys2Proof.Machine.execPageDiscard page s
  | .windowOpen h rkey recycle d => Sys2Proof.Machine.execWindowOpen h rkey recycle d s
  | .windowModify h rkey mask rights pinned progId => Sys2Proof.Machine.execWindowModify h rkey mask rights pinned progId s
  | .pinnedPublish index => Sys2Proof.Machine.execPinnedPublish index s
  | .windowRevoke h rkey => Sys2Proof.Machine.execWindowRevoke h rkey s
  | .windowRevokeDone index => Sys2Proof.Machine.execWindowRevokeDone index s
  | .qpCreate h b => Sys2Proof.Machine.execQpCreate h b s
  | .qpModify h b => Sys2Proof.Machine.execQpModify h b s
  | .qpDestroy h qpn => Sys2Proof.Machine.execQpDestroy h qpn s
  | .programLoad h image => Sys2Proof.Machine.execProgramLoad h image s
  | .programUnload h slot => Sys2Proof.Machine.execProgramUnload h slot s
  | .programRelease slot => Sys2Proof.Machine.execProgramRelease slot s
  | .drill h side hold => Sys2Proof.Machine.execDrill h side hold s
  | .drillYield => Sys2Proof.Machine.execDrillYield s
  | .tierFormat h => Sys2Proof.Machine.execTierFormat h s
  | .scmFormat h pairId metaRegions => Sys2Proof.Machine.execScmFormat h pairId metaRegions s
  | .regionRead h offset len => Sys2Proof.Machine.execRegionRead h offset len s
  | .regionWrite h offset data => Sys2Proof.Machine.execRegionWrite h offset data s
  | .mgmt h body result w0 w1 w2 => Sys2Proof.Machine.execMgmt h body result w0 w1 w2 s
  | .nop h => Sys2Proof.Machine.execNop h s
  | .query h kind index => Sys2Proof.Machine.execQuery h kind index s
  | .sqDoorbell ring tail => Sys2Proof.Machine.execSqDoorbell ring tail s
  | .cqHeadWrite ring head => Sys2Proof.Machine.execCqHeadWrite ring head s
  | .ringEnable ring v => Sys2Proof.Machine.execRingEnable ring v s
  | .dmaChannelHalt ch cause ring => Sys2Proof.Machine.execDmaChannelHalt ch cause ring s
  | .dmaResume mask => Sys2Proof.Machine.execDmaResume mask s
  | .functionLevelReset => Sys2Proof.Machine.execFunctionLevelReset s
  | .perst => Sys2Proof.Machine.execPerst s
  | .cmdSkewDetect => Sys2Proof.Machine.execCmdSkewDetect s
  | .heldMirrorPlace extent => Sys2Proof.Machine.execHeldMirrorPlace extent s
  | .nopInstruction ag w fetchUe => Sys2Proof.Machine.execNopInstruction ag w fetchUe s
  | .add ag w => Sys2Proof.Machine.execAdd ag w s
  | .sub ag w => Sys2Proof.Machine.execSub ag w s
  | .and ag w => Sys2Proof.Machine.execAnd ag w s
  | .or ag w => Sys2Proof.Machine.execOr ag w s
  | .xor ag w => Sys2Proof.Machine.execXor ag w s
  | .shl ag w => Sys2Proof.Machine.execShl ag w s
  | .shr ag w => Sys2Proof.Machine.execShr ag w s
  | .sar ag w => Sys2Proof.Machine.execSar ag w s
  | .mul ag w => Sys2Proof.Machine.execMul ag w s
  | .mulhu ag w => Sys2Proof.Machine.execMulhu ag w s
  | .minu ag w => Sys2Proof.Machine.execMinu ag w s
  | .maxu ag w => Sys2Proof.Machine.execMaxu ag w s
  | .min ag w => Sys2Proof.Machine.execMin ag w s
  | .max ag w => Sys2Proof.Machine.execMax ag w s
  | .andn ag w => Sys2Proof.Machine.execAndn ag w s
  | .addi ag w => Sys2Proof.Machine.execAddi ag w s
  | .subi ag w => Sys2Proof.Machine.execSubi ag w s
  | .andi ag w => Sys2Proof.Machine.execAndi ag w s
  | .ori ag w => Sys2Proof.Machine.execOri ag w s
  | .xori ag w => Sys2Proof.Machine.execXori ag w s
  | .shli ag w => Sys2Proof.Machine.execShli ag w s
  | .shri ag w => Sys2Proof.Machine.execShri ag w s
  | .sari ag w => Sys2Proof.Machine.execSari ag w s
  | .muli ag w => Sys2Proof.Machine.execMuli ag w s
  | .mulhui ag w => Sys2Proof.Machine.execMulhui ag w s
  | .minui ag w => Sys2Proof.Machine.execMinui ag w s
  | .maxui ag w => Sys2Proof.Machine.execMaxui ag w s
  | .mini ag w => Sys2Proof.Machine.execMini ag w s
  | .maxi ag w => Sys2Proof.Machine.execMaxi ag w s
  | .andni ag w => Sys2Proof.Machine.execAndni ag w s
  | .deph ag w => Sys2Proof.Machine.execDeph ag w s
  | .cmpEq ag w => Sys2Proof.Machine.execCmpEq ag w s
  | .cmpNe ag w => Sys2Proof.Machine.execCmpNe ag w s
  | .cmpLtu ag w => Sys2Proof.Machine.execCmpLtu ag w s
  | .cmpGeu ag w => Sys2Proof.Machine.execCmpGeu ag w s
  | .cmpLt ag w => Sys2Proof.Machine.execCmpLt ag w s
  | .cmpGe ag w => Sys2Proof.Machine.execCmpGe ag w s
  | .cmpTst ag w => Sys2Proof.Machine.execCmpTst ag w s
  | .cmpNtst ag w => Sys2Proof.Machine.execCmpNtst ag w s
  | .cmpiEq ag w => Sys2Proof.Machine.execCmpiEq ag w s
  | .cmpiNe ag w => Sys2Proof.Machine.execCmpiNe ag w s
  | .cmpiLtu ag w => Sys2Proof.Machine.execCmpiLtu ag w s
  | .cmpiGeu ag w => Sys2Proof.Machine.execCmpiGeu ag w s
  | .cmpiLt ag w => Sys2Proof.Machine.execCmpiLt ag w s
  | .cmpiGe ag w => Sys2Proof.Machine.execCmpiGe ag w s
  | .cmpiTst ag w => Sys2Proof.Machine.execCmpiTst ag w s
  | .cmpiNtst ag w => Sys2Proof.Machine.execCmpiNtst ag w s
  | .pand ag w => Sys2Proof.Machine.execPand ag w s
  | .por ag w => Sys2Proof.Machine.execPor ag w s
  | .pxor ag w => Sys2Proof.Machine.execPxor ag w s
  | .pandn ag w => Sys2Proof.Machine.execPandn ag w s
  | .p2g ag w => Sys2Proof.Machine.execP2g ag w s
  | .clz ag w => Sys2Proof.Machine.execClz ag w s
  | .ctz ag w => Sys2Proof.Machine.execCtz ag w s
  | .popc ag w => Sys2Proof.Machine.execPopc ag w s
  | .bswap ag w => Sys2Proof.Machine.execBswap ag w s
  | .bswap32 ag w => Sys2Proof.Machine.execBswap32 ag w s
  | .extu ag w => Sys2Proof.Machine.execExtu ag w s
  | .exts ag w => Sys2Proof.Machine.execExts ag w s
  | .ins ag w => Sys2Proof.Machine.execIns ag w s
  | .crc32cB ag w => Sys2Proof.Machine.execCrc32cB ag w s
  | .crc32cD ag w => Sys2Proof.Machine.execCrc32cD ag w s
  | .crc64D ag w => Sys2Proof.Machine.execCrc64D ag w s
  | .getcx ag w => Sys2Proof.Machine.execGetcx ag w s
  | .ldPad ag w wrong => Sys2Proof.Machine.execLdPad ag w wrong s
  | .ldPayload ag w => Sys2Proof.Machine.execLdPayload ag w s
  | .ldTile ag w wrong => Sys2Proof.Machine.execLdTile ag w wrong s
  | .stPad ag w => Sys2Proof.Machine.execStPad ag w s
  | .stTile ag w => Sys2Proof.Machine.execStTile ag w s
  | .tld ag w => Sys2Proof.Machine.execTld ag w s
  | .tst ag w wrong => Sys2Proof.Machine.execTst ag w wrong s
  | .tcopy ag w wrong => Sys2Proof.Machine.execTcopy ag w wrong s
  | .tcopyPayload ag w => Sys2Proof.Machine.execTcopyPayload ag w s
  | .tfill ag w => Sys2Proof.Machine.execTfill ag w s
  | .txor ag w wrong => Sys2Proof.Machine.execTxor ag w wrong s
  | .tcrcCrc32c ag w wrong => Sys2Proof.Machine.execTcrcCrc32c ag w wrong s
  | .tcrcCrc64 ag w wrong => Sys2Proof.Machine.execTcrcCrc64 ag w wrong s
  | .tcmp ag w wrong => Sys2Proof.Machine.execTcmp ag w wrong s
  | .tscanEq ag w wrong => Sys2Proof.Machine.execTscanEq ag w wrong s
  | .tscanNe ag w wrong => Sys2Proof.Machine.execTscanNe ag w wrong s
  | .tsumAdd ag w wrong => Sys2Proof.Machine.execTsumAdd ag w wrong s
  | .tsumXor ag w wrong => Sys2Proof.Machine.execTsumXor ag w wrong s
  | .mreadResponse ag w => Sys2Proof.Machine.execMreadResponse ag w s
  | .mreadPad ag w => Sys2Proof.Machine.execMreadPad ag w s
  | .mreadDataReturn req index => Sys2Proof.Machine.execMreadDataReturn req index s
  | .mwritePad ag w => Sys2Proof.Machine.execMwritePad ag w s
  | .mwritePayload ag w => Sys2Proof.Machine.execMwritePayload ag w s
  | .cas8 ag w => Sys2Proof.Machine.execCas8 ag w s
  | .fadd8 ag w => Sys2Proof.Machine.execFadd8 ag w s
  | .swap8 ag w => Sys2Proof.Machine.execSwap8 ag w s
  | .mask8 ag w => Sys2Proof.Machine.execMask8 ag w s
  | .cas16 ag w => Sys2Proof.Machine.execCas16 ag w s
  | .write8 ag w => Sys2Proof.Machine.execWrite8 ag w s
  | .matomAccepted req index => Sys2Proof.Machine.execMatomAccepted req index s
  | .stage ag w => Sys2Proof.Machine.execStage ag w s
  | .fence ag w => Sys2Proof.Machine.execFence ag w s
  | .postResponse ag w => Sys2Proof.Machine.execPostResponse ag w s
  | .postAck ag w => Sys2Proof.Machine.execPostAck ag w s
  | .postAtomic ag w => Sys2Proof.Machine.execPostAtomic ag w s
  | .postFlushack ag w => Sys2Proof.Machine.execPostFlushack ag w s
  | .reply ag w => Sys2Proof.Machine.execReply ag w s
  | .notify ag w => Sys2Proof.Machine.execNotify ag w s
  | .meter ag w => Sys2Proof.Machine.execMeter ag w s
  | .br ag w => Sys2Proof.Machine.execBr ag w s
  | .brp ag w => Sys2Proof.Machine.execBrp ag w s
  | .call ag w => Sys2Proof.Machine.execCall ag w s
  | .ret ag w => Sys2Proof.Machine.execRet ag w s
  | .yield ag w => Sys2Proof.Machine.execYield ag w s
  | .yieldWNext ag w => Sys2Proof.Machine.execYieldWNext ag w s
  | .yieldWMedia ag w => Sys2Proof.Machine.execYieldWMedia ag w s
  | .yieldWStage ag w => Sys2Proof.Machine.execYieldWStage ag w s
  | .yieldWFence ag w => Sys2Proof.Machine.execYieldWFence ag w s
  | .yieldWTime ag w => Sys2Proof.Machine.execYieldWTime ag w s
  | .timeWake req => Sys2Proof.Machine.execTimeWake req s
  | .commit ag w => Sys2Proof.Machine.execCommit ag w s
  | .commitC ag w => Sys2Proof.Machine.execCommitC ag w s
  | .commitA ag w => Sys2Proof.Machine.execCommitA ag w s
  | .abort ag w => Sys2Proof.Machine.execAbort ag w s
  | .trapOverrun strand => Sys2Proof.Machine.execTrapOverrun strand s
  | .icacheInvalidationDone => Sys2Proof.Machine.execIcacheInvalidationDone s
  | .engineFence engine => Sys2Proof.Machine.execEngineFence engine s
  | .requestRestart req => Sys2Proof.Machine.execRequestRestart req s
  | .csrr ag w => Sys2Proof.Machine.execCsrr ag w s
  | .csrw ag w => Sys2Proof.Machine.execCsrw ag w s
  | .regr ag w => Sys2Proof.Machine.execRegr ag w s
  | .regw ag w => Sys2Proof.Machine.execRegw ag w s
  | .tret ag w => Sys2Proof.Machine.execTret ag w s
  | .iflush ag w => Sys2Proof.Machine.execIflush ag w s
  | .keyopUnwrap ag w => Sys2Proof.Machine.execKeyopUnwrap ag w s
  | .keyopClear ag w => Sys2Proof.Machine.execKeyopClear ag w s
  | .keyopSign ag w => Sys2Proof.Machine.execKeyopSign ag w s
  | .keyopVerify ag w => Sys2Proof.Machine.execKeyopVerify ag w s
  | .keyopHash ag w => Sys2Proof.Machine.execKeyopHash ag w s
  | .keyopAttest ag w => Sys2Proof.Machine.execKeyopAttest ag w s
  | .mcpInterrupt source => Sys2Proof.Machine.execMcpInterrupt source s
  | .tileInitDone => Sys2Proof.Machine.execTileInitDone s
  | .tileFillStart cluster => Sys2Proof.Machine.execTileFillStart cluster s
  | .tileFillDone cluster channel err => Sys2Proof.Machine.execTileFillDone cluster channel err s
  | .stageLate req => Sys2Proof.Machine.execStageLate req s
  | .stagerChannelHalt cluster channel cause source pna => Sys2Proof.Machine.execStagerChannelHalt cluster channel cause source pna s
  | .channelResume cluster channel => Sys2Proof.Machine.execChannelResume cluster channel s
  | .mediaDataFlit ml flit => Sys2Proof.Machine.execMediaDataFlit ml flit s
  | .mediaFlitAck ml seq => Sys2Proof.Machine.execMediaFlitAck ml seq s
  | .mediaFlitNak ml seq => Sys2Proof.Machine.execMediaFlitNak ml seq s
  | .mediaAckDue ml => Sys2Proof.Machine.execMediaAckDue ml s
  | .mediaLinkSilent ml => Sys2Proof.Machine.execMediaLinkSilent ml s
  | .retrainDone ml => Sys2Proof.Machine.execRetrainDone ml s
  | .retrainTimeout ml => Sys2Proof.Machine.execRetrainTimeout ml s
  | .rdr ml tag cnt line => Sys2Proof.Machine.execRdr ml tag cnt line s
  | .cnf ml tag => Sys2Proof.Machine.execCnf ml tag s
  | .err ml tag reason => Sys2Proof.Machine.execErr ml tag reason s
  | .cfgr ml tag w => Sys2Proof.Machine.execCfgr ml tag w s
  | .lineRepairRequest line => Sys2Proof.Machine.execLineRepairRequest line s
  | .lineRepairServe line raw => Sys2Proof.Machine.execLineRepairServe line raw s
  | .lineRepairReply line => Sys2Proof.Machine.execLineRepairReply line s
  | .gapMove ml region => Sys2Proof.Machine.execGapMove ml region s
  | .regionRecordWrite ml region => Sys2Proof.Machine.execRegionRecordWrite ml region s
  | .patrolScrub ml => Sys2Proof.Machine.execPatrolScrub ml s
  | .destage => Sys2Proof.Machine.execDestage s
  | .destageSwitch page => Sys2Proof.Machine.execDestageSwitch page s
  | .promote page => Sys2Proof.Machine.execPromote page s
  | .promoteSwitch page => Sys2Proof.Machine.execPromoteSwitch page s
  | .dramRequestAccept ch slot arrivals => Sys2Proof.Machine.execDramRequestAccept ch slot arrivals s
  | .dramColumnIssue ch slot neighbour => Sys2Proof.Machine.execDramColumnIssue ch slot neighbour s
  | .dramReadReturn ch wrong => Sys2Proof.Machine.execDramReadReturn ch wrong s
  | .refresh ch slot => Sys2Proof.Machine.execRefresh ch slot s
  | .zqCalibration ch rank => Sys2Proof.Machine.execZqCalibration ch rank s
  | .rowIdleClose ch bank cycle => Sys2Proof.Machine.execRowIdleClose ch bank cycle s
  | .dramScrub => Sys2Proof.Machine.execDramScrub s
  | .caParityAlert ch port cls addr => Sys2Proof.Machine.execCaParityAlert ch port cls addr s
  | .nandReadDone page steps evict out => Sys2Proof.Machine.execNandReadDone page steps evict out s
  | .nandProgramDone sb page ok => Sys2Proof.Machine.execNandProgramDone sb page ok s
  | .nandEraseDone sb bad => Sys2Proof.Machine.execNandEraseDone sb bad s
  | .nandSuspend die => Sys2Proof.Machine.execNandSuspend die s
  | .nandReadyTimeout page => Sys2Proof.Machine.execNandReadyTimeout page s
  | .dieFailed die => Sys2Proof.Machine.execDieFailed die s
  | .stripeRowClose sb => Sys2Proof.Machine.execStripeRowClose sb s
  | .fold => Sys2Proof.Machine.execFold s
  | .garbageCollection => Sys2Proof.Machine.execGarbageCollection s
  | .wearRelocation => Sys2Proof.Machine.execWearRelocation s
  | .backgroundScan => Sys2Proof.Machine.execBackgroundScan s
  | .mapCheckpoint => Sys2Proof.Machine.execMapCheckpoint s
  | .placementIssue => Sys2Proof.Machine.execPlacementIssue s
  | .inflightMarkClear extent => Sys2Proof.Machine.execInflightMarkClear extent s
  | .fenceComplete qpn => Sys2Proof.Machine.execFenceComplete qpn s
  | .flushLimitExpiry req => Sys2Proof.Machine.execFlushLimitExpiry req s
  | .intentHeaderPlaced slot => Sys2Proof.Machine.execIntentHeaderPlaced slot s
  | .intentHomeWrite slot => Sys2Proof.Machine.execIntentHomeWrite slot s
  | .journalApply => Sys2Proof.Machine.execJournalApply s
  | .heartbeat one crcOk hb => Sys2Proof.Machine.execHeartbeat one crcOk hb s
  | .heartbeatSend => Sys2Proof.Machine.execHeartbeatSend s
  | .mirror h runs epoch cls => Sys2Proof.Machine.execMirror h runs epoch cls s
  | .mirrorAdmit => Sys2Proof.Machine.execMirrorAdmit s
  | .confirm h frames outcomes intents free => Sys2Proof.Machine.execConfirm h frames outcomes intents free s
  | .outcome h o => Sys2Proof.Machine.execOutcome h o s
  | .intent h slot lines epoch => Sys2Proof.Machine.execIntent h slot lines epoch s
  | .giveup h sideB epoch drill hold sameTick => Sys2Proof.Machine.execGiveup h sideB epoch drill hold sameTick s
  | .reclaim h sideB at' => Sys2Proof.Machine.execReclaim h sideB at' s
  | .switch h sideB => Sys2Proof.Machine.execSwitch h sideB s
  | .resync h body => Sys2Proof.Machine.execResync h body s
  | .twinAck one seq => Sys2Proof.Machine.execTwinAck one seq s
  | .twinNak one seq => Sys2Proof.Machine.execTwinNak one seq s
  | .bundleDown one ue => Sys2Proof.Machine.execBundleDown one ue s
  | .bundleUp one => Sys2Proof.Machine.execBundleUp one s
  | .sidebandToggle held => Sys2Proof.Machine.execSidebandToggle held s
  | .sidebandSilent => Sys2Proof.Machine.execSidebandSilent s
  | .faultReport found disagree => Sys2Proof.Machine.execFaultReport found disagree s
  | .yieldUnit => Sys2Proof.Machine.execYieldUnit s
  | .takeoverStart => Sys2Proof.Machine.execTakeoverStart s
  | .takeoverPublish => Sys2Proof.Machine.execTakeoverPublish s
  | .soloDelayExpiry => Sys2Proof.Machine.execSoloDelayExpiry s
  | .resyncStart => Sys2Proof.Machine.execResyncStart s
  | .metadataDone => Sys2Proof.Machine.execMetadataDone s
  | .resyncCopyDone => Sys2Proof.Machine.execResyncCopyDone s
  | .reclaimSend => Sys2Proof.Machine.execReclaimSend s
  | .returnSwitch => Sys2Proof.Machine.execReturnSwitch s
  | .returnAdmit => Sys2Proof.Machine.execReturnAdmit s
  | .pairWaitExpiry => Sys2Proof.Machine.execPairWaitExpiry s
  | .detectorTest missing => Sys2Proof.Machine.execDetectorTest missing s
  | .clockCheck fault => Sys2Proof.Machine.execClockCheck fault s
  | .sramScrub found progress last => Sys2Proof.Machine.execSramScrub found progress last s
  | .inject => Sys2Proof.Machine.execInject s
  | .startup step => Sys2Proof.Machine.execStartup step s
  | .provision ok => Sys2Proof.Machine.execProvision ok s
  | .debugToken => Sys2Proof.Machine.execDebugToken s
  | .seal ok => Sys2Proof.Machine.execSeal ok s
  | .returnUnit ok => Sys2Proof.Machine.execReturnUnit ok s
  | .rdpRaise ok => Sys2Proof.Machine.execRdpRaise ok s
  | .rdpRegress ok => Sys2Proof.Machine.execRdpRegress ok s
  | .recoveryData => Sys2Proof.Machine.execRecoveryData s
  | .recoveryRun => Sys2Proof.Machine.execRecoveryRun s
  | .kekInstall => Sys2Proof.Machine.execKekInstall s
  | .ownerRotate ok => Sys2Proof.Machine.execOwnerRotate ok s
  | .evrClear => Sys2Proof.Machine.execEvrClear s
  | .debugClose => Sys2Proof.Machine.execDebugClose s
  | .quote refused => Sys2Proof.Machine.execQuote refused s
  | .fwBegin refused ok => Sys2Proof.Machine.execFwBegin refused ok s
  | .fwData refused ok => Sys2Proof.Machine.execFwData refused ok s
  | .fwEnd refused ok => Sys2Proof.Machine.execFwEnd refused ok s
  | .mboxClaim rq => Sys2Proof.Machine.execMboxClaim rq s
  | .mboxRelease rq => Sys2Proof.Machine.execMboxRelease rq s
  | .newNonce => Sys2Proof.Machine.execNewNonce s
  | .flashProgram rq sameCycle => Sys2Proof.Machine.execFlashProgram rq sameCycle s
  | .flashErase rq sameCycle => Sys2Proof.Machine.execFlashErase rq sameCycle s
  | .flashSuspend rq => Sys2Proof.Machine.execFlashSuspend rq s
  | .flashResume rq => Sys2Proof.Machine.execFlashResume rq s
  | .otpProgram rq sameCycle => Sys2Proof.Machine.execOtpProgram rq sameCycle s
  | .flashProgramDone ok => Sys2Proof.Machine.execFlashProgramDone ok s
  | .erasePulseDone erased => Sys2Proof.Machine.execErasePulseDone erased s
  | .heldGoStart => Sys2Proof.Machine.execHeldGoStart s
  | .flashRead rq v wrong => Sys2Proof.Machine.execFlashRead rq v wrong s
  | .inputOkLow => Sys2Proof.Machine.execInputOkLow s
  | .inputOkQualified => Sys2Proof.Machine.execInputOkQualified s
  | .faultNLow => Sys2Proof.Machine.execFaultNLow s
  | .faultNHigh => Sys2Proof.Machine.execFaultNHigh s
  | .pwrbtnPress => Sys2Proof.Machine.execPwrbtnPress s
  | .longpress => Sys2Proof.Machine.execLongpress s
  | .mrstAssert => Sys2Proof.Machine.execMrstAssert s
  | .mrstRelease => Sys2Proof.Machine.execMrstRelease s
  | .shutdown rq => Sys2Proof.Machine.execShutdown rq s
  | .tableLoad table => Sys2Proof.Machine.execTableLoad table s
  | .onSequenceStart ms => Sys2Proof.Machine.execOnSequenceStart ms s
  | .slotEnable slot us nacks => Sys2Proof.Machine.execSlotEnable slot us nacks s
  | .slotDisable slot us => Sys2Proof.Machine.execSlotDisable slot us s
  | .slotQualified slot us straps => Sys2Proof.Machine.execSlotQualified slot us straps s
  | .sequenceFault slot us => Sys2Proof.Machine.execSequenceFault slot us s
  | .railFault slot => Sys2Proof.Machine.execRailFault slot s
  | .offSequenceEnd us pg => Sys2Proof.Machine.execOffSequenceEnd us pg s
  | .enterRun rq => Sys2Proof.Machine.execEnterRun rq s
  | .enterTrim rq => Sys2Proof.Machine.execEnterTrim rq s
  | .enterHold rq => Sys2Proof.Machine.execEnterHold rq s
  | .holdQuiesceDone => Sys2Proof.Machine.execHoldQuiesceDone s
  | .enterStandby rq => Sys2Proof.Machine.execEnterStandby rq s
  | .twbGo rq port => Sys2Proof.Machine.execTwbGo rq port s
  | .twbTransactionDone port bytes x => Sys2Proof.Machine.execTwbTransactionDone port bytes x s
  | .twbTimeout port stuck bytes => Sys2Proof.Machine.execTwbTimeout port stuck bytes s
  | .busClear write port x => Sys2Proof.Machine.execBusClear write port x s
  | .portReset rq port => Sys2Proof.Machine.execPortReset rq port s
  | .sequencerPreempt port bytes => Sys2Proof.Machine.execSequencerPreempt port bytes s
  | .status => Sys2Proof.Machine.execStatus s
  | .firstFault => Sys2Proof.Machine.execFirstFault s
  | .seqCause => Sys2Proof.Machine.execSeqCause s
  | .deviceId => Sys2Proof.Machine.execDeviceId s
  | .quoteHash => Sys2Proof.Machine.execQuoteHash s
  | .powerReqWake pec => Sys2Proof.Machine.execPowerReqWake pec s
  | .powerReqOff pec => Sys2Proof.Machine.execPowerReqOff pec s
  | .mboxReq data pec => Sys2Proof.Machine.execMboxReq data pec s
  | .mboxResp => Sys2Proof.Machine.execMboxResp s
  | .capability => Sys2Proof.Machine.execCapability s
  | .readTemperature1 => Sys2Proof.Machine.execReadTemperature1 s
  | .pmbusRevision => Sys2Proof.Machine.execPmbusRevision s
  | .mfrId => Sys2Proof.Machine.execMfrId s
  | .mfrModel => Sys2Proof.Machine.execMfrModel s
  | .mfrRevision => Sys2Proof.Machine.execMfrRevision s
  | .twtTimeout => Sys2Proof.Machine.execTwtTimeout s
  | .twtWake => Sys2Proof.Machine.execTwtWake s
  | .capture point => Sys2Proof.Machine.execCapture point s
  | .captureDone tjMean entries => Sys2Proof.Machine.execCaptureDone tjMean entries s
  | .recorderTrigger => Sys2Proof.Machine.execRecorderTrigger s
  | .fwTrigger input code => Sys2Proof.Machine.execFwTrigger input code s
  | .recordProgrammed => Sys2Proof.Machine.execRecordProgrammed s
  | .sectorEraseDone => Sys2Proof.Machine.execSectorEraseDone s
  | .portEgress lp cycle => Sys2Proof.Machine.execPortEgress lp cycle s
  | .vaonInLoss => Sys2Proof.Machine.execVaonInLoss s
  | .pwrbtnRelease => Sys2Proof.Machine.execPwrbtnRelease s
  | .powerGoodBreak slot us => Sys2Proof.Machine.execPowerGoodBreak slot us s
  | .busFree port => Sys2Proof.Machine.execBusFree port s
  | .signalDetect port => Sys2Proof.Machine.execSignalDetect port s

end Sys2Proof.Machine
end

