-- ==== Sys2Proof/Safety.lean ====
section
/-! DEFINITION. What claims speak of: the canonical form of the machine's memories, in which equal contents are equal data; and
who is about to execute an instruction word. -/

namespace Sys2Proof.Machine

open Sys2Proof

/-- The register file is in canonical form: stored, in-force and copied values alike. -/
def Bar.wf (b : Bar) : Bool := Maps.wf resetOf b.val && Maps.wf resetOf b.eff && Maps.wf resetOf b.copy

/-- The register file and every byte memory of the unit are in canonical form: the persistent store (R6), the control-software
region (R581), the MCP's SRAM (R447) and the OTP (R449). -/
def State.wf (s : State) : Bool :=
  s.bar.wf && Mem.wf s.med.store && Mem.wf s.ctl.region && Mem.wf s.mcp.sram && Mem.wf s.efl.otp

/-! ## Who executes a word -/

/-- A segment of request `id` runs on strand `i`, it is the strand's turn to issue (R140), its image holds `w` at the pc, and the
word's guard holds (R183). -/
structure RunsOn (s : State) (i : Fin 512) (id : Nat) (r : Request) (w : DWord) : Prop where
  running : s.running i = some (id, r)
  turn : s.inTurn (.strand i) = true
  fetched : (s.codeOf r)[r.ctx.pc]? = some w
  guard : r.ctx.preg (wPr w) ≠ wPn w

/-- The MCP runs, may be given `w` at its pc (R213), and the word's guard holds. -/
structure McpRuns (s : State) (w : DWord) : Prop where
  running : s.mcp.running = true
  going : s.mcp.halted = false
  fetched : w ∈ s.mcpWords
  guard : (s.ctxOf .mcp).preg (wPr w) ≠ wPn w

end Sys2Proof.Machine
end

