-- ==== Sys2Proof/Certificates/Slice0/Obligations.lean ====
section
/-! DEFINITION. The statements made of the model, and the words they are made in. -/

namespace Sys2Proof.Claims

open Sys2Proof Sys2Proof.Machine

/-- The memories of the unit are in canonical form: equal contents are equal data. -/
abbrev Canonical (s : State) : Prop := s.wf = true

end Sys2Proof.Claims

open Sys2Proof Sys2Proof.Machine Sys2Proof.Claims

/-- A step of a state whose queue begins with c is exec of c on that state with the rest of the queue; nothing is added
around exec (the queue is the model's own). (R17, R20.) -/
def Obligations.StepRunsFront : Prop :=
  ∀ (s : State) c rest, s.pending = c :: rest → step s = exec c (s.withPending rest)

/-- With no command waiting a step answers the same state. This is the model's choice (log 2): the manual gives the rows, and
no row is the passing of time alone. (R17.) -/
def Obligations.IdleOnEmptyQueue : Prop :=
  ∀ (s : State), s.pending = [] → step s = .next s

/-- No command of the table ends in a fault or a refusal, in any state: an occasion that does not hold leaves the state as it
is (the model's choice, log 1). (R3, R17.) -/
def Obligations.EveryCommandAnswers : Prop :=
  ∀ c s, ∃ t, exec c s = .next t

/-- Whatever command is run in whatever state, the next state's queue is the queue it was run with (the queue is the model's
own). (R17, R18.) -/
def Obligations.CommandsLeaveQueue : Prop :=
  ∀ c s t, exec c s = .next t → t.pending = s.pending

/-- From every state whose register file, persistent store, control-software region, MCP SRAM and OTP are in canonical form
(rising addresses, no entry equal to what an unlisted address reads), a step, whatever command is in front, answers a state
in that form. (R6, R7, R447, R449, R581.) -/
def Obligations.StepKeepsCanonicalForm : Prop :=
  ∀ (s : State) t, Canonical s → step s = .next t → Canonical t

/-- The invariant of StepKeepsCanonicalForm holds right after power-on reset, and no command waits. (R16.) -/
def Obligations.ResetIsCanonical : Prop :=
  Canonical State.reset ∧ State.reset.pending = []

/-- At every offset at which a register is listed, the register holds the value of its Reset column after power-on reset.
(R16.) -/
def Obligations.ResetRegisters : Prop :=
  ∀ off d, regAt off = some d → State.reset.reg off = BitVec.ofNat 32 d.reset

/-- A write of any requester at an offset at which no register is listed answers the same state; a read there gives the
requester 0 and changes no register. (An unlisted offset is never captured, R15: the premise says so.) (R12.) -/
def Obligations.UnlistedOffsets : Prop :=
  (∀ (s : State) rq off v, s.reaches rq = true → regAt off.toNat = none → exec (.registerWrite rq off v none) s = .next s) ∧
  (∀ (s : State) rq off, s.reaches rq = true → off.toNat % 4 = 0 → regAt off.toNat = none → isPairLow off.toNat = false →
    Maps.find off.toNat (s.captures rq) = none →
    ∃ t, exec (.registerPairLowerRead rq off .four) s = .next t ∧ Maps.find (Requester.index rq) t.bar.lastRead = some 0 ∧
      ∀ o, t.reg o = s.reg o)

namespace Sys2Proof.Claims

open Sys2Proof Sys2Proof.Machine

/-! ## Words that claims share -/

/-- What issuing an instruction leaves of the engines (R140, R175, R440): the strand was the last of its engine to issue, and no other
engine's search, turns or offers of work change. -/
structure Issues (s t : State) (i : Fin 512) : Prop where
  last : Maps.find (i.val / 8) t.cle.lastIssued = some (i.val % 8)
  engines : ∀ e, e ≠ i.val / 8 → Maps.find e t.cle.issued = Maps.find e s.cle.issued ∧
    Maps.find e t.cle.lastIssued = Maps.find e s.cle.lastIssued
  turns : ∀ k, k / 8 ≠ i.val / 8 → Maps.find k t.cle.turns = Maps.find k s.cle.turns

/-- The engines as issuing leaves them in `t`: last issued strands, turns, offers of work and instruction caches (R140, R175, R440). -/
def issuing (c t : Cle) : Cle := { c with issued := t.issued, lastIssued := t.lastIssued, turns := t.turns, icache := t.icache }

/-- From `s` to `t` nothing changes but request `id`, which becomes `r`, and what issuing an instruction changes. -/
structure OnlyRequest (s t : State) (i : Fin 512) (id : Nat) (r : Request) : Prop where
  request : Maps.find id t.cle.reqs = some r
  others : ∀ k, k ≠ id → Maps.find k t.cle.reqs = Maps.find k s.cle.reqs
  issues : Issues s t i
  rest : t = { s with cle := issuing { s.cle with reqs := t.cle.reqs } t.cle, free := t.free }

/-- From `s` to `t` nothing changes but the MCP's pc, registers and buffered lines, and the cycles spent. -/
def OnlyMcp (s t : State) (cost : Nat) : Prop :=
  t = { s with mcp := { s.mcp with pc := t.mcp.pc, g := t.mcp.g, p := t.mcp.p, ibuf := t.mcp.ibuf
                                   cycles := s.mcp.cycles + cost } }

/-- g[d] becomes `v`, unless d is 0, and the pc `pc`; every other register stays. -/
structure WritesG (c c' : Ctx) (d : Nat) (v : DWord) (pc : Nat) : Prop where
  g : ∀ n, c'.greg n = if n = d ∧ d ≠ 0 then v else c.greg n
  p : ∀ n, c'.preg n = c.preg n
  rest : c' = { c with g := c'.g, pc := pc }

/-- p[d] becomes `v`, unless d is 0, and the pc `pc`; every other register stays. -/
structure WritesP (c c' : Ctx) (d : Nat) (v : Bool) (pc : Nat) : Prop where
  p : ∀ n, c'.preg n = if n = d ∧ d ≠ 0 then v else c.preg n
  g : ∀ n, c'.greg n = c.greg n
  rest : c' = { c with p := c'.p, pc := pc }

/-- On a strand and on the MCP alike, the command writes `f` of the registers into g[d] and goes on. -/
def ComputesG (c : Agent → DWord → Instr) (ok : DWord → Prop) (cost : Nat) (f : Ctx → DWord → DWord) : Prop :=
  (∀ (s : State) i id r w, RunsOn s i id r w → ok w → ∃ t r', exec (c (.strand i) w) s = .next t ∧ OnlyRequest s t i id r' ∧
    r' = { r with ctx := r'.ctx } ∧ WritesG r.ctx r'.ctx (wD w) (f r.ctx w) (r.ctx.pc + 1)) ∧
  (∀ (s : State) w, McpRuns s w → ok w → ∃ t, exec (c .mcp w) s = .next t ∧ OnlyMcp s t cost ∧
    WritesG (s.ctxOf .mcp) (t.ctxOf .mcp) (wD w) (f (s.ctxOf .mcp) w) (s.mcp.pc + 8))

/-- On a strand and on the MCP alike, the command writes `f` of the registers into p[d] and goes on. -/
def ComputesP (c : Agent → DWord → Instr) (ok : DWord → Prop) (f : Ctx → DWord → Bool) : Prop :=
  (∀ (s : State) i id r w, RunsOn s i id r w → ok w → ∃ t r', exec (c (.strand i) w) s = .next t ∧ OnlyRequest s t i id r' ∧
    r' = { r with ctx := r'.ctx } ∧ WritesP r.ctx r'.ctx (wD w) (f r.ctx w) (r.ctx.pc + 1)) ∧
  (∀ (s : State) w, McpRuns s w → ok w → ∃ t, exec (c .mcp w) s = .next t ∧ OnlyMcp s t 1 ∧
    WritesP (s.ctxOf .mcp) (t.ctxOf .mcp) (wD w) (f (s.ctxOf .mcp) w) (s.mcp.pc + 8))

/-- An ALU row: g[d] is `f` of g[a] and g[b] (R187); imm is 0. -/
def AluRow (c : Agent → DWord → Instr) (sub cost : Nat) (f : DWord → DWord → DWord) : Prop :=
  ComputesG c (fun w => wOp w = 0x10 ∧ wSub w = sub ∧ wImm w = 0) cost (fun x w => f (x.greg (wA w)) (x.greg (wB w)))

/-- An ALUI row: the immediate, sign-extended, takes the place of g[b]; b is 0, and imm below `lim`. -/
def AluiRow (c : Agent → DWord → Instr) (sub cost lim : Nat) (f : DWord → DWord → DWord) : Prop :=
  ComputesG c (fun w => wOp w = 0x11 ∧ wSub w = sub ∧ wB w = 0 ∧ wImm w < lim) cost
    (fun x w => f (x.greg (wA w)) (BitVec.signExtend 64 (w.extractLsb' 0 32)))

/-- A CMP row (R188). -/
def CmpRow (c : Agent → DWord → Instr) (sub : Nat) (f : DWord → DWord → Bool) : Prop :=
  ComputesP c (fun w => wOp w = 0x12 ∧ wSub w = sub ∧ wD w < 8 ∧ wImm w = 0) (fun x w => f (x.greg (wA w)) (x.greg (wB w)))

/-- A CMPI row (R188). -/
def CmpiRow (c : Agent → DWord → Instr) (sub : Nat) (f : DWord → DWord → Bool) : Prop :=
  ComputesP c (fun w => wOp w = 0x13 ∧ wSub w = sub ∧ wD w < 8 ∧ wB w = 0)
    (fun x w => f (x.greg (wA w)) (BitVec.signExtend 64 (w.extractLsb' 0 32)))

/-- A PLOG row on predicates (R188). -/
def PlogRow (c : Agent → DWord → Instr) (sub : Nat) (f : Bool → Bool → Bool) : Prop :=
  ComputesP c (fun w => wOp w = 0x14 ∧ wSub w = sub ∧ wD w < 8 ∧ wA w < 8 ∧ wB w < 8 ∧ wImm w = 0)
    (fun x w => f (x.preg (wA w)) (x.preg (wB w)))

/-- A BIT row (R189). -/
def BitRow (c : Agent → DWord → Instr) (sub : Nat) (f : DWord → DWord) : Prop :=
  ComputesG c (fun w => wOp w = 0x15 ∧ wSub w = sub ∧ wB w = 0 ∧ wImm w = 0) 1 (fun x w => f (x.greg (wA w)))

/-- A BFX row: position P = imm[13:8], width W = imm[6:0], P + W at most 64 (R189). -/
def BfxRow (c : Agent → DWord → Instr) (sub : Nat) (f : Nat → Nat → DWord → DWord → DWord) : Prop :=
  ComputesG c (fun w => wOp w = 0x16 ∧ wSub w = sub ∧ wB w = 0 ∧ 1 ≤ fld w 6 0 ∧ fld w 13 8 + fld w 6 0 ≤ 64 ∧
      fld w 7 7 = 0 ∧ fld w 31 14 = 0) 1
    (fun x w => f (fld w 13 8) (fld w 6 0) (x.greg (wA w)) (x.greg (wD w)))

/-- A CRC row (R190). -/
def CrcRow (c : Agent → DWord → Instr) (sub : Nat) (f : DWord → DWord → DWord) : Prop :=
  ComputesG c (fun w => wOp w = 0x17 ∧ wSub w = sub ∧ wImm w = 0) 2 (fun x w => f (x.greg (wA w)) (x.greg (wB w)))

end Sys2Proof.Claims

/-- ADDI to ANDNI and DEPH with b 0 write what the table gives for g[a] and the sign-extended immediate (the lower 6 bits of
it for shifts; the upper half for DEPH) into g[d]; ADD to ANDN with imm 0 write the result that the table gives for g[a] and
g[b] into g[d], unless d is 0, and go to the next instruction; no other register, no other request and no other part of the
state changes but what issuing changes of the strand's own engine (its turns and its cache), or the MCP's buffered lines and cycles.
(R140, R183, R184, R187.) -/
def Obligations.AluResults : Prop :=
  AluRow .add 0 1 (fun a b => a + b) ∧ AluRow .sub 1 1 (fun a b => a - b) ∧
  AluRow .and 2 1 (fun a b => a &&& b) ∧ AluRow .or 3 1 (fun a b => a ||| b) ∧ AluRow .xor 4 1 (fun a b => a ^^^ b) ∧
  AluRow .shl 5 1 (fun a b => BitVec.ofNat 64 (a.toNat * 2 ^ (b.toNat % 64))) ∧
  AluRow .shr 6 1 (fun a b => BitVec.ofNat 64 (a.toNat / 2 ^ (b.toNat % 64))) ∧
  AluRow .sar 7 1 (fun a b => BitVec.ofInt 64 (a.toInt / 2 ^ (b.toNat % 64))) ∧
  AluRow .mul 8 3 (fun a b => BitVec.ofNat 64 (a.toNat * b.toNat)) ∧
  AluRow .mulhu 9 3 (fun a b => BitVec.ofNat 64 (a.toNat * b.toNat / 2 ^ 64)) ∧
  AluRow .minu 10 1 (fun a b => BitVec.ofNat 64 (min a.toNat b.toNat)) ∧
  AluRow .maxu 11 1 (fun a b => BitVec.ofNat 64 (max a.toNat b.toNat)) ∧
  AluRow .min 12 1 (fun a b => BitVec.ofInt 64 (min a.toInt b.toInt)) ∧
  AluRow .max 13 1 (fun a b => BitVec.ofInt 64 (max a.toInt b.toInt)) ∧
  AluRow .andn 14 1 (fun a b => a &&& ~~~b) ∧
  AluiRow .addi 0 1 (2 ^ 32) (fun a b => a + b) ∧ AluiRow .subi 1 1 (2 ^ 32) (fun a b => a - b) ∧
  AluiRow .andi 2 1 (2 ^ 32) (fun a b => a &&& b) ∧ AluiRow .ori 3 1 (2 ^ 32) (fun a b => a ||| b) ∧
  AluiRow .xori 4 1 (2 ^ 32) (fun a b => a ^^^ b) ∧
  AluiRow .shli 5 1 64 (fun a b => BitVec.ofNat 64 (a.toNat * 2 ^ b.toNat)) ∧
  AluiRow .shri 6 1 64 (fun a b => BitVec.ofNat 64 (a.toNat / 2 ^ b.toNat)) ∧
  AluiRow .sari 7 1 64 (fun a b => BitVec.ofInt 64 (a.toInt / 2 ^ b.toNat)) ∧
  AluiRow .muli 8 3 (2 ^ 32) (fun a b => BitVec.ofNat 64 (a.toNat * b.toNat)) ∧
  AluiRow .mulhui 9 3 (2 ^ 32) (fun a b => BitVec.ofNat 64 (a.toNat * b.toNat / 2 ^ 64)) ∧
  AluiRow .minui 10 1 (2 ^ 32) (fun a b => BitVec.ofNat 64 (min a.toNat b.toNat)) ∧
  AluiRow .maxui 11 1 (2 ^ 32) (fun a b => BitVec.ofNat 64 (max a.toNat b.toNat)) ∧
  AluiRow .mini 12 1 (2 ^ 32) (fun a b => BitVec.ofInt 64 (min a.toInt b.toInt)) ∧
  AluiRow .maxi 13 1 (2 ^ 32) (fun a b => BitVec.ofInt 64 (max a.toInt b.toInt)) ∧
  AluiRow .andni 14 1 (2 ^ 32) (fun a b => a &&& ~~~b) ∧
  ComputesG .deph (fun w => wOp w = 0x11 ∧ wSub w = 15 ∧ wB w = 0) 1
    (fun x w => w.extractLsb' 0 32 ++ (x.greg (wA w)).extractLsb' 0 32)

/-- Each comparison writes its truth into p[d] unless d is 0, each PLOG row its combination of p[a] and p[b], and P2G writes
1 or 0 into g[d], on a strand and on the MCP, with the frame of AluResults. (R183, R184, R188.) -/
def Obligations.CompareAndPredicateResults : Prop :=
  CmpRow .cmpEq 0 (fun a b => decide (a = b)) ∧ CmpRow .cmpNe 1 (fun a b => decide (a ≠ b)) ∧
  CmpRow .cmpLtu 2 (fun a b => decide (a.toNat < b.toNat)) ∧ CmpRow .cmpGeu 3 (fun a b => decide (a.toNat ≥ b.toNat)) ∧
  CmpRow .cmpLt 4 (fun a b => decide (a.toInt < b.toInt)) ∧ CmpRow .cmpGe 5 (fun a b => decide (a.toInt ≥ b.toInt)) ∧
  CmpRow .cmpTst 6 (fun a b => decide (a &&& b ≠ 0)) ∧ CmpRow .cmpNtst 7 (fun a b => decide (a &&& b = 0)) ∧
  CmpiRow .cmpiEq 0 (fun a b => decide (a = b)) ∧ CmpiRow .cmpiNe 1 (fun a b => decide (a ≠ b)) ∧
  CmpiRow .cmpiLtu 2 (fun a b => decide (a.toNat < b.toNat)) ∧
  CmpiRow .cmpiGeu 3 (fun a b => decide (a.toNat ≥ b.toNat)) ∧
  CmpiRow .cmpiLt 4 (fun a b => decide (a.toInt < b.toInt)) ∧ CmpiRow .cmpiGe 5 (fun a b => decide (a.toInt ≥ b.toInt)) ∧
  CmpiRow .cmpiTst 6 (fun a b => decide (a &&& b ≠ 0)) ∧ CmpiRow .cmpiNtst 7 (fun a b => decide (a &&& b = 0)) ∧
  PlogRow .pand 0 (fun a b => a && b) ∧ PlogRow .por 1 (fun a b => a || b) ∧ PlogRow .pxor 2 (fun a b => a != b) ∧
  PlogRow .pandn 3 (fun a b => a && !b) ∧
  ComputesG .p2g (fun w => wOp w = 0x14 ∧ wSub w = 4 ∧ wA w < 8 ∧ wB w = 0 ∧ wImm w = 0) 1
    (fun x w => if x.preg (wA w) then 1 else 0)

/-- CLZ, CTZ, POPC, BSWAP, BSWAP32, EXTU, EXTS, INS and the three CRC updates write the result of the table into g[d] unless
d is 0, on a strand and on the MCP, with the frame of AluResults. (R183, R184, R189, R190.) -/
def Obligations.BitFieldAndCrcResults : Prop :=
  BitRow .clz 0 (fun a => BitVec.ofNat 64 (if a = 0 then 64 else 63 - a.toNat.log2)) ∧
  BitRow .ctz 1 (fun a => BitVec.ofNat 64 (((List.range 64).find? (fun k => a.getLsbD k)).getD 64)) ∧
  BitRow .popc 2 (fun a => BitVec.ofNat 64 ((List.range 64).countP (fun k => a.getLsbD k))) ∧
  BitRow .bswap 3 (fun a => BitVec.ofNat 64 (leNat (leBytes a.toNat 8).reverse)) ∧
  BitRow .bswap32 4 (fun a => BitVec.ofNat 64 (leNat (leBytes a.toNat 4).reverse)) ∧
  BfxRow .extu 0 (fun p n a _ => BitVec.ofNat 64 (a.toNat / 2 ^ p % 2 ^ n)) ∧
  BfxRow .exts 1 (fun p n a _ => BitVec.ofInt 64 (Int.bmod (a.toNat / 2 ^ p) (2 ^ n))) ∧
  BfxRow .ins 2 (fun p n a d => BitVec.ofNat 64
    (d.toNat / 2 ^ (p + n) * 2 ^ (p + n) + a.toNat % 2 ^ n * 2 ^ p + d.toNat % 2 ^ p)) ∧
  CrcRow .crc32cB 0 (fun a b => BitVec.ofNat 64 (crc32c (a.toNat % 2 ^ 32) [b.extractLsb' 0 8])) ∧
  CrcRow .crc32cD 1 (fun a b => BitVec.ofNat 64 (crc32c (a.toNat % 2 ^ 32) (leBytes b.toNat 8))) ∧
  CrcRow .crc64D 2 (fun a b => BitVec.ofNat 64 (crc64 a.toNat (leBytes b.toNat 8)))

namespace Sys2Proof.Claims

open Sys2Proof Sys2Proof.Machine

/-- The request goes on at the next instruction. -/
def onward (r : Request) : Request := { r with ctx := { r.ctx with pc := r.ctx.pc + 1 } }

/-- The request with `v` written into g[d], at the next instruction. -/
def withG (r : Request) (d : Nat) (v : DWord) : Request := onward { r with ctx := r.ctx.setG d v }

/-- The request with `bs` stored in the pad at `a`, at the next instruction. -/
def withPad (r : Request) (a : Nat) (bs : List Byte) : Request := onward { r with ctx := r.ctx.setPad a bs }

/-- On a strand, a word that meets `ok` while `pre` holds makes `f` of the request, and changes nothing else. -/
def StrandDoes (c : Agent → DWord → Instr) (ok : DWord → Prop) (pre : State → Request → DWord → Prop)
    (f : State → Request → DWord → Request) : Prop :=
  ∀ (s : State) i id r w, RunsOn s i id r w → ok w → pre s r w →
    ∃ t, exec (c (.strand i) w) s = .next t ∧ OnlyRequest s t i id (f s r w)

/-- On a strand, a word that meets `ok` while `pre` holds answers a next state of which `post` holds. -/
def StrandGives (c : Agent → DWord → Instr) (ok : DWord → Prop) (pre : State → Fin 512 → Request → DWord → Prop)
    (post : State → State → Nat → Request → DWord → Prop) : Prop :=
  ∀ (s : State) i id r w, RunsOn s i id r w → ok w → pre s i r w → ∃ t, exec (c (.strand i) w) s = .next t ∧ post s t id r w

/-- On the MCP, a word that meets `ok` while `pre` holds answers a next state of which `post` holds. -/
def McpGives (c : Agent → DWord → Instr) (ok : DWord → Prop) (pre : State → DWord → Prop) (post : State → State → DWord → Prop) :
    Prop :=
  ∀ (s : State) w, McpRuns s w → ok w → pre s w → ∃ t, exec (c .mcp w) s = .next t ∧ post s t w

/-- What an LD makes of the bytes it read: zero-extended, or sign-extended when sub[2] is set (R192). -/
def loadValue (w : DWord) (bs : List Byte) : DWord :=
  if wSub w % 8 < 4 then BitVec.ofNat 64 (leNat bs) else BitVec.ofInt 64 (Int.bmod (leNat bs) (2 ^ (8 * 2 ^ (wSub w % 4))))

/-- Tile `k` holds `bs` from offset `o` on, wrapping at byte 4,095; its other bytes, and the other tiles, are as before. -/
structure TileWritten (s t : State) (k o : Nat) (bs : List Byte) : Prop where
  others : ∀ j, j ≠ k → Maps.find j t.stg.tiles = Maps.find j s.stg.tiles
  written : ∀ x, Maps.find k s.stg.tiles = some x → ∃ y, Maps.find k t.stg.tiles = some y ∧ y = { x with bytes := y.bytes } ∧
    (∀ n (h : n < bs.length), y.bytes.byte ((o + n) % 4096) = bs[n]) ∧
    (∀ a, (∀ n, n < bs.length → a ≠ (o + n) % 4096) → y.bytes.byte a = x.bytes.byte a)

/-- Nothing changes but the request, which goes on, what issuing an instruction changes, and the tile memory. -/
structure OnlyTiles (s t : State) (id : Nat) (r : Request) : Prop where
  request : Maps.find id t.cle.reqs = some (onward r)
  others : ∀ k, k ≠ id → Maps.find k t.cle.reqs = Maps.find k s.cle.reqs
  rest : t = { s with
    cle := issuing { s.cle with reqs := t.cle.reqs } t.cle, stg := { s.stg with tiles := t.stg.tiles }, free := t.free }

/-- A T word of an op and a MODE bit: sub 0, and its range fields as R193 allows them. -/
abbrev TWord (op : Nat) (mode : Bool) (w : DWord) : Prop :=
  wOp w = op ∧ wSub w = 0 ∧ bitOf w 0 = mode ∧ (if bitOf w 25 then fld w 24 13 = 0 else wB w = 0)

/-- The tile that handle `h` of the request binds. -/
def bound (r : Request) (h : Nat) : Option Nat := Maps.find h r.ctx.t

/-- A clause's access of `n` bytes at a window offset is allowed: inside the window, with the right (R156). -/
abbrev allowed (s : State) (r : Request) (off n right : Nat) : Prop :=
  (n = 0 ∨ off + n ≤ (s.window r.win).length) ∧ bitOf r.rights right = true

/-- A window write of `n` bytes stays within the clause's 256 lines (R152, R197). -/
abbrev linesFit (s : State) (r : Request) (off n : Nat) : Prop := s.linesUsed r + s.linesAt r off n ≤ 256

/-- The request with a window write buffered behind the clause's earlier ones. -/
def withWrite (r : Request) (off : Nat) (bytes : List Byte) : Request :=
  onward { r with eff := { r.eff with writes := r.eff.writes ++ [{ off, bytes }] } }

/-- The segment has ended: the strand is free, the return stack and the scratch pad are gone, and the request waits as given at
the next instruction (R144, R149). -/
structure SegmentEnds (s t : State) (id : Nat) (r : Request) (st : ReqState) : Prop where
  request : ∃ r', Maps.find id t.cle.reqs = some r' ∧ r'.st = st ∧ r'.ctx = { r.ctx with pc := r.ctx.pc + 1, scratch := [] } ∧
    r'.stack = [] ∧ r'.eff = r.eff ∧ r'.pour = r.pour ∧ r'.mreads = r.mreads ∧ r'.matoms = r.matoms ∧ r'.fences = r.fences
  strand : ∀ k v, (k, v) ∈ t.cle.strands → v.1 ≠ id
  others : ∀ k, k ≠ id → Maps.find k t.cle.reqs = Maps.find k s.cle.reqs
  rest : t = { s with cle := issuing { s.cle with reqs := t.cle.reqs, strands := t.cle.strands } t.cle, free := t.free }

/-- The request is gone, and with it its strand (R159); of one with MATOMs issued and not yet Accepted only those are left (R155,
R206), of one whose earlier clause has released a long response only the rest of that (R144, R196). -/
def RequestGone (t : State) (id : Nat) : Prop :=
  (∀ r, Maps.find id t.cle.reqs = some r → r.st = .ended ∨ (r.st = .held ∧ r.rest.isSome = true ∧ r.eff = {})) ∧
  ∀ k v, (k, v) ∈ t.cle.strands → v.1 ≠ id

/-- Fields that an X word does not use. -/
abbrev zeroD (w : DWord) : Prop := wD w = 0
abbrev zeroA (w : DWord) : Prop := wA w = 0
abbrev zeroB (w : DWord) : Prop := wB w = 0
abbrev zeroImm (w : DWord) : Prop := wImm w = 0

/-- The sum of the lengths of the response-path MREADs of a clause (R196, R201). -/
def responseBytes (r : Request) : Nat := ((r.mreads.filter (fun m => m.dst.isNone)).map (·.len)).sum

/-- An MREAD of a clause as it is issued: of a response only what lies in its first 16 KiB is read now (R196). -/
def newRead (off len now : Nat) (dst : Option Nat) : MRead := { off, len, dst, now, done := now == 0 }

/-- The values of register g[n]. -/
def gn (r : Request) (n : Nat) : Nat := (r.ctx.greg n).toNat

end Sys2Proof.Claims

/-- GETCX copies the selected context register; LD of the pad, the payload, a bound tile and the MCP's SRAM writes the zero-
or sign-extended bytes into g[d]; ST writes the low bytes of g[b] into the pad, a tile (wrapping at byte 4,095) or SRAM;
every other byte, register and request stays. (R191, R192, R193, R447.) -/
def Obligations.ContextAndPadResults : Prop :=
  StrandDoes .getcx (fun w => wOp w = 0x18 ∧ wSub w < 8 ∧ wA w = 0 ∧ wB w = 0 ∧ wImm w = 0) (fun _ _ _ => True)
    (fun _ r w => withG r (wD w) (r.cx (wSub w))) ∧
  StrandDoes (fun ag w => .ldPad ag w []) (fun w => wOp w = 0x20 ∧ wSub w < 8 ∧ wB w = 0)
    (fun _ r w => (r.ctx.greg (wA w) + wSimm w).toNat + 2 ^ (wSub w % 4) ≤ 8192)
    (fun _ r w => withG r (wD w) (loadValue w (r.ctx.padBytes (r.ctx.greg (wA w) + wSimm w).toNat (2 ^ (wSub w % 4))))) ∧
  McpGives (fun ag w => .ldPad ag w []) (fun w => wOp w = 0x20 ∧ wSub w < 8 ∧ wB w = 0)
    (fun s w => let a := ((s.ctxOf .mcp).greg (wA w) + wSimm w).toNat
      0x100000 ≤ a ∧ a + 2 ^ (wSub w % 4) ≤ 0x200000)
    (fun s t w => let a := ((s.ctxOf .mcp).greg (wA w) + wSimm w).toNat
      OnlyMcp s t 2 ∧ WritesG (s.ctxOf .mcp) (t.ctxOf .mcp) (wD w)
        (loadValue w ((List.range (2 ^ (wSub w % 4))).map (fun k => s.mcp.sram.byte (a - 0x100000 + k)))) (s.mcp.pc + 8)) ∧
  StrandDoes .ldPayload (fun w => wOp w = 0x20 ∧ 8 ≤ wSub w ∧ wSub w < 16 ∧ wB w = 0)
    (fun _ r w => (r.ctx.greg (wA w) + wSimm w).toNat + 2 ^ (wSub w % 4) ≤ r.payload.length)
    (fun _ r w => withG r (wD w)
      (loadValue w ((r.payload.drop (r.ctx.greg (wA w) + wSimm w).toNat).take (2 ^ (wSub w % 4))))) ∧
  (∀ tile, StrandDoes (fun ag w => .ldTile ag w []) (fun w => wOp w = 0x20 ∧ 16 ≤ wSub w ∧ wSub w < 24 ∧ wB w < 8)
    (fun _ r w => bound r (wB w) = some tile)
    (fun s r w => withG r (wD w) (loadValue w (s.tileBytes tile (r.ctx.greg (wA w) + wSimm w).toNat (2 ^ (wSub w % 4)))))) ∧
  StrandDoes .stPad (fun w => wOp w = 0x21 ∧ wSub w < 4 ∧ wD w = 0)
    (fun _ r w => (r.ctx.greg (wA w) + wSimm w).toNat + 2 ^ (wSub w % 4) ≤ 8192)
    (fun _ r w => withPad r (r.ctx.greg (wA w) + wSimm w).toNat (leBytes (gn r (wB w)) (2 ^ (wSub w % 4)))) ∧
  McpGives .stPad (fun w => wOp w = 0x21 ∧ wSub w < 4 ∧ wD w = 0)
    (fun s w => let a := ((s.ctxOf .mcp).greg (wA w) + wSimm w).toNat
      0x100000 ≤ a ∧ a + 2 ^ (wSub w % 4) ≤ 0x200000)
    (fun s t w => let a := ((s.ctxOf .mcp).greg (wA w) + wSimm w).toNat - 0x100000
      let bs := leBytes ((s.ctxOf .mcp).greg (wB w)).toNat (2 ^ (wSub w % 4))
      (∀ k (h : k < bs.length), t.mcp.sram.byte (a + k) = bs[k]) ∧
      (∀ b, b < a ∨ a + bs.length ≤ b → t.mcp.sram.byte b = s.mcp.sram.byte b) ∧
      t = { s with mcp := { s.mcp with pc := s.mcp.pc + 8, ibuf := t.mcp.ibuf, sram := t.mcp.sram, cycles := s.mcp.cycles + 1 } }) ∧
  (∀ tile, StrandGives .stTile (fun w => wOp w = 0x21 ∧ 16 ≤ wSub w ∧ wSub w < 20 ∧ wD w < 8)
    (fun _ _ r w => bound r (wD w) = some tile)
    (fun s t id r w => OnlyTiles s t id r ∧ TileWritten s t tile (r.ctx.greg (wA w) + wSimm w).toNat
      (leBytes (gn r (wB w)) (2 ^ (wSub w % 4)))))

/-- TLD binds a resident tile; TST buffers a window write; TCOPY, TFILL and TXOR write a tile's range and nothing else; TCRC,
TCMP, TSCAN and TSUM write g[d]; STAGE replaces the request's pour schedule by the one in the pad, at cursor 0 with no handle
bound. (R193, R194, R195, R197, R199.) -/
def Obligations.TileResults : Prop :=
  (∀ (k tile : Nat), StrandGives .tld
    (fun w => TWord 0x30 false w ∧ bitOf w 25 = false ∧ wD w = 0 ∧ wB w = 0 ∧ fld w 24 13 = 0 ∧ fld w 12 1 = 0)
    (fun _ _ r w => gn r (wA w) = k ∧ ∃ p st x, r.pour = some p ∧ p.resident k = true ∧ p.stages[k]? = some st ∧
      st.tiles[fld w 28 26]? = some x ∧ x.tile = some tile)
    (fun s t id r w => Maps.find id t.cle.reqs =
        some (onward { r with ctx := { r.ctx with t := Maps.put (fld w 31 29) tile r.ctx.t } }) ∧
      (∀ j, (Maps.find j t.stg.tiles).map (·.bytes) = (Maps.find j s.stg.tiles).map (·.bytes)))) ∧
  (∀ tile, StrandDoes (fun ag w => .tst ag w []) (fun w => TWord 0x31 false w ∧ wD w = 0 ∧ fld w 28 26 = 0)
    (fun s r w => bound r (fld w 31 29) = some tile ∧ (tRange w r.ctx).2 ≠ 0 ∧
      allowed s r (gn r (wA w)) (tRange w r.ctx).2 1 ∧ linesFit s r (gn r (wA w)) (tRange w r.ctx).2)
    (fun s r w => withWrite r (gn r (wA w)) (s.tileBytes tile (tRange w r.ctx).1 (tRange w r.ctx).2))) ∧
  (∀ a b, StrandGives (fun ag w => .tcopy ag w []) (fun w => TWord 0x32 false w ∧ wD w = 0 ∧ wA w = 0)
    (fun _ _ r w => bound r (fld w 31 29) = some a ∧ bound r (fld w 28 26) = some b)
    (fun s t id r w => OnlyTiles s t id r ∧
      TileWritten s t a (tRange w r.ctx).1 (s.tileBytes b (tRange w r.ctx).1 (tRange w r.ctx).2))) ∧
  (∀ a, StrandGives .tcopyPayload (fun w => TWord 0x32 true w ∧ wD w = 0 ∧ fld w 28 26 = 0)
    (fun _ _ r w => bound r (fld w 31 29) = some a ∧ gn r (wA w) + (tRange w r.ctx).2 ≤ r.payload.length)
    (fun s t id r w => OnlyTiles s t id r ∧
      TileWritten s t a (tRange w r.ctx).1 ((r.payload.drop (gn r (wA w))).take (tRange w r.ctx).2))) ∧
  (∀ a, StrandGives .tfill (fun w => TWord 0x33 false w ∧ wD w = 0 ∧ fld w 28 26 = 0)
    (fun _ _ r w => bound r (fld w 31 29) = some a)
    (fun s t id r w => OnlyTiles s t id r ∧
      TileWritten s t a (tRange w r.ctx).1 ((List.range (tRange w r.ctx).2).map (fun k =>
        BitVec.ofNat 8 (gn r (wA w) / 2 ^ (8 * (((tRange w r.ctx).1 + k) % 8))))))) ∧
  (∀ a b, StrandGives (fun ag w => .txor ag w []) (fun w => TWord 0x34 false w ∧ wD w = 0 ∧ wA w = 0)
    (fun _ _ r w => bound r (fld w 31 29) = some a ∧ bound r (fld w 28 26) = some b)
    (fun s t id r w => OnlyTiles s t id r ∧
      TileWritten s t a (tRange w r.ctx).1 (List.zipWith (· ^^^ ·) (s.tileBytes a (tRange w r.ctx).1 (tRange w r.ctx).2)
        (s.tileBytes b (tRange w r.ctx).1 (tRange w r.ctx).2)))) ∧
  (∀ a, StrandDoes (fun ag w => .tcrcCrc32c ag w []) (fun w => TWord 0x35 false w ∧ fld w 28 26 = 0)
    (fun s r w => bound r (fld w 31 29) = some a ∧ s.tileBytes a (tRange w r.ctx).1 (tRange w r.ctx).2 ≠ [])
    (fun s r w => withG r (wD w)
      (BitVec.ofNat 64 (crc32c (gn r (wA w)) (s.tileBytes a (tRange w r.ctx).1 (tRange w r.ctx).2))))) ∧
  (∀ a, StrandDoes (fun ag w => .tcrcCrc64 ag w []) (fun w => TWord 0x35 true w ∧ fld w 28 26 = 0)
    (fun s r w => bound r (fld w 31 29) = some a ∧ s.tileBytes a (tRange w r.ctx).1 (tRange w r.ctx).2 ≠ [])
    (fun s r w => withG r (wD w)
      (BitVec.ofNat 64 (crc64 (gn r (wA w)) (s.tileBytes a (tRange w r.ctx).1 (tRange w r.ctx).2))))) ∧
  (∀ a b n, StrandDoes (fun ag w => .tcmp ag w []) (fun w => TWord 0x36 false w ∧ wA w = 0)
    (fun s r w => bound r (fld w 31 29) = some a ∧ bound r (fld w 28 26) = some b ∧ n < (tRange w r.ctx).2 ∧
      s.tileBytes a (tRange w r.ctx).1 n = s.tileBytes b (tRange w r.ctx).1 n ∧
      s.tileBytes a ((tRange w r.ctx).1 + n) 1 ≠ s.tileBytes b ((tRange w r.ctx).1 + n) 1 ∧
      Maps.has s.stg.tiles a = true ∧ Maps.has s.stg.tiles b = true)
    (fun _ r w => withG r (wD w) (BitVec.ofNat 64 ((tRange w r.ctx).1 + n)))) ∧
  (∀ a b, StrandDoes (fun ag w => .tcmp ag w []) (fun w => TWord 0x36 false w ∧ wA w = 0)
    (fun s r w => bound r (fld w 31 29) = some a ∧ bound r (fld w 28 26) = some b ∧
      s.tileBytes a (tRange w r.ctx).1 (tRange w r.ctx).2 = s.tileBytes b (tRange w r.ctx).1 (tRange w r.ctx).2)
    (fun _ r w => withG r (wD w) (BitVec.allOnes 64))) ∧
  (∀ a, StrandDoes (fun ag w => .tscanEq ag w []) (fun w => TWord 0x37 false w ∧ fld w 28 26 = 0)
    (fun _ r w => bound r (fld w 31 29) = some a)
    (fun s r w => withG r (wD w)
      (match (words8 (tRange w r.ctx).1 (s.tileBytes a (tRange w r.ctx).1 (tRange w r.ctx).2)).find?
          (fun e => e.2 == r.ctx.greg (wA w)) with
       | some e => BitVec.ofNat 64 e.1
       | none => BitVec.allOnes 64))) ∧
  (∀ a, StrandDoes (fun ag w => .tscanNe ag w []) (fun w => TWord 0x37 true w ∧ fld w 28 26 = 0)
    (fun _ r w => bound r (fld w 31 29) = some a)
    (fun s r w => withG r (wD w)
      (match (words8 (tRange w r.ctx).1 (s.tileBytes a (tRange w r.ctx).1 (tRange w r.ctx).2)).find?
          (fun e => e.2 != r.ctx.greg (wA w)) with
       | some e => BitVec.ofNat 64 e.1
       | none => BitVec.allOnes 64))) ∧
  (∀ a, StrandDoes (fun ag w => .tsumAdd ag w []) (fun w => TWord 0x38 false w ∧ fld w 28 26 = 0)
    (fun _ r w => bound r (fld w 31 29) = some a)
    (fun s r w => withG r (wD w) (BitVec.ofNat 64 (gn r (wA w) +
      ((words8 (tRange w r.ctx).1 (s.tileBytes a (tRange w r.ctx).1 (tRange w r.ctx).2)).map (fun e => e.2.toNat)).sum)))) ∧
  (∀ a, StrandDoes (fun ag w => .tsumXor ag w []) (fun w => TWord 0x38 true w ∧ fld w 28 26 = 0)
    (fun _ r w => bound r (fld w 31 29) = some a)
    (fun s r w => withG r (wD w)
      (((words8 (tRange w r.ctx).1 (s.tileBytes a (tRange w r.ctx).1 (tRange w r.ctx).2)).map Prod.snd).foldl
        (· ^^^ ·) (r.ctx.greg (wA w))))) ∧
  StrandGives .stage (fun w => wOp w = 0x43 ∧ wSub w = 0 ∧ wD w = 0 ∧ wB w = 0 ∧ wImm w ≤ 8191)
    (fun s _ r w => s.stageTrap r (r.ctx.greg (wA w) + wSimm w).toNat = none)
    (fun _ t id r w => ∃ r' p, Maps.find id t.cle.reqs = some r' ∧ r'.pour = some p ∧ p.cursor = 0 ∧
      p.stages.map (fun st => st.tiles) = (stagesOf r.ctx (r.ctx.greg (wA w) + wSimm w).toNat).map (fun st => st.tiles) ∧
      r'.ctx = { r.ctx with t := [], pc := r.ctx.pc + 1 })

/-- MREAD adds a read of the window to the response path or to the pad; its data, when they return, are the bytes of the
window's lines as Accepted, and the last of a long response leaves nothing to be read for it; MWRITE buffers the pad's or the payload's
bytes; FENCE records the QP's ACC as its target. No register of the clause changes but the pc. (R152, R156, R196, R197, R200.) -/
def Obligations.WindowInstructions : Prop :=
  StrandGives .mreadResponse (fun w => wOp w = 0x40 ∧ wSub w = 0 ∧ wD w = 0 ∧ wImm w = 0)
    (fun s _ r w => r.kind = 0 ∧ allowed s r (gn r (wA w)) (gn r (wB w)) 0 ∧ responseBytes r + gn r (wB w) ≤ r.len ∧ r.kept = [])
    (fun _ t id r w => ∃ r', Maps.find id t.cle.reqs = some r' ∧ r'.ctx = { r.ctx with pc := r.ctx.pc + 1 } ∧
      r'.mreads = r.mreads ++ [newRead (gn r (wA w)) (gn r (wB w)) (min (gn r (wB w)) (16384 - responseBytes r)) none]) ∧
  StrandGives .mreadPad (fun w => wOp w = 0x40 ∧ wSub w = 1 ∧ wImm w = 0)
    (fun s _ r w => gn r (wD w) + gn r (wB w) ≤ 8192 ∧ allowed s r (gn r (wA w)) (gn r (wB w)) 0 ∧ r.kept = [])
    (fun _ t id r w => ∃ r', Maps.find id t.cle.reqs = some r' ∧ r'.ctx = { r.ctx with pc := r.ctx.pc + 1 } ∧
      r'.mreads = r.mreads ++ [newRead (gn r (wA w)) (gn r (wB w)) (gn r (wB w)) (some (gn r (wD w)))]) ∧
  (∀ (s : State) req index r m, Maps.find req s.cle.reqs = some r → r.rest = none → r.mreads[index]? = some m → m.done = false →
    r.readFail = none → s.readsPending req ((s.window r.win).pnaBase + m.off) m.now = false →
    ∃ t, exec (.mreadDataReturn req index) s = .next t ∧
      t = { s with cle := { s.cle with reqs := t.cle.reqs } } ∧
      ∃ r', Maps.find req t.cle.reqs = some r' ∧
        r' = { r with mreads := r.mreads.set index { m with done := true, data := (s.readBytes ((s.window r.win).pnaBase + m.off) m.now) } }) ∧
  (∀ (s : State) req index r x, Maps.find req s.cle.reqs = some r → r.rest = some x → s.restPending req r x = false → x.fail = none →
    dropParts 16384 x.parts = [] →
    ∃ t, exec (.mreadDataReturn req index) s = .next t ∧ t.dur = s.dur ∧ t.med = s.med ∧
      (r.st = .held → RequestGone t req) ∧ (r.st ≠ .held → Maps.find req t.cle.reqs = some { r with rest := none })) ∧
  StrandDoes .mwritePad (fun w => wOp w = 0x41 ∧ wSub w = 0 ∧ fld w 31 15 = 0 ∧ fld w 14 0 < 16384)
    (fun s r w => gn r (wB w) ≠ 0 ∧ gn r (wB w) ≤ fld w 14 0 + 1 ∧ gn r (wD w) + gn r (wB w) ≤ 8192 ∧
      allowed s r (gn r (wA w)) (gn r (wB w)) 1 ∧ linesFit s r (gn r (wA w)) (gn r (wB w)))
    (fun _ r w => withWrite r (gn r (wA w)) (r.ctx.padBytes (gn r (wD w)) (gn r (wB w)))) ∧
  StrandDoes .mwritePayload (fun w => wOp w = 0x41 ∧ wSub w = 1 ∧ fld w 31 15 = 0 ∧ fld w 14 0 < 16384)
    (fun s r w => gn r (wB w) ≠ 0 ∧ gn r (wB w) ≤ fld w 14 0 + 1 ∧ gn r (wD w) + gn r (wB w) ≤ r.payload.length ∧
      allowed s r (gn r (wA w)) (gn r (wB w)) 1 ∧ linesFit s r (gn r (wA w)) (gn r (wB w)))
    (fun _ r w => withWrite r (gn r (wA w)) ((r.payload.drop (gn r (wD w))).take (gn r (wB w)))) ∧
  StrandGives .fence (fun w => wOp w = 0x44 ∧ wSub w = 0 ∧ wD w = 0 ∧ wImm w = 0)
    (fun s _ r w => allowed s r (gn r (wA w)) (gn r (wB w)) 3)
    (fun s t id r w => Maps.find id t.cle.reqs = some (onward { r with fences := r.fences ++
      [{ target := ((s.qp r.qpn).map (·.acc)).getD 0, tick := s.now, done := gn r (wB w) == 0 }] }))

/-- A MATOM on a strand takes its place among the request's MATOMs, with its operands read and its offset aligned down
(R155, R198); of a Poisoned line it is one that has failed (R269), which this does not say. -/
def Sys2Proof.Claims.MatomRow (c : Agent → DWord → Instr) (sub size ops : Nat) : Prop :=
  StrandGives c (fun w => wOp w = 0x42 ∧ wSub w = sub ∧ wImm w = 0 ∧ wB w + ops ≤ 32 ∧ (sub = 4 → wD w ≤ 30))
    (fun s _ r w => allowed s r (gn r (wA w) / size * size) size 2 ∧ r.logged = [] ∧ r.repeated = [] ∧
      ∀ l ∈ linesOf ((s.window r.win).pnaBase + gn r (wA w) / size * size) size, Maps.has s.med.poison l = false)
    (fun s t id r w => ∃ r', Maps.find id t.cle.reqs = some r' ∧ r'.ctx = { r.ctx with pc := r.ctx.pc + 1 } ∧
      (let a := (s.window r.win).pnaBase + gn r (wA w) / size * size
       r'.matoms = r.matoms ++ [{ sub, off := gn r (wA w) / size * size, d := wD w, pos := r.matoms.length, seq := s.cle.order
                                  ops := (List.range ops).map (fun k => r.ctx.greg (wB w + k)), pna := a
                                  read := !s.inNand (a / 16384) }]))

/-- The bytes that a MATOM leaves where it found `old` (R198). -/
def Sys2Proof.Claims.matomBytes (m : MAtom) (old : List Byte) : List Byte :=
  let x := m.ops.getD 0 0
  let y := m.ops.getD 1 0
  let o := BitVec.ofNat 64 (leNat (old.take 8))
  match m.sub with
  | 0 => if o = x then leBytes y.toNat 8 else old
  | 1 => leBytes (o + x).toNat 8
  | 2 | 5 => leBytes x.toNat 8
  | 3 => leBytes ((o &&& ~~~y) ||| (x &&& y)).toNat 8
  | _ => if o = x ∧ BitVec.ofNat 64 (leNat (old.drop 8)) = y then
      leBytes (m.ops.getD 2 0).toNat 8 ++ leBytes (m.ops.getD 3 0).toNat 8 else old

/-- Each of the six MATOM rows appends a record with its aligned offset, the values of its operand registers and its place,
and goes on; nothing reaches the window yet. When the placement unit accepts a MATOM whose line has been read, the
bytes at its address become what the row makes of the old bytes and the operands, the old value is kept for g[d], the QP's ACC advances by
one, and one outcome entry is written. (R155, R156, R198, R351, R367.) -/
def Obligations.MatomInstructions : Prop :=
  MatomRow .cas8 0 8 2 ∧ MatomRow .fadd8 1 8 1 ∧ MatomRow .swap8 2 8 1 ∧ MatomRow .mask8 3 8 2 ∧ MatomRow .cas16 4 16 4 ∧
  MatomRow .write8 5 8 1 ∧
  (∀ (s : State) req index r m c, Maps.find req s.cle.reqs = some r → (r.matoms ++ r.logged).find? (fun x => x.pos == index && x.due) = some m →
     r.st ≠ .ended → m.sub < 6 → m.read = true → s.qp r.qpn = some c →
     (let size := if m.sub = 4 then 16 else 8
      m.pna % size = 0 ∧ s.readsPending req m.pna size = false ∧ s.matomBehind (m.pna / 64) m.seq = false ∧
      s.newPagesFit r.tenant [m.pna / 16384] = true ∧ s.pbRoom r.cls 1 = true) →
     ∃ t, exec (.matomAccepted req index) s = .next t ∧
       (let size := if m.sub = 4 then 16 else 8
        t.readBytes m.pna size = matomBytes m (s.readBytes m.pna size) ∧
        (∃ r', Maps.find req t.cle.reqs = some r' ∧
           ∀ x ∈ r'.matoms ++ r'.logged, x.pos = m.pos → x.accepted = true ∧ leNat (s.readBytes m.pna 8) = (x.orig.getD 0 0).toNat) ∧
        (∃ c', t.qp r.qpn = some c' ∧ c'.acc = c.acc + 1) ∧
        t.dur.outcomes.length = s.dur.outcomes.length + 1))

/-- Each queues its effect among the request's buffered effects, where it fits the request's kind and the clause's limits,
and goes on; nothing is released and no register but the pc changes. A STATUS of the standard program set replies with the named QP's
last-status word, state and DURABLE_MSN; that these come with the REPLY is the model's choice (log 119). (R152, R170, R201, R202,
R203.) -/
def Obligations.MessageInstructions : Prop :=
  StrandDoes .postResponse (fun w => wOp w = 0x50 ∧ wSub w = 0 ∧ wD w = 0 ∧ wA w = 0 ∧ wB w = 0 ∧ wImm w = 0)
    (fun _ r _ => r.kind = 0 ∧ r.eff.post = none ∧ responseBytes r = r.len)
    (fun _ r _ => onward { r with eff := { r.eff with post := some (0, 0) } }) ∧
  StrandDoes .postAck (fun w => wOp w = 0x50 ∧ wSub w = 1 ∧ wD w = 0 ∧ wA w = 0 ∧ wB w = 0 ∧ wImm w = 0)
    (fun _ r _ => (r.kind = 1 ∨ r.kind = 6) ∧ r.eff.post = none)
    (fun _ r _ => onward { r with eff := { r.eff with post := some (1, 0) } }) ∧
  StrandDoes .postAtomic (fun w => wOp w = 0x50 ∧ wSub w = 2 ∧ wD w = 0 ∧ wB w = 0 ∧ wImm w = 0)
    (fun _ r _ => 2 ≤ r.kind ∧ r.kind ≤ 4 ∧ r.eff.post = none)
    (fun _ r w => onward { r with eff := { r.eff with post := some (2, r.ctx.greg (wA w)) } }) ∧
  StrandDoes .postFlushack (fun w => wOp w = 0x50 ∧ wSub w = 3 ∧ wD w = 0 ∧ wA w = 0 ∧ wB w = 0 ∧ wImm w = 0)
    (fun _ r _ => r.kind = 5 ∧ r.eff.post = none)
    (fun _ r _ => onward { r with eff := { r.eff with post := some (3, 0) } }) ∧
  StrandDoes .reply (fun w => wOp w = 0x51 ∧ wSub w = 0 ∧ wD w = 0 ∧ wImm w < 256)
    (fun s r w => s.standardStatus r = false ∧ 16 ≤ r.kind ∧ gn r (wB w) ≤ 510 ∧ (gn r (wB w) = 0 ∨ gn r (wA w) + 8 * gn r (wB w) ≤ 8192) ∧ r.eff.reply = none)
    (fun _ r w => onward { r with eff := { r.eff with reply := some (wImm w, (List.range (gn r (wB w))).map (fun k =>
      BitVec.ofNat 64 (leNat (r.ctx.padBytes (gn r (wA w) + 8 * k) 8)))) } }) ∧
  (∀ c, StrandDoes .reply (fun w => wOp w = 0x51 ∧ wSub w = 0 ∧ wD w = 0 ∧ wImm w < 256)
    (fun s r w => s.standardStatus r = true ∧ gn r (wB w) = 0 ∧ r.eff.reply = none ∧
      s.qp (if BitVec.ofNat 24 (r.args.getD 0 0).toNat = 0 then r.qpn else BitVec.ofNat 24 (r.args.getD 0 0).toNat) = some c ∧
      c.tenant = r.tenant)
    (fun s r _ => onward { r with eff := { r.eff with reply := some (Code.ok, [BitVec.ofNat 64 (c.lastCode * 2 ^ 24 + c.lastPsn.toNat),
      BitVec.ofNat 64 c.state.num, BitVec.ofNat 64 (durableMsn s.dur.solo c).toNat]) } })) ∧
  StrandDoes .notify (fun w => wOp w = 0x52 ∧ wSub w = 0 ∧ wD w = 0 ∧ wB w = 0 ∧ wImm w < 16)
    (fun _ r w => gn r (wA w) + 32 ≤ 8192 ∧ r.eff.notifies.length < 4)
    (fun _ r w => onward { r with eff := { r.eff with
      notifies := r.eff.notifies ++ [(wImm w, r.ctx.padBytes (gn r (wA w)) 32)] } }) ∧
  StrandDoes .meter (fun w => wOp w = 0x53 ∧ wSub w = 0 ∧ wD w = 0 ∧ wA w = 0 ∧ wImm w < 2)
    (fun _ r _ => r.eff.meters.length < 8)
    (fun _ r w => onward { r with eff := { r.eff with meters := r.eff.meters ++ [(wImm w, gn r (wB w))] } })

/-- An instruction that moves the pc: on a strand to `f`, on the MCP to `g`; nothing else of the registers changes. -/
def Sys2Proof.Claims.Jumps (c : Agent → DWord → Instr) (ok : DWord → Prop) (cost : Nat) (pre : Ctx → DWord → Prop) : Prop :=
  (∀ (s : State) i id r w (target : Nat), RunsOn s i id r w → ok w → pre r.ctx w → (r.ctx.pc : Int) + (wSimm w).toInt = target →
    target < (s.codeOf r).length →
    ∃ t, exec (c (.strand i) w) s = .next t ∧ OnlyRequest s t i id { r with ctx := { r.ctx with pc := target } }) ∧
  (∀ (s : State) w, McpRuns s w → ok w → pre (s.ctxOf .mcp) w →
    ∃ t, exec (c .mcp w) s = .next t ∧ OnlyMcp s t cost ∧
      t.ctxOf .mcp = { s.ctxOf .mcp with pc := (((s.mcp.pc : Int) + 8 * (wSimm w).toInt) % 2 ^ 64).toNat })

/-- NOP goes on; BR and a true BRP jump to the pc plus the immediate, a false BRP goes on, CALL pushes the next index and RET
pops it; ABORT ends the request, counts it, and no line is Accepted. (R157, R183, R204.) -/
def Obligations.FlowInstructions : Prop :=
  ComputesG (fun ag w => .nopInstruction ag w false) (fun w => wOp w = 0x01 ∧ wSub w = 0 ∧ wD w = 0 ∧ wA w = 0 ∧ wB w = 0 ∧ wImm w = 0)
    1 (fun _ _ => 0) ∧
  Jumps .br (fun w => wOp w = 0x60 ∧ wSub w = 0 ∧ wD w = 0 ∧ wA w = 0 ∧ wB w = 0) 2 (fun _ _ => True) ∧
  Jumps .brp (fun w => wOp w = 0x61 ∧ wSub w = 0 ∧ wD w = 0 ∧ wB w = 0 ∧ wA w < 16) 2
    (fun c w => (c.preg (wA w % 8) ^^ decide (8 ≤ wA w)) = true) ∧
  StrandDoes .brp (fun w => wOp w = 0x61 ∧ wSub w = 0 ∧ wD w = 0 ∧ wB w = 0 ∧ wA w < 16)
    (fun _ r w => (r.ctx.preg (wA w % 8) ^^ decide (8 ≤ wA w)) = false) (fun _ r _ => onward r) ∧
  (∀ (s : State) i id r w (target : Nat), RunsOn s i id r w → wOp w = 0x62 → wSub w = 0 → wD w = 0 → wA w = 0 → wB w = 0 →
    r.stack.length < 8 → (r.ctx.pc : Int) + (wSimm w).toInt = target → target < (s.codeOf r).length →
    ∃ t, exec (.call (.strand i) w) s = .next t ∧
      OnlyRequest s t i id { r with ctx := { r.ctx with pc := target }, stack := (r.ctx.pc + 1) :: r.stack }) ∧
  (∀ top rest, StrandDoes .ret (fun w => wOp w = 0x63 ∧ wSub w = 0 ∧ wD w = 0 ∧ wA w = 0 ∧ wB w = 0 ∧ wImm w = 0)
    (fun _ r _ => r.stack = top :: rest) (fun _ r _ => { r with ctx := { r.ctx with pc := top }, stack := rest })) ∧
  StrandGives .abort (fun w => wOp w = 0x67 ∧ wSub w = 0 ∧ wD w = 0 ∧ wA w = 0 ∧ wB w = 0 ∧ wImm w < 256)
    (fun _ _ r _ => r.st ≠ .ended ∧ r.st ≠ .held)
    (fun s t id _ _ => RequestGone t id ∧ t.reg Reg.CLE_CNT_ABORT = s.reg Reg.CLE_CNT_ABORT + 1 ∧ t.dur.pb = s.dur.pb ∧
      t.med.store = s.med.store)

/-- The segment ends, the strand is free, the pad beyond the kept bytes and the return stack are gone, and the request waits
for the event named at the next instruction; STAGE raises the cursor; a request that waits for a time wakes when that tick
comes. Registers and buffered effects stay. (R144, R149, R150, R205, R225.) -/
def Obligations.Yields : Prop :=
  StrandGives .yield (fun w => wOp w = 0x64 ∧ wSub w = 0 ∧ wD w = 0 ∧ wA w = 0 ∧ wB w = 0 ∧ wImm w = 0) (fun _ _ _ _ => True)
    (fun s t id r _ => SegmentEnds s t id r .wakes) ∧
  StrandGives .yieldWNext (fun w => wOp w = 0x65 ∧ wSub w = 0 ∧ wD w = 0 ∧ wA w = 0 ∧ wB w = 0 ∧ wImm w = 0) (fun _ _ _ _ => True)
    (fun s t id r _ => SegmentEnds s t id r .wakes) ∧
  StrandGives .yieldWMedia (fun w => wOp w = 0x65 ∧ wSub w = 1 ∧ wD w = 0 ∧ wA w = 0 ∧ wB w = 0 ∧ wImm w = 0) (fun _ _ _ _ => True)
    (fun s t id r _ => SegmentEnds s t id r (.waiting .media (s.now + 1))) ∧
  (∀ k, StrandGives .yieldWStage (fun w => wOp w = 0x65 ∧ wSub w = 2 ∧ wD w = 0 ∧ wB w = 0 ∧ wImm w = 0)
    (fun _ _ r w => gn r (wA w) = k ∧ ∃ p st, r.pour = some p ∧ p.stages[k]? = some st ∧ st.failed = none ∧ p.cursor ≤ k)
    (fun _ t id r _ => ∃ r' p, Maps.find id t.cle.reqs = some r' ∧ r'.st = .waiting (.stage k) (t.now + 1) ∧
      r'.pour = some p ∧ p.cursor = k ∧ r'.ctx.pc = r.ctx.pc + 1 ∧ r'.ctx.g = r.ctx.g ∧ r'.stack = [] ∧
      ∀ n v, (n, v) ∈ t.cle.strands → v.1 ≠ id)) ∧
  StrandGives .yieldWFence (fun w => wOp w = 0x65 ∧ wSub w = 3 ∧ wD w = 0 ∧ wA w = 0 ∧ wB w = 0 ∧ wImm w = 0) (fun _ _ _ _ => True)
    (fun s t id r _ => SegmentEnds s t id r (.waiting .fence (s.now + 1))) ∧
  StrandGives .yieldWTime (fun w => wOp w = 0x65 ∧ wSub w = 4 ∧ wD w = 0 ∧ wB w = 0 ∧ wImm w = 0) (fun _ _ _ _ => True)
    (fun s t id r w => SegmentEnds s t id r (.waiting (.time (min (gn r (wA w)) (s.now + 3000))) (s.now + 1))) ∧
  (∀ (s : State) req r at' due, Maps.find req s.cle.reqs = some r → r.st = .waiting (.time at') due → at' ≤ s.now →
    ∃ t, exec (.timeWake req) s = .next t ∧ Maps.find req t.cle.reqs = some { r with st := .wakes } ∧
      (∀ k, k ≠ req → Maps.find k t.cle.reqs = Maps.find k s.cle.reqs) ∧ t = { s with cle := { s.cle with reqs := t.cle.reqs } })

/-- The word of a COMMIT row. -/
abbrev Sys2Proof.Claims.CommitWord (sub : Nat) (w : DWord) : Prop :=
  wOp w = 0x66 ∧ wSub w = sub ∧ wD w = 0 ∧ wA w = 0 ∧ wB w = 0 ∧ wImm w = 0

/-- What every COMMIT carried out does: it is counted, its notifications wait for the boundary, and its strand is free (R26, R152,
R153). -/
def Sys2Proof.Claims.Committed (s t : State) (id : Nat) (r : Request) : Prop :=
  t.reg Reg.CLE_CNT_COMMIT = s.reg Reg.CLE_CNT_COMMIT + 1 ∧ t.ctl.outbound = s.ctl.outbound ++ r.eff.notifies ∧
  ∀ n v, (n, v) ∈ t.cle.strands → v.1 ≠ id

/-- A clause without window writes whose MATOMs are all Accepted commits at once; so does one whose writes the placement unit admits,
which then read back as written. COMMIT.C keeps the request as its new checkpoint, at the next instruction, with nothing buffered;
COMMIT ends the request; COMMIT.A makes its write Accepted through an intent slot, whose lines all enter the placement buffer.
(R26, R144, R152, R153, R154, R155, R160, R363, R375.) -/
def Obligations.Commits : Prop :=
  (∀ r : Request, r.eff.writes = [] → (∀ m ∈ r.matoms, m.accepted = true) → ∀ s : State, s.commitGate r 0 = .go ∧ s.commitGate r 1 = .go) ∧
  StrandGives .commitC (CommitWord 1) (fun s _ r _ => s.commitGate r 1 = .go)
    (fun s t id r _ => Committed s t id r ∧
      ∃ r', Maps.find id t.cle.reqs = some r' ∧ r'.st = .wakes ∧ r'.ctx.pc = r.ctx.pc + 1 ∧ r'.ckpt = r'.ctx ∧
        r'.ctx.g = r.ctx.g ∧ r'.ctx.p = r.ctx.p ∧ r'.ctx.pad = r.ctx.pad ∧ r'.eff = {} ∧ r'.matoms = [] ∧ r'.committed = true) ∧
  StrandGives .commit (CommitWord 0) (fun s _ r _ => s.commitGate r 0 = .go) (fun s t id r _ => Committed s t id r) ∧
  StrandGives .commit (CommitWord 0)
    (fun s _ r _ => s.commitGate r 0 = .go ∧ r.eff.writes = [] ∧ r.eff.post = none ∧ r.eff.reply = none ∧ r.rest = none)
    (fun s t id _ _ => RequestGone t id ∧ t.dur.pb = s.dur.pb) ∧
  (∀ off bytes, StrandGives .commit (CommitWord 0)
    (fun s _ r _ => s.commitGate r 0 = .go ∧ r.eff.writes = [{ off, bytes }] ∧ bytes ≠ [])
    (fun s t _ r _ => t.readBytes ((s.window r.win).pnaBase + off) bytes.length = bytes)) ∧
  (∀ off bytes, StrandGives .commitA (CommitWord 2)
    (fun s _ r _ => s.commitGate r 2 = .go ∧ r.eff.writes = [{ off, bytes }] ∧ bytes ≠ [])
    (fun s t id r _ => Committed s t id r ∧ t.reg Reg.DUR_CNT_INTENT = s.reg Reg.DUR_CNT_INTENT + 1 ∧
      t.readBytes ((s.window r.win).pnaBase + off) bytes.length = bytes ∧
      ∃ k x, Maps.find k t.dur.intents = some x ∧ x.tenant = r.tenant ∧ t.dur.pb.length = s.dur.pb.length + x.lines.length))

namespace Sys2Proof.Claims

open Sys2Proof Sys2Proof.Machine

/-- Nothing of the MCP changes but its pc, the buffered lines, the cycles spent, and what `m` says. -/
def McpOnward (s t : State) (cost : Nat) (m : Mcp → Mcp) : Prop :=
  t = { s with mcp := { m s.mcp with pc := s.mcp.pc + 8, ibuf := t.mcp.ibuf, cycles := s.mcp.cycles + cost } }

/-- BAR0 registers whose write does nothing but store: no ring register, no mailbox, no start bit (R8, R10). -/
def plainRegister (off : Nat) : Bool :=
  !(0x320100 ≤ off && off < 0x320500) && !(Reg.SEC_MBOX ≤ off && off < Reg.SEC_MBOX + 256) &&
  !(Reg.STG_CHAN_CTRL ≤ off && off < Reg.STG_CHAN_CTRL + 0x20 * 64) &&
  !([Reg.SEC_MBOX_CTRL, Reg.EFL_RD_ADDR, Reg.TCK_CTRL, Reg.PWR_CTRL, Reg.INT_INJECT, Reg.SEC_CTRL, Reg.EFL_CTRL, Reg.SEQ_CTRL,
    Reg.CAL_CTRL, Reg.EVR_FW_TRIG, Reg.CTL_DMA_CTRL, Reg.TWB_CTRL, Reg.TWB_CTRL + 0x100, Reg.TWB_CTRL + 0x200].contains off)

/-- The register at `off` took a write of `v` by its access codes (R10), and no other register changed. -/
def Stored (s t : State) (off : Nat) (d : RegDesc) (v : Word) : Prop :=
  t.reg off = d.written (s.reg off) v ∧ ∀ o, o ≠ off → t.reg o = s.reg o

/-- A key-engine descriptor stands in SRAM at g[a], with byte 23 zero (R476). -/
abbrev Descriptor (s : State) (w : DWord) (d : List Byte) : Prop :=
  let a := ((s.ctxOf .mcp).greg (wA w)).toNat
  0x100000 ≤ a ∧ a + 32 ≤ 0x200000 ∧ d = (List.range 32).map (fun k => s.mcp.sram.byte (a - 0x100000 + k)) ∧ d.getD 23 0 = 0

/-- A KEYOP row's word. -/
abbrev KeyWord (sub : Nat) (w : DWord) : Prop := wOp w = 0x73 ∧ wSub w = sub ∧ wB w = 0 ∧ wImm w = 0

/-- The bytes of SRAM from an MCP address. -/
def SramHolds (t : State) (a : Nat) (bs : List Byte) : Prop := ∀ k (h : k < bs.length), t.mcp.sram.byte (a - 0x100000 + k) = bs[k]

/-- A command begins on its ring: the ring wins the rotation, and no refusal that commands share applies (R579, R582, R583). -/
abbrev Begins (s : State) (h : CmdHead) (opcode : Nat) (ch : Option Nat) : Prop :=
  s.ringWins h.ring.val = true ∧ h.reservedSet = false ∧ s.commonReason opcode false ch = 0

/-- The published tables are the same, but for what the meters of tenants counted meanwhile (R133). -/
structure SameTables (s t : State) : Prop where
  tenants : ∀ id, (Maps.find id t.win.tenants).map (fun x => { x with meters := [] }) =
    (Maps.find id s.win.tenants).map (fun x => { x with meters := [] })
  extents : t.win.extents = s.win.extents
  windows : t.win.windows = s.win.windows
  qps : t.trn.qps = s.trn.qps

/-- A command was processed: its change waits for its journal group and a tick boundary, nothing is published yet, and the command
is in progress on its ring without a refusal (R20, R388, R578). -/
def Crossed (s t : State) (h : CmdHead) (opcode : Nat) (c : Change) (journalled event : Bool) : Prop :=
  let g := if journalled then some (s.dur.journalSeq + 1) else none
  t.win.changes = s.win.changes ++ [{ group := g, change := c }] ∧ SameTables s t ∧
  (t.ring h.ring.val).busy = some { opcode, tag := h.tag, tick := true, group := g, event } ∧
  (t.ring h.ring.val).fetched = (s.ring h.ring.val).fetched - 1 ∧ t.dur.journalSeq = s.dur.journalSeq + (if journalled then 1 else 0)

/-- The table row that TENANT_CREATE's operands give (R573). -/
def tenantOf (e ra : Bool) (sq pq tq : Nat) (wrapped : List Byte) : Tenant :=
  { encrypt := e, risAllowed := ra, scmQuota := sq, pinQuota := pq, tileQuota := tq, key := if e then wrapped else [] }

/-- A command completed at once: the entry at CQ_TAIL of its ring says OK with three words (R577, R578, R584). -/
def Completed (s t : State) (h : CmdHead) (opcode : Nat) (w0 w1 w2 : DWord) : Prop :=
  Maps.find (s.getF (ringCqTail h.ring.val) 15 0) (t.ring h.ring.val).entries =
    some (RingEntry.bytes { type := 1, phase := (s.ring h.ring.val).phase, b2 := 0, b3 := opcode, tag := h.tag, w0, w1, w2 }) ∧
  (t.ring h.ring.val).busy = none ∧ (t.ring h.ring.val).fetched = (s.ring h.ring.val).fetched - 1

end Sys2Proof.Claims

/-- CSRR and REGR write the CSR or register read into g[d]; CSRW writes one CSR; REGW stores into a register whose fields
only store, by its access codes; TRET returns to TEPC with the interrupt enable restored; IFLUSH of length 0 empties the
buffer; an enabled pending interrupt saves the pc and cause, clears its pending bit and goes to TVEC. (R208, R209, R210,
R213, R448.) -/
def Obligations.ManagementInstructions : Prop :=
  McpGives .csrr (fun w => wOp w = 0x70 ∧ wSub w = 0 ∧ wA w = 0 ∧ wB w = 0 ∧ (wImm w ≤ 5 ∨ wImm w = 0x11)) (fun _ _ => True)
    (fun s t w => OnlyMcp s t 1 ∧ WritesG (s.ctxOf .mcp) (t.ctxOf .mcp) (wD w) (s.csr (wImm w)) (s.mcp.pc + 8)) ∧
  McpGives .csrr (fun w => wOp w = 0x70 ∧ wSub w = 0 ∧ wA w = 0 ∧ wB w = 0 ∧ wImm w = 0x10) (fun _ _ => True)
    (fun s t w => OnlyMcp s t 1 ∧
      WritesG (s.ctxOf .mcp) (t.ctxOf .mcp) (wD w) (BitVec.ofNat 64 s.mcp.irqPend.toNat) (s.mcp.pc + 8)) ∧
  McpGives .csrw (fun w => wOp w = 0x70 ∧ wSub w = 1 ∧ wD w = 0 ∧ wB w = 0 ∧ (wImm w = 2 ∨ wImm w = 4 ∨ wImm w = 5))
    (fun _ _ => True)
    (fun s t w => t.csr (wImm w) = (s.ctxOf .mcp).greg (wA w) ∧ (∀ n, n ≠ wImm w → t.csr n = s.csr n) ∧
      McpOnward s t 1 (fun m => { m with csr := t.mcp.csr })) ∧
  McpGives .regr (fun w => wOp w = 0x70 ∧ wSub w = 2 ∧ wB w = 0)
    (fun s w => let a := ((s.ctxOf .mcp).greg (wA w) + wSimm w).toNat
      a % 4 = 0 ∧ a < 2 ^ 26 ∧ isPairLow a = false ∧ Maps.find a s.bar.capMcp = none ∧
      ¬ (Reg.EVR_WIN ≤ a ∧ a < Reg.EVR_WIN + 256))
    (fun s t w => let a := ((s.ctxOf .mcp).greg (wA w) + wSimm w).toNat
      OnlyMcp s t 4 ∧ WritesG (s.ctxOf .mcp) (t.ctxOf .mcp) (wD w) (BitVec.setWidth 64 (s.shown a)) (s.mcp.pc + 8)) ∧
  (∀ d, McpGives .regw (fun w => wOp w = 0x70 ∧ wSub w = 3 ∧ wD w = 0)
    (fun s w => let a := ((s.ctxOf .mcp).greg (wA w) + wSimm w).toNat
      a % 4 = 0 ∧ a < 2 ^ 26 ∧ regAt a = some d ∧ (isDataPlane a = false ∨ s.sec.dark = false) ∧ plainRegister a = true)
    (fun s t w => let a := ((s.ctxOf .mcp).greg (wA w) + wSimm w).toNat
      Stored s t a d (BitVec.setWidth 32 ((s.ctxOf .mcp).greg (wB w))) ∧ t.mcp.pc = s.mcp.pc + 8)) ∧
  McpGives .tret (fun w => wOp w = 0x71 ∧ wSub w = 0 ∧ wD w = 0 ∧ wA w = 0 ∧ wB w = 0 ∧ wImm w = 0) (fun _ _ => True)
    (fun s t _ => t.mcp.pc = (s.csr 2).toNat ∧ t.csr 0 = (if bitOf (s.csr 0) 1 then 3 else 0) ∧
      (∀ n, n ≠ 0 → t.csr n = s.csr n) ∧ t.ctxOf .mcp = { s.ctxOf .mcp with pc := t.mcp.pc }) ∧
  McpGives .iflush (fun w => wOp w = 0x72 ∧ wSub w = 0 ∧ wD w = 0 ∧ wImm w = 0)
    (fun s w => ((s.ctxOf .mcp).greg (wB w)).toNat = 0)
    (fun s t _ => t.mcp.ibuf = [] ∧ t.mcp.pc = s.mcp.pc + 8 ∧ t.mcp.g = s.mcp.g ∧ t.mcp.sram = s.mcp.sram) ∧
  (∀ (s : State) k, s.mcp.running = true → s.mcp.halted = false → bitOf (s.csr 0) 0 = true → bitOf (s.csr 0) 2 = false →
    bitOf s.mcp.irqPend k.val = true → bitOf (s.csr 0x11) k.val = true →
    ∃ t, exec (.mcpInterrupt k) s = .next t ∧ t.mcp.pc = (s.csr 1).toNat ∧ t.csr 2 = BitVec.ofNat 64 s.mcp.pc ∧
      t.csr 3 = BitVec.ofNat 64 (2 ^ 31 + k.val) ∧ t.csr 0 = 6 ∧ bitOf t.mcp.irqPend k.val = false ∧ t.mcp.g = s.mcp.g)

/-- With a well-formed descriptor in SRAM, UNWRAP fills the key-store slot named and CLEAR empties it, every other slot
unchanged; SIGN, HASH and ATTEST store the signature, digest or quote (uninterpreted functions of the input) in SRAM; VERIFY
answers 0 where the signature verifies under the vendor key, the owner key or the key at ADDR_C, and else 2; g[d] receives the status.
(R214, R474, R476.) -/
def Obligations.KeyOperations : Prop :=
  (∀ d key, McpGives .keyopUnwrap (KeyWord 0)
    (fun s w => Descriptor s w d ∧ inReadable (kdField d 0 8) 96 = true ∧ kdField d 20 2 < 4096 ∧
      s.getB Reg.SEC_STATUS 22 = true ∧ s.unwrapKey (kdField d 20 2) (s.keyInput (kdField d 0 8) 96) = some key)
    (fun s t w => Maps.find (kdField d 20 2) t.win.keySlots = some key ∧
      (∀ k, k ≠ kdField d 20 2 → Maps.find k t.win.keySlots = Maps.find k s.win.keySlots) ∧
      WritesG (s.ctxOf .mcp) (t.ctxOf .mcp) (wD w) 0 (s.mcp.pc + 8))) ∧
  (∀ d, McpGives .keyopClear (KeyWord 1) (fun s w => Descriptor s w d ∧ kdField d 20 2 < 4096)
    (fun s t w => Maps.find (kdField d 20 2) t.win.keySlots = none ∧
      (∀ k, k ≠ kdField d 20 2 → Maps.find k t.win.keySlots = Maps.find k s.win.keySlots) ∧
      WritesG (s.ctxOf .mcp) (t.ctxOf .mcp) (wD w) 0 (s.mcp.pc + 8))) ∧
  (∀ d, McpGives .keyopSign (KeyWord 2)
    (fun s w => Descriptor s w d ∧ inReadable (kdField d 0 8) (kdField d 16 4) = true ∧ inSram (kdField d 8 8) 64 = true ∧
      kdField d 22 1 = 0)
    (fun s t w => SramHolds t (kdField d 8 8) ((Config.ed25519ph (s.keyInput (kdField d 0 8) (kdField d 16 4))).take 64) ∧
      WritesG (s.ctxOf .mcp) (t.ctxOf .mcp) (wD w) 0 (s.mcp.pc + 8))) ∧
  (∀ d, McpGives .keyopVerify (KeyWord 3)
    (fun s w => Descriptor s w d ∧ inReadable (kdField d 0 8) (kdField d 16 4) = true ∧ inReadable (kdField d 8 8) 64 = true ∧
      (kdField d 22 1 = 0 ∨ (kdField d 22 1 = 1 ∧ s.getB Reg.SEC_STATUS 23 = false) ∨
        (kdField d 22 1 = 2 ∧ inReadable (kdField d 24 8) 32 = true)))
    (fun s t w =>
      let bytes := s.keyInput (kdField d 0 8) (kdField d 16 4)
      let sig := s.keyInput (kdField d 8 8) 64
      let ok := if kdField d 22 1 = 0 then s.vendorVerifies bytes sig
        else if kdField d 22 1 = 1 then s.ownerVerifies bytes sig
        else Config.verifies (Config.sha512 (s.keyInput (kdField d 24 8) 32)) bytes sig
      OnlyMcp s t 1 ∧ WritesG (s.ctxOf .mcp) (t.ctxOf .mcp) (wD w) (if ok then 0 else 2) (s.mcp.pc + 8))) ∧
  (∀ d, McpGives .keyopHash (KeyWord 4)
    (fun s w => Descriptor s w d ∧ inReadable (kdField d 0 8) (kdField d 16 4) = true ∧ inSram (kdField d 8 8) 64 = true)
    (fun s t w => SramHolds t (kdField d 8 8) ((Config.sha512 (s.keyInput (kdField d 0 8) (kdField d 16 4))).take 64) ∧
      WritesG (s.ctxOf .mcp) (t.ctxOf .mcp) (wD w) 0 (s.mcp.pc + 8))) ∧
  (∀ d, McpGives .keyopAttest (KeyWord 5)
    (fun s w => Descriptor s w d ∧ inReadable (kdField d 0 8) 32 = true ∧ inSram (kdField d 8 8) 256 = true)
    (fun s t w => SramHolds t (kdField d 8 8) (s.quote (s.keyInput (kdField d 0 8) 32)) ∧
      WritesG (s.ctxOf .mcp) (t.ctxOf .mcp) (wD w) 0 (s.mcp.pc + 8)))

/-- TRAP_OVERRUN of a segment unretired at a later boundary ends the request, counts and is reported; the end of the cache
invalidation empties the instruction caches, sets its bit and changes nothing else; a
fence discards the segments on the engine without effect; a discarded request enters its cluster's restart queue with its
registers as checkpointed, and is counted. (R163, R175, R177, R178.) -/
def Obligations.EngineEvents : Prop :=
  (∀ (s : State) strand id r, s.running strand = some (id, r) → s.overran strand = true → r.st ≠ .ended → r.st ≠ .held →
    ∃ t, exec (.trapOverrun strand) s = .next t ∧ RequestGone t id ∧
      t.reg Reg.CLE_CNT_OVERRUN = s.reg Reg.CLE_CNT_OVERRUN + 1 ∧ t.reg Reg.CLE_CNT_TRAP = s.reg Reg.CLE_CNT_TRAP + 1 ∧
      (0x0B, strand.val) ∈ t.integ.reports) ∧
  (∀ (s : State), ∃ t, exec .icacheInvalidationDone s = .next t ∧ t.getB Reg.CLE_STATUS 17 = true ∧
      (∀ o, o ≠ Reg.CLE_STATUS → t.reg o = s.reg o) ∧
      t = { s with bar := t.bar, cle := { s.cle with icache := [] } }) ∧
  (∀ (s : State) e, bitOf s.cle.fenceDue e.val = true → bitOf s.fencedEngines e.val = false →
    ∃ t, exec (.engineFence e) s = .next t ∧ bitOf t.fencedEngines e.val = true ∧ bitOf t.cle.fenceDue e.val = false ∧
      ∀ id r, id ∈ s.onEngine e.val → Maps.find id s.cle.reqs = some r →
        ∃ r', Maps.find id t.cle.reqs = some r' ∧ r'.st = .discarded ∧ r'.eff = {}) ∧
  (∀ (s : State) id r c, Maps.find id s.cle.reqs = some r → r.st = .discarded → r.cluster = some c →
    ∃ t r', exec (.requestRestart id) s = .next t ∧ Maps.find id t.cle.reqs = some r' ∧ r'.st = .restart s.cle.order ∧
      r'.cluster = some (s.liveCluster c) ∧ r'.ctx = r.ctx ∧ t.reg Reg.CLE_CNT_RESTART = s.reg Reg.CLE_CNT_RESTART + 1)

/-- A 32-bit write to a register whose fields only store changes it by its access codes and no other register; a read of a
pair's lower register gives its value and captures the upper one for the requester, whose next read of the upper register
takes the capture; a 64-bit read of a pair gives both halves; a sub-word or poisoned write is discarded and flagged with its offset. (R7, R8, R9, R10, R15, R573.) -/
def Obligations.RegisterAccesses : Prop :=
  (∀ (s : State) rq off v d, s.reaches rq = true → regAt off.toNat = some d → (isDataPlane off.toNat = false ∨ s.sec.dark = false) →
    plainRegister off.toNat = true →
    ∃ t, exec (.registerWrite rq off v none) s = .next t ∧ Stored s t off.toNat d v ∧ t = { s with bar := t.bar }) ∧
  (∀ (s : State) rq off, s.reaches rq = true → off.toNat % 4 = 0 → isPairLow off.toNat = true →
    ¬ (Reg.EVR_WIN ≤ off.toNat ∧ off.toNat < Reg.EVR_WIN + 256) →
    ∃ t, exec (.registerPairLowerRead rq off .four) s = .next t ∧
      Maps.find (Requester.index rq) t.bar.lastRead = some (BitVec.setWidth 64 (s.shown off.toNat)) ∧
      Maps.find (off.toNat + 4) (t.captures rq) = some (s.shown (off.toNat + 4)) ∧ (∀ o, t.reg o = s.reg o) ∧
      t = { s with bar := t.bar }) ∧
  (∀ (s : State) rq (off : BitVec 26), s.reaches rq = true → off.toNat % 8 = 0 → isPairLow off.toNat = true →
    isPairLow (off.toNat + 4) = false →
    ∃ t, exec (.registerPairLowerRead rq off .eight) s = .next t ∧
      Maps.find (Requester.index rq) t.bar.lastRead = some (s.shown (off.toNat + 4) ++ s.shown off.toNat) ∧
      ∀ o, t.reg o = s.reg o) ∧
  (∀ (s : State) rq off v, s.reaches rq = true → off.toNat % 4 = 0 → isPairLow off.toNat = false →
    ¬ (Reg.EVR_WIN ≤ off.toNat ∧ off.toNat < Reg.EVR_WIN + 256) → Maps.find off.toNat (s.captures rq) = some v →
    ∃ t, exec (.registerPairLowerRead rq off .four) s = .next t ∧
      Maps.find (Requester.index rq) t.bar.lastRead = some (BitVec.setWidth 64 v) ∧ Maps.find off.toNat (t.captures rq) = none ∧
      (∀ o, t.reg o = s.reg o)) ∧
  (∀ (s : State) off, s.pcieUp = true →
    ∃ t, exec (.subwordWrite off) s = .next t ∧ t.getB Reg.CTL_ERR 0 = true ∧
      t.reg Reg.CTL_ERR_ADDR = BitVec.ofNat 32 off.toNat ∧
      ∀ o, o ≠ Reg.CTL_ERR → o ≠ Reg.CTL_ERR_ADDR → t.reg o = s.reg o) ∧
  (∀ (s : State) off, s.pcieUp = true →
    ∃ t, exec (.poisonedWrite off) s = .next t ∧ t.getB Reg.CTL_ERR 4 = true ∧
      t.reg Reg.CTL_ERR_ADDR = BitVec.ofNat 32 off.toNat ∧
      ∀ o, o ≠ Reg.CTL_ERR → o ≠ Reg.CTL_ERR_ADDR → t.reg o = s.reg o)

/-- A doorbell below the ring size moves SQ_TAIL and has the commands fetched; enabling a ring zeroes its indices; a halt
keeps its cause and ring until RESUME clears it; a Function Level Reset keeps the link's fields and both resets clear the
rings; PERST leaves transport, media and durability alone, and the engines while no command is being processed; the PROGRAM_LOAD
being processed finishes. (R574, R575, R576, R586.) -/
def Obligations.RingRegisters : Prop :=
  (∀ (s : State) r tail, r.val ≠ 0 → s.ringOn r.val = true → tail.toNat < s.sqSize r.val → s.dmaHalted 0 = false →
    ∃ t, exec (.sqDoorbell r tail) s = .next t ∧ t.getF (ringSqTail r.val) 15 0 = tail.toNat ∧
      t.getF (ringSqHead r.val) 15 0 = tail.toNat ∧
      (t.ring r.val).fetched = (s.ring r.val).fetched +
        (tail.toNat + s.sqSize r.val - s.getF (ringSqHead r.val) 15 0 % s.sqSize r.val) % s.sqSize r.val) ∧
  (∀ (s : State) r head, r.val ≠ 0 → s.ringOn r.val = true → (s.ring r.val).busy = none →
    ∃ t, exec (.cqHeadWrite r head) s = .next t ∧ t.getF (ringCqHead r.val) 15 0 = head.toNat ∧ t.ctl.rings = s.ctl.rings) ∧
  (∀ (s : State) r v, s.sec.stopped = false → s.ringOn r.val = false → bitOf v 16 = true →
    ∃ t, exec (.ringEnable r v) s = .next t ∧ t.ringOn r.val = true ∧ t.getF (ringCfg r.val) 15 0 = fld v 15 0 ∧
      t.getF (ringSqTail r.val) 15 0 = 0 ∧ t.getF (ringSqHead r.val) 15 0 = 0 ∧ t.getF (ringCqTail r.val) 15 0 = 0 ∧
      t.getF (ringCqHead r.val) 15 0 = 0 ∧ (t.ring r.val).phase = true ∧ (t.ring r.val).fetched = 0) ∧
  (∀ (s : State) ch cause ring, 1 ≤ cause.val → cause.val ≤ 3 → s.dmaHalted ch.val = false →
    ∃ t, exec (.dmaChannelHalt ch cause ring) s = .next t ∧ t.dmaHalted ch.val = true ∧
      t.getF (Reg.CTL_DMA_STATUS + 4 * ch.val) 30 28 = cause.val ∧ t.getF (Reg.CTL_DMA_STATUS + 4 * ch.val) 27 24 = ring.val ∧
      t.getB Reg.CTL_ERR 3 = true) ∧
  (∀ (s : State) mask k, k < 6 → bitOf mask k = true →
    ∃ t, exec (.dmaResume mask) s = .next t ∧ t.dmaHalted k = false) ∧
  (∀ (s : State), ∃ t, exec .functionLevelReset s = .next t ∧ t.ctl.rings = [] ∧ t.ctl.notifySeq = 0 ∧
      t.getF Reg.CTL_STATUS 31 23 = s.getF Reg.CTL_STATUS 31 23 ∧ (∀ r : Fin 16, t.ringOn r.val = false) ∧
      ∀ k : Fin 2, t.reg (Reg.CTL_DMA_STATUS + 24 + 4 * k.val) = s.reg (Reg.CTL_DMA_STATUS + 24 + 4 * k.val)) ∧
  (∀ (s : State), ∃ t, exec .perst s = .next t ∧ t.ctl.rings = [] ∧ t.ctl.notifySeq = 0 ∧ (∀ r : Fin 16, t.ringOn r.val = false) ∧
      t.trn = s.trn ∧ t.med = s.med ∧ t.dur = s.dur) ∧
  (∀ (s : State), (∀ r : Fin 16, (s.ring r.val).busy = none) → ∃ t, exec .perst s = .next t ∧ t.cle = s.cle) ∧
  (∀ (s : State) (r : Fin 16) p x, (s.ring r.val).busy = some p → p.opcode = 0x10 → p.result = 0 →
    Maps.find p.w0.toNat s.cle.images = some x → x.state = 3 →
    ∃ t y, exec .perst s = .next t ∧ Maps.find p.w0.toNat t.cle.images = some y ∧ y.state ≠ 3)

/-- TENANT, EXTENT, WINDOW and QP commands that win their ring and that no reason refuses add their change to those waiting
to be published, in their journal group (QP changes and discards need none), publish nothing yet, and stay in progress on the
ring; TENANT_CREATE fills the tenant's key slot, and the change of a pinned WINDOW_OPEN is held until PINNED_PUBLISH. (R20, R115, R130, R98, R103, R112, R388, R579.) -/
def Obligations.TableCommands : Prop :=
  (∀ (s : State) h id e ra sq pq (tq : BitVec 16) len wrapped, Begins s h 0x01 (if e then some 3 else none) → id.toNat < 4096 →
    tq.toNat ≤ 4096 → len.toNat = (if e then 96 else 0) → Maps.has s.processed.tenants id.toNat = false →
    (e = true → (s.unwrapKey id.toNat wrapped).isSome = true) →
    ∃ t, exec (.tenantCreate h id e ra sq pq tq len wrapped) s = .next t ∧
      Crossed s t h 0x01 (.tenantCreate id.toNat (tenantOf e ra sq.toNat pq.toNat tq.toNat wrapped)) true false ∧
      (∀ k, e = true → s.unwrapKey id.toNat wrapped = some k → Maps.find id.toNat t.win.keySlots = some k) ∧
      ∀ n, n ≠ id.toNat → Maps.find n t.win.keySlots = Maps.find n s.win.keySlots) ∧
  (∀ (s : State) h (id : BitVec 16) x, Begins s h 0x02 none → id.toNat < 4096 → Maps.find id.toNat s.processed.tenants = some x →
    x.destroyed = false → (∀ e ∈ s.processed.extents, e.2.tenant ≠ id.toNat) → (∀ q ∈ s.processed.qps, q.2.tenant ≠ id.toNat) →
    (∀ v ∈ s.processed.windows, v.2.tenant = id.toNat → v.2.state = .free ∨ v.2.state = .retired) →
    ∃ t, exec (.tenantDestroy h id) s = .next t ∧ Crossed s t h 0x02 (.tenantDestroy id.toNat) true false) ∧
  (∀ (s : State) h (e : Word) (id : BitVec 16) (side : Byte) x, Begins s h 0x03 none → e.toNat < 2 ^ 27 → id.toNat < 4096 → side.toNat ≤ 1 →
    Maps.has s.processed.extents e.toNat = false → Maps.find id.toNat s.processed.tenants = some x → x.destroyed = false →
    ∃ t, exec (.extentAlloc h e id side) s = .next t ∧
      Crossed s t h 0x03 (.extentAlloc e.toNat { tenant := id.toNat, sideB := side == 1 }) true false) ∧
  (∀ (s : State) h (e : Word), Begins s h 0x04 none → e.toNat < 2 ^ 27 → Maps.has s.processed.extents e.toNat = true →
    s.processed.covered e.toNat = false →
    ∃ t, exec (.extentFree h e) s = .next t ∧ Crossed s t h 0x04 (.extentFree e.toNat h.ring h.tag) true true) ∧
  (∀ (s : State) h (a n : DWord) (id : BitVec 16), Begins s h 0x05 none → id.toNat < 4096 →
    s.processed.owns id.toNat a.toNat n.toNat = true →
    ∃ t, exec (.extentDiscard h a n id) s = .next t ∧
      Crossed s t h 0x05 (.discard ((a.toNat + 16383) / 16384) ((a.toNat + n.toNat) / 16384)) false false) ∧
  (∀ (s : State) h (rkey : Word) rc (d : WinDesc), Begins s h 0x08 none → d.length.toNat ≠ 0 → d.pinned = false →
    (Maps.getD s.processed.windows (rkey.toNat / 256) {}).opensWith (rkey.toNat % 256) rc = true →
    s.processed.owns d.tenant.toNat d.pnaBase.toNat d.length.toNat = true → d.vaBase.toNat + d.length.toNat ≤ 2 ^ 64 →
    (∀ e ∈ extentsOf d.pnaBase.toNat d.length.toNat, ∀ x y, Maps.find e s.processed.extents = some x →
      Maps.find (extentOf d.pnaBase.toNat) s.processed.extents = some y → x.sideB = y.sideB) →
    s.hasProgram d.progId.toNat = true →
    ∃ t, exec (.windowOpen h rkey rc d) s = .next t ∧
      Crossed s t h 0x08 (.windowOpen (rkey.toNat / 256) (rkey.toNat % 256) d) true false) ∧
  (∀ (s : State) h (rkey : Word) rc (d : WinDesc), Begins s h 0x08 none → d.length.toNat ≠ 0 → d.pinned = true →
    (Maps.getD s.processed.windows (rkey.toNat / 256) {}).opensWith (rkey.toNat % 256) rc = true →
    s.processed.owns d.tenant.toNat d.pnaBase.toNat d.length.toNat = true → d.vaBase.toNat + d.length.toNat ≤ 2 ^ 64 →
    (∀ e ∈ extentsOf d.pnaBase.toNat d.length.toNat, ∀ x y, Maps.find e s.processed.extents = some x →
      Maps.find (extentOf d.pnaBase.toNat) s.processed.extents = some y → x.sideB = y.sideB) →
    s.hasProgram d.progId.toNat = true → s.pinReason d.tenant.toNat (extentsOf d.pnaBase.toNat d.length.toNat) = 0 →
    ∃ t g cs, exec (.windowOpen h rkey rc d) s = .next t ∧
      t.win.changes = s.win.changes ++ cs ++
        [{ group := some g, change := .windowOpen (rkey.toNat / 256) (rkey.toNat % 256) d, held := true }] ∧
      t.win.windows = s.win.windows ∧
      t.win.pinWait = s.win.pinWait ++ [(rkey.toNat / 256, { ring := h.ring, tag := h.tag })] ∧
      (t.ring h.ring.val).busy = some { opcode := 0x08, tag := h.tag, group := some g, event := true }) ∧
  (∀ (s : State) h (rkey : Word) (mask rights pinned : Byte) (prog : BitVec 16), Begins s h 0x09 none → mask.toNat ≤ 7 →
    bitOf mask 1 = false → rights.toNat ≤ 31 → prog.toNat ≤ 1023 →
    (Maps.getD s.processed.windows (rkey.toNat / 256) {}).gen = rkey.toNat % 256 →
    (Maps.getD s.processed.windows (rkey.toNat / 256) {}).state = .opened → s.hasProgram prog.toNat = true →
    ∃ t, exec (.windowModify h rkey mask rights pinned prog) s = .next t ∧
      Crossed s t h 0x09 (.windowModify (rkey.toNat / 256) mask.toNat rights.toNat pinned.toNat prog.toNat) true false) ∧
  (∀ (s : State) h (rkey : Word), Begins s h 0x0A none → (Maps.getD s.processed.windows (rkey.toNat / 256) {}).gen = rkey.toNat % 256 →
    (Maps.getD s.processed.windows (rkey.toNat / 256) {}).state = .opened →
    ∃ t, exec (.windowRevoke h rkey) s = .next t ∧ Crossed s t h 0x0A (.revoke (rkey.toNat / 256) h.ring h.tag) true true) ∧
  (∀ (s : State) h (b : QpBlock) x, Begins s h 0x0C none → qpBad b true = false → 2 ≤ b.qpn.toNat → b.qpn.toNat < 2 ^ 20 →
    Maps.has s.processed.qps b.qpn.toNat = false → Maps.find b.tenant.toNat s.processed.tenants = some x → x.destroyed = false →
    b.cls ≠ 3 → (b.cls = 0 → x.risAllowed = true ∧
      ∀ e ∈ s.processed.qps, e.2.cls = .ristretto → e.1 % 4096 ≠ b.qpn.toNat % 4096) →
    ∃ t, exec (.qpCreate h b) s = .next t ∧ Crossed s t h 0x0C (.qpCreate b.qpn.toNat (qpOf b s.now)) false false) ∧
  (∀ (s : State) h (b : QpBlock) c, Begins s h 0x0D none → qpBad b false = false → Maps.find b.qpn.toNat s.processed.qps = some c →
    (bitOf b.mask 0 = true → stateChangeOk c.state b.state.toNat = true) →
    (bitOf b.mask 4 = true → c.state = .init ∨ c.state = .rtr) →
    ∃ t, exec (.qpModify h b) s = .next t ∧ Crossed s t h 0x0D (.qpModify b.qpn.toNat b) false false) ∧
  (∀ (s : State) h (q : Word), Begins s h 0x0E none → Maps.has s.processed.qps q.toNat = true →
    ∃ t, exec (.qpDestroy h q) s = .next t ∧ Crossed s t h 0x0E (.qpDestroy q.toNat) false false)

/-- A discarded page becomes Unwritten and reads 0, every other byte unchanged, and one written since stays as it is; a pinned change may
be published once no page of it is in NAND and its zeros have been written; a drained revocation frees the window, or retires it at GEN
0xFF; an unloaded image that nothing names any more leaves its slot. (R113, R115, R124, R174, R342, R384.) -/
def Obligations.TableEvents : Prop :=
  (∀ (s : State) p, Maps.find p.toNat s.win.discards = some false → (∀ e ∈ s.dur.pb, e.line / 256 ≠ p.toNat) →
    ∃ t, exec (.pageDiscard p) s = .next t ∧ Maps.find p.toNat t.win.pages = none ∧ Maps.find p.toNat t.win.discards = none ∧
      (Maps.has s.win.pages p.toNat = true → ∀ k, k < 16384 → t.med.store.byte (p.toNat * 16384 + k) = 0) ∧
      (∀ a, a / 16384 ≠ p.toNat → t.med.store.byte a = s.med.store.byte a)) ∧
  (∀ (s : State) p, Maps.find p.toNat s.win.discards = some true →
    ∃ t, exec (.pageDiscard p) s = .next t ∧ t = { s with win := { s.win with discards := Maps.del p.toNat s.win.discards } }) ∧
  (∀ (s : State) i x exts, s.win.pinWait.find? (fun e => e.1 == i.toNat) = some (i.toNat, x) →
    extentsOf (Maps.getD s.processed.windows i.toNat {}).pnaBase (Maps.getD s.processed.windows i.toNat {}).length = exts →
    s.nandPages exts = [] → s.filling exts = false →
    ∃ t, exec (.pinnedPublish i) s = .next t ∧ t.win.pinWait = dropPin i.toNat s.win.pinWait ∧
      t.win.changes = unhold (3, i.toNat) s.win.changes ∧ t.tables = s.tables) ∧
  (∀ (s : State) i w, Maps.find i.toNat s.win.windows = some w → w.state = .closing →
    (∀ e ∈ s.trn.opt, e.2.win = i.toNat → e.2.gen ≠ w.gen) → w.pinned = false →
    ∃ t, exec (.windowRevokeDone i) s = .next t ∧
      Maps.find i.toNat t.win.windows =
        some { w with state := if w.gen = 255 then .retired else .free, revokers := [], held := 0, cut := 0 } ∧
      (∀ c ∈ t.win.changes, c.revokes i.toNat = none) ∧
      (∀ k, k ≠ i.toNat → Maps.find k t.win.windows = Maps.find k s.win.windows) ∧ t.win.extents = s.win.extents) ∧
  (∀ (s : State) k x, Maps.find k.val s.cle.images = some x → x.state = 2 → (∀ r ∈ s.cle.reqs, r.2.slot ≠ some k.val) →
    (∀ e ∈ s.cle.conj, names e.2 k.val = false) →
    (∀ e ∈ s.trn.opt, ∀ v, e.2.firstEntry = some v ∨ e.2.nextEntry = some v → names v k.val = false) →
    ∃ t, exec (.programRelease k) s = .next t ∧ Maps.find k.val t.cle.images = none ∧
      ∀ j, j ≠ k.val → Maps.find j t.cle.images = Maps.find j s.cle.images)

/-- PROGRAM_LOAD fills the lowest free slot, Loading until its command completes and Executable then (at the tick boundary: log 111);
PROGRAM_UNLOAD marks the slot; DRILL notes its drill; TIER_FORMAT leaves an empty tier whose old superblocks are being erased, and waits for
its root; SCM_FORMAT waits for a tick boundary and, published there, leaves the SCM without contents, pages, extents, windows, tenants and
intent slots; REGION_READ and REGION_WRITE move bytes of the region, no other byte changing; MGMT, NOP and QUERY answer with their words.
(R19, R172, R174, R319, R423, R577, R581, R582, R584.) -/
def Obligations.CompletingCommands : Prop :=
  (∀ (s : State) h image, Begins s h 0x10 (some 3) → 120 ≤ image.length → image.length ≤ 1049696 → s.loadReason image = 0 →
    ∃ t k x, exec (.programLoad h image) s = .next t ∧ Maps.lowestFree s.cle.images 64 = some k ∧
      (t.ring h.ring.val).busy = some { opcode := 0x10, tag := h.tag, tick := true, w0 := BitVec.ofNat 64 k } ∧
      Maps.find k t.cle.images = some x ∧ x.state = 3 ∧ x.code = imgCode image ∧ t.cle.conj = s.cle.conj ∧
      ∃ y, Maps.find k (t.imageLoaded k).cle.images = some y ∧ y = { x with state := 1 } ∧ (t.imageLoaded k).cle.conj = s.cle.conj) ∧
  (∀ (s : State) h (k : Byte) x, Begins s h 0x11 none → k.toNat < 64 → Maps.find k.toNat s.cle.images = some x → x.state = 1 →
    s.unloadInUse k.toNat = false →
    ∃ t, exec (.programUnload h k) s = .next t ∧ Completed s t h 0x11 0 0 0 ∧
      Maps.find k.toNat t.cle.images = some { x with state := 2 } ∧ ∀ e ∈ t.cle.conjStaged, names e.2 k.toNat = false) ∧
  (∀ (s : State) h (side : Byte) hold, Begins s h 0x14 none → side.toNat ≤ 1 → s.drillOk (side == 1) = true →
    ∃ t, exec (.drill h side hold) s = .next t ∧
      t.twn.drill = some { sideB := side == 1, hold, ring := h.ring, tag := h.tag } ∧
      (t.ring h.ring.val).busy = some { opcode := 0x14, tag := h.tag, event := true }) ∧
  (∀ (s : State) h, Begins s h 0x15 none → s.ntl.state ≠ 0 → s.ntl.state ≠ 4 → (∀ e ∈ s.win.pages, ∀ n, e.2 ≠ .nand n) →
    s.capTpns ≤ s.maxTpns →
    ∃ t, exec (.tierFormat h) s = .next t ∧ t.ntl.state = 2 ∧ t.ntl.formatted = true ∧ t.ntl.tpns = s.capTpns ∧
      t.ntl.map = [] ∧ (s.ntl.sbs = [] → t.ntl.sbs = []) ∧ (∀ k y, Maps.find k t.ntl.sbs = some y → y.victim = true) ∧
      t.ntl.bulkTlc = !s.getB Reg.NTL_FORMAT 0 ∧ t.ntl.worn = s.ntl.worn ∧ t.ntl.rootGroup = some (s.dur.journalSeq + 1) ∧
      (t.ring h.ring.val).busy = some { opcode := 0x15, tag := h.tag, group := some (s.dur.journalSeq + 1) }) ∧
  (∀ (s : State) h pair (n : Byte), Begins s h 0x16 none → 1 ≤ n.toNat → n.toNat ≤ 63 → s.pairState = 0 → s.servesBits = 0 →
    ∃ t, exec (.scmFormat h pair n) s = .next t ∧ Crossed s t h 0x16 (.format n.toNat pair) true false) ∧
  (∀ (s : State) n pair g, n ≤ 63 → s.publishable { group := g, change := .format n pair } = true →
    ∃ t, State.publishOne (s, []) { group := g, change := .format n pair } = (t, []) ∧ t.med.store = [] ∧ t.win.pages = [] ∧
      t.win.extents = [] ∧ t.win.windows = [] ∧ t.win.tenants = [] ∧ t.dur.intents = [] ∧ t.getF Reg.DUR_META_CFG 5 0 = n) ∧
  (∀ (s : State) h (o : DWord) (n : Word), Begins s h 0x18 (some 4) → n.toNat ≤ 2 ^ 24 → o.toNat + n.toNat ≤ 2 ^ 30 →
    ∃ t, exec (.regionRead h o n) s = .next t ∧ Completed s t h 0x18 0 0 0 ∧
      t.ctl.hostData = s.ctl.region.bytes o.toNat n.toNat ∧ t.ctl.region = s.ctl.region) ∧
  (∀ (s : State) h (o : DWord) (bs : List Byte), Begins s h 0x19 (some 5) → bs.length ≤ 2 ^ 24 → o.toNat + bs.length ≤ 2 ^ 30 →
    ∃ t, exec (.regionWrite h o bs) s = .next t ∧ Completed s t h 0x19 0 0 0 ∧
      (∀ k (hk : k < bs.length), t.ctl.region.byte (o.toNat + k) = bs[k]) ∧
      (∀ a, a < o.toNat ∨ o.toNat + bs.length ≤ a → t.ctl.region.byte a = s.ctl.region.byte a)) ∧
  (∀ (s : State) h body w0 w1 w2, Begins s h 0x1C none → s.mcp.running = true → s.mcp.halted = false →
    ∃ t, exec (.mgmt h body 0 w0 w1 w2) s = .next t ∧ Completed s t h 0x1C w0 w1 w2 ∧ bitOf t.mcp.irqPend 10 = true) ∧
  (∀ (s : State) h, Begins s h 0x1D none →
    ∃ t, exec (.nop h) s = .next t ∧ (t.ring h.ring.val).busy = some { opcode := 0x1D, tag := h.tag, tick := true } ∧
      t = { s with bar := t.bar, ctl := { s.ctl with rings := t.ctl.rings } }) ∧
  (∀ (s : State) h (i : Word) a b c, Begins s h 0x1E none → Maps.find i.toNat s.snap.qps = some (a, b, c) →
    ∃ t, exec (.query h 4 i) s = .next t ∧
      Completed s t h 0x1E (BitVec.ofNat 64 a) (BitVec.ofNat 64 b) (BitVec.ofNat 64 c) ∧ t.trn = s.trn) ∧
  (∀ (s : State) h (i : Word), Begins s h 0x1E none →
    ∃ t, exec (.query h 3 i) s = .next t ∧
      (let w := s.window i.toNat
       let st := match w.state with | .free => 0 | .opened => 1 | .closing => 2 | .retired => 3
       Completed s t h 0x1E (BitVec.ofNat 64 (w.progId * 2 ^ 48 + w.pnaBase)) (BitVec.ofNat 64 (w.tenant * 2 ^ 48 + w.length))
         (BitVec.ofNat 64 (w.rights.toNat * 2 ^ 11 + (if w.pinned then 2 ^ 10 else 0) + st * 2 ^ 8 + w.gen))) ∧ t.win = s.win)

namespace Sys2Proof.Claims

open Sys2Proof Sys2Proof.Machine

/-- No register but those listed changes. -/
def OtherRegs (s t : State) (offs : List Nat) : Prop := ∀ o, o ∉ offs → t.reg o = s.reg o

/-- One register is raised by one, and nothing else changes. -/
def OnlyCounted (s t : State) (off : Nat) : Prop :=
  t.reg off = s.reg off + 1 ∧ OtherRegs s t [off] ∧ t = { s with bar := t.bar }

/-- A packet addressed to a port that is up (R61) arrives there, of a QP whose context and descriptor are on chip, and nothing makes it wait or be
dropped (R77, R79, R80, R121, R403); it is not marked CE. -/
structure Arrives (s : State) (p : Pkt) (b : ReqBody) (c : Qp) : Prop where
  up : s.lpUp p.lp = true
  addressed : s.addressed p = true
  valid : s.getB Reg.TRN_STATUS 0 = true
  host : 2 ≤ p.qpn.toNat
  going : s.twn.stopped = false
  qp : s.qp p.qpn = some c
  context : s.ctxLookup p.qpn = .hit
  key : ∀ i, keyOf c b = some i → s.keyPresent i = true
  first : s.inMiss p.qpn = false
  gap : s.twn.gap = false
  mark : p.ce = false

/-- The packet carries the PSN its QP expects, in a state that takes requests (R77, R85, R95). -/
structure Expected (p : Pkt) (c : Qp) : Prop where
  state : c.state = .rtr ∨ c.state = .rts
  host : c.notice = false
  psn : p.psn = c.ePsn

/-- The request was admitted: the QP's context is `c'` of its Operation Table entry, which is `e`, and the request `rq` with that
entry is in the engines (R96, R117, R144). -/
def Admitted (t : State) (p : Pkt) (c' : Nat → Qp) (e : OptEntry) (rq : Request) : Prop :=
  ∃ o id q, t.qp p.qpn = some (c' o) ∧ Maps.find o t.trn.opt = some e ∧ Maps.find id t.cle.reqs = some q ∧
    q = { rq with opt := some o, st := q.st, merges := q.merges, readFail := q.readFail }

/-- The window check of a request of plain RDMA (R117). -/
def plainAccess (rkey : Word) (rights : BitVec 5) (start len : Nat) (noBytes home : Bool) : Access :=
  { rkey, rights, start, relative := false, len, noBytes, home }

/-- The window check passes, and an Operation Table entry is free. -/
abbrev Passes (s : State) (c : Qp) (a : Access) : Prop := s.checkAccess c.tenant a = Code.ok ∧ s.optFree c.cls false = true

/-- An admitted plain atomic (R74, R86, R89). -/
def AtomicAdmitted (s t : State) (p : Pkt) (c : Qp) (rkey : Word) (va : DWord) (kind : OptKind) (kn bth : Nat) (ops : List DWord) :
    Prop :=
  Admitted t p
    (fun o => { c.expect 1 with begun := c.begun + 1
                                outstanding := c.outstanding ++ [{ psn := p.psn, packets := 1, opt := o, reth := none }] })
    (s.entryFor p c kind (rkey.toNat / 256) false)
    { baseRequest p c rkey kn bth with addr := va.toNat - (s.window (rkey.toNat / 256)).vaBase, len := 8, args := ops, rights := 4
                                       msn := c.begun + 1 }

/-- A plain atomic that nothing refuses (R72, R74, R89, R117, R371). -/
abbrev AtomicGoes (s : State) (p : Pkt) (c : Qp) (rkey : Word) (va : DWord) : Prop :=
  Expected p c ∧ c.between = false ∧ va.toNat % 8 = 0 ∧ Passes s c (plainAccess rkey 4 va.toNat 8 false true) ∧ c.repeatLeft = [] ∧
  c.rdFull = false

/-- A frame waits at the end of a port's egress, and nothing else has changed but what `rest` allows. -/
def Queued (s t : State) (lp : Nat) (f : Frame) : Prop :=
  Maps.find lp t.prt.egress = some (Maps.getD s.prt.egress lp [] ++ [f]) ∧
  ∀ k, k ≠ lp → Maps.find k t.prt.egress = Maps.find k s.prt.egress

/-- The notification ring takes one entry, with nothing lost before it (R584, R585). -/
def Announced (s t : State) (type b2 b3 : Nat) (w0 w1 w2 : DWord) : Prop :=
  Maps.find (s.getF (ringCqTail 0) 15 0) (t.ring 0).entries =
    some (RingEntry.bytes { type, phase := (s.ring 0).phase, b2, b3, tag := BitVec.ofNat 32 s.ctl.notifySeq, w0, w1, w2 }) ∧
  t.ctl.notifySeq = s.ctl.notifySeq + 1

/-- The notification ring has room and nothing is lost. -/
abbrev CanAnnounce (s : State) : Prop := s.notifyRoom = true ∧ s.ctl.lost = 0

end Sys2Proof.Claims

/-- At a tick boundary of a clocked unit the 64-bit counter advances by one, or takes an accepted load, the rotation moves
on, and what readers of the data plane see becomes what the registers hold; at a frame boundary every data-plane field takes
the value last written, but the urgency registers, and the staged conjunction table comes into force. That the boundary rows
stand before the tick they coincide with is the model's choice (log 4). (R19, R26, R31, R32, R37.) -/
def Obligations.TickAndFrame : Prop :=
  (∀ (s : State), s.clocked = true →
     ∃ t, exec .tickBoundary s = .next t ∧
       t.tck.tick = (if s.loadDue = true ∧ s.loadOk = true then BitVec.ofNat 64 s.loadValue else s.tck.tick + 1) ∧
       t.tck.boundaries = s.tck.boundaries + 1 ∧ t.bar.copy = t.bar.val) ∧
  (∀ (s : State) samples, s.clocked = true → s.frameDue = true →
     ∃ t, exec (.frameBoundary samples) s = .next t ∧
       (∀ off, off ∉ [Reg.TCK_URGENCY_CHIP, Reg.TCK_URGENCY_LO, Reg.TCK_URGENCY_LO + 4] →
         Maps.rd resetOf t.bar.eff off = s.reg off) ∧
       t.cle.conj = t.cle.conjStaged)

/-- At a minute mark with room in the ring the batch of the period is taken for signing under its sequence number, every
meter returns to zero and destroyed tenants leave; with the ring held the period only grows; a signed batch is stored in its
slot with its signature and announced on CR0. The layout of the words is that of the model's log. (R24, R134, R135, R137.) -/
def Obligations.MeterBatches : Prop :=
  (∀ (s : State) refRaw resid, s.clocked = true → s.minuteDue = true → s.batchHeld = false →
    ∃ t, exec (.minuteMark refRaw resid) s = .next t ∧ t.ten.seq = s.ten.seq + 1 ∧ t.ten.minutes = 0 ∧
      t.ten.firstMinute = s.nextTick / 180000000 ∧
      t.ten.unsigned = s.ten.unsigned ++
        [(s.getF Reg.TEN_BATCH_WR 7 0 % s.batchSlots, s.ten.seq, s.batchBytes s.nextTick, s.nextTick)] ∧
      (∀ e ∈ t.win.tenants, e.2.meters = [0, 0, 0, 0, 0, 0]) ∧
      (∀ e ∈ t.win.tenants, e.2.destroyed = false)) ∧
  (∀ (s : State) refRaw resid, s.clocked = true → s.minuteDue = true → s.batchHeld = true →
    ∃ t, exec (.minuteMark refRaw resid) s = .next t ∧ t.ten = { s.ten with minutes := s.ten.minutes + 1 } ∧
      t.win.tenants = s.win.tenants) ∧
  (∀ (s : State) slot seq bytes mark rest, s.ten.unsigned = (slot, seq, bytes, mark) :: rest → s.dmaHalted 7 = false → CanAnnounce s →
    ∃ t, exec .meterBatchSigned s = .next t ∧ t.ten.unsigned = rest ∧
      Maps.find slot t.ten.ring = some (bytes ++ (Config.ed25519ph bytes).take 64) ∧
      Announced s t 0x11 0 0 (BitVec.ofNat 64 slot) (BitVec.ofNat 64 seq) 0)

/-- A selected edge with SRC PPS is measured: its time is kept, PPS_PHASE shows its distance, and the distance stands to be
slewed; LOAD_ARM arms a load and nothing else; edges missing for LOST_LIMIT seconds set HOLDOVER, in which no distance of
PPS_IN is slewed, and the counter goes on. (R35, R36, R37, R38.) -/
def Obligations.ClockEvents : Prop :=
  (∀ (s : State) falling (cycle : Fin 1025), falling = s.effB Reg.TCK_CTRL 6 → s.timeSrc = 1 → s.loadArmed = false →
    s.getB Reg.TCK_STATUS 4 = false →
    ∃ t, exec (.ppsEdge falling cycle) s = .next t ∧ t.tck.lastEdge = some s.tck.boundaries ∧ t.getB Reg.TCK_STATUS 0 = true ∧
      t.reg Reg.TCK_PPS_PHASE = BitVec.ofInt 32 (s.secondDist cycle) ∧ t.tck.tick = s.tck.tick ∧
      t.tck.phase = some (s.secondDist cycle)) ∧
  (∀ (s : State), ∃ t, exec .loadArm s = .next t ∧ t.loadArmed = true ∧ OtherRegs s t [Reg.TCK_CTRL] ∧ t = { s with bar := t.bar }) ∧
  (∀ (s : State), s.timeSrc = 1 → s.getB Reg.TCK_STATUS 4 = false → s.tck.lastEdge.getD 0 + s.lostLimit * 3000000 ≤ s.tck.boundaries →
    ∃ t, exec .ppsLost s = .next t ∧ t.getB Reg.TCK_STATUS 4 = true ∧ t.getB Reg.TCK_STATUS 0 = false ∧ t.selDist = none ∧
      t.tck.tick = s.tck.tick)

/-- A logical port of the mode comes up, or goes down with its queue emptied; an ARP request or a Neighbor Solicitation for
its address draws one answer; a PFC frame sets or releases a priority of that port and no other, and its expiry releases it;
other frames and CRC failures are counted and nothing else changes, but that a PTP event is captured where that is selected; a pause is
repeated or released; egress sends the chosen frame, with its marks unless it is the port's own, and leaves every other queue alone. What
was held for a port goes to it when it comes up. (R58, R61, R62, R64, R65, R66, R67, R68, R94.) -/
def Obligations.PortEvents : Prop :=
  (∀ (s : State) (lp : Fin 32), s.lpExists lp = true →
    ∃ t, exec (.logicalPortUp lp) s = .next t ∧ t.lpUp lp = true ∧ OtherRegs s t [prtReg Reg.PRT_STATUS lp] ∧
      t = { s with bar := t.bar, prt := t.prt, trn := t.trn } ∧
      (s.prt.heldOut = [] → t.trn = s.trn ∧ t.prt.egress = s.prt.egress) ∧
      ∀ f c, s.prt.heldOut = [f] → s.qp f.qpn = some c → c.egressLp = lp.val → s.twn.yieldedAt = none →
        t.prt.heldOut = [] ∧ Queued s t lp { f with opt := none, acks := [] }) ∧
  (∀ (s : State) (lp : Fin 32), ∃ t, exec (.logicalPortDown lp) s = .next t ∧ t.lpUp lp = false ∧
      OtherRegs s t [prtReg Reg.PRT_STATUS lp] ∧ Maps.find lp.val t.prt.egress = none ∧
      t = { s with bar := t.bar, prt := t.prt, trn := t.trn } ∧
      (Maps.getD s.prt.egress lp [] = [] → t.trn = s.trn ∧ t.prt.heldOut = s.prt.heldOut ∧
        ∀ k, k ≠ lp.val → Maps.find k t.prt.egress = Maps.find k s.prt.egress)) ∧
  (∀ (s : State) (lp : Fin 32) (vlan : Option (BitVec 12)) (target : Word) (mac : BitVec 48) (ip : Word), s.lpUp lp = true →
    s.vlanOk lp (vlan.map BitVec.toNat) = true →
    s.effB (lpReg Reg.PRT_LP_CFG lp) 13 = true → s.effF (lpReg Reg.PRT_LP_IPV4 lp) 31 0 = target.toNat →
    ∃ t f, exec (.arpRequest lp vlan target mac ip) s = .next t ∧ Queued s t lp f ∧ f.kind = .arpReply ∧
      f.data = s.lpMac lp ++ beBytes target.toNat 4 ++ beBytes mac.toNat 6 ++ beBytes ip.toNat 4 ∧
      t = { s with prt := { s.prt with egress := t.prt.egress } }) ∧
  (∀ (s : State) (lp : Fin 32) (vlan : Option (BitVec 12)) (target : BitVec 128) (mac : BitVec 48) (ip : BitVec 128), s.lpUp lp = true →
    s.vlanOk lp (vlan.map BitVec.toNat) = true →
    s.effB (lpReg Reg.PRT_LP_CFG lp) 14 = true → s.lpIpv6 lp = target.toNat →
    ∃ t f, exec (.neighborSolicitation lp vlan target mac ip) s = .next t ∧ Queued s t lp f ∧ f.kind = .neighborAdvert ∧
      f.data = s.lpMac lp ++ beBytes target.toNat 16 ++ beBytes mac.toNat 6 ++ beBytes ip.toNat 16 ∧
      t = { s with prt := { s.prt with egress := t.prt.egress } }) ∧
  (∀ (s : State) (lp : Fin 32) (q : Fin 8) (n : BitVec 16), s.lpUp lp = true → s.effB (prtReg Reg.PRT_PFC_CFG lp) q = true →
    ∃ t, exec (.pfcFrame lp [(q, n)]) s = .next t ∧ t.paused lp q = decide (n ≠ 0) ∧
      (∀ lp' q', prioKey lp' q' ≠ prioKey lp q → t.paused lp' q' = s.paused lp' q') ∧
      t = { s with prt := { s.prt with pausedRx := t.prt.pausedRx } }) ∧
  (∀ (s : State) (lp : Fin 32) (q : Fin 8), Maps.getD s.prt.pausedRx (prioKey lp q) 0 ≤ s.tck.start + s.tck.length →
    ∃ t, exec (.pfcPauseExpiry lp q) s = .next t ∧ t.paused lp q = false ∧
      (∀ lp' q', prioKey lp' q' ≠ prioKey lp q → t.paused lp' q' = s.paused lp' q') ∧
      t = { s with prt := { s.prt with pausedRx := t.prt.pausedRx } }) ∧
  (∀ (s : State) (lp : Fin 32), s.lpUp lp = true →
    ∃ t, exec (.otherFrameDrop lp none) s = .next t ∧ OnlyCounted s t (prtReg Reg.PRT_DROP_OTHER lp)) ∧
  (∀ (s : State) (lp : Fin 32) e, s.lpUp lp = true → s.effB (prtReg Reg.PRT_TS_CFG lp) 25 = false →
    ∃ t, exec (.otherFrameDrop lp (some e)) s = .next t ∧ OnlyCounted s t (prtReg Reg.PRT_DROP_OTHER lp)) ∧
  (∀ (s : State) (lp : Fin 32) e w, s.lpUp lp = true → s.effB (prtReg Reg.PRT_TS_CFG lp) 25 = true →
    s.getF (prtReg Reg.PRT_TS_WIDX lp) 3 0 = w →
    ∃ t, exec (.otherFrameDrop lp (some e)) s = .next t ∧
      t.reg (prtReg Reg.PRT_DROP_OTHER lp) = s.reg (prtReg Reg.PRT_DROP_OTHER lp) + 1 ∧
      t.reg (prtReg Reg.PRT_TS_ENTRY0 lp + 16 * w + 8) = BitVec.ofNat 32 (e.type.toNat * 2 ^ 24 + e.seq.toNat) ∧
      t.getF (prtReg Reg.PRT_TS_WIDX lp) 3 0 = (w + 1) % 16 ∧ t = { s with bar := t.bar }) ∧
  (∀ (s : State) (lp : Fin 32), s.lpUp lp = true →
    ∃ t, exec (.badCrcFrame lp) s = .next t ∧ OnlyCounted s t (prtReg Reg.PRT_DROP_CRC lp)) ∧
  (∀ (s : State) (lp : Fin 32) (q : Fin 8) occ, s.pausing lp q = true → s.twn.yieldedAt = none →
    min occ (ingressUnits - s.ingressOther lp q) ≤ s.xon lp →
    ∃ t f, exec (.pfcRepeat lp q occ) s = .next t ∧ Queued s t lp f ∧ f.kind = .pfc ∧ f.prio = q.val ∧ f.quanta = 0 ∧
      t.pausing lp q = false) ∧
  (∀ (s : State) (lp : Fin 32) (q : Fin 8) occ, s.pausing lp q = true → s.twn.yieldedAt = none →
    s.xon lp < min occ (ingressUnits - s.ingressOther lp q) → s.repeatDue lp q = true →
    ∃ t f, exec (.pfcRepeat lp q occ) s = .next t ∧ Queued s t lp f ∧ f.kind = .pfc ∧ f.prio = q.val ∧ f.quanta = 0xFFFF ∧
      t.pausing lp q = true) ∧
  (∀ (s : State) (lp : Fin 32) (cycle : Fin 1025) f, s.lpUp lp = true → s.sqr.serdesIdle = false → s.chooseFrame lp cycle = some f →
    ∃ t, exec (.portEgress lp cycle) s = .next t ∧
      Maps.find lp.val t.prt.sent = some (if f.ofPort then f else
        { f with ect0 := s.effB Reg.TRN_CTRL 0, pcp := s.classPrio lp f.cls, dscp := s.classDscp lp f.cls }, s.now, cycle.val) ∧
      (f.ofPort = true → t = { s with prt := t.prt }) ∧
      Maps.getD t.prt.egress lp [] = (Maps.getD s.prt.egress lp []).erase f ∧
      ∀ k, k ≠ lp.val → Maps.find k t.prt.egress = Maps.find k s.prt.egress)

/-- A request that arrives on a port that is up, with the PSN its QP expects, and that the window check passes takes one
Operation Table entry, moves ePSN on, and stands in the engines with the address, length, payload, rights and kind its
headers give; a WRITE middle or last packet goes on at the address after the packets before it. (R71, R77, R85, R96, R117,
R144, R145.) -/
def Obligations.ReceivedRequests : Prop :=
  (∀ (s : State) p (r : Reth) c, Arrives s p (.read r) c → Expected p c → c.between = false → r.len ≠ 0 → r.len.toNat ≤ 2 ^ 30 →
    Passes s c (plainAccess r.rkey 1 r.va.toNat r.len.toNat false false) → c.rdFull = false →
    ∃ t, exec (.rdmaReadRequest p r false) s = .next t ∧
      Admitted t p
        (fun o => { c.expect (c.packets r.len.toNat) with
          begun := c.begun + 1
          outstanding := c.outstanding ++ [{ psn := p.psn, packets := c.packets r.len.toNat, opt := o, reth := some r }] })
        (s.entryFor p c .read (r.rkey.toNat / 256) false)
        { baseRequest p c r.rkey 0 0x0C with addr := r.va.toNat - (s.window (r.rkey.toNat / 256)).vaBase, len := r.len.toNat
                                             rights := 1, msn := c.begun + 1 }) ∧
  (∀ (s : State) p (r : Reth) c payload, Arrives s p (.write .only r payload) c → Expected p c → c.between = false →
    payload.length = r.len.toNat → r.len ≠ 0 → payload.length ≤ mtuBytes c.pmtu →
    Passes s c (plainAccess r.rkey 2 r.va.toNat r.len.toNat false true) →
    ∃ t, exec (.rdmaWriteFirst p r true payload) s = .next t ∧
      Admitted t p (fun _ => { c.expect 1 with begun := c.begun + 1 }) (s.entryFor p c .write (r.rkey.toNat / 256) false)
        { baseRequest p c r.rkey 1 0x0A with addr := r.va.toNat - (s.window (r.rkey.toNat / 256)).vaBase, len := payload.length
                                             payload, rights := 2, msn := c.begun + 1 }) ∧
  (∀ (s : State) p c (m : OpenMsg) e payload, Arrives s p (.write .last { rkey := 0, va := 0, len := 0 } payload) c → Expected p c →
    c.sendOpen = false → c.openMsg = some m → payload.length = m.left → 0 < m.left → m.left ≤ mtuBytes c.pmtu →
    (s.window m.win).state = .opened → (s.window m.win).gen = m.gen → Maps.find m.opt s.trn.opt = some e →
    ∃ t id q, exec (.rdmaWriteMiddle p true payload) s = .next t ∧ t.qp p.qpn = some { c.expect 1 with openMsg := none } ∧
      Maps.find m.opt t.trn.opt = some { e with more := false } ∧ Maps.find id t.cle.reqs = some q ∧ q.kind = 6 ∧
      q.addr = m.next ∧ q.payload = payload ∧ q.last = true ∧ q.opt = some m.opt ∧ q.psn = p.psn ∧ q.win = m.rkey.toNat / 256) ∧
  (∀ (s : State) p c (k : Word) (va x y : DWord), Arrives s p (.cmpSwap k va x y) c → AtomicGoes s p c k va →
    ∃ t, exec (.cmpswap p k va x y) s = .next t ∧ AtomicAdmitted s t p c k va .cmpSwap 2 0x13 [x, y]) ∧
  (∀ (s : State) p c (k : Word) (va x : DWord), Arrives s p (.fetchAdd k va x) c → AtomicGoes s p c k va →
    ∃ t, exec (.fetchadd p k va x) s = .next t ∧ AtomicAdmitted s t p c k va .fetchAdd 3 0x14 [x]) ∧
  (∀ (s : State) p c (k : Word) (va x : DWord), Arrives s p (.atomicWrite k va x) c → AtomicGoes s p c k va →
    ∃ t, exec (.atomicWrite p k va x) s = .next t ∧ AtomicAdmitted s t p c k va .atomicWrite 4 0x1D [x]) ∧
  (∀ (s : State) p c (r : Reth) (sel placement : Byte), Arrives s p (.flush r sel placement) c → Expected p c → c.between = false →
    sel.toNat ≤ 1 → placement ≠ 0 → Passes s c (plainAccess r.rkey 8 r.va.toNat r.len.toNat (sel == 1) true) →
    ∃ t, exec (.flush p r sel placement) s = .next t ∧
      Admitted t p (fun _ => { c.expect 1 with begun := c.begun + 1 }) (s.entryFor p c .flush (r.rkey.toNat / 256) false)
        { baseRequest p c r.rkey 5 0x1C with
          addr := if sel = 1 then 0 else r.va.toNat - (s.window (r.rkey.toNat / 256)).vaBase
          len := if sel = 1 then (s.window (r.rkey.toNat / 256)).length else r.len.toNat
          rights := 8, msn := c.begun + 1 }) ∧
  (∀ (s : State) p c m, Arrives s p (.send .only m) c → Expected p c → c.between = false → c.sendBuf = [] → m.length ≤ mtuBytes c.pmtu →
    headerOk m = true →
    (let rkey : Word := BitVec.ofNat 32 (headerField m 4 4)
     let d : BitVec 5 := match s.conjEntry (s.window (rkey.toNat / 256)).progId (headerField m 1 1) with
       | some e => BitVec.ofNat 5 (fld e 62 58)
       | none => 0
     s.checkAccess c.tenant { rkey, rights := d ||| 16, start := headerField m 8 8, relative := true, len := headerField m 16 4
                              noBytes := false, home := bitOf d 1 || bitOf d 2 } = Code.ok) →
    s.repeatsFor c.bond (headerField m 20 4) = [] → s.optFree c.cls true = true →
    ∃ t id q, exec (.send p .only m) s = .next t ∧
      t.qp p.qpn = some { c.expect 1 with begun := c.begun + 1, msn := c.msn + 1, ackDue := c.ackDue ++ [p.psn] } ∧
      Maps.find id t.cle.reqs = some q ∧ q.kind = headerField m 1 1 ∧ q.addr = headerField m 8 8 ∧ q.len = headerField m 16 4 ∧
      q.payload = m.drop 32 ∧ q.tag = BitVec.ofNat 32 (headerField m 20 4) ∧ q.psn = p.psn)

/-- An acknowledge releases every sent packet up to its PSN and restores the retry counts; a CNP is counted, and cuts the
rate of a Lungo or Drip QP, never of a Ristretto one; a read response is counted as dropped; an unsupported opcode leaves the
QP in Error with INVALID_REQUEST and the PSN in its last-status word. (R82, R88, R89, R90, R92, R93.) -/
def Obligations.ReceivedAnswers : Prop :=
  (∀ (s : State) p c, Arrives s p (.ack .ack) c → c.state = .rts →
    ∃ t, exec (.acknowledge p .ack) s = .next t ∧
      t.qp p.qpn = some { c with
        unacked := c.unacked.filter (fun f => !psnGe p.psn f.psn), sentTick := s.now, retriesLeft := c.retry,
        rnrLeft := c.rnrRetry, rnrUntil := none,
        reqOldest := ((c.unacked.filter (fun f => !psnGe p.psn f.psn)).head?.map (·.psn)).getD c.reqNext }) ∧
  (∀ (s : State) p c, Arrives s p .cnp c → c.cls = .ristretto →
    ∃ t, exec (.cnpReceived p) s = .next t ∧ t.reg Reg.TRN_CNT_CNP_RX = s.reg Reg.TRN_CNT_CNP_RX + 1 ∧ t.trn.qps = s.trn.qps) ∧
  (∀ (s : State) p c, Arrives s p .cnp c → c.cls ≠ .ristretto →
    ∃ t, exec (.cnpReceived p) s = .next t ∧ t.reg Reg.TRN_CNT_CNP_RX = s.reg Reg.TRN_CNT_CNP_RX + 1 ∧
      (let cut := max 1 (s.effF Reg.TRN_CC_CFG 23 16)
       let low := max 1 (s.effF Reg.TRN_CC_CFG2 23 16)
       t.qp p.qpn = some { c with rateTick := s.now, rate := max (c.rate * cut / 256) low })) ∧
  (∀ (s : State) p op, s.lpUp p.lp = true → s.addressed p = true →
    ∃ t, exec (.rdmaReadResponseRx p op) s = .next t ∧
      t.reg (prtReg Reg.PRT_DROP_OTHER p.lp) = s.reg (prtReg Reg.PRT_DROP_OTHER p.lp) + 1 ∧
      t = { s with bar := t.bar, prt := t.prt }) ∧
  (∀ (s : State) p op, s.lpUp p.lp = true → s.addressed p = false →
    ∃ t, exec (.rdmaReadResponseRx p op) s = .next t ∧ OnlyCounted s t (prtReg Reg.PRT_DROP_OTHER p.lp)) ∧
  (∀ (s : State) p c (op : Byte), Arrives s p (.unsupported op) c → Expected p c →
    ∃ t c', exec (.unsupportedOpcode p true op) s = .next t ∧ t.qp p.qpn = some c' ∧ c'.state = .error ∧
      c'.lastCode = Code.invalidRequest ∧ c'.lastPsn = p.psn ∧ c'.ePsn = c.ePsn)

/-- A fetched context or descriptor for which no packet waits is installed and no table changes; the end of an invalidation empties the
caches and sets its bit; the ACK timer sends again from the oldest packet, the RNR timer from the NAK's, and both count it; the rate rises
by its step up to 256; a paced frame goes to the egress of its QP, and its Operation Table entry is free. (R78, R79, R80, R90, R92, R96,
R120, R121.) -/
def Obligations.TransportEvents : Prop :=
  (∀ (s : State) (q : BitVec 24) c w occ, Maps.has s.trn.fetching q.toNat = true → s.qp q = some c →
    Maps.find q.toNat s.trn.installs = some (qpSet q, w) → s.inMiss q = false →
    ∃ t, exec (.contextFetchDone q occ) s = .next t ∧ Maps.find q.toNat t.trn.fetching = none ∧
      ((Maps.getD t.trn.cache (qpSet q) {}).wayOf q.toNat).isSome = true ∧ t.trn.qps = s.trn.qps) ∧
  (∀ (s : State) (i : BitVec 24), Maps.has s.win.fetching i.toNat = true → (∀ e ∈ s.prt.miss, e.2 = []) →
    ∃ t, exec (.descriptorFetchDone i) s = .next t ∧ Maps.find i.toNat t.win.fetching = none ∧ t.keyPresent i.toNat = true ∧
      t.win.windows = s.win.windows) ∧
  (∀ (s : State), s.getB Reg.TRN_STATUS 0 = false →
    ∃ t, exec .contextInvalidationDone s = .next t ∧ t.trn = { s.trn with store := [], cache := [] } ∧
      t.getB Reg.TRN_STATUS 0 = true ∧ OtherRegs s t [Reg.TRN_STATUS]) ∧
  (∀ (s : State), s.getB Reg.WIN_STATUS 0 = false →
    ∃ t, exec .keyCacheInvalidationDone s = .next t ∧ t.win = { s.win with pinStore := [], keyCache := [] } ∧
      t.getB Reg.WIN_STATUS 0 = true ∧ OtherRegs s t [Reg.WIN_STATUS]) ∧
  (∀ (s : State) (q : BitVec 24) c f rest, s.qp q = some c → c.unacked = f :: rest → c.state = .rts → c.ackCode ≠ 0 → c.rnrUntil = none →
    ackTicks c.ackCode ≤ s.now - c.sentTick → c.retriesLeft ≠ 0 →
    ∃ t c', exec (.ackTimeout q) s = .next t ∧ t.qp q = some c' ∧ c'.retriesLeft = c.retriesLeft - 1 ∧ c'.sentTick = s.now ∧
      c'.unacked = c.unacked ∧
      t.reg Reg.TRN_CNT_RETX = s.reg Reg.TRN_CNT_RETX + BitVec.ofNat 32 (c.unacked.filter (fun g => psnGe g.psn f.psn)).length) ∧
  (∀ (s : State) (q : BitVec 24) c at' psn, s.qp q = some c → c.rnrUntil = some (at', psn) → at' ≤ s.now →
    ∃ t c', exec (.rnrTimerExpiry q) s = .next t ∧ t.qp q = some c' ∧ c'.rnrUntil = none ∧ c'.sentTick = s.now ∧
      c'.unacked = c.unacked ∧
      t.reg Reg.TRN_CNT_RETX = s.reg Reg.TRN_CNT_RETX + BitVec.ofNat 32 (c.unacked.filter (fun g => psnGe g.psn psn)).length) ∧
  (∀ (s : State) (q : BitVec 24) c, s.qp q = some c → s.isPaced c = true → c.rate ≠ 256 →
    max 1 (s.effF Reg.TRN_CC_CFG2 15 0) ≤ s.now - c.rateTick →
    ∃ t, exec (.ccRateIncrease q) s = .next t ∧
      t.qp q = some { c with rate := min (c.rate + s.effF Reg.TRN_CC_CFG 31 24) 256, rateTick := s.now } ∧
      (∀ k, k ≠ q.toNat → Maps.find k t.trn.qps = Maps.find k s.trn.qps) ∧
      t = { s with trn := { s.trn with qps := t.trn.qps } }) ∧
  (∀ (s : State) (q : BitVec 24) c f fs, s.qp q = some c → Maps.find q.toNat s.trn.paceq = some (f :: fs) → c.paceAt ≤ s.tck.start →
    s.twn.yieldedAt = none → s.lpUp c.egressLp = true →
    ∃ t, exec (.pacedRelease q) s = .next t ∧ Maps.getD t.trn.paceq q.toNat [] = fs ∧
      Queued s t c.egressLp { f with opt := none, acks := [] } ∧ (∀ o, f.opt = some o → Maps.find o t.trn.opt = none))

namespace Sys2Proof.Claims

open Sys2Proof Sys2Proof.Machine

/-- A transaction is held for a stack, or outstanding on its link. -/
def Bound (t : State) (m : Nat) (x : MTrans) : Prop :=
  (∃ w ∈ (t.link m).held, w.trans = x) ∨ ∃ k y, Maps.find k (t.link m).trans = some y ∧ y.trans = x

/-- A frame waits, or has been sent and not yet acknowledged, on a bundle of the twin link. -/
def Sent (t : State) (f : TwinFrame) : Prop :=
  ∃ one, (∃ w ∈ (t.bundle one).held, w.frame = f) ∨ ∃ x ∈ (t.bundle one).unacked, x.frame = f

/-- The persistent store holds `bs` from an address on, and elsewhere what it held. -/
def StoreHolds (s t : State) (a : Nat) (bs : List Byte) : Prop :=
  (∀ k (h : k < bs.length), t.med.store.byte (a + k) = bs[k]) ∧
  ∀ b, b < a ∨ a + bs.length ≤ b → t.med.store.byte b = s.med.store.byte b

/-- Nothing but one link's record, and registers, changes. -/
def OnlyLink (s t : State) (m : Nat) (l : MLinkRec) : Prop :=
  t.link m = l ∧ (∀ k, k ≠ m → t.link k = s.link k) ∧
  t = { s with bar := t.bar, med := { s.med with links := t.med.links }, integ := t.integ }

/-- Tile `j` of stage `st` of a schedule. -/
def tileSrc (p : Pour) (st j : Nat) : TileSrc := ((p.stages.getD st { tiles := [] }).tiles).getD j { off := 0, zero := true }

/-- The link accepts flits, and the named outstanding transaction is `x`. -/
abbrev Answers (s : State) (m : Nat) (tag : BitVec 10) (x : MSentRec) : Prop :=
  (s.link m).discarding = false ∧ Maps.find tag.toNat (s.link m).trans = some x

/-- The four replies of a stack that name a transaction. -/
def replies (m : Fin 16) (tag : BitVec 10) (cnt : BitVec 6) (raw : List Byte) (reason : BitVec 6) (w : DWord) : List Instr :=
  [.rdr m tag cnt raw, .cnf m tag, .err m tag reason, .cfgr m tag w]

end Sys2Proof.Claims

/-- A free channel takes the tile of the request that wins it; the bytes that the placement buffer serves are there at once, every
other tile stays that request's; a fill that ends leaves the tile checked, or its stage failed and the tile to be freed at the
boundary; a late stage ends its request and is counted twice; a halt drops the channel's tile, ends its request, is shown and
reported; a resumed channel runs again with its count of halts unchanged. (R222, R224, R226, R229, R230, R236, R237, R241, R242,
R244, R245, R443.) -/
def Obligations.StagerEvents : Prop :=
  (∀ (s : State), ∃ t, exec .tileInitDone s = .next t ∧ t.getB Reg.STG_STATUS 16 = true ∧ OtherRegs s t [Reg.STG_STATUS] ∧
      t = { s with bar := t.bar }) ∧
  (∀ (s : State) (c : Fin 8) k id r p st j tl,
    (List.range 8).find? (fun k => (s.chan c k).tile.isNone && !(s.chan c k).halted) = some k →
    s.getB Reg.STG_STATUS 16 = true → s.fillWinner ((s.fillAsks c).filter (fun x => s.quotaAllows x.2)) = some (id, r) →
    r.pour = some p → s.nextFill id r = some (st, j) → s.takeTile c (r.cls == .ristretto) = some tl →
    (∀ l ∈ linesOf (s.fillTile id r (tileSrc p st j) st j).base (s.fillTile id r (tileSrc p st j) st j).len,
      Maps.has s.med.poison l = false) →
    ∃ t x, exec (.tileFillStart c) s = .next t ∧ (t.chan c k).tile = some tl ∧ Maps.find tl t.stg.tiles = some x ∧
      x = { s.fillTile id r (tileSrc p st j) st j with bytes := x.bytes, taken := x.taken } ∧
      (∀ a, x.base ≤ a → a < x.base + x.len → (s.newest (a / 64)).isSome = true →
        [x.bytes.byte (a - x.base)] = s.readBytes a 1) ∧
      (∀ n y, n ≠ tl → Maps.find n s.stg.tiles = some y →
        ∃ z, Maps.find n t.stg.tiles = some z ∧ z = { y with bytes := z.bytes, taken := z.taken }) ∧
      t.reg Reg.STG_CNT_FILL = s.reg Reg.STG_CNT_FILL + 1) ∧
  (∀ (s : State) (c k : Fin 8) tl x r, (s.chan c k).tile = some tl → (s.chan c k).halted = false → s.fillPending tl = false →
    Maps.find tl s.stg.tiles = some x → x.orphan = false → x.freeing = false → Maps.find x.req s.cle.reqs = some r →
    ∃ t y, exec (.tileFillDone c k none) s = .next t ∧ (t.chan c k).tile = none ∧ Maps.find tl t.stg.tiles = some y ∧
      y = { x with state := y.state, order := s.stg.order } ∧ y.state ≠ .filling ∧
      Maps.find x.req t.cle.reqs = some { r.firstFill x.stage x.index with pour := r.pour.map (fun p =>
        p.setSrc x.stage x.index (fun y => { y with tile := some tl, filled := true })) }) ∧
  (∀ (s : State) (c k : Fin 8) tl x r (code : Byte), (s.chan c k).tile = some tl → (s.chan c k).halted = false → s.fillPending tl = false →
    Maps.find tl s.stg.tiles = some x → x.state = .filling → x.orphan = false → x.freeing = false →
    Maps.find x.req s.cle.reqs = some r →
    ∃ t, exec (.tileFillDone c k (some code)) s = .next t ∧ (t.chan c k).tile = none ∧
      (∀ y, Maps.find tl t.stg.tiles = some y → y.freeing = true) ∧
      ((∀ since, r.st ≠ .waiting (.stage x.stage) since) → ∀ p, r.pour = some p → x.stage < p.stages.length →
        ∃ r' p' f, Maps.find x.req t.cle.reqs = some r' ∧ r'.pour = some p' ∧ p'.stages[x.stage]? = some f ∧
          f.failed = some (if code.toNat = Code.mediaUe then Code.mediaUe else Code.stageFail))) ∧
  (∀ (s : State) req r k since p, Maps.find req s.cle.reqs = some r → r.st = .waiting (.stage k) since → r.pour = some p →
    s.effF Reg.STG_LATE_LIMIT 23 0 ≠ 0 → since + s.effF Reg.STG_LATE_LIMIT 23 0 ≤ s.now + 1 → p.resident k = false →
    ∃ t, exec (.stageLate req) s = .next t ∧ RequestGone t req ∧ t.reg Reg.STG_CNT_LATE = s.reg Reg.STG_CNT_LATE + 1 ∧
      t.reg Reg.CLE_CNT_ABORT = s.reg Reg.CLE_CNT_ABORT + 1) ∧
  (∀ (s : State) (c k cause source : Fin 8) (pna : BitVec 48) tl x, cause.val = 1 ∨ cause.val = 2 → source.val ≤ 4 →
    (s.chan c k).tile = some tl → (s.chan c k).halted = false → Maps.find tl s.stg.tiles = some x →
    ∃ t, exec (.stagerChannelHalt c k cause source pna) s = .next t ∧ (t.chan c k).halted = true ∧ (t.chan c k).tile = none ∧
      (t.chan c k).halts = (s.chan c k).halts + 1 ∧ Maps.find tl t.stg.tiles = none ∧ (0x0E, chanKey c k) ∈ t.integ.reports ∧
      t.reg (chanReg c k) = BitVec.ofNat 32 (2 ^ 31 + cause.val * 2 ^ 28 + source.val * 2 ^ 25 + tl) ∧
      (∀ r, Maps.find x.req s.cle.reqs = some r → r.st ≠ .ended → r.st ≠ .held → RequestGone t x.req)) ∧
  (∀ (s : State) (c k : Fin 8), (s.chan c k).halted = true → (s.chan c k).resume = true → s.frameDue = true →
    (s.chan c k).halts < s.haltLimit →
    ∃ t, exec (.channelResume c k) s = .next t ∧ (t.chan c k).halted = false ∧ (t.chan c k).halts = (s.chan c k).halts ∧
      (∀ o, chanReg c k ≤ o → o < chanReg c k + 16 → t.reg o = resetOf o) ∧
      (∀ o, o < chanReg c k ∨ chanReg c k + 16 ≤ o → t.reg o = s.reg o))

/-- A damaged flit draws a NAK flit and discarding; the flit expected is accepted, with an ACK flit after every tenth, and its
transactions are those of the rows that name them; an ACK releases, a NAK replays and counts; a link that falls silent retrains and is
reported; one that retrains within 48 ticks is Up, one that does not is Lost and reported. No other link changes. (R250, R251, R252,
R254, R256.) -/
def Obligations.MediaFlits : Prop :=
  (∀ (s : State) (m : Fin 16) flit, (s.link m).state ≠ 0 → (s.link m).state ≠ 4 → flitOk flit = false →
    ∃ t, exec (.mediaDataFlit m flit) s = .next t ∧
      OnlyLink s t m { s.link m with
        discarding := true, released := 0, out := flitBytes 3 0 (s.link m).rxSeq.toNat (s.link m).released [] } ∧
      t.reg (linkReg Reg.MED_LINK_CNT_REPLAY m) = s.reg (linkReg Reg.MED_LINK_CNT_REPLAY m) + 1) ∧
  (∀ (s : State) (m : Fin 16) flit, (s.link m).state ≠ 0 → (s.link m).state ≠ 4 → flitOk flit = true → flitType flit = 1 →
    flitSeq flit = (s.link m).rxSeq → slice flit 8 240 = List.replicate 240 0 →
    ∃ t l, exec (.mediaDataFlit m flit) s = .next t ∧ OnlyLink s t m l ∧ l.rxSeq = (s.link m).rxSeq + 1 ∧
      l.discarding = false ∧ l.heard = s.tck.boundaries ∧ l.trans = (s.link m).trans ∧ l.unacked = (s.link m).unacked ∧
      (if (s.link m).rxUnacked = 9
       then l.rxUnacked = 0 ∧ l.released = 0 ∧ l.out = flitBytes 2 0 (s.link m).rxSeq.toNat (s.link m).released []
       else l.rxUnacked = (s.link m).rxUnacked + 1 ∧ l.out = (s.link m).out)) ∧
  (∀ (s : State) (m : Fin 16) flit (tag : BitVec 10), (s.link m).state ≠ 0 → (s.link m).state ≠ 4 → flitOk flit = true →
    flitType flit = 1 → flitSeq flit = (s.link m).rxSeq →
    slice flit 8 240 = leBytes (0x82 + tag.toNat * 256) 8 ++ List.replicate 232 0 →
    exec (.mediaDataFlit m flit) s = exec (.cnf m tag) (s.takeFlit m)) ∧
  (∀ (s : State) (m : Fin 16) first (f : FlitRec) rest, (s.link m).unacked = first ++ f :: rest → (∀ e ∈ first, e.seq ≠ f.seq) →
    (s.link m).held = [] →
    ∃ t, exec (.mediaFlitAck m f.seq) s = .next t ∧
      OnlyLink s t m { s.link m with unacked := rest, heard := s.tck.boundaries }) ∧
  (∀ (s : State) (m : Fin 16) first (f : FlitRec) rest, (s.link m).state = 2 → (s.link m).unacked = first ++ f :: rest →
    (∀ e ∈ first, e.seq ≠ f.seq) → (∀ e ∈ f :: rest, e.replays < 7) →
    ∃ t l, exec (.mediaFlitNak m f.seq) s = .next t ∧ OnlyLink s t m l ∧
      l = { s.link m with
        unacked := first ++ (f :: rest).map (fun e => { e with replays := e.replays + 1 })
        heard := s.tck.boundaries, released := 0, out := l.out } ∧
      t.reg (linkReg Reg.MED_LINK_CNT_REPLAY m) = s.reg (linkReg Reg.MED_LINK_CNT_REPLAY m) + BitVec.ofNat 32 (rest.length + 1)) ∧
  (∀ (s : State) (m : Fin 16), (s.link m).rxUnacked ≠ 0 →
    ∃ t, exec (.mediaAckDue m) s = .next t ∧
      OnlyLink s t m { s.link m with
        rxUnacked := 0, released := 0, out := flitBytes 2 0 ((s.link m).rxSeq - 1).toNat (s.link m).released [] }) ∧
  (∀ (s : State) (m : Fin 16), (s.link m).state = 2 → (s.link m).heard < s.tck.boundaries →
    ∃ t, exec (.mediaLinkSilent m) s = .next t ∧
      OnlyLink s t m { s.link m with state := 3, discarding := false, downAt := s.tck.boundaries } ∧
      t.reg (linkReg Reg.MED_LINK_CNT_RETRAIN m) = s.reg (linkReg Reg.MED_LINK_CNT_RETRAIN m) + 1 ∧
      t.integ.reports = s.integ.reports ++ [(0x13, m.val)]) ∧
  (∀ (s : State) (m : Fin 16), (s.link m).state = 3 → s.tck.boundaries ≤ (s.link m).downAt + 48 → (s.link m).held = [] →
    ∃ t, exec (.retrainDone m) s = .next t ∧
      OnlyLink s t m { s.link m with
        state := 2, heard := s.tck.boundaries, unacked := (s.link m).unacked.map (fun e => { e with replays := 0 }) }) ∧
  (∀ (s : State) (m : Fin 16), (s.link m).state = 3 → (s.link m).downAt + 48 ≤ s.tck.boundaries →
    ∃ t, exec (.retrainTimeout m) s = .next t ∧ OnlyLink s t m { s.link m with state := 4 } ∧
      t.integ.reports = s.integ.reports ++ [(0x14, m.val)])

/-- A line that passes its checks changes no data, a corrected one counts its bits and from WB_BITS on goes back to its slot; a
confirmed write is stored at its line, every other byte unchanged; ERR of a read is counted and gives its request STAGE_FAIL, of a
write has it sent again at once where the link may, and the third time loses the stack; a configuration word gives the link its credits or its refusal; a reply
that answers nothing loses the link and is reported; while a link discards, no reply has an effect. (R251, R256, R257, R258, R261,
R265, R266, R267, R281.) -/
def Obligations.MediaReplies : Prop :=
  (∀ (s : State) (m : Fin 16) (tag : BitVec 10) raw x line, Answers s m tag x → x.trans = .rd line none → (s.link m).held = [] →
    checkLine raw x.address = .clean →
    ∃ t, exec (.rdr m tag 0 raw) s = .next t ∧ Maps.find tag.toNat (t.link m).trans = none ∧ t.bar = s.bar ∧
      t.med.store = s.med.store ∧ t.cle = s.cle) ∧
  (∀ (s : State) (m : Fin 16) (tag : BitVec 10) raw x line bits, Answers s m tag x → x.trans = .rd line none → (s.link m).held = [] →
    checkLine raw x.address = .corrected bits → bits < s.medWbBits →
    ∃ t, exec (.rdr m tag 0 raw) s = .next t ∧ Maps.find tag.toNat (t.link m).trans = none ∧
      t.reg Reg.MED_CNT_CE = s.reg Reg.MED_CNT_CE + BitVec.ofNat 32 bits ∧ t.reg Reg.INT_CNT_CE = s.reg Reg.INT_CNT_CE + 1 ∧
      t.med.store = s.med.store ∧ t.cle = s.cle) ∧
  (∀ (s : State) (m : Fin 16) (tag : BitVec 10) raw x line bits, Answers s m tag x → x.trans = .rd line none →
    Maps.has s.med.rewritten line = false → checkLine raw x.address = .corrected bits → s.medWbBits ≤ bits →
    ∃ t, exec (.rdr m tag 0 raw) s = .next t ∧ Bound t m (.writeBack line (corrected raw x.address))) ∧
  (∀ (s : State) (m : Fin 16) (tag : BitVec 10) raw x line, Answers s m tag x → x.trans = .rd line none →
    checkLine raw x.address = .uncorrectable →
    ∃ t, exec (.rdr m tag 0 raw) s = .next t ∧ t.reg Reg.MED_CNT_UE = s.reg Reg.MED_CNT_UE + 1 ∧
      t.reg Reg.INT_CNT_UE = s.reg Reg.INT_CNT_UE + 1 ∧ (0x11, m.val) ∈ t.integ.reports ∧ t.med.store = s.med.store) ∧
  (∀ (s : State) (m : Fin 16) (tag : BitVec 10) x line q w mirror, Answers s m tag x → x.trans = .wr line q w mirror →
    (s.link m).held = [] → x.line.length = 88 →
    ∃ t, exec (.cnf m tag) s = .next t ∧ Maps.find tag.toNat (t.link m).trans = none ∧
      StoreHolds s t (line * 64) (x.line.take 64) ∧
      Maps.find line t.med.epochs = some (leNat (slice x.line 84 4))) ∧
  (∀ (s : State) (m : Fin 16) (tag : BitVec 10) reason x line id r, Answers s m tag x → x.trans = .rd line (some id) →
    Maps.find id s.cle.reqs = some r → r.st ≠ .ended → r.rest = none →
    ∃ t r', exec (.err m tag reason) s = .next t ∧ t.reg Reg.MED_CNT_STACK_ERR = s.reg Reg.MED_CNT_STACK_ERR + 1 ∧
      Maps.find id t.cle.reqs = some r' ∧
      r' = { r with readFail := some (r.readFail.getD Code.stageFail), matoms := r'.matoms, logged := r'.logged } ∧
      t.med.store = s.med.store) ∧
  (∀ (s : State) (m : Fin 16) (tag : BitVec 10) reason x line q w mirror, Answers s m tag x → x.trans = .wr line q w mirror →
    Maps.getD (s.link m).errs tag.toNat 0 < 2 → (s.link m).state = 2 → (s.link m).held = [] → (s.link m).unacked.length < 64 →
    s.sqr.serdesIdle = false → s.slotsTaken (46 + m) < 64 → (∀ e, s.regionOf line = some e → (s.region e.1 e.2.1).moving = false) →
    ∃ t, exec (.err m tag reason) s = .next t ∧ t.reg Reg.MED_CNT_STACK_ERR = s.reg Reg.MED_CNT_STACK_ERR + 1 ∧
      (t.link m).trans = (s.link m).trans ∧ (t.link m).held = [] ∧
      Maps.find tag.toNat (t.link m).errs = some (Maps.getD (s.link m).errs tag.toNat 0 + 1) ∧
      (t.link m).txSeq = (s.link m).txSeq + 1 ∧ (t.link m).state = 2 ∧
      ∃ f, (t.link m).unacked = (s.link m).unacked ++ [f] ∧ f.seq = (s.link m).txSeq ∧ f.line = x.line) ∧
  (∀ (s : State) (m : Fin 16) (tag : BitVec 10) reason x line q w mirror, Answers s m tag x → x.trans = .wr line q w mirror →
    2 ≤ Maps.getD (s.link m).errs tag.toNat 0 →
    ∃ t, exec (.err m tag reason) s = .next t ∧ (t.link m).state = 4 ∧ (t.link m).trans = (s.link m).trans) ∧
  (∀ (s : State) (m : Fin 16) (tag : BitVec 10) (w : DWord) x, Answers s m tag x → x.trans = .cfgrd 0 →
    (s.link m).held = [] → refuseOf w = 0 →
    ∃ t, exec (.cfgr m tag w) s = .next t ∧ (t.link m).credits = fld w 42 32 ∧ (t.link m).refuse = 0 ∧
      Maps.find tag.toNat (t.link m).trans = none ∧
      (t.link m).state = (if (s.link m).state = 1 ∧ (s.link m).idRead = true then 2 else (s.link m).state)) ∧
  (∀ (s : State) (m : Fin 16) (tag : BitVec 10) (w : DWord) x, Answers s m tag x → x.trans = .cfgrd 0 →
    (s.link m).held = [] → refuseOf w ≠ 0 →
    ∃ t, exec (.cfgr m tag w) s = .next t ∧ (t.link m).state = 5 ∧ (t.link m).refuse = refuseOf w ∧
      (t.link m).credits = (s.link m).credits) ∧
  (∀ (s : State) (m : Fin 16) (tag : BitVec 10) cnt raw reason w, (s.link m).discarding = false →
    Maps.find tag.toNat (s.link m).trans = none → (s.link m).state ≠ 4 → ∀ c ∈ replies m tag cnt raw reason w,
    ∃ t, exec c s = .next t ∧ OnlyLink s t m { s.link m with state := 4 } ∧
      t.integ.reports = s.integ.reports ++ [(0x14, m.val)]) ∧
  (∀ (s : State) (m : Fin 16) (tag : BitVec 10) cnt raw reason w, (s.link m).discarding = true →
    ∀ c ∈ replies m tag cnt raw reason w, exec c s = .next s)

/-- A repair asks the twin once and takes its copy, which is stored whole; the twin is served a copy that passes its own checks; a
region's gap moves one line and its record is journalled; the scrub goes on to the next frame, or ends its pass, and changes no
stored byte. (R268, R271, R272, R273, R274.) -/
def Obligations.MediaUpkeep : Prop :=
  (∀ (s : State) (line : BitVec 42) x, Maps.find line.toNat s.med.repairs = some x → x.asked = false → s.newest line.toNat = none →
    s.groundsOk 12 = true → s.twn.yieldedAt = none →
    ∃ t, exec (.lineRepairRequest line) s = .next t ∧ Maps.find line.toNat t.med.repairs = some { asked := true } ∧
      Sent t (.repairAsk line.toNat)) ∧
  (∀ (s : State) (line : BitVec 42) raw, s.med.repairServed.contains line.toNat = true → s.newest line.toNat = none →
    s.groundsOk 12 = true → s.twn.yieldedAt = none →
    ∃ t, exec (.lineRepairServe line raw) s = .next t ∧ t.med.repairServed = s.med.repairServed.erase line.toNat ∧
      Sent t (.repairReply line.toNat (if s.goodCopy line.toNat raw then some (s.lineAtRest line.toNat) else none)
        (s.storedEpoch line.toNat))) ∧
  (∀ (s : State) (line : BitVec 42) r x d, s.twn.replies.find? (fun r => r.line == line.toNat) = some r →
    Maps.find line.toNat s.med.repairs = some x → x.asked = true → x.written = false → s.nandRepair line.toNat = false →
    r.data = some d → d.length = 64 →
    ∃ t, exec (.lineRepairReply line) s = .next t ∧ StoreHolds s t (line.toNat * 64) d ∧
      Maps.find line.toNat t.med.epochs = some r.epoch ∧
      Maps.find line.toNat t.med.repairs = none ∧ t.reg Reg.MED_CNT_REPAIR = s.reg Reg.MED_CNT_REPAIR + 1) ∧
  (∀ (s : State) (m : Fin 16) (r : Fin 512), (s.region m r).moving = false → s.gapInterval ≤ (s.region m r).writes →
    s.metaRegions ≤ r.val → (s.region m r).moves < s.recordEvery →
    ∃ t, exec (.gapMove m r) s = .next t ∧ (t.region m r).moving = true ∧ Bound t m (.move r.val)) ∧
  (∀ (s : State) (m : Fin 16) (r : Fin 512), s.recordEvery ≤ (s.region m r).moves →
    ∃ t, exec (.regionRecordWrite m r) s = .next t ∧ (t.region m r).recStart = (s.region m r).start ∧
      (t.region m r).recGap = (s.region m r).gap ∧ (t.region m r).moves = 0 ∧ t.dur.journalSeq = s.dur.journalSeq + 1) ∧
  (∀ (s : State) (m : Fin 16) f, s.effB Reg.MED_CTRL 0 = true → (s.link m).state = 2 → s.groundsOk 10 = true →
    s.med.scrubFrom ≤ s.now → s.scrubFrame m = some f →
    ∃ t, exec (.patrolScrub m) s = .next t ∧ Maps.find m.val t.med.scrubNext = some (f + 1) ∧ t.med.store = s.med.store) ∧
  (∀ (s : State) (m : Fin 16), s.effB Reg.MED_CTRL 0 = true → (s.link m).state = 2 → s.groundsOk 10 = true →
    s.med.scrubFrom ≤ s.now → s.scrubFrame m = none →
    (∀ k, k < 16 → k ≠ m.val → (s.link k).state = 2 → stackFrames ≤ Maps.getD s.med.scrubNext k 0) →
    ∃ t, exec (.patrolScrub m) s = .next t ∧ t.med.scrubNext = [] ∧
      t.med.scrubFrom = s.nextPass s.med.scrubFrom s.scrubPeriod ∧ t.med.store = s.med.store)

/-- An extent is marked in the in-flight map before its first write goes out; an entry is written to its stack; the entries of its write
event that fit go to the twin in one frame; a quiet mark is cleared through the journal; a fence is complete once its target is Durable
and the second count covers it, else nothing is completed and a fault is reported; FLUSH_LIMIT ends a request; an intent's header goes out and
the slot to the twin while that has room, and its home writes follow; a placed group's entries are written to their homes. (R354, R355, R361,
R362, R375, R380, R383, R387, R398.) -/
def Obligations.PlacementEvents : Prop :=
  (∀ (s : State) e, s.dur.pb.find? (fun e => !e.mirror && !(e.issued && e.shipped) && !e.placed &&
      !Maps.has s.dur.inflight (e.line / 32768)) = some e →
    ∃ t, exec .placementIssue s = .next t ∧ Maps.has t.dur.inflight (e.line / 32768) = true ∧
      t.dur.journalSeq = s.dur.journalSeq + 1 ∧ t.dur.pb = s.dur.pb) ∧
  (∀ (s : State) e m f, s.dur.pb.find? (fun e => !e.mirror && !(e.issued && e.shipped) && !e.placed &&
      !Maps.has s.dur.inflight (e.line / 32768)) = none →
    s.dur.pb.find? (fun e => s.issuable e || s.shippable e) = some e → s.issuable e = true → s.shippable e = false →
    e.intent = none → Maps.find (e.line / 256) s.win.pages = some (.scm m f) →
    ∃ t, exec .placementIssue s = .next t ∧ Bound t m (.wr e.line e.qpn e.wseq e.mirror) ∧
      t.dur.pb = s.dur.pb.map (fun x => if x = e then { x with issued := true } else x)) ∧
  (∀ (s : State) e, s.dur.pb.find? (fun e => !e.mirror && !(e.issued && e.shipped) && !e.placed &&
      !Maps.has s.dur.inflight (e.line / 32768)) = none →
    s.dur.pb.find? (fun e => s.issuable e || s.shippable e) = some e → s.issuable e = false → s.shippable e = true →
    s.twn.switchDue = none →
    e ∈ s.shipGroup e ∧ (∀ x ∈ s.shipGroup e, x.qpn = e.qpn ∧ x.wseq = e.wseq ∧ x.epoch = e.epoch) ∧
    ∃ t, exec .placementIssue s = .next t ∧
      Sent t (.mirror ((s.shipGroup e).map (fun x => (x.line, x.tenant, s.entryAtRest x)))
        ((s.shipGroup e).map (fun x => (x.qpn, x.wseq))) e.epoch e.cls) ∧
      t.twn.shipped = s.twn.shipped + (s.shipGroup e).length ∧
      t.dur.pb = s.dur.pb.map (fun x => if (s.shipGroup e).contains x then { x with shipped := true } else x) ∧ t.med = s.med) ∧
  (∀ (s : State) (e : BitVec 27) g quiet, Maps.find e.toNat s.dur.inflight = some (g, quiet) → 2 ≤ quiet → s.unmirrored e.toNat = false →
    (∀ x, s.extent e.toNat = some x → x.pinCount = 0) →
    ∃ t, exec (.inflightMarkClear e) s = .next t ∧ Maps.find e.toNat t.dur.inflight = none ∧
      (∀ k, k ≠ e.toNat → Maps.find k t.dur.inflight = Maps.find k s.dur.inflight) ∧
      t.dur.journalSeq = s.dur.journalSeq + 1) ∧
  (∀ (s : State) (q : BitVec 24) c id r, s.qp q = some c → s.cle.reqs.filter (fun e => e.2.qpn == q) = [(id, r)] →
    (∃ f ∈ r.fences, f.done = false ∧ wseqGe (durableFront s.dur.solo c) f.target = true) →
    (∀ f ∈ r.fences, f.done = false → wseqGe (durableFront s.dur.solo c) f.target = true → c.covers s.dur.solo f.target = true) →
    ∃ t r', exec (.fenceComplete q) s = .next t ∧ Maps.find id t.cle.reqs = some r' ∧
      r' = { r with fences := r.fences.map (fun f =>
        if wseqGe (durableFront s.dur.solo c) f.target then { f with done := true } else f) } ∧
      (∀ k, k ≠ id → Maps.find k t.cle.reqs = Maps.find k s.cle.reqs)) ∧
  (∀ (s : State) (q : BitVec 24) c id r, s.qp q = some c → s.cle.reqs.filter (fun e => e.2.qpn == q) = [(id, r)] →
    (∃ f ∈ r.fences, f.done = false ∧ wseqGe (durableFront s.dur.solo c) f.target = true) →
    (∀ f ∈ r.fences, f.done = false → wseqGe (durableFront s.dur.solo c) f.target = true → c.covers s.dur.solo f.target = false) →
    ∃ t, exec (.fenceComplete q) s = .next t ∧ t.cle = s.cle ∧ t.getB Reg.DUR_STATUS 0 = true ∧
      t.integ.reports = s.integ.reports ++ [(0x16, q.toNat % 4096)]) ∧
  (∀ (s : State) req r since f, Maps.find req s.cle.reqs = some r → s.pairState = 2 → s.effF Reg.TWN_FLUSH_LIMIT 23 0 ≠ 0 →
    r.st = .waiting .fence since → f ∈ r.fences → f.done = false →
    max f.tick s.twn.holdAt + s.effF Reg.TWN_FLUSH_LIMIT 23 0 ≤ s.now →
    ∃ t, exec (.flushLimitExpiry req) s = .next t ∧ RequestGone t req ∧
      t.reg Reg.CLE_CNT_ABORT = s.reg Reg.CLE_CNT_ABORT + 1 ∧ t.dur.pb = s.dur.pb) ∧
  (∀ (s : State) (k : BitVec 14) x, Maps.find k.toNat s.dur.intents = some x → x.headed = false → x.lines.length ≤ x.images →
    x.fromTwin = false → x.shipped = false → s.mirroring = true → s.twn.yieldedAt = none →
    s.twn.shipped + x.lines.length ≤ s.twn.credit →
    ∃ t, exec (.intentHeaderPlaced k) s = .next t ∧
      Maps.find k.toNat t.dur.intents = some { x with headed := true, shipped := true } ∧
      Bound t s.metaStack (.header k.toNat) ∧ Sent t (.intent k.toNat { x with headed := true }) ∧
      t.twn.shipped = s.twn.shipped + x.lines.length) ∧
  (∀ (s : State) (k : BitVec 14) x, Maps.find k.toNat s.dur.intents = some x → x.headed = false → x.lines.length ≤ x.images →
    (x.fromTwin = true ∨ s.mirroring = false ∨ s.twn.credit < s.twn.shipped + x.lines.length) →
    ∃ t, exec (.intentHeaderPlaced k) s = .next t ∧ Maps.find k.toNat t.dur.intents = some { x with headed := true } ∧
      Bound t s.metaStack (.header k.toNat) ∧ t.twn = s.twn) ∧
  (∀ (s : State) (k : BitVec 14) x line d m f, Maps.find k.toNat s.dur.intents = some x → x.valid = true → x.homing = false →
    (x.twinDone = true ∨ x.fromTwin = true ∨ s.dur.solo = true) → s.earlierWaits k.toNat x = false → x.lines = [(line, d)] →
    Maps.find (line / 256) s.win.pages = some (.scm m f) →
    ∃ t, exec (.intentHomeWrite k) s = .next t ∧ Maps.find k.toNat t.dur.intents = some { x with homing := true } ∧
      Bound t m (.home k.toNat line)) ∧
  (∀ (s : State) g rest, s.dur.journalPlaced = g :: rest → (∀ h ∈ s.dur.journalOpen, g ≤ h) →
    ∃ t, exec .journalApply s = .next t ∧ t.dur.journalPlaced = rest ∧ Maps.find g t.dur.groups = none ∧
      (∀ r ∈ Maps.getD s.dur.groups g [], Bound t s.metaStack (.tableHome g r.1 r.2)) ∧
      (Maps.getD s.dur.groups g [] ≠ [] → Maps.find g t.dur.applying = some (Maps.getD s.dur.groups g []).length) ∧
      t.win = { s.win with tenants := t.win.tenants })

namespace Sys2Proof.Claims

open Sys2Proof Sys2Proof.Machine

/-- Nothing but one DRAM channel's record, the controller's contents and registers changes. -/
def OnlyChannel (s t : State) (c : Nat) (x : DramChRec) : Prop :=
  t.dram c = x ∧ (∀ k, k ≠ c → t.dram k = s.dram k) ∧
  t = { s with bar := t.bar, drc := { s.drc with channels := t.drc.channels, lines := t.drc.lines, delivered := t.drc.delivered } }

/-- The record of a request presented now at channel-local address `l`. -/
def dramRecord (s : State) (r : DramReq) (l : Nat) : DramReqRec :=
  { port := r.port, cls := r.cls, tenant := r.tenant.toNat, write := r.write, line := l / 128
    mask := if r.write then r.mask.toNat else 65535, words := r.words, since := s.now, addr := r.addr.toNat }

/-- A request of no context that appears alone at an Up channel of a controller that is not frozen, within the installed capacity,
for a line that no merge there holds. -/
abbrev Alone (s : State) (ch : Fin 6) (r : DramReq) (l : Nat) : Prop :=
  s.frozen = false ∧ (s.dram ch).state = 2 ∧ r.qpn = none ∧ r.addr.toNat < s.dramBytes ∧ dramMap s.drc.grain r.addr.toNat = (ch.val, l) ∧
  (s.dram ch).waiting = [] ∧ ∀ e ∈ (s.dram ch).merging, e.line ≠ l / 128

/-- A superblock that may be emptied and erased: closed, its erase not begun, no record on its way, no read outstanding, the tier not
shut for P2 Hold. -/
abbrev Idle (s : State) (sb : Nat) (x : NandSbRec) : Prop :=
  Maps.find sb s.ntl.sbs = some x ∧ x.erasing = false ∧ x.closed = true ∧ s.ntl.moves = [] ∧ s.ntl.copyWant = [] ∧
  s.sbRead sb = false ∧ s.sqr.tierShut = false

/-- The command empties a superblock into a stream: with no valid record its erase begins; its one valid record is read to be copied. -/
def Empties (s : State) (c : Instr) (requester stream sb : Nat) : Prop :=
  (s.validRecs sb = [] → ∃ t y, exec c s = .next t ∧ Maps.find sb t.ntl.sbs = some y ∧ y.victim = true ∧ y.erasing = true) ∧
  (∀ tp p st bytes e, s.validRecs sb = [{ kind := .data tp p, start := st, bytes }] → Maps.has s.ntl.map tp = true →
    s.nandLoc p = some e → e.sb = sb → e.start = st → s.med.nandReads.contains (p, .copy requester) = false →
    ∃ t y, exec c s = .next t ∧ t.ntl.copyWant = [{ requester, stream, sb, start := st }] ∧
      t.med.nandReads = s.med.nandReads ++ [(p, .copy requester)] ∧ t.ntl.map = s.ntl.map ∧
      Maps.find sb t.ntl.sbs = some y ∧ y.victim = true ∧ y.erasing = false)

/-- A superblock of the SLC buffer or of the map stream. -/
def inSlc (s : State) (sb : Nat) : Bool :=
  match Maps.find sb s.ntl.sbs with | some x => x.stream == 0 || x.stream == 3 | none => false

/-- A read of a page's record is no scan, and does not wear its blocks to the disturb limit (R337). -/
abbrev Undisturbed (s : State) (page : Nat) : Prop :=
  s.med.nandReads.contains (page, .scan) = false ∧
  ∀ e x, s.readLoc page = some e → Maps.find e.sb s.ntl.sbs = some x →
    ∀ d ∈ x.diesOf e.start 19, Maps.getD x.reads d 0 + 1 < s.effF Reg.NTL_SCAN_CFG 31 16 * 1024

/-- The state whose quota rule looks only at tenants that are still above seven eighths of their quota (R105). -/
def stillDraining (s : State) : State :=
  { s with win := { s.win with draining := s.win.draining.filter (fun t => !s.drained t) } }

/-- The destager may run (R277, R346). -/
abbrev Destages (s : State) : Prop :=
  s.effB Reg.MED_CTRL 1 = true ∧ s.ntl.state = 2 ∧ s.tierRo = false ∧ s.twn.stopped = false ∧ s.groundsOk 8 = true

/-- A request whose read of a page ends with a code (R150, R330). -/
def ReadEnds (t : State) (id : Nat) (r : Request) (code : Nat) : Prop :=
  ∃ r', Maps.find id t.cle.reqs = some r' ∧
    r' = { r with readFail := some (r.readFail.getD code), matoms := r'.matoms, logged := r'.logged }

/-- One request alone waits for a page's record, and its read has been issued on every channel. -/
abbrev WaitsAlone (s : State) (page id : Nat) (r : Request) : Prop :=
  s.med.nandReads.filter (fun e => e.1 == page) = [(page, .req id)] ∧ s.nandIssued (.read page) = true ∧
  Maps.find id s.cle.reqs = some r ∧ r.st ≠ .ended ∧ r.rest = none

end Sys2Proof.Claims

/-- A read alone at its Up channel joins the read queue or is forwarded from the write queue, a whole-line write joins the write
queue; the granted requester's column command opens its row, and is in flight (a read) or in the line (a write), every other
line unchanged; a burst that returns is delivered with its corrections counted; an uncorrectable word freezes the controller,
is captured and reported, and is not delivered. (R286, R288, R290, R292, R293, R300, R304, R306, R307.) -/
def Obligations.DramRequests : Prop :=
  (∀ (s : State) (ch : Fin 6) (slot : Fin 64) (r : DramReq) l, Alone s ch r l → r.write = false → (s.dram ch).rq.length < 64 →
    (∀ e ∈ (s.dram ch).wq, e.line ≠ l / 128) →
    ∃ t, exec (.dramRequestAccept ch slot [r]) s = .next t ∧
      OnlyChannel s t ch { s.dram ch with waiting := [], hits := (t.dram ch).hits, rq := (s.dram ch).rq ++ [dramRecord s r l] }) ∧
  (∀ (s : State) (ch : Fin 6) (slot : Fin 64) (r : DramReq) l, Alone s ch r l → r.write = true → r.mask = 0xFFFF → r.port ≠ 11 →
    (s.dram ch).wq.length + (s.dram ch).merging.length < 128 → (∀ e ∈ (s.dram ch).wq, e.line ≠ l / 128) →
    ∃ t, exec (.dramRequestAccept ch slot [r]) s = .next t ∧
      OnlyChannel s t ch { s.dram ch with waiting := [], hits := (t.dram ch).hits, wq := (s.dram ch).wq ++ [dramRecord s r l] }) ∧
  (∀ (s : State) (ch : Fin 6) (slot : Fin 64) (r : DramReq) l e, Alone s ch r l → r.write = false →
    (s.dram ch).wq.find? (fun e => e.line == l / 128) = some e →
    ∃ t, exec (.dramRequestAccept ch slot [r]) s = .next t ∧
      OnlyChannel s t ch { s.dram ch with waiting := [], hits := (t.dram ch).hits } ∧
      Maps.find r.port.val t.drc.delivered = some (r.addr.toNat, e.words) ∧
      t.reg (dramReg Reg.DRC_CH_CNT_FWD ch) = s.reg (dramReg Reg.DRC_CH_CNT_FWD ch) + 1) ∧
  (∀ (s : State) (ch : Fin 6) (slot : Fin 64) nb p r ws, s.slotsTaken (40 + ch) ≤ slot.val → (s.dramDrain ch).dramGrant ch slot = some p →
    ((s.dramDrain ch).dramCandidates ch).filter (fun r => r.port == p) = [r] → r.cls < 4 → r.write = false →
    Maps.find (r.addr / 128) s.drc.lines = some ws →
    ∃ t, exec (.dramColumnIssue ch slot nb) s = .next t ∧ (t.dram ch).rq = (s.dram ch).rq.erase r ∧
      (t.dram ch).inflight = (s.dram ch).inflight ++ [{ r with words := ws }] ∧ (t.dram ch).wq = (s.dram ch).wq ∧
      Maps.find (dramBank s.drc.dimmGib r.line) (t.dram ch).openRows = some (dramRow s.drc.dimmGib r.line) ∧
      t.slotsTaken (40 + ch) = slot.val + 1 ∧ t.drc.lines = s.drc.lines) ∧
  (∀ (s : State) (ch : Fin 6) (slot : Fin 64) nb p r, s.slotsTaken (40 + ch) ≤ slot.val → (s.dramDrain ch).dramGrant ch slot = some p →
    ((s.dramDrain ch).dramCandidates ch).filter (fun r => r.port == p) = [r] → r.cls < 4 → r.write = true →
    ∃ t, exec (.dramColumnIssue ch slot nb) s = .next t ∧ (t.dram ch).wq = (s.dram ch).wq.erase r ∧
      (t.dram ch).rq = (s.dram ch).rq ∧ Maps.find (r.addr / 128) t.drc.lines = some r.words ∧
      (∀ l, l ≠ r.addr / 128 → Maps.find l t.drc.lines = Maps.find l s.drc.lines) ∧
      t.slotsTaken (40 + ch) = slot.val + 1 ∧
      Maps.find (dramBank s.drc.dimmGib r.line) (t.dram ch).openRows = some (dramRow s.drc.dimmGib r.line)) ∧
  (∀ (s : State) (ch : Fin 6) (slot : Fin 64) nb, slot.val < s.slotsTaken (40 + ch) →
    exec (.dramColumnIssue ch slot nb) s = .next (s.dramDrain ch)) ∧
  (∀ (s : State) (ch : Fin 6) wrong r rest, s.frozen = false → (s.dram ch).inflight = r :: rest → r.mask ≠ 0 →
    (∀ w ∈ wrong, wordErr w ≠ .ue) → bitsCorrected wrong < Nat.max 1 (s.effF Reg.DRC_SCRUB_CFG 15 8) →
    ∃ t, exec (.dramReadReturn ch wrong) s = .next t ∧ OnlyChannel s t ch { s.dram ch with inflight := rest } ∧
      Maps.find r.port t.drc.delivered = some (r.addr, r.words) ∧
      t.reg (dramReg Reg.DRC_CH_CNT_CE ch) = s.reg (dramReg Reg.DRC_CH_CNT_CE ch) + BitVec.ofNat 32 (bitsCorrected wrong) ∧
      t.reg Reg.INT_CNT_CE = s.reg Reg.INT_CNT_CE + (if bitsCorrected wrong = 0 then 0 else 1)) ∧
  (∀ (s : State) (ch : Fin 6) wrong r rest w, s.frozen = false → (s.dram ch).inflight = r :: rest →
    (List.range wrong.length).find? (fun i => wordErr (wrong.getD i 0) == .ue) = some w →
    ∃ t, exec (.dramReadReturn ch wrong) s = .next t ∧ t.frozen = true ∧ (t.dram ch).inflight = rest ∧
      (t.dram ch).state = 4 ∧ t.reg Reg.DRC_FREEZE_CAUSE = BitVec.ofNat 32 (ch.val * 16 + 1) ∧
      t.reg Reg.DRC_FREEZE_INFO =
        BitVec.ofNat 32 (r.port * 2 ^ 28 + r.cls * 2 ^ 26 + w * 2 ^ 20 + (syndrome (wrong.getD w 0)).toNat) ∧
      t.reg Reg.INT_CNT_UE = s.reg Reg.INT_CNT_UE + 1 ∧ t.integ.reports = s.integ.reports ++ [(0x10, ch.val)] ∧
      t.drc.delivered = s.drc.delivered)

/-- A refresh granted pays one refresh owed and is counted, or is a neighbour refresh, which is counted and leaves its bank closed; a rank is calibrated every 128 ms; an idle row is closed, no
other; the scrub presents its next line as a Grounds read of port 11 and wraps after the last; a parity alert freezes the
controller, with its cause and address kept, and is reported. (R298, R301, R302, R305, R306, R307.) -/
def Obligations.DramUpkeep : Prop :=
  (∀ (s : State) (ch : Fin 6) (slot : Fin 64), s.slotsTaken (40 + ch) ≤ slot.val → s.dramGrant ch slot = some 12 →
    0 < (s.dram ch).owed → (s.dram ch).state = 2 ∨ (s.dram ch).state = 4 → s.neighbourOwed ch = false ∨ s.refreshFirst ch = true →
    ∃ t, exec (.refresh ch slot) s = .next t ∧ (t.dram ch).owed = (s.dram ch).owed - 1 ∧
      t.slotsTaken (40 + ch) = slot.val + 1 ∧
      t.reg (dramReg Reg.DRC_CH_CNT_REF ch) = s.reg (dramReg Reg.DRC_CH_CNT_REF ch) + 1 ∧ t.drc.lines = s.drc.lines) ∧
  (∀ (s : State) (ch : Fin 6) (slot : Fin 64) bank row rest, s.slotsTaken (40 + ch) ≤ slot.val → s.dramGrant ch slot = some 12 →
    s.frozen = false → (s.dram ch).state = 2 → s.refreshFirst ch = false → (s.dram ch).nr = (bank, row) :: rest →
    ∃ t, exec (.refresh ch slot) s = .next t ∧ (t.dram ch).nr = rest ∧ (t.dram ch).owed = (s.dram ch).owed ∧
      Maps.find bank (t.dram ch).openRows = none ∧
      (∀ b, b ≠ bank → Maps.find b (t.dram ch).openRows = Maps.find b (s.dram ch).openRows) ∧
      t.slotsTaken (40 + ch) = slot.val + 1 ∧
      t.reg (dramReg Reg.DRC_CH_CNT_NR ch) = s.reg (dramReg Reg.DRC_CH_CNT_NR ch) + 1 ∧ t.drc.lines = s.drc.lines) ∧
  (∀ (s : State) (ch : Fin 6) (rank : Fin 2), (s.dram ch).state = 2 → Maps.getD (s.dram ch).zq rank 0 + 384000 ≤ s.now →
    ∃ t, exec (.zqCalibration ch rank) s = .next t ∧ Maps.find rank.val (t.dram ch).zq = some s.now ∧
      OnlyChannel s t ch { s.dram ch with zq := (t.dram ch).zq }) ∧
  (∀ (s : State) (ch : Fin 6) (bank : Fin 64) (cycle : Fin 1025), s.frozen = false →
    Maps.getD (s.dram ch).lastUse bank 0 + 8 * Nat.max 1 (s.effF Reg.DRC_SCHED_CFG 15 8) ≤ s.tck.start + cycle.val →
    ∃ t, exec (.rowIdleClose ch bank cycle) s = .next t ∧ Maps.find bank.val (t.dram ch).openRows = none ∧
      (∀ b, b ≠ bank.val → Maps.find b (t.dram ch).openRows = Maps.find b (s.dram ch).openRows) ∧
      OnlyChannel s t ch { s.dram ch with openRows := (t.dram ch).openRows }) ∧
  (∀ (s : State) c l, s.effB Reg.DRC_CTRL 1 = true → s.frozen = false → s.drc.scrubFrom ≤ s.now → s.drc.scrubNext * 128 < s.dramBytes → s.drc.scrubNext * 128 < 2 ^ 40 →
    dramMap s.drc.grain (s.drc.scrubNext * 128) = (c, l) →
    ∃ t, exec .dramScrub s = .next t ∧
      (t.dram c).waiting = (s.dram c).waiting ++
        [{ port := 11, cls := 3, tenant := 0, write := false, line := l / 128, since := s.now, addr := s.drc.scrubNext * 128 }] ∧
      t.drc.scrubNext = (if s.drc.scrubNext + 1 < s.dramBytes / 128 then s.drc.scrubNext + 1 else 0)) ∧
  (∀ (s : State) (ch : Fin 6) port cls (addr : BitVec 40), s.effB Reg.DRC_CTRL 0 = true → s.frozen = false →
    ∃ t, exec (.caParityAlert ch port cls addr) s = .next t ∧ t.frozen = true ∧
      t.reg Reg.DRC_FREEZE_CAUSE = BitVec.ofNat 32 (ch.val * 16 + 2) ∧ t.integ.reports = s.integ.reports ++ [(0x10, ch.val)] ∧
      t.reg Reg.DRC_FREEZE_ADDR_LO = BitVec.ofNat 32 (addr.toNat / 128 * 128) ∧ t.drc.lines = s.drc.lines)

/-- The destager takes the page first in order and the lowest free TPN, or makes the tier FULL without one; a protected page
not written since becomes NAND-resident at the next boundary through the journal and its frame is released with the group, a written one
stays in SCM; a promoted page takes the lowest frame of the emptiest stack, and its location switches at the boundary once every line is
confirmed. No other page's location changes. (R277, R278, R279, R280, R323, R324, R346, R350.) -/
def Obligations.PageMovement : Prop :=
  (∀ (s : State) page tp, Destages s → (stillDraining s).destagePick = some page → s.freeTpn = some tp →
    ∃ t, exec .destage s = .next t ∧ Maps.find page t.med.destages = some { tpn := tp } ∧
      Maps.find tp t.ntl.taken = some page ∧ t.ntl.lastDestage = s.frameNow ∧ t.win.pages = s.win.pages) ∧
  (∀ (s : State) page, Destages s → (stillDraining s).destagePick = some page → s.freeTpn = none →
    ∃ t, exec .destage s = .next t ∧ t.ntl.full = true ∧ t.tierRo = true ∧ t.getB Reg.NTL_EW 6 = true ∧
      t.win.pages = s.win.pages) ∧
  (∀ (s : State) (page : BitVec 34) d, Maps.find page.toNat s.med.destages = some d → d.written = true ∨ s.destageDone d = true →
    ∃ t, exec (.destageSwitch page) s = .next t ∧
      t = { s with med := { s.med with destages := Maps.put page.toNat { d with switch := true } s.med.destages } }) ∧
  (∀ (s : State) p (d : DestageRec) loc sb start, d.switch = true → Maps.find p s.win.pages = some loc → d.handed = some (sb, start) → d.written = false →
    s.unpinned p = true →
    ∃ t, s.switchDestage (p, d) = t ∧ Maps.find p t.win.pages = some (.nand d.tpn) ∧
      (∀ q, q ≠ p → Maps.find q t.win.pages = Maps.find q s.win.pages) ∧
      Maps.find d.tpn t.ntl.map = some { sb, start, page := p } ∧ Maps.find p t.med.destages = none ∧
      t.dur.journalSeq = s.dur.journalSeq + 2 ∧ t.dur.frees = s.dur.frees ++ [(s.dur.journalSeq + 2, loc)] ∧
      t.reg Reg.MED_CNT_DESTAGE = s.reg Reg.MED_CNT_DESTAGE + 1) ∧
  (∀ (s : State) p (d : DestageRec), d.switch = true → d.written = true ∨ s.unpinned p = false →
    (s.switchDestage (p, d)).win.pages = s.win.pages ∧ Maps.find p (s.switchDestage (p, d)).med.destages = none) ∧
  (∀ (s : State) (page : BitVec 34), s.med.promoteWant.contains page.toNat = true → Maps.has s.med.promotes page.toNat = false →
    s.inNand page.toNat = true → s.groundsOk 9 = true → s.rawFree ≠ 0 → s.poolFree ≠ 0 ∨ s.win.reserved.contains page.toNat = true →
    s.promoteKept page.toNat = true ∨ s.pastQuota ((s.pageTenant page.toNat).getD 0) 1 = false →
    Maps.has s.ntl.staged page.toNat = false →
    ∃ t, exec (.promote page) s = .next t ∧ (page.toNat, .chip) ∈ t.med.nandReads ∧ t.win.pages = s.win.pages ∧
      t.win.reserved = s.win.reserved.erase page.toNat ∧
      Maps.find page.toNat t.med.promotes = some { stack := s.emptiestStack, frame := s.lowFrame s.emptiestStack, left := 256
                                                   issued := false, repair := false, cls := s.promoteClass page.toNat } ∧
      Maps.find (s.lowFrame s.emptiestStack) (t.link s.emptiestStack).frames = some (page.toNat, s.minute16)) ∧
  (∀ (s : State) (page : BitVec 34) x, Maps.find page.toNat s.med.promotes = some x → x.left = 0 →
    ∃ t, exec (.promoteSwitch page) s = .next t ∧
      t = { s with med := { s.med with promotes := Maps.put page.toNat { x with switch := true } s.med.promotes } }) ∧
  (∀ (s : State) p (x : PromoteRec) tp, x.switch = true → Maps.find p s.win.pages = some (.nand tp) →
    ∃ t, s.switchPromote (p, x) = t ∧ Maps.find p t.win.pages = some (.scm x.stack x.frame) ∧
      (∀ q, q ≠ p → Maps.find q t.win.pages = Maps.find q s.win.pages) ∧
      Maps.find p t.med.promotes = none ∧ Maps.find p t.ntl.staged = none ∧
      t.dur.journalSeq = s.dur.journalSeq + 2 ∧ t.dur.frees = s.dur.frees ++ [(s.dur.journalSeq + 2, .nand tp)] ∧
      t.reg Reg.MED_CNT_PROMOTE = s.reg Reg.MED_CNT_PROMOTE + (if x.repair then 0 else 1))

/-- A record that passes its checks stages its page; one that is lost marks its readers MEDIA_UE, is reported and repaired from the
twin; a device failure or a timeout marks them STAGE_FAIL and is reported; a program is recorded, or costs its die a spare, a
warning and a count; an erased superblock is free and its erases counted; a suspend is counted; a Failed die is marked, shown
and warned of. (R326, R327, R328, R329, R330, R331, R333, R335, R345.) -/
def Obligations.NandDevices : Prop :=
  (∀ (s : State) (page : BitVec 35) steps evict record, s.med.nandReads.any (fun e => e.1 == page.toNat && e.2.stages) = true →
    (s.nandLoc page.toNat).isSome = true → s.nandIssued (.read page.toNat) = true → s.recordOk page.toNat record = true →
    s.ntl.copyWant = [] → Undisturbed s page.toNat →
    (s.stepsTaken page.toNat steps).rebuild = 0 ∨ s.beyondParity page.toNat = false →
    ∃ t, exec (.nandReadDone page steps evict (.read record)) s = .next t ∧ Maps.has t.ntl.staged page.toNat = true ∧
      t.med.nandReads = s.med.nandReads.filter (fun e => e.1 != page.toNat) ∧ t.win.pages = s.win.pages ∧
      t.reg Reg.NTL_CNT_READ = s.reg Reg.NTL_CNT_READ + 1 ∧
      t.reg Reg.NTL_CNT_RETRY = s.reg Reg.NTL_CNT_RETRY + BitVec.ofNat 32 (s.stepsTaken page.toNat steps).retry) ∧
  (∀ (s : State) (page : BitVec 35) steps evict id r out, page.toNat < 2 ^ 34 → WaitsAlone s page.toNat id r →
    out = .lost ∨ (∃ record, out = .read record ∧ s.recordOk page.toNat record = false) →
    (s.nandLoc page.toNat).isSome = true → s.effB Reg.MED_CTRL 2 = true → s.pairState = 1 →
    0 < s.poolFree → Maps.find page.toNat s.med.promotes = none →
    ∃ t p, exec (.nandReadDone page steps evict out) s = .next t ∧ ReadEnds t id r Code.mediaUe ∧
      t.integ.reports = s.integ.reports ++ [(0x15, s.pageDie page.toNat)] ∧
      Maps.find page.toNat t.med.promotes = some p ∧ p.repair = true ∧
      t.reg Reg.NTL_CNT_TWIN_REPAIR = s.reg Reg.NTL_CNT_TWIN_REPAIR + 1) ∧
  (∀ (s : State) (page : BitVec 35) steps evict id r, WaitsAlone s page.toNat id r → (s.nandLoc page.toNat).isSome = true →
    (s.die (s.pageDie page.toNat)).streak + 1 < 8 →
    ∃ t, exec (.nandReadDone page steps evict .status) s = .next t ∧ ReadEnds t id r Code.stageFail ∧
      (t.die (s.pageDie page.toNat)).streak = (s.die (s.pageDie page.toNat)).streak + 1 ∧
      t.integ.reports = s.integ.reports ++ [(0x15, s.pageDie page.toNat)]) ∧
  (∀ (s : State) (page : BitVec 35) id r, WaitsAlone s page.toNat id r →
    ∃ t, exec (.nandReadyTimeout page) s = .next t ∧ ReadEnds t id r Code.stageFail ∧
      t.integ.reports = s.integ.reports ++ [(0x15, s.pageDie page.toNat)] ∧
      t.med.nandReads = s.med.nandReads.filter (fun e => e.1 != page.toNat)) ∧
  (∀ (s : State) (sb : BitVec 22) (page : BitVec 17) x, Maps.find sb.toNat s.ntl.sbs = some x → x.issued page.toNat = true →
    Maps.has x.progs page.toNat = false → x.dies ≠ [] → s.nandIssued (.prog sb.toNat page.toNat) = true →
    (s.die (x.dieOf page.toNat)).suspended = false →
    ∃ t y, exec (.nandProgramDone sb page true) s = .next t ∧ Maps.find sb.toNat t.ntl.sbs = some y ∧
      Maps.has y.progs page.toNat = true ∧ (t.die (x.dieOf page.toNat)).streak = 0) ∧
  (∀ (s : State) (sb : BitVec 22) (page : BitVec 17) x d, Maps.find sb.toNat s.ntl.sbs = some x → x.issued page.toNat = true →
    Maps.has x.progs page.toNat = false → x.dies ≠ [] → s.nandIssued (.prog sb.toNat page.toNat) = true →
    x.dieOf page.toNat = d → (s.die d).suspended = false → (s.die d).streak + 1 < 8 →
    ∃ t, exec (.nandProgramDone sb page false) s = .next t ∧ (t.die d).spares = (s.die d).spares - 1 ∧
      t.reg Reg.NTL_CNT_PROG_FAIL = s.reg Reg.NTL_CNT_PROG_FAIL + 1 ∧ t.getB Reg.NTL_EW 4 = true) ∧
  (∀ (s : State) (sb : BitVec 22) x, Maps.find sb.toNat s.ntl.sbs = some x → x.erasing = true → s.nandIssued (.erase sb.toNat) = true →
    (∀ d ∈ x.dies, (s.die d).suspended = false) →
    ∃ t, exec (.nandEraseDone sb none) s = .next t ∧ Maps.find sb.toNat t.ntl.sbs = none ∧
      (∀ k, k ≠ sb.toNat → Maps.find k t.ntl.sbs = Maps.find k s.ntl.sbs) ∧
      Maps.find sb.toNat t.ntl.erases = some (Maps.getD s.ntl.erases sb.toNat 0 + 1)) ∧
  (∀ (s : State) (die : BitVec 10), s.effB Reg.NTL_CTRL 2 = true → s.dieBusy die.toNat = true → (s.die die.toNat).suspended = false →
    (s.die die.toNat).suspends < 16 → s.readStarves die.toNat = true →
    ∃ t, exec (.nandSuspend die) s = .next t ∧ (t.die die.toNat).suspends = (s.die die.toNat).suspends + 1 ∧
      (t.die die.toNat).suspended = true ∧ (∀ d, d ≠ die.toNat → t.die d = s.die d) ∧
      Maps.find (die.toNat / 64) t.ntl.suspended = some (Maps.getD s.ntl.suspended (die.toNat / 64) 0 + 1) ∧
      t.ntl.sbs = s.ntl.sbs ∧ t.med = s.med) ∧
  (∀ (s : State) (die : BitVec 10), s.allDies.contains die.toNat = true → (s.die die.toNat).failed = false →
    ∃ t, exec (.dieFailed die) s = .next t ∧ (t.die die.toNat).failed = true ∧ t.getB Reg.NTL_EW 7 = true ∧
      t.getB ((if die.toNat % 64 < 32 then Reg.NTL_CH_DIE_FAIL_LO else Reg.NTL_CH_DIE_FAIL_HI) + 16 * (die.toNat / 64))
        (die.toNat % 32) = true)

/-- An incomplete row is filled with filler to its end; the superblock that FOLD, collection or wear levelling picks is
erased when nothing in it is valid, and else its valid record is read and then copied into the stream, the map unchanged
until the copy is protected; the scan reads the next record; a checkpoint writes the changed segments and, with their parity, the new root,
which counts from the Placement of its journal group on. (R322, R325, R335, R336, R337, R338.) -/
def Obligations.NandHousekeeping : Prop :=
  (∀ (s : State) (sb : BitVec 22) x, Maps.find sb.toNat s.ntl.sbs = some x → x.closed = false → x.cws % Nat.max 1 x.rowCws ≠ 0 →
    x.rowOld (Nat.max 1 (s.effF Reg.NTL_GC_CFG 23 16)) s.frameNow = true →
    ∃ t y, exec (.stripeRowClose sb) s = .next t ∧ Maps.find sb.toNat t.ntl.sbs = some y ∧ y.cws % Nat.max 1 x.rowCws = 0 ∧
      x.cws ≤ y.cws ∧ y.cws < x.cws + Nat.max 1 x.rowCws ∧
      y.recs = x.recs ++ fillerRecs x.seq x.cws (y.cws - x.cws) ∧ (∀ r ∈ fillerRecs x.seq x.cws (y.cws - x.cws), r.kind = .filler) ∧
      (∀ k, k ≠ sb.toNat → Maps.find k t.ntl.sbs = Maps.find k s.ntl.sbs) ∧ t.ntl.map = s.ntl.map ∧ t.med = s.med) ∧
  (∀ (s : State) sb x, s.ntl.state = 2 → 3 * s.slcLimit < 4 * s.slcUsed ∨ s.ntl.lastDestage + 1 < s.frameNow → Idle s sb x →
    leastSb (fun e => e.2.seq) (s.ntl.sbs.filter (fun e => e.2.stream == 0 && e.2.closed && !e.2.victim)) = some (sb, x) →
    Empties s .fold 3 1 sb) ∧
  (∀ (s : State) sb x, s.ntl.state = 2 → s.streamFree 1 < Nat.max 1 (s.effF Reg.NTL_GC_CFG 7 0) → Idle s sb x →
    leastSb (fun e => (s.validRecs e.1).length * 2 ^ 64 + e.2.seq)
      (s.ntl.sbs.filter (fun e => (e.2.stream == 1 || e.2.stream == 2) && e.2.closed && !e.2.victim &&
        e.2.recs.any (fun r => !s.recValid e.1 r))) = some (sb, x) →
    Empties s .garbageCollection 4 2 sb) ∧
  (∀ (s : State) sb x, s.ntl.state = 2 → s.effB Reg.NTL_CTRL 1 = true → Idle s sb x →
    leastSb (fun e => Maps.getD s.ntl.erases e.1 0)
      (s.ntl.sbs.filter (fun e => (e.2.stream == 1 || e.2.stream == 2) && e.2.closed && !e.2.victim &&
        s.ntl.erases.any (fun y => y.1 / 65536 == e.1 / 65536 && !inSlc s y.1 &&
          decide (Maps.getD s.ntl.erases e.1 0 + s.effF Reg.NTL_WEAR_CFG 15 0 < y.2)))) = some (sb, x) →
    Empties s .wearRelocation 4 2 sb) ∧
  (∀ (s : State) (page : BitVec 35) steps evict record e w r tp p nsb x,
    s.med.nandReads.filter (fun y => y.1 == page.toNat) = [(page.toNat, .copy w.requester)] → s.nandIssued (.read page.toNat) = true →
    (s.nandLoc page.toNat).isSome = true → s.readLoc page.toNat = some e → s.recordOk page.toNat record = true →
    (s.stepsTaken page.toNat steps).rebuild = 0 ∨ s.beyondParity page.toNat = false → Undisturbed s page.toNat →
    s.ntl.copyWant = [w] → w.sb = e.sb → w.start = e.start → (s.validRecs w.sb).find? (fun r => r.start == w.start) = some r →
    r.kind = .data tp p → s.ntl.moves = [] → Maps.has s.ntl.map tp = true → s.openSb w.stream = some (nsb, x) → s.sbRoom x = true →
    ∃ t, exec (.nandReadDone page steps evict (.read record)) s = .next t ∧
      t.ntl.moves = [{ tpn := tp, fromSb := w.sb, fromStart := r.start, sb := nsb, start := x.cws }] ∧ t.ntl.copyWant = [] ∧
      t.ntl.map = s.ntl.map ∧ t.ntl.staged = s.ntl.staged) ∧
  (∀ (s : State) tp e, s.ntl.state = 2 → s.effB Reg.NTL_CTRL 0 = true → s.ntl.scanFrom ≤ s.now → s.groundsOk 10 = true →
    s.sqr.tierShut = false → s.ntl.map.find? (fun e => decide (s.ntl.scanNext ≤ e.1)) = some (tp, e) → s.med.nandReads.contains (e.page, .scan) = false →
    ∃ t, exec .backgroundScan s = .next t ∧ t.ntl.scanNext = tp + 1 ∧ t.ntl.map = s.ntl.map ∧
      t.med = { s.med with nandReads := s.med.nandReads ++ [(e.page, .scan)] }) ∧
  (∀ (s : State), s.ntl.state = 2 → s.ntl.ckptDue = false → Nat.max 1 (s.effF Reg.NTL_CKPT_CFG 15 0) ≤ s.ntl.destaged →
    s.groundsOk 11 = true → s.sqr.tierShut = false → s.ntl.rootGroup = none → s.ntl.changed = [] → s.ntl.newSegments = [] →
    ∃ t, exec .mapCheckpoint s = .next t ∧ t.ntl.rootGroup = some (s.dur.journalSeq + 1) ∧ t.ntl.nextSeq = s.ntl.seq ∧
      t.ntl.destaged = 0 ∧ t.ntl.ckptFrame = s.frameNow ∧ t.ntl.ckptSeq = s.ntl.ckptSeq ∧ t.ntl.ckptDue = true ∧
      t.ntl.segments = s.ntl.segments ∧ t.dur.journalSeq = s.dur.journalSeq + 1) ∧
  (∀ (s : State) g, s.ntl.rootGroup = some g → s.dur.journalOpen.contains g = false →
    ∃ t, s.settleCkpt = t ∧ t.ntl.rootGroup = none ∧ t.ntl.ckptSeq = s.ntl.nextSeq ∧ t.ntl.ckptDue = false ∧
      t.ntl.newSegments = [] ∧ (∀ n loc, s.ntl.newSegments = [(n, loc)] → Maps.find n t.ntl.segments = some loc)) ∧
  (∀ (s : State) n loc v x, s.ntl.state = 2 → s.ntl.ckptDue = false → Nat.max 1 (s.effF Reg.NTL_CKPT_CFG 15 0) ≤ s.ntl.destaged →
    s.groundsOk 11 = true → s.sqr.tierShut = false → s.ntl.rootGroup = none → s.ntl.changed = [(n, true)] → s.ntl.newSegments = [] →
    (s.startWork 11).layOut 5 3 (.segment n) ((s.startWork 11).segmentRecord n) = (some loc, v) →
    Maps.find loc.1 v.ntl.sbs = some x → x.protects loc.2 19 = false →
    ∃ t, exec .mapCheckpoint s = .next t ∧ t.ntl.newSegments = [(n, loc)] ∧ t.ntl.changed = [] ∧ t.ntl.ckptDue = true ∧
      t.ntl.segments = s.ntl.segments)

namespace Sys2Proof.Claims

open Sys2Proof Sys2Proof.Machine

/-- A frame of the twin link is the next of its bundle, undamaged, at a unit that has not yielded (R393, R404). -/
abbrev InOrder (s : State) (h : TwinHead) : Prop :=
  h.crcOk = true ∧ h.seq = (s.bundle h.one).rxSeq ∧ s.twn.yieldedAt = none

/-- The bundle as it is after the next frame has been taken from it. -/
def taken (s : State) (h : TwinHead) : BundleRec :=
  { s.bundle h.one with heard := s.now, rxSeq := (s.bundle h.one).rxSeq + 1 }

/-- The frame was taken, and of the pair's state nothing else changed but what `f` says. -/
def Took (s t : State) (h : TwinHead) (f : Twn → Twn) : Prop :=
  t = { s with twn := f (s.setBundle h.one (taken s h)).twn }

/-- A line of the twin's lies in a page of SCM whose extent is held Allocated to its tenant. -/
def Homed (s : State) (l : Nat × Nat × List Byte) : Prop :=
  s.holdsFor (l.1 / 32768) l.2.1 = true ∧ ∃ m f, Maps.find (pageOfLine l.1) s.win.pages = some (.scm m f)

/-- The mirror entry of a line of the twin's. -/
def mirrorEntry (s : State) (a : ArrivedRec) (l : Nat × Nat × List Byte) : PbEntry :=
  { line := l.1, data := l.2.2, cipher := (s.lineKey l.1).isSome, tenant := l.2.1, qpn := 0, wseq := a.frame, epoch := a.epoch
    mirror := true, frame := a.frame, shipped := true, mirrored := true, cls := a.cls }

/-- What arrives in an INTENT frame. -/
def slotArrived (slot : BitVec 14) (ls : List TwinLine) (ep : Word) : ArrivedRec :=
  { frame := 0, lines := ls.map (fun l => (l.line.toNat, l.tenant.toNat, l.data)), epoch := ep.toNat
    cls := Cls.ofNum ((ls.head?.map (fun l => l.cls)).getD 3), intent := some slot.toNat }

/-- No intent slot of this unit's waits for room in the twin (R375, R400). -/
abbrev NoSlotWaits (s : State) : Prop :=
  ∀ e ∈ s.dur.intents, e.2.headed = false ∨ e.2.shipped = true ∨ e.2.fromTwin = true

/-- The pair-role record says this state, and the sides that SERVES says. -/
def Recorded (t : State) (state : Nat) : Prop := ∃ r, t.twn.role = some r ∧ r.state = state

/-- The sides served. -/
def Serves (t : State) (a b : Bool) : Prop := t.getB Reg.TWN_STATUS 26 = a ∧ t.getB Reg.TWN_STATUS 27 = b

/-- The command raises a change of role at the fault-signalling point, for the next tick boundary, and does nothing else (R28). -/
def Raises (s : State) (c : Instr) (x : PairSignal) : Prop :=
  ∃ t, exec c s = .next t ∧ x ∈ t.twn.signals ∧ t = { s with twn := { s.twn with signals := t.twn.signals } }

/-- A property of every frame of the twin link that has an effect of its own. -/
def Frames (P : Instr → Prop) (h : TwinHead) : Prop :=
  (∀ runs ep cls, P (.mirror h runs ep cls)) ∧ (∀ fs os is free, P (.confirm h fs os is free)) ∧ (∀ o, P (.outcome h o)) ∧
  (∀ slot ls ep, P (.intent h slot ls ep)) ∧ (∀ sb ep drill hold, P (.giveup h sb ep drill hold false)) ∧
  (∀ sb r, P (.reclaim h sb r)) ∧ (∀ sb, P (.switch h sb)) ∧ (∀ b, P (.resync h b))

end Sys2Proof.Claims

/-- A damaged frame is asked for again and one out of order is dropped, without effect; the lines of MIRROR and INTENT frames arrive
and are admitted to the mirror partition, or kept apart while their extent is not Allocated to their tenant; CONFIRM,
OUTCOME, INTENT, GIVEUP, RECLAIM, SWITCH and RESYNC have the effects of their rows. (R102, R359, R368, R375, R393, R401, R404, R405,
R415, R416, R418.) -/
def Obligations.TwinFrames : Prop :=
  (∀ (s : State) (h : TwinHead), h.crcOk = false → Frames (fun c =>
    exec c s = .next (s.setBundle h.one { s.bundle h.one with naks := (s.bundle h.one).naks + 1 })) h) ∧
  (∀ (s : State) (h : TwinHead), h.crcOk = true → h.seq ≠ (s.bundle h.one).rxSeq → Frames (fun c =>
    exec c s = .next (s.setBundle h.one { s.bundle h.one with heard := s.now })) h) ∧
  (∀ (s : State) (h : TwinHead) runs (ep : Word) (cls : Fin 4), InOrder s h →
    ∃ t, exec (.mirror h runs ep cls) s = .next t ∧ Took s t h (fun w => { w with arrived := w.arrived ++
      [{ frame := frameName h.one h.seq, epoch := ep.toNat, cls := Cls.ofNum cls, lines := runs.flatMap runLines }] })) ∧
  (∀ (s : State) a l, s.twn.arrived = [a] → a.lines = [l] → a.intent = none → Homed s l →
    ∃ t, exec .mirrorAdmit s = .next t ∧ t.twn.arrived = [] ∧ t.dur.pb = s.dur.pb ++ [mirrorEntry s a l] ∧
      t.reg Reg.DUR_CNT_MIRROR_RX = s.reg Reg.DUR_CNT_MIRROR_RX + 1) ∧
  (∀ (s : State) a l, s.twn.arrived = [a] → a.lines = [l] → s.holdsFor (l.1 / 32768) l.2.1 = false →
    ∃ t, exec .mirrorAdmit s = .next t ∧ t.twn.arrived = [] ∧ t.dur.pb = s.dur.pb ∧ t.twn.heldLines = s.twn.heldLines ++ [a]) ∧
  (∀ (s : State) (e : BitVec 27) a l, s.twn.heldLines = [a] → a.lines = [l] → a.intent = none → l.1 / 32768 = e.toNat → Homed s l →
    ∃ t, exec (.heldMirrorPlace e) s = .next t ∧ t.twn.heldLines = [] ∧ t.dur.pb = s.dur.pb ++ [mirrorEntry s a l]) ∧
  (∀ (s : State) (h : TwinHead) one seq l free, InOrder s h → Maps.find (frameName one seq) s.twn.sentFrames = some [l] → NoSlotWaits s →
    ∃ t, exec (.confirm h [(one, seq)] [] [] free) s = .next t ∧ Maps.find (frameName one seq) t.twn.sentFrames = none ∧
      t.twn.credit = free ∧ t.twn.shipped = 0 ∧
      t.reg Reg.DUR_CNT_MIRRORED = s.reg Reg.DUR_CNT_MIRRORED +
        (if s.dur.pb.any (fun e => e.isFor l.1 l.2.1 l.2.2 false && !e.mirrored) then 1 else 0) ∧
      ∀ e ∈ t.dur.pb, e.isFor l.1 l.2.1 l.2.2 false = true → e.mirrored = true) ∧
  (∀ (s : State) (h : TwinHead) o, InOrder s h →
    ∃ t x, exec (.outcome h o) s = .next t ∧ t.dur.twinOutcomes = keepOutcome s.dur.twinOutcomes x ∧ x.bond = o.bond.toNat ∧
      x.kind = o.kind ∧ x.seq = o.seq.toNat ∧ x.pos = o.pos.toNat ∧ x.va = o.va.toNat ∧ x.ops = [o.op0, o.op1] ∧
      x.orig = o.orig ∧ x.epoch = o.epoch.toNat ∧ x.confirmed = true ∧ Bound t s.metaStack (.outcome false x.key)) ∧
  (∀ (s : State) (h : TwinHead) slot ls (ep : Word), InOrder s h →
    ∃ t, exec (.intent h slot ls ep) s = .next t ∧ Took s t h (fun w => { w with arrived := w.arrived ++ [slotArrived slot ls ep] })) ∧
  (∀ (s : State) a l p k, s.twn.arrived = [a] → a.lines = [l] → a.intent = some p → Homed s l →
    Maps.lowestFree s.dur.intents 16384 = some k →
    ∃ t, exec .mirrorAdmit s = .next t ∧ t.twn.arrived = [] ∧
      Maps.find k t.dur.intents =
        some { lines := [(l.1, l.2.2)], tenant := l.2.1, epoch := a.epoch, fromTwin := true, peer := p, cls := a.cls } ∧
      t.dur.pb = s.dur.pb ++ [{ mirrorEntry s a l with intent := some k }]) ∧
  (∀ (s : State) (h : TwinHead) sb ep dr hd, InOrder s h → s.pairState = 1 ∨ s.pairState = 2 → s.getB Reg.TWN_STATUS 20 = false →
    ∃ t, exec (.giveup h sb ep dr hd false) s = .next t ∧ t.twn.takeoverDue = some (s.twn.takeoverDue.getD 2) ∧
      t.reg Reg.TWN_LAST_EVENT = BitVec.ofNat 32 (2 * 2 ^ 28 + sideNum (!s.sideB) * 2 ^ 26)) ∧
  (∀ (s : State) (h : TwinHead) sb ep dr hd, h.crcOk = true → h.seq = (s.bundle h.one).rxSeq → s.twn.giveupAt.isSome = true →
    ∃ t, exec (.giveup h sb ep dr hd true) s = .next t ∧ .lost false ∈ t.twn.signals ∧ t.bundle h.one = taken s h) ∧
  (∀ (s : State), (s.actPair (.lost false)).getB Reg.TWN_STATUS 21 = true ∧ Serves (s.actPair (.lost false)) false false) ∧
  (∀ (s : State) (h : TwinHead) sb (r : DWord), InOrder s h → s.pairState = 4 →
    ∃ t, exec (.reclaim h sb r) s = .next t ∧ t.twn.reclaim = some (sb, r.toNat) ∧ t.bundle h.one = taken s h) ∧
  (∀ (s : State) (h : TwinHead) sb, InOrder s h → s.twn.gap = true → sb = s.sideB →
    ∃ t, exec (.switch h sb) s = .next t ∧ Took s t h (fun w => { w with switchLeft := s.twn.switchLeft - 1 })) ∧
  (∀ (s : State) (h : TwinHead) (e : BitVec 27) (tn : BitVec 12) sb pc, InOrder s h →
    ∃ t, exec (.resync h (.extent e tn sb pc)) s = .next t ∧
      Maps.find e.toNat t.twn.metaExtents = some { tenant := tn.toNat, sideB := sb, pinCount := pc }) ∧
  (∀ (s : State) (h : TwinHead), InOrder s h →
    (∃ t, exec (.resync h .metaEnd) s = .next t ∧ Took s t h (fun w => { w with metaIn := true })) ∧
    (∃ t, exec (.resync h .copyEnd) s = .next t ∧ Took s t h (fun w => { w with copyIn := true })) ∧
    (∃ t, exec (.resync h .copyDone) s = .next t ∧ Took s t h (fun w => { w with copyDone := true })))

/-- ACK releases and NAK counts the replayed frames; a bundle that goes down or comes up loses no frame; with both down LinkHold is
raised for the next tick boundary, and with one up again Paired; a heartbeat is sent every 2 ticks and taken with its credit; a sideband
toggle of 64 CCLK or more is alive or the yield pattern; its silence is a fault of the sideband while the link is up, and else the twin
is silent. (R393, R394, R395, R396, R397, R400, R405, R411, R563.) -/
def Obligations.TwinLinkUpkeep : Prop :=
  (∀ (s : State) one seq, (s.bundle one).unacked.any (fun r => r.seq == seq) = true → (s.bundle one).held = [] →
    ∃ t, exec (.twinAck one seq) s = .next t ∧
      t = s.setBundle one { s.bundle one with unacked := (s.bundle one).unacked.filter (fun r => decide (seq < r.seq)) }) ∧
  (∀ (s : State) one seq, ∃ t, exec (.twinNak one seq) s = .next t ∧
    (t.bundle one).unacked = (s.bundle one).unacked.map (fun r => if seq ≤ r.seq then { r with replays := r.replays + 1 } else r) ∧
    t.bundle (!one) = s.bundle (!one) ∧
    t.reg Reg.TWN_CNT_REPLAY = s.reg Reg.TWN_CNT_REPLAY +
      BitVec.ofNat 32 ((s.bundle one).unacked.filter (fun r => decide (seq ≤ r.seq))).length) ∧
  (∀ (s : State) one ue, (s.bundle one).up = true → (s.bundle (!one)).up = true →
    ue = true ∨ (s.bundle one).heard + s.silentTicks ≤ s.now + 1 ∨ (∃ r ∈ (s.bundle one).unacked, 8 ≤ r.replays) → s.dur.solo = false →
    ∃ t, exec (.bundleDown one ue) s = .next t ∧ (t.bundle one).up = false ∧ (t.bundle (!one)).up = true ∧
      t.getB Reg.TWN_STATUS (if one then 23 else 22) = false ∧ t.integ.reports = s.integ.reports ++ [(0x1B, sideNum one)] ∧
      ∀ f, Sent s f → Sent t f) ∧
  (∀ (s : State) one, (s.bundle one).up = true → (s.bundle (!one)).up = false → s.twn.sbSilent = false → s.pairState = 1 →
    s.dur.solo = false → ∃ t, exec (.bundleDown one true) s = .next t ∧ (t.bundle one).up = false ∧ .hold ∈ t.twn.signals ∧
      t.twn.silentAt = some (s.now + 1) ∧ ∀ f, Sent s f → Sent t f) ∧
  (∀ (s : State), s.pairState = 1 → s.linkUp = false →
    (s.actPair .hold).pairState = 2 ∧ (s.actPair .hold).twn = { s.twn with holdAt := s.now }) ∧
  (∀ (s : State) one v, (s.bundle one).validSince = some v → (s.bundle one).up = false → (one && s.sqr.twl1) = false →
    Nat.max v (s.bundle one).downAt + 64 ≤ s.now + 1 →
    ∃ t, exec (.bundleUp one) s = .next t ∧ (t.bundle one).up = true ∧ t.getB Reg.TWN_STATUS (if one then 23 else 22) = true ∧
      ((s.bundle (!one)).up = false → s.pairState = 2 → .paired ∈ t.twn.signals ∧ t.twn.silentAt = none) ∧
      ∀ f, Sent s f → Sent t f) ∧
  (∀ (s : State), s.pairState = 2 → s.linkUp = true → (s.actPair .paired).pairState = 1 ∧ (s.actPair .paired).twn = s.twn) ∧
  (∀ (s : State), s.twn.yieldedAt = none → s.linkUp = true → s.twn.hbSent = none ∨ s.twn.hbSentTick + 2 ≤ s.now →
    ∃ t, exec .heartbeatSend s = .next t ∧ t = { s with twn := { s.twn with hbSent := some s.ownHb, hbSentTick := s.now } }) ∧
  (∀ (s : State) one (hb : TwinHb), s.sec.startup = 5 → NoSlotWaits s →
    ∃ t, exec (.heartbeat one true hb) s = .next t ∧ t.twn.hb = some hb ∧ t.twn.credit = hb.free ∧ t.twn.shipped = 0 ∧
      (t.bundle one).heard = s.now ∧ t.reg Reg.TWN_CNT_HB_RX = s.reg Reg.TWN_CNT_HB_RX + 1) ∧
  (∀ (s : State) held, held < 64 → exec (.sidebandToggle held) s = .next s) ∧
  (∀ (s : State) held, 64 ≤ held → s.now - s.twn.sbLast ≤ 2 →
    ∃ t, exec (.sidebandToggle held) s = .next t ∧ t.getB Reg.TWN_STATUS 25 = true ∧ t.getB Reg.TWN_STATUS 24 = false ∧
      t.getB Reg.TWN_STATUS 19 = false ∧
      t = { s with bar := t.bar, twn := { s.twn with sbLast := s.now, sbRun := 0, sbSilent := false } }) ∧
  (∀ (s : State) held, 64 ≤ held → 12 ≤ s.now - s.twn.sbLast → s.now - s.twn.sbLast ≤ 20 → 1 ≤ s.twn.sbRun → s.getB Reg.TWN_STATUS 24 = false →
    s.getB Reg.TWN_STATUS 20 = false → s.pairState = 1 →
    ∃ t, exec (.sidebandToggle held) s = .next t ∧ t.getB Reg.TWN_STATUS 24 = true ∧ t.getB Reg.TWN_STATUS 25 = false ∧
      t.twn.takeoverDue = some (s.twn.takeoverDue.getD 3)) ∧
  (∀ (s : State), s.twn.sbSilent = false → s.twn.sbLast + 600 < s.now → s.linkUp = true →
    ∃ t, exec .sidebandSilent s = .next t ∧ t.twn.sbSilent = true ∧ t.getB Reg.TWN_STATUS 19 = true ∧
      t.getB Reg.TWN_STATUS 25 = false) ∧
  (∀ (s : State), s.twn.sbSilent = false → s.twn.sbLast + 600 < s.now → s.linkUp = false → s.getB Reg.TWN_STATUS 19 = false →
    s.getB Reg.TWN_STATUS 20 = false → s.pairState = 2 →
    ∃ t, exec .sidebandSilent s = .next t ∧ t.twn.sbSilent = true ∧ t.twn.takeoverDue = some (s.twn.takeoverDue.getD 4))

/-- Each command, where its conditions hold, raises its change of role at the fault-signalling point, and the change, made at the tick
boundary, leaves the unit in the state of the pair that its rule names, with SOLO mode, the sides served, the epoch, the role record and
the counters of that rule; a yield ends every waiting request, and the rest of every long response, and sends GIVEUP on a bundle that is up. (R28, R403, R405, R406, R412,
R413, R415, R416, R418, R421, R423.) -/
def Obligations.RoleChanges : Prop :=
  (∀ (s : State), s.twn.yieldDue = true → s.twn.yieldedAt = none → s.inRun = true → Raises s .yieldUnit (.yield false false)) ∧
  (∀ (s : State) d, s.twn.drill = some d → d.stopped = true → s.twn.yieldedAt = none → (∀ e ∈ s.dur.pb, e.mirror = true ∨ e.mirrored = true) →
    Raises s .drillYield (.yield true d.hold)) ∧
  (∀ (s : State) drill hold, s.twn.yieldedAt = none →
    ∃ t, s.actPair (.yield drill hold) = t ∧ t.twn.yieldedAt = some s.now ∧ t.twn.stopped = true ∧ t.pairState = 5 ∧ Recorded t 5 ∧
      (s.twn.bundle0.up = true → Sent t (.giveup s.sideB s.dur.epoch drill hold)) ∧
      ∀ id r, Maps.find id s.cle.reqs = some r → r.waits = true → ∀ r', Maps.find id t.cle.reqs = some r' →
        r'.rest = none ∧ ((∃ w k, r.st = .waiting w k) ∨ r.st = .held → r'.st = .ended)) ∧
  (∀ (s : State) k, s.twn.takeoverDue = some k →
    ∃ t, exec .takeoverStart s = .next t ∧ .takeover ∈ t.twn.signals ∧
      t = { s with twn := { s.twn with takeoverDue := none, signals := t.twn.signals } }) ∧
  (∀ (s : State), s.pairState = 1 ∨ s.pairState = 2 → s.getB Reg.TWN_STATUS 20 = false →
    ∃ t g, s.actPair .takeover = t ∧ t.pairState = 4 ∧ t.dur.solo = true ∧ t.dur.epoch = (s.dur.epoch + 1) % 2 ^ 32 ∧
      t.twn.takeover = some (s.now, g) ∧ Recorded t 4 ∧ t.reg Reg.TWN_CNT_TAKEOVER = s.reg Reg.TWN_CNT_TAKEOVER + 1) ∧
  (∀ (s : State) tt g, s.twn.takeover = some (tt, g) → s.dur.journalOpen.contains g = false → Raises s .takeoverPublish .serve) ∧
  (∀ (s : State) tt g, s.twn.takeover = some (tt, g) →
    ∃ t, s.actPair .serve = t ∧ t.twn.takeover = none ∧ Serves t true true ∧
      t.reg Reg.TWN_TAKEOVER_TIME = BitVec.ofNat 32 (min (s.now - tt) 65535 * 65536 + min (s.now - tt) 65535)) ∧
  (∀ (s : State) tt, s.twn.silentAt = some tt → s.pairState = 2 → s.effB Reg.TWN_CTRL 0 = true → tt + s.soloDelay ≤ s.now + 1 →
    Raises s .soloDelayExpiry .solo) ∧
  (∀ (s : State) tt, s.twn.silentAt = some tt → s.pairState = 2 →
    ∃ t, s.actPair .solo = t ∧ t.pairState = 3 ∧ t.dur.solo = true ∧ Recorded t 1) ∧
  (∀ (s : State), s.frameDue = true → s.resyncDue = true → s.pairState = 6 ∨ s.groundsOk 12 = true → Raises s .resyncStart .resync) ∧
  (∀ (s : State) ask marked, s.linkUp = true → s.twn.resync = none → s.pairState = 4 → s.twn.asked = some (ask, marked) → s.twinState = 6 →
    ∃ t n, s.actPair .resync = t ∧ t.twn.resync = some { full := ask || s.twn.needFull, pages := n } ∧
      t.twn.asked = none ∧ t.dur.solo = false ∧ t.getF Reg.TWN_RESYNC_STATUS 29 28 = 2) ∧
  (∀ (s : State), s.pairState = 6 → s.twn.metaIn = true → s.getB Reg.TWN_RESYNC_STATUS 27 = false → Raises s .metadataDone .metadata) ∧
  (∀ (s : State), s.pairState = 6 → s.twn.metaIn = true → s.getB Reg.TWN_RESYNC_STATUS 27 = false →
    ∃ t, s.actPair .metadata = t ∧ t.win.extents = s.twn.metaExtents ∧ t.win.windows = s.twn.metaWindows ∧
      (∀ k x, Maps.find k s.twn.metaTenants = some x → ∃ y, Maps.find k t.win.tenants = some y ∧ y.encrypt = x.encrypt ∧
        y.risAllowed = x.risAllowed ∧ y.scmQuota = x.scmQuota ∧ y.pinQuota = x.pinQuota ∧ y.tileQuota = x.tileQuota ∧ y.key = x.key) ∧
      t.getB Reg.TWN_RESYNC_STATUS 27 = true ∧ t.dur.journalSeq = s.dur.journalSeq + 3) ∧
  (∀ (s : State), s.pairState = 6 → s.getB Reg.TWN_RESYNC_STATUS 27 = true → s.twn.copyIn = true → s.twn.copyDone = false →
    s.copyPending = false →
    ∃ t, exec .resyncCopyDone s = .next t ∧ t.twn.copyDone = true ∧ t.twn.needFull = false ∧
      t.getF Reg.TWN_RESYNC_STATUS 29 28 = 3) ∧
  (∀ (s : State), s.pairState = 6 → s.twn.copyDone = true → s.twn.reclaim = none → s.frameDue = true → s.effB Reg.TWN_CTRL 2 = false →
    s.twn.yieldedAt = none →
    ∃ t, exec .reclaimSend s = .next t ∧ t.twn.reclaim = some (s.sideB, s.nextTick + 3000) ∧
      Sent t (.reclaim s.sideB (s.nextTick + 3000))) ∧
  (∀ (s : State) b n, s.twn.reclaim = some (b, n) → n ≤ s.nextTick → s.pairState = 4 ∨ s.pairState = 6 →
    Raises s .returnSwitch .switchSides) ∧
  (∀ (s : State) b n, s.twn.reclaim = some (b, n) → s.pairState = 4 ∨ s.pairState = 6 →
    ∃ t, s.actPair .switchSides = t ∧ t.pairState = 1 ∧ t.twn.reclaim = none ∧ t.twn.gap = decide (s.pairState = 6) ∧
      Serves t (!s.sideB) s.sideB ∧ Recorded t 1 ∧ t.reg Reg.TWN_CNT_RETURN = s.reg Reg.TWN_CNT_RETURN + 1) ∧
  (∀ (s : State), s.twn.gap = true → s.twn.switchLeft = 0 → s.twn.arrived = [] → s.missQps = [] →
    ∃ t, exec .returnAdmit s = .next t ∧ t.twn.gap = false ∧ t.win = s.win) ∧
  (∀ (s : State), s.sec.startup = 4 → s.sec.stopped = false → s.twn.hb = none → s.effB Reg.TWN_CTRL 1 = true →
    s.twn.waitFrom + Nat.max 1 (s.effF Reg.TWN_LINK_CFG 23 16) * 3000000 ≤ s.now + 1 → Raises s .pairWaitExpiry .alone) ∧
  (∀ (s : State) r, s.roleDue = true → s.twn.hb = none → s.effB Reg.TWN_CTRL 1 = true → s.twn.role = some r → r.state = 1 →
    ∃ t, s.actPair .alone = t ∧ t.inRun = true ∧ t.pairState = 3 ∧ t.dur.solo = true ∧
      Serves t (decide (r.serves % 2 = 1)) (decide (r.serves / 2 % 2 = 1))) ∧
  (∀ (s : State) one hb, s.sec.startup = 4 → ∃ t, exec (.heartbeat one true hb) s = .next t ∧ .decide ∈ t.twn.signals ∧ t.twn.hb = some hb) ∧
  (∀ (s : State) r hb, s.roleDue = true → s.twn.hb = some hb → s.twn.role = some r → r.state = 1 → hb.pairId = r.pairId →
    hb.state = 1 ∨ hb.state = 2 ∨ hb.state = 3 →
    ∃ t, s.actPair .decide = t ∧ t.inRun = true ∧ t.pairState = 1 ∧ t.dur.solo = false ∧ Serves t (!s.sideB) s.sideB ∧ Recorded t 1 ∧
      t.dur.epoch = (max s.dur.epoch hb.epoch + 1) % 2 ^ 32) ∧
  (∀ (s : State), s.frameDue = true → 999 ≤ s.twn.skew → s.summaryDiffers = true → s.pairState = 1 → s.getB Reg.TWN_STATUS 18 = false →
    ∃ t, exec .cmdSkewDetect s = .next t ∧ t.getB Reg.TWN_STATUS 18 = true ∧ t.twn = s.twn ∧
      t.reg Reg.TWN_LAST_EVENT = BitVec.ofNat 32 (10 * 2 ^ 28 + sideNum s.sideB * 2 ^ 26))

/-- A reported fault is counted by its level and shown as the last; a Contain or Yield fault raises its signal, the first
Yield-level one is kept and the MCP's own halt it; the detector test, the clock check, the SRAM scrub and an injection do
what their rows say; a failed self-test stops start-up with the control port up; memories, recovery, control port and service
follow in order. (R27, R29, R30, R421, R427, R428, R431, R435, R442, R445, R590.) -/
def Obligations.FaultsAndStartup : Prop :=
  (∀ (s : State) (code : BitVec 8) (source : BitVec 12), s.integ.reports = [] → faultLevel code.toNat = 1 →
    ∃ t, exec (.faultReport [.fault code source] none) s = .next t ∧ t.integ.reports = [] ∧
      t.reg Reg.INT_CNT_NOTE = s.reg Reg.INT_CNT_NOTE + 1 ∧ t.reg Reg.INT_LAST_FAULT = faultWord code.toNat source.toNat ∧
      t.integ.signals = s.integ.signals) ∧
  (∀ (s : State) (code : BitVec 8) (source : BitVec 12), s.integ.reports = [] → faultLevel code.toNat = 2 → s.twn.yieldedAt = none →
    ∃ t, exec (.faultReport [.fault code source] none) s = .next t ∧ t.integ.reports = [] ∧
      t.reg Reg.INT_CNT_CONTAIN = s.reg Reg.INT_CNT_CONTAIN + 1 ∧ t.reg Reg.INT_LAST_FAULT = faultWord code.toNat source.toNat ∧
      t.integ.signals = s.integ.signals ++ [(code.toNat, 2, source.toNat)] ∧ bitOf t.mcp.irqPend 0 = true) ∧
  (∀ (s : State) (code : BitVec 8) (source : BitVec 12), s.integ.reports = [] → faultLevel code.toNat = 3 → s.twn.yieldedAt = none →
    s.inRun = true → s.reg Reg.INT_FIRST_FAULT = 0 →
    ∃ t, exec (.faultReport [.fault code source] none) s = .next t ∧ t.integ.reports = [] ∧
      t.reg Reg.INT_CNT_YIELD = s.reg Reg.INT_CNT_YIELD + 1 ∧ t.reg Reg.INT_FIRST_FAULT = faultWord code.toNat source.toNat ∧
      t.integ.signals = s.integ.signals ++ [(code.toNat, 3, source.toNat)] ∧ t.getB Reg.INT_STATUS 29 = true ∧
      (code = 0x06 ∨ code = 0x07 → t.mcp.halted = true)) ∧
  (∀ (s : State) (id : BitVec 12) wrong item dirty, s.integ.reports = [] → wordErr wrong = .ce →
    ∃ t, exec (.faultReport [.sram id wrong item dirty] none) s = .next t ∧ t.integ.reports = [] ∧
      t.reg Reg.INT_CNT_CE = s.reg Reg.INT_CNT_CE + 1 ∧ t.reg Reg.INT_CNT_NOTE = s.reg Reg.INT_CNT_NOTE + 1 ∧
      t.reg Reg.INT_LAST_FAULT = faultWord 0x01 id.toNat ∧ t.integ.signals = s.integ.signals) ∧
  (∀ (s : State) (d : BitVec 12), ∃ t, exec (.detectorTest (some d)) s = .next t ∧
    t.reg Reg.INT_CNT_DET_TEST = s.reg Reg.INT_CNT_DET_TEST + 1 ∧ t.integ.reports = s.integ.reports ++ [(0x18, d.toNat)]) ∧
  (∀ (s : State) (f : Fin 4), exec (.clockCheck (some f)) s =
    .next { s with integ := { s.integ with reports := s.integ.reports ++ [(0x17, f.val)] } }) ∧
  (∀ (s : State), exec (.detectorTest none) s = .next s ∧ exec (.clockCheck none) s = .next s) ∧
  (∀ (s : State) p, s.getB Reg.INT_CTRL 0 = true → s.integ.scrubFrom ≤ s.now →
    ∃ t, exec (.sramScrub none p true) s = .next t ∧
      t.integ.scrubFrom = s.nextPass s.integ.scrubFrom (Nat.max 1 (s.getF Reg.INT_SCRUB_CFG 15 0) * 3000) ∧ t.getF Reg.INT_SCRUB_STATUS 9 0 = 0 ∧
      t.getF Reg.INT_SCRUB_STATUS 31 16 = (s.getF Reg.INT_SCRUB_STATUS 31 16 + 1) % 65536 ∧ OtherRegs s t [Reg.INT_SCRUB_STATUS]) ∧
  (∀ (s : State) (p : BitVec 10), s.getB Reg.INT_CTRL 0 = true → s.integ.scrubFrom ≤ s.now →
    ∃ t, exec (.sramScrub none p false) s = .next t ∧ t.getF Reg.INT_SCRUB_STATUS 9 0 = min p.toNat 999 ∧
      t.getF Reg.INT_SCRUB_STATUS 31 16 = s.getF Reg.INT_SCRUB_STATUS 31 16 ∧ OtherRegs s t [Reg.INT_SCRUB_STATUS]) ∧
  (∀ (s : State), s.debug = 2 → sramId (s.getF Reg.INT_INJECT 11 0) = true → s.getF Reg.INT_INJECT 11 0 ≠ 0x071 →
    ∃ t, exec .inject s = .next t ∧ t.getB Reg.INT_INJECT 28 = false ∧
      t.integ.armed = some (s.getF Reg.INT_INJECT 11 0, max 1 (s.getF Reg.INT_INJECT 30 29), min 79 (s.getF Reg.INT_INJECT 22 16))) ∧
  (∀ (s : State), s.debug = 0 → ∃ t, exec .inject s = .next t ∧ t.getB Reg.INT_INJECT 28 = true ∧ t.integ = s.integ) ∧
  (∀ (s : State) f, s.sqr.mrst = false → s.slotGood 1 = true → s.sec.startup = 1 → s.sec.stopped = false →
    ∃ t, exec (.startup (.boot (some f))) s = .next t ∧ t.sec.stopped = true ∧ t.getB Reg.INT_STATUS 28 = true ∧
      t.getB Reg.INT_STATUS 27 = false ∧ t.getB Reg.CTL_STATUS 23 = true ∧ (0x19, f.first.toNat) ∈ t.integ.reports) ∧
  (∀ (s : State) present trained chans (c : Fin 6), s.sqr.mrst = false → s.slotGood 1 = true → s.sec.startup = 2 → s.sec.stopped = false →
    s.dimmRow = true → ∃ t, exec (.startup (.memories present trained true chans)) s = .next t ∧
      (t.dram c).state = (if bitOf chans c then 2 else 5) ∧ t.drc.grain = clamp 8 16 (s.getF Reg.DRC_ILV_CFG 4 0) ∧
      ∀ m : Fin 16, (t.link m).state = (if bitOf present m then 1 else 0)) ∧
  (∀ (s : State) present trained dimms chans (c : Fin 6), s.sqr.mrst = false → s.slotGood 1 = true → s.sec.startup = 2 →
    s.sec.stopped = false → s.dimmRow = false ∨ dimms = false →
    ∃ t, exec (.startup (.memories present trained dimms chans)) s = .next t ∧ (t.dram c).state = 5) ∧
  (∀ (s : State) dies probes, s.sqr.mrst = false → s.slotGood 1 = true → s.sec.startup = 2 → s.sec.stopped = false → s.memoriesUp = true →
    (∀ e ∈ s.med.links, e.2.foreign = false) → s.dur.intents.length < 2 ^ 27 →
    ∃ t, exec (.startup (.recovery dies true true probes)) s = .next t ∧ t.sec.startup = 3 ∧ t.dur.intents = [] ∧
      t.dur.epoch = (s.dur.epoch + 1) % 2 ^ 32 ∧ t.sideB = s.getB Reg.TOP_STRAP 0 ∧ t.getF Reg.DUR_RECOVERY 31 28 = 8) ∧
  (∀ (s : State) (sp wd : Fin 16), s.sqr.mrst = false → s.slotGood 1 = true → 3 ≤ s.sec.startup ∨ s.sec.stopped = true →
    ∃ t, exec (.startup (.control (BitVec.ofNat _ sp.val) (BitVec.ofNat _ wd.val))) s = .next t ∧
      t.getB Reg.CTL_STATUS 23 = true ∧ t.getF Reg.CTL_STATUS 31 28 = sp.val ∧ t.getF Reg.CTL_STATUS 27 24 = wd.val ∧
      OtherRegs s t [Reg.CTL_STATUS]) ∧
  (∀ (s : State), s.sqr.mrst = false → s.slotGood 1 = true → s.sec.startup = 3 → s.sec.stopped = false → s.getB Reg.CTL_STATUS 23 = true →
    s.ringOn 0 = true → s.getB Reg.TOP_STRAP 1 = false → s.win.tenants = [] →
    ∃ t, exec (.startup .service) s = .next t ∧ t.sec.startup = 4 ∧ t.sec.dark = false ∧ t.twn.waitFrom = s.now ∧
      .decide ∈ t.twn.signals)

namespace Sys2Proof.Claims

open Sys2Proof Sys2Proof.Machine

/-- A well-formed submission of a kind is in the mailbox; a signed kind names this device and the present nonce (R483, R484). -/
abbrev Submitted (s : State) (kind : Nat) : Prop :=
  s.sec.submitted = true ∧ s.mboxKind = kind ∧ s.mboxFormat = true ∧
  (mboxSigned kind = true → s.mbox 8 16 = (upTo 16).map s.otpByte ∧
    ∀ i, i < 8 → leNat (s.mbox (24 + 4 * i) 4) = (s.reg (Reg.SEC_NONCE + 4 * i)).toNat)

/-- The same, signed under the active owner key where its kind is signed (R483, R485). -/
abbrev Verified (s : State) (kind : Nat) : Prop :=
  Submitted s kind ∧ (mboxSigned kind = true → s.ownerVerifies (s.mbox 0 192) (s.mbox 192 64) = true)

/-- The submission is answered: RESULT, the answer's words, DONE, no submission left (R482, R484). -/
def Answered (t : State) (result words : Nat) : Prop :=
  t.getF Reg.SEC_MBOX_CTRL 19 16 = result ∧ t.getF Reg.SEC_MBOX_CTRL 15 8 = words ∧ t.getB Reg.SEC_MBOX_CTRL 3 = true ∧
  t.getB Reg.SEC_MBOX_CTRL 2 = false ∧ t.sec.submitted = false

/-- OTP bits from an offset on are programmed: no bit goes from 1 to 0 (R449). -/
def Programmed (s t : State) (off : Nat) (bs : List Byte) : Prop :=
  ∀ i, i < bs.length → t.efl.otp.byte (off + i) = s.efl.otp.byte (off + i) ||| bs.getD i 0

/-- A flash operation of firmware may begin for a requester: allowed, nothing running or suspended, the block not protected, not
the bank the MCP runs from (R455–R457). -/
abbrev FlashFree (s : State) (rq : Requester) : Prop :=
  s.flashAllowed rq = true ∧ s.eflBusy false = false ∧ s.efl.suspendedOp = none ∧ s.writeProtected s.eflBank s.eflRow = false ∧
  (rq = .mcp → s.pcBank ≠ some s.eflBank)

/-- The operation has ended: a flag of EFL_STATUS is set and MCP source 2 pends (R452). -/
def FlashEnded (t : State) (flag : Nat) : Prop := t.getB Reg.EFL_STATUS flag = true ∧ bitOf t.mcp.irqPend 2 = true

end Sys2Proof.Claims

/-- A signed submission that does not verify is answered 4 and one the lifecycle forbids 5, with flash, OTP, keys and status
unchanged; PROVISION, DEBUG_TOKEN, SEAL, RETURN, RDP_RAISE, RDP_REGRESS, KEK_INSTALL, OWNER_ROTATE, EVR_CLEAR and DEBUG_CLOSE
are answered 0 and leave OTP bits, keys, option row, flash and debug state as their rows say. The result of a KEK body that does
not decrypt is a free one of the codes (log 108). (R449, R464, R465, R479, R482, R483, R485, R486, R552.) -/
def Obligations.LifecycleCommands : Prop :=
  (∀ (s : State) ok, ∀ c ∈ [((0x02 : Nat), Instr.debugToken), (0x03, .seal ok), (0x04, .returnUnit ok), (0x05, .rdpRaise ok),
      (0x06, .rdpRegress ok), (0x0A, .kekInstall), (0x0B, .ownerRotate ok), (0x0C, .evrClear)],
    Submitted s c.1 → s.ownerVerifies (s.mbox 0 192) (s.mbox 192 64) = false →
    ∃ t, exec c.2 s = .next t ∧ Answered t 4 0 ∧ t.efl = s.efl ∧ t.win = s.win ∧
      t.reg Reg.SEC_STATUS = s.reg Reg.SEC_STATUS ∧ t.reg Reg.SEC_PERMS = s.reg Reg.SEC_PERMS) ∧
  (∀ (s : State) ok, ∀ c ∈ [((0x02 : Nat), Instr.debugToken), (0x03, .seal ok), (0x04, .returnUnit ok), (0x0A, .kekInstall),
      (0x0B, .ownerRotate ok)],
    Verified s c.1 → s.lifecycle = 0 ∨ s.lifecycle = 3 → ∃ t, exec c.2 s = .next t ∧ Answered t 5 0 ∧ t.efl = s.efl ∧
      t.win = s.win ∧ t.reg Reg.SEC_STATUS = s.reg Reg.SEC_STATUS) ∧
  (∀ (s : State) ok, Verified s 0x01 → s.lifecycle ≠ 0 →
    ∃ t, exec (.provision ok) s = .next t ∧ Answered t 5 0 ∧ t.efl = s.efl) ∧
  (∀ (s : State), Verified s 0x01 → s.lifecycle = 0 →
    ∃ t, exec (.provision true) s = .next t ∧ Answered t 0 0 ∧ Programmed s t 0xA0 s.mboxBody ∧ Programmed s t 0x1A4 [1]) ∧
  (∀ (s : State), Verified s 0x02 → s.owned = true → s.rdp ≠ 2 →
    ∃ t, exec .debugToken s = .next t ∧ Answered t 0 0 ∧ t.debug = 1 ∧
      t.reg Reg.SEC_PERMS = BitVec.ofNat 32 (leNat s.mboxBody) ∧
      (s.lifecycle = 2 → t.win.keySlots = [] ∧ (0x1A, 0) ∈ t.integ.reports) ∧ (s.lifecycle = 1 → t.win = s.win)) ∧
  (∀ (s : State), Verified s 0x03 → s.lifecycle = 1 →
    ∃ t, exec (.seal true) s = .next t ∧ Answered t 0 0 ∧ Programmed s t 0x1A4 [2]) ∧
  (∀ (s : State), Verified s 0x04 → s.owned = true →
    ∃ t, exec (.returnUnit true) s = .next t ∧ Answered t 0 0 ∧ Programmed s t 0x1A4 [4] ∧ t.win.keySlots = [] ∧
      t.sec.kek = none ∧ t.getB Reg.SEC_STATUS 22 = false ∧
      ∀ b r, 0x18000 ≤ r → r < 0x20000 → t.rowErased b r = true) ∧
  (∀ (s : State), Verified s 0x05 → s.lifecycle ≠ 0 → leNat s.mboxBody = 1 →
    ∃ t, exec (.rdpRaise true) s = .next t ∧ Answered t 0 0 ∧ t.efl = { s.efl with option := false, optionUndef := false }) ∧
  (∀ (s : State), Verified s 0x05 → s.lifecycle ≠ 0 → leNat s.mboxBody = 2 →
    ∃ t, exec (.rdpRaise true) s = .next t ∧ Answered t 0 0 ∧ Programmed s t 0x1A8 [1]) ∧
  (∀ (s : State), Verified s 0x06 → s.rdp = 1 →
    ∃ t, exec (.rdpRegress true) s = .next t ∧ Answered t 0 0 ∧ t.win.keySlots = [] ∧ t.sec.kek = none ∧
      t.efl.option = true ∧ t.efl.otp = s.efl.otp ∧ ∀ b r, r < 0x40000 → t.rowErased b r = true) ∧
  (∀ (s : State) k, Verified s 0x0A → s.owned = true → (∀ e ∈ s.win.tenants, e.2.encrypt = false) → s.kekOf s.mboxBody = some k →
    ∃ t, exec .kekInstall s = .next t ∧ Answered t 0 0 ∧ t.sec.kek = some k ∧ t.getB Reg.SEC_STATUS 22 = true) ∧
  (∀ (s : State), Verified s 0x0A → s.owned = true → (∀ e ∈ s.win.tenants, e.2.encrypt = false) → s.kekOf s.mboxBody = none →
    ∃ t r, exec .kekInstall s = .next t ∧ Answered t r 0 ∧ 1 ≤ r ∧ r ≤ 9 ∧ t.sec.kek = s.sec.kek) ∧
  (∀ (s : State), Verified s 0x0A → s.owned = true → (∃ e ∈ s.win.tenants, e.2.encrypt = true) →
    ∃ t, exec .kekInstall s = .next t ∧ Answered t 5 0 ∧ t.sec.kek = s.sec.kek) ∧
  (∀ (s : State) k, Verified s 0x0B → s.owned = true → s.getF Reg.SEC_STATUS 25 24 = k → k < 3 →
    ∃ t, exec (.ownerRotate true) s = .next t ∧ Answered t 0 0 ∧ Programmed s t (0xA0 + 64 * (k + 1)) s.mboxBody ∧
      Programmed s t 0x1A0 [BitVec.ofNat 8 (2 ^ k)]) ∧
  (∀ (s : State), Verified s 0x0C → s.lifecycle ≠ 0 →
    ∃ t, exec .evrClear s = .next t ∧ Answered t 0 0 ∧ t.evr.clearing = some 0 ∧ t.getB Reg.EVR_STATUS 30 = true ∧
      t.getF Reg.EVR_STATUS 10 0 = 0 ∧ t.reg Reg.EVR_SEQ_NEXT = s.reg Reg.EVR_SEQ_NEXT) ∧
  (∀ (s : State), Verified s 0x10 →
    ∃ t, exec .debugClose s = .next t ∧ Answered t 0 0 ∧ t.debug = 0 ∧ t.reg Reg.SEC_PERMS = 0)

/-- RECOVERY_DATA puts its bytes in SRAM, RECOVERY_RUN starts the MCP at the entry of an image that verifies; FW_BEGIN erases
the other bank's slot, FW_DATA programs its bytes there, FW_END of an image that verifies leaves a valid RECORD with a BOOT_SEQ one
above; QUOTE answers its words; a claim takes a free mailbox, its owner releases it; a fresh nonce changes the nonce registers alone
(its bytes are free values). (R466, R467, R468, R471, R472, R481, R482, R484, R485.) -/
def Obligations.FirmwareSubmissions : Prop :=
  (∀ (s : State), Verified s 0x07 → s.bootFail = true → leNat (s.mboxBody.take 4) + (s.mboxBody.length - 4) ≤ 0x100000 →
    ∃ t, exec .recoveryData s = .next t ∧ Answered t 0 0 ∧
      SramHolds t (0x100000 + leNat (s.mboxBody.take 4)) (s.mboxBody.drop 4)) ∧
  (∀ (s : State) h n, Verified s 0x08 → s.bootFail = true → s.keyInput 0x100000 32 = h → s.fwHeaderOk h = true →
    fwField h 16 4 = n → s.imageVerifies h (s.keyInput 0x100000 (32 + n)) (s.keyInput (0x100020 + n) 64) = true →
    ∃ t, exec .recoveryRun s = .next t ∧ Answered t 0 0 ∧ t.mcp.pc = 0x100020 + fwField h 20 4 ∧ t.mcp.running = true ∧
      t.mcp.halted = false ∧ t.mcp.sram = s.mcp.sram ∧ t.getB Reg.SEC_BOOT_STATUS 30 = true) ∧
  (∀ (s : State) h, Verified s 0x08 → s.bootFail = true → s.keyInput 0x100000 32 = h → s.fwHeaderOk h = false →
    ∃ t, exec .recoveryRun s = .next t ∧ Answered t 4 0 ∧ t.mcp = s.mcp) ∧
  (∀ (s : State), Verified s 0x40 →
    ∃ t, exec (.quote false) s = .next t ∧ Answered t 0 (ceilDiv (s.quote s.mboxBody).length 4) ∧ t.efl = s.efl ∧ t.win = s.win) ∧
  (∀ (s : State), Verified s 0x41 →
    ∃ t, exec (.fwBegin false true) s = .next t ∧ Answered t 0 0 ∧ t.sec.install = some s.otherBank ∧
      (∀ r, r < 0x8000 → t.rowErased s.otherBank r = true) ∧ t.bankWords (!s.otherBank) = s.bankWords (!s.otherBank)) ∧
  (∀ (s : State) b o bs, Verified s 0x42 → s.sec.install = some b → leNat (s.mboxBody.take 4) = o → s.mboxBody.drop 4 = bs →
    o % 32 = 0 → o + bs.length ≤ 0xFE000 → (∀ i, i < ceilDiv bs.length 32 → s.rowErased b ((0x2000 + o) / 32 + i) = true) →
    ∃ t, exec (.fwData false true) s = .next t ∧ Answered t 0 0 ∧
      ∀ i, i < bs.length → t.flashByte b (0x2000 + o + i) = bs.getD i 0) ∧
  (∀ (s : State) b h n, Verified s 0x43 → s.sec.install = some b → s.bankBytes b 0x2000 32 = h → s.fwHeaderOk h = true →
    fwField h 16 4 = n → s.imageVerifies h (s.bankBytes b 0x2000 (32 + n)) (s.bankBytes b (0x2020 + n) 64) = true →
    s.rowErased b 0 = true →
    ∃ t, exec (.fwEnd false true) s = .next t ∧ Answered t 0 0 ∧ t.sec.install = none ∧ t.recordValid b = true ∧
      leNat (t.bankBytes b 4 4) = (leNat (s.bankBytes (!b) 4 4) + 1) % 2 ^ 32) ∧
  (∀ (s : State) ok, ∀ c ∈ [((0x40 : Nat), Instr.quote true), (0x41, .fwBegin true ok), (0x43, .fwEnd true ok)], Verified s c.1 →
    ∃ t, exec c.2 s = .next t ∧ Answered t 9 0 ∧ t.efl = s.efl) ∧
  (∀ (s : State) rq, s.getF Reg.SEC_MBOX_CTRL 31 30 = 0 →
    ∃ t, exec (.mboxClaim rq) s = .next t ∧ t.getF Reg.SEC_MBOX_CTRL 31 30 = Requester.mboxOwner rq ∧
      OtherRegs s t [Reg.SEC_MBOX_CTRL] ∧ t = { s with bar := t.bar }) ∧
  (∀ (s : State) rq, rq ≠ .mcp → s.getF Reg.SEC_MBOX_CTRL 31 30 = Requester.mboxOwner rq → s.getB Reg.SEC_MBOX_CTRL 3 = true →
    ∃ t, exec (.mboxRelease rq) s = .next t ∧ t.getF Reg.SEC_MBOX_CTRL 31 30 = 0 ∧ t.getB Reg.SEC_MBOX_CTRL 3 = false ∧
      OtherRegs s t [Reg.SEC_MBOX_CTRL] ∧ t = { s with bar := t.bar }) ∧
  (∀ (s : State), ∃ t, exec .newNonce s = .next t ∧ OtherRegs s t ((List.range 8).map (fun i => Reg.SEC_NONCE + 4 * i)) ∧
    t = { s with bar := t.bar, free := s.free + 32 })

/-- A free flash takes a PROGRAM of an erased row, an ERASE of the sector, an OTP bit of FW_SVN; an occupied row is refused
with NOT_ERASED and a requester without the right with DENIED, without change; an end stores the row's words, or the OTP bit,
or erases the sector's rows, and nothing else, or leaves the row undefined; an erase suspends and resumes; a held operation
starts; a read returns the word, or 0 when denied. (R452, R455, R456, R457, R459, R461, R462, R464, R470.) -/
def Obligations.FlashOperations : Prop :=
  (∀ (s : State) rq, FlashFree s rq → s.rowErased s.eflBank s.eflRow = true →
    ∃ t o, exec (.flashProgram rq false) s = .next t ∧ t.efl = { s.efl with op := some o } ∧ o.kind = 0 ∧ o.bankB = s.eflBank ∧
      o.row = s.eflRow ∧ o.recorder = false ∧ t.getB Reg.EFL_STATUS 31 = true ∧
      o.words = (List.range 4).map (fun i => BitVec.ofNat 64 ((s.reg (Reg.EFL_ROW + 8 * i)).toNat +
        (s.reg (Reg.EFL_ROW + 8 * i + 4)).toNat * 2 ^ 32))) ∧
  (∀ (s : State) rq, FlashFree s rq → s.rowErased s.eflBank s.eflRow = false →
    ∃ t, exec (.flashProgram rq false) s = .next t ∧ t.efl = s.efl ∧ t.getB Reg.EFL_STATUS 5 = true) ∧
  (∀ (s : State) rq same, s.flashAllowed rq = false → ∀ c ∈ [Instr.flashProgram rq same, .flashErase rq same, .flashSuspend rq,
      .flashResume rq, .otpProgram rq same],
    ∃ t, exec c s = .next t ∧ t.efl = s.efl ∧ t.getB Reg.EFL_STATUS 9 = true ∧ OtherRegs s t [Reg.EFL_STATUS]) ∧
  (∀ (s : State) rq, FlashFree s rq →
    ∃ t, exec (.flashErase rq false) s = .next t ∧ t.getB Reg.EFL_STATUS 31 = true ∧
      t.efl = { s.efl with op := some { kind := 1, bankB := s.eflBank, row := s.eflRow / 256 * 256 } }) ∧
  (∀ (s : State) rq o, s.flashAllowed rq = true → s.efl.op = some o → o.kind = 1 → o.recorder = false →
    ∃ t, exec (.flashSuspend rq) s = .next t ∧ t.efl.suspendedOp = some o ∧ t.getB Reg.EFL_STATUS 30 = true ∧
      t.efl.wordsA = s.efl.wordsA ∧ t.efl.wordsB = s.efl.wordsB) ∧
  (∀ (s : State) rq o, s.flashAllowed rq = true → s.eflBusy false = false → s.efl.suspendedOp = some o →
    ∃ t, exec (.flashResume rq) s = .next t ∧ t.efl = { s.efl with op := some o, suspendedOp := none } ∧
      t.getB Reg.EFL_STATUS 30 = false) ∧
  (∀ (s : State) rq bit, s.flashAllowed rq = true → s.eflBusy false = false → s.efl.suspendedOp = none →
    s.getF Reg.EFL_ADDR 18 5 = bit → s.getF Reg.EFL_ADDR 22 19 = 0 → 3456 ≤ bit → bit ≤ 3711 →
    ∃ t, exec (.otpProgram rq false) s = .next t ∧ t.efl = { s.efl with op := some { kind := 4, bankB := false, row := bit } }) ∧
  (∀ (s : State) o, s.efl.op = some o → o.recorder = false → o.kind = 0 →
    ∃ t, exec (.flashProgramDone true) s = .next t ∧ FlashEnded t 0 ∧
      (∀ i, i < 4 → Maps.rd (freshWord o.bankB) (t.bankWords o.bankB) (4 * o.row + i) = o.words.getD i (BitVec.allOnes 64)) ∧
      (∀ k, k / 4 ≠ o.row →
        Maps.rd (freshWord o.bankB) (t.bankWords o.bankB) k = Maps.rd (freshWord o.bankB) (s.bankWords o.bankB) k) ∧
      t.bankWords (!o.bankB) = s.bankWords (!o.bankB)) ∧
  (∀ (s : State) o, s.efl.op = some o → o.recorder = false → o.kind = 4 →
    ∃ t, exec (.flashProgramDone true) s = .next t ∧ FlashEnded t 0 ∧
      Programmed s t (o.row / 8) [BitVec.ofNat 8 (2 ^ (o.row % 8))] ∧ t.efl.wordsA = s.efl.wordsA ∧ t.efl.wordsB = s.efl.wordsB) ∧
  (∀ (s : State) o, s.efl.op = some o → o.recorder = false → o.kind = 0 →
    ∃ t, exec (.flashProgramDone false) s = .next t ∧ FlashEnded t 3 ∧ Maps.has (t.bankUndef o.bankB) o.row = true) ∧
  (∀ (s : State) o, s.efl.op = some o → o.recorder = false → o.kind = 1 →
    ∃ t, exec (.erasePulseDone true) s = .next t ∧ FlashEnded t 0 ∧
      (∀ r, o.row ≤ r → r < o.row + 256 → t.rowErased o.bankB r = true) ∧
      (∀ r, r < o.row ∨ o.row + 256 ≤ r → t.rowErased o.bankB r = s.rowErased o.bankB r)) ∧
  (∀ (s : State) o, s.efl.op = some o → o.recorder = false → o.kind = 1 → s.getF Reg.EFL_ERASE_PROGRESS 6 0 + 1 < 80 →
    ∃ t, exec (.erasePulseDone false) s = .next t ∧ t.efl = s.efl ∧
      t.getF Reg.EFL_ERASE_PROGRESS 6 0 = s.getF Reg.EFL_ERASE_PROGRESS 6 0 + 1 ∧ OtherRegs s t [Reg.EFL_ERASE_PROGRESS]) ∧
  (∀ (s : State) o, s.efl.op = none → s.efl.heldGo = some o →
    ∃ t, exec .heldGoStart s = .next t ∧ t.efl = { s.efl with op := some o, heldGo := none }) ∧
  (∀ (s : State) rq v e, s.readDenied rq = true →
    ∃ t, exec (.flashRead rq v e) s = .next t ∧ t.reg Reg.EFL_RD_DATA_LO = 0 ∧ t.reg (Reg.EFL_RD_DATA_LO + 4) = 0 ∧
      t.getB Reg.EFL_STATUS 9 = true ∧ t.efl = s.efl) ∧
  (∀ (s : State) rq v e, s.readDenied rq = false → s.flashBusy (bitOf v 23) = false →
    ∃ t, exec (.flashRead rq v e) s = .next t ∧ ∀ i, i < 4 →
      fld (t.reg Reg.EFL_RD_DATA_LO) (8 * i + 7) (8 * i) = (s.flashByte (bitOf v 23) (fld v 22 3 * 8 + i)).toNat ∧
      fld (t.reg (Reg.EFL_RD_DATA_LO + 4)) (8 * i + 7) (8 * i) = (s.flashByte (bitOf v 23) (fld v 22 3 * 8 + 4 + i)).toNat)

namespace Sys2Proof.Claims

open Sys2Proof Sys2Proof.Machine

/-- An off sequence has begun for a cause bit of SEQ_CAUSE, and MCP source 4 pends (R505). -/
def OffBegun (t : State) (cause : Nat) : Prop :=
  t.phase = 3 ∧ t.getB Reg.SEQ_CAUSE cause = true ∧ bitOf t.mcp.irqPend 4 = true

/-- A slot: enabled, and qualified. -/
abbrev Slot (t : State) (n : Nat) (on good : Bool) : Prop := t.slotOn n = on ∧ t.slotGood n = good

/-- An off sequence is over: every slot to be disabled is, with the power-good pin low where it is used, and FAULT_N has been held low
for 10 µs where the chip holds it (R505, R506). -/
abbrev OffDone (s : State) (us : Nat) (pg : BitVec 32) : Prop :=
  s.phase = 3 ∧ (s.getB Reg.SEQ_STATUS 26 = true → 10 ≤ us) ∧
  ∀ n : Fin 32, bitOf s.sqr.offSlots n = true → s.slotKept n = true ∨
    (s.slotOn n = false ∧ (s.getB (Reg.SEQ_SLOT_CFG + 16 * n.val) 3 = true → bitOf pg n = false))

/-- A power state is requested: BUSY, the target, MCP source 9 (R512). -/
def Requested (t : State) (p : Nat) : Prop :=
  t.getB Reg.PWR_STATUS 28 = true ∧ t.sqr.target = some p ∧ bitOf t.mcp.irqPend 9 = true ∧ t.getF Reg.PWR_STATUS 27 24 = 0

/-- A transaction of a controller port has ended with a RESULT and a count of bytes (R518). -/
def BusEnded (t : State) (n result bytes : Nat) : Prop :=
  t.getF (twbReg Reg.TWB_STATUS n) 29 26 = result ∧ t.getF (twbReg Reg.TWB_STATUS n) 8 0 = bytes ∧
  t.getB (twbReg Reg.TWB_STATUS n) 30 = true ∧ t.getB (twbReg Reg.TWB_STATUS n) 31 = false ∧ (t.twbPort n).running = false ∧
  bitOf t.mcp.irqPend 5 = true

/-- A read command of the target port is served with bytes and the PEC over its message, and changes nothing but the last command
shown. -/
def Replies (c : Instr) (code : Nat) (bytes : State → List Byte) : Prop :=
  ∀ (s : State), s.twtAwake = true → ∃ t, exec c s = .next t ∧ t.twb.reply = bytes s ∧ t.getF Reg.TWB_TWT_STATUS 31 24 = code ∧
    t.twb.replyPec = crc8 ([s.twtAddr false, BitVec.ofNat 8 code, s.twtAddr true] ++ bytes s) ∧
    OtherRegs s t [Reg.TWB_TWT_STATUS] ∧
    t = { s with bar := t.bar, twb := { s.twb with reply := t.twb.reply, replyPec := t.twb.replyPec } }

/-- The PEC of a write of the target port, and the PECs with which it is served: the right one, or none. -/
def WritePec (s : State) (code : Nat) (body : List Byte) : Byte := crc8 ([s.twtAddr false, BitVec.ofNat 8 code] ++ body)
abbrev PecGood (s : State) (code : Nat) (body : List Byte) (pec : Option Byte) : Prop :=
  pec = none ∨ pec = some (WritePec s code body)

/-- A write with a wrong PEC is counted, and nothing else. -/
def PecCounted (s : State) (c : Instr) : Prop :=
  ∃ t, exec c s = .next t ∧ t.getF Reg.TWB_TWT_STATUS 23 16 = min (s.getF Reg.TWB_TWT_STATUS 23 16 + 1) 255 ∧
    OtherRegs s t [Reg.TWB_TWT_STATUS] ∧ t = { s with bar := t.bar }

end Sys2Proof.Claims

/-- Each input has the effect of its rule: the causes of an off sequence set their bit of SEQ_CAUSE and begin it from phase
On; a qualified input and FAULT_N high begin an on sequence from Off; a press wakes, posts or powers off; MRST_N resets MCP,
control and data plane and leaves the slots, media, flash and OTP; VAON_IN's loss leaves media, flash and OTP. (R487, R504,
R505, R507, R508, R509, R510, R511.) -/
def Obligations.PowerInputs : Prop :=
  (∀ (s : State), s.phase = 2 → ∃ t, exec .inputOkLow s = .next t ∧ OffBegun t 0 ∧ t.getB Reg.SEQ_STATUS 28 = false ∧
    t.slotGood 0 = false ∧ t.sqr.offSlots = s.reg Reg.SEQ_EN_STATE) ∧
  (∀ (s : State), s.phase = 0 → s.sqr.tableDue = false → s.getB Reg.SEQ_STATUS 27 = true →
    ∃ t, exec .inputOkQualified s = .next t ∧ t.phase = 1 ∧ t.slotGood 0 = true ∧ t.getB Reg.SEQ_STATUS 28 = true ∧
      t.reg Reg.SEQ_TIME = 0) ∧
  (∀ (s : State), s.phase = 2 → s.getB Reg.SEQ_STATUS 26 = false →
    ∃ t, exec .faultNLow s = .next t ∧ OffBegun t 1 ∧ t.getB Reg.SEQ_STATUS 27 = false ∧ t.getB Reg.SEQ_STATUS 26 = false) ∧
  (∀ (s : State), s.phase = 0 → s.sqr.tableDue = false → s.getB Reg.SEQ_STATUS 26 = false → s.slotGood 0 = true →
    ∃ t, exec .faultNHigh s = .next t ∧ t.phase = 1 ∧ t.getB Reg.SEQ_STATUS 27 = true) ∧
  (∀ (s : State), ∃ t, exec .pwrbtnPress s = .next t ∧ t.sqr.pressed = true ∧ t.getB Reg.SEQ_STATUS 24 = true ∧
    OtherRegs s t [Reg.SEQ_STATUS]) ∧
  (∀ (s : State), s.sqr.pressed = true → s.phase = 4 →
    ∃ t, exec .pwrbtnRelease s = .next t ∧ t.sqr.pressed = false ∧ t.sqr.wake = true ∧ t.getB Reg.SEQ_STATUS 24 = false) ∧
  (∀ (s : State), s.sqr.pressed = true → s.phase = 5 → s.getB Reg.PWR_WAKE 16 = true → s.mayStart = true →
    ∃ t, exec .pwrbtnRelease s = .next t ∧ t.sqr.pressed = false ∧ t.phase = 1 ∧ t.getF Reg.PWR_WAKE 1 0 = 1 ∧
      t.getB Reg.TOP_RST_CAUSE 3 = true) ∧
  (∀ (s : State), s.sqr.pressed = true → s.phase = 5 → s.getB Reg.PWR_WAKE 16 = true → s.mayStart = false →
    ∃ t, exec .pwrbtnRelease s = .next t ∧ t.sqr.wake = true ∧ t.phase = 5) ∧
  (∀ (s : State), s.sqr.pressed = true → s.phase = 2 →
    ∃ t, exec .pwrbtnRelease s = .next t ∧ t.sqr.pressed = false ∧ t.phase = 2 ∧ bitOf t.mcp.irqPend 4 = true ∧
      (CanAnnounce s → Announced s t 0x17 0 0 0 0 0)) ∧
  (∀ (s : State), s.sqr.pressed = true → s.phase = 2 → ∃ t, exec .longpress s = .next t ∧ OffBegun t 2 ∧ t.sqr.pressed = false) ∧
  (∀ (s : State) rq, s.phase = 2 → ∃ t, exec (.shutdown rq) s = .next t ∧ OffBegun t 5 ∧ t.sqr.standby = false) ∧
  (∀ (s : State), ∃ t, exec .mrstAssert s = .next t ∧ t.sqr.mrst = true ∧ t.cle = {} ∧ t.trn = {} ∧ t.dur.pb = [] ∧ t.sec.startup = 0 ∧
    t.med.store = s.med.store ∧ t.efl.otp = s.efl.otp ∧ t.reg Reg.SEQ_EN_STATE = s.reg Reg.SEQ_EN_STATE ∧
    t.reg Reg.SEQ_PG_STATE = s.reg Reg.SEQ_PG_STATE) ∧
  (∀ (s : State), s.sqr.mrst = true → s.phase = 2 →
    ∃ t, exec .mrstRelease s = .next t ∧ t.sqr.mrst = false ∧ t.sec.startup = 1 ∧ t.getB Reg.TOP_RST_CAUSE 2 = true) ∧
  (∀ (s : State), ∃ t, exec .vaonInLoss s = .next t ∧ t.cle = {} ∧ t.trn = {} ∧ t.mcp = {} ∧ t.sqr = {} ∧ t.twb = {} ∧
    t.med.store = s.med.store ∧ t.efl.otp = s.efl.otp ∧ t.sec.kek = s.sec.kek ∧
    t.reg Reg.SEQ_EN_STATE = resetOf Reg.SEQ_EN_STATE)

/-- An accepted table fills the slot registers and a refused one leaves defaults; a slot is enabled after its delay,
qualifies after QUAL, and with the last one the chip is On and start-up begins; a NACKed PMBus write, a deadline and a rail
loss begin an off sequence with FAULT_SLOT and FAULT_N; a slot is disabled, with SQ1 the core's state; the off sequence ends
in P4 or P3. (R496, R497, R498, R500, R501, R502, R503, R505, R506, R510.) -/
def Obligations.PowerSequence : Prop :=
  (∀ (s : State) b, s.phase = 0 → tableOk b = true →
    ∃ t, exec (.tableLoad (some b)) s = .next t ∧ t.getB Reg.SEQ_STATUS 25 = true ∧ t.sqr.tableDue = false ∧
      t.phase = (if s.slotGood 0 = true ∧ s.getB Reg.SEQ_STATUS 27 = true then 1 else 0) ∧
      ∀ n d, n < 32 → regAt (Reg.SEQ_SLOT_ON + 16 * n) = some d →
        t.reg (Reg.SEQ_SLOT_ON + 16 * n) = BitVec.ofNat 32 (tableWord b (16 + 16 * n + 4)) &&& BitVec.ofNat 32 d.rw) ∧
  (∀ (s : State) b, s.phase = 0 → tableOk b = false →
    ∃ t, exec (.tableLoad (some b)) s = .next t ∧ t.getB Reg.SEQ_STATUS 25 = false ∧ t.getB Reg.SEQ_CAUSE 6 = true ∧
      ∀ n, n < 32 → t.reg (Reg.SEQ_SLOT_ON + 16 * n) = resetOf (Reg.SEQ_SLOT_ON + 16 * n)) ∧
  (∀ (s : State) ms, s.phase = 4 → Nat.max 1 (s.getF Reg.SEQ_CTRL 15 0) ≤ ms → s.mayStart = true →
    s.sqr.wake = true ∨ (s.getB Reg.SEQ_CTRL 20 = true ∧ s.sqr.latched = false) →
    ∃ t, exec (.onSequenceStart ms) s = .next t ∧ t.phase = 1 ∧ t.getB Reg.TOP_RST_CAUSE 4 = true ∧ t.sqr.wake = false ∧
      t.sqr.enabledAt = [] ∧ t.getF Reg.PWR_WAKE 1 0 = (if s.sqr.wake then 1 else 0)) ∧
  (∀ (s : State) (n : Fin 32) us k, s.phase = 1 → s.usedSlots.contains n.val = true → s.slotOn n = false → s.onDelay n ≤ us →
    s.getB (Reg.SEQ_SLOT_CFG + 16 * n.val) 4 = false → s.busTaken n = false → s.slotMode n < 2 ∨ k ≠ 3 →
    ∃ t, exec (.slotEnable n us k) s = .next t ∧ t.slotOn n = true ∧ t.phase = 1 ∧ Maps.find n.val t.sqr.enabledAt = some us ∧
      (∀ m : Fin 32, m ≠ n → t.slotOn m = s.slotOn m) ∧ t.reg Reg.SEQ_PG_STATE = s.reg Reg.SEQ_PG_STATE ∧
      (2 ≤ s.slotMode n → Maps.find n.val t.sqr.sent = some (s.slotWrites n true))) ∧
  (∀ (s : State) (n : Fin 32) us, s.phase = 1 → s.usedSlots.contains n.val = true → s.slotOn n = false → s.onDelay n ≤ us →
    s.getB (Reg.SEQ_SLOT_CFG + 16 * n.val) 4 = false → 2 ≤ s.slotMode n → s.busTaken n = false →
    ∃ t, exec (.slotEnable n us 3) s = .next t ∧ OffBegun t 3 ∧ t.getF Reg.SEQ_STATUS 20 16 = n.val ∧
      t.getB Reg.SEQ_STATUS 26 = true ∧ t.slotOn n = false) ∧
  (∀ (s : State) (n m : Fin 32) us x tt, Maps.find n.val s.sqr.highSince = some tt → s.phase = 1 → s.slotOn n = true → s.slotGood n = false →
    tt + s.slotQual n ≤ us → m ≠ n → s.usedSlots.contains m.val = true → s.slotGood m = false →
    ∃ t, exec (.slotQualified n us x) s = .next t ∧ t.slotGood n = true ∧ t.phase = 1 ∧ t.sec = s.sec ∧
      t.reg Reg.SEQ_EN_STATE = s.reg Reg.SEQ_EN_STATE) ∧
  (∀ (s : State) (n : Fin 32) us x tt, Maps.find n.val s.sqr.highSince = some tt → s.phase = 1 → s.slotOn n = true → s.slotGood n = false →
    tt + s.slotQual n ≤ us → (∀ m ∈ s.usedSlots, m ≠ n.val → s.slotOn m = true ∧ s.slotGood m = true) →
    ∃ t, exec (.slotQualified n us x) s = .next t ∧ t.slotGood n = true ∧ t.phase = 2 ∧ t.powerState = 0 ∧ t.sec.startup = 1 ∧
      (n = 9 → s.getB Reg.TOP_RST_CAUSE 1 = false → t.reg Reg.TOP_STRAP = BitVec.ofNat 32 x.toNat)) ∧
  (∀ (s : State) (n : Fin 32) us, s.slotOn n = true → s.slotGood n = false → s.getB (Reg.SEQ_SLOT_CFG + 16 * n.val) 3 = true →
    ∃ t, exec (.powerGoodBreak n us) s = .next t ∧ Maps.find n.val t.sqr.highSince = some us ∧ OtherRegs s t [Reg.SEQ_TIME]) ∧
  (∀ (s : State) (n : Fin 32) us tt, Maps.find n.val s.sqr.enabledAt = some tt → s.phase = 1 → s.slotOn n = true → s.slotGood n = false →
    tt + s.slotDeadline n ≤ us →
    ∃ t, exec (.sequenceFault n us) s = .next t ∧ OffBegun t 3 ∧ t.getF Reg.SEQ_STATUS 20 16 = n.val ∧
      t.getB Reg.SEQ_STATUS 26 = true ∧ t.getB Reg.SEQ_STATUS 27 = false) ∧
  (∀ (s : State) (n : Fin 32), s.phase = 2 → n ≠ 0 → Slot s n true true → s.getB (Reg.SEQ_SLOT_CFG + 16 * n.val) 3 = true →
    ∃ t, exec (.railFault n) s = .next t ∧ OffBegun t 4 ∧ t.getF Reg.SEQ_STATUS 20 16 = n.val ∧
      t.getB Reg.SEQ_STATUS 26 = true) ∧
  (∀ (s : State) (n : Fin 32) us, s.phase = 3 → bitOf s.sqr.offSlots n = true → s.slotOn n = true → s.slotKept n = false →
    s.busTaken n = false → s.offDelay n ≤ us →
    ∃ t, exec (.slotDisable n us) s = .next t ∧ Slot t n false false ∧
      (∀ m : Fin 32, m ≠ n → Slot t m (s.slotOn m) (s.slotGood m)) ∧ (n = 1 → t.cle = {} ∧ t.trn = {} ∧ t.mcp = {}) ∧
      t.med.store = s.med.store) ∧
  (∀ (s : State) us pg, OffDone s us pg → s.sqr.standby = false →
    ∃ t, exec (.offSequenceEnd us pg) s = .next t ∧ t.phase = 4 ∧ t.getB Reg.SEQ_STATUS 26 = false ∧ t.sqr.tableDue = true ∧
      t.getB Reg.SEQ_STATUS 27 = (s.getB Reg.SEQ_STATUS 26 || s.getB Reg.SEQ_STATUS 27)) ∧
  (∀ (s : State) us pg, OffDone s us pg → s.sqr.standby = true →
    ∃ t, exec (.offSequenceEnd us pg) s = .next t ∧ t.phase = 5 ∧ t.powerState = 3 ∧ t.getB Reg.PWR_STATUS 28 = false ∧
      t.sqr.tableDue = true)

/-- A legal request is taken, with BUSY, target and MCP source 9, the state unchanged until the boundary; one while BUSY is
refused with 3, Hold while serving with 2; P3 from Hold begins the off sequence without keys or TOKEN; a quiesced unit is in
P2 with its DRAM in self-refresh and its queues worked off, but a frozen controller keeps its queues; a signal on a gated port asks for it
to be ungated. (R307, R309, R512, R513, R514.) -/
def Obligations.PowerStates : Prop :=
  (∀ (s : State) rq, s.powerState = 1 ∨ s.powerState = 2 → s.getB Reg.PWR_STATUS 28 = false →
    ∃ t, exec (.enterRun rq) s = .next t ∧ Requested t 0 ∧ t.powerState = s.powerState) ∧
  (∀ (s : State) rq, s.powerState = 0 → s.getB Reg.PWR_STATUS 28 = false →
    ∃ t, exec (.enterTrim rq) s = .next t ∧ Requested t 1 ∧ t.powerState = 0) ∧
  (∀ (s : State) rq, s.powerState = 0 ∨ s.powerState = 1 → s.getB Reg.PWR_STATUS 28 = false → s.servesBits = 0 →
    ∃ t, exec (.enterHold rq) s = .next t ∧ Requested t 2 ∧ t.powerState = s.powerState) ∧
  (∀ (s : State) rq, s.powerState = 0 ∨ s.powerState = 1 → s.getB Reg.PWR_STATUS 28 = false → s.servesBits ≠ 0 →
    ∃ t, exec (.enterHold rq) s = .next t ∧ t.getF Reg.PWR_STATUS 27 24 = 2 ∧ t.sqr.target = s.sqr.target ∧
      t.powerState = s.powerState) ∧
  (∀ (s : State) rq, s.getB Reg.PWR_STATUS 28 = true →
    ∀ c ∈ [Instr.enterRun rq, .enterTrim rq, .enterHold rq], ∃ t, exec c s = .next t ∧ t.getF Reg.PWR_STATUS 27 24 = 3 ∧
      t.sqr = s.sqr ∧ t.powerState = s.powerState) ∧
  (∀ (s : State) rq, s.powerState = 2 → s.getB Reg.PWR_STATUS 28 = false → s.phase = 2 →
    ∃ t, exec (.enterStandby rq) s = .next t ∧ OffBegun t 5 ∧ t.sqr.standby = true ∧ t.sqr.target = some 3 ∧
      t.win.keySlots = [] ∧ t.debug ≠ 1) ∧
  (∀ (s : State) (c : Fin 6), s.sqr.holding = true → s.sqr.tierShut = true → s.trn.opt = [] → s.dur.pb = [] → s.ntl.ops = [] →
    s.ntl.ckptDue = false → s.frozen = false →
    ∃ t, exec .holdQuiesceDone s = .next t ∧ t.powerState = 2 ∧ t.getB Reg.PWR_STATUS 28 = false ∧ t.sqr.holding = false ∧
      t.sqr.target = none ∧ t.sqr.serdesIdle = true ∧
      ((s.dram c).state = 2 → (t.dram c).state = 3 ∧ (t.dram c).rq = [] ∧ (t.dram c).wq = [] ∧ (t.dram c).waiting = []) ∧
      ((s.dram c).state ≠ 2 → t.dram c = s.dram c)) ∧
  (∀ (s : State), s.sqr.holding = true → s.sqr.tierShut = true → s.trn.opt = [] → s.dur.pb = [] → s.ntl.ops = [] →
    s.ntl.ckptDue = false → s.frozen = true →
    ∃ t, exec .holdQuiesceDone s = .next t ∧ t.powerState = 2 ∧ t.drc = s.drc) ∧
  (∀ (s : State) (p : Fin 8), bitOf s.sqr.gatedPorts p = true →
    ∃ t, exec (.signalDetect p) s = .next t ∧ bitOf t.sqr.ungate p = true ∧
      t = { s with sqr := { s.sqr with ungate := t.sqr.ungate } })

/-- GO starts a transaction that fits and is refused while one runs; an end stores the bytes read and shows RESULT and BYTES
with MCP source 5; lost arbitration repeats up to RETRY; SCL held low, a clear, a port reset and the sequencer's preemption
have the results of their rules; a free bus lets a waiting transaction start. (R518, R519, R520, R521, R522, R524, R525,
R526.) -/
def Obligations.ControllerPorts : Prop :=
  (∀ (s : State) (n : Fin 3) w r, s.inputOk = true → (s.twbPort n).running = false → (s.twbPort n).sclStuck = false →
    (s.twbPort n).busStuck = false → s.getF (twbReg Reg.TWB_CMD n) 23 16 = w → s.getF (twbReg Reg.TWB_CMD n) 15 8 = r →
    1 ≤ w + r → w + r ≤ 256 →
    ∃ t, exec (.twbGo .mcp n) s = .next t ∧ (t.twbPort n).running = true ∧ (t.twbPort n).waiting = true ∧
      t.getB (twbReg Reg.TWB_STATUS n) 31 = true ∧ OtherRegs s t [twbReg Reg.TWB_STATUS n]) ∧
  (∀ (s : State) (n : Fin 3), s.inputOk = true → (s.twbPort n).running = true →
    ∃ t, exec (.twbGo .mcp n) s = .next t ∧ t.getF (twbReg Reg.TWB_STATUS n) 29 26 = 11 ∧ t.twb = s.twb) ∧
  (∀ (s : State) (n : Fin 3), ∃ t, exec (.busFree n) s = .next t ∧ t.bar = s.bar ∧ (t.twbPort n).sclStuck = false ∧
    (t.twbPort n).waiting = ((s.twbPort n).waiting && !(s.twbPort n).cleared)) ∧
  (∀ (s : State) (n : Fin 3) (k : Fin 258) data pec, (s.twbPort n).running = true → (s.twbPort n).waiting = false →
    s.replyResult n data pec = 0 →
    ∃ t, exec (.twbTransactionDone n k (.reply data pec)) s = .next t ∧ BusEnded t n 0 k ∧
      ∀ i, i < data.length → i < s.getF (twbReg Reg.TWB_CMD n) 15 8 → t.twbByte n i = data.getD i 0) ∧
  (∀ (s : State) (n : Fin 3) (k : Fin 258), (s.twbPort n).running = true → (s.twbPort n).waiting = false →
    (∃ t, exec (.twbTransactionDone n k .nackAddr) s = .next t ∧ BusEnded t n 1 k) ∧
    (∃ t, exec (.twbTransactionDone n k .nackData) s = .next t ∧ BusEnded t n 2 k) ∧
    (∃ t, exec (.twbTransactionDone n k .lostCond) s = .next t ∧ BusEnded t n 4 k)) ∧
  (∀ (s : State) (n : Fin 3) k byte bit, (s.twbPort n).running = true → (s.twbPort n).waiting = false →
    (s.twbPort n).repeats < s.getF (twbReg Reg.TWB_CFG n) 11 10 →
    ∃ t, exec (.twbTransactionDone n k (.lost byte bit)) s = .next t ∧ (t.twbPort n).running = true ∧
      (t.twbPort n).waiting = true ∧ (t.twbPort n).repeats = (s.twbPort n).repeats + 1) ∧
  (∀ (s : State) (n : Fin 3) (k : Fin 258), (s.twbPort n).running = true →
    ∃ t, exec (.twbTimeout n false k) s = .next t ∧ BusEnded t n 5 k ∧ (t.twbPort n).sclStuck = (s.twbPort n).sclStuck) ∧
  (∀ (s : State) (n : Fin 3) k, ∃ t, exec (.twbTimeout n true k) s = .next t ∧ (t.twbPort n).sclStuck = true ∧
    (t.twbPort n).running = false ∧ t.getF (twbReg Reg.TWB_STATUS n) 29 26 = 9) ∧
  (∀ (s : State) (n : Fin 3), (s.twbPort n).running = false →
    ∃ t, exec (.busClear (some .mcp) n .clear) s = .next t ∧ BusEnded t n 0 0 ∧ (t.twbPort n).cleared = true ∧
      (t.twbPort n).sclStuck = false ∧ (t.twbPort n).busStuck = false) ∧
  (∀ (s : State) (n : Fin 3), (s.twbPort n).running = false →
    ∃ t, exec (.busClear (some .mcp) n .busStuck) s = .next t ∧ BusEnded t n 8 0 ∧ (t.twbPort n).busStuck = true) ∧
  (∀ (s : State) (n : Fin 3), ∃ t, exec (.portReset .mcp n) s = .next t ∧ t.reg (twbReg Reg.TWB_STATUS n) = 0 ∧
    t.twbPort n = { high := (s.twbPort n).high } ∧ OtherRegs s t [twbReg Reg.TWB_STATUS n]) ∧
  (∀ (s : State) (n : Fin 3) (k : Fin 258), s.phase = 3 → (s.twbPort n).running = true →
    ∃ t, exec (.sequencerPreempt n k) s = .next t ∧ BusEnded t n 10 k)

/-- Each read command is served with the bytes of its table, a block with its count first, and changes nothing but the last command
shown; POWER_REQ wakes
or begins the off sequence; MBOX_REQ keeps its message for the MCP and MBOX_RESP gives the reply once; a write with a bad PEC
is counted and nothing else; a timeout is counted; an address in P3 wakes the chip. (R512, R523, R527, R528, R529, R530.) -/
def Obligations.TargetPort : Prop :=
  Replies .status 0x01 (fun s => leBytes (
    s.getF Reg.PWR_STATUS 31 29 + 8 * s.copyF Reg.TWN_STATUS 31 29 + 64 * s.getF Reg.INT_STATUS 31 30 +
    256 * s.getF Reg.SEC_BOOT_STATUS 31 31 + 512 * s.copyF Reg.DUR_RECOVERY 27 27 + 1024 * s.copyF Reg.TEN_STATUS 13 13 +
    2048 * (if s.copyF Reg.NTL_STATUS 31 29 = 3 then 1 else 0) + 4096 * s.copyF Reg.DRC_STATUS 8 8) 2) ∧
  Replies .firstFault 0x02 (fun s => blockOf (leBytes (s.reg Reg.INT_FIRST_FAULT).toNat 4)) ∧
  Replies .seqCause 0x03 (fun s => leBytes (s.reg Reg.SEQ_CAUSE).toNat 2) ∧
  Replies .deviceId 0x04 (fun _ => blockOf ((List.range 16).map Config.factory)) ∧
  Replies .quoteHash 0x05 (fun s => blockOf ((Config.sha512 s.sec.image).take 32)) ∧
  Replies .capability 0x19 (fun _ => [0xC0]) ∧
  Replies .readTemperature1 0x8D (fun s =>
    leBytes (linear11 (BitVec.ofNat 16 (s.getF (Reg.SNS_TEMP + 4 * s.getF Reg.SNS_STATUS 19 16) 15 0)).toInt) 2) ∧
  Replies .pmbusRevision 0x98 (fun _ => [0x44]) ∧
  Replies .mfrId 0x99 (fun _ => [5, 0x54, 0x59, 0x45, 0x4E, 0x44]) ∧
  Replies .mfrModel 0x9A (fun _ => [7, 0x42, 0x59, 0x2D, 0x37, 0x34, 0x32, 0x30]) ∧
  Replies .mfrRevision 0x9B (fun _ => [2, 0x42, 0x30]) ∧
  (∀ (s : State) pec, s.twtAwake = true → s.getB Reg.TWB_TWT_CFG 8 = true → PecGood s 0x10 [1] pec →
    ∃ t, exec (.powerReqWake pec) s = .next t ∧ t.getF Reg.TWB_TWT_STATUS 31 24 = 0x10 ∧ t.phase = s.phase ∧
      OtherRegs s t [Reg.TWB_TWT_STATUS] ∧ t = { s with bar := t.bar }) ∧
  (∀ (s : State) pec, s.twtAwake = true → s.getB Reg.TWB_TWT_CFG 8 = true → s.phase = 2 → PecGood s 0x10 [2] pec →
    ∃ t, exec (.powerReqOff pec) s = .next t ∧ t.getF Reg.TWB_TWT_STATUS 31 24 = 0x10 ∧ OffBegun t 5) ∧
  (∀ (s : State) data pec, s.twtAwake = true → s.getB Reg.TWB_TWT_MBOX_CTRL 14 = false → 1 ≤ data.length → data.length ≤ 32 →
    PecGood s 0x20 (blockOf data) pec →
    ∃ t, exec (.mboxReq data pec) s = .next t ∧ t.getB Reg.TWB_TWT_MBOX_CTRL 14 = true ∧
      t.getF Reg.TWB_TWT_MBOX_CTRL 5 0 = data.length ∧ bitOf t.mcp.irqPend 6 = true ∧
      ∀ i, i < data.length → fld (t.reg (Reg.TWB_TWT_MBOX_REQ + i / 4 * 4)) (i % 4 * 8 + 7) (i % 4 * 8) = (data.getD i 0).toNat) ∧
  (∀ (s : State) (p : Byte), s.twtAwake = true → s.getB Reg.TWB_TWT_CFG 8 = true →
    (p ≠ WritePec s 0x10 [1] → PecCounted s (.powerReqWake (some p))) ∧
    (p ≠ WritePec s 0x10 [2] → PecCounted s (.powerReqOff (some p)))) ∧
  (∀ (s : State) data (p : Byte), s.twtAwake = true → s.getB Reg.TWB_TWT_MBOX_CTRL 14 = false → 1 ≤ data.length → data.length ≤ 32 →
    p ≠ WritePec s 0x20 (blockOf data) → PecCounted s (.mboxReq data (some p))) ∧
  (∀ (s : State), s.twtAwake = true → s.getB Reg.TWB_TWT_MBOX_CTRL 15 = true →
    ∃ t, exec .mboxResp s = .next t ∧ t.getB Reg.TWB_TWT_MBOX_CTRL 15 = false ∧
      t.twb.reply.length = max 1 (s.getF Reg.TWB_TWT_MBOX_CTRL 21 16) + 1 ∧
      OtherRegs s t [Reg.TWB_TWT_STATUS, Reg.TWB_TWT_MBOX_CTRL]) ∧
  (∀ (s : State), s.twtAwake = true → s.getB Reg.TWB_TWT_MBOX_CTRL 15 = false →
    ∃ t, exec .mboxResp s = .next t ∧ t.twb.reply = [1, 0xFF]) ∧
  (∀ (s : State), ∃ t, exec .twtTimeout s = .next t ∧
    t.getF Reg.TWB_TWT_STATUS 7 0 = min (s.getF Reg.TWB_TWT_STATUS 7 0 + 1) 255 ∧ OtherRegs s t [Reg.TWB_TWT_STATUS] ∧
    t = { s with bar := t.bar }) ∧
  (∀ (s : State), s.phase = 5 → s.inputOk = true → s.getB Reg.PWR_WAKE 17 = true → s.mayStart = true →
    ∃ t, exec .twtWake s = .next t ∧ t.phase = 1 ∧
      t.getF Reg.TWB_TWT_STATUS 15 8 = min (s.getF Reg.TWB_TWT_STATUS 15 8 + 1) 255 ∧ t.getF Reg.PWR_WAKE 1 0 = 2 ∧ t.getB Reg.TOP_RST_CAUSE 3 = true ∧
      t.getB Reg.TOP_RST_CAUSE 4 = true)

/-- A capture begins where its conditions hold and is refused elsewhere; its image lands in SRAM (its SEQ is a free value); a
firing becomes a record of the registers listed, or is counted as dropped with the buffer full; firmware triggers fire when
enabled; a programmed record leaves the buffer, with HEAD, SEQ_NEXT and the count advanced and its 32 words in flash; an
erased sector reads erased. (R533, R539, R540, R544, R545, R546, R548, R552.) -/
def Obligations.RecorderAndCalibration : Prop :=
  (∀ (s : State) (p : Byte), p = 20 ∨ p = 60 ∨ p = 100 → s.inRun = true → s.powerState = 0 → s.allTrained = true → s.evr.capture = none →
    (∀ i, i < 12 → s.near p.toNat i = true) →
    ∃ t, exec (.capture p) s = .next t ∧ t.evr = { s.evr with capture := some p.toNat } ∧ t.getB Reg.CAL_STATUS 31 = true) ∧
  (∀ (s : State) (p : Byte), s.inRun = false ∨ s.powerState ≠ 0 ∨ s.evr.capture ≠ none ∨ ¬(p = 20 ∨ p = 60 ∨ p = 100) →
    ∃ t, exec (.capture p) s = .next t ∧ t.evr = s.evr ∧ t.getB Reg.CAL_STATUS 29 = true) ∧
  (∀ (s : State) p tj entries dst, s.evr.capture = some p → s.getF Reg.CAL_DST 19 3 * 8 = dst →
    ∃ t, exec (.captureDone tj entries) s = .next t ∧ t.evr.capture = none ∧ t.getB Reg.CAL_STATUS 31 = false ∧
      t.getB Reg.CAL_STATUS 30 = true ∧
      SramHolds t (0x100000 + dst) ((calImage p tj (Config.freeWord s.free).toNat entries).take (0x100000 - dst))) ∧
  (∀ (s : State) f rest, s.evr.fired = f :: rest → s.evr.buffer.length < 8 →
    ∃ t r, exec .recorderTrigger s = .next t ∧ t.evr.fired = rest ∧ t.evr.buffer = s.evr.buffer ++ [r] ∧ t.evr.dropped = 0 ∧
      r.trigger = f.input ∧ r.code = f.code ∧ r.level = f.level ∧ r.source = f.source ∧ r.dropped = s.evr.dropped ∧
      r.values = (List.range (min 58 (s.getF (Reg.EVR_TRIG_CFG + 4 * f.input) 5 0))).map
        (fun k => s.shown (s.reg (Reg.EVR_LIST + 0x100 * f.input + 4 * k)).toNat)) ∧
  (∀ (s : State) f rest, s.evr.fired = f :: rest → 8 ≤ s.evr.buffer.length →
    ∃ t, exec .recorderTrigger s = .next t ∧ t.evr.fired = rest ∧ t.evr.buffer = s.evr.buffer ∧
      t.evr.dropped = min (s.evr.dropped + 1) 65535) ∧
  (∀ (s : State) (i : Fin 8) (code : Byte), s.getB (Reg.EVR_TRIG_CFG + 4 * (24 + i.val)) 31 = true →
    (∀ f ∈ s.evr.fired, f.input ≠ 24 + i.val) →
    ∃ t, exec (.fwTrigger i code) s = .next t ∧
      { input := 24 + i.val, code := code.toNat, level := 0, source := 0 } ∈ t.evr.fired ∧
      t.evr.fired.length = s.evr.fired.length + 1 ∧ t = { s with evr := { s.evr with fired := t.evr.fired } }) ∧
  (∀ (s : State) (i : Fin 8) code, s.getB (Reg.EVR_TRIG_CFG + 4 * (24 + i.val)) 31 = false →
    exec (.fwTrigger i code) s = .next s) ∧
  (∀ (s : State) o r rest, s.efl.op = some o → o.recorder = true → o.kind = 0 → s.evr.buffer = r :: rest → s.getB Reg.EVR_STATUS 31 = true →
    o.row = recorderSlot (s.getF Reg.EVR_STATUS 10 0) → o.words.length = 32 →
    ∃ t, exec .recordProgrammed s = .next t ∧ t.evr.buffer = rest ∧
      t.getF Reg.EVR_STATUS 10 0 = (s.getF Reg.EVR_STATUS 10 0 + 1) % 2048 ∧
      t.reg Reg.EVR_SEQ_NEXT = s.reg Reg.EVR_SEQ_NEXT + 1 ∧ t.reg Reg.EVR_CNT_RECORDS = s.reg Reg.EVR_CNT_RECORDS + 1 ∧
      ∀ i, i < 32 → Maps.rd (freshWord true) t.efl.wordsB (4 * o.row + i) = o.words.getD i 0) ∧
  (∀ (s : State) o k, s.efl.op = some o → o.recorder = true → o.kind = 1 → o.row = recorderSector k → s.evr.clearing = none →
    s.evr.erasing = some k →
    ∃ t, exec .sectorEraseDone s = .next t ∧ t.evr.erasing = none ∧
      ∀ r, o.row ≤ r → r < o.row + 256 → t.rowErased true r = true)

/-- When the revocation of a Closing window whose GEN is 0xFF completes (no Operation Table entry of that generation is
left), the window's STATE is Retired. (R113.) -/
def Obligations.RetiredAtLastGeneration : Prop :=
  ∀ (s : State) i w, Maps.find i.toNat s.win.windows = some w → w.state = .closing → w.gen = 0xFF →
    (∀ e ∈ s.trn.opt, e.2.win = i.toNat → e.2.gen ≠ w.gen) →
    ∃ t x, exec (.windowRevokeDone i) s = .next t ∧ Maps.find i.toNat t.win.windows = some x ∧ x.state = .retired

/-- No Ristretto QP is paced in any state; a CNP received for one raises TRN_CNT_CNP_RX by one, and no QP, request, write or
notification changes. (R93.) -/
def Obligations.RistrettoNeverPaced : Prop :=
  (∀ (s : State) (c : Qp), c.cls = .ristretto → s.isPaced c = false) ∧
  (∀ (s : State) p c, Arrives s p .cnp c → c.cls = .ristretto →
    ∃ t, exec (.cnpReceived p) s = .next t ∧ t.reg Reg.TRN_CNT_CNP_RX = s.reg Reg.TRN_CNT_CNP_RX + 1 ∧
      t.trn.qps = s.trn.qps ∧ t.cle = s.cle ∧ t.dur = s.dur ∧ t.ctl = s.ctl)
end

