-- ==== Sys2Proof/Laws/Maps.lean ====
section
/-! SUPPORT. What the table and memory operations do: a read after a write, and that every operation keeps the canonical
form. -/

namespace Sys2Proof.Machine

open Sys2Proof

namespace Maps

variable {α : Type}

@[simp] theorem find_nil (k : Nat) : find k ([] : Table α) = none := rfl

@[simp] theorem find_put_same (k : Nat) (v : α) : ∀ m : Table α, find k (put k v m) = some v
  | [] => by simp [put, find]
  | (j, w) :: m => by
    simp only [put]
    split
    · simp [find]
    · split
      · simp [find]
      · next h => simp [find, h, find_put_same k v m]

theorem find_put_other {k i : Nat} (v : α) (h : i ≠ k) : ∀ m : Table α, find i (put k v m) = find i m
  | [] => by simp [put, find, h]
  | (j, w) :: m => by
    simp only [put]
    split
    · simp [find, h]
    · split
      · next e => subst e; simp [find, h]
      · simp only [find]
        split
        · rfl
        · exact find_put_other v h m

theorem find_del_other {k i : Nat} (h : i ≠ k) : ∀ m : Table α, find i (del k m) = find i m
  | [] => rfl
  | (j, w) :: m => by
    have ih := find_del_other h m
    simp only [del] at ih ⊢
    by_cases e : j = k
    · subst e; simp [find, h, ih]
    · simp [e, find, ih]

theorem find_del_same (k : Nat) : ∀ m : Table α, find k (del k m) = none
  | [] => rfl
  | (j, w) :: m => by
    have ih := find_del_same k m
    simp only [del] at ih ⊢
    by_cases e : j = k
    · subst e; simpa [List.filter_cons] using ih
    · simp [e, find, ih, Ne.symm e]

/-- A read after a write of the same key gives the value written. -/
@[simp] theorem rd_wr_same [DecidableEq α] (d : Nat → α) (m : Table α) (k : Nat) (v : α) : rd d (wr d m k v) k = v := by
  unfold rd wr
  split
  · next h => simp [find_del_same, h]
  · simp

/-- A write leaves every other key alone. -/
theorem rd_wr_other [DecidableEq α] (d : Nat → α) (m : Table α) {k i : Nat} (v : α) (h : i ≠ k) :
    rd d (wr d m k v) i = rd d m i := by
  unfold rd wr
  split
  · rw [find_del_other h]
  · rw [find_put_other v h]

theorem mem_put {k : Nat} {v : α} : ∀ {m : Table α} {e : Nat × α}, e ∈ put k v m → e = (k, v) ∨ e ∈ m
  | [], e, h => by simpa [put] using h
  | (j, w) :: m, e, h => by
    simp only [put] at h
    split at h
    · rcases List.mem_cons.1 h with h | h
      · exact .inl h
      · exact .inr h
    · split at h
      · rcases List.mem_cons.1 h with h | h
        · exact .inl h
        · exact .inr (List.mem_cons_of_mem _ h)
      · rcases List.mem_cons.1 h with h | h
        · exact .inr (by simp [h])
        · rcases mem_put h with h | h
          · exact .inl h
          · exact .inr (List.mem_cons_of_mem _ h)

theorem sorted_put (k : Nat) (v : α) : ∀ {m : Table α}, sorted m = true → sorted (put k v m) = true
  | [], _ => by simp [put, sorted]
  | (j, w) :: m, h => by
    simp only [sorted, decide_eq_true_eq, List.pairwise_cons] at h
    obtain ⟨hj, hm⟩ := h
    simp only [put]
    split
    · next lt =>
      simp only [sorted, decide_eq_true_eq, List.pairwise_cons, List.mem_cons]
      refine ⟨?_, hj, hm⟩
      rintro e (rfl | he)
      · exact lt
      · exact Nat.lt_trans lt (hj e he)
    · split
      · next e =>
        subst e
        simp only [sorted, decide_eq_true_eq, List.pairwise_cons]
        exact ⟨hj, hm⟩
      · next nlt ne =>
        have ih := sorted_put k v (m := m) (by simpa [sorted] using hm)
        simp only [sorted, decide_eq_true_eq, List.pairwise_cons] at ih ⊢
        refine ⟨fun e he => ?_, ih⟩
        rcases mem_put he with rfl | he
        · exact Nat.lt_of_le_of_ne (Nat.le_of_not_lt nlt) (Ne.symm ne)
        · exact hj e he

theorem sorted_filter (p : Nat × α → Bool) {m : Table α} (h : sorted m = true) : sorted (m.filter p) = true := by
  simp only [sorted, decide_eq_true_eq] at h ⊢
  exact h.filter p

/-- Leaving entries out keeps the canonical form. -/
theorem wf_filter [DecidableEq α] {d : Nat → α} (p : Nat × α → Bool) {m : Table α} (h : wf d m = true) :
    wf d (m.filter p) = true := by
  simp only [wf, Bool.and_eq_true, List.all_eq_true] at h ⊢
  exact ⟨sorted_filter p h.1, fun e he => h.2 e ((List.mem_filter.1 he).1)⟩

/-- A write keeps the canonical form. -/
theorem wf_wr [DecidableEq α] {d : Nat → α} {m : Table α} (k : Nat) (v : α) (h : wf d m = true) :
    wf d (wr d m k v) = true := by
  unfold wr
  split
  · exact wf_filter _ h
  · next hv =>
    simp only [wf, Bool.and_eq_true, List.all_eq_true, decide_eq_true_eq] at h ⊢
    refine ⟨sorted_put k v h.1, fun e he => ?_⟩
    rcases mem_put he with rfl | he
    · exact hv
    · exact h.2 e he

@[simp] theorem wf_nil [DecidableEq α] (d : Nat → α) : wf d ([] : Table α) = true := by simp [wf, sorted]

end Maps

namespace Mem

@[simp] theorem byte_setByte_same (m : Mem) (a : Nat) (b : Byte) : (m.setByte a b).byte a = b := Maps.rd_wr_same _ _ _ _

theorem byte_setByte_other (m : Mem) {a i : Nat} (b : Byte) (h : i ≠ a) : (m.setByte a b).byte i = m.byte i :=
  Maps.rd_wr_other _ _ _ h

theorem wf_setByte {m : Mem} (a : Nat) (b : Byte) (h : m.wf = true) : (m.setByte a b).wf = true := Maps.wf_wr a b h

theorem wf_setBytes : ∀ (bs : List Byte) {m : Mem} (a : Nat), m.wf = true → (m.setBytes a bs).wf = true
  | [], _, _, h => h
  | b :: bs, _, a, h => wf_setBytes bs (a + 1) (wf_setByte a b h)

theorem wf_clear {m : Mem} (a n : Nat) (h : m.wf = true) : (m.clear a n).wf = true := Maps.wf_filter _ h

/-- A run of bytes written leaves every address outside the run alone. -/
theorem byte_setBytes_outside : ∀ (bs : List Byte) (m : Mem) (a i : Nat), i < a ∨ a + bs.length ≤ i →
    (m.setBytes a bs).byte i = m.byte i
  | [], _, _, _, _ => rfl
  | b :: bs, m, a, i, h => by
    simp only [List.length_cons] at h
    rw [setBytes, byte_setBytes_outside bs (m.setByte a b) (a + 1) i (by omega), byte_setByte_other m b (by omega)]

/-- A byte read back from a run written. -/
theorem byte_setBytes_inside : ∀ (bs : List Byte) (m : Mem) (a k : Nat) (h : k < bs.length),
    (m.setBytes a bs).byte (a + k) = bs[k]
  | b :: bs, m, a, 0, _ => by
    rw [setBytes, byte_setBytes_outside bs _ _ _ (by omega)]
    simp
  | b :: bs, m, a, k + 1, h => by
    have := byte_setBytes_inside bs (m.setByte a b) (a + 1) k (by simpa using h)
    rw [setBytes, show a + (k + 1) = a + 1 + k from by omega]
    simpa using this

end Mem

end Sys2Proof.Machine
end

