-- ==== Sys2Proof/Laws/Instruct.lean ====
section
/-! SUPPORT. Executing an instruction word: when the checks of R183 and R185 let it run, and what its body is then given. -/

namespace Sys2Proof.Machine

open Sys2Proof

theorem State.instruct_run {s : State} {ag : Agent} {w : DWord} {row : Row} {body : State → State}
    (hf : s.fetchFault ag = false) (hv : s.verdict ag w row = .run) :
    s.instruct ag w row body = body ((s.took ag w).spend ag row.cost) := by
  simp [State.instruct, hf, hv]

theorem RunsOn.verdict {s : State} {i : Fin 512} {id : Nat} {r : Request} {w : DWord} (h : RunsOn s i id r w) {row : Row}
    (hd : defined w = true) (ho : wOp w = row.op) (hs : row.subs.contains (wSub w) = true)
    (hm : row.mode = none ∨ row.mode = some (bitOf w 0)) (ha : row.allowed w = true) (hp : row.profile ≠ .management) :
    s.verdict (.strand i) w row = .run := by
  obtain ⟨hr, ht, hc, hg⟩ := h
  have hlt : r.ctx.pc < (s.codeOf r).length := by
    rcases Nat.lt_or_ge r.ctx.pc (s.codeOf r).length with h | h
    · exact h
    · rw [List.getElem?_eq_none h] at hc; simp at hc
  have hb : s.beyond (.strand i) = false := by simp [State.beyond, hr, hlt]
  have hf : s.fetches (.strand i) w = true := by simp [State.fetches, hr, hc, ht]
  have hg' : guardOk (s.ctxOf (.strand i)) w = true := by simpa [guardOk, State.ctxOf, hr] using hg
  have hmode : (row.mode.isSome && row.mode != some (bitOf w 0)) = false := by
    rcases hm with h | h <;> simp [h]
  have hag : (Agent.strand i == Agent.mcp) = false := rfl
  unfold State.verdict
  rw [if_neg (by simp [hb]), if_neg (by simp [hf]), if_neg (by simp [hd]), if_neg (by rw [hs, hmode]; simp [ho]),
    if_neg (by simp [ha]), if_neg (by rw [hag]; simp), if_neg (by simp [hg'])]
  cases hq : row.profile <;> simp_all

theorem RunsOn.instruct {s : State} {i : Fin 512} {id : Nat} {r : Request} {w : DWord} (h : RunsOn s i id r w) {row : Row}
    {body : State → State} (hd : defined w = true) (ho : wOp w = row.op) (hs : row.subs.contains (wSub w) = true)
    (hm : row.mode = none ∨ row.mode = some (bitOf w 0)) (ha : row.allowed w = true) (hp : row.profile ≠ .management) :
    s.instruct (.strand i) w row body = body ((s.took (.strand i) w).spend (.strand i) row.cost) :=
  State.instruct_run rfl (h.verdict hd ho hs hm ha hp)

/-- Issuing changes the engines' issue state, their instruction caches and the free values taken, and nothing else (R140, R175). -/
theorem State.issue_eq (s : State) (i : Fin 512) (w : DWord) (n : Nat) : ∃ icache turns lastIssued issued free,
    (s.took (.strand i) w).spend (.strand i) n =
      { s with cle := { s.cle with icache, turns, lastIssued, issued }, free } := by
  have h1 : ∃ icache free, s.fillIcache i = { s with cle := { s.cle with icache }, free } := by
    unfold State.fillIcache
    split
    · exact ⟨_, _, rfl⟩
    · split
      extract_lets ways
      split
      · exact ⟨_, _, rfl⟩
      · split
        · exact ⟨_, _, rfl⟩
        · exact ⟨_, _, rfl⟩
  obtain ⟨icache, free, h1⟩ := h1
  unfold State.took
  dsimp only
  rw [h1]
  exact ⟨_, _, _, _, _, rfl⟩

theorem State.running_issue (s : State) (i j : Fin 512) (w : DWord) (n : Nat) :
    ((s.took (.strand i) w).spend (.strand i) n).running j = s.running j := by
  obtain ⟨_, _, _, _, _, h⟩ := s.issue_eq i w n
  rw [h]; rfl

/-- A clause instruction that runs gives its body the strand's request. -/
theorem RunsOn.clauseOp {s : State} {i : Fin 512} {id : Nat} {r : Request} {w : DWord} (h : RunsOn s i id r w) {row : Row}
    {body : State → Fin 512 → Nat → Request → State} (hd : defined w = true) (ho : wOp w = row.op)
    (hs : row.subs.contains (wSub w) = true) (hm : row.mode = none ∨ row.mode = some (bitOf w 0)) (ha : row.allowed w = true)
    (hp : row.profile ≠ .management) :
    s.clauseOp (.strand i) w row body = body ((s.took (.strand i) w).spend (.strand i) row.cost) i id r := by
  unfold State.clauseOp
  rw [h.instruct hd ho hs hm ha hp]
  have hr : ((s.took (.strand i) w).spend (.strand i) row.cost).running i = some (id, r) := by
    rw [State.running_issue]; exact h.running
  simp [hr]

theorem McpRuns.instruct {s : State} {w : DWord} (h : McpRuns s w) {row : Row} {body : State → State}
    (hd : defined w = true) (ho : wOp w = row.op) (hs : row.subs.contains (wSub w) = true)
    (hm : row.mode = none ∨ row.mode = some (bitOf w 0)) (ha : row.allowed w = true) (hp : row.profile ≠ .clause) :
    s.instruct .mcp w row body = body ((s.buffer w).spend .mcp row.cost) := by
  obtain ⟨h1, h2, h3, hg⟩ := h
  have hne : s.mcpWords.isEmpty = false := by
    cases hq : s.mcpWords with
    | nil => rw [hq] at h3; simp at h3
    | cons => rfl
  refine State.instruct_run (by simp [State.fetchFault, hne]) ?_
  have hf : s.fetches .mcp w = true := by simp [State.fetches, h1, h2, h3]
  have hg' : guardOk (s.ctxOf .mcp) w = true := by simpa [guardOk] using hg
  have hmode : (row.mode.isSome && row.mode != some (bitOf w 0)) = false := by
    rcases hm with h | h <;> simp [h]
  have hpc : (row.profile == Profile.clause) = false := by cases hq : row.profile <;> simp_all
  unfold State.verdict
  rw [if_neg (by simp [State.beyond]), if_neg (by simp [hf]), if_neg (by simp [hd]), if_neg (by rw [hs, hmode]; simp [ho]),
    if_neg (by simp [ha]), if_neg (by rw [hpc]; simp), if_neg (by simp [hg'])]
  cases hq : row.profile <;> simp_all

/-- Buffering a word's line changes the instruction buffer alone. -/
theorem State.buffer_eq (s : State) (w : DWord) : ∃ ibuf, s.buffer w = { s with mcp := { s.mcp with ibuf } } := by
  unfold State.buffer
  extract_lets pc held
  clear_value held
  split
  · exact ⟨_, rfl⟩
  · split <;> exact ⟨_, rfl⟩

/-! ## Registers (R184) -/

theorem Ctx.greg_setG (c : Ctx) (d : Nat) (v : DWord) (n : Nat) :
    (c.setG d v).greg n = if n = d ∧ d ≠ 0 then v else c.greg n := by
  unfold Ctx.setG
  by_cases hd : d = 0
  · simp [hd]
  · by_cases hn : n = d
    · subst hn; simp [Ctx.greg, hd, Maps.rd_wr_same]
    · by_cases h0 : n = 0
      · subst h0; simp [Ctx.greg, hn]
      · simp [Ctx.greg, hd, hn, h0, Maps.rd_wr_other _ _ _ hn]

theorem Ctx.preg_setP (c : Ctx) (d : Nat) (v : Bool) (n : Nat) :
    (c.setP d v).preg n = if n = d ∧ d ≠ 0 then v else c.preg n := by
  unfold Ctx.setP
  by_cases hd : d = 0
  · simp [hd]
  · by_cases hn : n = d
    · subst hn; simp [Ctx.preg, hd, Maps.rd_wr_same]
    · by_cases h0 : n = 0
      · subst h0; simp [Ctx.preg, hn]
      · simp [Ctx.preg, hd, hn, h0, Maps.rd_wr_other _ _ _ hn]

@[simp] theorem Ctx.preg_setG (c : Ctx) (d : Nat) (v : DWord) (n : Nat) : (c.setG d v).preg n = c.preg n := by
  unfold Ctx.setG; split <;> rfl

@[simp] theorem Ctx.greg_setP (c : Ctx) (d : Nat) (v : Bool) (n : Nat) : (c.setP d v).greg n = c.greg n := by
  unfold Ctx.setP; split <;> rfl

end Sys2Proof.Machine
end

