-- ==== Sys2Proof/Laws/Keeps.lean ====
section
/-! SUPPORT. What every command keeps: the queue, and memories in canonical form; the lemmas that the proofs for each operation
cite. -/

namespace Sys2Proof.Machine

open Sys2Proof

/-- `t` comes after `s` in a command: the queue stands, and canonical memories stay canonical. -/
def Keeps (s t : State) : Prop := t.pending = s.pending ∧ (s.wf = true → t.wf = true)

/-- A meaning's next state, if it answers one, comes after `s`. -/
def KeepsR (s : State) (r : Result) : Prop := ∀ t, r = .next t → Keeps s t

theorem Keeps.refl (s : State) : Keeps s s := ⟨rfl, id⟩

theorem KeepsR.next {z s : State} (h : Keeps z s) : KeepsR z (.next s) := by
  intro t ht; cases ht; exact h

theorem Keeps.ite {z a b : State} {c : Prop} [Decidable c] (ha : Keeps z a) (hb : Keeps z b) :
    Keeps z (if c then a else b) := by split <;> assumption

theorem Keeps.trans {z s t : State} (h : Keeps z s) (k : Keeps s t) : Keeps z t :=
  ⟨k.1.trans h.1, fun w => k.2 (h.2 w)⟩

theorem keeps_mk {z s t : State} (h0 : t.pending = s.pending) (h1 : t.bar.val = s.bar.val) (h2 : t.bar.eff = s.bar.eff)
    (h3 : t.bar.copy = s.bar.copy) (h4 : t.med.store = s.med.store) (h5 : t.ctl.region = s.ctl.region)
    (h6 : t.mcp.sram = s.mcp.sram) (h7 : t.efl.otp = s.efl.otp) (h : Keeps z s) : Keeps z t := by
  refine h.trans ⟨h0, fun w => ?_⟩
  simp only [State.wf, Bar.wf, h1, h2, h3, h4, h5, h6, h7] at w ⊢
  exact w

theorem keeps_foldl {α : Type} {z : State} {f : State → α → State} :
    ∀ (l : List α) (s : State), (∀ s x, Keeps z s → Keeps z (f s x)) → Keeps z s → Keeps z (l.foldl f s)
  | [], _, _, h => h
  | x :: l, s, hf, h => keeps_foldl l (f s x) hf (hf s x h)

theorem keeps_foldl_fst {α β : Type} {z : State} {f : State × β → α → State × β} :
    ∀ (l : List α) (a : State × β), (∀ a x, Keeps z a.1 → Keeps z (f a x).1) → Keeps z a.1 → Keeps z (l.foldl f a).1
  | [], _, _, h => h
  | x :: l, a, hf, h => keeps_foldl_fst l (f a x) hf (hf a x h)

theorem keeps_snd {α : Type} {z t : State} {p : α × State} {a : α} (e : p = (a, t)) (h : Keeps z p.2) : Keeps z t := by
  subst e; exact h

theorem keeps_fst {α : Type} {z t : State} {p : State × α} {a : α} (e : p = (t, a)) (h : Keeps z p.1) : Keeps z t := by
  subst e; exact h


/-- A state literal over `s`: the queue is the same, and each memory is canonical when that of `s` is. -/
theorem keeps_litw {z s : State} {bar snap tck prt trn win ten cle mcp stg dur ctl med drc ntl twn integ efl sec sqr twb evr free pending}
    (h0 : pending = s.pending) (h1 : Bar.wf s.bar = true → Bar.wf bar = true)
    (h4 : Mem.wf s.med.store = true → Mem.wf med.store = true) (h5 : Mem.wf s.ctl.region = true → Mem.wf ctl.region = true)
    (h6 : Mem.wf s.mcp.sram = true → Mem.wf mcp.sram = true) (h7 : Mem.wf s.efl.otp = true → Mem.wf efl.otp = true)
    (h : Keeps z s) :
    Keeps z (State.mk bar snap tck prt trn win ten cle mcp stg dur ctl med drc ntl twn integ efl sec sqr twb evr free pending) := by
  refine h.trans ⟨h0, fun w => ?_⟩
  simp only [State.wf, Bool.and_eq_true] at w ⊢
  exact ⟨⟨⟨⟨h1 w.1.1.1.1, h4 w.1.1.1.2⟩, h5 w.1.1.2⟩, h6 w.1.2⟩, h7 w.2⟩

/-- A state literal over `s` that leaves the queue and the memories alone. -/
theorem keeps_lit {z s : State} {bar snap tck prt trn win ten cle mcp stg dur ctl med drc ntl twn integ efl sec sqr twb evr free pending}
    (h0 : pending = s.pending) (h1 : bar = s.bar) (h4 : med.store = s.med.store) (h5 : ctl.region = s.ctl.region)
    (h6 : mcp.sram = s.mcp.sram) (h7 : efl.otp = s.efl.otp) (h : Keeps z s) :
    Keeps z (State.mk bar snap tck prt trn win ten cle mcp stg dur ctl med drc ntl twn integ efl sec sqr twb evr free pending) :=
  keeps_litw h0 (fun w => h1 ▸ w) (fun w => h4 ▸ w) (fun w => h5 ▸ w) (fun w => h6 ▸ w) (fun w => h7 ▸ w) h

theorem keepsR_elim {z t : State} {r : Result} (e : r = .next t) (h : KeepsR z r) : Keeps z t := h t e

theorem Bar.wf_iff (b : Bar) :
    b.wf = true ↔ Maps.wf resetOf b.val = true ∧ Maps.wf resetOf b.eff = true ∧ Maps.wf resetOf b.copy = true := by
  simp only [Bar.wf, Bool.and_eq_true, and_assoc]

theorem Bar.wf_val {b : Bar} (h : b.wf = true) : Maps.wf resetOf b.val = true := ((Bar.wf_iff b).1 h).1
theorem Bar.wf_eff {b : Bar} (h : b.wf = true) : Maps.wf resetOf b.eff = true := ((Bar.wf_iff b).1 h).2.1
theorem Bar.wf_copy {b : Bar} (h : b.wf = true) : Maps.wf resetOf b.copy = true := ((Bar.wf_iff b).1 h).2.2

theorem Bar.wf_mk {val eff copy c1 c2 c3 l} (h1 : Maps.wf resetOf val = true) (h2 : Maps.wf resetOf eff = true)
    (h3 : Maps.wf resetOf copy = true) : Bar.wf (Bar.mk val eff copy c1 c2 c3 l) = true := (Bar.wf_iff _).2 ⟨h1, h2, h3⟩

end Sys2Proof.Machine
end

