-- ==== Sys2Proof/Laws/KeepsCore.lean ====
section
/-! SUPPORT. The shared operations, the answers, admission and the clause operands:
each operation keeps the queue and the canonical memories (`Keeps`). -/

namespace Sys2Proof.Machine

open Sys2Proof

/-! Machine/Ops.lean -/

theorem State.setReg_keeps {z : State} (s : State) (off : Nat) (v : Word) (hk : Keeps z s) :
    Keeps z (State.setReg s off v) := by
  unfold State.setReg
  repeat' first
    | with_reducible first | assumption | fail_if_no_progress refine keeps_lit rfl rfl rfl rfl rfl rfl ?_
    | extract_lets +onlyGivenNames t | (with_reducible apply keeps_litw; (with_reducible exact rfl); (iterate 5 with_reducible (first | exact id | exact fun w => Bar.wf_mk (Bar.wf_val w) (Bar.wf_eff w) (Bar.wf_copy w) | exact fun w => Bar.wf_mk (Maps.wf_wr _ _ (Bar.wf_val w)) (Bar.wf_eff w) (Bar.wf_copy w) )); first | with_reducible assumption )

theorem State.setF_keeps {z : State} (s : State) (off : Nat) (hi : Nat) (lo : Nat) (v : Nat) (hk : Keeps z s) :
    Keeps z (State.setF s off hi lo v) := by
  unfold State.setF
  repeat' with_reducible first | assumption | apply State.setReg_keeps

theorem State.setB_keeps {z : State} (s : State) (off : Nat) (i : Nat) (b : Bool) (hk : Keeps z s) :
    Keeps z (State.setB s off i b) := by
  unfold State.setB
  repeat' with_reducible first | assumption | apply Keeps.ite | apply State.setF_keeps

theorem State.bumpBy_keeps {z : State} (s : State) (off : Nat) (n : Nat) (hk : Keeps z s) :
    Keeps z (State.bumpBy s off n) := by
  unfold State.bumpBy
  repeat' first
    | with_reducible
      first
      | assumption | apply Keeps.ite | apply State.setReg_keeps
    | intro _ | extract_lets +onlyGivenNames t | split
    | (with_reducible apply keeps_snd (by with_reducible assumption))
    | (with_reducible apply keeps_fst (by with_reducible assumption)) | dsimp +zetaDelta only

theorem State.bump_keeps {z : State} (s : State) (off : Nat) (hk : Keeps z s) :
    Keeps z (State.bump s off) := by
  unfold State.bump
  repeat' with_reducible first | assumption | apply State.bumpBy_keeps

theorem State.bumpSat_keeps {z : State} (s : State) (off : Nat) (hi : Nat) (lo : Nat) (hk : Keeps z s) :
    Keeps z (State.bumpSat s off hi lo) := by
  unfold State.bumpSat
  repeat' with_reducible first | assumption | apply State.setF_keeps

theorem State.setPair_keeps {z : State} (s : State) (lo : Nat) (v : Nat) (hk : Keeps z s) :
    Keeps z (State.setPair s lo v) := by
  unfold State.setPair
  repeat' with_reducible first | assumption | apply State.setReg_keeps

theorem State.resetRange_keeps {z : State} (s : State) (lo : Nat) (hi : Nat) (hk : Keeps z s) :
    Keeps z (State.resetRange s lo hi) := by
  unfold State.resetRange
  repeat' first
    | with_reducible first | assumption | fail_if_no_progress refine keeps_lit rfl rfl rfl rfl rfl rfl ?_
    | extract_lets +onlyGivenNames t | (with_reducible apply keeps_litw; (with_reducible exact rfl); (iterate 5 with_reducible (first | exact id | exact fun w => Bar.wf_mk (Bar.wf_val w) (Bar.wf_eff w) (Bar.wf_copy w) | exact fun w => Bar.wf_mk (Maps.wf_wr _ _ (Bar.wf_val w)) (Bar.wf_eff w) (Bar.wf_copy w) | exact fun w => Bar.wf_mk (Bar.wf_val w) (Maps.wf_wr _ _ (Bar.wf_eff w)) (Bar.wf_copy w) | exact fun w => Bar.wf_mk (Bar.wf_val w) (Bar.wf_val w) (Bar.wf_copy w) | exact fun w => Bar.wf_mk (Bar.wf_val w) (Bar.wf_eff w) (Bar.wf_val w) | exact fun w => Bar.wf_mk (Maps.wf_filter _ (Bar.wf_val w)) (Maps.wf_filter _ (Bar.wf_eff w)) (Maps.wf_filter _ (Bar.wf_copy w)) )); first | with_reducible assumption )

theorem State.takeBytes_keeps {z : State} : ∀ (n : Nat) (s : State), Keeps z s → Keeps z (State.takeBytes s n).2
  | 0, _, h => h
  | n + 1, s, h => by
    unfold State.takeBytes
    exact State.takeBytes_keeps n _ (keeps_lit rfl rfl rfl rfl rfl rfl h)

theorem State.takeWord_keeps {z : State} (s : State) (hk : Keeps z s) :
    Keeps z (State.takeWord s).2 := by
  unfold State.takeWord
  exact keeps_lit rfl rfl rfl rfl rfl rfl hk

theorem State.setKeySlot_keeps {z : State} (s : State) (n : Nat) (key : List Byte) (hk : Keeps z s) :
    Keeps z (State.setKeySlot s n key) := by
  unfold State.setKeySlot
  repeat' first
    | with_reducible
      first
      | assumption | apply Keeps.ite | fail_if_no_progress refine keeps_lit rfl rfl rfl rfl rfl rfl ?_
    | intro _ | extract_lets +onlyGivenNames t | split
    | (with_reducible apply keeps_snd (by with_reducible assumption))
    | (with_reducible apply keeps_fst (by with_reducible assumption)) | dsimp +zetaDelta only

theorem State.setRing_keeps {z : State} (s : State) (r : Nat) (x : Ring) (hk : Keeps z s) :
    Keeps z (State.setRing s r x) := by
  unfold State.setRing
  exact keeps_lit rfl rfl rfl rfl rfl rfl hk

theorem State.sendMsix_keeps {z : State} (s : State) (v : Nat) (hk : Keeps z s) :
    Keeps z (State.sendMsix s v) := by
  unfold State.sendMsix
  exact keeps_lit rfl rfl rfl rfl rfl rfl hk

theorem State.ctlErr_keeps {z : State} (s : State) (bit : Nat) (hk : Keeps z s) :
    Keeps z (State.ctlErr s bit) := by
  unfold State.ctlErr
  repeat' with_reducible first | assumption | apply Keeps.ite | apply State.setB_keeps | apply State.sendMsix_keeps

theorem State.writeEntry_keeps {z : State} (s : State) (r : Nat) (e : RingEntry) (hk : Keeps z s) :
    Keeps z (State.writeEntry s r e) := by
  unfold State.writeEntry
  repeat' first
    | with_reducible
      first
      | assumption | apply Keeps.ite | apply State.sendMsix_keeps | apply State.setF_keeps | apply State.setRing_keeps
      | fail_if_no_progress refine keeps_lit rfl rfl rfl rfl rfl rfl ?_
    | intro _ | extract_lets +onlyGivenNames t | split
    | (with_reducible apply keeps_snd (by with_reducible assumption))
    | (with_reducible apply keeps_fst (by with_reducible assumption)) | dsimp +zetaDelta only

theorem State.writeLost_keeps {z : State} (s : State) (hk : Keeps z s) :
    Keeps z (State.writeLost s) := by
  unfold State.writeLost
  repeat' with_reducible
    first
    | assumption | apply Keeps.ite | apply State.writeEntry_keeps
    | fail_if_no_progress refine keeps_lit rfl rfl rfl rfl rfl rfl ?_

theorem State.notify_keeps {z : State} (s : State) (type : Nat) (b2 : Nat) (b3 : Nat) (w0 : DWord) (w1 : DWord) (w2 : DWord) (hk : Keeps z s) :
    Keeps z (State.notify s type b2 b3 w0 w1 w2) := by
  unfold State.notify
  repeat' with_reducible
    first
    | assumption | apply Keeps.ite | apply State.writeLost_keeps | apply State.writeEntry_keeps
    | apply State.bump_keeps | fail_if_no_progress refine keeps_lit rfl rfl rfl rfl rfl rfl ?_

theorem State.trigger_keeps {z : State} (s : State) (input : Nat) (code : Nat) (level : Nat) (source : Nat) (hk : Keeps z s) :
    Keeps z (State.trigger s input code level source) := by
  unfold State.trigger
  repeat' with_reducible
    first
    | assumption | apply Keeps.ite | apply State.bumpSat_keeps
    | fail_if_no_progress refine keeps_lit rfl rfl rfl rfl rfl rfl ?_

theorem State.deliverNotify_keeps {z : State} (s : State) (r : Nat) (bytes : List Byte) (hk : Keeps z s) :
    Keeps z (State.deliverNotify s r bytes) := by
  unfold State.deliverNotify
  repeat' with_reducible
    first
    | assumption | apply Keeps.ite | apply State.notify_keeps | apply State.writeEntry_keeps
    | apply State.setRing_keeps | apply State.setF_keeps

theorem State.addMeter_keeps {z : State} (s : State) (t : Nat) (k : Nat) (n : Nat) (hk : Keeps z s) :
    Keeps z (State.addMeter s t k n) := by
  unfold State.addMeter
  exact keeps_lit rfl rfl rfl rfl rfl rfl hk

theorem State.useRis_keeps {z : State} (s : State) (table : Nat) (e : Nat) (n : Nat) (tenant : Nat) (hk : Keeps z s) :
    Keeps z (State.useRis s table e n tenant) := by
  unfold State.useRis
  repeat' first
    | with_reducible
      first
      | assumption | apply Keeps.ite | apply State.addMeter_keeps
      | fail_if_no_progress refine keeps_lit rfl rfl rfl rfl rfl rfl ?_
    | intro _ | extract_lets +onlyGivenNames t | split
    | (with_reducible apply keeps_snd (by with_reducible assumption))
    | (with_reducible apply keeps_fst (by with_reducible assumption)) | dsimp +zetaDelta only

theorem State.setQp_keeps {z : State} (s : State) (q : BitVec 24) (c : Qp) (hk : Keeps z s) :
    Keeps z (State.setQp s q c) := by
  unfold State.setQp
  exact keeps_lit rfl rfl rfl rfl rfl rfl hk

theorem State.enqueue_keeps {z : State} (s : State) (lp : Nat) (f : Frame) (hk : Keeps z s) :
    Keeps z (State.enqueue s lp f) := by
  unfold State.enqueue
  exact keeps_lit rfl rfl rfl rfl rfl rfl hk

theorem State.freeOpt_keeps {z : State} (s : State) (o : Nat) (hk : Keeps z s) :
    Keeps z (State.freeOpt s o) := by
  unfold State.freeOpt
  exact keeps_lit rfl rfl rfl rfl rfl rfl hk

theorem State.dropOutstanding_keeps {z : State} (s : State) (q : BitVec 24) (o : Option Nat) (hk : Keeps z s) :
    Keeps z (State.dropOutstanding s q o) := by
  unfold State.dropOutstanding
  repeat' first
    | with_reducible
      first
      | assumption | apply State.setQp_keeps | fail_if_no_progress refine keeps_lit rfl rfl rfl rfl rfl rfl ?_
    | extract_lets +onlyGivenNames t | split

theorem State.depart_keeps {z : State} (s : State) (lp : Nat) (f : Frame) (hk : Keeps z s) :
    Keeps z (State.depart s lp f) := by
  unfold State.depart
  repeat' first
    | with_reducible
      first
      | assumption | apply Keeps.ite | apply State.enqueue_keeps | apply State.dropOutstanding_keeps
      | apply State.freeOpt_keeps | (apply keeps_foldl; intro _ _ _) | (apply keeps_foldl_fst; intro _ _ _)
      | fail_if_no_progress refine keeps_lit rfl rfl rfl rfl rfl rfl ?_
    | intro _ | extract_lets +onlyGivenNames t | split
    | (with_reducible apply keeps_snd (by with_reducible assumption))
    | (with_reducible apply keeps_fst (by with_reducible assumption)) | dsimp +zetaDelta only

theorem State.sendOut_keeps {z : State} (s : State) (c : Qp) (f : Frame) (hk : Keeps z s) :
    Keeps z (State.sendOut s c f) := by
  unfold State.sendOut
  repeat' first
    | with_reducible
      first
      | assumption | apply Keeps.ite | apply State.depart_keeps
      | fail_if_no_progress refine keeps_lit rfl rfl rfl rfl rfl rfl ?_
    | intro _ | extract_lets +onlyGivenNames t | split
    | (with_reducible apply keeps_snd (by with_reducible assumption))
    | (with_reducible apply keeps_fst (by with_reducible assumption)) | dsimp +zetaDelta only

theorem State.sendNow_keeps {z : State} (s : State) (q : BitVec 24) (c : Qp) (f : Frame) (hk : Keeps z s) :
    Keeps z (State.sendNow s q c f) := by
  unfold State.sendNow
  repeat' first
    | with_reducible
      first
      | assumption | apply Keeps.ite | apply State.sendOut_keeps | apply State.setQp_keeps
      | fail_if_no_progress refine keeps_lit rfl rfl rfl rfl rfl rfl ?_
    | intro _ | extract_lets +onlyGivenNames t | split
    | (with_reducible apply keeps_snd (by with_reducible assumption))
    | (with_reducible apply keeps_fst (by with_reducible assumption)) | dsimp +zetaDelta only

theorem State.release_keeps {z : State} (s : State) (q : BitVec 24) (f : Frame) (hk : Keeps z s) :
    Keeps z (State.release s q f) := by
  unfold State.release
  repeat' first
    | with_reducible
      first
      | assumption | apply Keeps.ite | apply State.sendNow_keeps | apply State.freeOpt_keeps
      | (apply keeps_foldl; intro _ _ _) | (apply keeps_foldl_fst; intro _ _ _)
      | fail_if_no_progress refine keeps_lit rfl rfl rfl rfl rfl rfl ?_
    | intro _ | extract_lets +onlyGivenNames t | split
    | (with_reducible apply keeps_snd (by with_reducible assumption))
    | (with_reducible apply keeps_fst (by with_reducible assumption)) | dsimp +zetaDelta only

/-! Machine/Links.lean -/

theorem State.takeSlots_keeps {z : State} (s : State) (n : Nat) (e : Nat) (k : Nat) (cls : Cls) (tenant : Nat) (hk : Keeps z s) :
    Keeps z (State.takeSlots s n e k cls tenant) := by
  unfold State.takeSlots
  repeat' first
    | with_reducible
      first
      | assumption | apply Keeps.ite | apply State.useRis_keeps
      | fail_if_no_progress refine keeps_lit rfl rfl rfl rfl rfl rfl ?_
    | intro _ | extract_lets +onlyGivenNames t | split
    | (with_reducible apply keeps_snd (by with_reducible assumption))
    | (with_reducible apply keeps_fst (by with_reducible assumption)) | dsimp +zetaDelta only

theorem State.setLink_keeps {z : State} (s : State) (m : Nat) (l : MLinkRec) (hk : Keeps z s) :
    Keeps z (State.setLink s m l) := by
  unfold State.setLink
  exact keeps_lit rfl rfl rfl rfl rfl rfl hk

theorem State.setRegion_keeps {z : State} (s : State) (m : Nat) (r : Nat) (x : RegionRec) (hk : Keeps z s) :
    Keeps z (State.setRegion s m r x) := by
  unfold State.setRegion
  exact keeps_lit rfl rfl rfl rfl rfl rfl hk

theorem State.countWrite_keeps {z : State} (s : State) (t : MTrans) (hk : Keeps z s) :
    Keeps z (State.countWrite s t) := by
  unfold State.countWrite
  repeat' first
    | with_reducible
      first
      | assumption | apply State.setRegion_keeps | fail_if_no_progress refine keeps_lit rfl rfl rfl rfl rfl rfl ?_
    | extract_lets +onlyGivenNames t | split

theorem State.metaLine_keeps {z : State} (s : State) (m : Nat) (t : MTrans) (data : List Byte) (hk : Keeps z s) :
    Keeps z (State.metaLine s m t data).2 := by
  unfold State.metaLine
  repeat' first
    | with_reducible
      first
      | assumption | apply Keeps.ite | apply State.takeWord_keeps
      | fail_if_no_progress refine keeps_lit rfl rfl rfl rfl rfl rfl ?_
    | intro _ | extract_lets +onlyGivenNames t | split
    | (with_reducible apply keeps_snd (by with_reducible assumption))
    | (with_reducible apply keeps_fst (by with_reducible assumption)) | dsimp +zetaDelta only

theorem State.compose_keeps {z : State} (s : State) (m : Nat) (t : MTrans) (hk : Keeps z s) :
    Keeps z (State.compose s m t).2 := by
  unfold State.compose
  repeat' first
    | with_reducible
      first
      | assumption | apply Keeps.ite | apply State.takeBytes_keeps | apply State.metaLine_keeps
      | fail_if_no_progress refine keeps_lit rfl rfl rfl rfl rfl rfl ?_
    | intro _ | extract_lets +onlyGivenNames t | split
    | (with_reducible apply keeps_snd (by with_reducible assumption))
    | (with_reducible apply keeps_fst (by with_reducible assumption)) | dsimp +zetaDelta only

theorem State.takeLine_keeps {z : State} (s : State) (tile : Nat) (line : Nat) (hk : Keeps z s) :
    Keeps z (State.takeLine s tile line) := by
  unfold State.takeLine
  repeat' first
    | with_reducible
      first
      | assumption | apply Keeps.ite | fail_if_no_progress refine keeps_lit rfl rfl rfl rfl rfl rfl ?_
    | intro _ | extract_lets +onlyGivenNames t | split
    | (with_reducible apply keeps_snd (by with_reducible assumption))
    | (with_reducible apply keeps_fst (by with_reducible assumption)) | dsimp +zetaDelta only

theorem State.send_keeps {z : State} (s : State) (m : Nat) (w : MWork) (hk : Keeps z s) :
    Keeps z (State.send s m w) := by
  unfold State.send
  repeat' first
    | with_reducible
      first
      | assumption | apply Keeps.ite | apply State.takeLine_keeps | apply State.countWrite_keeps
      | apply State.setLink_keeps | apply State.compose_keeps
      | fail_if_no_progress refine keeps_lit rfl rfl rfl rfl rfl rfl ?_
    | intro _ | extract_lets +onlyGivenNames t | split
    | (with_reducible apply keeps_snd (by with_reducible assumption))
    | (with_reducible apply keeps_fst (by with_reducible assumption)) | dsimp +zetaDelta only

theorem State.resend_keeps {z : State} (s : State) (m : Nat) (tag : Nat) (hk : Keeps z s) :
    Keeps z (State.resend s m tag) := by
  unfold State.resend
  repeat' first
    | with_reducible
      first
      | assumption | apply Keeps.ite | apply State.setLink_keeps
      | fail_if_no_progress refine keeps_lit rfl rfl rfl rfl rfl rfl ?_
    | intro _ | extract_lets +onlyGivenNames t | split
    | (with_reducible apply keeps_snd (by with_reducible assumption))
    | (with_reducible apply keeps_fst (by with_reducible assumption)) | dsimp +zetaDelta only

theorem State.pumpOne_keeps {z : State} (s : State) (m : Nat) (hk : Keeps z s) :
    Keeps z (State.pumpOne s m) := by
  unfold State.pumpOne
  repeat' first
    | with_reducible
      first
      | assumption | apply Keeps.ite | apply State.send_keeps | apply State.resend_keeps | apply State.takeSlots_keeps
      | apply State.setLink_keeps | fail_if_no_progress refine keeps_lit rfl rfl rfl rfl rfl rfl ?_
    | intro _ | extract_lets +onlyGivenNames t | split
    | (with_reducible apply keeps_snd (by with_reducible assumption))
    | (with_reducible apply keeps_fst (by with_reducible assumption)) | dsimp +zetaDelta only

theorem State.pump_keeps {z : State} (s : State) (m : Nat) (hk : Keeps z s) :
    Keeps z (State.pump s m) := by
  unfold State.pump
  repeat' with_reducible first | assumption | (apply keeps_foldl; intro _ _ _) | apply State.pumpOne_keeps

theorem State.issueFor_keeps {z : State} (s : State) (m : Nat) (cls : Cls) (tenant : Nat) (t : MTrans) (hk : Keeps z s) :
    Keeps z (State.issueFor s m cls tenant t) := by
  unfold State.issueFor
  repeat' first
    | with_reducible
      first
      | assumption | apply Keeps.ite | apply State.pumpOne_keeps | apply State.setLink_keeps
      | fail_if_no_progress refine keeps_lit rfl rfl rfl rfl rfl rfl ?_
    | intro _ | extract_lets +onlyGivenNames t | split
    | (with_reducible apply keeps_snd (by with_reducible assumption))
    | (with_reducible apply keeps_fst (by with_reducible assumption)) | dsimp +zetaDelta only

theorem State.issue_keeps {z : State} (s : State) (m : Nat) (t : MTrans) (hk : Keeps z s) :
    Keeps z (State.issue s m t) := by
  unfold State.issue
  repeat' first
    | with_reducible
      first
      | assumption | apply Keeps.ite | apply State.issueFor_keeps
    | intro _ | extract_lets +onlyGivenNames t | split
    | (with_reducible apply keeps_snd (by with_reducible assumption))
    | (with_reducible apply keeps_fst (by with_reducible assumption)) | dsimp +zetaDelta only

theorem State.pumpLink_keeps {z : State} (s : State) (m : Nat) (hk : Keeps z s) :
    Keeps z (State.pumpLink s m) := by
  unfold State.pumpLink
  repeat' first
    | with_reducible
      first
      | assumption | apply Keeps.ite | apply State.pump_keeps | apply State.setLink_keeps
    | intro _ | extract_lets +onlyGivenNames t | split
    | (with_reducible apply keeps_snd (by with_reducible assumption))
    | (with_reducible apply keeps_fst (by with_reducible assumption)) | dsimp +zetaDelta only

theorem State.pumpLinks_keeps {z : State} (s : State) (hk : Keeps z s) :
    Keeps z (State.pumpLinks s) := by
  unfold State.pumpLinks
  repeat' first
    | with_reducible
      first
      | assumption | apply Keeps.ite | apply State.pumpLink_keeps | (apply keeps_foldl; intro _ _ _)
      | (apply keeps_foldl_fst; intro _ _ _)
    | intro _ | extract_lets +onlyGivenNames t | split
    | (with_reducible apply keeps_snd (by with_reducible assumption))
    | (with_reducible apply keeps_fst (by with_reducible assumption)) | dsimp +zetaDelta only

theorem State.journalFor_keeps {z : State} (s : State) (cls : Cls) (tenant : Nat) (recs : List (Nat × Nat)) (hk : Keeps z s) :
    Keeps z (State.journalFor s cls tenant recs).2 := by
  unfold State.journalFor
  repeat' first
    | with_reducible
      first
      | assumption | apply Keeps.ite | apply State.issueFor_keeps | (apply keeps_foldl; intro _ _ _)
      | (apply keeps_foldl_fst; intro _ _ _) | fail_if_no_progress refine keeps_lit rfl rfl rfl rfl rfl rfl ?_
    | intro _ | extract_lets +onlyGivenNames t | split
    | (with_reducible apply keeps_snd (by with_reducible assumption))
    | (with_reducible apply keeps_fst (by with_reducible assumption)) | dsimp +zetaDelta only

theorem State.journal_keeps {z : State} (s : State) (recs : List (Nat × Nat)) (hk : Keeps z s) :
    Keeps z (State.journal s recs).2 := by
  unfold State.journal
  repeat' first
    | with_reducible
      first
      | assumption | apply Keeps.ite | apply State.journalFor_keeps
    | intro _ | extract_lets +onlyGivenNames t | split
    | (with_reducible apply keeps_snd (by with_reducible assumption))
    | (with_reducible apply keeps_fst (by with_reducible assumption)) | dsimp +zetaDelta only

/-! Machine/Channels.lean -/

theorem State.pumpNand_keeps {z : State} (s : State) (ch : Nat) (hk : Keeps z s) :
    Keeps z (State.pumpNand s ch) := by
  unfold State.pumpNand
  repeat' first
    | with_reducible
      first
      | assumption | apply Keeps.ite | apply State.takeSlots_keeps
      | fail_if_no_progress refine keeps_lit rfl rfl rfl rfl rfl rfl ?_
    | intro _ | extract_lets +onlyGivenNames t | split
    | (with_reducible apply keeps_snd (by with_reducible assumption))
    | (with_reducible apply keeps_fst (by with_reducible assumption)) | dsimp +zetaDelta only

theorem State.pumpChannels_keeps {z : State} (s : State) (hk : Keeps z s) :
    Keeps z (State.pumpChannels s) := by
  unfold State.pumpChannels
  repeat' first
    | with_reducible
      first
      | assumption | apply Keeps.ite | apply State.pumpNand_keeps | (apply keeps_foldl; intro _ _ _)
      | (apply keeps_foldl_fst; intro _ _ _)
    | intro _ | extract_lets +onlyGivenNames t | split
    | (with_reducible apply keeps_snd (by with_reducible assumption))
    | (with_reducible apply keeps_fst (by with_reducible assumption)) | dsimp +zetaDelta only

theorem State.queueNand_keeps {z : State} (s : State) (o : NandOpRec) (hk : Keeps z s) :
    Keeps z (State.queueNand s o) := by
  unfold State.queueNand
  repeat' first
    | with_reducible
      first
      | assumption | apply Keeps.ite | apply State.pumpNand_keeps
      | fail_if_no_progress refine keeps_lit rfl rfl rfl rfl rfl rfl ?_
    | intro _ | extract_lets +onlyGivenNames t | split
    | (with_reducible apply keeps_snd (by with_reducible assumption))
    | (with_reducible apply keeps_fst (by with_reducible assumption)) | dsimp +zetaDelta only

theorem State.dropNand_keeps {z : State} (s : State) (job : NandJob) (hk : Keeps z s) :
    Keeps z (State.dropNand s job) := by
  unfold State.dropNand
  repeat' first
    | with_reducible
      first
      | assumption | apply Keeps.ite | fail_if_no_progress refine keeps_lit rfl rfl rfl rfl rfl rfl ?_
    | intro _ | extract_lets +onlyGivenNames t | split
    | (with_reducible apply keeps_snd (by with_reducible assumption))
    | (with_reducible apply keeps_fst (by with_reducible assumption)) | dsimp +zetaDelta only

/-! Machine/Store.lean -/

theorem State.mapPage_keeps {z : State} (s : State) (cls : Cls) (page : Nat) (hk : Keeps z s) :
    Keeps z (State.mapPage s cls page) := by
  unfold State.mapPage
  repeat' first
    | with_reducible
      first
      | assumption | apply Keeps.ite | apply State.setLink_keeps | apply State.journalFor_keeps
      | fail_if_no_progress refine keeps_lit rfl rfl rfl rfl rfl rfl ?_
    | intro _ | extract_lets +onlyGivenNames t | split
    | (with_reducible apply keeps_snd (by with_reducible assumption))
    | (with_reducible apply keeps_fst (by with_reducible assumption)) | dsimp +zetaDelta only

theorem State.unmapPage_keeps {z : State} (s : State) (page : Nat) (hk : Keeps z s) :
    Keeps z (State.unmapPage s page) := by
  unfold State.unmapPage
  split
  · exact hk
  · split
    next e => exact keeps_litw rfl id (Maps.wf_filter _) id id id (keeps_snd e (State.journal_keeps _ _ hk))

theorem State.askNand_keeps {z : State} (s : State) (page : Nat) (want : NandWant) (hk : Keeps z s) :
    Keeps z (State.askNand s page want) := by
  unfold State.askNand
  repeat' first
    | with_reducible
      first
      | assumption | apply Keeps.ite | apply State.queueNand_keeps | (apply keeps_foldl; intro _ _ _)
      | (apply keeps_foldl_fst; intro _ _ _) | fail_if_no_progress refine keeps_lit rfl rfl rfl rfl rfl rfl ?_
    | intro _ | extract_lets +onlyGivenNames t | split
    | (with_reducible apply keeps_snd (by with_reducible assumption))
    | (with_reducible apply keeps_fst (by with_reducible assumption)) | dsimp +zetaDelta only

theorem State.wantNand_keeps {z : State} (s : State) (page : Nat) (want : NandWant) (hk : Keeps z s) :
    Keeps z (State.wantNand s page want) := by
  unfold State.wantNand
  repeat' first
    | with_reducible
      first
      | assumption | apply Keeps.ite | apply State.askNand_keeps
      | fail_if_no_progress refine keeps_lit rfl rfl rfl rfl rfl rfl ?_
    | intro _ | extract_lets +onlyGivenNames t | split
    | (with_reducible apply keeps_snd (by with_reducible assumption))
    | (with_reducible apply keeps_fst (by with_reducible assumption)) | dsimp +zetaDelta only

theorem State.noSpace_keeps {z : State} (s : State) (t : Nat) (n : Nat) (pages : Nat) (hk : Keeps z s) :
    Keeps z (State.noSpace s t n pages) := by
  unfold State.noSpace
  repeat' first
    | with_reducible
      first
      | assumption | apply Keeps.ite | apply State.bumpBy_keeps
      | fail_if_no_progress refine keeps_lit rfl rfl rfl rfl rfl rfl ?_
    | intro _ | extract_lets +onlyGivenNames t | split
    | (with_reducible apply keeps_snd (by with_reducible assumption))
    | (with_reducible apply keeps_fst (by with_reducible assumption)) | dsimp +zetaDelta only

theorem State.abandon_keeps {z : State} (s : State) (page : Nat) (hk : Keeps z s) :
    Keeps z (State.abandon s page) := by
  unfold State.abandon
  exact keeps_lit rfl rfl rfl rfl rfl rfl hk

theorem State.stampPage_keeps {z : State} (s : State) (page : Nat) (hk : Keeps z s) :
    Keeps z (State.stampPage s page) := by
  unfold State.stampPage
  repeat' first
    | with_reducible
      first
      | assumption | apply State.setLink_keeps | fail_if_no_progress refine keeps_lit rfl rfl rfl rfl rfl rfl ?_
    | extract_lets +onlyGivenNames t | split

theorem State.fillPins_keeps {z : State} (s : State) (hk : Keeps z s) :
    Keeps z (State.fillPins s) := by
  unfold State.fillPins
  repeat' first
    | with_reducible
      first
      | assumption | apply Keeps.ite | fail_if_no_progress refine keeps_lit rfl rfl rfl rfl rfl rfl ?_
    | intro _ | extract_lets +onlyGivenNames t | split
    | (with_reducible apply keeps_snd (by with_reducible assumption))
    | (with_reducible apply keeps_fst (by with_reducible assumption)) | dsimp +zetaDelta only

theorem State.noteWrites_keeps {z : State} (s : State) (lines : List Nat) (hk : Keeps z s) :
    Keeps z (State.noteWrites s lines) := by
  unfold State.noteWrites
  repeat' with_reducible
    first
    | assumption | apply Keeps.ite | (apply keeps_foldl; intro _ _ _) | apply State.stampPage_keeps
    | fail_if_no_progress refine keeps_lit rfl rfl rfl rfl rfl rfl ?_

theorem State.accept_keeps {z : State} (s : State) (qpn : BitVec 24) (tenant : Nat) (cls : Cls) (msn : Nat) (intent : Option Nat) (lines : List (Nat × List Byte)) (hk : Keeps z s) :
    Keeps z (State.accept s qpn tenant cls msn intent lines) := by
  unfold State.accept
  repeat' first
    | with_reducible
      first
      | assumption | apply Keeps.ite | apply State.bumpBy_keeps | apply State.setQp_keeps
      | apply State.noteWrites_keeps | apply State.mapPage_keeps | apply State.takeSlots_keeps
      | (apply keeps_foldl; intro _ _ _) | (apply keeps_foldl_fst; intro _ _ _)
      | fail_if_no_progress refine keeps_lit rfl rfl rfl rfl rfl rfl ?_
    | intro _ | extract_lets +onlyGivenNames t | split
    | (with_reducible apply keeps_snd (by with_reducible assumption))
    | (with_reducible apply keeps_fst (by with_reducible assumption)) | dsimp +zetaDelta only

theorem State.reapPb_keeps {z : State} (s : State) (hk : Keeps z s) :
    Keeps z (State.reapPb s) := by
  unfold State.reapPb
  exact keeps_lit rfl rfl rfl rfl rfl rfl hk

/-! Machine/Answers.lean -/

theorem State.report_keeps {z : State} (s : State) (code : Nat) (source : Nat) (hk : Keeps z s) :
    Keeps z (State.report s code source) := by
  unfold State.report
  exact keeps_lit rfl rfl rfl rfl rfl rfl hk

theorem State.signal_keeps {z : State} (s : State) (code : Nat) (level : Nat) (source : Nat) (hk : Keeps z s) :
    Keeps z (State.signal s code level source) := by
  unfold State.signal
  exact keeps_lit rfl rfl rfl rfl rfl rfl hk

theorem State.qpError_keeps {z : State} (s : State) (q : BitVec 24) (hk : Keeps z s) :
    Keeps z (State.qpError s q) := by
  unfold State.qpError
  repeat' first
    | with_reducible
      first
      | assumption | apply State.setQp_keeps | fail_if_no_progress refine keeps_lit rfl rfl rfl rfl rfl rfl ?_
    | extract_lets +onlyGivenNames t | split

theorem State.markFailed_keeps {z : State} (s : State) (q : BitVec 24) (psn : BitVec 24) (hk : Keeps z s) :
    Keeps z (State.markFailed s q psn) := by
  unfold State.markFailed
  repeat' first
    | with_reducible
      first
      | assumption | apply Keeps.ite | apply State.setQp_keeps
      | fail_if_no_progress refine keeps_lit rfl rfl rfl rfl rfl rfl ?_
    | intro _ | extract_lets +onlyGivenNames t | split
    | (with_reducible apply keeps_snd (by with_reducible assumption))
    | (with_reducible apply keeps_fst (by with_reducible assumption)) | dsimp +zetaDelta only

theorem State.nakCode_keeps {z : State} (s : State) (q : BitVec 24) (psn : BitVec 24) (code : Nat) (hk : Keeps z s) :
    Keeps z (State.nakCode s q psn code) := by
  unfold State.nakCode
  repeat' first
    | with_reducible
      first
      | assumption | apply Keeps.ite | apply State.markFailed_keeps | apply State.qpError_keeps
      | apply State.release_keeps | apply State.setQp_keeps
      | fail_if_no_progress refine keeps_lit rfl rfl rfl rfl rfl rfl ?_
    | intro _ | extract_lets +onlyGivenNames t | split
    | (with_reducible apply keeps_snd (by with_reducible assumption))
    | (with_reducible apply keeps_fst (by with_reducible assumption)) | dsimp +zetaDelta only

theorem State.nakRnr_keeps {z : State} (s : State) (q : BitVec 24) (psn : BitVec 24) (lp : Nat) (hk : Keeps z s) :
    Keeps z (State.nakRnr s q psn lp) := by
  unfold State.nakRnr
  repeat' first
    | with_reducible
      first
      | assumption | apply State.setQp_keeps | apply State.release_keeps | apply State.bump_keeps
      | fail_if_no_progress refine keeps_lit rfl rfl rfl rfl rfl rfl ?_
    | extract_lets +onlyGivenNames t | split

theorem State.sendMsg_keeps {z : State} (s : State) (q : BitVec 24) (kind : FrameKind) (bytes : List Byte) (opt : Option Nat) (hk : Keeps z s) :
    Keeps z (State.sendMsg s q kind bytes opt) := by
  unfold State.sendMsg
  repeat' first
    | with_reducible
      first
      | assumption | apply Keeps.ite | apply State.release_keeps | apply State.setQp_keeps | apply State.freeOpt_keeps
      | (apply keeps_foldl; intro _ _ _) | (apply keeps_foldl_fst; intro _ _ _)
      | fail_if_no_progress refine keeps_lit rfl rfl rfl rfl rfl rfl ?_
    | intro _ | extract_lets +onlyGivenNames t | split
    | (with_reducible apply keeps_snd (by with_reducible assumption))
    | (with_reducible apply keeps_fst (by with_reducible assumption)) | dsimp +zetaDelta only

theorem State.retransmit_keeps {z : State} (s : State) (q : BitVec 24) (p : BitVec 24) (hk : Keeps z s) :
    Keeps z (State.retransmit s q p) := by
  unfold State.retransmit
  repeat' first
    | with_reducible
      first
      | assumption | (apply keeps_foldl; intro _ _ _) | apply State.setQp_keeps | apply State.bumpBy_keeps
      | apply State.release_keeps | fail_if_no_progress refine keeps_lit rfl rfl rfl rfl rfl rfl ?_
    | intro _ | extract_lets +onlyGivenNames t | split

theorem State.cancelFill_keeps {z : State} (s : State) (t : Nat) (hk : Keeps z s) :
    Keeps z (State.cancelFill s t) := by
  unfold State.cancelFill
  repeat' first
    | with_reducible
      first
      | assumption | apply Keeps.ite | fail_if_no_progress refine keeps_lit rfl rfl rfl rfl rfl rfl ?_
    | intro _ | extract_lets +onlyGivenNames t | split
    | (with_reducible apply keeps_snd (by with_reducible assumption))
    | (with_reducible apply keeps_fst (by with_reducible assumption)) | dsimp +zetaDelta only

theorem State.dropTiles_keeps {z : State} (s : State) (id : Nat) (hk : Keeps z s) :
    Keeps z (State.dropTiles s id) := by
  unfold State.dropTiles
  repeat' first
    | with_reducible
      first
      | assumption | apply Keeps.ite | apply State.cancelFill_keeps | (apply keeps_foldl; intro _ _ _)
      | (apply keeps_foldl_fst; intro _ _ _) | fail_if_no_progress refine keeps_lit rfl rfl rfl rfl rfl rfl ?_
    | intro _ | extract_lets +onlyGivenNames t | split
    | (with_reducible apply keeps_snd (by with_reducible assumption))
    | (with_reducible apply keeps_fst (by with_reducible assumption)) | dsimp only [id] | dsimp +zetaDelta only

theorem State.dropReq_keeps {z : State} (s : State) (id : Nat) (hk : Keeps z s) :
    Keeps z (State.dropReq s id) := by
  unfold State.dropReq
  repeat' first
    | with_reducible
      first
      | assumption | apply Keeps.ite | apply State.dropTiles_keeps
      | fail_if_no_progress refine keeps_lit rfl rfl rfl rfl rfl rfl ?_
    | intro _ | extract_lets +onlyGivenNames t | split
    | (with_reducible apply keeps_snd (by with_reducible assumption))
    | (with_reducible apply keeps_fst (by with_reducible assumption)) | dsimp only [id] | dsimp +zetaDelta only

theorem State.orphanPackets_keeps {z : State} (s : State) (o : Nat) (hk : Keeps z s) :
    Keeps z (State.orphanPackets s o) := by
  unfold State.orphanPackets
  repeat' first
    | with_reducible
      first
      | assumption | apply Keeps.ite | fail_if_no_progress refine keeps_lit rfl rfl rfl rfl rfl rfl ?_
    | intro _ | extract_lets +onlyGivenNames t | split
    | (with_reducible apply keeps_snd (by with_reducible assumption))
    | (with_reducible apply keeps_fst (by with_reducible assumption)) | dsimp +zetaDelta only

theorem State.answerEnded_keeps {z : State} (s : State) (r : Request) (code : Nat) (hk : Keeps z s) :
    Keeps z (State.answerEnded s r code) := by
  unfold State.answerEnded
  repeat' first
    | with_reducible
      first
      | assumption | apply Keeps.ite | apply State.nakCode_keeps | apply State.orphanPackets_keeps
      | apply State.freeOpt_keeps | apply State.dropOutstanding_keeps | apply State.sendMsg_keeps
      | fail_if_no_progress refine keeps_lit rfl rfl rfl rfl rfl rfl ?_
    | intro _ | extract_lets +onlyGivenNames t | split
    | (with_reducible apply keeps_snd (by with_reducible assumption))
    | (with_reducible apply keeps_fst (by with_reducible assumption)) | dsimp +zetaDelta only

theorem State.setReq_keeps {z : State} (s : State) (id : Nat) (r : Request) (hk : Keeps z s) :
    Keeps z (State.setReq s id r) := by
  unfold State.setReq
  exact keeps_lit rfl rfl rfl rfl rfl rfl hk

theorem State.keepRest_keeps {z : State} (s : State) (id : Nat) (r : Request) (hk : Keeps z s) :
    Keeps z (State.keepRest s id r) := by
  unfold State.keepRest
  repeat' first
    | with_reducible
      first
      | assumption | apply Keeps.ite | apply State.setReq_keeps | apply State.dropTiles_keeps
      | fail_if_no_progress refine keeps_lit rfl rfl rfl rfl rfl rfl ?_
    | intro _ | extract_lets +onlyGivenNames t | split
    | (with_reducible apply keeps_snd (by with_reducible assumption))
    | (with_reducible apply keeps_fst (by with_reducible assumption)) | dsimp only [id] | dsimp +zetaDelta only

theorem State.stopRest_keeps {z : State} (s : State) (id : Nat) (r : Request) (x : RestRec) (code : Nat) (hk : Keeps z s) :
    Keeps z (State.stopRest s id r x code) := by
  unfold State.stopRest
  repeat' first
    | with_reducible
      first
      | assumption | apply Keeps.ite | apply State.nakCode_keeps | apply State.setReq_keeps
      | apply State.dropReq_keeps | apply State.freeOpt_keeps | apply State.dropOutstanding_keeps
      | fail_if_no_progress refine keeps_lit rfl rfl rfl rfl rfl rfl ?_
    | intro _ | extract_lets +onlyGivenNames t | split
    | (with_reducible apply keeps_snd (by with_reducible assumption))
    | (with_reducible apply keeps_fst (by with_reducible assumption)) | dsimp only [id] | dsimp +zetaDelta only

theorem State.endReq_keeps {z : State} (s : State) (id : Nat) (code : Nat) (hk : Keeps z s) :
    Keeps z (State.endReq s id code) := by
  unfold State.endReq
  repeat' first
    | with_reducible
      first
      | assumption | apply Keeps.ite | apply State.answerEnded_keeps | apply State.dropReq_keeps
      | apply State.keepRest_keeps | fail_if_no_progress refine keeps_lit rfl rfl rfl rfl rfl rfl ?_
    | intro _ | extract_lets +onlyGivenNames t | split
    | (with_reducible apply keeps_snd (by with_reducible assumption))
    | (with_reducible apply keeps_fst (by with_reducible assumption)) | dsimp only [id] | dsimp +zetaDelta only

theorem State.finishReq_keeps {z : State} (s : State) (id : Nat) (hk : Keeps z s) :
    Keeps z (State.finishReq s id) := by
  unfold State.finishReq
  repeat' with_reducible first | assumption | apply State.dropReq_keeps

theorem State.nextOrder_keeps {z : State} (s : State) (hk : Keeps z s) :
    Keeps z (State.nextOrder s).2 := by
  unfold State.nextOrder
  exact keeps_lit rfl rfl rfl rfl rfl rfl hk

theorem State.addReq_keeps {z : State} (s : State) (r : Request) (st : Nat → ReqState) (hk : Keeps z s) :
    Keeps z (State.addReq s r st).2 := by
  unfold State.addReq
  repeat' first
    | with_reducible
      first
      | assumption | apply Keeps.ite | apply State.setReq_keeps | apply State.nextOrder_keeps
      | fail_if_no_progress refine keeps_lit rfl rfl rfl rfl rfl rfl ?_
    | intro _ | extract_lets +onlyGivenNames t | split
    | (with_reducible apply keeps_snd (by with_reducible assumption))
    | (with_reducible apply keeps_fst (by with_reducible assumption)) | dsimp +zetaDelta only

theorem State.addOpt_keeps {z : State} (s : State) (e : OptEntry) (hk : Keeps z s) :
    Keeps z (State.addOpt s e).2 := by
  unfold State.addOpt
  exact keeps_lit rfl rfl rfl rfl rfl rfl hk

/-! Machine/Caches.lean -/

theorem State.keepWay_keeps {z : State} (s : State) (q : BitVec 24) (hk : Keeps z s) :
    Keeps z (State.keepWay s q) := by
  unfold State.keepWay
  repeat' first
    | with_reducible
      first
      | assumption | apply Keeps.ite | fail_if_no_progress refine keeps_lit rfl rfl rfl rfl rfl rfl ?_
    | intro _ | extract_lets +onlyGivenNames t | split
    | (with_reducible apply keeps_snd (by with_reducible assumption))
    | (with_reducible apply keeps_fst (by with_reducible assumption)) | dsimp +zetaDelta only

theorem State.ctxHit_keeps {z : State} (s : State) (q : BitVec 24) (hk : Keeps z s) :
    Keeps z (State.ctxHit s q) := by
  unfold State.ctxHit
  repeat' first
    | with_reducible
      first
      | assumption | apply Keeps.ite | apply State.keepWay_keeps | apply State.bump_keeps
      | fail_if_no_progress refine keeps_lit rfl rfl rfl rfl rfl rfl ?_
    | intro _ | extract_lets +onlyGivenNames t | split
    | (with_reducible apply keeps_snd (by with_reducible assumption))
    | (with_reducible apply keeps_fst (by with_reducible assumption)) | dsimp +zetaDelta only

theorem State.ctxFetch_keeps {z : State} (s : State) (q : BitVec 24) (hk : Keeps z s) :
    Keeps z (State.ctxFetch s q) := by
  unfold State.ctxFetch
  repeat' first
    | with_reducible
      first
      | assumption | apply Keeps.ite | apply State.bump_keeps | apply State.keepWay_keeps
      | fail_if_no_progress refine keeps_lit rfl rfl rfl rfl rfl rfl ?_
    | intro _ | extract_lets +onlyGivenNames t | split
    | (with_reducible apply keeps_snd (by with_reducible assumption))
    | (with_reducible apply keeps_fst (by with_reducible assumption)) | dsimp +zetaDelta only

theorem State.keyTouch_keeps {z : State} (s : State) (index : Nat) (hk : Keeps z s) :
    Keeps z (State.keyTouch s index) := by
  unfold State.keyTouch
  repeat' first
    | with_reducible
      first
      | assumption | apply Keeps.ite | apply State.bump_keeps
      | fail_if_no_progress refine keeps_lit rfl rfl rfl rfl rfl rfl ?_
    | extract_lets +onlyGivenNames t | split

theorem State.joinMiss_keeps {z : State} (s : State) (p : Pkt) (b : ReqBody) (hk : Keeps z s) :
    Keeps z (State.joinMiss s p b) := by
  unfold State.joinMiss
  repeat' first
    | with_reducible
      first
      | assumption | apply Keeps.ite | apply State.bump_keeps
      | fail_if_no_progress refine keeps_lit rfl rfl rfl rfl rfl rfl ?_
    | intro _ | extract_lets +onlyGivenNames t | split
    | (with_reducible apply keeps_snd (by with_reducible assumption))
    | (with_reducible apply keeps_fst (by with_reducible assumption)) | dsimp +zetaDelta only

theorem State.takeMiss_keeps {z : State} (s : State) (q : BitVec 24) (hk : Keeps z s) :
    Keeps z (State.takeMiss s q).2 := by
  unfold State.takeMiss
  repeat' first
    | with_reducible
      first
      | assumption | apply Keeps.ite | (apply keeps_foldl; intro _ _ _) | (apply keeps_foldl_fst; intro _ _ _)
      | fail_if_no_progress refine keeps_lit rfl rfl rfl rfl rfl rfl ?_
    | intro _ | extract_lets +onlyGivenNames t | split
    | (with_reducible apply keeps_snd (by with_reducible assumption))
    | (with_reducible apply keeps_fst (by with_reducible assumption)) | dsimp +zetaDelta only

/-! Machine/Ingress.lean -/

theorem State.capture_keeps {z : State} (s : State) (lp : Nat) (sent : Bool) (qpPacket : Bool) (cycle : Nat) (type : Nat) (seq : Nat) (hk : Keeps z s) :
    Keeps z (State.capture s lp sent qpPacket cycle type seq) := by
  unfold State.capture
  repeat' with_reducible first | assumption | apply Keeps.ite | apply State.setReg_keeps | apply State.setF_keeps

theorem State.captureQp_keeps {z : State} (s : State) (lp : Nat) (sent : Bool) (qpn : BitVec 24) (cycle : Nat) (bth : Nat) (psn : BitVec 24) (hk : Keeps z s) :
    Keeps z (State.captureQp s lp sent qpn cycle bth psn) := by
  unfold State.captureQp
  repeat' with_reducible first | assumption | apply Keeps.ite | apply State.capture_keeps

theorem State.sendHeld_keeps {z : State} (s : State) (hk : Keeps z s) :
    Keeps z (State.sendHeld s) := by
  unfold State.sendHeld
  repeat' first
    | with_reducible
      first
      | assumption | (apply keeps_foldl; intro _ _ _) | apply State.sendOut_keeps
      | fail_if_no_progress refine keeps_lit rfl rfl rfl rfl rfl rfl ?_
    | intro _ | extract_lets +onlyGivenNames t | split

theorem State.portDown_keeps {z : State} (s : State) (lp : Nat) (hk : Keeps z s) :
    Keeps z (State.portDown s lp) := by
  unfold State.portDown
  repeat' first
    | with_reducible
      first
      | assumption | apply Keeps.ite | apply State.sendOut_keeps | apply State.setB_keeps
      | (apply keeps_foldl; intro _ _ _) | (apply keeps_foldl_fst; intro _ _ _)
      | fail_if_no_progress refine keeps_lit rfl rfl rfl rfl rfl rfl ?_
    | intro _ | extract_lets +onlyGivenNames t | split
    | (with_reducible apply keeps_snd (by with_reducible assumption))
    | (with_reducible apply keeps_fst (by with_reducible assumption)) | dsimp +zetaDelta only

theorem State.sendPfc_keeps {z : State} (s : State) (lp : Nat) (q : Nat) (quanta : Nat) (hk : Keeps z s) :
    Keeps z (State.sendPfc s lp q quanta) := by
  unfold State.sendPfc
  repeat' first
    | with_reducible
      first
      | assumption | apply Keeps.ite | apply State.enqueue_keeps
      | fail_if_no_progress refine keeps_lit rfl rfl rfl rfl rfl rfl ?_
    | intro _ | extract_lets +onlyGivenNames t | split
    | (with_reducible apply keeps_snd (by with_reducible assumption))
    | (with_reducible apply keeps_fst (by with_reducible assumption)) | dsimp +zetaDelta only

theorem State.ingress_keeps {z : State} (s : State) (lp : Nat) (q : Nat) (occ : Nat) (hk : Keeps z s) :
    Keeps z (State.ingress s lp q occ) := by
  unfold State.ingress
  repeat' first
    | with_reducible
      first
      | assumption | apply Keeps.ite | apply State.sendPfc_keeps
      | fail_if_no_progress refine keeps_lit rfl rfl rfl rfl rfl rfl ?_
    | intro _ | extract_lets +onlyGivenNames t | split
    | (with_reducible apply keeps_snd (by with_reducible assumption))
    | (with_reducible apply keeps_fst (by with_reducible assumption)) | dsimp +zetaDelta only

/-! Machine/Admission.lean -/

theorem State.noteRefusal_keeps {z : State} (s : State) (q : BitVec 24) (rkey : Word) (code : Nat) (hk : Keeps z s) :
    Keeps z (State.noteRefusal s q rkey code) := by
  unfold State.noteRefusal
  repeat' first
    | with_reducible
      first
      | assumption | apply State.bump_keeps | apply State.setReg_keeps
      | fail_if_no_progress refine keeps_lit rfl rfl rfl rfl rfl rfl ?_
    | extract_lets +onlyGivenNames t | split

theorem State.updReq_keeps {z : State} (s : State) (id : Nat) (f : Request → Request) (hk : Keeps z s) :
    Keeps z (State.updReq s id f) := by
  unfold State.updReq
  repeat' first
    | with_reducible
      first
      | assumption | apply Keeps.ite | apply State.setReq_keeps
      | fail_if_no_progress refine keeps_lit rfl rfl rfl rfl rfl rfl ?_
    | intro _ | extract_lets +onlyGivenNames t | split
    | (with_reducible apply keeps_snd (by with_reducible assumption))
    | (with_reducible apply keeps_fst (by with_reducible assumption)) | dsimp only [id] | dsimp +zetaDelta only

theorem State.failRead_keeps {z : State} (s : State) (id : Nat) (line : Nat) (code : Nat) (hk : Keeps z s) :
    Keeps z (State.failRead s id line code) := by
  unfold State.failRead
  repeat' first
    | with_reducible
      first
      | assumption | apply Keeps.ite | apply State.updReq_keeps
    | intro _ | extract_lets +onlyGivenNames t | split
    | (with_reducible apply keeps_snd (by with_reducible assumption))
    | (with_reducible apply keeps_fst (by with_reducible assumption)) | dsimp only [id] | dsimp +zetaDelta only

theorem State.failPage_keeps {z : State} (s : State) (id : Nat) (page : Nat) (code : Nat) (hk : Keeps z s) :
    Keeps z (State.failPage s id page code) := by
  unfold State.failPage
  repeat' first
    | with_reducible
      first
      | assumption | apply Keeps.ite | apply State.updReq_keeps
    | intro _ | extract_lets +onlyGivenNames t | split
    | (with_reducible apply keeps_snd (by with_reducible assumption))
    | (with_reducible apply keeps_fst (by with_reducible assumption)) | dsimp only [id] | dsimp +zetaDelta only

theorem State.readLine_keeps {z : State} (s : State) (line : Nat) (req : Option Nat) (hk : Keeps z s) :
    Keeps z (State.readLine s line req) := by
  unfold State.readLine
  repeat' first
    | with_reducible
      first
      | assumption | apply Keeps.ite | apply State.wantNand_keeps | apply State.issueFor_keeps
      | apply State.failRead_keeps | fail_if_no_progress refine keeps_lit rfl rfl rfl rfl rfl rfl ?_
    | intro _ | extract_lets +onlyGivenNames t | split
    | (with_reducible apply keeps_snd (by with_reducible assumption))
    | (with_reducible apply keeps_fst (by with_reducible assumption)) | dsimp only [id] | dsimp +zetaDelta only

theorem State.readRange_keeps {z : State} (s : State) (a : Nat) (n : Nat) (req : Option Nat) (hk : Keeps z s) :
    Keeps z (State.readRange s a n req) := by
  unfold State.readRange
  repeat' with_reducible
    first
    | assumption | apply Keeps.ite | (apply keeps_foldl; intro _ _ _) | apply State.bump_keeps
    | apply State.readLine_keeps

theorem State.ackAt_keeps {z : State} (s : State) (q : BitVec 24) (psn : BitVec 24) (hk : Keeps z s) :
    Keeps z (State.ackAt s q psn) := by
  unfold State.ackAt
  repeat' first
    | with_reducible
      first
      | assumption | apply State.setQp_keeps | fail_if_no_progress refine keeps_lit rfl rfl rfl rfl rfl rfl ?_
    | extract_lets +onlyGivenNames t | split

theorem State.messageDone_keeps {z : State} (s : State) (q : BitVec 24) (hk : Keeps z s) :
    Keeps z (State.messageDone s q) := by
  unfold State.messageDone
  repeat' first
    | with_reducible
      first
      | assumption | apply State.setQp_keeps | fail_if_no_progress refine keeps_lit rfl rfl rfl rfl rfl rfl ?_
    | extract_lets +onlyGivenNames t | split

theorem State.launch_keeps {z : State} (s : State) (r : Request) (hk : Keeps z s) :
    Keeps z (State.launch s r) := by
  unfold State.launch
  repeat' first
    | with_reducible
      first
      | assumption | apply Keeps.ite | apply State.readLine_keeps | apply State.bump_keeps | apply State.setReq_keeps
      | apply State.addReq_keeps | (apply keeps_foldl; intro _ _ _) | (apply keeps_foldl_fst; intro _ _ _)
      | fail_if_no_progress refine keeps_lit rfl rfl rfl rfl rfl rfl ?_
    | intro _ | extract_lets +onlyGivenNames t | split
    | (with_reducible apply keeps_snd (by with_reducible assumption))
    | (with_reducible apply keeps_fst (by with_reducible assumption)) | dsimp only [id] | dsimp +zetaDelta only

theorem State.refuse_keeps {z : State} (s : State) (p : Pkt) (rkey : Word) (code : Nat) (hk : Keeps z s) :
    Keeps z (State.refuse s p rkey code) := by
  unfold State.refuse
  repeat' with_reducible first | assumption | apply State.nakCode_keeps | apply State.noteRefusal_keeps

/-! Machine/Receive.lean -/

theorem State.congested_keeps {z : State} (s : State) (p : Pkt) (hk : Keeps z s) :
    Keeps z (State.congested s p) := by
  unfold State.congested
  repeat' first
    | with_reducible
      first
      | assumption | apply Keeps.ite | apply State.setQp_keeps | apply State.bump_keeps | apply State.release_keeps
      | fail_if_no_progress refine keeps_lit rfl rfl rfl rfl rfl rfl ?_
    | extract_lets +onlyGivenNames t | split

theorem State.gotCnp_keeps {z : State} (s : State) (q : BitVec 24) (c : Qp) (hk : Keeps z s) :
    Keeps z (State.gotCnp s q c) := by
  unfold State.gotCnp
  repeat' with_reducible first | assumption | apply Keeps.ite | apply State.bump_keeps | apply State.setQp_keeps

theorem State.requesterError_keeps {z : State} (s : State) (q : BitVec 24) (hk : Keeps z s) :
    Keeps z (State.requesterError s q) := by
  unfold State.requesterError
  repeat' with_reducible first | assumption | apply State.notify_keeps | apply State.qpError_keeps

theorem State.gotAck_keeps {z : State} (s : State) (p : Pkt) (c : Qp) (k : AckKind) (hk : Keeps z s) :
    Keeps z (State.gotAck s p c k) := by
  unfold State.gotAck
  repeat' first
    | with_reducible
      first
      | assumption | apply Keeps.ite | apply State.setQp_keeps | apply State.requesterError_keeps
      | apply State.retransmit_keeps | fail_if_no_progress refine keeps_lit rfl rfl rfl rfl rfl rfl ?_
    | (extract_lets +onlyGivenNames t; have ht : Keeps z t := ?_; clear_value t; rotate_left)
    | extract_lets +onlyGivenNames t | split

theorem State.invalid_keeps {z : State} (s : State) (p : Pkt) (hk : Keeps z s) :
    Keeps z (State.invalid s p) := by
  unfold State.invalid
  repeat' with_reducible first | assumption | apply State.nakCode_keeps

theorem State.ahead_keeps {z : State} (s : State) (p : Pkt) (c : Qp) (hk : Keeps z s) :
    Keeps z (State.ahead s p c) := by
  unfold State.ahead
  repeat' with_reducible
    first
    | assumption | apply Keeps.ite | apply State.setQp_keeps | apply State.bump_keeps | apply State.release_keeps

theorem State.noEntry_keeps {z : State} (s : State) (p : Pkt) (hk : Keeps z s) :
    Keeps z (State.noEntry s p) := by
  unfold State.noEntry
  repeat' with_reducible first | assumption | apply State.nakRnr_keeps

theorem State.admitRead_keeps {z : State} (s : State) (p : Pkt) (c : Qp) (r : Reth) (skip : Nat) (fresh : Bool) (hk : Keeps z s) :
    Keeps z (State.admitRead s p c r skip fresh) := by
  unfold State.admitRead
  repeat' first
    | with_reducible
      first
      | assumption | apply Keeps.ite | apply State.launch_keeps | apply State.setQp_keeps | apply State.addOpt_keeps
      | apply State.noEntry_keeps | apply State.invalid_keeps | apply State.refuse_keeps
      | fail_if_no_progress refine keeps_lit rfl rfl rfl rfl rfl rfl ?_
    | intro _ | extract_lets +onlyGivenNames t | split
    | (with_reducible apply keeps_snd (by with_reducible assumption))
    | (with_reducible apply keeps_fst (by with_reducible assumption)) | dsimp +zetaDelta only

theorem State.emptyRead_keeps {z : State} (s : State) (p : Pkt) (c : Qp) (hk : Keeps z s) :
    Keeps z (State.emptyRead s p c) := by
  unfold State.emptyRead
  repeat' with_reducible first | assumption | apply State.setQp_keeps | apply State.release_keeps

theorem State.emptyWrite_keeps {z : State} (s : State) (p : Pkt) (c : Qp) (hk : Keeps z s) :
    Keeps z (State.emptyWrite s p c) := by
  unfold State.emptyWrite
  repeat' with_reducible first | assumption | apply State.setQp_keeps | apply State.ackAt_keeps

theorem State.admitWrite_keeps {z : State} (s : State) (p : Pkt) (c : Qp) (r : Reth) (only : Bool) (payload : List Byte) (hk : Keeps z s) :
    Keeps z (State.admitWrite s p c r only payload) := by
  unfold State.admitWrite
  repeat' with_reducible
    first
    | assumption | apply Keeps.ite | apply State.refuse_keeps | apply State.noEntry_keeps | apply State.addOpt_keeps
    | apply State.setQp_keeps | apply State.launch_keeps

theorem State.admitWriteNext_keeps {z : State} (s : State) (p : Pkt) (c : Qp) (m : OpenMsg) (last : Bool) (payload : List Byte) (hk : Keeps z s) :
    Keeps z (State.admitWriteNext s p c m last payload) := by
  unfold State.admitWriteNext
  repeat' with_reducible
    first
    | assumption | apply Keeps.ite | apply State.refuse_keeps | apply State.setQp_keeps | apply State.launch_keeps
    | fail_if_no_progress refine keeps_lit rfl rfl rfl rfl rfl rfl ?_

theorem State.repeatAtomic_keeps {z : State} (s : State) (p : Pkt) (c : Qp) (kind : OptKind) (rkey : Word) (va : DWord)
    (ops : List DWord) (seq : Nat) (rest : List Nat) (hk : Keeps z s) :
    Keeps z (State.repeatAtomic s p c kind rkey va ops seq rest) := by
  unfold State.repeatAtomic
  extract_lets k hit two
  cases hit with
  | none => exact State.nakCode_keeps _ _ _ _ (State.setQp_keeps _ _ _ hk)
  | some o =>
    refine Keeps.ite ?_ (State.nakCode_keeps _ _ _ _ (State.setQp_keeps _ _ _ hk))
    exact State.release_keeps _ _ _ (State.bump_keeps _ _ (State.setQp_keeps _ _ _ hk))

theorem State.admitAtomic_keeps {z : State} (s : State) (p : Pkt) (c : Qp) (kind : OptKind) (rkey : Word) (va : DWord) (ops : List DWord) (hk : Keeps z s) :
    Keeps z (State.admitAtomic s p c kind rkey va ops) := by
  unfold State.admitAtomic
  repeat' first
    | with_reducible
      first
      | assumption | apply Keeps.ite | apply State.launch_keeps | apply State.setQp_keeps | apply State.addOpt_keeps
      | apply State.noEntry_keeps | apply State.invalid_keeps | apply State.refuse_keeps
      | apply State.repeatAtomic_keeps | fail_if_no_progress refine keeps_lit rfl rfl rfl rfl rfl rfl ?_
    | intro _ | extract_lets +onlyGivenNames t | split
    | (with_reducible apply keeps_snd (by with_reducible assumption))
    | (with_reducible apply keeps_fst (by with_reducible assumption)) | dsimp +zetaDelta only

theorem State.admitFlush_keeps {z : State} (s : State) (p : Pkt) (c : Qp) (r : Reth) (sel : Byte) (fresh : Bool) (hk : Keeps z s) :
    Keeps z (State.admitFlush s p c r sel fresh) := by
  unfold State.admitFlush
  repeat' first
    | with_reducible
      first
      | assumption | apply Keeps.ite | apply State.launch_keeps | apply State.setQp_keeps | apply State.addOpt_keeps
      | apply State.noEntry_keeps | apply State.refuse_keeps
      | fail_if_no_progress refine keeps_lit rfl rfl rfl rfl rfl rfl ?_
    | intro _ | extract_lets +onlyGivenNames t | split
    | (with_reducible apply keeps_snd (by with_reducible assumption))
    | (with_reducible apply keeps_fst (by with_reducible assumption)) | dsimp +zetaDelta only

theorem State.replyNow_keeps {z : State} (s : State) (q : BitVec 24) (m : List Byte) (code : Nat) (hk : Keeps z s) :
    Keeps z (State.replyNow s q m code) := by
  unfold State.replyNow
  repeat' with_reducible first | assumption | apply State.sendMsg_keeps

theorem State.admitInvoke_keeps {z : State} (s : State) (p : Pkt) (c : Qp) (m : List Byte) (hk : Keeps z s) :
    Keeps z (State.admitInvoke s p c m) := by
  unfold State.admitInvoke
  repeat' first
    | with_reducible
      first
      | assumption | apply Keeps.ite | apply State.launch_keeps | apply State.addOpt_keeps | apply State.noEntry_keeps
      | apply State.replyNow_keeps | apply State.noteRefusal_keeps | apply State.ackAt_keeps | apply State.setQp_keeps
      | fail_if_no_progress refine keeps_lit rfl rfl rfl rfl rfl rfl ?_
    | intro _ | extract_lets +onlyGivenNames t | split
    | (with_reducible apply keeps_snd (by with_reducible assumption))
    | (with_reducible apply keeps_fst (by with_reducible assumption)) | dsimp +zetaDelta only

theorem State.admitSend_keeps {z : State} (s : State) (p : Pkt) (c : Qp) (part : Part) (payload : List Byte) (hk : Keeps z s) :
    Keeps z (State.admitSend s p c part payload) := by
  unfold State.admitSend
  repeat' with_reducible
    first
    | assumption | apply Keeps.ite | apply State.invalid_keeps | apply State.admitInvoke_keeps
    | apply State.setQp_keeps | apply State.ackAt_keeps

theorem State.process_keeps {z : State} (s : State) (p : Pkt) (c : Qp) (b : ReqBody) (hk : Keeps z s) :
    Keeps z (State.process s p c b) := by
  unfold State.process
  repeat' first
    | with_reducible
      first
      | assumption | apply Keeps.ite | apply State.invalid_keeps | apply State.setQp_keeps
      | apply State.emptyRead_keeps | apply State.admitRead_keeps | apply State.emptyWrite_keeps
      | apply State.admitWrite_keeps | apply State.admitWriteNext_keeps | apply State.admitAtomic_keeps
      | apply State.admitFlush_keeps | apply State.admitSend_keeps
      | fail_if_no_progress refine keeps_lit rfl rfl rfl rfl rfl rfl ?_
    | extract_lets +onlyGivenNames t | split

theorem State.duplicateAtomic_keeps {z : State} (s : State) (p : Pkt) (c : Qp) (hk : Keeps z s) :
    Keeps z (State.duplicateAtomic s p c) := by
  unfold State.duplicateAtomic
  repeat' first
    | with_reducible
      first
      | assumption | apply Keeps.ite | apply State.release_keeps | apply State.invalid_keeps
      | fail_if_no_progress refine keeps_lit rfl rfl rfl rfl rfl rfl ?_
    | extract_lets +onlyGivenNames t | split

theorem State.duplicate_keeps {z : State} (s : State) (p : Pkt) (c : Qp) (b : ReqBody) (hk : Keeps z s) :
    Keeps z (State.duplicate s p c b) := by
  unfold State.duplicate
  repeat' first
    | with_reducible
      first
      | assumption | apply Keeps.ite | apply State.bump_keeps | apply State.release_keeps
      | apply State.admitRead_keeps | apply State.invalid_keeps | apply State.duplicateAtomic_keeps
      | apply State.admitFlush_keeps | fail_if_no_progress refine keeps_lit rfl rfl rfl rfl rfl rfl ?_
    | (extract_lets +onlyGivenNames t; have ht : Keeps z t := ?_; clear_value t; rotate_left)
    | extract_lets +onlyGivenNames t | split

theorem State.psnCheck_keeps {z : State} (s : State) (p : Pkt) (c : Qp) (b : ReqBody) (headersOnly : Bool) (hk : Keeps z s) :
    Keeps z (State.psnCheck s p c b headersOnly) := by
  unfold State.psnCheck
  repeat' with_reducible
    first
    | assumption | apply Keeps.ite | apply State.nakRnr_keeps | apply State.process_keeps | apply State.invalid_keeps
    | apply State.duplicate_keeps | apply State.ahead_keeps

theorem State.admitPkt_keeps {z : State} (s : State) (p : Pkt) (b : ReqBody) (headersOnly : Bool) (hk : Keeps z s) :
    Keeps z (State.admitPkt s p b headersOnly) := by
  unfold State.admitPkt
  repeat' first
    | with_reducible
      first
      | assumption | apply Keeps.ite | apply State.psnCheck_keeps | apply State.release_keeps
      | apply State.gotCnp_keeps | apply State.gotAck_keeps | apply State.congested_keeps
      | fail_if_no_progress refine keeps_lit rfl rfl rfl rfl rfl rfl ?_
    | intro _ | extract_lets +onlyGivenNames t | split
    | (with_reducible apply keeps_snd (by with_reducible assumption))
    | (with_reducible apply keeps_fst (by with_reducible assumption)) | dsimp +zetaDelta only

theorem State.descriptorReady_keeps {z : State} (s : State) (key : Option Nat) (hk : Keeps z s) :
    Keeps z (State.descriptorReady s key).2 := by
  unfold State.descriptorReady
  repeat' first
    | with_reducible
      first
      | assumption | apply State.keyTouch_keeps | fail_if_no_progress refine keeps_lit rfl rfl rfl rfl rfl rfl ?_
    | extract_lets +onlyGivenNames t | split

theorem State.arrive_keeps {z : State} (s : State) (p : Pkt) (bth : Nat) (b : ReqBody) (k : State → State) (hfk : ∀ (s : State), Keeps z s → Keeps z (k s)) (hk : Keeps z s) :
    Keeps z (State.arrive s p bth b k) := by
  unfold State.arrive
  repeat' first
    | with_reducible
      first
      | assumption | apply Keeps.ite | apply State.captureQp_keeps | apply State.ingress_keeps
      | apply State.bump_keeps
    | apply hfk | intro _ | extract_lets +onlyGivenNames t | split
    | (with_reducible apply keeps_snd (by with_reducible assumption))
    | (with_reducible apply keeps_fst (by with_reducible assumption)) | dsimp +zetaDelta only

theorem State.receiveThen_keeps {z : State} (s : State) (p : Pkt) (bth : Nat) (b : ReqBody) (check : State → State) (hfcheck : ∀ (s : State), Keeps z s → Keeps z (check s)) (hk : Keeps z s) :
    Keeps z (State.receiveThen s p bth b check) := by
  unfold State.receiveThen
  repeat' first
    | with_reducible
      first
      | assumption | apply Keeps.ite | apply State.ctxFetch_keeps | apply State.joinMiss_keeps
      | apply State.ctxHit_keeps | apply State.descriptorReady_keeps | apply State.arrive_keeps
      | fail_if_no_progress refine keeps_lit rfl rfl rfl rfl rfl rfl ?_
    | apply hfcheck | intro _ | extract_lets +onlyGivenNames t | split
    | (with_reducible apply keeps_snd (by with_reducible assumption))
    | (with_reducible apply keeps_fst (by with_reducible assumption)) | dsimp +zetaDelta only

theorem State.receive_keeps {z : State} (s : State) (p : Pkt) (bth : Nat) (b : ReqBody) (hk : Keeps z s) :
    Keeps z (State.receive s p bth b) := by
  unfold State.receive
  repeat' first
    | with_reducible
      first
      | assumption | apply Keeps.ite | apply State.admitPkt_keeps | apply State.receiveThen_keeps
    | intro _ | extract_lets +onlyGivenNames t | split
    | (with_reducible apply keeps_snd (by with_reducible assumption))
    | (with_reducible apply keeps_fst (by with_reducible assumption)) | dsimp +zetaDelta only

theorem State.drainMiss_keeps {z : State} (s : State) (q : BitVec 24) (hk : Keeps z s) :
    Keeps z (State.drainMiss s q) := by
  unfold State.drainMiss
  split
  next es s1 e1 =>
    have h1 : Keeps z s1 := keeps_snd e1 (State.takeMiss_keeps _ _ hk)
    split
    next s2 kept e2 =>
      have h2 : Keeps z s2 := by
        refine keeps_fst e2 (keeps_foldl_fst _ _ (fun a e h => ?_) h1)
        split
        · exact State.admitPkt_keeps _ _ _ _ h
        · dsimp only
          split
          · split
            · exact Keeps.ite h (State.keyTouch_keeps _ _ h)
            · exact h
          · exact h
      exact keeps_foldl _ _ (fun s e h => keeps_lit rfl rfl rfl rfl rfl rfl h) h2

theorem State.flushAck_keeps {z : State} (s : State) (q : BitVec 24) (hk : Keeps z s) :
    Keeps z (State.flushAck s q) := by
  unfold State.flushAck
  repeat' first
    | with_reducible
      first
      | assumption | apply Keeps.ite | apply State.release_keeps | apply State.setQp_keeps | apply State.freeOpt_keeps
      | (apply keeps_foldl; intro _ _ _) | (apply keeps_foldl_fst; intro _ _ _)
      | fail_if_no_progress refine keeps_lit rfl rfl rfl rfl rfl rfl ?_
    | intro _ | extract_lets +onlyGivenNames t | split
    | (with_reducible apply keeps_snd (by with_reducible assumption))
    | (with_reducible apply keeps_fst (by with_reducible assumption)) | dsimp +zetaDelta only

theorem State.flushAcks_keeps {z : State} (s : State) (hk : Keeps z s) :
    Keeps z (State.flushAcks s) := by
  unfold State.flushAcks
  repeat' first
    | with_reducible
      first
      | assumption | apply Keeps.ite | apply State.flushAck_keeps | (apply keeps_foldl; intro _ _ _)
      | (apply keeps_foldl_fst; intro _ _ _)
    | intro _ | extract_lets +onlyGivenNames t | split
    | (with_reducible apply keeps_snd (by with_reducible assumption))
    | (with_reducible apply keeps_fst (by with_reducible assumption)) | dsimp +zetaDelta only

/-! Machine/Operands.lean -/

theorem State.setCtx_keeps {z : State} (s : State) (ag : Agent) (c : Ctx) (hk : Keeps z s) :
    Keeps z (State.setCtx s ag c) := by
  unfold State.setCtx
  repeat' first
    | with_reducible
      first
      | assumption | apply State.setReq_keeps | fail_if_no_progress refine keeps_lit rfl rfl rfl rfl rfl rfl ?_
    | extract_lets +onlyGivenNames t | split

theorem State.advance_keeps {z : State} (s : State) (ag : Agent) (hk : Keeps z s) :
    Keeps z (State.advance s ag) := by
  unfold State.advance
  repeat' with_reducible first | assumption | apply State.setCtx_keeps

theorem State.readFlash_keeps {z : State} (s : State) (bankB : Bool) (o : Nat) (hk : Keeps z s) :
    Keeps z (State.readFlash s bankB o) := by
  unfold State.readFlash
  repeat' with_reducible
    first
    | assumption | apply Keeps.ite | fail_if_no_progress refine keeps_lit rfl rfl rfl rfl rfl rfl ?_

theorem State.dropLine_keeps {z : State} (s : State) (hk : Keeps z s) :
    Keeps z (State.dropLine s) := by
  unfold State.dropLine
  repeat' first
    | with_reducible
      first
      | assumption | apply Keeps.ite | fail_if_no_progress refine keeps_lit rfl rfl rfl rfl rfl rfl ?_
    | intro _ | extract_lets +onlyGivenNames t | split
    | (with_reducible apply keeps_snd (by with_reducible assumption))
    | (with_reducible apply keeps_fst (by with_reducible assumption)) | dsimp +zetaDelta only

theorem State.buffer_keeps {z : State} (s : State) (w : DWord) (hk : Keeps z s) :
    Keeps z (State.buffer s w) := by
  unfold State.buffer
  repeat' first
    | with_reducible first | assumption | apply Keeps.ite | fail_if_no_progress refine keeps_lit rfl rfl rfl rfl rfl rfl ?_
    | extract_lets +onlyGivenNames t | split

theorem State.trap_keeps {z : State} (s : State) (i : Fin 512) (id : Nat) (r : Request) (t : Trap) (hk : Keeps z s) :
    Keeps z (State.trap s i id r t) := by
  unfold State.trap
  repeat' with_reducible
    first
    | assumption | apply State.bump_keeps | apply State.setReg_keeps | apply State.endReq_keeps
    | fail_if_no_progress refine keeps_lit rfl rfl rfl rfl rfl rfl ?_

theorem State.setCsr_keeps {z : State} (s : State) (n : Nat) (v : DWord) (hk : Keeps z s) :
    Keeps z (State.setCsr s n v) := by
  unfold State.setCsr
  exact keeps_lit rfl rfl rfl rfl rfl rfl hk

theorem State.mcpTrap_keeps {z : State} (s : State) (x : Nat) (cause : Nat) (val : Nat) (hk : Keeps z s) :
    Keeps z (State.mcpTrap s x cause val) := by
  unfold State.mcpTrap
  repeat' with_reducible
    first
    | assumption | apply Keeps.ite | apply State.report_keeps | apply State.setCsr_keeps
    | fail_if_no_progress refine keeps_lit rfl rfl rfl rfl rfl rfl ?_

theorem State.illegal_keeps {z : State} (s : State) (ag : Agent) (t : Trap) (hk : Keeps z s) :
    Keeps z (State.illegal s ag t) := by
  unfold State.illegal
  repeat' first
    | with_reducible
      first
      | assumption | apply State.trap_keeps | apply State.mcpTrap_keeps
      | fail_if_no_progress refine keeps_lit rfl rfl rfl rfl rfl rfl ?_
    | extract_lets +onlyGivenNames t | split

theorem State.spend_keeps {z : State} (s : State) (ag : Agent) (n : Nat) (hk : Keeps z s) :
    Keeps z (State.spend s ag n) := by
  unfold State.spend
  repeat' first
    | with_reducible
      first
      | assumption | apply Keeps.ite | fail_if_no_progress refine keeps_lit rfl rfl rfl rfl rfl rfl ?_
    | intro _ | extract_lets +onlyGivenNames t | split
    | (with_reducible apply keeps_snd (by with_reducible assumption))
    | (with_reducible apply keeps_fst (by with_reducible assumption)) | dsimp +zetaDelta only

theorem State.takeTurn_keeps {z : State} (s : State) (i : Fin 512) (hk : Keeps z s) :
    Keeps z (State.takeTurn s i) := by
  unfold State.takeTurn
  repeat' first
    | with_reducible
      first
      | assumption | apply Keeps.ite | (apply keeps_foldl; intro _ _ _) | (apply keeps_foldl_fst; intro _ _ _)
      | fail_if_no_progress refine keeps_lit rfl rfl rfl rfl rfl rfl ?_
    | intro _ | extract_lets +onlyGivenNames t | split
    | (with_reducible apply keeps_snd (by with_reducible assumption))
    | (with_reducible apply keeps_fst (by with_reducible assumption)) | dsimp +zetaDelta only

theorem State.fillIcache_keeps {z : State} (s : State) (i : Fin 512) (hk : Keeps z s) :
    Keeps z (State.fillIcache s i) := by
  unfold State.fillIcache
  repeat' first
    | with_reducible
      first
      | assumption | apply Keeps.ite | apply State.takeWord_keeps
      | fail_if_no_progress refine keeps_lit rfl rfl rfl rfl rfl rfl ?_
    | intro _ | extract_lets +onlyGivenNames t | split
    | (with_reducible apply keeps_snd (by with_reducible assumption))
    | (with_reducible apply keeps_fst (by with_reducible assumption)) | dsimp +zetaDelta only

theorem State.took_keeps {z : State} (s : State) (ag : Agent) (w : DWord) (hk : Keeps z s) :
    Keeps z (State.took s ag w) := by
  unfold State.took
  repeat' first
    | with_reducible
      first
      | assumption | apply Keeps.ite | apply State.buffer_keeps | apply State.takeTurn_keeps
      | apply State.fillIcache_keeps | fail_if_no_progress refine keeps_lit rfl rfl rfl rfl rfl rfl ?_
    | intro _ | extract_lets +onlyGivenNames t | split
    | (with_reducible apply keeps_snd (by with_reducible assumption))
    | (with_reducible apply keeps_fst (by with_reducible assumption)) | dsimp +zetaDelta only

theorem State.instruct_keeps {z : State} (s : State) (ag : Agent) (w : DWord) (row : Row) (body : State → State) (hbody : ∀ (s : State), Keeps z s → Keeps z (body s)) (hk : Keeps z s) :
    Keeps z (State.instruct s ag w row body) := by
  unfold State.instruct
  repeat' first
    | with_reducible
      first
      | assumption | apply KeepsR.next | apply Keeps.ite | apply State.mcpTrap_keeps | apply State.illegal_keeps
      | apply State.took_keeps | apply State.advance_keeps | apply State.spend_keeps
      | fail_if_no_progress refine keeps_lit rfl rfl rfl rfl rfl rfl ?_
    | apply hbody | intro _ | extract_lets +onlyGivenNames t | split

theorem State.writesG_keeps {z : State} (s : State) (ag : Agent) (w : DWord) (row : Row) (f : Ctx → DWord) (hk : Keeps z s) :
    Keeps z (State.writesG s ag w row f) := by
  unfold State.writesG
  repeat' first
    | with_reducible
      first
      | assumption | apply State.instruct_keeps | apply State.setCtx_keeps
      | fail_if_no_progress refine keeps_lit rfl rfl rfl rfl rfl rfl ?_
    | intro _

theorem State.writesP_keeps {z : State} (s : State) (ag : Agent) (w : DWord) (row : Row) (f : Ctx → Bool) (hk : Keeps z s) :
    Keeps z (State.writesP s ag w row f) := by
  unfold State.writesP
  repeat' first
    | with_reducible
      first
      | assumption | apply State.instruct_keeps | apply State.setCtx_keeps
      | fail_if_no_progress refine keeps_lit rfl rfl rfl rfl rfl rfl ?_
    | intro _

theorem State.clauseOp_keeps {z : State} (s : State) (ag : Agent) (w : DWord) (row : Row) (body : State → Fin 512 → Nat → Request → State) (hbody : ∀ (s : State) (y1) (y2) (y3), Keeps z s → Keeps z (body s y1 y2 y3)) (hk : Keeps z s) :
    Keeps z (State.clauseOp s ag w row body) := by
  unfold State.clauseOp
  repeat' first
    | with_reducible
      first
      | assumption | apply KeepsR.next | apply State.instruct_keeps
      | fail_if_no_progress refine keeps_lit rfl rfl rfl rfl rfl rfl ?_
    | apply hbody | intro _ | extract_lets +onlyGivenNames t | split

theorem State.goOn_keeps {z : State} (s : State) (id : Nat) (r : Request) (hk : Keeps z s) :
    Keeps z (State.goOn s id r) := by
  unfold State.goOn
  repeat' with_reducible first | assumption | apply State.setReq_keeps

/-! Machine/Clauses.lean -/

theorem State.endSegment_keeps {z : State} (s : State) (id : Nat) (r : Request) (st : ReqState) (hk : Keeps z s) :
    Keeps z (State.endSegment s id r st) := by
  unfold State.endSegment
  repeat' with_reducible
    first
    | assumption | apply State.setReq_keeps | fail_if_no_progress refine keeps_lit rfl rfl rfl rfl rfl rfl ?_

theorem State.toRestart_keeps {z : State} (s : State) (id : Nat) (hk : Keeps z s) :
    Keeps z (State.toRestart s id) := by
  unfold State.toRestart
  repeat' first
    | with_reducible
      first
      | assumption | apply Keeps.ite | apply State.endSegment_keeps | apply State.dropTiles_keeps
      | fail_if_no_progress refine keeps_lit rfl rfl rfl rfl rfl rfl ?_
    | intro _ | extract_lets +onlyGivenNames t | split
    | (with_reducible apply keeps_snd (by with_reducible assumption))
    | (with_reducible apply keeps_fst (by with_reducible assumption)) | dsimp only [id] | dsimp +zetaDelta only

theorem State.fetchUe_keeps {z : State} (s : State) (i : Fin 512) (id : Nat) (r : Request) (hk : Keeps z s) :
    Keeps z (State.fetchUe s i id r) := by
  unfold State.fetchUe
  repeat' first
    | with_reducible
      first
      | assumption | apply Keeps.ite | apply State.toRestart_keeps | apply State.setReq_keeps
      | apply State.setReg_keeps | apply State.trap_keeps | apply State.report_keeps | apply State.bump_keeps
      | fail_if_no_progress refine keeps_lit rfl rfl rfl rfl rfl rfl ?_
    | intro _ | extract_lets +onlyGivenNames t | split
    | (with_reducible apply keeps_snd (by with_reducible assumption))
    | (with_reducible apply keeps_fst (by with_reducible assumption)) | dsimp only [id] | dsimp +zetaDelta only

theorem State.give_keeps {z : State} (s : State) (q : BitVec 24) (a : Answer) (hk : Keeps z s) :
    Keeps z (State.give s q a) := by
  unfold State.give
  repeat' first
    | with_reducible
      first
      | assumption | apply Keeps.ite | apply State.release_keeps | apply State.setQp_keeps | apply State.freeOpt_keeps
      | apply State.messageDone_keeps | apply State.sendMsg_keeps
      | fail_if_no_progress refine keeps_lit rfl rfl rfl rfl rfl rfl ?_
    | intro _ | extract_lets +onlyGivenNames t | split
    | (with_reducible apply keeps_snd (by with_reducible assumption))
    | (with_reducible apply keeps_fst (by with_reducible assumption)) | dsimp +zetaDelta only

theorem State.answer_keeps {z : State} (s : State) (q : BitVec 24) (a : Answer) (ks : List OutcomeKey) (hk : Keeps z s) :
    Keeps z (State.answer s q a ks) := by
  unfold State.answer
  repeat' with_reducible
    first
    | assumption | apply Keeps.ite | apply State.give_keeps
    | fail_if_no_progress refine keeps_lit rfl rfl rfl rfl rfl rfl ?_

theorem State.releaseAnswers_keeps {z : State} (s : State) (hk : Keeps z s) :
    Keeps z (State.releaseAnswers s) := by
  unfold State.releaseAnswers
  repeat' with_reducible
    first
    | assumption | (apply keeps_foldl; intro _ _ _) | apply State.give_keeps
    | fail_if_no_progress refine keeps_lit rfl rfl rfl rfl rfl rfl ?_

theorem State.respond_keeps {z : State} (s : State) (r : Request) (first : Nat) (n : Nat) (bytes : List Byte) (hk : Keeps z s) :
    Keeps z (State.respond s r first n bytes) := by
  unfold State.respond
  repeat' first
    | with_reducible
      first
      | assumption | apply Keeps.ite | (apply keeps_foldl; intro _ _ _) | apply State.freeOpt_keeps
      | apply State.release_keeps | fail_if_no_progress refine keeps_lit rfl rfl rfl rfl rfl rfl ?_
    | intro _ | extract_lets +onlyGivenNames t | split

theorem State.readParts_keeps {z : State} (s : State) (r : Request) (ps : List (Nat × Nat)) (req : Option Nat) (hk : Keeps z s) :
    Keeps z (State.readParts s r ps req) := by
  unfold State.readParts
  repeat' first
    | with_reducible
      first
      | assumption | apply Keeps.ite | apply State.readRange_keeps | (apply keeps_foldl; intro _ _ _)
      | (apply keeps_foldl_fst; intro _ _ _)
    | intro _ | extract_lets +onlyGivenNames t | split
    | (with_reducible apply keeps_snd (by with_reducible assumption))
    | (with_reducible apply keeps_fst (by with_reducible assumption)) | dsimp +zetaDelta only

theorem State.messageEnds_keeps {z : State} (s : State) (r : Request) (hk : Keeps z s) :
    Keeps z (State.messageEnds s r) := by
  unfold State.messageEnds
  repeat' first
    | with_reducible
      first
      | assumption | apply Keeps.ite | apply State.messageDone_keeps
    | intro _ | extract_lets +onlyGivenNames t | split
    | (with_reducible apply keeps_snd (by with_reducible assumption))
    | (with_reducible apply keeps_fst (by with_reducible assumption)) | dsimp +zetaDelta only

theorem State.postResponse_keeps {z : State} (s : State) (id : Nat) (r : Request) (hk : Keeps z s) :
    Keeps z (State.postResponse s id r) := by
  unfold State.postResponse
  repeat' first
    | with_reducible
      first
      | assumption | apply Keeps.ite | apply State.readParts_keeps | apply State.setReq_keeps
      | apply State.messageEnds_keeps | apply State.respond_keeps
      | fail_if_no_progress refine keeps_lit rfl rfl rfl rfl rfl rfl ?_
    | intro _ | extract_lets +onlyGivenNames t | split
    | (with_reducible apply keeps_snd (by with_reducible assumption))
    | (with_reducible apply keeps_fst (by with_reducible assumption)) | dsimp only [id] | dsimp +zetaDelta only

theorem State.postAck_keeps {z : State} (s : State) (r : Request) (hk : Keeps z s) :
    Keeps z (State.postAck s r) := by
  unfold State.postAck
  repeat' first
    | with_reducible
      first
      | assumption | apply Keeps.ite | apply State.ackAt_keeps | apply State.freeOpt_keeps | apply State.setQp_keeps
      | apply State.messageDone_keeps | fail_if_no_progress refine keeps_lit rfl rfl rfl rfl rfl rfl ?_
    | intro _ | extract_lets +onlyGivenNames t | split
    | (with_reducible apply keeps_snd (by with_reducible assumption))
    | (with_reducible apply keeps_fst (by with_reducible assumption)) | dsimp +zetaDelta only

theorem State.postFlushAck_keeps {z : State} (s : State) (r : Request) (hk : Keeps z s) :
    Keeps z (State.postFlushAck s r) := by
  unfold State.postFlushAck
  repeat' first
    | with_reducible
      first
      | assumption | apply Keeps.ite | apply State.release_keeps | apply State.setQp_keeps | apply State.freeOpt_keeps
      | apply State.messageEnds_keeps | fail_if_no_progress refine keeps_lit rfl rfl rfl rfl rfl rfl ?_
    | intro _ | extract_lets +onlyGivenNames t | split
    | (with_reducible apply keeps_snd (by with_reducible assumption))
    | (with_reducible apply keeps_fst (by with_reducible assumption)) | dsimp +zetaDelta only

theorem State.releasePost_keeps {z : State} (s : State) (id : Nat) (r : Request) (hk : Keeps z s) :
    Keeps z (State.releasePost s id r) := by
  unfold State.releasePost
  repeat' first
    | with_reducible
      first
      | assumption | apply State.postResponse_keeps | apply State.postAck_keeps | apply State.answer_keeps
      | apply State.postFlushAck_keeps | fail_if_no_progress refine keeps_lit rfl rfl rfl rfl rfl rfl ?_
    | extract_lets +onlyGivenNames t | split

theorem State.deferCommit_keeps {z : State} (s : State) (id : Nat) (r : Request) (sub : Nat) (reads : List Nat) (pages : List Nat) (admission : Bool) (hk : Keeps z s) :
    Keeps z (State.deferCommit s id r sub reads pages admission) := by
  unfold State.deferCommit
  repeat' with_reducible
    first
    | assumption | apply Keeps.ite | (apply keeps_foldl; intro _ _ _) | apply State.bump_keeps
    | apply State.endSegment_keeps | apply State.readLine_keeps
    | fail_if_no_progress refine keeps_lit rfl rfl rfl rfl rfl rfl ?_

theorem State.countClause_keeps {z : State} (s : State) (r : Request) (final : Bool) (hk : Keeps z s) :
    Keeps z (State.countClause s r final) := by
  unfold State.countClause
  repeat' first
    | with_reducible
      first
      | assumption | apply Keeps.ite | apply State.addMeter_keeps | (apply keeps_foldl; intro _ _ _)
      | (apply keeps_foldl_fst; intro _ _ _) | fail_if_no_progress refine keeps_lit rfl rfl rfl rfl rfl rfl ?_
    | intro _ | extract_lets +onlyGivenNames t | split
    | (with_reducible apply keeps_snd (by with_reducible assumption))
    | (with_reducible apply keeps_fst (by with_reducible assumption)) | dsimp +zetaDelta only

theorem State.queueNotifies_keeps {z : State} (s : State) (ns : List (Nat × List Byte)) (hk : Keeps z s) :
    Keeps z (State.queueNotifies s ns) := by
  unfold State.queueNotifies
  exact keeps_lit rfl rfl rfl rfl rfl rfl hk

theorem State.acceptClause_keeps {z : State} (s : State) (r : Request) (sub : Nat) (hk : Keeps z s) :
    Keeps z (State.acceptClause s r sub) := by
  unfold State.acceptClause
  repeat' first
    | with_reducible
      first
      | assumption | apply Keeps.ite | apply State.bump_keeps | apply State.accept_keeps | apply State.bumpBy_keeps
      | fail_if_no_progress refine keeps_lit rfl rfl rfl rfl rfl rfl ?_
    | intro _ | extract_lets +onlyGivenNames t | split
    | (with_reducible apply keeps_snd (by with_reducible assumption))
    | (with_reducible apply keeps_fst (by with_reducible assumption)) | dsimp +zetaDelta only

theorem State.retire_keeps {z : State} (s : State) (id : Nat) (answered : Bool) (hk : Keeps z s) :
    Keeps z (State.retire s id answered) := by
  unfold State.retire
  repeat' first
    | with_reducible
      first
      | assumption | apply Keeps.ite | apply State.dropTiles_keeps | apply State.endSegment_keeps
      | apply State.dropReq_keeps | apply State.answerEnded_keeps
      | fail_if_no_progress refine keeps_lit rfl rfl rfl rfl rfl rfl ?_
    | (extract_lets +onlyGivenNames t; have ht : Keeps z t := ?_; clear_value t; rotate_left)
    | extract_lets +onlyGivenNames t | split

theorem State.commit_keeps {z : State} (s : State) (i : Fin 512) (id : Nat) (r : Request) (sub : Nat) (hk : Keeps z s) :
    Keeps z (State.commit s i id r sub) := by
  unfold State.commit
  repeat' first
    | with_reducible
      first
      | assumption | apply Keeps.ite | apply State.retire_keeps | apply State.endSegment_keeps
      | apply State.countClause_keeps | apply State.queueNotifies_keeps | apply State.releasePost_keeps
      | apply State.acceptClause_keeps | apply State.bump_keeps | apply State.deferCommit_keeps
      | apply State.endReq_keeps | apply State.noSpace_keeps | apply State.trap_keeps
      | fail_if_no_progress refine keeps_lit rfl rfl rfl rfl rfl rfl ?_
    | intro _ | extract_lets +onlyGivenNames t | split
    | (with_reducible apply keeps_snd (by with_reducible assumption))
    | (with_reducible apply keeps_fst (by with_reducible assumption)) | dsimp only [id] | dsimp +zetaDelta only

end Sys2Proof.Machine
end

