-- ==== Sys2Proof/Laws/KeepsClauses.lean ====
section
/-! SUPPORT. The clause instructions and what they call:
each operation keeps the queue and the canonical memories (`Keeps`). -/

namespace Sys2Proof.Machine

open Sys2Proof

/-! Machine/Memory.lean -/

theorem execGetcx_keeps {z : State} (ag : Agent) (w : DWord) (s : State) (hk : Keeps z s) :
    KeepsR z (execGetcx ag w s) := by
  unfold execGetcx
  repeat' first
    | with_reducible
      first
      | assumption | apply KeepsR.next | apply State.clauseOp_keeps | apply State.goOn_keeps
      | fail_if_no_progress refine keeps_lit rfl rfl rfl rfl rfl rfl ?_
    | intro _

theorem State.tileUe_keeps {z : State} (s : State) (id : Nat) (tile : Nat) (n : Nat) (hk : Keeps z s) :
    Keeps z (State.tileUe s id tile n) := by
  unfold State.tileUe
  repeat' first
    | with_reducible
      first
      | assumption | apply Keeps.ite | apply State.endReq_keeps | apply State.report_keeps | apply State.bumpBy_keeps
    | intro _ | extract_lets +onlyGivenNames t | split
    | (with_reducible apply keeps_snd (by with_reducible assumption))
    | (with_reducible apply keeps_fst (by with_reducible assumption)) | dsimp only [id] | dsimp +zetaDelta only

theorem State.readingTile_keeps {z : State} (s : State) (id : Nat) (tile : Nat) (wrong : List (BitVec 80)) (f : State → State) (hff : ∀ (s : State), Keeps z s → Keeps z (f s)) (hk : Keeps z s) :
    Keeps z (State.readingTile s id tile wrong f) := by
  unfold State.readingTile
  repeat' first
    | with_reducible
      first
      | assumption | apply Keeps.ite | apply State.tileUe_keeps | apply State.bumpBy_keeps
    | apply hff | intro _ | extract_lets +onlyGivenNames t | split
    | (with_reducible apply keeps_snd (by with_reducible assumption))
    | (with_reducible apply keeps_fst (by with_reducible assumption)) | dsimp only [id] | dsimp +zetaDelta only

theorem State.setTile_keeps {z : State} (s : State) (tile : Nat) (o : Nat) (bs : List Byte) (hk : Keeps z s) :
    Keeps z (State.setTile s tile o bs) := by
  unfold State.setTile
  repeat' with_reducible first | assumption | fail_if_no_progress refine keeps_lit rfl rfl rfl rfl rfl rfl ?_

theorem State.flashErr_keeps {z : State} (s : State) (bankB : Bool) (off : Nat) (err : WordErr) (hk : Keeps z s) :
    Keeps z (State.flashErr s bankB off err) := by
  unfold State.flashErr
  repeat' first
    | with_reducible
      first
      | assumption | apply State.setB_keeps | apply State.bump_keeps | apply State.setF_keeps
      | fail_if_no_progress refine keeps_lit rfl rfl rfl rfl rfl rfl ?_
    | (extract_lets +onlyGivenNames t; have ht : Keeps z t := ?_; clear_value t; rotate_left)
    | extract_lets +onlyGivenNames t | split

theorem State.mcpErr_keeps {z : State} (s : State) (a : Nat) (err : WordErr) (hk : Keeps z s) :
    Keeps z (State.mcpErr s a err) := by
  unfold State.mcpErr
  repeat' first
    | with_reducible
      first
      | assumption | apply Keeps.ite | apply State.flashErr_keeps | apply State.report_keeps | apply State.bump_keeps
      | fail_if_no_progress refine keeps_lit rfl rfl rfl rfl rfl rfl ?_
    | extract_lets +onlyGivenNames t | split

theorem State.mcpLoad_keeps {z : State} (s : State) (w : DWord) (wrong : List (BitVec 80)) (hk : Keeps z s) :
    Keeps z (State.mcpLoad s w wrong) := by
  unfold State.mcpLoad
  repeat' first
    | with_reducible
      first
      | assumption | apply Keeps.ite | apply State.advance_keeps | apply State.setCtx_keeps
      | apply State.readFlash_keeps | apply State.mcpErr_keeps | apply State.mcpTrap_keeps
      | (apply keeps_foldl; intro _ _ _) | (apply keeps_foldl_fst; intro _ _ _)
      | fail_if_no_progress refine keeps_lit rfl rfl rfl rfl rfl rfl ?_
    | intro _ | extract_lets +onlyGivenNames t | split
    | (with_reducible apply keeps_snd (by with_reducible assumption))
    | (with_reducible apply keeps_fst (by with_reducible assumption)) | dsimp +zetaDelta only

theorem State.padErr_keeps {z : State} (s : State) (i : Fin 512) (err : WordErr) (hk : Keeps z s) :
    Keeps z (State.padErr s i err) := by
  unfold State.padErr
  repeat' first
    | with_reducible
      first
      | assumption | apply Keeps.ite | apply State.report_keeps | apply State.bump_keeps
      | fail_if_no_progress refine keeps_lit rfl rfl rfl rfl rfl rfl ?_
    | intro _ | extract_lets +onlyGivenNames t | split
    | (with_reducible apply keeps_snd (by with_reducible assumption))
    | (with_reducible apply keeps_fst (by with_reducible assumption)) | dsimp +zetaDelta only

theorem execLdPad_keeps {z : State} (ag : Agent) (w : DWord) (wrong : List (BitVec 80)) (s : State) (hk : Keeps z s) :
    KeepsR z (execLdPad ag w wrong s) := by
  unfold execLdPad
  repeat' first
    | with_reducible
      first
      | assumption | apply KeepsR.next | apply Keeps.ite | apply State.goOn_keeps | apply State.endReq_keeps
      | apply State.padErr_keeps | apply State.trap_keeps | apply State.mcpLoad_keeps | apply State.instruct_keeps
      | (apply keeps_foldl; intro _ _ _) | (apply keeps_foldl_fst; intro _ _ _)
      | fail_if_no_progress refine keeps_lit rfl rfl rfl rfl rfl rfl ?_
    | intro _ | extract_lets +onlyGivenNames t | split
    | (with_reducible apply keeps_snd (by with_reducible assumption))
    | (with_reducible apply keeps_fst (by with_reducible assumption)) | dsimp only [id] | dsimp +zetaDelta only

theorem execLdPayload_keeps {z : State} (ag : Agent) (w : DWord) (s : State) (hk : Keeps z s) :
    KeepsR z (execLdPayload ag w s) := by
  unfold execLdPayload
  repeat' first
    | with_reducible
      first
      | assumption | apply KeepsR.next | apply Keeps.ite | apply State.clauseOp_keeps | apply State.trap_keeps
      | apply State.goOn_keeps | fail_if_no_progress refine keeps_lit rfl rfl rfl rfl rfl rfl ?_
    | intro _

theorem execLdTile_keeps {z : State} (ag : Agent) (w : DWord) (wrong : List (BitVec 80)) (s : State) (hk : Keeps z s) :
    KeepsR z (execLdTile ag w wrong s) := by
  unfold execLdTile
  repeat' first
    | with_reducible
      first
      | assumption | apply KeepsR.next | apply Keeps.ite | apply State.goOn_keeps | apply State.readingTile_keeps
      | apply State.trap_keeps | apply State.clauseOp_keeps
      | fail_if_no_progress refine keeps_lit rfl rfl rfl rfl rfl rfl ?_
    | intro _ | extract_lets +onlyGivenNames t | split
    | (with_reducible apply keeps_snd (by with_reducible assumption))
    | (with_reducible apply keeps_fst (by with_reducible assumption)) | dsimp only [id] | dsimp +zetaDelta only

theorem execStPad_keeps {z : State} (ag : Agent) (w : DWord) (s : State) (hk : Keeps z s) :
    KeepsR z (execStPad ag w s) := by
  unfold execStPad
  repeat' first
    | with_reducible
      first
      | assumption | apply KeepsR.next | apply Keeps.ite | apply State.instruct_keeps | apply State.advance_keeps
      | apply State.mcpTrap_keeps | apply State.trap_keeps | apply State.goOn_keeps
      | fail_if_no_progress refine keeps_lit rfl rfl rfl rfl rfl rfl ?_
    | intro _ | extract_lets +onlyGivenNames t | (with_reducible apply keeps_litw; (with_reducible exact rfl); (iterate 5 with_reducible (first | exact id | exact fun w => Bar.wf_mk (Bar.wf_val w) (Bar.wf_eff w) (Bar.wf_copy w) | exact fun w => Bar.wf_mk (Maps.wf_wr _ _ (Bar.wf_val w)) (Bar.wf_eff w) (Bar.wf_copy w) | exact fun w => Bar.wf_mk (Bar.wf_val w) (Maps.wf_wr _ _ (Bar.wf_eff w)) (Bar.wf_copy w) | exact fun w => Bar.wf_mk (Bar.wf_val w) (Bar.wf_val w) (Bar.wf_copy w) | exact fun w => Bar.wf_mk (Bar.wf_val w) (Bar.wf_eff w) (Bar.wf_val w) | exact fun w => Bar.wf_mk (Maps.wf_filter _ (Bar.wf_val w)) (Maps.wf_filter _ (Bar.wf_eff w)) (Maps.wf_filter _ (Bar.wf_copy w)) | exact fun w => Mem.wf_setBytes _ _ w )); first | with_reducible assumption | with_reducible apply Keeps.ite | with_reducible apply State.instruct_keeps | with_reducible apply State.advance_keeps | with_reducible apply State.mcpTrap_keeps | with_reducible apply State.trap_keeps | with_reducible apply State.goOn_keeps) | split

theorem execStTile_keeps {z : State} (ag : Agent) (w : DWord) (s : State) (hk : Keeps z s) :
    KeepsR z (execStTile ag w s) := by
  unfold execStTile
  repeat' first
    | with_reducible
      first
      | assumption | apply KeepsR.next | apply State.clauseOp_keeps | apply State.trap_keeps | apply State.goOn_keeps
      | apply State.setTile_keeps | fail_if_no_progress refine keeps_lit rfl rfl rfl rfl rfl rfl ?_
    | intro _ | extract_lets +onlyGivenNames t | split

/-! Machine/Integer.lean -/

theorem execAdd_keeps {z : State} (ag : Agent) (w : DWord) (s : State) (hk : Keeps z s) :
    KeepsR z (execAdd ag w s) := by
  unfold execAdd
  repeat' with_reducible first | assumption | apply KeepsR.next | apply State.writesG_keeps

theorem execSub_keeps {z : State} (ag : Agent) (w : DWord) (s : State) (hk : Keeps z s) :
    KeepsR z (execSub ag w s) := by
  unfold execSub
  repeat' with_reducible first | assumption | apply KeepsR.next | apply State.writesG_keeps

theorem execAnd_keeps {z : State} (ag : Agent) (w : DWord) (s : State) (hk : Keeps z s) :
    KeepsR z (execAnd ag w s) := by
  unfold execAnd
  repeat' with_reducible first | assumption | apply KeepsR.next | apply State.writesG_keeps

theorem execOr_keeps {z : State} (ag : Agent) (w : DWord) (s : State) (hk : Keeps z s) :
    KeepsR z (execOr ag w s) := by
  unfold execOr
  repeat' with_reducible first | assumption | apply KeepsR.next | apply State.writesG_keeps

theorem execXor_keeps {z : State} (ag : Agent) (w : DWord) (s : State) (hk : Keeps z s) :
    KeepsR z (execXor ag w s) := by
  unfold execXor
  repeat' with_reducible first | assumption | apply KeepsR.next | apply State.writesG_keeps

theorem execShl_keeps {z : State} (ag : Agent) (w : DWord) (s : State) (hk : Keeps z s) :
    KeepsR z (execShl ag w s) := by
  unfold execShl
  repeat' with_reducible first | assumption | apply KeepsR.next | apply State.writesG_keeps

theorem execShr_keeps {z : State} (ag : Agent) (w : DWord) (s : State) (hk : Keeps z s) :
    KeepsR z (execShr ag w s) := by
  unfold execShr
  repeat' with_reducible first | assumption | apply KeepsR.next | apply State.writesG_keeps

theorem execSar_keeps {z : State} (ag : Agent) (w : DWord) (s : State) (hk : Keeps z s) :
    KeepsR z (execSar ag w s) := by
  unfold execSar
  repeat' with_reducible first | assumption | apply KeepsR.next | apply State.writesG_keeps

theorem execMul_keeps {z : State} (ag : Agent) (w : DWord) (s : State) (hk : Keeps z s) :
    KeepsR z (execMul ag w s) := by
  unfold execMul
  repeat' with_reducible first | assumption | apply KeepsR.next | apply State.writesG_keeps

theorem execMulhu_keeps {z : State} (ag : Agent) (w : DWord) (s : State) (hk : Keeps z s) :
    KeepsR z (execMulhu ag w s) := by
  unfold execMulhu
  repeat' with_reducible first | assumption | apply KeepsR.next | apply State.writesG_keeps

theorem execMinu_keeps {z : State} (ag : Agent) (w : DWord) (s : State) (hk : Keeps z s) :
    KeepsR z (execMinu ag w s) := by
  unfold execMinu
  repeat' with_reducible first | assumption | apply KeepsR.next | apply State.writesG_keeps

theorem execMaxu_keeps {z : State} (ag : Agent) (w : DWord) (s : State) (hk : Keeps z s) :
    KeepsR z (execMaxu ag w s) := by
  unfold execMaxu
  repeat' with_reducible first | assumption | apply KeepsR.next | apply State.writesG_keeps

theorem execMin_keeps {z : State} (ag : Agent) (w : DWord) (s : State) (hk : Keeps z s) :
    KeepsR z (execMin ag w s) := by
  unfold execMin
  repeat' with_reducible first | assumption | apply KeepsR.next | apply State.writesG_keeps

theorem execMax_keeps {z : State} (ag : Agent) (w : DWord) (s : State) (hk : Keeps z s) :
    KeepsR z (execMax ag w s) := by
  unfold execMax
  repeat' with_reducible first | assumption | apply KeepsR.next | apply State.writesG_keeps

theorem execAndn_keeps {z : State} (ag : Agent) (w : DWord) (s : State) (hk : Keeps z s) :
    KeepsR z (execAndn ag w s) := by
  unfold execAndn
  repeat' with_reducible first | assumption | apply KeepsR.next | apply State.writesG_keeps

theorem execAddi_keeps {z : State} (ag : Agent) (w : DWord) (s : State) (hk : Keeps z s) :
    KeepsR z (execAddi ag w s) := by
  unfold execAddi
  repeat' with_reducible first | assumption | apply KeepsR.next | apply State.writesG_keeps

theorem execSubi_keeps {z : State} (ag : Agent) (w : DWord) (s : State) (hk : Keeps z s) :
    KeepsR z (execSubi ag w s) := by
  unfold execSubi
  repeat' with_reducible first | assumption | apply KeepsR.next | apply State.writesG_keeps

theorem execAndi_keeps {z : State} (ag : Agent) (w : DWord) (s : State) (hk : Keeps z s) :
    KeepsR z (execAndi ag w s) := by
  unfold execAndi
  repeat' with_reducible first | assumption | apply KeepsR.next | apply State.writesG_keeps

theorem execOri_keeps {z : State} (ag : Agent) (w : DWord) (s : State) (hk : Keeps z s) :
    KeepsR z (execOri ag w s) := by
  unfold execOri
  repeat' with_reducible first | assumption | apply KeepsR.next | apply State.writesG_keeps

theorem execXori_keeps {z : State} (ag : Agent) (w : DWord) (s : State) (hk : Keeps z s) :
    KeepsR z (execXori ag w s) := by
  unfold execXori
  repeat' with_reducible first | assumption | apply KeepsR.next | apply State.writesG_keeps

theorem execShli_keeps {z : State} (ag : Agent) (w : DWord) (s : State) (hk : Keeps z s) :
    KeepsR z (execShli ag w s) := by
  unfold execShli
  repeat' with_reducible first | assumption | apply KeepsR.next | apply State.writesG_keeps

theorem execShri_keeps {z : State} (ag : Agent) (w : DWord) (s : State) (hk : Keeps z s) :
    KeepsR z (execShri ag w s) := by
  unfold execShri
  repeat' with_reducible first | assumption | apply KeepsR.next | apply State.writesG_keeps

theorem execSari_keeps {z : State} (ag : Agent) (w : DWord) (s : State) (hk : Keeps z s) :
    KeepsR z (execSari ag w s) := by
  unfold execSari
  repeat' with_reducible first | assumption | apply KeepsR.next | apply State.writesG_keeps

theorem execMuli_keeps {z : State} (ag : Agent) (w : DWord) (s : State) (hk : Keeps z s) :
    KeepsR z (execMuli ag w s) := by
  unfold execMuli
  repeat' with_reducible first | assumption | apply KeepsR.next | apply State.writesG_keeps

theorem execMulhui_keeps {z : State} (ag : Agent) (w : DWord) (s : State) (hk : Keeps z s) :
    KeepsR z (execMulhui ag w s) := by
  unfold execMulhui
  repeat' with_reducible first | assumption | apply KeepsR.next | apply State.writesG_keeps

theorem execMinui_keeps {z : State} (ag : Agent) (w : DWord) (s : State) (hk : Keeps z s) :
    KeepsR z (execMinui ag w s) := by
  unfold execMinui
  repeat' with_reducible first | assumption | apply KeepsR.next | apply State.writesG_keeps

theorem execMaxui_keeps {z : State} (ag : Agent) (w : DWord) (s : State) (hk : Keeps z s) :
    KeepsR z (execMaxui ag w s) := by
  unfold execMaxui
  repeat' with_reducible first | assumption | apply KeepsR.next | apply State.writesG_keeps

theorem execMini_keeps {z : State} (ag : Agent) (w : DWord) (s : State) (hk : Keeps z s) :
    KeepsR z (execMini ag w s) := by
  unfold execMini
  repeat' with_reducible first | assumption | apply KeepsR.next | apply State.writesG_keeps

theorem execMaxi_keeps {z : State} (ag : Agent) (w : DWord) (s : State) (hk : Keeps z s) :
    KeepsR z (execMaxi ag w s) := by
  unfold execMaxi
  repeat' with_reducible first | assumption | apply KeepsR.next | apply State.writesG_keeps

theorem execAndni_keeps {z : State} (ag : Agent) (w : DWord) (s : State) (hk : Keeps z s) :
    KeepsR z (execAndni ag w s) := by
  unfold execAndni
  repeat' with_reducible first | assumption | apply KeepsR.next | apply State.writesG_keeps

theorem execDeph_keeps {z : State} (ag : Agent) (w : DWord) (s : State) (hk : Keeps z s) :
    KeepsR z (execDeph ag w s) := by
  unfold execDeph
  repeat' with_reducible first | assumption | apply KeepsR.next | apply State.writesG_keeps

theorem execCmpEq_keeps {z : State} (ag : Agent) (w : DWord) (s : State) (hk : Keeps z s) :
    KeepsR z (execCmpEq ag w s) := by
  unfold execCmpEq
  repeat' with_reducible first | assumption | apply KeepsR.next | apply State.writesP_keeps

theorem execCmpNe_keeps {z : State} (ag : Agent) (w : DWord) (s : State) (hk : Keeps z s) :
    KeepsR z (execCmpNe ag w s) := by
  unfold execCmpNe
  repeat' with_reducible first | assumption | apply KeepsR.next | apply State.writesP_keeps

theorem execCmpLtu_keeps {z : State} (ag : Agent) (w : DWord) (s : State) (hk : Keeps z s) :
    KeepsR z (execCmpLtu ag w s) := by
  unfold execCmpLtu
  repeat' with_reducible first | assumption | apply KeepsR.next | apply State.writesP_keeps

theorem execCmpGeu_keeps {z : State} (ag : Agent) (w : DWord) (s : State) (hk : Keeps z s) :
    KeepsR z (execCmpGeu ag w s) := by
  unfold execCmpGeu
  repeat' with_reducible first | assumption | apply KeepsR.next | apply State.writesP_keeps

theorem execCmpLt_keeps {z : State} (ag : Agent) (w : DWord) (s : State) (hk : Keeps z s) :
    KeepsR z (execCmpLt ag w s) := by
  unfold execCmpLt
  repeat' with_reducible first | assumption | apply KeepsR.next | apply State.writesP_keeps

theorem execCmpGe_keeps {z : State} (ag : Agent) (w : DWord) (s : State) (hk : Keeps z s) :
    KeepsR z (execCmpGe ag w s) := by
  unfold execCmpGe
  repeat' with_reducible first | assumption | apply KeepsR.next | apply State.writesP_keeps

theorem execCmpTst_keeps {z : State} (ag : Agent) (w : DWord) (s : State) (hk : Keeps z s) :
    KeepsR z (execCmpTst ag w s) := by
  unfold execCmpTst
  repeat' with_reducible first | assumption | apply KeepsR.next | apply State.writesP_keeps

theorem execCmpNtst_keeps {z : State} (ag : Agent) (w : DWord) (s : State) (hk : Keeps z s) :
    KeepsR z (execCmpNtst ag w s) := by
  unfold execCmpNtst
  repeat' with_reducible first | assumption | apply KeepsR.next | apply State.writesP_keeps

theorem execCmpiEq_keeps {z : State} (ag : Agent) (w : DWord) (s : State) (hk : Keeps z s) :
    KeepsR z (execCmpiEq ag w s) := by
  unfold execCmpiEq
  repeat' with_reducible first | assumption | apply KeepsR.next | apply State.writesP_keeps

theorem execCmpiNe_keeps {z : State} (ag : Agent) (w : DWord) (s : State) (hk : Keeps z s) :
    KeepsR z (execCmpiNe ag w s) := by
  unfold execCmpiNe
  repeat' with_reducible first | assumption | apply KeepsR.next | apply State.writesP_keeps

theorem execCmpiLtu_keeps {z : State} (ag : Agent) (w : DWord) (s : State) (hk : Keeps z s) :
    KeepsR z (execCmpiLtu ag w s) := by
  unfold execCmpiLtu
  repeat' with_reducible first | assumption | apply KeepsR.next | apply State.writesP_keeps

theorem execCmpiGeu_keeps {z : State} (ag : Agent) (w : DWord) (s : State) (hk : Keeps z s) :
    KeepsR z (execCmpiGeu ag w s) := by
  unfold execCmpiGeu
  repeat' with_reducible first | assumption | apply KeepsR.next | apply State.writesP_keeps

theorem execCmpiLt_keeps {z : State} (ag : Agent) (w : DWord) (s : State) (hk : Keeps z s) :
    KeepsR z (execCmpiLt ag w s) := by
  unfold execCmpiLt
  repeat' with_reducible first | assumption | apply KeepsR.next | apply State.writesP_keeps

theorem execCmpiGe_keeps {z : State} (ag : Agent) (w : DWord) (s : State) (hk : Keeps z s) :
    KeepsR z (execCmpiGe ag w s) := by
  unfold execCmpiGe
  repeat' with_reducible first | assumption | apply KeepsR.next | apply State.writesP_keeps

theorem execCmpiTst_keeps {z : State} (ag : Agent) (w : DWord) (s : State) (hk : Keeps z s) :
    KeepsR z (execCmpiTst ag w s) := by
  unfold execCmpiTst
  repeat' with_reducible first | assumption | apply KeepsR.next | apply State.writesP_keeps

theorem execCmpiNtst_keeps {z : State} (ag : Agent) (w : DWord) (s : State) (hk : Keeps z s) :
    KeepsR z (execCmpiNtst ag w s) := by
  unfold execCmpiNtst
  repeat' with_reducible first | assumption | apply KeepsR.next | apply State.writesP_keeps

theorem execPand_keeps {z : State} (ag : Agent) (w : DWord) (s : State) (hk : Keeps z s) :
    KeepsR z (execPand ag w s) := by
  unfold execPand
  repeat' with_reducible first | assumption | apply KeepsR.next | apply State.writesP_keeps

theorem execPor_keeps {z : State} (ag : Agent) (w : DWord) (s : State) (hk : Keeps z s) :
    KeepsR z (execPor ag w s) := by
  unfold execPor
  repeat' with_reducible first | assumption | apply KeepsR.next | apply State.writesP_keeps

theorem execPxor_keeps {z : State} (ag : Agent) (w : DWord) (s : State) (hk : Keeps z s) :
    KeepsR z (execPxor ag w s) := by
  unfold execPxor
  repeat' with_reducible first | assumption | apply KeepsR.next | apply State.writesP_keeps

theorem execPandn_keeps {z : State} (ag : Agent) (w : DWord) (s : State) (hk : Keeps z s) :
    KeepsR z (execPandn ag w s) := by
  unfold execPandn
  repeat' with_reducible first | assumption | apply KeepsR.next | apply State.writesP_keeps

theorem execP2g_keeps {z : State} (ag : Agent) (w : DWord) (s : State) (hk : Keeps z s) :
    KeepsR z (execP2g ag w s) := by
  unfold execP2g
  repeat' with_reducible first | assumption | apply KeepsR.next | apply Keeps.ite | apply State.writesG_keeps

theorem execClz_keeps {z : State} (ag : Agent) (w : DWord) (s : State) (hk : Keeps z s) :
    KeepsR z (execClz ag w s) := by
  unfold execClz
  repeat' with_reducible first | assumption | apply KeepsR.next | apply State.writesG_keeps

theorem execCtz_keeps {z : State} (ag : Agent) (w : DWord) (s : State) (hk : Keeps z s) :
    KeepsR z (execCtz ag w s) := by
  unfold execCtz
  repeat' with_reducible first | assumption | apply KeepsR.next | apply State.writesG_keeps

theorem execPopc_keeps {z : State} (ag : Agent) (w : DWord) (s : State) (hk : Keeps z s) :
    KeepsR z (execPopc ag w s) := by
  unfold execPopc
  repeat' with_reducible first | assumption | apply KeepsR.next | apply State.writesG_keeps

theorem execBswap_keeps {z : State} (ag : Agent) (w : DWord) (s : State) (hk : Keeps z s) :
    KeepsR z (execBswap ag w s) := by
  unfold execBswap
  repeat' with_reducible first | assumption | apply KeepsR.next | apply State.writesG_keeps

theorem execBswap32_keeps {z : State} (ag : Agent) (w : DWord) (s : State) (hk : Keeps z s) :
    KeepsR z (execBswap32 ag w s) := by
  unfold execBswap32
  repeat' with_reducible first | assumption | apply KeepsR.next | apply State.writesG_keeps

theorem execExtu_keeps {z : State} (ag : Agent) (w : DWord) (s : State) (hk : Keeps z s) :
    KeepsR z (execExtu ag w s) := by
  unfold execExtu
  repeat' with_reducible first | assumption | apply KeepsR.next | apply State.writesG_keeps

theorem execExts_keeps {z : State} (ag : Agent) (w : DWord) (s : State) (hk : Keeps z s) :
    KeepsR z (execExts ag w s) := by
  unfold execExts
  repeat' with_reducible first | assumption | apply KeepsR.next | apply State.writesG_keeps

theorem execIns_keeps {z : State} (ag : Agent) (w : DWord) (s : State) (hk : Keeps z s) :
    KeepsR z (execIns ag w s) := by
  unfold execIns
  repeat' with_reducible first | assumption | apply KeepsR.next | apply State.writesG_keeps

theorem execCrc32cB_keeps {z : State} (ag : Agent) (w : DWord) (s : State) (hk : Keeps z s) :
    KeepsR z (execCrc32cB ag w s) := by
  unfold execCrc32cB
  repeat' with_reducible first | assumption | apply KeepsR.next | apply State.writesG_keeps

theorem execCrc32cD_keeps {z : State} (ag : Agent) (w : DWord) (s : State) (hk : Keeps z s) :
    KeepsR z (execCrc32cD ag w s) := by
  unfold execCrc32cD
  repeat' with_reducible first | assumption | apply KeepsR.next | apply State.writesG_keeps

theorem execCrc64D_keeps {z : State} (ag : Agent) (w : DWord) (s : State) (hk : Keeps z s) :
    KeepsR z (execCrc64D ag w s) := by
  unfold execCrc64D
  repeat' with_reducible first | assumption | apply KeepsR.next | apply State.writesG_keeps

theorem execNopInstruction_keeps {z : State} (ag : Agent) (w : DWord) (fetchUe : Bool) (s : State) (hk : Keeps z s) :
    KeepsR z (execNopInstruction ag w fetchUe s) := by
  unfold execNopInstruction
  repeat' first
    | with_reducible
      first
      | assumption | apply KeepsR.next | apply Keeps.ite | apply State.advance_keeps | apply State.instruct_keeps
      | apply State.mcpTrap_keeps | apply State.report_keeps | apply State.dropLine_keeps | apply State.fetchUe_keeps
      | fail_if_no_progress refine keeps_lit rfl rfl rfl rfl rfl rfl ?_
    | intro _ | extract_lets +onlyGivenNames t | split
    | (with_reducible apply keeps_snd (by with_reducible assumption))
    | (with_reducible apply keeps_fst (by with_reducible assumption)) | dsimp only [id] | dsimp +zetaDelta only

/-! Machine/Tiles.lean -/

theorem State.refreshTiles_keeps {z : State} (s : State) (id : Nat) (cursor : Nat) (bound : List Nat) (hk : Keeps z s) :
    Keeps z (State.refreshTiles s id cursor bound) := by
  unfold State.refreshTiles
  repeat' with_reducible
    first
    | assumption | apply Keeps.ite | fail_if_no_progress refine keeps_lit rfl rfl rfl rfl rfl rfl ?_

theorem State.rebind_keeps {z : State} (s : State) (id : Nat) (r : Request) (hk : Keeps z s) :
    Keeps z (State.rebind s id r) := by
  unfold State.rebind
  repeat' first
    | with_reducible
      first
      | assumption | apply State.refreshTiles_keeps | fail_if_no_progress refine keeps_lit rfl rfl rfl rfl rfl rfl ?_
    | extract_lets +onlyGivenNames t | split

theorem State.moveCursor_keeps {z : State} (s : State) (id : Nat) (r : Request) (k : Nat) (hk : Keeps z s) :
    Keeps z (State.moveCursor s id r k).2 := by
  unfold State.moveCursor
  repeat' first
    | with_reducible
      first
      | assumption | apply Keeps.ite | apply State.rebind_keeps | apply State.stage_keeps
      | fail_if_no_progress refine keeps_lit rfl rfl rfl rfl rfl rfl ?_
    | intro _ | extract_lets +onlyGivenNames t | split
    | (with_reducible apply keeps_snd (by with_reducible assumption))
    | (with_reducible apply keeps_fst (by with_reducible assumption)) | dsimp only [id] | dsimp +zetaDelta only

theorem State.tileOp_keeps {z : State} (s : State) (ag : Agent) (w : DWord) (row : Row) (usesTB : Bool) (body : State → Fin 512 → Nat → Request → Nat → Nat → State) (hbody : ∀ (s : State) (y1) (y2) (y3) (y4) (y5), Keeps z s → Keeps z (body s y1 y2 y3 y4 y5)) (hk : Keeps z s) :
    Keeps z (State.tileOp s ag w row usesTB body) := by
  unfold State.tileOp
  repeat' first
    | with_reducible
      first
      | assumption | apply Keeps.ite | apply State.trap_keeps | apply State.spend_keeps | apply State.clauseOp_keeps
      | fail_if_no_progress refine keeps_lit rfl rfl rfl rfl rfl rfl ?_
    | apply hbody | intro _ | extract_lets +onlyGivenNames t | split
    | (with_reducible apply keeps_snd (by with_reducible assumption))
    | (with_reducible apply keeps_fst (by with_reducible assumption)) | dsimp only [id] | dsimp +zetaDelta only

theorem execTld_keeps {z : State} (ag : Agent) (w : DWord) (s : State) (hk : Keeps z s) : KeepsR z (execTld ag w s) := by
  unfold execTld
  refine KeepsR.next (State.clauseOp_keeps _ _ _ _ _ (fun s i id r k => ?_) hk)
  extract_lets +onlyGivenNames k' tile
  clear_value tile
  split
  · exact State.trap_keeps _ _ _ _ _ k
  · exact State.goOn_keeps _ _ _ (State.rebind_keeps _ _ _ k)

theorem State.bufferWrite_keeps {z : State} (s : State) (i : Fin 512) (id : Nat) (r : Request) (off : Nat) (n : Nat) (bytes : List Byte) (tooLong : Bool) (hk : Keeps z s) :
    Keeps z (State.bufferWrite s i id r off n bytes tooLong) := by
  unfold State.bufferWrite
  repeat' first
    | with_reducible
      first
      | assumption | apply Keeps.ite | apply State.trap_keeps | apply State.goOn_keeps
      | fail_if_no_progress refine keeps_lit rfl rfl rfl rfl rfl rfl ?_
    | extract_lets +onlyGivenNames t | split

theorem execTst_keeps {z : State} (ag : Agent) (w : DWord) (wrong : List (BitVec 80)) (s : State) (hk : Keeps z s) :
    KeepsR z (execTst ag w wrong s) := by
  unfold execTst
  repeat' first
    | with_reducible
      first
      | assumption | apply KeepsR.next | apply Keeps.ite | apply State.bufferWrite_keeps
      | apply State.readingTile_keeps | apply State.tileOp_keeps
    | intro _ | extract_lets +onlyGivenNames t | split
    | (with_reducible apply keeps_snd (by with_reducible assumption))
    | (with_reducible apply keeps_fst (by with_reducible assumption)) | dsimp only [id] | dsimp +zetaDelta only

theorem execTcopy_keeps {z : State} (ag : Agent) (w : DWord) (wrong : List (BitVec 80)) (s : State) (hk : Keeps z s) :
    KeepsR z (execTcopy ag w wrong s) := by
  unfold execTcopy
  repeat' first
    | with_reducible
      first
      | assumption | apply KeepsR.next | apply Keeps.ite | apply State.goOn_keeps | apply State.setTile_keeps
      | apply State.readingTile_keeps | apply State.tileOp_keeps
    | intro _ | extract_lets +onlyGivenNames t | split
    | (with_reducible apply keeps_snd (by with_reducible assumption))
    | (with_reducible apply keeps_fst (by with_reducible assumption)) | dsimp only [id] | dsimp +zetaDelta only

theorem execTcopyPayload_keeps {z : State} (ag : Agent) (w : DWord) (s : State) (hk : Keeps z s) :
    KeepsR z (execTcopyPayload ag w s) := by
  unfold execTcopyPayload
  repeat' first
    | with_reducible
      first
      | assumption | apply KeepsR.next | apply Keeps.ite | apply State.tileOp_keeps | apply State.trap_keeps
      | apply State.goOn_keeps | apply State.setTile_keeps
    | intro _

theorem execTfill_keeps {z : State} (ag : Agent) (w : DWord) (s : State) (hk : Keeps z s) :
    KeepsR z (execTfill ag w s) := by
  unfold execTfill
  repeat' first
    | with_reducible
      first
      | assumption | apply KeepsR.next | apply State.tileOp_keeps | apply State.goOn_keeps
      | apply State.setTile_keeps
    | intro _

theorem execTxor_keeps {z : State} (ag : Agent) (w : DWord) (wrong : List (BitVec 80)) (s : State) (hk : Keeps z s) :
    KeepsR z (execTxor ag w wrong s) := by
  unfold execTxor
  repeat' first
    | with_reducible
      first
      | assumption | apply KeepsR.next | apply Keeps.ite | apply State.goOn_keeps | apply State.setTile_keeps
      | apply State.readingTile_keeps | apply State.tileOp_keeps
    | intro _ | extract_lets +onlyGivenNames t | split
    | (with_reducible apply keeps_snd (by with_reducible assumption))
    | (with_reducible apply keeps_fst (by with_reducible assumption)) | dsimp only [id] | dsimp +zetaDelta only

theorem State.tileResult_keeps {z : State} (s : State) (ag : Agent) (w : DWord) (row : Row) (wrong : List (BitVec 80)) (f : Ctx → Nat → List Byte → DWord) (hk : Keeps z s) :
    Keeps z (State.tileResult s ag w row wrong f) := by
  unfold State.tileResult
  repeat' first
    | with_reducible
      first
      | assumption | apply Keeps.ite | apply State.goOn_keeps | apply State.readingTile_keeps
      | apply State.tileOp_keeps | fail_if_no_progress refine keeps_lit rfl rfl rfl rfl rfl rfl ?_
    | intro _ | extract_lets +onlyGivenNames t | split
    | (with_reducible apply keeps_snd (by with_reducible assumption))
    | (with_reducible apply keeps_fst (by with_reducible assumption)) | dsimp only [id] | dsimp +zetaDelta only

theorem execTcrcCrc32c_keeps {z : State} (ag : Agent) (w : DWord) (wrong : List (BitVec 80)) (s : State) (hk : Keeps z s) :
    KeepsR z (execTcrcCrc32c ag w wrong s) := by
  unfold execTcrcCrc32c
  repeat' first
    | with_reducible
      first
      | assumption | apply KeepsR.next | apply Keeps.ite | apply State.tileResult_keeps
    | intro _ | extract_lets +onlyGivenNames t | split
    | (with_reducible apply keeps_snd (by with_reducible assumption))
    | (with_reducible apply keeps_fst (by with_reducible assumption)) | dsimp +zetaDelta only

theorem execTcrcCrc64_keeps {z : State} (ag : Agent) (w : DWord) (wrong : List (BitVec 80)) (s : State) (hk : Keeps z s) :
    KeepsR z (execTcrcCrc64 ag w wrong s) := by
  unfold execTcrcCrc64
  repeat' first
    | with_reducible
      first
      | assumption | apply KeepsR.next | apply Keeps.ite | apply State.tileResult_keeps
    | intro _ | extract_lets +onlyGivenNames t | split
    | (with_reducible apply keeps_snd (by with_reducible assumption))
    | (with_reducible apply keeps_fst (by with_reducible assumption)) | dsimp +zetaDelta only

theorem execTcmp_keeps {z : State} (ag : Agent) (w : DWord) (wrong : List (BitVec 80)) (s : State) (hk : Keeps z s) :
    KeepsR z (execTcmp ag w wrong s) := by
  unfold execTcmp
  repeat' first
    | with_reducible
      first
      | assumption | apply KeepsR.next | apply Keeps.ite | apply State.goOn_keeps | apply State.readingTile_keeps
      | apply State.tileOp_keeps | fail_if_no_progress refine keeps_lit rfl rfl rfl rfl rfl rfl ?_
    | intro _ | extract_lets +onlyGivenNames t | split
    | (with_reducible apply keeps_snd (by with_reducible assumption))
    | (with_reducible apply keeps_fst (by with_reducible assumption)) | dsimp only [id] | dsimp +zetaDelta only

theorem execTscanEq_keeps {z : State} (ag : Agent) (w : DWord) (wrong : List (BitVec 80)) (s : State) (hk : Keeps z s) :
    KeepsR z (execTscanEq ag w wrong s) := by
  unfold execTscanEq
  repeat' first
    | with_reducible
      first
      | assumption | apply KeepsR.next | apply Keeps.ite | apply State.tileResult_keeps
    | intro _ | extract_lets +onlyGivenNames t | split
    | (with_reducible apply keeps_snd (by with_reducible assumption))
    | (with_reducible apply keeps_fst (by with_reducible assumption)) | dsimp +zetaDelta only

theorem execTscanNe_keeps {z : State} (ag : Agent) (w : DWord) (wrong : List (BitVec 80)) (s : State) (hk : Keeps z s) :
    KeepsR z (execTscanNe ag w wrong s) := by
  unfold execTscanNe
  repeat' first
    | with_reducible
      first
      | assumption | apply KeepsR.next | apply Keeps.ite | apply State.tileResult_keeps
    | intro _ | extract_lets +onlyGivenNames t | split
    | (with_reducible apply keeps_snd (by with_reducible assumption))
    | (with_reducible apply keeps_fst (by with_reducible assumption)) | dsimp +zetaDelta only

theorem execTsumAdd_keeps {z : State} (ag : Agent) (w : DWord) (wrong : List (BitVec 80)) (s : State) (hk : Keeps z s) :
    KeepsR z (execTsumAdd ag w wrong s) := by
  unfold execTsumAdd
  repeat' first
    | with_reducible
      first
      | assumption | apply KeepsR.next | apply Keeps.ite | apply State.tileResult_keeps
    | intro _ | extract_lets +onlyGivenNames t | split
    | (with_reducible apply keeps_snd (by with_reducible assumption))
    | (with_reducible apply keeps_fst (by with_reducible assumption)) | dsimp +zetaDelta only

theorem execTsumXor_keeps {z : State} (ag : Agent) (w : DWord) (wrong : List (BitVec 80)) (s : State) (hk : Keeps z s) :
    KeepsR z (execTsumXor ag w wrong s) := by
  unfold execTsumXor
  repeat' first
    | with_reducible
      first
      | assumption | apply KeepsR.next | apply Keeps.ite | apply State.tileResult_keeps
    | intro _ | extract_lets +onlyGivenNames t | split
    | (with_reducible apply keeps_snd (by with_reducible assumption))
    | (with_reducible apply keeps_fst (by with_reducible assumption)) | dsimp +zetaDelta only

theorem execStage_keeps {z : State} (ag : Agent) (w : DWord) (s : State) (hk : Keeps z s) :
    KeepsR z (execStage ag w s) := by
  unfold execStage
  repeat' first
    | with_reducible
      first
      | assumption | apply KeepsR.next | apply Keeps.ite | apply State.goOn_keeps | apply State.bumpBy_keeps
      | apply State.dropTiles_keeps | apply State.trap_keeps | apply State.clauseOp_keeps
      | fail_if_no_progress refine keeps_lit rfl rfl rfl rfl rfl rfl ?_
    | intro _ | extract_lets +onlyGivenNames t | split
    | (with_reducible apply keeps_snd (by with_reducible assumption))
    | (with_reducible apply keeps_fst (by with_reducible assumption)) | dsimp only [id] | dsimp +zetaDelta only

/-! Machine/Link.lean -/

theorem State.setBundle_keeps {z : State} (s : State) (one : Bool) (b : BundleRec) (hk : Keeps z s) :
    Keeps z (State.setBundle s one b) := by
  unfold State.setBundle
  repeat' with_reducible
    first
    | assumption | apply Keeps.ite | fail_if_no_progress refine keeps_lit rfl rfl rfl rfl rfl rfl ?_

theorem State.noteSent_keeps {z : State} (s : State) (one : Bool) (seq : Nat) (x1 : TwinFrame) (hk : Keeps z s) :
    Keeps z (State.noteSent s one seq x1) := by
  unfold State.noteSent
  repeat' first
    | with_reducible
      first
      | assumption | apply Keeps.ite | fail_if_no_progress refine keeps_lit rfl rfl rfl rfl rfl rfl ?_
    | intro _ | extract_lets +onlyGivenNames t | split
    | (with_reducible apply keeps_snd (by with_reducible assumption))
    | (with_reducible apply keeps_fst (by with_reducible assumption)) | dsimp +zetaDelta only

theorem State.pumpTwinOne_keeps {z : State} (s : State) (one : Bool) (hk : Keeps z s) :
    Keeps z (State.pumpTwinOne s one) := by
  unfold State.pumpTwinOne
  repeat' first
    | with_reducible
      first
      | assumption | apply Keeps.ite | apply State.noteSent_keeps | apply State.takeSlots_keeps
      | apply State.setBundle_keeps | fail_if_no_progress refine keeps_lit rfl rfl rfl rfl rfl rfl ?_
    | intro _ | extract_lets +onlyGivenNames t | split
    | (with_reducible apply keeps_snd (by with_reducible assumption))
    | (with_reducible apply keeps_fst (by with_reducible assumption)) | dsimp +zetaDelta only

theorem State.pumpTwin_keeps {z : State} (s : State) (one : Bool) (hk : Keeps z s) :
    Keeps z (State.pumpTwin s one) := by
  unfold State.pumpTwin
  repeat' first
    | with_reducible
      first
      | assumption | apply Keeps.ite | apply State.pumpTwinOne_keeps | (apply keeps_foldl; intro _ _ _)
      | (apply keeps_foldl_fst; intro _ _ _)
    | intro _ | extract_lets +onlyGivenNames t | split
    | (with_reducible apply keeps_snd (by with_reducible assumption))
    | (with_reducible apply keeps_fst (by with_reducible assumption)) | dsimp +zetaDelta only

theorem State.sendFor_keeps {z : State} (s : State) (one : Bool) (cls : Cls) (tenant : Nat) (f : TwinFrame) (hk : Keeps z s) :
    Keeps z (State.sendFor s one cls tenant f) := by
  unfold State.sendFor
  repeat' first
    | with_reducible
      first
      | assumption | apply Keeps.ite | apply State.pumpTwinOne_keeps | apply State.setBundle_keeps
      | fail_if_no_progress refine keeps_lit rfl rfl rfl rfl rfl rfl ?_
    | intro _ | extract_lets +onlyGivenNames t | split
    | (with_reducible apply keeps_snd (by with_reducible assumption))
    | (with_reducible apply keeps_fst (by with_reducible assumption)) | dsimp +zetaDelta only

theorem State.sendFrame_keeps {z : State} (s : State) (one : Bool) (f : TwinFrame) (hk : Keeps z s) :
    Keeps z (State.sendFrame s one f) := by
  unfold State.sendFrame
  repeat' first
    | with_reducible
      first
      | assumption | apply Keeps.ite | apply State.sendFor_keeps
    | intro _ | extract_lets +onlyGivenNames t | split
    | (with_reducible apply keeps_snd (by with_reducible assumption))
    | (with_reducible apply keeps_fst (by with_reducible assumption)) | dsimp +zetaDelta only

theorem State.ship_keeps {z : State} (s : State) (cls : Cls) (tenant : Nat) (f : TwinFrame) (hk : Keeps z s) :
    Keeps z (State.ship s cls tenant f) := by
  unfold State.ship
  repeat' first
    | with_reducible
      first
      | assumption | apply Keeps.ite | apply State.sendFor_keeps
    | intro _ | extract_lets +onlyGivenNames t | split
    | (with_reducible apply keeps_snd (by with_reducible assumption))
    | (with_reducible apply keeps_fst (by with_reducible assumption)) | dsimp +zetaDelta only

theorem State.tell_keeps {z : State} (s : State) (f : TwinFrame) (hk : Keeps z s) :
    Keeps z (State.tell s f) := by
  unfold State.tell
  repeat' with_reducible first | assumption | apply Keeps.ite | apply State.sendFrame_keeps

theorem State.giveAseq_keeps {z : State} (s : State) (id : Nat) (hk : Keeps z s) :
    Keeps z (State.giveAseq s id) := by
  unfold State.giveAseq
  repeat' first
    | with_reducible
      first
      | assumption | apply Keeps.ite | apply State.setReq_keeps | apply State.setQp_keeps
      | fail_if_no_progress refine keeps_lit rfl rfl rfl rfl rfl rfl ?_
    | extract_lets +onlyGivenNames t | split

theorem State.logOutcome_keeps {z : State} (s : State) (r : Request) (m : MAtom) (orig : List DWord) (hk : Keeps z s) :
    Keeps z (State.logOutcome s r m orig) := by
  unfold State.logOutcome
  repeat' first
    | with_reducible
      first
      | assumption | apply Keeps.ite | apply State.ship_keeps | apply State.issueFor_keeps
      | fail_if_no_progress refine keeps_lit rfl rfl rfl rfl rfl rfl ?_
    | intro _ | extract_lets +onlyGivenNames t | split
    | (with_reducible apply keeps_snd (by with_reducible assumption))
    | (with_reducible apply keeps_fst (by with_reducible assumption)) | dsimp +zetaDelta only

/-! Machine/Window.lean -/

theorem State.mread_keeps {z : State} (s : State) (id : Nat) (r : Request) (off : Nat) (len : Nat) (dst : Option Nat) (hk : Keeps z s) :
    Keeps z (State.mread s id r off len dst) := by
  unfold State.mread
  repeat' first
    | with_reducible
      first
      | assumption | apply Keeps.ite | apply State.readRange_keeps | apply State.goOn_keeps
      | fail_if_no_progress refine keeps_lit rfl rfl rfl rfl rfl rfl ?_
    | intro _ | extract_lets +onlyGivenNames t | split
    | (with_reducible apply keeps_snd (by with_reducible assumption))
    | (with_reducible apply keeps_fst (by with_reducible assumption)) | dsimp only [id] | dsimp +zetaDelta only

theorem execMreadResponse_keeps {z : State} (ag : Agent) (w : DWord) (s : State) (hk : Keeps z s) :
    KeepsR z (execMreadResponse ag w s) := by
  unfold execMreadResponse
  repeat' first
    | with_reducible
      first
      | assumption | apply KeepsR.next | apply Keeps.ite | apply State.mread_keeps | apply State.illegal_keeps
      | apply State.trap_keeps | apply State.clauseOp_keeps
      | fail_if_no_progress refine keeps_lit rfl rfl rfl rfl rfl rfl ?_
    | intro _ | extract_lets +onlyGivenNames t | split
    | (with_reducible apply keeps_snd (by with_reducible assumption))
    | (with_reducible apply keeps_fst (by with_reducible assumption)) | dsimp only [id] | dsimp +zetaDelta only

theorem execMreadPad_keeps {z : State} (ag : Agent) (w : DWord) (s : State) (hk : Keeps z s) :
    KeepsR z (execMreadPad ag w s) := by
  unfold execMreadPad
  repeat' first
    | with_reducible
      first
      | assumption | apply KeepsR.next | apply Keeps.ite | apply State.clauseOp_keeps | apply State.trap_keeps
      | apply State.mread_keeps | fail_if_no_progress refine keeps_lit rfl rfl rfl rfl rfl rfl ?_
    | intro _ | extract_lets +onlyGivenNames t | split

theorem State.restDone_keeps {z : State} (s : State) (id : Nat) (r : Request) (hk : Keeps z s) :
    Keeps z (State.restDone s id r) := by
  unfold State.restDone
  repeat' first
    | with_reducible
      first
      | assumption | apply Keeps.ite | apply State.setReq_keeps | apply State.dropReq_keeps
      | fail_if_no_progress refine keeps_lit rfl rfl rfl rfl rfl rfl ?_
    | intro _ | extract_lets +onlyGivenNames t | split
    | (with_reducible apply keeps_snd (by with_reducible assumption))
    | (with_reducible apply keeps_fst (by with_reducible assumption)) | dsimp only [id] | dsimp +zetaDelta only

theorem State.longRead_keeps {z : State} (s : State) (id : Nat) (r : Request) (x : RestRec) (hk : Keeps z s) :
    Keeps z (State.longRead s id r x) := by
  unfold State.longRead
  repeat' first
    | with_reducible
      first
      | assumption | apply Keeps.ite | apply State.readParts_keeps | apply State.setReq_keeps
      | apply State.restDone_keeps | apply State.messageEnds_keeps | apply State.respond_keeps
      | apply State.stopRest_keeps | fail_if_no_progress refine keeps_lit rfl rfl rfl rfl rfl rfl ?_
    | intro _ | extract_lets +onlyGivenNames t | split
    | (with_reducible apply keeps_snd (by with_reducible assumption))
    | (with_reducible apply keeps_fst (by with_reducible assumption)) | dsimp only [id] | dsimp +zetaDelta only

theorem State.mreadDone_keeps {z : State} (s : State) (id : Nat) (r : Request) (index : Nat) (hk : Keeps z s) :
    Keeps z (State.mreadDone s id r index) := by
  unfold State.mreadDone
  repeat' first
    | with_reducible
      first
      | assumption | apply Keeps.ite | apply State.setReq_keeps
      | fail_if_no_progress refine keeps_lit rfl rfl rfl rfl rfl rfl ?_
    | intro _ | extract_lets +onlyGivenNames t | split
    | (with_reducible apply keeps_snd (by with_reducible assumption))
    | (with_reducible apply keeps_fst (by with_reducible assumption)) | dsimp only [id] | dsimp +zetaDelta only

theorem execMreadDataReturn_keeps {z : State} (req : Nat) (index : Nat) (s : State) (hk : Keeps z s) :
    KeepsR z (execMreadDataReturn req index s) := by
  unfold execMreadDataReturn
  repeat' first
    | with_reducible
      first
      | assumption | apply KeepsR.next | apply Keeps.ite | apply State.mreadDone_keeps | apply State.longRead_keeps
      | fail_if_no_progress refine keeps_lit rfl rfl rfl rfl rfl rfl ?_
    | intro _ | extract_lets +onlyGivenNames t | split
    | (with_reducible apply keeps_snd (by with_reducible assumption))
    | (with_reducible apply keeps_fst (by with_reducible assumption)) | dsimp +zetaDelta only

theorem execMwritePad_keeps {z : State} (ag : Agent) (w : DWord) (s : State) (hk : Keeps z s) :
    KeepsR z (execMwritePad ag w s) := by
  unfold execMwritePad
  repeat' first
    | with_reducible
      first
      | assumption | apply KeepsR.next | apply Keeps.ite | apply State.bufferWrite_keeps | apply State.trap_keeps
      | apply State.clauseOp_keeps
    | intro _ | extract_lets +onlyGivenNames t | split
    | (with_reducible apply keeps_snd (by with_reducible assumption))
    | (with_reducible apply keeps_fst (by with_reducible assumption)) | dsimp only [id] | dsimp +zetaDelta only

theorem execMwritePayload_keeps {z : State} (ag : Agent) (w : DWord) (s : State) (hk : Keeps z s) :
    KeepsR z (execMwritePayload ag w s) := by
  unfold execMwritePayload
  repeat' first
    | with_reducible
      first
      | assumption | apply KeepsR.next | apply Keeps.ite | apply State.bufferWrite_keeps | apply State.trap_keeps
      | apply State.clauseOp_keeps
    | intro _ | extract_lets +onlyGivenNames t | split
    | (with_reducible apply keeps_snd (by with_reducible assumption))
    | (with_reducible apply keeps_fst (by with_reducible assumption)) | dsimp only [id] | dsimp +zetaDelta only

theorem State.matom_keeps {z : State} (s : State) (ag : Agent) (w : DWord) (sub : Nat) (hk : Keeps z s) :
    Keeps z (State.matom s ag w sub) := by
  unfold State.matom
  repeat' first
    | with_reducible
      first
      | assumption | apply Keeps.ite | apply State.readRange_keeps | apply State.bump_keeps | apply State.goOn_keeps
      | apply State.nextOrder_keeps | apply State.trap_keeps | apply State.clauseOp_keeps
      | fail_if_no_progress refine keeps_lit rfl rfl rfl rfl rfl rfl ?_
    | intro _ | extract_lets +onlyGivenNames t | split
    | (with_reducible apply keeps_snd (by with_reducible assumption))
    | (with_reducible apply keeps_fst (by with_reducible assumption)) | dsimp only [id] | dsimp +zetaDelta only

theorem execCas8_keeps {z : State} (ag : Agent) (w : DWord) (s : State) (hk : Keeps z s) :
    KeepsR z (execCas8 ag w s) := by
  unfold execCas8
  repeat' with_reducible first | assumption | apply KeepsR.next | apply State.matom_keeps

theorem execFadd8_keeps {z : State} (ag : Agent) (w : DWord) (s : State) (hk : Keeps z s) :
    KeepsR z (execFadd8 ag w s) := by
  unfold execFadd8
  repeat' with_reducible first | assumption | apply KeepsR.next | apply State.matom_keeps

theorem execSwap8_keeps {z : State} (ag : Agent) (w : DWord) (s : State) (hk : Keeps z s) :
    KeepsR z (execSwap8 ag w s) := by
  unfold execSwap8
  repeat' with_reducible first | assumption | apply KeepsR.next | apply State.matom_keeps

theorem execMask8_keeps {z : State} (ag : Agent) (w : DWord) (s : State) (hk : Keeps z s) :
    KeepsR z (execMask8 ag w s) := by
  unfold execMask8
  repeat' with_reducible first | assumption | apply KeepsR.next | apply State.matom_keeps

theorem execCas16_keeps {z : State} (ag : Agent) (w : DWord) (s : State) (hk : Keeps z s) :
    KeepsR z (execCas16 ag w s) := by
  unfold execCas16
  repeat' with_reducible first | assumption | apply KeepsR.next | apply State.matom_keeps

theorem execWrite8_keeps {z : State} (ag : Agent) (w : DWord) (s : State) (hk : Keeps z s) :
    KeepsR z (execWrite8 ag w s) := by
  unfold execWrite8
  repeat' with_reducible first | assumption | apply KeepsR.next | apply State.matom_keeps

theorem State.perform_keeps {z : State} (s : State) (id : Nat) (r : Request) (m : MAtom) (hk : Keeps z s) :
    Keeps z (State.perform s id r m) := by
  unfold State.perform
  repeat' first
    | with_reducible
      first
      | assumption | apply Keeps.ite | apply State.logOutcome_keeps | apply State.updReq_keeps
      | apply State.giveAseq_keeps | apply State.accept_keeps
      | fail_if_no_progress refine keeps_lit rfl rfl rfl rfl rfl rfl ?_
    | intro _ | extract_lets +onlyGivenNames t | split
    | (with_reducible apply keeps_snd (by with_reducible assumption))
    | (with_reducible apply keeps_fst (by with_reducible assumption)) | dsimp only [id] | dsimp +zetaDelta only

theorem execMatomAccepted_keeps {z : State} (req : Nat) (index : Nat) (s : State) (hk : Keeps z s) :
    KeepsR z (execMatomAccepted req index s) := by
  unfold execMatomAccepted
  repeat' first
    | with_reducible
      first
      | assumption | apply KeepsR.next | apply Keeps.ite | apply State.perform_keeps | apply State.updReq_keeps
      | apply State.noSpace_keeps | fail_if_no_progress refine keeps_lit rfl rfl rfl rfl rfl rfl ?_
    | intro _ | extract_lets +onlyGivenNames t | split
    | (with_reducible apply keeps_snd (by with_reducible assumption))
    | (with_reducible apply keeps_fst (by with_reducible assumption)) | dsimp +zetaDelta only

theorem execFence_keeps {z : State} (ag : Agent) (w : DWord) (s : State) (hk : Keeps z s) :
    KeepsR z (execFence ag w s) := by
  unfold execFence
  repeat' first
    | with_reducible
      first
      | assumption | apply KeepsR.next | apply Keeps.ite | apply State.clauseOp_keeps | apply State.trap_keeps
      | apply State.goOn_keeps | apply State.bump_keeps
      | fail_if_no_progress refine keeps_lit rfl rfl rfl rfl rfl rfl ?_
    | intro _ | extract_lets +onlyGivenNames t | split

/-! Machine/Flow.lean -/

theorem State.setStack_keeps {z : State} (s : State) (ag : Agent) (l : List Nat) (hk : Keeps z s) :
    Keeps z (State.setStack s ag l) := by
  unfold State.setStack
  repeat' first
    | with_reducible
      first
      | assumption | apply State.setReq_keeps | fail_if_no_progress refine keeps_lit rfl rfl rfl rfl rfl rfl ?_
    | extract_lets +onlyGivenNames t | split

theorem State.goTo_keeps {z : State} (s : State) (ag : Agent) (t : Nat) (hk : Keeps z s) :
    Keeps z (State.goTo s ag t) := by
  unfold State.goTo
  repeat' with_reducible first | assumption | apply State.setCtx_keeps

theorem State.branch_keeps {z : State} (s : State) (ag : Agent) (w : DWord) (hk : Keeps z s) :
    Keeps z (State.branch s ag w) := by
  unfold State.branch
  repeat' first
    | with_reducible
      first
      | assumption | apply State.goTo_keeps | apply State.spend_keeps | apply State.illegal_keeps
      | fail_if_no_progress refine keeps_lit rfl rfl rfl rfl rfl rfl ?_
    | extract_lets +onlyGivenNames t | split

theorem execBr_keeps {z : State} (ag : Agent) (w : DWord) (s : State) (hk : Keeps z s) :
    KeepsR z (execBr ag w s) := by
  unfold execBr
  repeat' first
    | with_reducible
      first
      | assumption | apply KeepsR.next | apply State.instruct_keeps | apply State.branch_keeps
      | fail_if_no_progress refine keeps_lit rfl rfl rfl rfl rfl rfl ?_
    | intro _

theorem execBrp_keeps {z : State} (ag : Agent) (w : DWord) (s : State) (hk : Keeps z s) :
    KeepsR z (execBrp ag w s) := by
  unfold execBrp
  repeat' first
    | with_reducible
      first
      | assumption | apply KeepsR.next | apply Keeps.ite | apply State.instruct_keeps | apply State.branch_keeps
      | apply State.advance_keeps | fail_if_no_progress refine keeps_lit rfl rfl rfl rfl rfl rfl ?_
    | intro _

theorem execCall_keeps {z : State} (ag : Agent) (w : DWord) (s : State) (hk : Keeps z s) :
    KeepsR z (execCall ag w s) := by
  unfold execCall
  repeat' first
    | with_reducible
      first
      | assumption | apply KeepsR.next | apply Keeps.ite | apply State.instruct_keeps | apply State.illegal_keeps
      | apply State.goTo_keeps | apply State.setStack_keeps
      | fail_if_no_progress refine keeps_lit rfl rfl rfl rfl rfl rfl ?_
    | intro _ | extract_lets +onlyGivenNames t | split

theorem execRet_keeps {z : State} (ag : Agent) (w : DWord) (s : State) (hk : Keeps z s) :
    KeepsR z (execRet ag w s) := by
  unfold execRet
  repeat' first
    | with_reducible
      first
      | assumption | apply KeepsR.next | apply State.instruct_keeps | apply State.goTo_keeps
      | apply State.setStack_keeps | apply State.illegal_keeps
      | fail_if_no_progress refine keeps_lit rfl rfl rfl rfl rfl rfl ?_
    | intro _ | extract_lets +onlyGivenNames t | split

theorem State.yieldTo_keeps {z : State} (s : State) (id : Nat) (r : Request) (st : ReqState) (hk : Keeps z s) :
    Keeps z (State.yieldTo s id r st) := by
  unfold State.yieldTo
  repeat' with_reducible first | assumption | apply State.endSegment_keeps

theorem execYield_keeps {z : State} (ag : Agent) (w : DWord) (s : State) (hk : Keeps z s) :
    KeepsR z (execYield ag w s) := by
  unfold execYield
  repeat' first
    | with_reducible first | assumption | apply KeepsR.next | apply State.clauseOp_keeps | apply State.yieldTo_keeps
    | intro _

theorem execYieldWNext_keeps {z : State} (ag : Agent) (w : DWord) (s : State) (hk : Keeps z s) :
    KeepsR z (execYieldWNext ag w s) := by
  unfold execYieldWNext
  repeat' first
    | with_reducible first | assumption | apply KeepsR.next | apply State.clauseOp_keeps | apply State.yieldTo_keeps
    | intro _

theorem execYieldWMedia_keeps {z : State} (ag : Agent) (w : DWord) (s : State) (hk : Keeps z s) :
    KeepsR z (execYieldWMedia ag w s) := by
  unfold execYieldWMedia
  repeat' first
    | with_reducible
      first
      | assumption | apply KeepsR.next | apply State.clauseOp_keeps | apply State.yieldTo_keeps
      | fail_if_no_progress refine keeps_lit rfl rfl rfl rfl rfl rfl ?_
    | intro _

theorem State.failWait_keeps {z : State} (s : State) (id : Nat) (code : Nat) (hk : Keeps z s) :
    Keeps z (State.failWait s id code) := by
  unfold State.failWait
  repeat' with_reducible first | assumption | apply Keeps.ite | apply State.bump_keeps | apply State.endReq_keeps

theorem execYieldWStage_keeps {z : State} (ag : Agent) (w : DWord) (s : State) (hk : Keeps z s) :
    KeepsR z (execYieldWStage ag w s) := by
  unfold execYieldWStage
  refine KeepsR.next (State.clauseOp_keeps _ _ _ _ _ (fun s i id r h => ?_) hk)
  extract_lets +onlyGivenNames k stage
  clear_value stage
  split
  · exact State.trap_keeps _ _ _ _ _ h
  · split
    · exact State.failWait_keeps _ _ _ h
    · split
      next e => exact State.yieldTo_keeps _ _ _ _ (keeps_snd e (State.moveCursor_keeps _ _ _ _ h))

theorem execYieldWFence_keeps {z : State} (ag : Agent) (w : DWord) (s : State) (hk : Keeps z s) :
    KeepsR z (execYieldWFence ag w s) := by
  unfold execYieldWFence
  repeat' first
    | with_reducible first | assumption | apply KeepsR.next | apply State.clauseOp_keeps | apply State.yieldTo_keeps
    | intro _

theorem execYieldWTime_keeps {z : State} (ag : Agent) (w : DWord) (s : State) (hk : Keeps z s) :
    KeepsR z (execYieldWTime ag w s) := by
  unfold execYieldWTime
  repeat' first
    | with_reducible first | assumption | apply KeepsR.next | apply State.clauseOp_keeps | apply State.yieldTo_keeps
    | intro _

theorem execTimeWake_keeps {z : State} (req : Nat) (s : State) (hk : Keeps z s) :
    KeepsR z (execTimeWake req s) := by
  unfold execTimeWake
  repeat' first
    | with_reducible
      first
      | assumption | apply KeepsR.next | apply Keeps.ite | apply State.setReq_keeps
      | fail_if_no_progress refine keeps_lit rfl rfl rfl rfl rfl rfl ?_
    | intro _ | extract_lets +onlyGivenNames t | split
    | (with_reducible apply keeps_snd (by with_reducible assumption))
    | (with_reducible apply keeps_fst (by with_reducible assumption)) | dsimp +zetaDelta only

theorem execCommit_keeps {z : State} (ag : Agent) (w : DWord) (s : State) (hk : Keeps z s) :
    KeepsR z (execCommit ag w s) := by
  unfold execCommit
  repeat' first
    | with_reducible first | assumption | apply KeepsR.next | apply State.clauseOp_keeps | apply State.commit_keeps
    | intro _

theorem execCommitC_keeps {z : State} (ag : Agent) (w : DWord) (s : State) (hk : Keeps z s) :
    KeepsR z (execCommitC ag w s) := by
  unfold execCommitC
  repeat' first
    | with_reducible first | assumption | apply KeepsR.next | apply State.clauseOp_keeps | apply State.commit_keeps
    | intro _

theorem execCommitA_keeps {z : State} (ag : Agent) (w : DWord) (s : State) (hk : Keeps z s) :
    KeepsR z (execCommitA ag w s) := by
  unfold execCommitA
  repeat' first
    | with_reducible first | assumption | apply KeepsR.next | apply State.clauseOp_keeps | apply State.commit_keeps
    | intro _

theorem execAbort_keeps {z : State} (ag : Agent) (w : DWord) (s : State) (hk : Keeps z s) :
    KeepsR z (execAbort ag w s) := by
  unfold execAbort
  repeat' first
    | with_reducible
      first
      | assumption | apply KeepsR.next | apply State.clauseOp_keeps | apply State.endReq_keeps
      | apply State.bump_keeps | fail_if_no_progress refine keeps_lit rfl rfl rfl rfl rfl rfl ?_
    | intro _

/-! Machine/Stager.lean -/

theorem execTileInitDone_keeps {z : State} (s : State) (hk : Keeps z s) :
    KeepsR z (execTileInitDone s) := by
  unfold execTileInitDone
  repeat' with_reducible first | assumption | apply KeepsR.next | apply State.setB_keeps

theorem State.setChan_keeps {z : State} (s : State) (c : Nat) (k : Nat) (x : Channel) (hk : Keeps z s) :
    Keeps z (State.setChan s c k x) := by
  unfold State.setChan
  exact keeps_lit rfl rfl rfl rfl rfl rfl hk

theorem State.failStage_keeps {z : State} (s : State) (id : Nat) (stage : Nat) (code : Nat) (hk : Keeps z s) :
    Keeps z (State.failStage s id stage code) := by
  unfold State.failStage
  repeat' first
    | with_reducible
      first
      | assumption | apply Keeps.ite | apply State.failWait_keeps | apply State.setReq_keeps | apply State.stage_keeps
      | fail_if_no_progress refine keeps_lit rfl rfl rfl rfl rfl rfl ?_
    | intro _ | extract_lets +onlyGivenNames t | split
    | (with_reducible apply keeps_snd (by with_reducible assumption))
    | (with_reducible apply keeps_fst (by with_reducible assumption)) | dsimp only [id] | dsimp +zetaDelta only

theorem State.failTile_keeps {z : State} (s : State) (t : Nat) (code : Nat) (hk : Keeps z s) :
    Keeps z (State.failTile s t code) := by
  unfold State.failTile
  repeat' first
    | with_reducible
      first
      | assumption | apply Keeps.ite | apply State.stage_keeps | apply State.failStage_keeps
      | fail_if_no_progress refine keeps_lit rfl rfl rfl rfl rfl rfl ?_
    | intro _ | extract_lets +onlyGivenNames t | split
    | (with_reducible apply keeps_snd (by with_reducible assumption))
    | (with_reducible apply keeps_fst (by with_reducible assumption)) | dsimp +zetaDelta only

theorem State.readFill_keeps {z : State} (s : State) (r : Request) (tile : Nat) (line : Nat) (hk : Keeps z s) :
    Keeps z (State.readFill s r tile line) := by
  unfold State.readFill
  repeat' first
    | with_reducible
      first
      | assumption | apply Keeps.ite | apply State.wantNand_keeps | apply State.issueFor_keeps
      | apply State.failTile_keeps | apply State.takeLine_keeps | apply State.bump_keeps
      | fail_if_no_progress refine keeps_lit rfl rfl rfl rfl rfl rfl ?_
    | intro _ | extract_lets +onlyGivenNames t | split
    | (with_reducible apply keeps_snd (by with_reducible assumption))
    | (with_reducible apply keeps_fst (by with_reducible assumption)) | dsimp +zetaDelta only

theorem State.updPour_keeps {z : State} (s : State) (id : Nat) (f : Pour → Pour) (hk : Keeps z s) :
    Keeps z (State.updPour s id f) := by
  unfold State.updPour
  repeat' first
    | with_reducible
      first
      | assumption | apply State.setReq_keeps | fail_if_no_progress refine keeps_lit rfl rfl rfl rfl rfl rfl ?_
    | extract_lets +onlyGivenNames t | split

theorem State.evict_keeps {z : State} (s : State) (t : Nat) (hk : Keeps z s) :
    Keeps z (State.evict s t) := by
  unfold State.evict
  repeat' first
    | with_reducible
      first
      | assumption | apply State.bump_keeps | apply State.updPour_keeps
      | fail_if_no_progress refine keeps_lit rfl rfl rfl rfl rfl rfl ?_
    | extract_lets +onlyGivenNames t | split

theorem State.startFill_keeps {z : State} (s : State) (c : Nat) (k : Nat) (id : Nat) (r : Request) (hk : Keeps z s) :
    Keeps z (State.startFill s c k id r) := by
  unfold State.startFill
  repeat' first
    | with_reducible
      first
      | assumption | apply Keeps.ite | apply State.readFill_keeps | apply State.bump_keeps | apply State.setChan_keeps
      | apply State.evict_keeps | (apply keeps_foldl; intro _ _ _) | (apply keeps_foldl_fst; intro _ _ _)
      | fail_if_no_progress refine keeps_lit rfl rfl rfl rfl rfl rfl ?_
    | intro _ | extract_lets +onlyGivenNames t | split
    | (with_reducible apply keeps_snd (by with_reducible assumption))
    | (with_reducible apply keeps_fst (by with_reducible assumption)) | dsimp only [id] | dsimp +zetaDelta only

theorem execTileFillStart_keeps {z : State} (cluster : Fin 8) (s : State) (hk : Keeps z s) :
    KeepsR z (execTileFillStart cluster s) := by
  unfold execTileFillStart
  refine KeepsR.next ?_
  extract_lets +onlyGivenNames idle
  clear_value idle
  split
  · exact hk
  · refine Keeps.ite hk ?_
    extract_lets +onlyGivenNames asks e s1
    have h1 : Keeps z s1 := State.bumpBy_keeps _ _ _ hk
    clear_value s1 asks e
    split
    · exact h1
    · exact State.startFill_keeps _ _ _ _ _ h1

theorem State.freeTile_keeps {z : State} (s : State) (t : Nat) (hk : Keeps z s) :
    Keeps z (State.freeTile s t) := by
  unfold State.freeTile
  exact keeps_lit rfl rfl rfl rfl rfl rfl hk

theorem State.tileFilled_keeps {z : State} (s : State) (t : Nat) (x : Tile) (hk : Keeps z s) :
    Keeps z (State.tileFilled s t x) := by
  unfold State.tileFilled
  repeat' first
    | with_reducible
      first
      | assumption | apply Keeps.ite | apply State.rebind_keeps | apply State.setReq_keeps | apply State.stage_keeps
      | apply State.freeTile_keeps | fail_if_no_progress refine keeps_lit rfl rfl rfl rfl rfl rfl ?_
    | intro _ | extract_lets +onlyGivenNames t | split
    | (with_reducible apply keeps_snd (by with_reducible assumption))
    | (with_reducible apply keeps_fst (by with_reducible assumption)) | dsimp +zetaDelta only

theorem execTileFillDone_keeps {z : State} (cluster : Fin 8) (channel : Fin 8) (err : Option Byte) (s : State) (hk : Keeps z s) :
    KeepsR z (execTileFillDone cluster channel err s) := by
  unfold execTileFillDone
  repeat' first
    | with_reducible
      first
      | assumption | apply KeepsR.next | apply Keeps.ite | apply State.tileFilled_keeps | apply State.freeTile_keeps
      | apply State.failTile_keeps | apply State.setChan_keeps
      | fail_if_no_progress refine keeps_lit rfl rfl rfl rfl rfl rfl ?_
    | intro _ | extract_lets +onlyGivenNames t | split
    | (with_reducible apply keeps_snd (by with_reducible assumption))
    | (with_reducible apply keeps_fst (by with_reducible assumption)) | dsimp +zetaDelta only

theorem execStageLate_keeps {z : State} (req : Nat) (s : State) (hk : Keeps z s) :
    KeepsR z (execStageLate req s) := by
  unfold execStageLate
  repeat' first
    | with_reducible
      first
      | assumption | apply KeepsR.next | apply Keeps.ite | apply State.endReq_keeps | apply State.bump_keeps
      | fail_if_no_progress refine keeps_lit rfl rfl rfl rfl rfl rfl ?_
    | extract_lets +onlyGivenNames t | split

theorem State.showChan_keeps {z : State} (s : State) (c : Nat) (k : Nat) (tile : Nat) (cause : Nat) (source : Nat) (pna : Nat) (x : Tile) (halted : Bool) (hk : Keeps z s) :
    Keeps z (State.showChan s c k tile cause source pna x halted) := by
  unfold State.showChan
  repeat' first
    | with_reducible
      first
      | assumption | apply Keeps.ite | apply State.setReg_keeps
    | intro _ | extract_lets +onlyGivenNames t | split
    | (with_reducible apply keeps_snd (by with_reducible assumption))
    | (with_reducible apply keeps_fst (by with_reducible assumption)) | dsimp +zetaDelta only

theorem State.haltChannel_keeps {z : State} (s : State) (c : Nat) (k : Nat) (cause : Nat) (source : Nat) (pna : Nat) (hk : Keeps z s) :
    Keeps z (State.haltChannel s c k cause source pna) := by
  unfold State.haltChannel
  repeat' first
    | with_reducible
      first
      | assumption | apply Keeps.ite | apply State.endReq_keeps | apply State.report_keeps | apply State.bump_keeps
      | apply State.cancelFill_keeps | apply State.setChan_keeps | apply State.showChan_keeps
      | fail_if_no_progress refine keeps_lit rfl rfl rfl rfl rfl rfl ?_
    | intro _ | extract_lets +onlyGivenNames t | split
    | (with_reducible apply keeps_snd (by with_reducible assumption))
    | (with_reducible apply keeps_fst (by with_reducible assumption)) | dsimp +zetaDelta only

theorem execStagerChannelHalt_keeps {z : State} (cluster : Fin 8) (channel : Fin 8) (cause : Fin 8) (source : Fin 8) (pna : BitVec 48) (s : State) (hk : Keeps z s) :
    KeepsR z (execStagerChannelHalt cluster channel cause source pna s) := by
  unfold execStagerChannelHalt
  repeat' with_reducible first | assumption | apply KeepsR.next | apply Keeps.ite | apply State.haltChannel_keeps

theorem execChannelResume_keeps {z : State} (cluster : Fin 8) (channel : Fin 8) (s : State) (hk : Keeps z s) :
    KeepsR z (execChannelResume cluster channel s) := by
  unfold execChannelResume
  repeat' with_reducible
    first
    | assumption | apply KeepsR.next | apply Keeps.ite | apply State.resetRange_keeps | apply State.setChan_keeps

/-! Machine/Management.lean -/

theorem State.readCsr_keeps {z : State} (s : State) (n : Nat) (hk : Keeps z s) :
    Keeps z (State.readCsr s n).2 := by
  unfold State.readCsr
  repeat' first
    | with_reducible first | assumption | apply Keeps.ite | fail_if_no_progress refine keeps_lit rfl rfl rfl rfl rfl rfl ?_
    | extract_lets +onlyGivenNames t | split

theorem State.writeCsr_keeps {z : State} (s : State) (n : Nat) (v : DWord) (hk : Keeps z s) :
    Keeps z (State.writeCsr s n v) := by
  unfold State.writeCsr
  repeat' with_reducible first | assumption | apply Keeps.ite | apply State.setCsr_keeps

theorem execCsrr_keeps {z : State} (ag : Agent) (w : DWord) (s : State) (hk : Keeps z s) :
    KeepsR z (execCsrr ag w s) := by
  unfold execCsrr
  repeat' first
    | with_reducible
      first
      | assumption | apply KeepsR.next | apply State.instruct_keeps | apply State.readCsr_keeps
      | apply State.advance_keeps | apply State.setCtx_keeps
    | intro _

theorem execCsrw_keeps {z : State} (ag : Agent) (w : DWord) (s : State) (hk : Keeps z s) :
    KeepsR z (execCsrw ag w s) := by
  unfold execCsrw
  repeat' first
    | with_reducible
      first
      | assumption | apply KeepsR.next | apply State.instruct_keeps | apply State.advance_keeps
      | apply State.writeCsr_keeps
    | intro _

theorem execTret_keeps {z : State} (ag : Agent) (w : DWord) (s : State) (hk : Keeps z s) :
    KeepsR z (execTret ag w s) := by
  unfold execTret
  repeat' first
    | with_reducible
      first
      | assumption | apply KeepsR.next | apply Keeps.ite | apply State.instruct_keeps | apply State.setCsr_keeps
      | fail_if_no_progress refine keeps_lit rfl rfl rfl rfl rfl rfl ?_
    | intro _

theorem execIflush_keeps {z : State} (ag : Agent) (w : DWord) (s : State) (hk : Keeps z s) :
    KeepsR z (execIflush ag w s) := by
  unfold execIflush
  repeat' first
    | with_reducible
      first
      | assumption | apply KeepsR.next | apply Keeps.ite | apply State.instruct_keeps | apply State.spend_keeps
      | apply State.advance_keeps | fail_if_no_progress refine keeps_lit rfl rfl rfl rfl rfl rfl ?_
    | intro _

theorem execMcpInterrupt_keeps {z : State} (source : Fin 16) (s : State) (hk : Keeps z s) :
    KeepsR z (execMcpInterrupt source s) := by
  unfold execMcpInterrupt
  repeat' with_reducible
    first
    | assumption | apply KeepsR.next | apply Keeps.ite | apply State.mcpTrap_keeps
    | fail_if_no_progress refine keeps_lit rfl rfl rfl rfl rfl rfl ?_

/-! Machine/Engines.lean -/

theorem State.overrun_keeps {z : State} (s : State) (strand : Fin 512) (hk : Keeps z s) :
    Keeps z (State.overrun s strand) := by
  unfold State.overrun
  repeat' first
    | with_reducible
      first
      | assumption | apply Keeps.ite | apply State.report_keeps | apply State.trap_keeps | apply State.bump_keeps
      | fail_if_no_progress refine keeps_lit rfl rfl rfl rfl rfl rfl ?_
    | intro _ | extract_lets +onlyGivenNames t | split
    | (with_reducible apply keeps_snd (by with_reducible assumption))
    | (with_reducible apply keeps_fst (by with_reducible assumption)) | dsimp only [id] | dsimp +zetaDelta only

theorem execTrapOverrun_keeps {z : State} (strand : Fin 512) (s : State) (hk : Keeps z s) :
    KeepsR z (execTrapOverrun strand s) := by
  unfold execTrapOverrun
  repeat' first
    | with_reducible
      first
      | assumption | apply KeepsR.next | apply Keeps.ite | apply State.overrun_keeps
    | intro _ | extract_lets +onlyGivenNames t | split
    | (with_reducible apply keeps_snd (by with_reducible assumption))
    | (with_reducible apply keeps_fst (by with_reducible assumption)) | dsimp +zetaDelta only

theorem State.overrunAll_keeps {z : State} (s : State) (hk : Keeps z s) :
    Keeps z (State.overrunAll s) := by
  unfold State.overrunAll
  repeat' first
    | with_reducible
      first
      | assumption | apply Keeps.ite | apply State.overrun_keeps | (apply keeps_foldl; intro _ _ _)
      | (apply keeps_foldl_fst; intro _ _ _)
    | intro _ | extract_lets +onlyGivenNames t | split
    | (with_reducible apply keeps_snd (by with_reducible assumption))
    | (with_reducible apply keeps_fst (by with_reducible assumption)) | dsimp +zetaDelta only

theorem execIcacheInvalidationDone_keeps {z : State} (s : State) (hk : Keeps z s) :
    KeepsR z (execIcacheInvalidationDone s) := by
  unfold execIcacheInvalidationDone
  repeat' first
    | with_reducible
      first
      | assumption | apply KeepsR.next | apply Keeps.ite | apply State.setB_keeps
      | fail_if_no_progress refine keeps_lit rfl rfl rfl rfl rfl rfl ?_
    | intro _ | extract_lets +onlyGivenNames t | split
    | (with_reducible apply keeps_snd (by with_reducible assumption))
    | (with_reducible apply keeps_fst (by with_reducible assumption)) | dsimp +zetaDelta only

theorem State.fence_keeps {z : State} (s : State) (engine : Nat) (hk : Keeps z s) :
    Keeps z (State.fence s engine) := by
  unfold State.fence
  repeat' first
    | with_reducible
      first
      | assumption | apply Keeps.ite | apply State.report_keeps | apply State.toRestart_keeps
      | (apply keeps_foldl; intro _ _ _) | (apply keeps_foldl_fst; intro _ _ _)
      | fail_if_no_progress refine keeps_lit rfl rfl rfl rfl rfl rfl ?_
    | intro _ | extract_lets +onlyGivenNames t | split
    | (with_reducible apply keeps_snd (by with_reducible assumption))
    | (with_reducible apply keeps_fst (by with_reducible assumption)) | dsimp +zetaDelta only

theorem execEngineFence_keeps {z : State} (engine : Fin 64) (s : State) (hk : Keeps z s) :
    KeepsR z (execEngineFence engine s) := by
  unfold execEngineFence
  repeat' with_reducible
    first
    | assumption | apply KeepsR.next | apply Keeps.ite | apply State.fence_keeps
    | fail_if_no_progress refine keeps_lit rfl rfl rfl rfl rfl rfl ?_

theorem execRequestRestart_keeps {z : State} (req : Nat) (s : State) (hk : Keeps z s) :
    KeepsR z (execRequestRestart req s) := by
  unfold execRequestRestart
  repeat' first
    | with_reducible
      first
      | assumption | apply KeepsR.next | apply Keeps.ite | apply State.nextOrder_keeps | apply State.bump_keeps
      | apply State.setReq_keeps | fail_if_no_progress refine keeps_lit rfl rfl rfl rfl rfl rfl ?_
    | extract_lets +onlyGivenNames t | split

/-! Machine/Messages.lean -/

theorem State.post_keeps {z : State} (s : State) (ag : Agent) (w : DWord) (sub : Nat) (kinds : List Nat) (ready : Request → Bool) (hk : Keeps z s) :
    Keeps z (State.post s ag w sub kinds ready) := by
  unfold State.post
  repeat' first
    | with_reducible
      first
      | assumption | apply Keeps.ite | apply State.clauseOp_keeps | apply State.trap_keeps | apply State.goOn_keeps
      | fail_if_no_progress refine keeps_lit rfl rfl rfl rfl rfl rfl ?_
    | intro _

theorem execPostResponse_keeps {z : State} (ag : Agent) (w : DWord) (s : State) (hk : Keeps z s) :
    KeepsR z (execPostResponse ag w s) := by
  unfold execPostResponse
  repeat' with_reducible first | assumption | apply KeepsR.next | apply State.post_keeps

theorem execPostAck_keeps {z : State} (ag : Agent) (w : DWord) (s : State) (hk : Keeps z s) :
    KeepsR z (execPostAck ag w s) := by
  unfold execPostAck
  repeat' with_reducible first | assumption | apply KeepsR.next | apply State.post_keeps

theorem execPostAtomic_keeps {z : State} (ag : Agent) (w : DWord) (s : State) (hk : Keeps z s) :
    KeepsR z (execPostAtomic ag w s) := by
  unfold execPostAtomic
  repeat' with_reducible first | assumption | apply KeepsR.next | apply State.post_keeps

theorem execPostFlushack_keeps {z : State} (ag : Agent) (w : DWord) (s : State) (hk : Keeps z s) :
    KeepsR z (execPostFlushack ag w s) := by
  unfold execPostFlushack
  repeat' with_reducible first | assumption | apply KeepsR.next | apply State.post_keeps

theorem execReply_keeps {z : State} (ag : Agent) (w : DWord) (s : State) (hk : Keeps z s) :
    KeepsR z (execReply ag w s) := by
  unfold execReply
  repeat' first
    | with_reducible
      first
      | assumption | apply KeepsR.next | apply Keeps.ite | apply State.goOn_keeps | apply State.illegal_keeps
      | apply State.trap_keeps | apply State.clauseOp_keeps
      | fail_if_no_progress refine keeps_lit rfl rfl rfl rfl rfl rfl ?_
    | intro _ | extract_lets +onlyGivenNames t | split
    | (with_reducible apply keeps_snd (by with_reducible assumption))
    | (with_reducible apply keeps_fst (by with_reducible assumption)) | dsimp only [id] | dsimp +zetaDelta only

theorem execNotify_keeps {z : State} (ag : Agent) (w : DWord) (s : State) (hk : Keeps z s) :
    KeepsR z (execNotify ag w s) := by
  unfold execNotify
  repeat' first
    | with_reducible
      first
      | assumption | apply KeepsR.next | apply Keeps.ite | apply State.clauseOp_keeps | apply State.trap_keeps
      | apply State.goOn_keeps | fail_if_no_progress refine keeps_lit rfl rfl rfl rfl rfl rfl ?_
    | intro _

theorem execMeter_keeps {z : State} (ag : Agent) (w : DWord) (s : State) (hk : Keeps z s) :
    KeepsR z (execMeter ag w s) := by
  unfold execMeter
  repeat' first
    | with_reducible
      first
      | assumption | apply KeepsR.next | apply Keeps.ite | apply State.clauseOp_keeps | apply State.trap_keeps
      | apply State.goOn_keeps | fail_if_no_progress refine keeps_lit rfl rfl rfl rfl rfl rfl ?_
    | intro _

end Sys2Proof.Machine
end

