-- ==== Sys2Proof/Laws/KeepsControl.lean ====
section
/-! SUPPORT. The control rings, the placement, the flash and the security processor:
each operation keeps the queue and the canonical memories (`Keeps`). -/

namespace Sys2Proof.Machine

open Sys2Proof

/-! Machine/Control.lean -/

theorem State.stage_keeps {z : State} (s : State) (group : Option Nat) (c : Change) (hk : Keeps z s) :
    Keeps z (State.stage s group c) := by
  unfold State.stage
  exact keeps_lit rfl rfl rfl rfl rfl rfl hk

theorem State.showRing_keeps {z : State} (s : State) (r : Nat) (hk : Keeps z s) :
    Keeps z (State.showRing s r) := by
  unfold State.showRing
  repeat' with_reducible first | assumption | apply Keeps.ite | apply State.setF_keeps

theorem State.showRings_keeps {z : State} (s : State) (hk : Keeps z s) :
    Keeps z (State.showRings s) := by
  unfold State.showRings
  repeat' with_reducible
    first
    | assumption | apply Keeps.ite | (apply keeps_foldl; intro _ _ _) | apply State.showRing_keeps
    | apply State.setF_keeps

theorem State.drain_keeps {z : State} (s : State) (slot : Nat) (hk : Keeps z s) :
    Keeps z (State.drain s slot) := by
  unfold State.drain
  exact keeps_lit rfl rfl rfl rfl rfl rfl hk

theorem State.imageLoaded_keeps {z : State} (s : State) (slot : Nat) (hk : Keeps z s) :
    Keeps z (State.imageLoaded s slot) := by
  unfold State.imageLoaded
  repeat' first
    | with_reducible
      first
      | assumption | apply Keeps.ite | apply State.drain_keeps | (apply keeps_foldl; intro _ _ _)
      | (apply keeps_foldl_fst; intro _ _ _) | fail_if_no_progress refine keeps_lit rfl rfl rfl rfl rfl rfl ?_
    | intro _ | extract_lets +onlyGivenNames t | split
    | (with_reducible apply keeps_snd (by with_reducible assumption))
    | (with_reducible apply keeps_fst (by with_reducible assumption)) | dsimp only [id] | dsimp +zetaDelta only

theorem State.finish_keeps {z : State} (s : State) (r : Nat) (hk : Keeps z s) :
    Keeps z (State.finish s r) := by
  unfold State.finish
  repeat' first
    | with_reducible
      first
      | assumption | apply Keeps.ite | apply State.writeEntry_keeps | apply State.imageLoaded_keeps
      | apply State.setRing_keeps | fail_if_no_progress refine keeps_lit rfl rfl rfl rfl rfl rfl ?_
    | intro _ | extract_lets +onlyGivenNames t | split
    | (with_reducible apply keeps_snd (by with_reducible assumption))
    | (with_reducible apply keeps_fst (by with_reducible assumption)) | dsimp +zetaDelta only

theorem State.finishAll_keeps {z : State} (s : State) (hk : Keeps z s) :
    Keeps z (State.finishAll s) := by
  unfold State.finishAll
  repeat' with_reducible
    first
    | assumption | (apply keeps_foldl; intro _ _ _) | apply State.showRings_keeps | apply State.finish_keeps

theorem State.updBusy_keeps {z : State} (s : State) (f : PendCmd → PendCmd) (hk : Keeps z s) :
    Keeps z (State.updBusy s f) := by
  unfold State.updBusy
  exact keeps_lit rfl rfl rfl rfl rfl rfl hk

theorem State.eventDone_keeps {z : State} (s : State) (ring : Nat) (tag : Word) (f : PendCmd → PendCmd) (hk : Keeps z s) :
    Keeps z (State.eventDone s ring tag f) := by
  unfold State.eventDone
  repeat' first
    | with_reducible
      first
      | assumption | apply Keeps.ite | apply State.finish_keeps | apply State.setRing_keeps
      | fail_if_no_progress refine keeps_lit rfl rfl rfl rfl rfl rfl ?_
    | extract_lets +onlyGivenNames t | split

theorem State.command_keeps {z : State} (s : State) (h : CmdHead) (opcode : Nat) (bad : Bool) (ch : Option Nat) (own : State → Nat) (effect : State → State × PendCmd) (heffect : ∀ (s : State), Keeps z s → Keeps z (effect s).1) (hk : Keeps z s) :
    Keeps z (State.command s h opcode bad ch own effect) := by
  unfold State.command
  repeat' first
    | with_reducible
      first
      | assumption | apply KeepsR.next | apply Keeps.ite | apply State.setRing_keeps | apply State.showRings_keeps
      | apply State.finish_keeps | fail_if_no_progress refine keeps_lit rfl rfl rfl rfl rfl rfl ?_
    | apply hown | apply heffect | intro _ | extract_lets +onlyGivenNames t | split

theorem State.clearExtent_keeps {z : State} (s : State) (e : Nat) (hk : Keeps z s) :
    Keeps z (State.clearExtent s e) := by
  unfold State.clearExtent
  exact keeps_litw rfl id (Maps.wf_filter _) id id id (keeps_foldl _ _ (fun _ _ h => State.unmapPage_keeps _ _ h) hk)

theorem State.markDiscards_keeps {z : State} (s : State) (first : Nat) (last : Nat) (hk : Keeps z s) :
    Keeps z (State.markDiscards s first last) := by
  unfold State.markDiscards
  repeat' with_reducible first | assumption | fail_if_no_progress refine keeps_lit rfl rfl rfl rfl rfl rfl ?_

theorem State.forgetQp_keeps {z : State} (s : State) (q : Nat) (hk : Keeps z s) :
    Keeps z (State.forgetQp s q) := by
  unfold State.forgetQp
  repeat' first
    | with_reducible
      first
      | assumption | apply Keeps.ite | apply State.takeMiss_keeps
      | fail_if_no_progress refine keeps_lit rfl rfl rfl rfl rfl rfl ?_
    | intro _ | extract_lets +onlyGivenNames t | split
    | (with_reducible apply keeps_snd (by with_reducible assumption))
    | (with_reducible apply keeps_fst (by with_reducible assumption)) | dsimp +zetaDelta only

theorem State.dropPackets_keeps {z : State} (s : State) (o : Nat) (hk : Keeps z s) :
    Keeps z (State.dropPackets s o) := by
  unfold State.dropPackets
  repeat' first
    | with_reducible
      first
      | assumption | apply Keeps.ite | apply State.dropReq_keeps | (apply keeps_foldl; intro _ _ _)
      | (apply keeps_foldl_fst; intro _ _ _)
    | intro _ | extract_lets +onlyGivenNames t | split
    | (with_reducible apply keeps_snd (by with_reducible assumption))
    | (with_reducible apply keeps_fst (by with_reducible assumption)) | dsimp +zetaDelta only

theorem State.cutEntry_keeps {z : State} (i : Nat) (s : State) (x : Nat × OptEntry) (hk : Keeps z s) :
    Keeps z (State.cutEntry i s x) := by
  unfold State.cutEntry
  repeat' first
    | with_reducible
      first
      | assumption | apply Keeps.ite | apply State.nakCode_keeps | apply State.dropReq_keeps
      | apply State.dropOutstanding_keeps | apply State.endReq_keeps | apply State.updReq_keeps
      | apply State.markFailed_keeps | apply State.freeOpt_keeps | apply State.dropPackets_keeps
      | apply State.drain_keeps | fail_if_no_progress refine keeps_lit rfl rfl rfl rfl rfl rfl ?_
    | intro _ | extract_lets +onlyGivenNames t | split
    | (with_reducible apply keeps_snd (by with_reducible assumption))
    | (with_reducible apply keeps_fst (by with_reducible assumption)) | dsimp only [id] | dsimp +zetaDelta only

theorem State.cutWindow_keeps {z : State} (s : State) (i : Nat) (hk : Keeps z s) :
    Keeps z (State.cutWindow s i) := by
  unfold State.cutWindow
  repeat' with_reducible first | assumption | (apply keeps_foldl; intro _ _ _) | apply State.cutEntry_keeps

theorem State.loseKey_keeps {z : State} (s : State) (id : Nat) (hk : Keeps z s) :
    Keeps z (State.loseKey s id) := by
  unfold State.loseKey
  repeat' first
    | with_reducible
      first
      | assumption | apply Keeps.ite | fail_if_no_progress refine keeps_lit rfl rfl rfl rfl rfl rfl ?_
    | intro _ | extract_lets +onlyGivenNames t | split
    | (with_reducible apply keeps_snd (by with_reducible assumption))
    | (with_reducible apply keeps_fst (by with_reducible assumption)) | dsimp only [id] | dsimp +zetaDelta only

theorem State.formatScm_keeps {z : State} (s : State) (regions : Nat) (pairId : DWord) (hk : Keeps z s) :
    Keeps z (State.formatScm s regions pairId) := by
  unfold State.formatScm
  exact State.setB_keeps _ _ _ _ (State.setF_keeps _ _ _ _ _
    (keeps_litw rfl id (fun _ => Maps.wf_nil _) id id id hk))

theorem State.published_keeps {z : State} (s : State) (c : Change) (hk : Keeps z s) :
    Keeps z (State.published s c) := by
  unfold State.published
  repeat' first
    | with_reducible
      first
      | assumption | apply Keeps.ite | apply State.formatScm_keeps | apply State.forgetQp_keeps
      | apply State.cutWindow_keeps | apply State.eventDone_keeps | apply State.markDiscards_keeps
      | apply State.clearExtent_keeps | apply State.loseKey_keeps
      | fail_if_no_progress refine keeps_lit rfl rfl rfl rfl rfl rfl ?_
    | intro _ | extract_lets +onlyGivenNames t | split
    | (with_reducible apply keeps_snd (by with_reducible assumption))
    | (with_reducible apply keeps_fst (by with_reducible assumption)) | dsimp only [id] | dsimp +zetaDelta only

theorem State.setTables_keeps {z : State} (s : State) (t : Tables) (hk : Keeps z s) :
    Keeps z (State.setTables s t) := by
  unfold State.setTables
  exact keeps_lit rfl rfl rfl rfl rfl rfl hk

theorem State.publishOne_keeps {z : State} (a : State × List PendChange) (c : PendChange) (hk : Keeps z a.1) :
    Keeps z (State.publishOne a c).1 := by
  unfold State.publishOne
  repeat' first
    | with_reducible
      first
      | assumption | apply Keeps.ite | apply State.published_keeps | apply State.setTables_keeps
    | intro _ | extract_lets +onlyGivenNames t | split
    | (with_reducible apply keeps_snd (by with_reducible assumption))
    | (with_reducible apply keeps_fst (by with_reducible assumption)) | dsimp +zetaDelta only

theorem State.publish_keeps {z : State} (s : State) (hk : Keeps z s) :
    Keeps z (State.publish s) := by
  unfold State.publish
  repeat' with_reducible
    first
    | assumption | (apply keeps_foldl_fst; intro _ _ _) | apply State.publishOne_keeps
    | fail_if_no_progress refine keeps_lit rfl rfl rfl rfl rfl rfl ?_

/-! Machine/Rings.lean -/

theorem State.flagAddr_keeps {z : State} (s : State) (off : Nat) (hk : Keeps z s) :
    Keeps z (State.flagAddr s off) := by
  unfold State.flagAddr
  repeat' with_reducible first | assumption | apply State.setReg_keeps

theorem State.fetchRing_keeps {z : State} (s : State) (r : Nat) (hk : Keeps z s) :
    Keeps z (State.fetchRing s r) := by
  unfold State.fetchRing
  repeat' with_reducible first | assumption | apply Keeps.ite | apply State.setRing_keeps | apply State.setF_keeps

theorem State.doorbell_keeps {z : State} (s : State) (r : Nat) (tail : Nat) (hk : Keeps z s) :
    Keeps z (State.doorbell s r tail) := by
  unfold State.doorbell
  repeat' with_reducible
    first
    | assumption | apply Keeps.ite | apply State.ctlErr_keeps | apply State.flagAddr_keeps
    | apply State.showRings_keeps | apply State.fetchRing_keeps | apply State.setF_keeps

theorem State.cqHeadTo_keeps {z : State} (s : State) (r : Nat) (head : Nat) (hk : Keeps z s) :
    Keeps z (State.cqHeadTo s r head) := by
  unfold State.cqHeadTo
  repeat' with_reducible
    first
    | assumption | apply Keeps.ite | apply State.setF_keeps | apply State.showRings_keeps
    | apply State.writeLost_keeps | apply State.finish_keeps

theorem State.ringCfgTo_keeps {z : State} (s : State) (r : Nat) (v : Word) (hk : Keeps z s) :
    Keeps z (State.ringCfgTo s r v) := by
  unfold State.ringCfgTo
  repeat' with_reducible
    first
    | assumption | apply Keeps.ite | apply State.ctlErr_keeps | apply State.flagAddr_keeps | apply State.setF_keeps
    | apply State.setRing_keeps | apply State.showRings_keeps

theorem State.clearHalt_keeps {z : State} (s : State) (k : Nat) (hk : Keeps z s) :
    Keeps z (State.clearHalt s k) := by
  unfold State.clearHalt
  repeat' with_reducible first | assumption | apply State.setReg_keeps

theorem State.resumeDma_keeps {z : State} (s : State) (mask : Byte) (hk : Keeps z s) :
    Keeps z (State.resumeDma s mask) := by
  unfold State.resumeDma
  repeat' with_reducible
    first
    | assumption | (apply keeps_foldl; intro _ _ _) | apply State.clearHalt_keeps | apply State.fetchRing_keeps
    | apply State.finishAll_keeps | apply State.writeLost_keeps
    | fail_if_no_progress refine keeps_lit rfl rfl rfl rfl rfl rfl ?_

theorem execSqDoorbell_keeps {z : State} (ring : Fin 16) (tail : BitVec 16) (s : State) (hk : Keeps z s) :
    KeepsR z (execSqDoorbell ring tail s) := by
  unfold execSqDoorbell
  repeat' with_reducible first | assumption | apply KeepsR.next | apply State.doorbell_keeps

theorem execCqHeadWrite_keeps {z : State} (ring : Fin 16) (head : BitVec 16) (s : State) (hk : Keeps z s) :
    KeepsR z (execCqHeadWrite ring head s) := by
  unfold execCqHeadWrite
  repeat' with_reducible first | assumption | apply KeepsR.next | apply State.cqHeadTo_keeps

theorem execRingEnable_keeps {z : State} (ring : Fin 16) (v : Word) (s : State) (hk : Keeps z s) :
    KeepsR z (execRingEnable ring v s) := by
  unfold execRingEnable
  repeat' with_reducible first | assumption | apply KeepsR.next | apply State.ringCfgTo_keeps

theorem execDmaChannelHalt_keeps {z : State} (ch : Fin 8) (cause : Fin 8) (ring : Fin 16) (s : State) (hk : Keeps z s) :
    KeepsR z (execDmaChannelHalt ch cause ring s) := by
  unfold execDmaChannelHalt
  repeat' with_reducible
    first
    | assumption | apply KeepsR.next | apply Keeps.ite | apply State.setReg_keeps | apply State.ctlErr_keeps
    | apply State.report_keeps | apply State.bump_keeps | apply State.showRings_keeps

theorem execDmaResume_keeps {z : State} (mask : Byte) (s : State) (hk : Keeps z s) :
    KeepsR z (execDmaResume mask s) := by
  unfold execDmaResume
  repeat' with_reducible first | assumption | apply KeepsR.next | apply State.resumeDma_keeps

theorem State.finishLoad_keeps {z : State} (s : State) (r : Nat) (hk : Keeps z s) :
    Keeps z (State.finishLoad s r) := by
  unfold State.finishLoad
  repeat' first
    | with_reducible
      first
      | assumption | apply Keeps.ite | apply State.imageLoaded_keeps
      | fail_if_no_progress refine keeps_lit rfl rfl rfl rfl rfl rfl ?_
    | intro _ | extract_lets +onlyGivenNames t | split
    | (with_reducible apply keeps_snd (by with_reducible assumption))
    | (with_reducible apply keeps_fst (by with_reducible assumption)) | dsimp +zetaDelta only

theorem State.resetPort_keeps {z : State} (s : State) (hk : Keeps z s) :
    Keeps z (State.resetPort s) := by
  unfold State.resetPort
  repeat' first
    | with_reducible
      first
      | assumption | apply Keeps.ite | apply State.setReg_keeps | apply State.resetRange_keeps
      | apply State.finishLoad_keeps | (apply keeps_foldl; intro _ _ _) | (apply keeps_foldl_fst; intro _ _ _)
      | fail_if_no_progress refine keeps_lit rfl rfl rfl rfl rfl rfl ?_
    | intro _ | extract_lets +onlyGivenNames t | split
    | (with_reducible apply keeps_snd (by with_reducible assumption))
    | (with_reducible apply keeps_fst (by with_reducible assumption)) | dsimp +zetaDelta only

theorem execFunctionLevelReset_keeps {z : State} (s : State) (hk : Keeps z s) :
    KeepsR z (execFunctionLevelReset s) := by
  unfold execFunctionLevelReset
  repeat' with_reducible first | assumption | apply KeepsR.next | apply State.setF_keeps | apply State.resetPort_keeps

theorem execPerst_keeps {z : State} (s : State) (hk : Keeps z s) :
    KeepsR z (execPerst s) := by
  unfold execPerst
  repeat' with_reducible first | assumption | apply KeepsR.next | apply State.resetPort_keeps

/-! Machine/Flash.lean -/

theorem State.pend_keeps {z : State} (s : State) (k : Nat) (hk : Keeps z s) :
    Keeps z (State.pend s k) := by
  unfold State.pend
  exact keeps_lit rfl rfl rfl rfl rfl rfl hk

theorem State.setBank_keeps {z : State} (s : State) (bankB : Bool) (words : Table DWord) (undef : Table Bool) (hk : Keeps z s) :
    Keeps z (State.setBank s bankB words undef) := by
  unfold State.setBank
  repeat' with_reducible
    first
    | assumption | apply Keeps.ite | fail_if_no_progress refine keeps_lit rfl rfl rfl rfl rfl rfl ?_

theorem State.storeRow_keeps {z : State} (s : State) (bankB : Bool) (row : Nat) (ws : List DWord) (hk : Keeps z s) :
    Keeps z (State.storeRow s bankB row ws) := by
  unfold State.storeRow
  repeat' first
    | with_reducible
      first
      | assumption | apply Keeps.ite | apply State.setBank_keeps | (apply keeps_foldl; intro _ _ _)
      | (apply keeps_foldl_fst; intro _ _ _)
    | intro _ | extract_lets +onlyGivenNames t | split
    | (with_reducible apply keeps_snd (by with_reducible assumption))
    | (with_reducible apply keeps_fst (by with_reducible assumption)) | dsimp +zetaDelta only

theorem State.eraseRows_keeps {z : State} (s : State) (bankB : Bool) (first : Nat) (last : Nat) (hk : Keeps z s) :
    Keeps z (State.eraseRows s bankB first last) := by
  unfold State.eraseRows
  repeat' first
    | with_reducible
      first
      | assumption | apply Keeps.ite | apply State.setBank_keeps | (apply keeps_foldl; intro _ _ _)
      | (apply keeps_foldl_fst; intro _ _ _)
    | intro _ | extract_lets +onlyGivenNames t | split
    | (with_reducible apply keeps_snd (by with_reducible assumption))
    | (with_reducible apply keeps_fst (by with_reducible assumption)) | dsimp +zetaDelta only

theorem State.undefRows_keeps {z : State} (s : State) (bankB : Bool) (first : Nat) (n : Nat) (hk : Keeps z s) :
    Keeps z (State.undefRows s bankB first n) := by
  unfold State.undefRows
  repeat' with_reducible first | assumption | apply State.setBank_keeps

theorem State.interruptFlash_keeps {z : State} (s : State) (hk : Keeps z s) : Keeps z (State.interruptFlash s) := by
  unfold State.interruptFlash
  extract_lets +onlyGivenNames cut s1 s2
  have hc : ∀ (s : State) (o : FlashOpRec), Keeps z s → Keeps z (cut s o) := by
    intro s o h
    dsimp only [cut]
    exact Keeps.ite (State.undefRows_keeps _ _ _ _ h) (Keeps.ite (State.undefRows_keeps _ _ _ _ h) h)
  have h1 : Keeps z s1 := by
    dsimp only [s1]
    split
    · exact hc _ _ hk
    · exact hk
  have h2 : Keeps z s2 := by
    dsimp only [s2]
    split
    · exact hc _ _ h1
    · exact h1
  clear_value s1 s2
  exact keeps_lit rfl rfl rfl rfl rfl rfl h2

theorem State.otpProgram_keeps {z : State} (s : State) (off : Nat) (bytes : List Byte) (hk : Keeps z s) :
    Keeps z (State.otpProgram s off bytes) := by
  unfold State.otpProgram
  repeat' first
    | with_reducible first | assumption | fail_if_no_progress refine keeps_lit rfl rfl rfl rfl rfl rfl ?_
    | extract_lets +onlyGivenNames t | (with_reducible apply keeps_litw; (with_reducible exact rfl); (iterate 5 with_reducible (first | exact id | exact fun w => Bar.wf_mk (Bar.wf_val w) (Bar.wf_eff w) (Bar.wf_copy w) | exact fun w => Bar.wf_mk (Maps.wf_wr _ _ (Bar.wf_val w)) (Bar.wf_eff w) (Bar.wf_copy w) | exact fun w => Bar.wf_mk (Bar.wf_val w) (Maps.wf_wr _ _ (Bar.wf_eff w)) (Bar.wf_copy w) | exact fun w => Bar.wf_mk (Bar.wf_val w) (Bar.wf_val w) (Bar.wf_copy w) | exact fun w => Bar.wf_mk (Bar.wf_val w) (Bar.wf_eff w) (Bar.wf_val w) | exact fun w => Bar.wf_mk (Maps.wf_filter _ (Bar.wf_val w)) (Maps.wf_filter _ (Bar.wf_eff w)) (Maps.wf_filter _ (Bar.wf_copy w)) | exact fun w => Mem.wf_setBytes _ _ w )); first | with_reducible assumption )

theorem State.eflFlag_keeps {z : State} (s : State) (bit : Nat) (hk : Keeps z s) :
    Keeps z (State.eflFlag s bit) := by
  unfold State.eflFlag
  repeat' with_reducible first | assumption | apply State.setB_keeps

theorem State.showEfl_keeps {z : State} (s : State) (hk : Keeps z s) :
    Keeps z (State.showEfl s) := by
  unfold State.showEfl
  repeat' with_reducible first | assumption | apply State.setB_keeps

theorem State.recorderGo_keeps {z : State} (s : State) (hk : Keeps z s) :
    Keeps z (State.recorderGo s) := by
  unfold State.recorderGo
  repeat' with_reducible
    first
    | assumption | apply Keeps.ite | fail_if_no_progress refine keeps_lit rfl rfl rfl rfl rfl rfl ?_

theorem State.startOp_keeps {z : State} (s : State) (o : FlashOpRec) (sameCycle : Bool) (hk : Keeps z s) :
    Keeps z (State.startOp s o sameCycle) := by
  unfold State.startOp
  repeat' with_reducible
    first
    | assumption | apply Keeps.ite | apply State.showEfl_keeps
    | fail_if_no_progress refine keeps_lit rfl rfl rfl rfl rfl rfl ?_

theorem execFlashProgram_keeps {z : State} (rq : Requester) (sameCycle : Bool) (s : State) (hk : Keeps z s) :
    KeepsR z (execFlashProgram rq sameCycle s) := by
  unfold execFlashProgram
  repeat' with_reducible
    first
    | assumption | apply KeepsR.next | apply Keeps.ite | apply State.eflFlag_keeps | apply State.startOp_keeps

theorem execFlashErase_keeps {z : State} (rq : Requester) (sameCycle : Bool) (s : State) (hk : Keeps z s) :
    KeepsR z (execFlashErase rq sameCycle s) := by
  unfold execFlashErase
  repeat' with_reducible
    first
    | assumption | apply KeepsR.next | apply Keeps.ite | apply State.eflFlag_keeps | apply State.startOp_keeps
    | apply State.setReg_keeps

theorem execFlashSuspend_keeps {z : State} (rq : Requester) (s : State) (hk : Keeps z s) :
    KeepsR z (execFlashSuspend rq s) := by
  unfold execFlashSuspend
  repeat' first
    | with_reducible
      first
      | assumption | apply KeepsR.next | apply Keeps.ite | apply State.eflFlag_keeps | apply State.recorderGo_keeps
      | apply State.showEfl_keeps | fail_if_no_progress refine keeps_lit rfl rfl rfl rfl rfl rfl ?_
    | extract_lets +onlyGivenNames t | split

theorem execFlashResume_keeps {z : State} (rq : Requester) (s : State) (hk : Keeps z s) :
    KeepsR z (execFlashResume rq s) := by
  unfold execFlashResume
  repeat' first
    | with_reducible
      first
      | assumption | apply KeepsR.next | apply Keeps.ite | apply State.eflFlag_keeps | apply State.showEfl_keeps
      | fail_if_no_progress refine keeps_lit rfl rfl rfl rfl rfl rfl ?_
    | extract_lets +onlyGivenNames t | split

theorem execOtpProgram_keeps {z : State} (rq : Requester) (sameCycle : Bool) (s : State) (hk : Keeps z s) :
    KeepsR z (execOtpProgram rq sameCycle s) := by
  unfold execOtpProgram
  repeat' with_reducible
    first
    | assumption | apply KeepsR.next | apply Keeps.ite | apply State.eflFlag_keeps | apply State.startOp_keeps

theorem State.endOp_keeps {z : State} (s : State) (flag : Nat) (hk : Keeps z s) :
    Keeps z (State.endOp s flag) := by
  unfold State.endOp
  repeat' first
    | with_reducible
      first
      | assumption | apply Keeps.ite | apply State.recorderGo_keeps | apply State.showEfl_keeps
      | apply State.pend_keeps | apply State.eflFlag_keeps
      | fail_if_no_progress refine keeps_lit rfl rfl rfl rfl rfl rfl ?_
    | intro _ | extract_lets +onlyGivenNames t | split
    | (with_reducible apply keeps_snd (by with_reducible assumption))
    | (with_reducible apply keeps_fst (by with_reducible assumption)) | dsimp +zetaDelta only

theorem execFlashProgramDone_keeps {z : State} (ok : Bool) (s : State) (hk : Keeps z s) :
    KeepsR z (execFlashProgramDone ok s) := by
  unfold execFlashProgramDone
  repeat' first
    | with_reducible
      first
      | assumption | apply KeepsR.next | apply Keeps.ite | apply State.endOp_keeps | apply State.storeRow_keeps
      | apply State.undefRows_keeps | apply State.otpProgram_keeps
      | fail_if_no_progress refine keeps_lit rfl rfl rfl rfl rfl rfl ?_
    | extract_lets +onlyGivenNames t | split

theorem execErasePulseDone_keeps {z : State} (erased : Bool) (s : State) (hk : Keeps z s) :
    KeepsR z (execErasePulseDone erased s) := by
  unfold execErasePulseDone
  repeat' first
    | with_reducible
      first
      | assumption | apply KeepsR.next | apply Keeps.ite | apply State.setF_keeps | apply State.endOp_keeps
      | apply State.eraseRows_keeps | apply State.undefRows_keeps
      | fail_if_no_progress refine keeps_lit rfl rfl rfl rfl rfl rfl ?_
    | (extract_lets +onlyGivenNames t; have ht : Keeps z t := ?_; clear_value t; rotate_left)
    | extract_lets +onlyGivenNames t | split

theorem execHeldGoStart_keeps {z : State} (s : State) (hk : Keeps z s) :
    KeepsR z (execHeldGoStart s) := by
  unfold execHeldGoStart
  repeat' first
    | with_reducible
      first
      | assumption | apply KeepsR.next | apply State.showEfl_keeps
      | fail_if_no_progress refine keeps_lit rfl rfl rfl rfl rfl rfl ?_
    | extract_lets +onlyGivenNames t | split

theorem State.flashRead_keeps {z : State} (s : State) (rq : Requester) (v : Word) (err : WordErr) (hk : Keeps z s) :
    Keeps z (State.flashRead s rq v err) := by
  unfold State.flashRead
  repeat' with_reducible
    first
    | assumption | apply Keeps.ite | apply State.setReg_keeps | apply State.setPair_keeps | apply State.eflFlag_keeps
    | apply State.readFlash_keeps | apply State.flashErr_keeps

theorem execFlashRead_keeps {z : State} (rq : Requester) (v : Word) (wrong : BitVec 80) (s : State) (hk : Keeps z s) :
    KeepsR z (execFlashRead rq v wrong s) := by
  unfold execFlashRead
  repeat' first
    | with_reducible
      first
      | assumption | apply KeepsR.next | apply Keeps.ite | apply State.flashRead_keeps
    | intro _ | extract_lets +onlyGivenNames t | split
    | (with_reducible apply keeps_snd (by with_reducible assumption))
    | (with_reducible apply keeps_fst (by with_reducible assumption)) | dsimp +zetaDelta only

/-! Machine/Security.lean -/

theorem State.setDebug_keeps {z : State} (s : State) (d : Nat) (perms : Nat) (hk : Keeps z s) :
    Keeps z (State.setDebug s d perms) := by
  unfold State.setDebug
  repeat' with_reducible first | assumption | apply State.setReg_keeps | apply State.setF_keeps

theorem State.showOwner_keeps {z : State} (s : State) (hk : Keeps z s) :
    Keeps z (State.showOwner s) := by
  unfold State.showOwner
  repeat' first
    | with_reducible
      first
      | assumption | apply Keeps.ite | apply State.setB_keeps | apply State.setF_keeps
      | fail_if_no_progress refine keeps_lit rfl rfl rfl rfl rfl rfl ?_
    | intro _ | extract_lets +onlyGivenNames t | split
    | (with_reducible apply keeps_snd (by with_reducible assumption))
    | (with_reducible apply keeps_fst (by with_reducible assumption)) | dsimp +zetaDelta only

theorem State.showKeys_keeps {z : State} (s : State) (hk : Keeps z s) :
    Keeps z (State.showKeys s) := by
  unfold State.showKeys
  repeat' with_reducible first | assumption | apply State.setF_keeps

theorem State.newNonce_keeps {z : State} (s : State) (hk : Keeps z s) :
    Keeps z (State.newNonce s) := by
  unfold State.newNonce
  repeat' with_reducible
    first
    | assumption | (apply keeps_foldl; intro _ _ _) | apply State.takeBytes_keeps | apply State.setReg_keeps

theorem State.secReset_keeps {z : State} (s : State) (hk : Keeps z s) :
    Keeps z (State.secReset s) := by
  unfold State.secReset
  repeat' first
    | with_reducible
      first
      | assumption | apply Keeps.ite | apply State.newNonce_keeps | apply State.setReg_keeps
      | apply State.setDebug_keeps | apply State.showKeys_keeps | apply State.setB_keeps | apply State.showOwner_keeps
      | apply State.setF_keeps
    | intro _ | extract_lets +onlyGivenNames t | split
    | (with_reducible apply keeps_snd (by with_reducible assumption))
    | (with_reducible apply keeps_fst (by with_reducible assumption)) | dsimp +zetaDelta only

theorem State.clearKeys_keeps {z : State} (s : State) (hk : Keeps z s) :
    Keeps z (State.clearKeys s) := by
  unfold State.clearKeys
  repeat' with_reducible
    first
    | assumption | apply State.showKeys_keeps | fail_if_no_progress refine keeps_lit rfl rfl rfl rfl rfl rfl ?_

theorem State.keyOutput_keeps {z : State} (s : State) (a : Nat) (bs : List Byte) (hk : Keeps z s) :
    Keeps z (State.keyOutput s a bs) := by
  unfold State.keyOutput
  repeat' first
    | with_reducible first | assumption | fail_if_no_progress refine keeps_lit rfl rfl rfl rfl rfl rfl ?_
    | extract_lets +onlyGivenNames t | (with_reducible apply keeps_litw; (with_reducible exact rfl); (iterate 5 with_reducible (first | exact id | exact fun w => Bar.wf_mk (Bar.wf_val w) (Bar.wf_eff w) (Bar.wf_copy w) | exact fun w => Bar.wf_mk (Maps.wf_wr _ _ (Bar.wf_val w)) (Bar.wf_eff w) (Bar.wf_copy w) | exact fun w => Bar.wf_mk (Bar.wf_val w) (Maps.wf_wr _ _ (Bar.wf_eff w)) (Bar.wf_copy w) | exact fun w => Bar.wf_mk (Bar.wf_val w) (Bar.wf_val w) (Bar.wf_copy w) | exact fun w => Bar.wf_mk (Bar.wf_val w) (Bar.wf_eff w) (Bar.wf_val w) | exact fun w => Bar.wf_mk (Maps.wf_filter _ (Bar.wf_val w)) (Maps.wf_filter _ (Bar.wf_eff w)) (Maps.wf_filter _ (Bar.wf_copy w)) | exact fun w => Mem.wf_setBytes _ _ w )); first | with_reducible assumption )

theorem State.keyop_keeps {z : State} (s : State) (ag : Agent) (w : DWord) (sub : Nat) (body : State → List Byte → Nat × State) (hbody : ∀ (s : State) (y1), Keeps z s → Keeps z (body s y1).2) (hk : Keeps z s) :
    Keeps z (State.keyop s ag w sub body) := by
  unfold State.keyop
  repeat' first
    | with_reducible
      first
      | assumption | apply KeepsR.next | apply Keeps.ite | apply State.instruct_keeps | apply State.advance_keeps
      | apply State.setCtx_keeps
    | apply hbody | intro _ | extract_lets +onlyGivenNames t | split

theorem execKeyopUnwrap_keeps {z : State} (ag : Agent) (w : DWord) (s : State) (hk : Keeps z s) :
    KeepsR z (execKeyopUnwrap ag w s) := by
  unfold execKeyopUnwrap
  repeat' first
    | with_reducible
      first
      | assumption | apply KeepsR.next | apply Keeps.ite | apply State.showKeys_keeps | apply State.setKeySlot_keeps
      | apply State.keyop_keeps | fail_if_no_progress refine keeps_lit rfl rfl rfl rfl rfl rfl ?_
    | intro _ | extract_lets +onlyGivenNames t | split
    | (with_reducible apply keeps_snd (by with_reducible assumption))
    | (with_reducible apply keeps_fst (by with_reducible assumption)) | dsimp +zetaDelta only

theorem execKeyopClear_keeps {z : State} (ag : Agent) (w : DWord) (s : State) (hk : Keeps z s) :
    KeepsR z (execKeyopClear ag w s) := by
  unfold execKeyopClear
  repeat' first
    | with_reducible
      first
      | assumption | apply KeepsR.next | apply Keeps.ite | apply State.keyop_keeps | apply State.showKeys_keeps
      | fail_if_no_progress refine keeps_lit rfl rfl rfl rfl rfl rfl ?_
    | intro _ | extract_lets +onlyGivenNames t | split

theorem execKeyopSign_keeps {z : State} (ag : Agent) (w : DWord) (s : State) (hk : Keeps z s) :
    KeepsR z (execKeyopSign ag w s) := by
  unfold execKeyopSign
  repeat' first
    | with_reducible
      first
      | assumption | apply KeepsR.next | apply Keeps.ite | apply State.keyop_keeps | apply State.keyOutput_keeps
    | intro _ | extract_lets +onlyGivenNames t | split

theorem execKeyopVerify_keeps {z : State} (ag : Agent) (w : DWord) (s : State) (hk : Keeps z s) :
    KeepsR z (execKeyopVerify ag w s) := by
  unfold execKeyopVerify
  repeat' first
    | with_reducible
      first
      | assumption | apply KeepsR.next | apply Keeps.ite | apply State.keyop_keeps
      | fail_if_no_progress refine keeps_lit rfl rfl rfl rfl rfl rfl ?_
    | intro _ | extract_lets +onlyGivenNames t | split
    | (with_reducible apply keeps_snd (by with_reducible assumption))
    | (with_reducible apply keeps_fst (by with_reducible assumption)) | dsimp +zetaDelta only

theorem execKeyopHash_keeps {z : State} (ag : Agent) (w : DWord) (s : State) (hk : Keeps z s) :
    KeepsR z (execKeyopHash ag w s) := by
  unfold execKeyopHash
  repeat' first
    | with_reducible
      first
      | assumption | apply KeepsR.next | apply Keeps.ite | apply State.keyop_keeps | apply State.keyOutput_keeps
    | intro _ | extract_lets +onlyGivenNames t | split

theorem execKeyopAttest_keeps {z : State} (ag : Agent) (w : DWord) (s : State) (hk : Keeps z s) :
    KeepsR z (execKeyopAttest ag w s) := by
  unfold execKeyopAttest
  repeat' first
    | with_reducible
      first
      | assumption | apply KeepsR.next | apply Keeps.ite | apply State.keyop_keeps | apply State.keyOutput_keeps
    | intro _ | extract_lets +onlyGivenNames t | split

theorem State.setMbox_keeps {z : State} (s : State) (bs : List Byte) (hk : Keeps z s) :
    Keeps z (State.setMbox s bs) := by
  unfold State.setMbox
  repeat' with_reducible first | assumption | (apply keeps_foldl; intro _ _ _) | apply State.setReg_keeps

theorem State.mboxDone_keeps {z : State} (s : State) (result : Nat) (answer : List Byte) (hk : Keeps z s) :
    Keeps z (State.mboxDone s result answer) := by
  unfold State.mboxDone
  repeat' with_reducible
    first
    | assumption | apply Keeps.ite | apply State.trigger_keeps | apply State.setMbox_keeps | apply State.setF_keeps
    | apply State.setB_keeps | apply State.newNonce_keeps
    | fail_if_no_progress refine keeps_lit rfl rfl rfl rfl rfl rfl ?_

theorem State.submission_keeps {z : State} (s : State) (kind : Nat) (allowed : Bool) (act : State → State × Nat × List Byte) (hfact : ∀ (s : State), Keeps z s → Keeps z (act s).1) (hk : Keeps z s) :
    Keeps z (State.submission s kind allowed act) := by
  unfold State.submission
  repeat' first
    | with_reducible
      first
      | assumption | apply Keeps.ite | apply State.answer_keeps | apply State.mboxDone_keeps
    | apply hfact | intro _ | extract_lets +onlyGivenNames t | split
    | (with_reducible apply keeps_snd (by with_reducible assumption))
    | (with_reducible apply keeps_fst (by with_reducible assumption)) | dsimp +zetaDelta only

theorem State.submit_keeps {z : State} (s : State) (hk : Keeps z s) :
    Keeps z (State.submit s) := by
  unfold State.submit
  repeat' with_reducible
    first
    | assumption | apply Keeps.ite | apply State.setB_keeps | apply State.mboxDone_keeps | apply State.pend_keeps
    | fail_if_no_progress refine keeps_lit rfl rfl rfl rfl rfl rfl ?_

theorem execMboxClaim_keeps {z : State} (rq : Requester) (s : State) (hk : Keeps z s) :
    KeepsR z (execMboxClaim rq s) := by
  unfold execMboxClaim
  repeat' with_reducible first | assumption | apply KeepsR.next | apply Keeps.ite | apply State.setF_keeps

theorem execMboxRelease_keeps {z : State} (rq : Requester) (s : State) (hk : Keeps z s) :
    KeepsR z (execMboxRelease rq s) := by
  unfold execMboxRelease
  repeat' with_reducible
    first
    | assumption | apply KeepsR.next | apply Keeps.ite | apply State.setF_keeps | apply State.setB_keeps

theorem execNewNonce_keeps {z : State} (s : State) (hk : Keeps z s) :
    KeepsR z (execNewNonce s) := by
  unfold execNewNonce
  repeat' with_reducible first | assumption | apply KeepsR.next | apply State.newNonce_keeps

theorem State.debugEvent_keeps {z : State} (s : State) (hk : Keeps z s) :
    Keeps z (State.debugEvent s) := by
  unfold State.debugEvent
  repeat' with_reducible first | assumption | apply State.trigger_keeps

theorem State.lifecycleEvent_keeps {z : State} (s : State) (hk : Keeps z s) :
    Keeps z (State.lifecycleEvent s) := by
  unfold State.lifecycleEvent
  repeat' with_reducible first | assumption | apply KeepsR.next | apply Keeps.ite | apply State.trigger_keeps

theorem execProvision_keeps {z : State} (ok : Bool) (s : State) (hk : Keeps z s) :
    KeepsR z (execProvision ok s) := by
  unfold execProvision
  repeat' first
    | with_reducible
      first
      | assumption | apply KeepsR.next | apply Keeps.ite | apply State.lifecycleEvent_keeps
      | apply State.showOwner_keeps | apply State.otpProgram_keeps | apply State.submission_keeps
    | intro _ | extract_lets +onlyGivenNames t | split
    | (with_reducible apply keeps_snd (by with_reducible assumption))
    | (with_reducible apply keeps_fst (by with_reducible assumption)) | dsimp +zetaDelta only

theorem execDebugToken_keeps {z : State} (s : State) (hk : Keeps z s) :
    KeepsR z (execDebugToken s) := by
  unfold execDebugToken
  repeat' first
    | with_reducible
      first
      | assumption | apply KeepsR.next | apply Keeps.ite | apply State.report_keeps | apply State.clearKeys_keeps
      | apply State.debugEvent_keeps | apply State.setDebug_keeps | apply State.submission_keeps
    | intro _ | extract_lets +onlyGivenNames t | split
    | (with_reducible apply keeps_snd (by with_reducible assumption))
    | (with_reducible apply keeps_fst (by with_reducible assumption)) | dsimp +zetaDelta only

theorem execSeal_keeps {z : State} (ok : Bool) (s : State) (hk : Keeps z s) :
    KeepsR z (execSeal ok s) := by
  unfold execSeal
  repeat' first
    | with_reducible
      first
      | assumption | apply KeepsR.next | apply Keeps.ite | apply State.lifecycleEvent_keeps
      | apply State.otpProgram_keeps | apply State.submission_keeps
    | intro _ | extract_lets +onlyGivenNames t | split
    | (with_reducible apply keeps_snd (by with_reducible assumption))
    | (with_reducible apply keeps_fst (by with_reducible assumption)) | dsimp +zetaDelta only

theorem State.eraseKeyRegion_keeps {z : State} (s : State) (bankB : Bool) (hk : Keeps z s) :
    Keeps z (State.eraseKeyRegion s bankB) := by
  unfold State.eraseKeyRegion
  repeat' with_reducible first | assumption | apply State.eraseRows_keeps

theorem execReturnUnit_keeps {z : State} (ok : Bool) (s : State) (hk : Keeps z s) :
    KeepsR z (execReturnUnit ok s) := by
  unfold execReturnUnit
  repeat' first
    | with_reducible
      first
      | assumption | apply KeepsR.next | apply Keeps.ite | apply State.lifecycleEvent_keeps
      | apply State.otpProgram_keeps | apply State.setB_keeps | apply State.eraseKeyRegion_keeps
      | apply State.clearKeys_keeps | apply State.submission_keeps
      | fail_if_no_progress refine keeps_lit rfl rfl rfl rfl rfl rfl ?_
    | intro _ | extract_lets +onlyGivenNames t | split
    | (with_reducible apply keeps_snd (by with_reducible assumption))
    | (with_reducible apply keeps_fst (by with_reducible assumption)) | dsimp +zetaDelta only

theorem execRdpRaise_keeps {z : State} (ok : Bool) (s : State) (hk : Keeps z s) :
    KeepsR z (execRdpRaise ok s) := by
  unfold execRdpRaise
  repeat' first
    | with_reducible
      first
      | assumption | apply KeepsR.next | apply Keeps.ite | apply State.otpProgram_keeps | apply State.submission_keeps
      | fail_if_no_progress refine keeps_lit rfl rfl rfl rfl rfl rfl ?_
    | intro _ | extract_lets +onlyGivenNames t | split
    | (with_reducible apply keeps_snd (by with_reducible assumption))
    | (with_reducible apply keeps_fst (by with_reducible assumption)) | dsimp +zetaDelta only

theorem execRdpRegress_keeps {z : State} (ok : Bool) (s : State) (hk : Keeps z s) :
    KeepsR z (execRdpRegress ok s) := by
  unfold execRdpRegress
  repeat' first
    | with_reducible
      first
      | assumption | apply KeepsR.next | apply Keeps.ite | apply State.eraseRows_keeps | apply State.setB_keeps
      | apply State.clearKeys_keeps | apply State.submission_keeps
      | fail_if_no_progress refine keeps_lit rfl rfl rfl rfl rfl rfl ?_
    | intro _ | extract_lets +onlyGivenNames t | split
    | (with_reducible apply keeps_snd (by with_reducible assumption))
    | (with_reducible apply keeps_fst (by with_reducible assumption)) | dsimp +zetaDelta only

theorem execRecoveryData_keeps {z : State} (s : State) (hk : Keeps z s) :
    KeepsR z (execRecoveryData s) := by
  unfold execRecoveryData
  repeat' first
    | with_reducible
      first
      | assumption | apply KeepsR.next | apply Keeps.ite | apply State.keyOutput_keeps | apply State.submission_keeps
    | intro _ | extract_lets +onlyGivenNames t | split
    | (with_reducible apply keeps_snd (by with_reducible assumption))
    | (with_reducible apply keeps_fst (by with_reducible assumption)) | dsimp +zetaDelta only

theorem State.startMcp_keeps {z : State} (s : State) (pc : Nat) (image : List Byte) (hk : Keeps z s) :
    Keeps z (State.startMcp s pc image) := by
  unfold State.startMcp
  exact keeps_lit rfl rfl rfl rfl rfl rfl hk

theorem execRecoveryRun_keeps {z : State} (s : State) (hk : Keeps z s) :
    KeepsR z (execRecoveryRun s) := by
  unfold execRecoveryRun
  repeat' first
    | with_reducible
      first
      | assumption | apply KeepsR.next | apply Keeps.ite | apply State.startMcp_keeps | apply State.setF_keeps
      | apply State.setB_keeps | apply State.submission_keeps
    | intro _ | extract_lets +onlyGivenNames t | split
    | (with_reducible apply keeps_snd (by with_reducible assumption))
    | (with_reducible apply keeps_fst (by with_reducible assumption)) | dsimp +zetaDelta only

theorem execKekInstall_keeps {z : State} (s : State) (hk : Keeps z s) :
    KeepsR z (execKekInstall s) := by
  unfold execKekInstall
  repeat' first
    | with_reducible
      first
      | assumption | apply KeepsR.next | apply Keeps.ite | apply State.setB_keeps | apply State.takeWord_keeps
      | apply State.submission_keeps | fail_if_no_progress refine keeps_lit rfl rfl rfl rfl rfl rfl ?_
    | intro _ | extract_lets +onlyGivenNames t | split
    | (with_reducible apply keeps_snd (by with_reducible assumption))
    | (with_reducible apply keeps_fst (by with_reducible assumption)) | dsimp +zetaDelta only

theorem execOwnerRotate_keeps {z : State} (ok : Bool) (s : State) (hk : Keeps z s) :
    KeepsR z (execOwnerRotate ok s) := by
  unfold execOwnerRotate
  repeat' first
    | with_reducible
      first
      | assumption | apply KeepsR.next | apply Keeps.ite | apply State.showOwner_keeps | apply State.otpProgram_keeps
      | apply State.submission_keeps
    | intro _ | extract_lets +onlyGivenNames t | split
    | (with_reducible apply keeps_snd (by with_reducible assumption))
    | (with_reducible apply keeps_fst (by with_reducible assumption)) | dsimp +zetaDelta only

theorem execEvrClear_keeps {z : State} (s : State) (hk : Keeps z s) :
    KeepsR z (execEvrClear s) := by
  unfold execEvrClear
  repeat' first
    | with_reducible
      first
      | assumption | apply KeepsR.next | apply Keeps.ite | apply State.recorderGo_keeps | apply State.setF_keeps
      | apply State.setB_keeps | apply State.submission_keeps
      | fail_if_no_progress refine keeps_lit rfl rfl rfl rfl rfl rfl ?_
    | intro _ | extract_lets +onlyGivenNames t | split
    | (with_reducible apply keeps_snd (by with_reducible assumption))
    | (with_reducible apply keeps_fst (by with_reducible assumption)) | dsimp +zetaDelta only

theorem execDebugClose_keeps {z : State} (s : State) (hk : Keeps z s) :
    KeepsR z (execDebugClose s) := by
  unfold execDebugClose
  repeat' first
    | with_reducible
      first
      | assumption | apply KeepsR.next | apply Keeps.ite | apply State.debugEvent_keeps | apply State.setDebug_keeps
      | apply State.submission_keeps
    | intro _ | extract_lets +onlyGivenNames t | split
    | (with_reducible apply keeps_snd (by with_reducible assumption))
    | (with_reducible apply keeps_fst (by with_reducible assumption)) | dsimp +zetaDelta only

theorem execQuote_keeps {z : State} (refused : Bool) (s : State) (hk : Keeps z s) :
    KeepsR z (execQuote refused s) := by
  unfold execQuote
  repeat' first
    | with_reducible
      first
      | assumption | apply KeepsR.next | apply Keeps.ite | apply State.submission_keeps
    | intro _ | extract_lets +onlyGivenNames t | split
    | (with_reducible apply keeps_snd (by with_reducible assumption))
    | (with_reducible apply keeps_fst (by with_reducible assumption)) | dsimp +zetaDelta only

theorem execFwBegin_keeps {z : State} (refused : Bool) (ok : Bool) (s : State) (hk : Keeps z s) :
    KeepsR z (execFwBegin refused ok s) := by
  unfold execFwBegin
  repeat' first
    | with_reducible
      first
      | assumption | apply KeepsR.next | apply Keeps.ite | apply State.eraseRows_keeps | apply State.undefRows_keeps
      | apply State.submission_keeps | fail_if_no_progress refine keeps_lit rfl rfl rfl rfl rfl rfl ?_
    | intro _ | extract_lets +onlyGivenNames t | split
    | (with_reducible apply keeps_snd (by with_reducible assumption))
    | (with_reducible apply keeps_fst (by with_reducible assumption)) | dsimp +zetaDelta only

theorem execFwData_keeps {z : State} (refused : Bool) (ok : Bool) (s : State) (hk : Keeps z s) :
    KeepsR z (execFwData refused ok s) := by
  unfold execFwData
  repeat' first
    | with_reducible
      first
      | assumption | apply KeepsR.next | apply Keeps.ite | apply State.storeRow_keeps | apply State.submission_keeps
      | (apply keeps_foldl; intro _ _ _) | (apply keeps_foldl_fst; intro _ _ _)
      | fail_if_no_progress refine keeps_lit rfl rfl rfl rfl rfl rfl ?_
    | intro _ | extract_lets +onlyGivenNames t | split
    | (with_reducible apply keeps_snd (by with_reducible assumption))
    | (with_reducible apply keeps_fst (by with_reducible assumption)) | dsimp +zetaDelta only

theorem execFwEnd_keeps {z : State} (refused : Bool) (ok : Bool) (s : State) (hk : Keeps z s) :
    KeepsR z (execFwEnd refused ok s) := by
  unfold execFwEnd
  repeat' first
    | with_reducible
      first
      | assumption | apply KeepsR.next | apply Keeps.ite | apply State.storeRow_keeps | apply State.submission_keeps
      | fail_if_no_progress refine keeps_lit rfl rfl rfl rfl rfl rfl ?_
    | intro _ | extract_lets +onlyGivenNames t | split
    | (with_reducible apply keeps_snd (by with_reducible assumption))
    | (with_reducible apply keeps_fst (by with_reducible assumption)) | dsimp +zetaDelta only

theorem execInject_keeps {z : State} (s : State) (hk : Keeps z s) :
    KeepsR z (execInject s) := by
  unfold execInject
  repeat' with_reducible
    first
    | assumption | apply KeepsR.next | apply Keeps.ite | apply State.setB_keeps
    | fail_if_no_progress refine keeps_lit rfl rfl rfl rfl rfl rfl ?_

/-! Machine/Placement.lean -/

theorem State.storeLine_keeps {z : State} (s : State) (line : Nat) (data : List Byte) (epoch : Nat) (hk : Keeps z s) :
    Keeps z (State.storeLine s line data epoch) :=
  keeps_litw rfl id (Mem.wf_setBytes _ _) id id id hk

theorem State.mapPb_keeps {z : State} (s : State) (p : PbEntry → Bool) (f : PbEntry → PbEntry) (hk : Keeps z s) :
    Keeps z (State.mapPb s p f) := by
  unfold State.mapPb
  repeat' with_reducible
    first
    | assumption | apply Keeps.ite | fail_if_no_progress refine keeps_lit rfl rfl rfl rfl rfl rfl ?_

theorem State.frontPlaced_keeps {z : State} (s : State) (q : BitVec 24) (w : Nat) (hk : Keeps z s) :
    Keeps z (State.frontPlaced s q w) := by
  unfold State.frontPlaced
  repeat' first
    | with_reducible
      first
      | assumption | apply State.setQp_keeps | fail_if_no_progress refine keeps_lit rfl rfl rfl rfl rfl rfl ?_
    | extract_lets +onlyGivenNames t | split

theorem State.frontMirrored_keeps {z : State} (s : State) (q : BitVec 24) (w : Nat) (hk : Keeps z s) :
    Keeps z (State.frontMirrored s q w) := by
  unfold State.frontMirrored
  repeat' first
    | with_reducible
      first
      | assumption | apply KeepsR.next | apply Keeps.ite | apply State.setQp_keeps
      | apply keepsR_elim (by assumption) | fail_if_no_progress refine keeps_lit rfl rfl rfl rfl rfl rfl ?_
    | intro _ | extract_lets +onlyGivenNames t | split

theorem State.confirm_keeps {z : State} (s : State) (frames : List Nat) (outcomes : List OutcomeKey) (intents : List Nat) (hk : Keeps z s) :
    Keeps z (State.confirm s frames outcomes intents) := by
  unfold State.confirm
  repeat' with_reducible first | assumption | apply Keeps.ite | apply State.tell_keeps

theorem State.confirmFrames_keeps {z : State} (s : State) (frames : List Nat) (hk : Keeps z s) :
    Keeps z (State.confirmFrames s frames) := by
  unfold State.confirmFrames
  repeat' with_reducible first | assumption | apply Keeps.ite | apply State.confirm_keeps

theorem State.settle_keeps {z : State} (s : State) (hk : Keeps z s) :
    Keeps z (State.settle s) := by
  unfold State.settle
  repeat' with_reducible
    first
    | assumption | apply Keeps.ite | (apply keeps_foldl; intro _ _ _) | apply State.mapPb_keeps
    | apply State.bumpBy_keeps | apply State.frontPlaced_keeps | apply State.reapPb_keeps
    | apply State.confirmFrames_keeps

theorem State.freeLoc_keeps {z : State} (s : State) (x1 : PageLoc) (hk : Keeps z s) :
    Keeps z (State.freeLoc s x1) := by
  unfold State.freeLoc
  repeat' first
    | with_reducible
      first
      | assumption | apply KeepsR.next | apply Keeps.ite | apply State.setLink_keeps
      | apply keepsR_elim (by assumption) | fail_if_no_progress refine keeps_lit rfl rfl rfl rfl rfl rfl ?_
    | intro _ | extract_lets +onlyGivenNames t | split

theorem State.updIntent_keeps {z : State} (s : State) (k : Nat) (f : Intent → Intent) (hk : Keeps z s) :
    Keeps z (State.updIntent s k f) := by
  unfold State.updIntent
  exact keeps_lit rfl rfl rfl rfl rfl rfl hk

theorem State.slotPlaced_keeps {z : State} (s : State) (x : Intent) (hk : Keeps z s) :
    Keeps z (State.slotPlaced s x) := by
  unfold State.slotPlaced
  repeat' with_reducible
    first
    | assumption | (apply keeps_foldl; intro _ _ _) | apply State.frontPlaced_keeps | apply State.bumpBy_keeps

theorem State.slotMirrored_keeps {z : State} (s : State) (x : Intent) (hk : Keeps z s) :
    Keeps z (State.slotMirrored s x) := by
  unfold State.slotMirrored
  repeat' with_reducible
    first
    | assumption | apply KeepsR.next | apply Keeps.ite | (apply keeps_foldl; intro _ _ _)
    | apply State.frontMirrored_keeps | apply State.bumpBy_keeps

theorem State.settleSlot_keeps {z : State} (s : State) (e : Nat × Intent) (hk : Keeps z s) :
    Keeps z (State.settleSlot s e) := by
  unfold State.settleSlot
  repeat' first
    | with_reducible
      first
      | assumption | apply Keeps.ite | apply State.slotPlaced_keeps | apply State.confirm_keeps
      | apply State.mapPb_keeps | fail_if_no_progress refine keeps_lit rfl rfl rfl rfl rfl rfl ?_
    | intro _ | extract_lets +onlyGivenNames t | split
    | (with_reducible apply keeps_snd (by with_reducible assumption))
    | (with_reducible apply keeps_fst (by with_reducible assumption)) | dsimp +zetaDelta only

theorem State.groupPlaced_keeps {z : State} (s : State) (g : Nat) (hk : Keeps z s) :
    Keeps z (State.groupPlaced s g) := by
  unfold State.groupPlaced
  repeat' first
    | with_reducible
      first
      | assumption | apply Keeps.ite | apply State.finishAll_keeps | apply State.settle_keeps
      | apply State.settleSlot_keeps | apply State.updBusy_keeps | apply State.freeLoc_keeps
      | (apply keeps_foldl; intro _ _ _) | (apply keeps_foldl_fst; intro _ _ _)
      | fail_if_no_progress refine keeps_lit rfl rfl rfl rfl rfl rfl ?_
    | intro _ | extract_lets +onlyGivenNames t | split
    | (with_reducible apply keeps_snd (by with_reducible assumption))
    | (with_reducible apply keeps_fst (by with_reducible assumption)) | dsimp +zetaDelta only

theorem State.headerPlaced_keeps {z : State} (s : State) (k : Nat) (hk : Keeps z s) :
    Keeps z (State.headerPlaced s k) := by
  unfold State.headerPlaced
  repeat' first
    | with_reducible
      first
      | assumption | apply Keeps.ite | apply State.settleSlot_keeps | apply State.updIntent_keeps
      | fail_if_no_progress refine keeps_lit rfl rfl rfl rfl rfl rfl ?_
    | intro _ | extract_lets +onlyGivenNames t | split
    | (with_reducible apply keeps_snd (by with_reducible assumption))
    | (with_reducible apply keeps_fst (by with_reducible assumption)) | dsimp +zetaDelta only

theorem State.homePlaced_keeps {z : State} (s : State) (k : Nat) (line : Nat) (hk : Keeps z s) :
    Keeps z (State.homePlaced s k line) := by
  unfold State.homePlaced
  repeat' first
    | with_reducible
      first
      | assumption | apply Keeps.ite | apply State.issueFor_keeps | apply State.updIntent_keeps
      | apply State.storeLine_keeps | fail_if_no_progress refine keeps_lit rfl rfl rfl rfl rfl rfl ?_
    | intro _ | extract_lets +onlyGivenNames t | split
    | (with_reducible apply keeps_snd (by with_reducible assumption))
    | (with_reducible apply keeps_fst (by with_reducible assumption)) | dsimp +zetaDelta only

theorem State.slotFreed_keeps {z : State} (s : State) (k : Nat) (hk : Keeps z s) :
    Keeps z (State.slotFreed s k) := by
  unfold State.slotFreed
  repeat' first
    | with_reducible
      first
      | assumption | apply Keeps.ite | apply State.reapPb_keeps | apply State.mapPb_keeps
      | fail_if_no_progress refine keeps_lit rfl rfl rfl rfl rfl rfl ?_
    | intro _ | extract_lets +onlyGivenNames t | split
    | (with_reducible apply keeps_snd (by with_reducible assumption))
    | (with_reducible apply keeps_fst (by with_reducible assumption)) | dsimp +zetaDelta only

theorem State.outcomeConfirmed_keeps {z : State} (s : State) (k : OutcomeKey) (hk : Keeps z s) :
    Keeps z (State.outcomeConfirmed s k) := by
  unfold State.outcomeConfirmed
  repeat' first
    | with_reducible
      first
      | assumption | apply Keeps.ite | fail_if_no_progress refine keeps_lit rfl rfl rfl rfl rfl rfl ?_
    | intro _ | extract_lets +onlyGivenNames t | split
    | (with_reducible apply keeps_snd (by with_reducible assumption))
    | (with_reducible apply keeps_fst (by with_reducible assumption)) | dsimp +zetaDelta only

theorem State.outcomesConfirmed_keeps {z : State} (s : State) (ks : List OutcomeKey) (hk : Keeps z s) :
    Keeps z (State.outcomesConfirmed s ks) := by
  unfold State.outcomesConfirmed
  repeat' first
    | with_reducible
      first
      | assumption | apply Keeps.ite | apply State.releaseAnswers_keeps | apply State.outcomeConfirmed_keeps
      | (apply keeps_foldl; intro _ _ _) | (apply keeps_foldl_fst; intro _ _ _)
    | intro _ | extract_lets +onlyGivenNames t | split
    | (with_reducible apply keeps_snd (by with_reducible assumption))
    | (with_reducible apply keeps_fst (by with_reducible assumption)) | dsimp +zetaDelta only

theorem State.markExtent_keeps {z : State} (s : State) (e : Nat) (hk : Keeps z s) :
    Keeps z (State.markExtent s e) := by
  unfold State.markExtent
  repeat' first
    | with_reducible
      first
      | assumption | apply Keeps.ite | apply State.journal_keeps
      | fail_if_no_progress refine keeps_lit rfl rfl rfl rfl rfl rfl ?_
    | intro _ | extract_lets +onlyGivenNames t | split
    | (with_reducible apply keeps_snd (by with_reducible assumption))
    | (with_reducible apply keeps_fst (by with_reducible assumption)) | dsimp +zetaDelta only

theorem State.issueEntry_keeps {z : State} (s : State) (e : PbEntry) (hk : Keeps z s) :
    Keeps z (State.issueEntry s e) := by
  unfold State.issueEntry
  repeat' first
    | with_reducible
      first
      | assumption | apply Keeps.ite | apply State.issueFor_keeps | apply State.mapPb_keeps
      | fail_if_no_progress refine keeps_lit rfl rfl rfl rfl rfl rfl ?_
    | intro _ | extract_lets +onlyGivenNames t | split
    | (with_reducible apply keeps_snd (by with_reducible assumption))
    | (with_reducible apply keeps_fst (by with_reducible assumption)) | dsimp +zetaDelta only

theorem State.shipEntries_keeps {z : State} (s : State) (e : PbEntry) (es : List PbEntry) (hk : Keeps z s) :
    Keeps z (State.shipEntries s e es) := by
  unfold State.shipEntries
  repeat' first
    | with_reducible
      first
      | assumption | apply Keeps.ite | apply State.sendFor_keeps | apply State.mapPb_keeps
      | fail_if_no_progress refine keeps_lit rfl rfl rfl rfl rfl rfl ?_
    | intro _ | extract_lets +onlyGivenNames t | split
    | (with_reducible apply keeps_snd (by with_reducible assumption))
    | (with_reducible apply keeps_fst (by with_reducible assumption)) | dsimp +zetaDelta only

theorem State.shipEntry_keeps {z : State} (s : State) (e : PbEntry) (hk : Keeps z s) :
    Keeps z (State.shipEntry s e) := by
  unfold State.shipEntry
  repeat' first
    | with_reducible
      first
      | assumption | apply Keeps.ite | apply State.shipEntries_keeps
    | intro _ | extract_lets +onlyGivenNames t | split
    | (with_reducible apply keeps_snd (by with_reducible assumption))
    | (with_reducible apply keeps_fst (by with_reducible assumption)) | dsimp +zetaDelta only

theorem State.trySwitch_keeps {z : State} (s : State) (hk : Keeps z s) :
    Keeps z (State.trySwitch s) := by
  unfold State.trySwitch
  repeat' first
    | with_reducible
      first
      | assumption | apply Keeps.ite | apply State.sendFrame_keeps
      | fail_if_no_progress refine keeps_lit rfl rfl rfl rfl rfl rfl ?_
    | (extract_lets +onlyGivenNames t; have ht : Keeps z t := ?_; clear_value t; rotate_left)
    | extract_lets +onlyGivenNames t | split

theorem execPlacementIssue_keeps {z : State} (s : State) (hk : Keeps z s) :
    KeepsR z (execPlacementIssue s) := by
  unfold execPlacementIssue
  repeat' first
    | with_reducible
      first
      | assumption | apply KeepsR.next | apply Keeps.ite | apply State.issueEntry_keeps | apply State.trySwitch_keeps
      | apply State.shipEntry_keeps | apply State.markExtent_keeps
      | fail_if_no_progress refine keeps_lit rfl rfl rfl rfl rfl rfl ?_
    | intro _ | extract_lets +onlyGivenNames t | split
    | (with_reducible apply keeps_snd (by with_reducible assumption))
    | (with_reducible apply keeps_fst (by with_reducible assumption)) | dsimp +zetaDelta only

theorem execInflightMarkClear_keeps {z : State} (extent : BitVec 27) (s : State) (hk : Keeps z s) :
    KeepsR z (execInflightMarkClear extent s) := by
  unfold execInflightMarkClear
  repeat' first
    | with_reducible
      first
      | assumption | apply KeepsR.next | apply Keeps.ite | apply State.journal_keeps
      | fail_if_no_progress refine keeps_lit rfl rfl rfl rfl rfl rfl ?_
    | intro _ | extract_lets +onlyGivenNames t | split
    | (with_reducible apply keeps_snd (by with_reducible assumption))
    | (with_reducible apply keeps_fst (by with_reducible assumption)) | dsimp +zetaDelta only

theorem State.completeFences_keeps {z : State} (s : State) (qpn : BitVec 24) (hk : Keeps z s) :
    Keeps z (State.completeFences s qpn) := by
  unfold State.completeFences
  repeat' first
    | with_reducible
      first
      | assumption | apply Keeps.ite | apply State.bumpBy_keeps | apply State.setQp_keeps | apply State.setReq_keeps
      | apply State.report_keeps | apply State.setB_keeps | (apply keeps_foldl; intro _ _ _)
      | (apply keeps_foldl_fst; intro _ _ _) | fail_if_no_progress refine keeps_lit rfl rfl rfl rfl rfl rfl ?_
    | intro _ | extract_lets +onlyGivenNames t | split
    | (with_reducible apply keeps_snd (by with_reducible assumption))
    | (with_reducible apply keeps_fst (by with_reducible assumption)) | dsimp +zetaDelta only

theorem State.fenceAll_keeps {z : State} (s : State) (hk : Keeps z s) :
    Keeps z (State.fenceAll s) := by
  unfold State.fenceAll
  repeat' first
    | with_reducible
      first
      | assumption | apply Keeps.ite | apply State.completeFences_keeps | (apply keeps_foldl; intro _ _ _)
      | (apply keeps_foldl_fst; intro _ _ _)
    | intro _ | extract_lets +onlyGivenNames t | split
    | (with_reducible apply keeps_snd (by with_reducible assumption))
    | (with_reducible apply keeps_fst (by with_reducible assumption)) | dsimp +zetaDelta only

theorem execFenceComplete_keeps {z : State} (qpn : BitVec 24) (s : State) (hk : Keeps z s) :
    KeepsR z (execFenceComplete qpn s) := by
  unfold execFenceComplete
  repeat' first
    | with_reducible
      first
      | assumption | apply KeepsR.next | apply Keeps.ite | apply State.completeFences_keeps
    | intro _ | extract_lets +onlyGivenNames t | split
    | (with_reducible apply keeps_snd (by with_reducible assumption))
    | (with_reducible apply keeps_fst (by with_reducible assumption)) | dsimp +zetaDelta only

theorem execFlushLimitExpiry_keeps {z : State} (req : Nat) (s : State) (hk : Keeps z s) :
    KeepsR z (execFlushLimitExpiry req s) := by
  unfold execFlushLimitExpiry
  repeat' first
    | with_reducible
      first
      | assumption | apply KeepsR.next | apply Keeps.ite | apply State.endReq_keeps | apply State.bump_keeps
      | fail_if_no_progress refine keeps_lit rfl rfl rfl rfl rfl rfl ?_
    | intro _ | extract_lets +onlyGivenNames t | split
    | (with_reducible apply keeps_snd (by with_reducible assumption))
    | (with_reducible apply keeps_fst (by with_reducible assumption)) | dsimp +zetaDelta only

theorem State.shipSlot_keeps {z : State} (s : State) (e : Nat × Intent) (hk : Keeps z s) :
    Keeps z (State.shipSlot s e) := by
  unfold State.shipSlot
  repeat' first
    | with_reducible
      first
      | assumption | apply Keeps.ite | apply State.ship_keeps | apply State.updIntent_keeps
      | fail_if_no_progress refine keeps_lit rfl rfl rfl rfl rfl rfl ?_
    | intro _ | extract_lets +onlyGivenNames t | split
    | (with_reducible apply keeps_snd (by with_reducible assumption))
    | (with_reducible apply keeps_fst (by with_reducible assumption)) | dsimp +zetaDelta only

theorem State.shipSlots_keeps {z : State} (s : State) (hk : Keeps z s) :
    Keeps z (State.shipSlots s) := by
  unfold State.shipSlots
  repeat' first
    | with_reducible
      first
      | assumption | apply Keeps.ite | apply State.shipSlot_keeps | (apply keeps_foldl; intro _ _ _)
      | (apply keeps_foldl_fst; intro _ _ _)
    | intro _ | extract_lets +onlyGivenNames t | split
    | (with_reducible apply keeps_snd (by with_reducible assumption))
    | (with_reducible apply keeps_fst (by with_reducible assumption)) | dsimp +zetaDelta only

theorem execIntentHeaderPlaced_keeps {z : State} (slot : BitVec 14) (s : State) (hk : Keeps z s) :
    KeepsR z (execIntentHeaderPlaced slot s) := by
  unfold execIntentHeaderPlaced
  repeat' first
    | with_reducible
      first
      | assumption | apply KeepsR.next | apply Keeps.ite | apply State.shipSlot_keeps | apply State.issueFor_keeps
      | apply State.updIntent_keeps | fail_if_no_progress refine keeps_lit rfl rfl rfl rfl rfl rfl ?_
    | intro _ | extract_lets +onlyGivenNames t | split
    | (with_reducible apply keeps_snd (by with_reducible assumption))
    | (with_reducible apply keeps_fst (by with_reducible assumption)) | dsimp +zetaDelta only

theorem execIntentHomeWrite_keeps {z : State} (slot : BitVec 14) (s : State) (hk : Keeps z s) :
    KeepsR z (execIntentHomeWrite slot s) := by
  unfold execIntentHomeWrite
  repeat' first
    | with_reducible
      first
      | assumption | apply KeepsR.next | apply Keeps.ite | apply State.homePlaced_keeps | apply State.issueFor_keeps
      | apply State.updIntent_keeps | (apply keeps_foldl; intro _ _ _) | (apply keeps_foldl_fst; intro _ _ _)
      | fail_if_no_progress refine keeps_lit rfl rfl rfl rfl rfl rfl ?_
    | intro _ | extract_lets +onlyGivenNames t | split
    | (with_reducible apply keeps_snd (by with_reducible assumption))
    | (with_reducible apply keeps_fst (by with_reducible assumption)) | dsimp +zetaDelta only

theorem execJournalApply_keeps {z : State} (s : State) (hk : Keeps z s) :
    KeepsR z (execJournalApply s) := by
  unfold execJournalApply
  repeat' first
    | with_reducible
      first
      | assumption | apply KeepsR.next | apply Keeps.ite | apply State.issue_keeps | (apply keeps_foldl; intro _ _ _)
      | (apply keeps_foldl_fst; intro _ _ _) | fail_if_no_progress refine keeps_lit rfl rfl rfl rfl rfl rfl ?_
    | intro _ | extract_lets +onlyGivenNames t | split
    | (with_reducible apply keeps_snd (by with_reducible assumption))
    | (with_reducible apply keeps_fst (by with_reducible assumption)) | dsimp +zetaDelta only

/-! Machine/Commands.lean -/

theorem State.crossing_keeps {z : State} (s : State) (h : CmdHead) (opcode : Nat) (c : Change) (hk : Keeps z s) :
    Keeps z (State.crossing s h opcode c).1 := by
  unfold State.crossing
  repeat' first
    | with_reducible
      first
      | assumption | apply Keeps.ite | apply State.stage_keeps | apply State.journal_keeps
      | fail_if_no_progress refine keeps_lit rfl rfl rfl rfl rfl rfl ?_
    | intro _ | extract_lets +onlyGivenNames t | split
    | (with_reducible apply keeps_snd (by with_reducible assumption))
    | (with_reducible apply keeps_fst (by with_reducible assumption)) | dsimp +zetaDelta only

theorem execTenantCreate_keeps {z : State} (h : CmdHead) (tenant : BitVec 16) (encrypt : Bool) (risAllowed : Bool) (scmQuota : Word) (pinQuota : Word) (tileQuota : BitVec 16) (len : Word) (wrapped : List Byte) (s : State) (hk : Keeps z s) :
    KeepsR z (execTenantCreate h tenant encrypt risAllowed scmQuota pinQuota tileQuota len wrapped s) := by
  unfold execTenantCreate
  repeat' first
    | with_reducible
      first
      | assumption | apply KeepsR.next | apply Keeps.ite | apply State.crossing_keeps | apply State.setKeySlot_keeps
      | apply State.command_keeps | fail_if_no_progress refine keeps_lit rfl rfl rfl rfl rfl rfl ?_
    | intro _ | extract_lets +onlyGivenNames t | split
    | (with_reducible apply keeps_snd (by with_reducible assumption))
    | (with_reducible apply keeps_fst (by with_reducible assumption)) | dsimp +zetaDelta only

theorem execTenantDestroy_keeps {z : State} (h : CmdHead) (tenant : BitVec 16) (s : State) (hk : Keeps z s) :
    KeepsR z (execTenantDestroy h tenant s) := by
  unfold execTenantDestroy
  repeat' first
    | with_reducible
      first
      | assumption | apply KeepsR.next | apply Keeps.ite | apply State.command_keeps | apply State.crossing_keeps
    | intro _

theorem execExtentAlloc_keeps {z : State} (h : CmdHead) (extent : Word) (tenant : BitVec 16) (side : Byte) (s : State) (hk : Keeps z s) :
    KeepsR z (execExtentAlloc h extent tenant side s) := by
  unfold execExtentAlloc
  repeat' first
    | with_reducible
      first
      | assumption | apply KeepsR.next | apply Keeps.ite | apply State.command_keeps | apply State.crossing_keeps
      | fail_if_no_progress refine keeps_lit rfl rfl rfl rfl rfl rfl ?_
    | intro _

theorem execExtentFree_keeps {z : State} (h : CmdHead) (extent : Word) (s : State) (hk : Keeps z s) :
    KeepsR z (execExtentFree h extent s) := by
  unfold execExtentFree
  repeat' first
    | with_reducible
      first
      | assumption | apply KeepsR.next | apply Keeps.ite | apply State.command_keeps | apply State.crossing_keeps
      | fail_if_no_progress refine keeps_lit rfl rfl rfl rfl rfl rfl ?_
    | intro _

theorem execExtentDiscard_keeps {z : State} (h : CmdHead) (pna : DWord) (length : DWord) (tenant : BitVec 16) (s : State) (hk : Keeps z s) :
    KeepsR z (execExtentDiscard h pna length tenant s) := by
  unfold execExtentDiscard
  repeat' first
    | with_reducible
      first
      | assumption | apply KeepsR.next | apply Keeps.ite | apply State.command_keeps | apply State.stage_keeps
      | fail_if_no_progress refine keeps_lit rfl rfl rfl rfl rfl rfl ?_
    | intro _

theorem State.zeroPage_keeps {z : State} (s : State) (page : Nat) (hk : Keeps z s) :
    Keeps z (State.zeroPage s page) := by
  unfold State.zeroPage
  exact keeps_foldl _ _ (fun _ _ h => State.issue_keeps _ _ _ (State.storeLine_keeps _ _ _ _ h)) (State.mapPage_keeps _ _ _ hk)

theorem State.pin_keeps {z : State} (s : State) (h : CmdHead) (opcode : Nat) (i : Nat) (exts : List Nat) (c : Change) (hk : Keeps z s) :
    Keeps z (State.pin s h opcode i exts c).1 := by
  unfold State.pin
  repeat' first
    | with_reducible
      first
      | assumption | apply Keeps.ite | apply State.stage_keeps | apply State.journal_keeps
      | apply State.zeroPage_keeps | apply State.abandon_keeps | (apply keeps_foldl; intro _ _ _)
      | (apply keeps_foldl_fst; intro _ _ _) | fail_if_no_progress refine keeps_lit rfl rfl rfl rfl rfl rfl ?_
    | intro _ | extract_lets +onlyGivenNames t | split
    | (with_reducible apply keeps_snd (by with_reducible assumption))
    | (with_reducible apply keeps_fst (by with_reducible assumption)) | dsimp +zetaDelta only

theorem execWindowOpen_keeps {z : State} (h : CmdHead) (rkey : Word) (recycle : Bool) (d : WinDesc) (s : State) (hk : Keeps z s) :
    KeepsR z (execWindowOpen h rkey recycle d s) := by
  unfold execWindowOpen
  repeat' first
    | with_reducible
      first
      | assumption | apply KeepsR.next | apply Keeps.ite | apply State.command_keeps | apply State.pin_keeps
      | apply State.crossing_keeps | fail_if_no_progress refine keeps_lit rfl rfl rfl rfl rfl rfl ?_
    | intro _ | extract_lets +onlyGivenNames t | split

theorem execWindowModify_keeps {z : State} (h : CmdHead) (rkey : Word) (mask : BitVec 8) (rights : BitVec 8) (pinned : BitVec 8) (progId : BitVec 16) (s : State) (hk : Keeps z s) :
    KeepsR z (execWindowModify h rkey mask rights pinned progId s) := by
  unfold execWindowModify
  repeat' first
    | with_reducible
      first
      | assumption | apply KeepsR.next | apply Keeps.ite | (apply keeps_foldl; intro _ _ _)
      | apply State.command_keeps | apply State.pin_keeps | apply State.crossing_keeps | apply State.stage_keeps
    | intro _ | extract_lets +onlyGivenNames t | split
    | (with_reducible apply keeps_snd (by with_reducible assumption))
    | (with_reducible apply keeps_fst (by with_reducible assumption))

theorem execPinnedPublish_keeps {z : State} (index : BitVec 24) (s : State) (hk : Keeps z s) :
    KeepsR z (execPinnedPublish index s) := by
  unfold execPinnedPublish
  repeat' first
    | with_reducible
      first
      | assumption | apply KeepsR.next | apply Keeps.ite | apply State.eventDone_keeps
      | fail_if_no_progress refine keeps_lit rfl rfl rfl rfl rfl rfl ?_
    | intro _ | extract_lets +onlyGivenNames t | split
    | (with_reducible apply keeps_snd (by with_reducible assumption))
    | (with_reducible apply keeps_fst (by with_reducible assumption)) | dsimp +zetaDelta only

theorem execWindowRevoke_keeps {z : State} (h : CmdHead) (rkey : Word) (s : State) (hk : Keeps z s) :
    KeepsR z (execWindowRevoke h rkey s) := by
  unfold execWindowRevoke
  repeat' first
    | with_reducible
      first
      | assumption | apply KeepsR.next | apply Keeps.ite | apply State.command_keeps | apply State.crossing_keeps
      | fail_if_no_progress refine keeps_lit rfl rfl rfl rfl rfl rfl ?_
    | intro _

theorem State.expel_keeps {z : State} (s : State) (id : Nat) (hk : Keeps z s) :
    Keeps z (State.expel s id) := by
  unfold State.expel
  repeat' first
    | with_reducible
      first
      | assumption | apply Keeps.ite | apply State.dropReq_keeps
      | fail_if_no_progress refine keeps_lit rfl rfl rfl rfl rfl rfl ?_
    | intro _ | extract_lets +onlyGivenNames t | split
    | (with_reducible apply keeps_snd (by with_reducible assumption))
    | (with_reducible apply keeps_fst (by with_reducible assumption)) | dsimp only [id] | dsimp +zetaDelta only

theorem execWindowRevokeDone_keeps {z : State} (index : BitVec 24) (s : State) (hk : Keeps z s) :
    KeepsR z (execWindowRevokeDone index s) := by
  unfold execWindowRevokeDone
  repeat' first
    | with_reducible
      first
      | assumption | apply KeepsR.next | apply Keeps.ite | apply State.eventDone_keeps | apply State.journal_keeps
      | apply State.expel_keeps | (apply keeps_foldl; intro _ _ _) | (apply keeps_foldl_fst; intro _ _ _)
      | fail_if_no_progress refine keeps_lit rfl rfl rfl rfl rfl rfl ?_
    | intro _ | extract_lets +onlyGivenNames t | split
    | (with_reducible apply keeps_snd (by with_reducible assumption))
    | (with_reducible apply keeps_fst (by with_reducible assumption)) | dsimp only [id] | dsimp +zetaDelta only

theorem execQpCreate_keeps {z : State} (h : CmdHead) (b : QpBlock) (s : State) (hk : Keeps z s) :
    KeepsR z (execQpCreate h b s) := by
  unfold execQpCreate
  repeat' first
    | with_reducible
      first
      | assumption | apply KeepsR.next | apply Keeps.ite | apply State.command_keeps | apply State.stage_keeps
      | fail_if_no_progress refine keeps_lit rfl rfl rfl rfl rfl rfl ?_
    | intro _

theorem execQpModify_keeps {z : State} (h : CmdHead) (b : QpBlock) (s : State) (hk : Keeps z s) :
    KeepsR z (execQpModify h b s) := by
  unfold execQpModify
  repeat' first
    | with_reducible
      first
      | assumption | apply KeepsR.next | apply Keeps.ite | apply State.command_keeps | apply State.stage_keeps
      | fail_if_no_progress refine keeps_lit rfl rfl rfl rfl rfl rfl ?_
    | intro _

theorem execQpDestroy_keeps {z : State} (h : CmdHead) (qpn : Word) (s : State) (hk : Keeps z s) :
    KeepsR z (execQpDestroy h qpn s) := by
  unfold execQpDestroy
  repeat' first
    | with_reducible
      first
      | assumption | apply KeepsR.next | apply Keeps.ite | apply State.command_keeps | apply State.stage_keeps
      | fail_if_no_progress refine keeps_lit rfl rfl rfl rfl rfl rfl ?_
    | intro _

theorem execRegionRead_keeps {z : State} (h : CmdHead) (offset : DWord) (len : Word) (s : State) (hk : Keeps z s) :
    KeepsR z (execRegionRead h offset len s) := by
  unfold execRegionRead
  repeat' first
    | with_reducible
      first
      | assumption | apply KeepsR.next | apply State.command_keeps
      | fail_if_no_progress refine keeps_lit rfl rfl rfl rfl rfl rfl ?_
    | intro _

theorem execRegionWrite_keeps {z : State} (h : CmdHead) (offset : DWord) (data : List Byte) (s : State) (hk : Keeps z s) :
    KeepsR z (execRegionWrite h offset data s) := by
  unfold execRegionWrite
  repeat' first
    | with_reducible
      first
      | assumption | apply KeepsR.next | apply State.command_keeps
      | fail_if_no_progress refine keeps_lit rfl rfl rfl rfl rfl rfl ?_
    | intro _ | extract_lets +onlyGivenNames t | (with_reducible apply keeps_litw; (with_reducible exact rfl); (iterate 5 with_reducible (first | exact id | exact fun w => Bar.wf_mk (Bar.wf_val w) (Bar.wf_eff w) (Bar.wf_copy w) | exact fun w => Bar.wf_mk (Maps.wf_wr _ _ (Bar.wf_val w)) (Bar.wf_eff w) (Bar.wf_copy w) | exact fun w => Bar.wf_mk (Bar.wf_val w) (Maps.wf_wr _ _ (Bar.wf_eff w)) (Bar.wf_copy w) | exact fun w => Bar.wf_mk (Bar.wf_val w) (Bar.wf_val w) (Bar.wf_copy w) | exact fun w => Bar.wf_mk (Bar.wf_val w) (Bar.wf_eff w) (Bar.wf_val w) | exact fun w => Bar.wf_mk (Maps.wf_filter _ (Bar.wf_val w)) (Maps.wf_filter _ (Bar.wf_eff w)) (Maps.wf_filter _ (Bar.wf_copy w)) | exact fun w => Mem.wf_setBytes _ _ w )); first | with_reducible assumption )

theorem execMgmt_keeps {z : State} (h : CmdHead) (x1 : List Byte) (result : Byte) (w0 : DWord) (w1 : DWord) (w2 : DWord) (s : State) (hk : Keeps z s) :
    KeepsR z (execMgmt h x1 result w0 w1 w2 s) := by
  unfold execMgmt
  repeat' first
    | with_reducible
      first
      | assumption | apply KeepsR.next | apply Keeps.ite | apply State.command_keeps
      | fail_if_no_progress refine keeps_lit rfl rfl rfl rfl rfl rfl ?_
    | intro _

theorem execNop_keeps {z : State} (h : CmdHead) (s : State) (hk : Keeps z s) :
    KeepsR z (execNop h s) := by
  unfold execNop
  repeat' first
    | with_reducible
      first
      | assumption | apply KeepsR.next | apply State.command_keeps
      | fail_if_no_progress refine keeps_lit rfl rfl rfl rfl rfl rfl ?_
    | intro _

theorem execQuery_keeps {z : State} (h : CmdHead) (kind : Byte) (index : Word) (s : State) (hk : Keeps z s) :
    KeepsR z (execQuery h kind index s) := by
  unfold execQuery
  repeat' first
    | with_reducible
      first
      | assumption | apply KeepsR.next | apply State.command_keeps
      | fail_if_no_progress refine keeps_lit rfl rfl rfl rfl rfl rfl ?_
    | intro _

/-! Machine/Calibration.lean -/

theorem State.setTrim_keeps {z : State} (s : State) (codes : Option (List Int)) (t : Int) (hk : Keeps z s) :
    Keeps z (State.setTrim s codes t) := by
  unfold State.setTrim
  repeat' first
    | with_reducible
      first
      | assumption | apply Keeps.ite | apply State.setF_keeps
      | fail_if_no_progress refine keeps_lit rfl rfl rfl rfl rfl rfl ?_
    | intro _ | extract_lets +onlyGivenNames t | split
    | (with_reducible apply keeps_snd (by with_reducible assumption))
    | (with_reducible apply keeps_fst (by with_reducible assumption)) | dsimp +zetaDelta only

theorem State.stageItems_keeps {z : State} (s : State) (i : Nat) (t : Int) (hk : Keeps z s) :
    Keeps z (State.stageItems s i t) := by
  unfold State.stageItems
  repeat' first
    | with_reducible
      first
      | assumption | apply Keeps.ite | (apply keeps_foldl; intro _ _ _) | (apply keeps_foldl_fst; intro _ _ _)
      | fail_if_no_progress refine keeps_lit rfl rfl rfl rfl rfl rfl ?_
    | intro _ | extract_lets +onlyGivenNames t | split
    | (with_reducible apply keeps_snd (by with_reducible assumption))
    | (with_reducible apply keeps_fst (by with_reducible assumption)) | dsimp +zetaDelta only

theorem State.forceItems_keeps {z : State} (s : State) (i : Nat) (t : Int) (hk : Keeps z s) :
    Keeps z (State.forceItems s i t) := by
  unfold State.forceItems
  repeat' first
    | with_reducible
      first
      | assumption | apply Keeps.ite | (apply keeps_foldl; intro _ _ _) | (apply keeps_foldl_fst; intro _ _ _)
      | fail_if_no_progress refine keeps_lit rfl rfl rfl rfl rfl rfl ?_
    | intro _ | extract_lets +onlyGivenNames t | split
    | (with_reducible apply keeps_snd (by with_reducible assumption))
    | (with_reducible apply keeps_fst (by with_reducible assumption)) | dsimp +zetaDelta only

theorem State.startItem_keeps {z : State} (s : State) (i : Nat) (hk : Keeps z s) :
    Keeps z (State.startItem s i) := by
  unfold State.startItem
  repeat' first
    | with_reducible
      first
      | assumption | apply Keeps.ite | apply State.forceItems_keeps
      | fail_if_no_progress refine keeps_lit rfl rfl rfl rfl rfl rfl ?_
    | intro _ | extract_lets +onlyGivenNames t | split
    | (with_reducible apply keeps_snd (by with_reducible assumption))
    | (with_reducible apply keeps_fst (by with_reducible assumption)) | dsimp +zetaDelta only

theorem State.moveLanes_keeps {z : State} (s : State) (hk : Keeps z s) :
    Keeps z (State.moveLanes s) := by
  unfold State.moveLanes
  repeat' first
    | with_reducible
      first
      | assumption | apply Keeps.ite | (apply keeps_foldl; intro _ _ _) | (apply keeps_foldl_fst; intro _ _ _)
      | fail_if_no_progress refine keeps_lit rfl rfl rfl rfl rfl rfl ?_
    | intro _ | extract_lets +onlyGivenNames t | split
    | (with_reducible apply keeps_snd (by with_reducible assumption))
    | (with_reducible apply keeps_fst (by with_reducible assumption)) | dsimp +zetaDelta only

theorem State.moveDdr_keeps {z : State} (s : State) (hk : Keeps z s) :
    Keeps z (State.moveDdr s) := by
  unfold State.moveDdr
  repeat' first
    | with_reducible
      first
      | assumption | apply Keeps.ite | (apply keeps_foldl; intro _ _ _) | (apply keeps_foldl_fst; intro _ _ _)
      | fail_if_no_progress refine keeps_lit rfl rfl rfl rfl rfl rfl ?_
    | intro _ | extract_lets +onlyGivenNames t | split
    | (with_reducible apply keeps_snd (by with_reducible assumption))
    | (with_reducible apply keeps_fst (by with_reducible assumption)) | dsimp +zetaDelta only

theorem State.moveItems_keeps {z : State} (s : State) (hk : Keeps z s) :
    Keeps z (State.moveItems s) := by
  unfold State.moveItems
  repeat' first
    | with_reducible
      first
      | assumption | apply Keeps.ite | apply State.moveDdr_keeps | apply State.moveLanes_keeps
      | fail_if_no_progress refine keeps_lit rfl rfl rfl rfl rfl rfl ?_
    | intro _ | extract_lets +onlyGivenNames t | split
    | (with_reducible apply keeps_snd (by with_reducible assumption))
    | (with_reducible apply keeps_fst (by with_reducible assumption)) | dsimp +zetaDelta only

theorem State.moveOnfi_keeps {z : State} (s : State) (hk : Keeps z s) :
    Keeps z (State.moveOnfi s) := by
  unfold State.moveOnfi
  repeat' first
    | with_reducible
      first
      | assumption | apply Keeps.ite | (apply keeps_foldl; intro _ _ _) | (apply keeps_foldl_fst; intro _ _ _)
      | fail_if_no_progress refine keeps_lit rfl rfl rfl rfl rfl rfl ?_
    | intro _ | extract_lets +onlyGivenNames t | split
    | (with_reducible apply keeps_snd (by with_reducible assumption))
    | (with_reducible apply keeps_fst (by with_reducible assumption)) | dsimp +zetaDelta only

theorem State.trimOsc_keeps {z : State} (s : State) (t : Int) (hk : Keeps z s) :
    Keeps z (State.trimOsc s t) := by
  unfold State.trimOsc
  repeat' first
    | with_reducible
      first
      | assumption | apply Keeps.ite | apply State.setTrim_keeps
    | intro _ | extract_lets +onlyGivenNames t | split
    | (with_reducible apply keeps_snd (by with_reducible assumption))
    | (with_reducible apply keeps_fst (by with_reducible assumption)) | dsimp +zetaDelta only

theorem State.trimFirst_keeps {z : State} (s : State) (hk : Keeps z s) :
    Keeps z (State.trimFirst s) := by
  unfold State.trimFirst
  repeat' first
    | with_reducible
      first
      | assumption | apply Keeps.ite | apply State.setTrim_keeps
    | intro _ | extract_lets +onlyGivenNames t | split
    | (with_reducible apply keeps_snd (by with_reducible assumption))
    | (with_reducible apply keeps_fst (by with_reducible assumption)) | dsimp +zetaDelta only

theorem State.readCalStore_keeps {z : State} (s : State) (hk : Keeps z s) :
    Keeps z (State.readCalStore s) := by
  unfold State.readCalStore
  repeat' with_reducible
    first
    | assumption | apply Keeps.ite | apply State.trimOsc_keeps | apply State.setB_keeps | apply State.setF_keeps

/-! Machine/Programs.lean -/

theorem State.loadImage_keeps {z : State} (s : State) (slot : Nat) (b : List Byte) (hk : Keeps z s) :
    Keeps z (State.loadImage s slot b) := by
  unfold State.loadImage
  repeat' first
    | with_reducible
      first
      | assumption | apply Keeps.ite | fail_if_no_progress refine keeps_lit rfl rfl rfl rfl rfl rfl ?_
    | intro _ | extract_lets +onlyGivenNames t | split
    | (with_reducible apply keeps_snd (by with_reducible assumption))
    | (with_reducible apply keeps_fst (by with_reducible assumption)) | dsimp only [id] | dsimp +zetaDelta only

theorem execProgramLoad_keeps {z : State} (h : CmdHead) (image : List Byte) (s : State) (hk : Keeps z s) :
    KeepsR z (execProgramLoad h image s) := by
  unfold execProgramLoad
  repeat' first
    | with_reducible
      first
      | assumption | apply KeepsR.next | apply Keeps.ite | apply State.loadImage_keeps | apply State.command_keeps
      | fail_if_no_progress refine keeps_lit rfl rfl rfl rfl rfl rfl ?_
    | intro _ | extract_lets +onlyGivenNames t | split
    | (with_reducible apply keeps_snd (by with_reducible assumption))
    | (with_reducible apply keeps_fst (by with_reducible assumption)) | dsimp +zetaDelta only

theorem execProgramUnload_keeps {z : State} (h : CmdHead) (slot : Byte) (s : State) (hk : Keeps z s) :
    KeepsR z (execProgramUnload h slot s) := by
  unfold execProgramUnload
  repeat' first
    | with_reducible
      first
      | assumption | apply KeepsR.next | apply Keeps.ite | apply State.command_keeps | apply State.drain_keeps
      | fail_if_no_progress refine keeps_lit rfl rfl rfl rfl rfl rfl ?_
    | intro _ | extract_lets +onlyGivenNames t | split

theorem execProgramRelease_keeps {z : State} (slot : Fin 64) (s : State) (hk : Keeps z s) :
    KeepsR z (execProgramRelease slot s) := by
  unfold execProgramRelease
  repeat' first
    | with_reducible
      first
      | assumption | apply KeepsR.next | apply Keeps.ite | apply State.notify_keeps
      | fail_if_no_progress refine keeps_lit rfl rfl rfl rfl rfl rfl ?_
    | intro _ | extract_lets +onlyGivenNames t | split
    | (with_reducible apply keeps_snd (by with_reducible assumption))
    | (with_reducible apply keeps_fst (by with_reducible assumption)) | dsimp only [id] | dsimp +zetaDelta only

end Sys2Proof.Machine
end

