-- ==== Sys2Proof/Laws/KeepsMedia.lean ====
section
/-! SUPPORT. The media, the flash tier and the DRAM:
each operation keeps the queue and the canonical memories (`Keeps`). -/

namespace Sys2Proof.Machine

open Sys2Proof

/-! Machine/Media.lean -/

theorem State.hear_keeps {z : State} (s : State) (m : Nat) (hk : Keeps z s) :
    Keeps z (State.hear s m) := by
  unfold State.hear
  repeat' first
    | with_reducible
      first
      | assumption | apply Keeps.ite | apply State.setLink_keeps
      | fail_if_no_progress refine keeps_lit rfl rfl rfl rfl rfl rfl ?_
    | intro _ | extract_lets +onlyGivenNames t | split
    | (with_reducible apply keeps_snd (by with_reducible assumption))
    | (with_reducible apply keeps_fst (by with_reducible assumption)) | dsimp +zetaDelta only

theorem State.linkDown_keeps {z : State} (s : State) (m : Nat) (hk : Keeps z s) :
    Keeps z (State.linkDown s m) := by
  unfold State.linkDown
  repeat' first
    | with_reducible
      first
      | assumption | apply Keeps.ite | apply State.report_keeps | apply State.bump_keeps | apply State.setLink_keeps
      | fail_if_no_progress refine keeps_lit rfl rfl rfl rfl rfl rfl ?_
    | intro _ | extract_lets +onlyGivenNames t | split
    | (with_reducible apply keeps_snd (by with_reducible assumption))
    | (with_reducible apply keeps_fst (by with_reducible assumption)) | dsimp +zetaDelta only

theorem State.stackLost_keeps {z : State} (s : State) (m : Nat) (hk : Keeps z s) :
    Keeps z (State.stackLost s m) := by
  unfold State.stackLost
  repeat' with_reducible first | assumption | apply Keeps.ite | apply State.report_keeps | apply State.setLink_keeps

theorem State.closeTrans_keeps {z : State} (s : State) (m : Nat) (tag : Nat) (hk : Keeps z s) :
    Keeps z (State.closeTrans s m tag) := by
  unfold State.closeTrans
  repeat' first
    | with_reducible
      first
      | assumption | apply Keeps.ite | apply State.pump_keeps | apply State.setLink_keeps
      | fail_if_no_progress refine keeps_lit rfl rfl rfl rfl rfl rfl ?_
    | intro _ | extract_lets +onlyGivenNames t | split
    | (with_reducible apply keeps_snd (by with_reducible assumption))
    | (with_reducible apply keeps_fst (by with_reducible assumption)) | dsimp +zetaDelta only

theorem State.lastMedErr_keeps {z : State} (s : State) (kind : Nat) (m : Nat) (lsa : Nat) (hk : Keeps z s) :
    Keeps z (State.lastMedErr s kind m lsa) := by
  unfold State.lastMedErr
  repeat' with_reducible first | assumption | apply State.setPair_keeps | apply State.setReg_keeps

theorem State.poisonLine_keeps {z : State} (s : State) (m : Nat) (line : Nat) (hk : Keeps z s) :
    Keeps z (State.poisonLine s m line) := by
  unfold State.poisonLine
  repeat' first
    | with_reducible
      first
      | assumption | apply Keeps.ite | apply State.report_keeps | apply State.lastMedErr_keeps
      | apply State.journal_keeps | apply State.stackLost_keeps
      | fail_if_no_progress refine keeps_lit rfl rfl rfl rfl rfl rfl ?_
    | intro _ | extract_lets +onlyGivenNames t | split
    | (with_reducible apply keeps_snd (by with_reducible assumption))
    | (with_reducible apply keeps_fst (by with_reducible assumption)) | dsimp +zetaDelta only

theorem State.lineFailed_keeps {z : State} (s : State) (m : Nat) (line : Nat) (hk : Keeps z s) :
    Keeps z (State.lineFailed s m line) := by
  unfold State.lineFailed
  repeat' with_reducible
    first
    | assumption | apply Keeps.ite | apply State.report_keeps | apply State.poisonLine_keeps
    | fail_if_no_progress refine keeps_lit rfl rfl rfl rfl rfl rfl ?_

theorem State.readFailed_keeps {z : State} (s : State) (m : Nat) (t : MTrans) (code : Nat) (hk : Keeps z s) :
    Keeps z (State.readFailed s m t code) := by
  unfold State.readFailed
  repeat' first
    | with_reducible
      first
      | assumption | apply Keeps.ite | apply State.report_keeps | apply State.failTile_keeps
      | apply State.lineFailed_keeps | apply State.failRead_keeps
      | fail_if_no_progress refine keeps_lit rfl rfl rfl rfl rfl rfl ?_
    | intro _ | extract_lets +onlyGivenNames t | split
    | (with_reducible apply keeps_snd (by with_reducible assumption))
    | (with_reducible apply keeps_fst (by with_reducible assumption)) | dsimp only [id] | dsimp +zetaDelta only

theorem State.mergeReturned_keeps {z : State} (s : State) (t : MTrans) (hk : Keeps z s) :
    Keeps z (State.mergeReturned s t) := by
  unfold State.mergeReturned
  repeat' first
    | with_reducible
      first
      | assumption | apply Keeps.ite | apply State.reapPb_keeps
      | fail_if_no_progress refine keeps_lit rfl rfl rfl rfl rfl rfl ?_
    | extract_lets +onlyGivenNames t | split

theorem State.trimRewritten_keeps {z : State} (s : State) (hk : Keeps z s) :
    Keeps z (State.trimRewritten s) := by
  unfold State.trimRewritten
  exact keeps_lit rfl rfl rfl rfl rfl rfl hk

theorem State.lineWriteBack_keeps {z : State} (s : State) (m : Nat) (x : MSentRec) (raw : List Byte) (fresh : Bool) (hk : Keeps z s) :
    Keeps z (State.lineWriteBack s m x raw fresh) := by
  unfold State.lineWriteBack
  repeat' first
    | with_reducible
      first
      | assumption | apply Keeps.ite | apply State.issue_keeps
      | fail_if_no_progress refine keeps_lit rfl rfl rfl rfl rfl rfl ?_
    | intro _ | extract_lets +onlyGivenNames t | split
    | (with_reducible apply keeps_snd (by with_reducible assumption))
    | (with_reducible apply keeps_fst (by with_reducible assumption)) | dsimp +zetaDelta only

theorem State.gotRdr_keeps {z : State} (s : State) (m : Nat) (tag : Nat) (cnt : Nat) (raw : List Byte) (hk : Keeps z s) :
    Keeps z (State.gotRdr s m tag cnt raw) := by
  unfold State.gotRdr
  generalize Maps.find tag (s.link m).trans = o
  cases o with
  | none => exact State.stackLost_keeps _ _ hk
  | some x =>
    refine Keeps.ite (State.stackLost_keeps _ _ hk) ?_
    have h : Keeps z ((s.closeTrans m tag).trimRewritten) := State.trimRewritten_keeps _ (State.closeTrans_keeps _ _ _ hk)
    generalize checkLine raw x.address = v
    cases v with
    | clean => exact State.mergeReturned_keeps _ _ h
    | corrected bits =>
      exact Keeps.ite (State.lineWriteBack_keeps _ _ _ _ _
          (State.mergeReturned_keeps _ _ (State.bumpBy_keeps _ _ _ (State.bump_keeps _ _ h))))
        (State.mergeReturned_keeps _ _ (State.bumpBy_keeps _ _ _ (State.bump_keeps _ _ h)))
    | uncorrectable =>
      exact State.readFailed_keeps _ _ _ _ (State.lastMedErr_keeps _ _ _ _ (State.bump_keeps _ _ (State.bump_keeps _ _ h)))
    | wrongTag => exact State.readFailed_keeps _ _ _ _ (State.lastMedErr_keeps _ _ _ _ (State.bump_keeps _ _ h))

theorem State.promoLine_keeps {z : State} (s : State) (page : Nat) (hk : Keeps z s) :
    Keeps z (State.promoLine s page) := by
  unfold State.promoLine
  exact keeps_lit rfl rfl rfl rfl rfl rfl hk

theorem State.recordPlaced_keeps {z : State} (s : State) (g : Nat) (hk : Keeps z s) :
    Keeps z (State.recordPlaced s g) := by
  unfold State.recordPlaced
  repeat' first
    | with_reducible
      first
      | assumption | apply Keeps.ite | apply State.groupPlaced_keeps | apply State.journal_keeps
      | fail_if_no_progress refine keeps_lit rfl rfl rfl rfl rfl rfl ?_
    | intro _ | extract_lets +onlyGivenNames t | split
    | (with_reducible apply keeps_snd (by with_reducible assumption))
    | (with_reducible apply keeps_fst (by with_reducible assumption)) | dsimp +zetaDelta only

theorem State.homeApplied_keeps {z : State} (s : State) (g : Nat) (hk : Keeps z s) :
    Keeps z (State.homeApplied s g) := by
  unfold State.homeApplied
  repeat' first
    | with_reducible
      first
      | assumption | apply Keeps.ite | fail_if_no_progress refine keeps_lit rfl rfl rfl rfl rfl rfl ?_
    | intro _ | extract_lets +onlyGivenNames t | split
    | (with_reducible apply keeps_snd (by with_reducible assumption))
    | (with_reducible apply keeps_fst (by with_reducible assumption)) | dsimp +zetaDelta only

theorem State.wrote_keeps {z : State} (s : State) (line : Nat) (x : MSentRec) (hk : Keeps z s) :
    Keeps z (State.wrote s line x) := by
  unfold State.wrote
  repeat' first
    | with_reducible
      first
      | assumption | apply Keeps.ite | apply State.storeLine_keeps
    | intro _ | extract_lets +onlyGivenNames t | split
    | (with_reducible apply keeps_snd (by with_reducible assumption))
    | (with_reducible apply keeps_fst (by with_reducible assumption)) | dsimp +zetaDelta only

theorem State.confirmed_keeps {z : State} (s : State) (m : Nat) (x : MSentRec) (hk : Keeps z s) :
    Keeps z (State.confirmed s m x) := by
  unfold State.confirmed
  repeat' first
    | with_reducible
      first
      | assumption | apply Keeps.ite | apply State.pump_keeps | apply State.setRegion_keeps
      | apply State.confirm_keeps | apply State.outcomesConfirmed_keeps | apply State.slotFreed_keeps
      | apply State.homePlaced_keeps | apply State.headerPlaced_keeps | apply State.updIntent_keeps
      | apply State.homeApplied_keeps | apply State.recordPlaced_keeps | apply State.journal_keeps
      | apply State.promoLine_keeps | apply State.settle_keeps | apply State.mapPb_keeps | apply State.wrote_keeps
      | fail_if_no_progress refine keeps_lit rfl rfl rfl rfl rfl rfl ?_
    | intro _ | extract_lets +onlyGivenNames t | split
    | (with_reducible apply keeps_snd (by with_reducible assumption))
    | (with_reducible apply keeps_fst (by with_reducible assumption)) | dsimp +zetaDelta only

theorem State.gotCnf_keeps {z : State} (s : State) (m : Nat) (tag : Nat) (hk : Keeps z s) :
    Keeps z (State.gotCnf s m tag) := by
  unfold State.gotCnf
  repeat' first
    | with_reducible
      first
      | assumption | apply Keeps.ite | apply State.confirmed_keeps | apply State.closeTrans_keeps
      | apply State.stackLost_keeps | fail_if_no_progress refine keeps_lit rfl rfl rfl rfl rfl rfl ?_
    | intro _ | extract_lets +onlyGivenNames t | split
    | (with_reducible apply keeps_snd (by with_reducible assumption))
    | (with_reducible apply keeps_fst (by with_reducible assumption)) | dsimp +zetaDelta only

theorem State.issueAgain_keeps {z : State} (s : State) (m : Nat) (tag : Nat) (x : MSentRec) (hk : Keeps z s) :
    Keeps z (State.issueAgain s m tag x) := by
  unfold State.issueAgain
  repeat' first
    | with_reducible
      first
      | assumption | apply Keeps.ite | apply State.pumpOne_keeps | apply State.setLink_keeps
      | fail_if_no_progress refine keeps_lit rfl rfl rfl rfl rfl rfl ?_
    | intro _ | extract_lets +onlyGivenNames t | split
    | (with_reducible apply keeps_snd (by with_reducible assumption))
    | (with_reducible apply keeps_fst (by with_reducible assumption)) | dsimp +zetaDelta only

theorem State.gotErr_keeps {z : State} (s : State) (m : Nat) (tag : Nat) (hk : Keeps z s) :
    Keeps z (State.gotErr s m tag) := by
  unfold State.gotErr
  repeat' first
    | with_reducible
      first
      | assumption | apply Keeps.ite | apply State.readFailed_keeps | apply State.trimRewritten_keeps
      | apply State.closeTrans_keeps | apply State.issueAgain_keeps | apply State.setLink_keeps
      | apply State.lastMedErr_keeps | apply State.bump_keeps | apply State.stackLost_keeps
      | fail_if_no_progress refine keeps_lit rfl rfl rfl rfl rfl rfl ?_
    | intro _ | extract_lets +onlyGivenNames t | split
    | (with_reducible apply keeps_snd (by with_reducible assumption))
    | (with_reducible apply keeps_fst (by with_reducible assumption)) | dsimp +zetaDelta only

theorem State.gotCfgr_keeps {z : State} (s : State) (m : Nat) (tag : Nat) (w : DWord) (hk : Keeps z s) :
    Keeps z (State.gotCfgr s m tag w) := by
  unfold State.gotCfgr
  repeat' first
    | with_reducible
      first
      | assumption | apply Keeps.ite | apply State.stackLost_keeps | apply State.pump_keeps | apply State.refuse_keeps
      | apply State.setLink_keeps | apply State.closeTrans_keeps
      | fail_if_no_progress refine keeps_lit rfl rfl rfl rfl rfl rfl ?_
    | intro _ | extract_lets +onlyGivenNames t | split
    | (with_reducible apply keeps_snd (by with_reducible assumption))
    | (with_reducible apply keeps_fst (by with_reducible assumption)) | dsimp +zetaDelta only

theorem State.gotHeader_keeps {z : State} (s : State) (m : Nat) (h : Nat) (hk : Keeps z s) :
    Keeps z (State.gotHeader s m h) := by
  unfold State.gotHeader
  repeat' first
    | with_reducible
      first
      | assumption | apply Keeps.ite | apply State.stackLost_keeps | apply State.gotErr_keeps
      | apply State.gotCnf_keeps
    | intro _ | extract_lets +onlyGivenNames t | split
    | (with_reducible apply keeps_snd (by with_reducible assumption))
    | (with_reducible apply keeps_fst (by with_reducible assumption)) | dsimp +zetaDelta only

theorem State.gotSlot_keeps {z : State} (s : State) (m : Nat) (x : List Byte) (hk : Keeps z s) :
    Keeps z (State.gotSlot s m x) := by
  unfold State.gotSlot
  repeat' first
    | with_reducible
      first
      | assumption | apply Keeps.ite | apply State.gotHeader_keeps | apply State.gotCfgr_keeps
      | apply State.gotRdr_keeps | (apply keeps_foldl; intro _ _ _) | (apply keeps_foldl_fst; intro _ _ _)
    | intro _ | extract_lets +onlyGivenNames t | split
    | (with_reducible apply keeps_snd (by with_reducible assumption))
    | (with_reducible apply keeps_fst (by with_reducible assumption)) | dsimp +zetaDelta only

theorem State.badFlit_keeps {z : State} (s : State) (m : Nat) (hk : Keeps z s) :
    Keeps z (State.badFlit s m) := by
  unfold State.badFlit
  repeat' first
    | with_reducible
      first
      | assumption | apply Keeps.ite | apply State.bump_keeps | apply State.setLink_keeps
      | fail_if_no_progress refine keeps_lit rfl rfl rfl rfl rfl rfl ?_
    | intro _ | extract_lets +onlyGivenNames t | split
    | (with_reducible apply keeps_snd (by with_reducible assumption))
    | (with_reducible apply keeps_fst (by with_reducible assumption)) | dsimp +zetaDelta only

theorem State.takeFlit_keeps {z : State} (s : State) (m : Nat) (hk : Keeps z s) :
    Keeps z (State.takeFlit s m) := by
  unfold State.takeFlit
  repeat' first
    | with_reducible
      first
      | assumption | apply Keeps.ite | apply State.setLink_keeps
      | fail_if_no_progress refine keeps_lit rfl rfl rfl rfl rfl rfl ?_
    | intro _ | extract_lets +onlyGivenNames t | split
    | (with_reducible apply keeps_snd (by with_reducible assumption))
    | (with_reducible apply keeps_fst (by with_reducible assumption)) | dsimp +zetaDelta only

theorem execMediaDataFlit_keeps {z : State} (ml : Fin 16) (flit : List Byte) (s : State) (hk : Keeps z s) :
    KeepsR z (execMediaDataFlit ml flit s) := by
  unfold execMediaDataFlit
  repeat' first
    | with_reducible
      first
      | assumption | apply KeepsR.next | apply Keeps.ite | apply State.gotSlot_keeps | apply State.takeFlit_keeps
      | apply State.hear_keeps | apply State.badFlit_keeps
    | intro _ | extract_lets +onlyGivenNames t | split
    | (with_reducible apply keeps_snd (by with_reducible assumption))
    | (with_reducible apply keeps_fst (by with_reducible assumption)) | dsimp +zetaDelta only

theorem execMediaFlitAck_keeps {z : State} (ml : Fin 16) (seq : BitVec 12) (s : State) (hk : Keeps z s) :
    KeepsR z (execMediaFlitAck ml seq s) := by
  unfold execMediaFlitAck
  repeat' first
    | with_reducible
      first
      | assumption | apply KeepsR.next | apply Keeps.ite | apply State.pump_keeps | apply State.setLink_keeps
      | apply State.hear_keeps | fail_if_no_progress refine keeps_lit rfl rfl rfl rfl rfl rfl ?_
    | intro _ | extract_lets +onlyGivenNames t | split
    | (with_reducible apply keeps_snd (by with_reducible assumption))
    | (with_reducible apply keeps_fst (by with_reducible assumption)) | dsimp +zetaDelta only

theorem execMediaFlitNak_keeps {z : State} (ml : Fin 16) (seq : BitVec 12) (s : State) (hk : Keeps z s) :
    KeepsR z (execMediaFlitNak ml seq s) := by
  unfold execMediaFlitNak
  repeat' first
    | with_reducible
      first
      | assumption | apply KeepsR.next | apply Keeps.ite | apply State.linkDown_keeps | apply State.bumpBy_keeps
      | apply State.setLink_keeps | apply State.hear_keeps | (apply keeps_foldl; intro _ _ _)
      | (apply keeps_foldl_fst; intro _ _ _) | fail_if_no_progress refine keeps_lit rfl rfl rfl rfl rfl rfl ?_
    | intro _ | extract_lets +onlyGivenNames t | split
    | (with_reducible apply keeps_snd (by with_reducible assumption))
    | (with_reducible apply keeps_fst (by with_reducible assumption)) | dsimp +zetaDelta only

theorem execMediaAckDue_keeps {z : State} (ml : Fin 16) (s : State) (hk : Keeps z s) :
    KeepsR z (execMediaAckDue ml s) := by
  unfold execMediaAckDue
  repeat' with_reducible first | assumption | apply KeepsR.next | apply Keeps.ite | apply State.setLink_keeps

theorem execMediaLinkSilent_keeps {z : State} (ml : Fin 16) (s : State) (hk : Keeps z s) :
    KeepsR z (execMediaLinkSilent ml s) := by
  unfold execMediaLinkSilent
  repeat' first
    | with_reducible
      first
      | assumption | apply KeepsR.next | apply Keeps.ite | apply State.linkDown_keeps
    | intro _ | extract_lets +onlyGivenNames t | split
    | (with_reducible apply keeps_snd (by with_reducible assumption))
    | (with_reducible apply keeps_fst (by with_reducible assumption)) | dsimp +zetaDelta only

theorem execRetrainDone_keeps {z : State} (ml : Fin 16) (s : State) (hk : Keeps z s) :
    KeepsR z (execRetrainDone ml s) := by
  unfold execRetrainDone
  repeat' first
    | with_reducible
      first
      | assumption | apply KeepsR.next | apply Keeps.ite | apply State.pump_keeps | apply State.setLink_keeps
      | fail_if_no_progress refine keeps_lit rfl rfl rfl rfl rfl rfl ?_
    | intro _ | extract_lets +onlyGivenNames t | split
    | (with_reducible apply keeps_snd (by with_reducible assumption))
    | (with_reducible apply keeps_fst (by with_reducible assumption)) | dsimp +zetaDelta only

theorem execRetrainTimeout_keeps {z : State} (ml : Fin 16) (s : State) (hk : Keeps z s) :
    KeepsR z (execRetrainTimeout ml s) := by
  unfold execRetrainTimeout
  repeat' first
    | with_reducible
      first
      | assumption | apply KeepsR.next | apply Keeps.ite | apply State.stackLost_keeps
    | intro _ | extract_lets +onlyGivenNames t | split
    | (with_reducible apply keeps_snd (by with_reducible assumption))
    | (with_reducible apply keeps_fst (by with_reducible assumption)) | dsimp +zetaDelta only

theorem State.inFlit_keeps {z : State} (s : State) (m : Nat) (f : State → State) (hff : ∀ (s : State), Keeps z s → Keeps z (f s)) (hk : Keeps z s) :
    Keeps z (State.inFlit s m f) := by
  unfold State.inFlit
  repeat' first
    | with_reducible
      first
      | assumption | apply Keeps.ite
    | apply hff | intro _ | extract_lets +onlyGivenNames t | split
    | (with_reducible apply keeps_snd (by with_reducible assumption))
    | (with_reducible apply keeps_fst (by with_reducible assumption)) | dsimp +zetaDelta only

theorem execRdr_keeps {z : State} (ml : Fin 16) (tag : BitVec 10) (cnt : BitVec 6) (line : List Byte) (s : State) (hk : Keeps z s) :
    KeepsR z (execRdr ml tag cnt line s) := by
  unfold execRdr
  repeat' first
    | with_reducible
      first
      | assumption | apply KeepsR.next | apply Keeps.ite | apply State.gotRdr_keeps | apply State.inFlit_keeps
    | intro _ | extract_lets +onlyGivenNames t | split
    | (with_reducible apply keeps_snd (by with_reducible assumption))
    | (with_reducible apply keeps_fst (by with_reducible assumption)) | dsimp +zetaDelta only

theorem execCnf_keeps {z : State} (ml : Fin 16) (tag : BitVec 10) (s : State) (hk : Keeps z s) :
    KeepsR z (execCnf ml tag s) := by
  unfold execCnf
  repeat' first
    | with_reducible
      first
      | assumption | apply KeepsR.next | apply Keeps.ite | apply State.gotCnf_keeps | apply State.inFlit_keeps
    | intro _ | extract_lets +onlyGivenNames t | split
    | (with_reducible apply keeps_snd (by with_reducible assumption))
    | (with_reducible apply keeps_fst (by with_reducible assumption)) | dsimp +zetaDelta only

theorem execErr_keeps {z : State} (ml : Fin 16) (tag : BitVec 10) (_reason : BitVec 6) (s : State) (hk : Keeps z s) :
    KeepsR z (execErr ml tag _reason s) := by
  unfold execErr
  repeat' first
    | with_reducible
      first
      | assumption | apply KeepsR.next | apply Keeps.ite | apply State.gotErr_keeps | apply State.inFlit_keeps
    | intro _ | extract_lets +onlyGivenNames t | split
    | (with_reducible apply keeps_snd (by with_reducible assumption))
    | (with_reducible apply keeps_fst (by with_reducible assumption)) | dsimp +zetaDelta only

theorem execCfgr_keeps {z : State} (ml : Fin 16) (tag : BitVec 10) (w : DWord) (s : State) (hk : Keeps z s) :
    KeepsR z (execCfgr ml tag w s) := by
  unfold execCfgr
  repeat' first
    | with_reducible
      first
      | assumption | apply KeepsR.next | apply Keeps.ite | apply State.gotCfgr_keeps | apply State.inFlit_keeps
    | intro _ | extract_lets +onlyGivenNames t | split
    | (with_reducible apply keeps_snd (by with_reducible assumption))
    | (with_reducible apply keeps_fst (by with_reducible assumption)) | dsimp +zetaDelta only

theorem State.holdGrounds_keeps {z : State} (s : State) (kind : Nat) (c : Instr) (hk : Keeps z s) :
    Keeps z (State.holdGrounds s kind c) := by
  unfold State.holdGrounds
  repeat' first
    | with_reducible
      first
      | assumption | apply Keeps.ite | fail_if_no_progress refine keeps_lit rfl rfl rfl rfl rfl rfl ?_
    | intro _ | extract_lets +onlyGivenNames t | split
    | (with_reducible apply keeps_snd (by with_reducible assumption))
    | (with_reducible apply keeps_fst (by with_reducible assumption)) | dsimp +zetaDelta only

theorem State.startWork_keeps {z : State} (s : State) (kind : Nat) (hk : Keeps z s) :
    Keeps z (State.startWork s kind) := by
  unfold State.startWork
  repeat' first
    | with_reducible
      first
      | assumption | apply Keeps.ite | apply State.addReq_keeps
      | fail_if_no_progress refine keeps_lit rfl rfl rfl rfl rfl rfl ?_
    | intro _ | extract_lets +onlyGivenNames t | split
    | (with_reducible apply keeps_snd (by with_reducible assumption))
    | (with_reducible apply keeps_fst (by with_reducible assumption)) | dsimp +zetaDelta only

theorem execLineRepairRequest_keeps {z : State} (line : BitVec 42) (s : State) (hk : Keeps z s) :
    KeepsR z (execLineRepairRequest line s) := by
  unfold execLineRepairRequest
  repeat' first
    | with_reducible
      first
      | assumption | apply KeepsR.next | apply Keeps.ite | apply State.tell_keeps | apply State.startWork_keeps
      | apply State.holdGrounds_keeps | fail_if_no_progress refine keeps_lit rfl rfl rfl rfl rfl rfl ?_
    | intro _ | extract_lets +onlyGivenNames t | split
    | (with_reducible apply keeps_snd (by with_reducible assumption))
    | (with_reducible apply keeps_fst (by with_reducible assumption)) | dsimp +zetaDelta only

theorem execLineRepairServe_keeps {z : State} (line : BitVec 42) (raw : List Byte) (s : State) (hk : Keeps z s) :
    KeepsR z (execLineRepairServe line raw s) := by
  unfold execLineRepairServe
  repeat' first
    | with_reducible
      first
      | assumption | apply KeepsR.next | apply Keeps.ite | apply State.tell_keeps | apply State.startWork_keeps
      | apply State.holdGrounds_keeps | fail_if_no_progress refine keeps_lit rfl rfl rfl rfl rfl rfl ?_
    | intro _ | extract_lets +onlyGivenNames t | split
    | (with_reducible apply keeps_snd (by with_reducible assumption))
    | (with_reducible apply keeps_fst (by with_reducible assumption)) | dsimp +zetaDelta only

theorem State.poisonPage_keeps {z : State} (s : State) (page : Nat) (hk : Keeps z s) :
    Keeps z (State.poisonPage s page) := by
  unfold State.poisonPage
  repeat' with_reducible
    first
    | assumption | (apply keeps_foldl; intro _ _ _) | apply State.bump_keeps | apply State.poisonLine_keeps
    | fail_if_no_progress refine keeps_lit rfl rfl rfl rfl rfl rfl ?_

theorem execLineRepairReply_keeps {z : State} (line : BitVec 42) (s : State) (hk : Keeps z s) :
    KeepsR z (execLineRepairReply line s) := by
  unfold execLineRepairReply
  repeat' first
    | with_reducible
      first
      | assumption | apply KeepsR.next | apply Keeps.ite | apply State.lastMedErr_keeps | apply State.bump_keeps
      | apply State.issue_keeps | apply State.storeLine_keeps | apply State.poisonLine_keeps
      | apply State.poisonPage_keeps | fail_if_no_progress refine keeps_lit rfl rfl rfl rfl rfl rfl ?_
    | intro _ | extract_lets +onlyGivenNames t | split
    | (with_reducible apply keeps_snd (by with_reducible assumption))
    | (with_reducible apply keeps_fst (by with_reducible assumption)) | dsimp +zetaDelta only

theorem State.dropRepairs_keeps {z : State} (s : State) (hk : Keeps z s) :
    Keeps z (State.dropRepairs s) := by
  unfold State.dropRepairs
  repeat' first
    | with_reducible
      first
      | assumption | apply Keeps.ite | apply State.poisonLine_keeps | apply State.poisonPage_keeps
      | (apply keeps_foldl; intro _ _ _) | (apply keeps_foldl_fst; intro _ _ _)
      | fail_if_no_progress refine keeps_lit rfl rfl rfl rfl rfl rfl ?_
    | intro _ | extract_lets +onlyGivenNames t | split
    | (with_reducible apply keeps_snd (by with_reducible assumption))
    | (with_reducible apply keeps_fst (by with_reducible assumption)) | dsimp +zetaDelta only

theorem execGapMove_keeps {z : State} (ml : Fin 16) (region : Fin 512) (s : State) (hk : Keeps z s) :
    KeepsR z (execGapMove ml region s) := by
  unfold execGapMove
  repeat' first
    | with_reducible
      first
      | assumption | apply KeepsR.next | apply Keeps.ite | apply State.issue_keeps | apply State.setRegion_keeps
      | fail_if_no_progress refine keeps_lit rfl rfl rfl rfl rfl rfl ?_
    | intro _ | extract_lets +onlyGivenNames t | split
    | (with_reducible apply keeps_snd (by with_reducible assumption))
    | (with_reducible apply keeps_fst (by with_reducible assumption)) | dsimp +zetaDelta only

theorem State.recordRegion_keeps {z : State} (s : State) (m : Nat) (r : Nat) (hk : Keeps z s) :
    Keeps z (State.recordRegion s m r) := by
  unfold State.recordRegion
  repeat' first
    | with_reducible
      first
      | assumption | apply Keeps.ite | apply State.journal_keeps | apply State.setRegion_keeps
      | fail_if_no_progress refine keeps_lit rfl rfl rfl rfl rfl rfl ?_
    | intro _ | extract_lets +onlyGivenNames t | split
    | (with_reducible apply keeps_snd (by with_reducible assumption))
    | (with_reducible apply keeps_fst (by with_reducible assumption)) | dsimp +zetaDelta only

theorem execRegionRecordWrite_keeps {z : State} (ml : Fin 16) (region : Fin 512) (s : State) (hk : Keeps z s) :
    KeepsR z (execRegionRecordWrite ml region s) := by
  unfold execRegionRecordWrite
  repeat' first
    | with_reducible
      first
      | assumption | apply KeepsR.next | apply Keeps.ite | apply State.recordRegion_keeps
    | intro _ | extract_lets +onlyGivenNames t | split
    | (with_reducible apply keeps_snd (by with_reducible assumption))
    | (with_reducible apply keeps_fst (by with_reducible assumption)) | dsimp +zetaDelta only

theorem State.recoverRegion_keeps {z : State} (probes : List (Nat × List (List Byte))) (s : State) (e : Nat × RegionRec) (hk : Keeps z s) :
    Keeps z (State.recoverRegion probes s e) := by
  unfold State.recoverRegion
  repeat' first
    | with_reducible
      first
      | assumption | apply Keeps.ite | apply State.recordRegion_keeps | apply State.setRegion_keeps
      | fail_if_no_progress refine keeps_lit rfl rfl rfl rfl rfl rfl ?_
    | intro _ | extract_lets +onlyGivenNames t | split
    | (with_reducible apply keeps_snd (by with_reducible assumption))
    | (with_reducible apply keeps_fst (by with_reducible assumption)) | dsimp +zetaDelta only

theorem State.scrubEnd_keeps {z : State} (s : State) (m : Nat) (hk : Keeps z s) :
    Keeps z (State.scrubEnd s m) := by
  unfold State.scrubEnd
  repeat' first
    | with_reducible
      first
      | assumption | apply Keeps.ite | apply State.setF_keeps
      | fail_if_no_progress refine keeps_lit rfl rfl rfl rfl rfl rfl ?_
    | intro _ | extract_lets +onlyGivenNames t | split
    | (with_reducible apply keeps_snd (by with_reducible assumption))
    | (with_reducible apply keeps_fst (by with_reducible assumption)) | dsimp +zetaDelta only

theorem State.scrubLines_keeps {z : State} (s : State) (m : Nat) (f : Nat) (hk : Keeps z s) :
    Keeps z (State.scrubLines s m f) := by
  unfold State.scrubLines
  repeat' first
    | with_reducible
      first
      | assumption | apply Keeps.ite | apply State.setLink_keeps | apply State.issue_keeps
      | (apply keeps_foldl; intro _ _ _) | (apply keeps_foldl_fst; intro _ _ _)
      | fail_if_no_progress refine keeps_lit rfl rfl rfl rfl rfl rfl ?_
    | intro _ | extract_lets +onlyGivenNames t | split
    | (with_reducible apply keeps_snd (by with_reducible assumption))
    | (with_reducible apply keeps_fst (by with_reducible assumption)) | dsimp +zetaDelta only

theorem execPatrolScrub_keeps {z : State} (ml : Fin 16) (s : State) (hk : Keeps z s) :
    KeepsR z (execPatrolScrub ml s) := by
  unfold execPatrolScrub
  repeat' first
    | with_reducible
      first
      | assumption | apply KeepsR.next | apply Keeps.ite | apply State.scrubLines_keeps | apply State.startWork_keeps
      | apply State.scrubEnd_keeps | apply State.holdGrounds_keeps
      | fail_if_no_progress refine keeps_lit rfl rfl rfl rfl rfl rfl ?_
    | intro _ | extract_lets +onlyGivenNames t | split
    | (with_reducible apply keeps_snd (by with_reducible assumption))
    | (with_reducible apply keeps_fst (by with_reducible assumption)) | dsimp +zetaDelta only

/-! Machine/Nand.lean -/

theorem State.setDie_keeps {z : State} (s : State) (d : Nat) (x : DieRec) (hk : Keeps z s) :
    Keeps z (State.setDie s d x) := by
  unfold State.setDie
  exact keeps_lit rfl rfl rfl rfl rfl rfl hk

theorem State.updSb_keeps {z : State} (s : State) (sb : Nat) (f : NandSbRec → NandSbRec) (hk : Keeps z s) :
    Keeps z (State.updSb s sb f) := by
  unfold State.updSb
  exact keeps_lit rfl rfl rfl rfl rfl rfl hk

theorem State.earlyWarn_keeps {z : State} (s : State) (bit : Nat) (hk : Keeps z s) :
    Keeps z (State.earlyWarn s bit) := by
  unfold State.earlyWarn
  repeat' with_reducible
    first
    | assumption | apply Keeps.ite | apply State.trigger_keeps | apply State.notify_keeps | apply State.setB_keeps

theorem State.enterRo_keeps {z : State} (s : State) (worn : Bool) (hk : Keeps z s) :
    Keeps z (State.enterRo s worn) := by
  unfold State.enterRo
  repeat' with_reducible
    first
    | assumption | apply Keeps.ite | apply State.earlyWarn_keeps
    | fail_if_no_progress refine keeps_lit rfl rfl rfl rfl rfl rfl ?_

theorem State.warnHealth_keeps {z : State} (s : State) (hk : Keeps z s) :
    Keeps z (State.warnHealth s) := by
  unfold State.warnHealth
  repeat' first
    | with_reducible
      first
      | assumption | apply Keeps.ite | apply State.earlyWarn_keeps | (apply keeps_foldl; intro _ _ _)
      | (apply keeps_foldl_fst; intro _ _ _) | fail_if_no_progress refine keeps_lit rfl rfl rfl rfl rfl rfl ?_
    | intro _ | extract_lets +onlyGivenNames t | split
    | (with_reducible apply keeps_snd (by with_reducible assumption))
    | (with_reducible apply keeps_fst (by with_reducible assumption)) | dsimp +zetaDelta only

theorem State.retireBlock_keeps {z : State} (s : State) (d : Nat) (hk : Keeps z s) :
    Keeps z (State.retireBlock s d) := by
  unfold State.retireBlock
  repeat' first
    | with_reducible
      first
      | assumption | apply Keeps.ite | apply State.enterRo_keeps | apply State.warnHealth_keeps
      | apply State.setDie_keeps | fail_if_no_progress refine keeps_lit rfl rfl rfl rfl rfl rfl ?_
    | intro _ | extract_lets +onlyGivenNames t | split
    | (with_reducible apply keeps_snd (by with_reducible assumption))
    | (with_reducible apply keeps_fst (by with_reducible assumption)) | dsimp +zetaDelta only

theorem State.growHorizon_keeps {z : State} (stream : Nat) : ∀ (n : Nat) (s : State), Keeps z s →
    Keeps z (State.growHorizon stream n s)
  | 0, _, h => h
  | n + 1, s, h => by
    unfold State.growHorizon
    split
    · exact h
    · exact State.growHorizon_keeps stream n _ (keeps_lit rfl rfl rfl rfl rfl rfl h)

theorem State.newHorizon_keeps {z : State} (s : State) (hk : Keeps z s) :
    Keeps z (State.newHorizon s) := by
  unfold State.newHorizon
  repeat' with_reducible first | assumption | (apply keeps_foldl; intro _ _ _) | apply State.growHorizon_keeps

theorem State.fillSb_keeps {z : State} (s : State) (requester : Nat) (sb : Nat) (f : NandSbRec → NandSbRec) (hk : Keeps z s) :
    Keeps z (State.fillSb s requester sb f) := by
  unfold State.fillSb
  repeat' first
    | with_reducible
      first
      | assumption | apply Keeps.ite | apply State.updSb_keeps | apply State.queueNand_keeps
      | (apply keeps_foldl; intro _ _ _) | (apply keeps_foldl_fst; intro _ _ _)
      | fail_if_no_progress refine keeps_lit rfl rfl rfl rfl rfl rfl ?_
    | intro _ | extract_lets +onlyGivenNames t | split
    | (with_reducible apply keeps_snd (by with_reducible assumption))
    | (with_reducible apply keeps_fst (by with_reducible assumption)) | dsimp +zetaDelta only

theorem State.closeRow_keeps {z : State} (s : State) (requester : Nat) (sb : Nat) (hk : Keeps z s) :
    Keeps z (State.closeRow s requester sb) := by
  unfold State.closeRow
  repeat' first
    | with_reducible
      first
      | assumption | apply Keeps.ite | apply State.fillSb_keeps
      | fail_if_no_progress refine keeps_lit rfl rfl rfl rfl rfl rfl ?_
    | intro _ | extract_lets +onlyGivenNames t | split
    | (with_reducible apply keeps_snd (by with_reducible assumption))
    | (with_reducible apply keeps_fst (by with_reducible assumption)) | dsimp +zetaDelta only

theorem State.layIn_keeps {z : State} (s : State) (requester : Nat) (sb : Nat) (kind : NandKind) (bytes : Nat → List Byte) (hk : Keeps z s) :
    Keeps z (State.layIn s requester sb kind bytes) := by
  unfold State.layIn
  repeat' first
    | with_reducible
      first
      | assumption | apply Keeps.ite | apply State.fillSb_keeps
      | fail_if_no_progress refine keeps_lit rfl rfl rfl rfl rfl rfl ?_
    | intro _ | extract_lets +onlyGivenNames t | split
    | (with_reducible apply keeps_snd (by with_reducible assumption))
    | (with_reducible apply keeps_fst (by with_reducible assumption)) | dsimp +zetaDelta only

theorem State.layOut_keeps {z : State} (s : State) (requester : Nat) (stream : Nat) (kind : NandKind) (bytes : Nat → List Byte) (hk : Keeps z s) :
    Keeps z (State.layOut s requester stream kind bytes).2 := by
  unfold State.layOut
  repeat' first
    | with_reducible
      first
      | assumption | apply Keeps.ite | apply State.layIn_keeps | apply State.updSb_keeps | apply State.closeRow_keeps
      | fail_if_no_progress refine keeps_lit rfl rfl rfl rfl rfl rfl ?_
    | intro _ | extract_lets +onlyGivenNames t | split
    | (with_reducible apply keeps_snd (by with_reducible assumption))
    | (with_reducible apply keeps_fst (by with_reducible assumption)) | dsimp +zetaDelta only

theorem execStripeRowClose_keeps {z : State} (sb : BitVec 22) (s : State) (hk : Keeps z s) :
    KeepsR z (execStripeRowClose sb s) := by
  unfold execStripeRowClose
  repeat' first
    | with_reducible
      first
      | assumption | apply KeepsR.next | apply Keeps.ite | apply State.closeRow_keeps
      | fail_if_no_progress refine keeps_lit rfl rfl rfl rfl rfl rfl ?_
    | intro _ | extract_lets +onlyGivenNames t | split
    | (with_reducible apply keeps_snd (by with_reducible assumption))
    | (with_reducible apply keeps_fst (by with_reducible assumption)) | dsimp +zetaDelta only

theorem State.setMap_keeps {z : State} (s : State) (tpn : Nat) (e : NandLocRec) (hk : Keeps z s) :
    Keeps z (State.setMap s tpn e) := by
  unfold State.setMap
  exact keeps_lit rfl rfl rfl rfl rfl rfl hk

theorem State.wantCopy_keeps {z : State} (s : State) (w : NandWantRec) (hk : Keeps z s) :
    Keeps z (State.wantCopy s w) := by
  unfold State.wantCopy
  repeat' first
    | with_reducible
      first
      | assumption | apply Keeps.ite | fail_if_no_progress refine keeps_lit rfl rfl rfl rfl rfl rfl ?_
    | intro _ | extract_lets +onlyGivenNames t | split
    | (with_reducible apply keeps_snd (by with_reducible assumption))
    | (with_reducible apply keeps_fst (by with_reducible assumption)) | dsimp +zetaDelta only

theorem State.layCopy_keeps {z : State} (s : State) (w : NandWantRec) (r : NandRec) (hk : Keeps z s) :
    Keeps z (State.layCopy s w r) := by
  unfold State.layCopy
  repeat' first
    | with_reducible
      first
      | assumption | apply Keeps.ite | apply State.wantCopy_keeps | apply State.layOut_keeps
      | fail_if_no_progress refine keeps_lit rfl rfl rfl rfl rfl rfl ?_
    | intro _ | extract_lets +onlyGivenNames t | split
    | (with_reducible apply keeps_snd (by with_reducible assumption))
    | (with_reducible apply keeps_fst (by with_reducible assumption)) | dsimp +zetaDelta only

theorem State.readCopy_keeps {z : State} (s : State) (w : NandWantRec) (page : Nat) (hk : Keeps z s) :
    Keeps z (State.readCopy s w page) := by
  unfold State.readCopy
  repeat' first
    | with_reducible
      first
      | assumption | apply Keeps.ite | apply State.askNand_keeps
      | fail_if_no_progress refine keeps_lit rfl rfl rfl rfl rfl rfl ?_
    | intro _ | extract_lets +onlyGivenNames t | split
    | (with_reducible apply keeps_snd (by with_reducible assumption))
    | (with_reducible apply keeps_fst (by with_reducible assumption)) | dsimp +zetaDelta only

theorem State.copyRec_keeps {z : State} (s : State) (requester : Nat) (stream : Nat) (sb : Nat) (r : NandRec) (hk : Keeps z s) :
    Keeps z (State.copyRec s requester stream sb r) := by
  unfold State.copyRec
  repeat' first
    | with_reducible
      first
      | assumption | apply Keeps.ite | apply State.readCopy_keeps | apply State.wantCopy_keeps
      | fail_if_no_progress refine keeps_lit rfl rfl rfl rfl rfl rfl ?_
    | intro _ | extract_lets +onlyGivenNames t | split
    | (with_reducible apply keeps_snd (by with_reducible assumption))
    | (with_reducible apply keeps_fst (by with_reducible assumption)) | dsimp +zetaDelta only

theorem State.retryCopies_keeps {z : State} (s : State) (hk : Keeps z s) :
    Keeps z (State.retryCopies s) := by
  unfold State.retryCopies
  repeat' first
    | with_reducible
      first
      | assumption | apply Keeps.ite | apply State.readCopy_keeps | apply State.wantCopy_keeps
      | apply State.layCopy_keeps | (apply keeps_foldl; intro _ _ _) | (apply keeps_foldl_fst; intro _ _ _)
      | fail_if_no_progress refine keeps_lit rfl rfl rfl rfl rfl rfl ?_
    | intro _ | extract_lets +onlyGivenNames t | split
    | (with_reducible apply keeps_snd (by with_reducible assumption))
    | (with_reducible apply keeps_fst (by with_reducible assumption)) | dsimp +zetaDelta only

theorem State.copyNow_keeps {z : State} (s : State) (e : NandLocRec) (hk : Keeps z s) :
    Keeps z (State.copyNow s e) := by
  unfold State.copyNow
  repeat' first
    | with_reducible
      first
      | assumption | apply Keeps.ite | apply State.layCopy_keeps | (apply keeps_foldl; intro _ _ _)
      | (apply keeps_foldl_fst; intro _ _ _) | fail_if_no_progress refine keeps_lit rfl rfl rfl rfl rfl rfl ?_
    | intro _ | extract_lets +onlyGivenNames t | split
    | (with_reducible apply keeps_snd (by with_reducible assumption))
    | (with_reducible apply keeps_fst (by with_reducible assumption)) | dsimp +zetaDelta only

theorem State.evacuate_keeps {z : State} (s : State) (requester : Nat) (stream : Nat) (sb : Nat) (hk : Keeps z s) :
    Keeps z (State.evacuate s requester stream sb) := by
  unfold State.evacuate
  repeat' first
    | with_reducible
      first
      | assumption | apply Keeps.ite | apply State.copyRec_keeps | apply State.updSb_keeps
      | (apply keeps_foldl; intro _ _ _) | (apply keeps_foldl_fst; intro _ _ _)
      | fail_if_no_progress refine keeps_lit rfl rfl rfl rfl rfl rfl ?_
    | intro _ | extract_lets +onlyGivenNames t | split
    | (with_reducible apply keeps_snd (by with_reducible assumption))
    | (with_reducible apply keeps_fst (by with_reducible assumption)) | dsimp +zetaDelta only

theorem State.eraseSb_keeps {z : State} (s : State) (e : Nat × NandSbRec) (hk : Keeps z s) :
    Keeps z (State.eraseSb s e) := by
  unfold State.eraseSb
  repeat' first
    | with_reducible
      first
      | assumption | apply Keeps.ite | apply State.queueNand_keeps | apply State.updSb_keeps
      | (apply keeps_foldl; intro _ _ _) | (apply keeps_foldl_fst; intro _ _ _)
      | fail_if_no_progress refine keeps_lit rfl rfl rfl rfl rfl rfl ?_
    | intro _ | extract_lets +onlyGivenNames t | split
    | (with_reducible apply keeps_snd (by with_reducible assumption))
    | (with_reducible apply keeps_fst (by with_reducible assumption)) | dsimp +zetaDelta only

theorem State.settleNand_keeps {z : State} (s : State) (hk : Keeps z s) :
    Keeps z (State.settleNand s) := by
  unfold State.settleNand
  repeat' first
    | with_reducible
      first
      | assumption | apply Keeps.ite | (apply keeps_foldl; intro _ _ _) | apply State.setMap_keeps
      | apply State.eraseSb_keeps | fail_if_no_progress refine keeps_lit rfl rfl rfl rfl rfl rfl ?_
    | intro _ | extract_lets +onlyGivenNames t | split

theorem State.writeRoot_keeps {z : State} (s : State) (hk : Keeps z s) :
    Keeps z (State.writeRoot s) := by
  unfold State.writeRoot
  repeat' first
    | with_reducible
      first
      | assumption | apply Keeps.ite | apply State.newHorizon_keeps | apply State.journal_keeps
      | fail_if_no_progress refine keeps_lit rfl rfl rfl rfl rfl rfl ?_
    | intro _ | extract_lets +onlyGivenNames t | split
    | (with_reducible apply keeps_snd (by with_reducible assumption))
    | (with_reducible apply keeps_fst (by with_reducible assumption)) | dsimp +zetaDelta only

theorem State.installRoot_keeps {z : State} (s : State) (hk : Keeps z s) :
    Keeps z (State.installRoot s) := by
  unfold State.installRoot
  repeat' first
    | with_reducible
      first
      | assumption | apply Keeps.ite | apply State.settleNand_keeps | apply State.setF_keeps
      | (apply keeps_foldl; intro _ _ _) | (apply keeps_foldl_fst; intro _ _ _)
      | fail_if_no_progress refine keeps_lit rfl rfl rfl rfl rfl rfl ?_
    | intro _ | extract_lets +onlyGivenNames t | split
    | (with_reducible apply keeps_snd (by with_reducible assumption))
    | (with_reducible apply keeps_fst (by with_reducible assumption)) | dsimp +zetaDelta only

theorem State.settleCkpt_keeps {z : State} (s : State) (hk : Keeps z s) :
    Keeps z (State.settleCkpt s) := by
  unfold State.settleCkpt
  repeat' first
    | with_reducible
      first
      | assumption | apply Keeps.ite | apply State.writeRoot_keeps | apply State.installRoot_keeps
      | fail_if_no_progress refine keeps_lit rfl rfl rfl rfl rfl rfl ?_
    | intro _ | extract_lets +onlyGivenNames t | split
    | (with_reducible apply keeps_snd (by with_reducible assumption))
    | (with_reducible apply keeps_fst (by with_reducible assumption)) | dsimp +zetaDelta only

theorem State.checkpoint_keeps {z : State} (s : State) (hk : Keeps z s) :
    Keeps z (State.checkpoint s) := by
  unfold State.checkpoint
  repeat' first
    | with_reducible
      first
      | assumption | apply Keeps.ite | apply State.settleCkpt_keeps | apply State.layOut_keeps
      | (apply keeps_foldl; intro _ _ _) | (apply keeps_foldl_fst; intro _ _ _)
      | fail_if_no_progress refine keeps_lit rfl rfl rfl rfl rfl rfl ?_
    | intro _ | extract_lets +onlyGivenNames t | split
    | (with_reducible apply keeps_snd (by with_reducible assumption))
    | (with_reducible apply keeps_fst (by with_reducible assumption)) | dsimp +zetaDelta only

theorem execMapCheckpoint_keeps {z : State} (s : State) (hk : Keeps z s) :
    KeepsR z (execMapCheckpoint s) := by
  unfold execMapCheckpoint
  repeat' first
    | with_reducible
      first
      | assumption | apply KeepsR.next | apply Keeps.ite | apply State.checkpoint_keeps | apply State.startWork_keeps
      | apply State.holdGrounds_keeps
    | intro _ | extract_lets +onlyGivenNames t | split
    | (with_reducible apply keeps_snd (by with_reducible assumption))
    | (with_reducible apply keeps_fst (by with_reducible assumption)) | dsimp +zetaDelta only

theorem execDestage_keeps {z : State} (s : State) (hk : Keeps z s) :
    KeepsR z (execDestage s) := by
  unfold execDestage
  repeat' first
    | with_reducible
      first
      | assumption | apply KeepsR.next | apply Keeps.ite | apply State.issue_keeps | apply State.startWork_keeps
      | apply State.enterRo_keeps | apply State.holdGrounds_keeps | (apply keeps_foldl; intro _ _ _)
      | (apply keeps_foldl_fst; intro _ _ _) | fail_if_no_progress refine keeps_lit rfl rfl rfl rfl rfl rfl ?_
    | intro _ | extract_lets +onlyGivenNames t | split
    | (with_reducible apply keeps_snd (by with_reducible assumption))
    | (with_reducible apply keeps_fst (by with_reducible assumption)) | dsimp +zetaDelta only

theorem State.handOver_keeps {z : State} (s : State) (hk : Keeps z s) :
    Keeps z (State.handOver s) := by
  unfold State.handOver
  repeat' first
    | with_reducible
      first
      | assumption | apply Keeps.ite | apply State.layOut_keeps | apply State.abandon_keeps
      | (apply keeps_foldl; intro _ _ _) | (apply keeps_foldl_fst; intro _ _ _)
      | fail_if_no_progress refine keeps_lit rfl rfl rfl rfl rfl rfl ?_
    | intro _ | extract_lets +onlyGivenNames t | split
    | (with_reducible apply keeps_snd (by with_reducible assumption))
    | (with_reducible apply keeps_fst (by with_reducible assumption)) | dsimp +zetaDelta only

theorem execDestageSwitch_keeps {z : State} (page : BitVec 34) (s : State) (hk : Keeps z s) :
    KeepsR z (execDestageSwitch page s) := by
  unfold execDestageSwitch
  repeat' first
    | with_reducible
      first
      | assumption | apply KeepsR.next | apply Keeps.ite
      | fail_if_no_progress refine keeps_lit rfl rfl rfl rfl rfl rfl ?_
    | intro _ | extract_lets +onlyGivenNames t | split
    | (with_reducible apply keeps_snd (by with_reducible assumption))
    | (with_reducible apply keeps_fst (by with_reducible assumption)) | dsimp +zetaDelta only

theorem State.switchDestage_keeps {z : State} (s : State) (e : Nat × DestageRec) (hk : Keeps z s) :
    Keeps z (State.switchDestage s e) := by
  unfold State.switchDestage
  repeat' first
    | with_reducible
      first
      | assumption | apply Keeps.ite | apply State.bump_keeps | apply State.journal_keeps | apply State.wantCopy_keeps
      | apply State.setMap_keeps | apply State.settleNand_keeps | apply State.abandon_keeps
      | fail_if_no_progress refine keeps_lit rfl rfl rfl rfl rfl rfl ?_
    | intro _ | extract_lets +onlyGivenNames t | split
    | (with_reducible apply keeps_snd (by with_reducible assumption))
    | (with_reducible apply keeps_fst (by with_reducible assumption)) | dsimp +zetaDelta only

theorem State.takeFrame_keeps {z : State} (s : State) (page : Nat) (repair : Bool) (cls : Cls) (hk : Keeps z s) :
    Keeps z (State.takeFrame s page repair cls) := by
  unfold State.takeFrame
  repeat' first
    | with_reducible
      first
      | assumption | apply Keeps.ite | apply State.setLink_keeps
      | fail_if_no_progress refine keeps_lit rfl rfl rfl rfl rfl rfl ?_
    | intro _ | extract_lets +onlyGivenNames t | split
    | (with_reducible apply keeps_snd (by with_reducible assumption))
    | (with_reducible apply keeps_fst (by with_reducible assumption)) | dsimp +zetaDelta only

theorem State.pourPage_keeps {z : State} (s : State) (page : Nat) (hk : Keeps z s) :
    Keeps z (State.pourPage s page) := by
  unfold State.pourPage
  repeat' first
    | with_reducible
      first
      | assumption | apply Keeps.ite | apply State.issueFor_keeps | (apply keeps_foldl; intro _ _ _)
      | (apply keeps_foldl_fst; intro _ _ _) | fail_if_no_progress refine keeps_lit rfl rfl rfl rfl rfl rfl ?_
    | intro _ | extract_lets +onlyGivenNames t | split
    | (with_reducible apply keeps_snd (by with_reducible assumption))
    | (with_reducible apply keeps_fst (by with_reducible assumption)) | dsimp +zetaDelta only

theorem State.endWriters_keeps {z : State} (s : State) (page : Nat) (code : Nat) (hk : Keeps z s) :
    Keeps z (State.endWriters s page code) := by
  unfold State.endWriters
  repeat' first
    | with_reducible
      first
      | assumption | apply Keeps.ite | apply State.endReq_keeps | apply State.commit_keeps
      | apply State.failPage_keeps | (apply keeps_foldl; intro _ _ _) | (apply keeps_foldl_fst; intro _ _ _)
      | fail_if_no_progress refine keeps_lit rfl rfl rfl rfl rfl rfl ?_
    | intro _ | extract_lets +onlyGivenNames t | split
    | (with_reducible apply keeps_snd (by with_reducible assumption))
    | (with_reducible apply keeps_fst (by with_reducible assumption)) | dsimp +zetaDelta only

theorem execPromote_keeps {z : State} (page : BitVec 34) (s : State) (hk : Keeps z s) :
    KeepsR z (execPromote page s) := by
  unfold execPromote
  repeat' first
    | with_reducible
      first
      | assumption | apply KeepsR.next | apply Keeps.ite | apply State.wantNand_keeps | apply State.pourPage_keeps
      | apply State.startWork_keeps | apply State.takeFrame_keeps | apply State.endWriters_keeps
      | apply State.noSpace_keeps | apply State.holdGrounds_keeps
      | fail_if_no_progress refine keeps_lit rfl rfl rfl rfl rfl rfl ?_
    | intro _ | extract_lets +onlyGivenNames t | split
    | (with_reducible apply keeps_snd (by with_reducible assumption))
    | (with_reducible apply keeps_fst (by with_reducible assumption)) | dsimp +zetaDelta only

theorem execPromoteSwitch_keeps {z : State} (page : BitVec 34) (s : State) (hk : Keeps z s) :
    KeepsR z (execPromoteSwitch page s) := by
  unfold execPromoteSwitch
  repeat' first
    | with_reducible
      first
      | assumption | apply KeepsR.next | apply Keeps.ite
      | fail_if_no_progress refine keeps_lit rfl rfl rfl rfl rfl rfl ?_
    | intro _ | extract_lets +onlyGivenNames t | split
    | (with_reducible apply keeps_snd (by with_reducible assumption))
    | (with_reducible apply keeps_fst (by with_reducible assumption)) | dsimp +zetaDelta only

theorem State.switchPromote_keeps {z : State} (s : State) (e : Nat × PromoteRec) (hk : Keeps z s) :
    Keeps z (State.switchPromote s e) := by
  unfold State.switchPromote
  repeat' first
    | with_reducible
      first
      | assumption | apply Keeps.ite | apply State.bump_keeps | apply State.journalFor_keeps
      | fail_if_no_progress refine keeps_lit rfl rfl rfl rfl rfl rfl ?_
    | intro _ | extract_lets +onlyGivenNames t | split
    | (with_reducible apply keeps_snd (by with_reducible assumption))
    | (with_reducible apply keeps_fst (by with_reducible assumption)) | dsimp +zetaDelta only

theorem State.readAtoms_keeps {z : State} (s : State) (e : Nat × Request) (hk : Keeps z s) :
    Keeps z (State.readAtoms s e) := by
  unfold State.readAtoms
  repeat' first
    | with_reducible
      first
      | assumption | apply Keeps.ite | apply State.readRange_keeps | apply State.updReq_keeps
      | (apply keeps_foldl; intro _ _ _) | (apply keeps_foldl_fst; intro _ _ _)
      | fail_if_no_progress refine keeps_lit rfl rfl rfl rfl rfl rfl ?_
    | intro _ | extract_lets +onlyGivenNames t | split
    | (with_reducible apply keeps_snd (by with_reducible assumption))
    | (with_reducible apply keeps_fst (by with_reducible assumption)) | dsimp +zetaDelta only

theorem State.switchPages_keeps {z : State} (s : State) (hk : Keeps z s) :
    Keeps z (State.switchPages s) := by
  unfold State.switchPages
  repeat' first
    | with_reducible
      first
      | assumption | apply Keeps.ite | apply State.readAtoms_keeps | apply State.switchPromote_keeps
      | apply State.switchDestage_keeps | (apply keeps_foldl; intro _ _ _) | (apply keeps_foldl_fst; intro _ _ _)
    | intro _ | extract_lets +onlyGivenNames t | split
    | (with_reducible apply keeps_snd (by with_reducible assumption))
    | (with_reducible apply keeps_fst (by with_reducible assumption)) | dsimp +zetaDelta only

theorem State.pageLost_keeps {z : State} (s : State) (page : Nat) (hk : Keeps z s) : Keeps z (State.pageLost s page) := by
  unfold State.pageLost
  repeat' first
    | with_reducible
      first
      | assumption | apply Keeps.ite | apply State.poisonPage_keeps | apply State.setLink_keeps
      | apply State.takeFrame_keeps | apply State.bump_keeps | (apply keeps_foldl; intro _ _ _)
      | (apply keeps_foldl_fst; intro _ _ _) | fail_if_no_progress refine keeps_lit rfl rfl rfl rfl rfl rfl ?_
    | intro _ | extract_lets +onlyGivenNames t | split
    | (with_reducible apply keeps_snd (by with_reducible assumption))
    | (with_reducible apply keeps_fst (by with_reducible assumption)) | dsimp +zetaDelta only

theorem State.endNandRead_keeps {z : State} (s : State) (page : Nat) (hk : Keeps z s) :
    Keeps z (State.endNandRead s page) := by
  unfold State.endNandRead
  repeat' first
    | with_reducible
      first
      | assumption | apply Keeps.ite | apply State.dropNand_keeps | apply State.setDie_keeps
      | (apply keeps_foldl; intro _ _ _) | (apply keeps_foldl_fst; intro _ _ _)
      | fail_if_no_progress refine keeps_lit rfl rfl rfl rfl rfl rfl ?_
    | intro _ | extract_lets +onlyGivenNames t | split
    | (with_reducible apply keeps_snd (by with_reducible assumption))
    | (with_reducible apply keeps_fst (by with_reducible assumption)) | dsimp +zetaDelta only

theorem State.failNand_keeps {z : State} (s : State) (page : Nat) (code : Nat) (hk : Keeps z s) :
    Keeps z (State.failNand s page code) := by
  unfold State.failNand
  repeat' first
    | with_reducible
      first
      | assumption | apply Keeps.ite | apply State.endWriters_keeps | apply State.failTile_keeps
      | apply State.failPage_keeps | apply State.endNandRead_keeps | (apply keeps_foldl; intro _ _ _)
      | (apply keeps_foldl_fst; intro _ _ _) | fail_if_no_progress refine keeps_lit rfl rfl rfl rfl rfl rfl ?_
    | intro _ | extract_lets +onlyGivenNames t | split
    | (with_reducible apply keeps_snd (by with_reducible assumption))
    | (with_reducible apply keeps_fst (by with_reducible assumption)) | dsimp only [id] | dsimp +zetaDelta only

theorem State.dieResult_keeps {z : State} (s : State) (d : Nat) (ok : Bool) (hk : Keeps z s) :
    Keeps z (State.dieResult s d ok) := by
  unfold State.dieResult
  repeat' first
    | with_reducible
      first
      | assumption | apply Keeps.ite | apply State.setDie_keeps
      | fail_if_no_progress refine keeps_lit rfl rfl rfl rfl rfl rfl ?_
    | intro _ | extract_lets +onlyGivenNames t | split
    | (with_reducible apply keeps_snd (by with_reducible assumption))
    | (with_reducible apply keeps_fst (by with_reducible assumption)) | dsimp +zetaDelta only

theorem State.dieDone_keeps {z : State} (s : State) (d : Nat) (ok : Bool) (hk : Keeps z s) :
    Keeps z (State.dieDone s d ok) := by
  unfold State.dieDone
  repeat' first
    | with_reducible
      first
      | assumption | apply KeepsR.next | apply Keeps.ite | apply State.setDie_keeps | apply State.dieResult_keeps
      | fail_if_no_progress refine keeps_lit rfl rfl rfl rfl rfl rfl ?_
    | intro _ | extract_lets +onlyGivenNames t | split
    | (with_reducible apply keeps_snd (by with_reducible assumption))
    | (with_reducible apply keeps_fst (by with_reducible assumption)) | dsimp +zetaDelta only

theorem State.relay_keeps {z : State} (s : State) (stream sb : Nat) (r : NandRec) (hk : Keeps z s) :
    Keeps z (State.relay s stream sb r) := by
  unfold State.relay
  repeat' first
    | with_reducible
      first
      | assumption | apply Keeps.ite | apply State.layOut_keeps
      | fail_if_no_progress refine keeps_lit rfl rfl rfl rfl rfl rfl ?_
    | intro _ | extract_lets +onlyGivenNames t | split
    | (with_reducible apply keeps_snd (by with_reducible assumption))
    | (with_reducible apply keeps_fst (by with_reducible assumption)) | dsimp +zetaDelta only

theorem State.relayOpen_keeps {z : State} (s : State) (e : Nat × NandSbRec) (hk : Keeps z s) :
    Keeps z (State.relayOpen s e) := by
  unfold State.relayOpen
  repeat' first
    | with_reducible
      first
      | assumption | apply Keeps.ite | apply State.relay_keeps | (apply keeps_foldl; intro _ _ _)
      | (apply keeps_foldl_fst; intro _ _ _)
    | intro _ | extract_lets +onlyGivenNames t | split
    | (with_reducible apply keeps_snd (by with_reducible assumption))
    | (with_reducible apply keeps_fst (by with_reducible assumption)) | dsimp +zetaDelta only

theorem State.dieFailed_keeps {z : State} (s : State) (d : Nat) (hk : Keeps z s) :
    Keeps z (State.dieFailed s d) := by
  unfold State.dieFailed
  repeat' first
    | with_reducible
      first
      | assumption | apply Keeps.ite | apply State.pageLost_keeps | apply State.copyRec_keeps
      | apply State.relayOpen_keeps | apply State.earlyWarn_keeps | apply State.setB_keeps | apply State.setDie_keeps
      | (apply keeps_foldl; intro _ _ _) | (apply keeps_foldl_fst; intro _ _ _)
      | fail_if_no_progress refine keeps_lit rfl rfl rfl rfl rfl rfl ?_
    | intro _ | extract_lets +onlyGivenNames t | split
    | (with_reducible apply keeps_snd (by with_reducible assumption))
    | (with_reducible apply keeps_fst (by with_reducible assumption)) | dsimp +zetaDelta only

theorem execDieFailed_keeps {z : State} (die : BitVec 10) (s : State) (hk : Keeps z s) :
    KeepsR z (execDieFailed die s) := by
  unfold execDieFailed
  repeat' with_reducible first | assumption | apply KeepsR.next | apply State.dieFailed_keeps

theorem State.stagePage_keeps {z : State} (s : State) (page : Nat) (evict : Bool) (hk : Keeps z s) :
    Keeps z (State.stagePage s page evict) := by
  unfold State.stagePage
  repeat' with_reducible
    first
    | assumption | apply Keeps.ite | fail_if_no_progress refine keeps_lit rfl rfl rfl rfl rfl rfl ?_

theorem State.countRead_keeps {z : State} (s : State) (x : NandSteps) (hk : Keeps z s) :
    Keeps z (State.countRead s x) := by
  unfold State.countRead
  repeat' first
    | with_reducible
      first
      | assumption | apply Keeps.ite | apply State.bumpBy_keeps | apply State.bump_keeps
      | (apply keeps_foldl; intro _ _ _) | (apply keeps_foldl_fst; intro _ _ _)
      | fail_if_no_progress refine keeps_lit rfl rfl rfl rfl rfl rfl ?_
    | intro _ | extract_lets +onlyGivenNames t | split
    | (with_reducible apply keeps_snd (by with_reducible assumption))
    | (with_reducible apply keeps_fst (by with_reducible assumption)) | dsimp +zetaDelta only

theorem State.refresh_keeps {z : State} (s : State) (e : NandLocRec) (refresh : Bool) (hk : Keeps z s) :
    Keeps z (State.refresh s e refresh) := by
  unfold State.refresh
  repeat' first
    | with_reducible
      first
      | assumption | apply Keeps.ite | apply State.copyRec_keeps | apply State.layCopy_keeps | apply State.updSb_keeps
      | (apply keeps_foldl; intro _ _ _) | (apply keeps_foldl_fst; intro _ _ _)
      | fail_if_no_progress refine keeps_lit rfl rfl rfl rfl rfl rfl ?_
    | intro _ | extract_lets +onlyGivenNames t | split
    | (with_reducible apply keeps_snd (by with_reducible assumption))
    | (with_reducible apply keeps_fst (by with_reducible assumption)) | dsimp +zetaDelta only

theorem State.serveTile_keeps {z : State} (s : State) (page : Nat) (tile : Nat) (hk : Keeps z s) :
    Keeps z (State.serveTile s page tile) := by
  unfold State.serveTile
  repeat' first
    | with_reducible
      first
      | assumption | apply Keeps.ite | apply State.takeLine_keeps | (apply keeps_foldl; intro _ _ _)
      | (apply keeps_foldl_fst; intro _ _ _) | fail_if_no_progress refine keeps_lit rfl rfl rfl rfl rfl rfl ?_
    | intro _ | extract_lets +onlyGivenNames t | split
    | (with_reducible apply keeps_snd (by with_reducible assumption))
    | (with_reducible apply keeps_fst (by with_reducible assumption)) | dsimp +zetaDelta only

theorem State.recordRead_keeps {z : State} (s : State) (page : Nat) (evict : Bool) (hk : Keeps z s) :
    Keeps z (State.recordRead s page evict) := by
  unfold State.recordRead
  repeat' first
    | with_reducible
      first
      | assumption | apply Keeps.ite | apply State.pourPage_keeps | apply State.evict_keeps
      | apply State.stagePage_keeps | apply State.serveTile_keeps | apply State.endNandRead_keeps
      | (apply keeps_foldl; intro _ _ _) | (apply keeps_foldl_fst; intro _ _ _)
      | fail_if_no_progress refine keeps_lit rfl rfl rfl rfl rfl rfl ?_
    | intro _ | extract_lets +onlyGivenNames t | split
    | (with_reducible apply keeps_snd (by with_reducible assumption))
    | (with_reducible apply keeps_fst (by with_reducible assumption)) | dsimp +zetaDelta only

theorem State.dropPage_keeps {z : State} (s : State) (p : Nat) (hk : Keeps z s) :
    Keeps z (State.dropPage s p) := by
  unfold State.dropPage
  repeat' first
    | with_reducible
      first
      | assumption | apply Keeps.ite | apply State.setLink_keeps | apply State.endNandRead_keeps
      | apply State.serveTile_keeps | (apply keeps_foldl; intro _ _ _) | (apply keeps_foldl_fst; intro _ _ _)
      | fail_if_no_progress refine keeps_lit rfl rfl rfl rfl rfl rfl ?_
    | intro _ | extract_lets +onlyGivenNames t | split
    | (with_reducible apply keeps_snd (by with_reducible assumption))
    | (with_reducible apply keeps_fst (by with_reducible assumption)) | dsimp +zetaDelta only

theorem execPageDiscard_keeps {z : State} (page : BitVec 34) (s : State) (hk : Keeps z s) :
    KeepsR z (execPageDiscard page s) := by
  unfold execPageDiscard
  repeat' first
    | with_reducible
      first
      | assumption | apply KeepsR.next | apply Keeps.ite | apply State.dropPage_keeps | apply State.unmapPage_keeps
      | fail_if_no_progress refine keeps_lit rfl rfl rfl rfl rfl rfl ?_
    | intro _ | extract_lets +onlyGivenNames t | split
    | (with_reducible apply keeps_snd (by with_reducible assumption))
    | (with_reducible apply keeps_fst (by with_reducible assumption)) | dsimp +zetaDelta only

theorem State.recordLost_keeps {z : State} (s : State) (page : Nat) (d : Nat) (hk : Keeps z s) :
    Keeps z (State.recordLost s page d) := by
  unfold State.recordLost
  repeat' first
    | with_reducible
      first
      | assumption | apply KeepsR.next | apply Keeps.ite | apply State.pageLost_keeps | apply State.report_keeps
      | apply State.failNand_keeps | apply State.dieResult_keeps
      | fail_if_no_progress refine keeps_lit rfl rfl rfl rfl rfl rfl ?_
    | intro _ | extract_lets +onlyGivenNames t | split
    | (with_reducible apply keeps_snd (by with_reducible assumption))
    | (with_reducible apply keeps_fst (by with_reducible assumption)) | dsimp +zetaDelta only

theorem State.recordGone_keeps {z : State} (s : State) (page : Nat) (d : Nat) (hk : Keeps z s) :
    Keeps z (State.recordGone s page d) := by
  unfold State.recordGone
  repeat' first
    | with_reducible
      first
      | assumption | apply Keeps.ite | apply State.copyNow_keeps | apply State.recordLost_keeps
      | fail_if_no_progress refine keeps_lit rfl rfl rfl rfl rfl rfl ?_
    | intro _ | extract_lets +onlyGivenNames t | split
    | (with_reducible apply keeps_snd (by with_reducible assumption))
    | (with_reducible apply keeps_fst (by with_reducible assumption)) | dsimp +zetaDelta only

theorem execNandReadDone_keeps {z : State} (page : BitVec 35) (steps : NandSteps) (evict : Bool) (out : NandOutcome) (s : State) (hk : Keeps z s) :
    KeepsR z (execNandReadDone page steps evict out s) := by
  unfold execNandReadDone
  repeat' first
    | with_reducible
      first
      | assumption | apply KeepsR.next | apply Keeps.ite | apply State.dieFailed_keeps | apply State.report_keeps
      | apply State.failNand_keeps | apply State.recordGone_keeps | apply State.refresh_keeps
      | apply State.copyNow_keeps | apply State.evict_keeps | apply State.recordRead_keeps
      | apply State.dieResult_keeps | apply State.countRead_keeps
      | fail_if_no_progress refine keeps_lit rfl rfl rfl rfl rfl rfl ?_
    | intro _ | extract_lets +onlyGivenNames t | split
    | (with_reducible apply keeps_snd (by with_reducible assumption))
    | (with_reducible apply keeps_fst (by with_reducible assumption)) | dsimp +zetaDelta only

theorem execNandReadyTimeout_keeps {z : State} (page : BitVec 35) (s : State) (hk : Keeps z s) :
    KeepsR z (execNandReadyTimeout page s) := by
  unfold execNandReadyTimeout
  repeat' first
    | with_reducible
      first
      | assumption | apply KeepsR.next | apply Keeps.ite | apply State.report_keeps | apply State.failNand_keeps
    | intro _ | extract_lets +onlyGivenNames t | split
    | (with_reducible apply keeps_snd (by with_reducible assumption))
    | (with_reducible apply keeps_fst (by with_reducible assumption)) | dsimp +zetaDelta only

theorem execNandSuspend_keeps {z : State} (die : BitVec 10) (s : State) (hk : Keeps z s) :
    KeepsR z (execNandSuspend die s) := by
  unfold execNandSuspend
  repeat' first
    | with_reducible
      first
      | assumption | apply KeepsR.next | apply Keeps.ite | apply State.pumpNand_keeps | apply State.setDie_keeps
      | fail_if_no_progress refine keeps_lit rfl rfl rfl rfl rfl rfl ?_
    | intro _ | extract_lets +onlyGivenNames t | split
    | (with_reducible apply keeps_snd (by with_reducible assumption))
    | (with_reducible apply keeps_fst (by with_reducible assumption)) | dsimp +zetaDelta only

theorem State.relayRow_keeps {z : State} (s : State) (sb : Nat) (row : Nat) (x : NandSbRec) (hk : Keeps z s) :
    Keeps z (State.relayRow s sb row x) := by
  unfold State.relayRow
  repeat' first
    | with_reducible
      first
      | assumption | apply Keeps.ite | apply State.relay_keeps | (apply keeps_foldl; intro _ _ _)
      | (apply keeps_foldl_fst; intro _ _ _)
    | intro _ | extract_lets +onlyGivenNames t | split
    | (with_reducible apply keeps_snd (by with_reducible assumption))
    | (with_reducible apply keeps_fst (by with_reducible assumption)) | dsimp +zetaDelta only

theorem State.programFailed_keeps {z : State} (s : State) (sb : Nat) (page : Nat) (d : Nat) (x : NandSbRec) (hk : Keeps z s) :
    Keeps z (State.programFailed s sb page d x) := by
  unfold State.programFailed
  repeat' first
    | with_reducible
      first
      | assumption | apply Keeps.ite | apply State.evacuate_keeps | apply State.dieFailed_keeps
      | apply State.relayRow_keeps | apply State.closeRow_keeps | apply State.updSb_keeps
      | apply State.earlyWarn_keeps | apply State.retireBlock_keeps | apply State.dieDone_keeps
      | apply State.bump_keeps | fail_if_no_progress refine keeps_lit rfl rfl rfl rfl rfl rfl ?_
    | intro _ | extract_lets +onlyGivenNames t | split
    | (with_reducible apply keeps_snd (by with_reducible assumption))
    | (with_reducible apply keeps_fst (by with_reducible assumption)) | dsimp +zetaDelta only

theorem execNandProgramDone_keeps {z : State} (sb : BitVec 22) (page : BitVec 17) (ok : Bool) (s : State) (hk : Keeps z s) :
    KeepsR z (execNandProgramDone sb page ok s) := by
  unfold execNandProgramDone
  repeat' first
    | with_reducible
      first
      | assumption | apply KeepsR.next | apply Keeps.ite | apply State.settleCkpt_keeps | apply State.settleNand_keeps
      | apply State.programFailed_keeps | apply State.dieDone_keeps | apply State.updSb_keeps
      | apply State.dropNand_keeps | fail_if_no_progress refine keeps_lit rfl rfl rfl rfl rfl rfl ?_
    | intro _ | extract_lets +onlyGivenNames t | split
    | (with_reducible apply keeps_snd (by with_reducible assumption))
    | (with_reducible apply keeps_fst (by with_reducible assumption)) | dsimp +zetaDelta only

theorem execNandEraseDone_keeps {z : State} (sb : BitVec 22) (bad : Option (BitVec 10)) (s : State) (hk : Keeps z s) :
    KeepsR z (execNandEraseDone sb bad s) := by
  unfold execNandEraseDone
  repeat' first
    | with_reducible
      first
      | assumption | apply KeepsR.next | apply Keeps.ite | apply State.warnHealth_keeps | apply State.dieFailed_keeps
      | apply State.retireBlock_keeps | apply State.dieDone_keeps | apply State.bump_keeps
      | apply State.dropNand_keeps | (apply keeps_foldl; intro _ _ _) | (apply keeps_foldl_fst; intro _ _ _)
      | fail_if_no_progress refine keeps_lit rfl rfl rfl rfl rfl rfl ?_
    | intro _ | extract_lets +onlyGivenNames t | split
    | (with_reducible apply keeps_snd (by with_reducible assumption))
    | (with_reducible apply keeps_fst (by with_reducible assumption)) | dsimp +zetaDelta only

theorem execFold_keeps {z : State} (s : State) (hk : Keeps z s) :
    KeepsR z (execFold s) := by
  unfold execFold
  repeat' first
    | with_reducible
      first
      | assumption | apply KeepsR.next | apply Keeps.ite | apply State.settleNand_keeps | apply State.evacuate_keeps
      | fail_if_no_progress refine keeps_lit rfl rfl rfl rfl rfl rfl ?_
    | intro _ | extract_lets +onlyGivenNames t | split
    | (with_reducible apply keeps_snd (by with_reducible assumption))
    | (with_reducible apply keeps_fst (by with_reducible assumption)) | dsimp +zetaDelta only

theorem execGarbageCollection_keeps {z : State} (s : State) (hk : Keeps z s) :
    KeepsR z (execGarbageCollection s) := by
  unfold execGarbageCollection
  repeat' first
    | with_reducible
      first
      | assumption | apply KeepsR.next | apply Keeps.ite | apply State.enterRo_keeps | apply State.settleNand_keeps
      | apply State.evacuate_keeps | (apply keeps_foldl; intro _ _ _) | (apply keeps_foldl_fst; intro _ _ _)
      | fail_if_no_progress refine keeps_lit rfl rfl rfl rfl rfl rfl ?_
    | intro _ | extract_lets +onlyGivenNames t | split
    | (with_reducible apply keeps_snd (by with_reducible assumption))
    | (with_reducible apply keeps_fst (by with_reducible assumption)) | dsimp +zetaDelta only

theorem execWearRelocation_keeps {z : State} (s : State) (hk : Keeps z s) :
    KeepsR z (execWearRelocation s) := by
  unfold execWearRelocation
  repeat' first
    | with_reducible
      first
      | assumption | apply KeepsR.next | apply Keeps.ite | apply State.settleNand_keeps | apply State.evacuate_keeps
      | fail_if_no_progress refine keeps_lit rfl rfl rfl rfl rfl rfl ?_
    | intro _ | extract_lets +onlyGivenNames t | split
    | (with_reducible apply keeps_snd (by with_reducible assumption))
    | (with_reducible apply keeps_fst (by with_reducible assumption)) | dsimp +zetaDelta only

theorem execBackgroundScan_keeps {z : State} (s : State) (hk : Keeps z s) :
    KeepsR z (execBackgroundScan s) := by
  unfold execBackgroundScan
  repeat' first
    | with_reducible
      first
      | assumption | apply KeepsR.next | apply Keeps.ite | apply State.askNand_keeps | apply State.startWork_keeps
      | apply State.holdGrounds_keeps | fail_if_no_progress refine keeps_lit rfl rfl rfl rfl rfl rfl ?_
    | intro _ | extract_lets +onlyGivenNames t | split
    | (with_reducible apply keeps_snd (by with_reducible assumption))
    | (with_reducible apply keeps_fst (by with_reducible assumption)) | dsimp +zetaDelta only

theorem execTierFormat_keeps {z : State} (h : CmdHead) (s : State) (hk : Keeps z s) :
    KeepsR z (execTierFormat h s) := by
  unfold execTierFormat
  repeat' first
    | with_reducible
      first
      | assumption | apply KeepsR.next | apply Keeps.ite | apply State.settleNand_keeps | apply State.writeRoot_keeps
      | apply State.setDie_keeps | apply State.command_keeps | (apply keeps_foldl; intro _ _ _)
      | (apply keeps_foldl_fst; intro _ _ _) | fail_if_no_progress refine keeps_lit rfl rfl rfl rfl rfl rfl ?_
    | intro _ | extract_lets +onlyGivenNames t | split
    | (with_reducible apply keeps_snd (by with_reducible assumption))
    | (with_reducible apply keeps_fst (by with_reducible assumption)) | dsimp +zetaDelta only

theorem State.showNand_keeps {z : State} (s : State) (hk : Keeps z s) :
    Keeps z (State.showNand s) := by
  unfold State.showNand
  repeat' with_reducible first | assumption | apply Keeps.ite | apply State.setReg_keeps | apply State.setPair_keeps

theorem State.nandFrame_keeps {z : State} (s : State) (hk : Keeps z s) :
    Keeps z (State.nandFrame s) := by
  unfold State.nandFrame
  repeat' first
    | with_reducible
      first
      | assumption | apply Keeps.ite | apply State.warnHealth_keeps | apply State.setF_keeps
      | (apply keeps_foldl; intro _ _ _) | (apply keeps_foldl_fst; intro _ _ _)
      | fail_if_no_progress refine keeps_lit rfl rfl rfl rfl rfl rfl ?_
    | intro _ | extract_lets +onlyGivenNames t | split
    | (with_reducible apply keeps_snd (by with_reducible assumption))
    | (with_reducible apply keeps_fst (by with_reducible assumption)) | dsimp +zetaDelta only

theorem State.nandBoundary_keeps {z : State} (s : State) (hk : Keeps z s) :
    Keeps z (State.nandBoundary s) := by
  unfold State.nandBoundary
  repeat' first
    | with_reducible
      first
      | assumption | apply Keeps.ite | apply State.handOver_keeps | apply State.settleCkpt_keeps
      | apply State.settleNand_keeps | apply State.retryCopies_keeps
    | intro _ | extract_lets +onlyGivenNames t | split
    | (with_reducible apply keeps_snd (by with_reducible assumption))
    | (with_reducible apply keeps_fst (by with_reducible assumption)) | dsimp +zetaDelta only

theorem State.nandMinute_keeps {z : State} (s : State) (hk : Keeps z s) :
    Keeps z (State.nandMinute s) := by
  unfold State.nandMinute
  repeat' with_reducible
    first
    | assumption | apply Keeps.ite | apply State.bump_keeps | apply State.setF_keeps | apply State.earlyWarn_keeps
    | fail_if_no_progress refine keeps_lit rfl rfl rfl rfl rfl rfl ?_

theorem State.replayTier_keeps {z : State} (s : State) (hk : Keeps z s) :
    Keeps z (State.replayTier s) := by
  unfold State.replayTier
  repeat' first
    | with_reducible
      first
      | assumption | apply Keeps.ite | (apply keeps_foldl; intro _ _ _) | (apply keeps_foldl_fst; intro _ _ _)
      | fail_if_no_progress refine keeps_lit rfl rfl rfl rfl rfl rfl ?_
    | intro _ | extract_lets +onlyGivenNames t | split
    | (with_reducible apply keeps_snd (by with_reducible assumption))
    | (with_reducible apply keeps_fst (by with_reducible assumption)) | dsimp +zetaDelta only

theorem State.emptyTier_keeps {z : State} (s : State) (hk : Keeps z s) :
    Keeps z (State.emptyTier s) := by
  unfold State.emptyTier
  repeat' first
    | with_reducible
      first
      | assumption | apply Keeps.ite | fail_if_no_progress refine keeps_lit rfl rfl rfl rfl rfl rfl ?_
    | intro _ | extract_lets +onlyGivenNames t | split
    | (with_reducible apply keeps_snd (by with_reducible assumption))
    | (with_reducible apply keeps_fst (by with_reducible assumption)) | dsimp +zetaDelta only

theorem State.nandHold_keeps {z : State} (s : State) (hk : Keeps z s) :
    Keeps z (State.nandHold s) := by
  unfold State.nandHold
  repeat' first
    | with_reducible
      first
      | assumption | apply Keeps.ite | apply State.checkpoint_keeps | apply State.closeRow_keeps
      | (apply keeps_foldl; intro _ _ _) | (apply keeps_foldl_fst; intro _ _ _)
    | intro _ | extract_lets +onlyGivenNames t | split
    | (with_reducible apply keeps_snd (by with_reducible assumption))
    | (with_reducible apply keeps_fst (by with_reducible assumption)) | dsimp +zetaDelta only

/-! Machine/Dram.lean -/

theorem State.setDram_keeps {z : State} (s : State) (c : Nat) (x : DramChRec) (hk : Keeps z s) :
    Keeps z (State.setDram s c x) := by
  unfold State.setDram
  exact keeps_lit rfl rfl rfl rfl rfl rfl hk

theorem State.freeze_keeps {z : State} (s : State) (cause : Nat) (ch : Nat) (port : Nat) (cls : Nat) (word : Nat) (syndrome : Nat) (addr : Nat) (hk : Keeps z s) :
    Keeps z (State.freeze s cause ch port cls word syndrome addr) := by
  unfold State.freeze
  repeat' with_reducible
    first
    | assumption | apply Keeps.ite | apply State.setB_keeps | apply State.setReg_keeps | apply State.setPair_keeps
    | apply State.report_keeps | fail_if_no_progress refine keeps_lit rfl rfl rfl rfl rfl rfl ?_

theorem State.queueUe_keeps {z : State} (s : State) (item : Nat) (wrong : BitVec 80) (hk : Keeps z s) :
    Keeps z (State.queueUe s item wrong) := by
  unfold State.queueUe
  repeat' first
    | with_reducible
      first
      | assumption | apply Keeps.ite | apply State.freeze_keeps
      | fail_if_no_progress refine keeps_lit rfl rfl rfl rfl rfl rfl ?_
    | intro _ | extract_lets +onlyGivenNames t | split
    | (with_reducible apply keeps_snd (by with_reducible assumption))
    | (with_reducible apply keeps_fst (by with_reducible assumption)) | dsimp +zetaDelta only

theorem execCaParityAlert_keeps {z : State} (ch : Fin 6) (port : Fin 12) (cls : Fin 4) (addr : BitVec 40) (s : State) (hk : Keeps z s) :
    KeepsR z (execCaParityAlert ch port cls addr s) := by
  unfold execCaParityAlert
  repeat' with_reducible first | assumption | apply KeepsR.next | apply Keeps.ite | apply State.freeze_keeps

theorem State.present_keeps {z : State} (s : State) (r : DramReq) (hk : Keeps z s) :
    Keeps z (State.present s r) := by
  unfold State.present
  repeat' with_reducible first | assumption | apply Keeps.ite | apply State.freeze_keeps | apply State.setDram_keeps

theorem State.deliver_keeps {z : State} (s : State) (r : DramReqRec) (words : List DWord) (hk : Keeps z s) :
    Keeps z (State.deliver s r words) := by
  unfold State.deliver
  exact keeps_lit rfl rfl rfl rfl rfl rfl hk

theorem State.freeWords_keeps {z : State} : ∀ (n : Nat) (s : State), Keeps z s → Keeps z (State.freeWords s n).2
  | 0, _, h => h
  | n + 1, s, h => by
    unfold State.freeWords
    exact State.freeWords_keeps n _ (keeps_lit rfl rfl rfl rfl rfl rfl h)

theorem State.lineWords_keeps {z : State} (s : State) (l : Nat) (hk : Keeps z s) :
    Keeps z (State.lineWords s l).2 := by
  unfold State.lineWords
  repeat' first
    | with_reducible
      first
      | assumption | apply State.freeWords_keeps | fail_if_no_progress refine keeps_lit rfl rfl rfl rfl rfl rfl ?_
    | extract_lets +onlyGivenNames t | split

theorem State.dramEnter_keeps {z : State} (s : State) (c : Nat) (r : DramReqRec) (hk : Keeps z s) :
    Keeps z (State.dramEnter s c r) := by
  unfold State.dramEnter
  repeat' first
    | with_reducible
      first
      | assumption | apply Keeps.ite | apply State.deliver_keeps | apply State.setDram_keeps | apply State.bump_keeps
      | apply State.lineWords_keeps | fail_if_no_progress refine keeps_lit rfl rfl rfl rfl rfl rfl ?_
    | intro _ | extract_lets +onlyGivenNames t | split
    | (with_reducible apply keeps_snd (by with_reducible assumption))
    | (with_reducible apply keeps_fst (by with_reducible assumption)) | dsimp +zetaDelta only

theorem execDramRequestAccept_keeps {z : State} (ch : Fin 6) (slot : Fin 64) (arrivals : List DramReq) (s : State) (hk : Keeps z s) :
    KeepsR z (execDramRequestAccept ch slot arrivals s) := by
  unfold execDramRequestAccept
  repeat' first
    | with_reducible
      first
      | assumption | apply KeepsR.next | apply Keeps.ite | apply State.dramEnter_keeps | apply State.setDram_keeps
      | apply State.present_keeps | (apply keeps_foldl; intro _ _ _) | (apply keeps_foldl_fst; intro _ _ _)
      | fail_if_no_progress refine keeps_lit rfl rfl rfl rfl rfl rfl ?_
    | intro _ | extract_lets +onlyGivenNames t | split
    | (with_reducible apply keeps_snd (by with_reducible assumption))
    | (with_reducible apply keeps_fst (by with_reducible assumption)) | dsimp +zetaDelta only

theorem State.dramDrain_keeps {z : State} (s : State) (c : Nat) (hk : Keeps z s) :
    Keeps z (State.dramDrain s c) := by
  unfold State.dramDrain
  repeat' with_reducible first | assumption | apply Keeps.ite | apply State.setDram_keeps

theorem State.openRow_keeps {z : State} (s : State) (c : Nat) (r : DramReqRec) (neighbour : Bool) (hk : Keeps z s) :
    Keeps z (State.openRow s c r neighbour) := by
  unfold State.openRow
  repeat' first
    | with_reducible
      first
      | assumption | apply Keeps.ite | apply State.setDram_keeps | apply State.bump_keeps
      | fail_if_no_progress refine keeps_lit rfl rfl rfl rfl rfl rfl ?_
    | intro _ | extract_lets +onlyGivenNames t | split
    | (with_reducible apply keeps_snd (by with_reducible assumption))
    | (with_reducible apply keeps_fst (by with_reducible assumption)) | dsimp +zetaDelta only

theorem State.useDramSlot_keeps {z : State} (s : State) (c : Nat) (slot : Nat) (hk : Keeps z s) :
    Keeps z (State.useDramSlot s c slot) := by
  unfold State.useDramSlot
  repeat' first
    | with_reducible
      first
      | assumption | apply Keeps.ite | fail_if_no_progress refine keeps_lit rfl rfl rfl rfl rfl rfl ?_
    | intro _ | extract_lets +onlyGivenNames t | split
    | (with_reducible apply keeps_snd (by with_reducible assumption))
    | (with_reducible apply keeps_fst (by with_reducible assumption)) | dsimp +zetaDelta only

theorem State.dramIssue_keeps {z : State} (s : State) (c : Nat) (slot : Nat) (r : DramReqRec) (neighbour : Bool) (hk : Keeps z s) :
    Keeps z (State.dramIssue s c slot r neighbour) := by
  unfold State.dramIssue
  repeat' first
    | with_reducible
      first
      | assumption | apply Keeps.ite | apply State.lineWords_keeps | apply State.useRis_keeps
      | apply State.setDram_keeps | apply State.useDramSlot_keeps | apply State.openRow_keeps
      | fail_if_no_progress refine keeps_lit rfl rfl rfl rfl rfl rfl ?_
    | intro _ | extract_lets +onlyGivenNames t | split
    | (with_reducible apply keeps_snd (by with_reducible assumption))
    | (with_reducible apply keeps_fst (by with_reducible assumption)) | dsimp +zetaDelta only

theorem execDramColumnIssue_keeps {z : State} (ch : Fin 6) (slot : Fin 64) (neighbour : Bool) (s : State)
    (hk : Keeps z s) : KeepsR z (execDramColumnIssue ch slot neighbour s) := by
  unfold execDramColumnIssue
  repeat' first
    | with_reducible
      first
      | assumption | apply KeepsR.next | apply Keeps.ite | apply State.dramIssue_keeps | apply State.dramDrain_keeps
      | fail_if_no_progress refine keeps_lit rfl rfl rfl rfl rfl rfl ?_
    | intro _ | extract_lets +onlyGivenNames t | split
    | (with_reducible apply keeps_snd (by with_reducible assumption))
    | (with_reducible apply keeps_fst (by with_reducible assumption)) | dsimp +zetaDelta only

theorem State.finishMerge_keeps {z : State} (s : State) (c : Nat) (r : DramReqRec) (words : List DWord) (hk : Keeps z s) :
    Keeps z (State.finishMerge s c r words) := by
  unfold State.finishMerge
  repeat' first
    | with_reducible
      first
      | assumption | apply Keeps.ite | apply State.deliver_keeps | apply State.setDram_keeps
      | (apply keeps_foldl; intro _ _ _) | (apply keeps_foldl_fst; intro _ _ _)
      | fail_if_no_progress refine keeps_lit rfl rfl rfl rfl rfl rfl ?_
    | intro _ | extract_lets +onlyGivenNames t | split
    | (with_reducible apply keeps_snd (by with_reducible assumption))
    | (with_reducible apply keeps_fst (by with_reducible assumption)) | dsimp +zetaDelta only

theorem State.writeBack_keeps {z : State} (s : State) (c : Nat) (r : DramReqRec) (hk : Keeps z s) :
    Keeps z (State.writeBack s c r) := by
  unfold State.writeBack
  repeat' with_reducible first | assumption | apply Keeps.ite | apply State.setDram_keeps

theorem State.readDone_keeps {z : State} (s : State) (c : Nat) (r : DramReqRec) (words : List DWord) (hk : Keeps z s) :
    Keeps z (State.readDone s c r words) := by
  unfold State.readDone
  repeat' first
    | with_reducible
      first
      | assumption | apply Keeps.ite | apply State.deliver_keeps | apply State.finishMerge_keeps
    | intro _ | extract_lets +onlyGivenNames t | split
    | (with_reducible apply keeps_snd (by with_reducible assumption))
    | (with_reducible apply keeps_fst (by with_reducible assumption)) | dsimp +zetaDelta only

theorem execDramReadReturn_keeps {z : State} (ch : Fin 6) (wrong : List (BitVec 80)) (s : State) (hk : Keeps z s) :
    KeepsR z (execDramReadReturn ch wrong s) := by
  unfold execDramReadReturn
  repeat' first
    | with_reducible
      first
      | assumption | apply KeepsR.next | apply Keeps.ite | apply State.readDone_keeps | apply State.writeBack_keeps
      | apply State.bumpBy_keeps | apply State.freeze_keeps | apply State.bump_keeps | apply State.setDram_keeps
      | fail_if_no_progress refine keeps_lit rfl rfl rfl rfl rfl rfl ?_
    | intro _ | extract_lets +onlyGivenNames t | split
    | (with_reducible apply keeps_snd (by with_reducible assumption))
    | (with_reducible apply keeps_fst (by with_reducible assumption)) | dsimp +zetaDelta only

theorem State.workOff_keeps {z : State} (s : State) (c : Nat) (hk : Keeps z s) :
    Keeps z (State.workOff s c) := by
  unfold State.workOff
  repeat' first
    | with_reducible
      first
      | assumption | apply Keeps.ite | apply State.setDram_keeps | apply State.lineWords_keeps
      | apply State.readDone_keeps | (apply keeps_foldl; intro _ _ _) | (apply keeps_foldl_fst; intro _ _ _)
      | fail_if_no_progress refine keeps_lit rfl rfl rfl rfl rfl rfl ?_
    | intro _ | extract_lets +onlyGivenNames t | split
    | (with_reducible apply keeps_snd (by with_reducible assumption))
    | (with_reducible apply keeps_fst (by with_reducible assumption)) | dsimp +zetaDelta only

theorem State.selfRefresh_keeps {z : State} (s : State) (c : Nat) (hk : Keeps z s) :
    Keeps z (State.selfRefresh s c) := by
  unfold State.selfRefresh
  repeat' first
    | with_reducible
      first
      | assumption | apply Keeps.ite | apply State.bumpBy_keeps | apply State.setDram_keeps | apply State.drain_keeps
      | apply State.workOff_keeps | apply State.dramEnter_keeps | (apply keeps_foldl; intro _ _ _)
      | (apply keeps_foldl_fst; intro _ _ _) | fail_if_no_progress refine keeps_lit rfl rfl rfl rfl rfl rfl ?_
    | intro _ | extract_lets +onlyGivenNames t | split
    | (with_reducible apply keeps_snd (by with_reducible assumption))
    | (with_reducible apply keeps_fst (by with_reducible assumption)) | dsimp +zetaDelta only

theorem State.refreshNeighbour_keeps {z : State} (s : State) (c : Nat) (bank : Nat) (rest : List (Nat × Nat)) (hk : Keeps z s) :
    Keeps z (State.refreshNeighbour s c bank rest) := by
  unfold State.refreshNeighbour
  repeat' first
    | with_reducible
      first
      | assumption | apply Keeps.ite | apply State.bump_keeps | apply State.setDram_keeps
      | fail_if_no_progress refine keeps_lit rfl rfl rfl rfl rfl rfl ?_
    | intro _ | extract_lets +onlyGivenNames t | split
    | (with_reducible apply keeps_snd (by with_reducible assumption))
    | (with_reducible apply keeps_fst (by with_reducible assumption)) | dsimp +zetaDelta only

theorem execRefresh_keeps {z : State} (ch : Fin 6) (slot : Fin 64) (s : State) (hk : Keeps z s) :
    KeepsR z (execRefresh ch slot s) := by
  unfold execRefresh
  repeat' first
    | with_reducible
      first
      | assumption | apply KeepsR.next | apply Keeps.ite | apply State.bump_keeps | apply State.setDram_keeps
      | apply State.refreshNeighbour_keeps | apply State.useDramSlot_keeps
      | fail_if_no_progress refine keeps_lit rfl rfl rfl rfl rfl rfl ?_
    | intro _ | extract_lets +onlyGivenNames t | split
    | (with_reducible apply keeps_snd (by with_reducible assumption))
    | (with_reducible apply keeps_fst (by with_reducible assumption)) | dsimp +zetaDelta only

theorem execZqCalibration_keeps {z : State} (ch : Fin 6) (rank : Fin 2) (s : State) (hk : Keeps z s) :
    KeepsR z (execZqCalibration ch rank s) := by
  unfold execZqCalibration
  repeat' with_reducible first | assumption | apply KeepsR.next | apply Keeps.ite | apply State.setDram_keeps

theorem execRowIdleClose_keeps {z : State} (ch : Fin 6) (bank : Fin 64) (cycle : Fin 1025) (s : State) (hk : Keeps z s) :
    KeepsR z (execRowIdleClose ch bank cycle s) := by
  unfold execRowIdleClose
  repeat' first
    | with_reducible
      first
      | assumption | apply KeepsR.next | apply Keeps.ite | apply State.setDram_keeps
      | fail_if_no_progress refine keeps_lit rfl rfl rfl rfl rfl rfl ?_
    | intro _ | extract_lets +onlyGivenNames t | split
    | (with_reducible apply keeps_snd (by with_reducible assumption))
    | (with_reducible apply keeps_fst (by with_reducible assumption)) | dsimp +zetaDelta only

theorem execDramScrub_keeps {z : State} (s : State) (hk : Keeps z s) :
    KeepsR z (execDramScrub s) := by
  unfold execDramScrub
  repeat' first
    | with_reducible
      first
      | assumption | apply KeepsR.next | apply Keeps.ite | apply State.setF_keeps | apply State.present_keeps
      | fail_if_no_progress refine keeps_lit rfl rfl rfl rfl rfl rfl ?_
    | intro _ | extract_lets +onlyGivenNames t | split
    | (with_reducible apply keeps_snd (by with_reducible assumption))
    | (with_reducible apply keeps_fst (by with_reducible assumption)) | dsimp +zetaDelta only

theorem State.dramTick_keeps {z : State} (s : State) (hk : Keeps z s) :
    Keeps z (State.dramTick s) := by
  unfold State.dramTick
  repeat' with_reducible
    first
    | assumption | apply Keeps.ite | (apply keeps_foldl; intro _ _ _) | apply State.setReg_keeps
    | fail_if_no_progress refine keeps_lit rfl rfl rfl rfl rfl rfl ?_

/-! Machine/Clock.lean -/

theorem State.steer_keeps {z : State} (s : State) (d : Int) (hk : Keeps z s) :
    Keeps z (State.steer s d) := by
  unfold State.steer
  repeat' first
    | with_reducible
      first
      | assumption | apply Keeps.ite | apply State.trigger_keeps | apply State.notify_keeps | apply State.setB_keeps
      | fail_if_no_progress refine keeps_lit rfl rfl rfl rfl rfl rfl ?_
    | intro _ | extract_lets +onlyGivenNames t | split
    | (with_reducible apply keeps_snd (by with_reducible assumption))
    | (with_reducible apply keeps_fst (by with_reducible assumption)) | dsimp +zetaDelta only

theorem State.loadTick_keeps {z : State} (s : State) (v : Nat) (hk : Keeps z s) :
    Keeps z (State.loadTick s v) := by
  unfold State.loadTick
  repeat' first
    | with_reducible
      first
      | assumption | apply Keeps.ite | apply State.setB_keeps
      | fail_if_no_progress refine keeps_lit rfl rfl rfl rfl rfl rfl ?_
    | intro _ | extract_lets +onlyGivenNames t | split
    | (with_reducible apply keeps_snd (by with_reducible assumption))
    | (with_reducible apply keeps_fst (by with_reducible assumption)) | dsimp +zetaDelta only

theorem State.gotPhase_keeps {z : State} (s : State) (d : Int) (hk : Keeps z s) :
    Keeps z (State.gotPhase s d) := by
  unfold State.gotPhase
  repeat' first
    | with_reducible
      first
      | assumption | apply Keeps.ite | apply State.steer_keeps | apply State.setB_keeps | apply State.setReg_keeps
      | fail_if_no_progress refine keeps_lit rfl rfl rfl rfl rfl rfl ?_
    | intro _ | extract_lets +onlyGivenNames t | split
    | (with_reducible apply keeps_snd (by with_reducible assumption))
    | (with_reducible apply keeps_fst (by with_reducible assumption)) | dsimp +zetaDelta only

theorem execPpsEdge_keeps {z : State} (falling : Bool) (cycle : Fin 1025) (s : State) (hk : Keeps z s) :
    KeepsR z (execPpsEdge falling cycle s) := by
  unfold execPpsEdge
  repeat' first
    | with_reducible
      first
      | assumption | apply KeepsR.next | apply Keeps.ite | apply State.gotPhase_keeps | apply State.loadTick_keeps
      | apply State.notify_keeps | apply State.setB_keeps
      | fail_if_no_progress refine keeps_lit rfl rfl rfl rfl rfl rfl ?_
    | intro _ | extract_lets +onlyGivenNames t | split
    | (with_reducible apply keeps_snd (by with_reducible assumption))
    | (with_reducible apply keeps_fst (by with_reducible assumption)) | dsimp +zetaDelta only

theorem execLoadArm_keeps {z : State} (s : State) (hk : Keeps z s) :
    KeepsR z (execLoadArm s) := by
  unfold execLoadArm
  repeat' with_reducible first | assumption | apply KeepsR.next | apply State.setB_keeps

theorem execPpsLost_keeps {z : State} (s : State) (hk : Keeps z s) :
    KeepsR z (execPpsLost s) := by
  unfold execPpsLost
  repeat' first
    | with_reducible
      first
      | assumption | apply KeepsR.next | apply Keeps.ite | apply State.trigger_keeps | apply State.notify_keeps
      | apply State.setB_keeps
    | intro _ | extract_lets +onlyGivenNames t | split
    | (with_reducible apply keeps_snd (by with_reducible assumption))
    | (with_reducible apply keeps_fst (by with_reducible assumption)) | dsimp +zetaDelta only

theorem State.twinClock_keeps {z : State} (s : State) (t : Nat) (hk : Keeps z s) :
    Keeps z (State.twinClock s t) := by
  unfold State.twinClock
  repeat' first
    | with_reducible
      first
      | assumption | apply Keeps.ite | apply State.steer_keeps | apply State.setB_keeps | apply State.setReg_keeps
      | apply State.loadTick_keeps | fail_if_no_progress refine keeps_lit rfl rfl rfl rfl rfl rfl ?_
    | intro _ | extract_lets +onlyGivenNames t | split
    | (with_reducible apply keeps_snd (by with_reducible assumption))
    | (with_reducible apply keeps_fst (by with_reducible assumption)) | dsimp +zetaDelta only

theorem State.slew_keeps {z : State} (s : State) (hk : Keeps z s) :
    Keeps z (State.slew s) := by
  unfold State.slew
  repeat' first
    | with_reducible
      first
      | assumption | apply Keeps.ite | apply State.setB_keeps
      | fail_if_no_progress refine keeps_lit rfl rfl rfl rfl rfl rfl ?_
    | intro _ | extract_lets +onlyGivenNames t | split
    | (with_reducible apply keeps_snd (by with_reducible assumption))
    | (with_reducible apply keeps_fst (by with_reducible assumption)) | dsimp +zetaDelta only

theorem State.showLost_keeps {z : State} (s : State) (hk : Keeps z s) :
    Keeps z (State.showLost s) := by
  unfold State.showLost
  repeat' first
    | with_reducible
      first
      | assumption | apply Keeps.ite | apply State.setB_keeps
    | intro _ | extract_lets +onlyGivenNames t | split
    | (with_reducible apply keeps_snd (by with_reducible assumption))
    | (with_reducible apply keeps_fst (by with_reducible assumption)) | dsimp +zetaDelta only

theorem State.countMissed_keeps {z : State} (s : State) (h : Keeps z s) : Keeps z (State.countMissed s) := by
  unfold State.countMissed
  generalize s.tck.lastEdge = o
  cases o with
  | none => exact h
  | some t => exact Keeps.ite (State.bumpSat_keeps _ _ _ _ h) h

/-! Machine/Segments.lean -/

theorem State.makeReady_keeps {z : State} (s : State) (id : Nat) (r : Request) (hk : Keeps z s) :
    Keeps z (State.makeReady s id r) := by
  unfold State.makeReady
  repeat' first
    | with_reducible
      first
      | assumption | apply Keeps.ite | apply State.setReq_keeps | apply State.nextOrder_keeps
      | fail_if_no_progress refine keeps_lit rfl rfl rfl rfl rfl rfl ?_
    | intro _ | extract_lets +onlyGivenNames t | split
    | (with_reducible apply keeps_snd (by with_reducible assumption))
    | (with_reducible apply keeps_fst (by with_reducible assumption)) | dsimp only [id] | dsimp +zetaDelta only

theorem State.inRestart_keeps {z : State} (s : State) (id : Nat) (o : Nat) (hk : Keeps z s) :
    Keeps z (State.inRestart s id o) := by
  unfold State.inRestart
  repeat' first
    | with_reducible
      first
      | assumption | apply Keeps.ite | apply State.setReq_keeps
      | fail_if_no_progress refine keeps_lit rfl rfl rfl rfl rfl rfl ?_
    | intro _ | extract_lets +onlyGivenNames t | split
    | (with_reducible apply keeps_snd (by with_reducible assumption))
    | (with_reducible apply keeps_fst (by with_reducible assumption)) | dsimp only [id] | dsimp +zetaDelta only

theorem State.moveReq_keeps {z : State} (s : State) (id : Nat) (hk : Keeps z s) :
    Keeps z (State.moveReq s id) := by
  unfold State.moveReq
  repeat' first
    | with_reducible
      first
      | assumption | apply Keeps.ite | apply State.inRestart_keeps | apply State.toRestart_keeps
      | apply State.setReq_keeps | fail_if_no_progress refine keeps_lit rfl rfl rfl rfl rfl rfl ?_
    | intro _ | extract_lets +onlyGivenNames t | split
    | (with_reducible apply keeps_snd (by with_reducible assumption))
    | (with_reducible apply keeps_fst (by with_reducible assumption)) | dsimp only [id] | dsimp +zetaDelta only

theorem State.moveAll_keeps {z : State} (s : State) (hk : Keeps z s) :
    Keeps z (State.moveAll s) := by
  unfold State.moveAll
  repeat' first
    | with_reducible
      first
      | assumption | apply Keeps.ite | apply State.moveReq_keeps | (apply keeps_foldl; intro _ _ _)
      | (apply keeps_foldl_fst; intro _ _ _)
    | intro _ | extract_lets +onlyGivenNames t | split
    | (with_reducible apply keeps_snd (by with_reducible assumption))
    | (with_reducible apply keeps_fst (by with_reducible assumption)) | dsimp +zetaDelta only

theorem State.wake_keeps {z : State} (s : State) (id : Nat) (r : Request) (hk : Keeps z s) :
    Keeps z (State.wake s id r) := by
  unfold State.wake
  repeat' first
    | with_reducible
      first
      | assumption | apply Keeps.ite | apply State.fence_keeps | apply State.stage_keeps | apply State.endReq_keeps
      | apply State.bump_keeps | apply State.commit_keeps | apply State.makeReady_keeps
      | fail_if_no_progress refine keeps_lit rfl rfl rfl rfl rfl rfl ?_
    | intro _ | extract_lets +onlyGivenNames t | split
    | (with_reducible apply keeps_snd (by with_reducible assumption))
    | (with_reducible apply keeps_fst (by with_reducible assumption)) | dsimp only [id] | dsimp +zetaDelta only

theorem State.wakeAll_keeps {z : State} (s : State) (hk : Keeps z s) :
    Keeps z (State.wakeAll s) := by
  unfold State.wakeAll
  repeat' with_reducible first | assumption | apply Keeps.ite | (apply keeps_foldl; intro _ _ _) | apply State.wake_keeps

theorem State.bindMessage_keeps {z : State} (s : State) (r : Request) (hk : Keeps z s) :
    Keeps z (State.bindMessage s r) := by
  unfold State.bindMessage
  repeat' first
    | with_reducible
      first
      | assumption | apply Keeps.ite | fail_if_no_progress refine keeps_lit rfl rfl rfl rfl rfl rfl ?_
    | intro _ | extract_lets +onlyGivenNames t | split
    | (with_reducible apply keeps_snd (by with_reducible assumption))
    | (with_reducible apply keeps_fst (by with_reducible assumption)) | dsimp +zetaDelta only

theorem State.bindReq_keeps {z : State} (s : State) (id : Nat) (c : Nat) (hk : Keeps z s) :
    Keeps z (State.bindReq s id c) := by
  unfold State.bindReq
  repeat' first
    | with_reducible
      first
      | assumption | apply Keeps.ite | apply State.setReq_keeps | apply State.bindMessage_keeps
      | fail_if_no_progress refine keeps_lit rfl rfl rfl rfl rfl rfl ?_
    | intro _ | extract_lets +onlyGivenNames t | split
    | (with_reducible apply keeps_snd (by with_reducible assumption))
    | (with_reducible apply keeps_fst (by with_reducible assumption)) | dsimp only [id] | dsimp +zetaDelta only

theorem State.dropInvalid_keeps {z : State} (s : State) (p : Picked) (hk : Keeps z s) :
    Keeps z (State.dropInvalid s p).1 := by
  unfold State.dropInvalid
  repeat' first
    | with_reducible
      first
      | assumption | apply Keeps.ite | apply State.endReq_keeps | apply State.invalid_keeps
      | (apply keeps_foldl; intro _ _ _) | (apply keeps_foldl_fst; intro _ _ _)
      | fail_if_no_progress refine keeps_lit rfl rfl rfl rfl rfl rfl ?_
    | intro _ | extract_lets +onlyGivenNames t | split
    | (with_reducible apply keeps_snd (by with_reducible assumption))
    | (with_reducible apply keeps_fst (by with_reducible assumption)) | dsimp only [id] | dsimp +zetaDelta only

theorem State.dispatch_keeps {z : State} (s : State) (c : Nat) (strand : Nat) (x : Cand) (hk : Keeps z s) :
    Keeps z (State.dispatch s c strand x) := by
  unfold State.dispatch
  repeat' first
    | with_reducible
      first
      | assumption | apply Keeps.ite | apply State.bump_keeps | apply State.setReq_keeps | apply State.useRis_keeps
      | fail_if_no_progress refine keeps_lit rfl rfl rfl rfl rfl rfl ?_
    | intro _ | extract_lets +onlyGivenNames t | split
    | (with_reducible apply keeps_snd (by with_reducible assumption))
    | (with_reducible apply keeps_fst (by with_reducible assumption)) | dsimp only [id] | dsimp +zetaDelta only

theorem State.fillStrand_keeps {z : State} (c : Nat) (a : State × List Cand) (i : Nat) (hk : Keeps z a.1) :
    Keeps z (State.fillStrand c a i).1 := by
  unfold State.fillStrand
  repeat' first
    | with_reducible
      first
      | assumption | apply Keeps.ite | apply State.dispatch_keeps
      | fail_if_no_progress refine keeps_lit rfl rfl rfl rfl rfl rfl ?_
    | extract_lets +onlyGivenNames t | split

theorem State.fillCluster_keeps {z : State} (picked : Picked) (s : State) (c : Nat) (hk : Keeps z s) :
    Keeps z (State.fillCluster picked s c) := by
  unfold State.fillCluster
  repeat' first
    | with_reducible
      first
      | assumption | apply Keeps.ite | (apply keeps_foldl; intro _ _ _) | (apply keeps_foldl_fst; intro _ _ _)
      | apply State.bindReq_keeps | apply State.fillStrand_keeps | apply State.setReq_keeps
      | fail_if_no_progress refine keeps_lit rfl rfl rfl rfl rfl rfl ?_
    | intro _ | extract_lets +onlyGivenNames t | split

theorem State.dispatchAll_keeps {z : State} (s : State) (hk : Keeps z s) :
    Keeps z (State.dispatchAll s) := by
  unfold State.dispatchAll
  repeat' with_reducible
    first
    | assumption | apply Keeps.ite | (apply keeps_foldl; intro _ _ _) | apply State.dropInvalid_keeps
    | apply State.fillCluster_keeps

theorem State.watchEngines_keeps {z : State} (s : State) (hk : Keeps z s) :
    Keeps z (State.watchEngines s) := by
  unfold State.watchEngines
  repeat' with_reducible
    first
    | assumption | (apply keeps_foldl; intro _ _ _) | apply State.report_keeps
    | fail_if_no_progress refine keeps_lit rfl rfl rfl rfl rfl rfl ?_

end Sys2Proof.Machine
end

