-- ==== Sys2Proof/Laws/KeepsTwin.lean ====
section
/-! SUPPORT. The twin link, the roles, the integrity events and the transport:
each operation keeps the queue and the canonical memories (`Keeps`). -/

namespace Sys2Proof.Machine

open Sys2Proof

/-! Machine/TwinLink.lean -/

theorem State.setPairState_keeps {z : State} (s : State) (n : Nat) (hk : Keeps z s) :
    Keeps z (State.setPairState s n) := by
  unfold State.setPairState
  repeat' with_reducible first | assumption | apply State.setF_keeps

theorem State.meterFlag_keeps {z : State} (s : State) (b : Nat) (hk : Keeps z s) :
    Keeps z (State.meterFlag s b) := by
  unfold State.meterFlag
  repeat' with_reducible
    first
    | assumption | apply Keeps.ite | fail_if_no_progress refine keeps_lit rfl rfl rfl rfl rfl rfl ?_

theorem State.raisePair_keeps {z : State} (s : State) (x : PairSignal) (hk : Keeps z s) :
    Keeps z (State.raisePair s x) := by
  unfold State.raisePair
  repeat' first
    | with_reducible
      first
      | assumption | apply Keeps.ite | fail_if_no_progress refine keeps_lit rfl rfl rfl rfl rfl rfl ?_
    | intro _ | extract_lets +onlyGivenNames t | split
    | (with_reducible apply keeps_snd (by with_reducible assumption))
    | (with_reducible apply keeps_fst (by with_reducible assumption)) | dsimp +zetaDelta only

theorem State.setServes_keeps {z : State} (s : State) (n : Nat) (hk : Keeps z s) :
    Keeps z (State.setServes s n) := by
  unfold State.setServes
  repeat' with_reducible first | assumption | apply Keeps.ite | apply State.meterFlag_keeps | apply State.setB_keeps

theorem State.pairEvent_keeps {z : State} (s : State) (kind : Nat) (side : Nat) (tick : Nat) (w1 : DWord) (hk : Keeps z s) :
    Keeps z (State.pairEvent s kind side tick w1) := by
  unfold State.pairEvent
  repeat' with_reducible
    first
    | assumption | apply State.setReg_keeps | apply State.setPair_keeps | apply State.trigger_keeps
    | apply State.notify_keeps

theorem State.writeRole_keeps {z : State} (s : State) (state : Nat) (hk : Keeps z s) :
    Keeps z (State.writeRole s state).2 := by
  unfold State.writeRole
  repeat' first
    | with_reducible
      first
      | assumption | apply Keeps.ite | apply State.journal_keeps
      | fail_if_no_progress refine keeps_lit rfl rfl rfl rfl rfl rfl ?_
    | intro _ | extract_lets +onlyGivenNames t | split
    | (with_reducible apply keeps_snd (by with_reducible assumption))
    | (with_reducible apply keeps_fst (by with_reducible assumption)) | dsimp +zetaDelta only

theorem State.recordEpoch_keeps {z : State} (s : State) (hk : Keeps z s) :
    Keeps z (State.recordEpoch s) := by
  unfold State.recordEpoch
  repeat' first
    | with_reducible
      first
      | assumption | apply Keeps.ite | apply State.journal_keeps
      | fail_if_no_progress refine keeps_lit rfl rfl rfl rfl rfl rfl ?_
    | intro _ | extract_lets +onlyGivenNames t | split
    | (with_reducible apply keeps_snd (by with_reducible assumption))
    | (with_reducible apply keeps_fst (by with_reducible assumption)) | dsimp +zetaDelta only

theorem State.setEpoch_keeps {z : State} (s : State) (n : Nat) (hk : Keeps z s) :
    Keeps z (State.setEpoch s n) := by
  unfold State.setEpoch
  repeat' with_reducible
    first
    | assumption | apply State.setReg_keeps | fail_if_no_progress refine keeps_lit rfl rfl rfl rfl rfl rfl ?_

theorem State.jointEpoch_keeps {z : State} (s : State) (hk : Keeps z s) :
    Keeps z (State.jointEpoch s) := by
  unfold State.jointEpoch
  repeat' with_reducible first | assumption | apply State.setEpoch_keeps

theorem State.pairLost_keeps {z : State} (s : State) (serves : Bool) (hk : Keeps z s) :
    Keeps z (State.pairLost s serves) := by
  unfold State.pairLost
  repeat' with_reducible first | assumption | apply Keeps.ite | apply State.setB_keeps | apply State.setServes_keeps

theorem State.sendNotices_keeps {z : State} (s : State) (type : Nat) (status : Nat) (side : Nat) (tick : Nat) (hk : Keeps z s) :
    Keeps z (State.sendNotices s type status side tick) := by
  unfold State.sendNotices
  repeat' with_reducible
    first
    | assumption | apply Keeps.ite | (apply keeps_foldl; intro _ _ _) | apply State.bump_keeps
    | apply State.sendMsg_keeps

theorem State.stopShipping_keeps {z : State} (s : State) (hk : Keeps z s) :
    Keeps z (State.stopShipping s) := by
  unfold State.stopShipping
  repeat' first
    | with_reducible
      first
      | assumption | apply Keeps.ite | fail_if_no_progress refine keeps_lit rfl rfl rfl rfl rfl rfl ?_
    | intro _ | extract_lets +onlyGivenNames t | split
    | (with_reducible apply keeps_snd (by with_reducible assumption))
    | (with_reducible apply keeps_fst (by with_reducible assumption)) | dsimp +zetaDelta only

theorem State.soloEnter_keeps {z : State} (s : State) (tick : Nat) (hk : Keeps z s) :
    Keeps z (State.soloEnter s tick) := by
  unfold State.soloEnter
  repeat' first
    | with_reducible
      first
      | assumption | apply Keeps.ite | apply State.reapPb_keeps | apply State.issueFor_keeps
      | apply State.pairEvent_keeps | apply State.bump_keeps | apply State.stopShipping_keeps
      | apply State.setEpoch_keeps | (apply keeps_foldl; intro _ _ _) | (apply keeps_foldl_fst; intro _ _ _)
      | fail_if_no_progress refine keeps_lit rfl rfl rfl rfl rfl rfl ?_
    | intro _ | extract_lets +onlyGivenNames t | split
    | (with_reducible apply keeps_snd (by with_reducible assumption))
    | (with_reducible apply keeps_fst (by with_reducible assumption)) | dsimp +zetaDelta only

theorem State.soloExit_keeps {z : State} (s : State) (tick : Nat) (hk : Keeps z s) :
    Keeps z (State.soloExit s tick) := by
  unfold State.soloExit
  repeat' first
    | with_reducible
      first
      | assumption | apply Keeps.ite | apply State.reapPb_keeps | apply State.trigger_keeps | apply State.notify_keeps
      | apply State.setPair_keeps | apply State.setReg_keeps | apply State.bumpBy_keeps | apply State.mapPb_keeps
      | fail_if_no_progress refine keeps_lit rfl rfl rfl rfl rfl rfl ?_
    | intro _ | extract_lets +onlyGivenNames t | split
    | (with_reducible apply keeps_snd (by with_reducible assumption))
    | (with_reducible apply keeps_fst (by with_reducible assumption)) | dsimp +zetaDelta only

theorem State.twinGone_keeps {z : State} (s : State) (kind : Nat) (hk : Keeps z s) :
    Keeps z (State.twinGone s kind) := by
  unfold State.twinGone
  repeat' first
    | with_reducible
      first
      | assumption | apply Keeps.ite | apply State.raisePair_keeps | apply State.pairEvent_keeps
      | fail_if_no_progress refine keeps_lit rfl rfl rfl rfl rfl rfl ?_
    | intro _ | extract_lets +onlyGivenNames t | split
    | (with_reducible apply keeps_snd (by with_reducible assumption))
    | (with_reducible apply keeps_fst (by with_reducible assumption)) | dsimp +zetaDelta only

theorem State.linkSilent_keeps {z : State} (s : State) (hk : Keeps z s) :
    Keeps z (State.linkSilent s) := by
  unfold State.linkSilent
  repeat' first
    | with_reducible
      first
      | assumption | apply Keeps.ite | apply State.raisePair_keeps | apply State.pairEvent_keeps
      | apply State.twinGone_keeps | fail_if_no_progress refine keeps_lit rfl rfl rfl rfl rfl rfl ?_
    | intro _ | extract_lets +onlyGivenNames t | split
    | (with_reducible apply keeps_snd (by with_reducible assumption))
    | (with_reducible apply keeps_fst (by with_reducible assumption)) | dsimp +zetaDelta only

theorem State.gotFrame_keeps {z : State} (s : State) (h : TwinHead) (act : State → State) (hact : ∀ (s : State), Keeps z s → Keeps z (act s)) (hk : Keeps z s) :
    Keeps z (State.gotFrame s h act) := by
  unfold State.gotFrame
  repeat' first
    | with_reducible
      first
      | assumption | apply KeepsR.next | apply Keeps.ite | apply State.setBundle_keeps
      | fail_if_no_progress refine keeps_lit rfl rfl rfl rfl rfl rfl ?_
    | apply hact

theorem execHeartbeatSend_keeps {z : State} (s : State) (hk : Keeps z s) :
    KeepsR z (execHeartbeatSend s) := by
  unfold execHeartbeatSend
  repeat' with_reducible
    first
    | assumption | apply KeepsR.next | apply Keeps.ite
    | fail_if_no_progress refine keeps_lit rfl rfl rfl rfl rfl rfl ?_

theorem State.gotHb_keeps {z : State} (s : State) (hb : TwinHb) (hk : Keeps z s) :
    Keeps z (State.gotHb s hb) := by
  unfold State.gotHb
  repeat' first
    | with_reducible
      first
      | assumption | apply Keeps.ite | apply State.twinClock_keeps | apply State.shipSlots_keeps
      | apply State.setB_keeps | apply State.bump_keeps
      | fail_if_no_progress refine keeps_lit rfl rfl rfl rfl rfl rfl ?_
    | intro _ | extract_lets +onlyGivenNames t | split
    | (with_reducible apply keeps_snd (by with_reducible assumption))
    | (with_reducible apply keeps_fst (by with_reducible assumption)) | dsimp +zetaDelta only

theorem execMirror_keeps {z : State} (h : TwinHead) (runs : List MirrorRun) (epoch : Word) (cls : Fin 4) (s : State) (hk : Keeps z s) :
    KeepsR z (execMirror h runs epoch cls s) := by
  unfold execMirror
  repeat' first
    | with_reducible
      first
      | assumption | apply KeepsR.next | apply Keeps.ite | apply State.gotFrame_keeps
      | fail_if_no_progress refine keeps_lit rfl rfl rfl rfl rfl rfl ?_
    | intro _ | extract_lets +onlyGivenNames t | split
    | (with_reducible apply keeps_snd (by with_reducible assumption))
    | (with_reducible apply keeps_fst (by with_reducible assumption)) | dsimp +zetaDelta only

theorem State.admitLines_keeps {z : State} (s : State) (a : ArrivedRec) (intent : Option Nat) (hk : Keeps z s) :
    Keeps z (State.admitLines s a intent) := by
  unfold State.admitLines
  repeat' first
    | with_reducible
      first
      | assumption | apply Keeps.ite | apply State.bumpBy_keeps | apply State.noteWrites_keeps
      | apply State.mapPage_keeps | apply State.takeSlots_keeps | (apply keeps_foldl; intro _ _ _)
      | (apply keeps_foldl_fst; intro _ _ _) | fail_if_no_progress refine keeps_lit rfl rfl rfl rfl rfl rfl ?_
    | intro _ | extract_lets +onlyGivenNames t | split
    | (with_reducible apply keeps_snd (by with_reducible assumption))
    | (with_reducible apply keeps_fst (by with_reducible assumption)) | dsimp +zetaDelta only

theorem State.admitIntent_keeps {z : State} (s : State) (peer : Nat) (a : ArrivedRec) (hk : Keeps z s) :
    Keeps z (State.admitIntent s peer a) := by
  unfold State.admitIntent
  repeat' first
    | with_reducible
      first
      | assumption | apply Keeps.ite | apply State.admitLines_keeps
      | fail_if_no_progress refine keeps_lit rfl rfl rfl rfl rfl rfl ?_
    | intro _ | extract_lets +onlyGivenNames t | split
    | (with_reducible apply keeps_snd (by with_reducible assumption))
    | (with_reducible apply keeps_fst (by with_reducible assumption)) | dsimp +zetaDelta only

theorem State.admitArrived_keeps {z : State} (s : State) (a : ArrivedRec) (hk : Keeps z s) :
    Keeps z (State.admitArrived s a) := by
  unfold State.admitArrived
  repeat' first
    | with_reducible
      first
      | assumption | apply Keeps.ite | apply State.admitLines_keeps | apply State.admitIntent_keeps
      | fail_if_no_progress refine keeps_lit rfl rfl rfl rfl rfl rfl ?_
    | intro _ | extract_lets +onlyGivenNames t | split
    | (with_reducible apply keeps_snd (by with_reducible assumption))
    | (with_reducible apply keeps_fst (by with_reducible assumption)) | dsimp +zetaDelta only

theorem execMirrorAdmit_keeps {z : State} (s : State) (hk : Keeps z s) :
    KeepsR z (execMirrorAdmit s) := by
  unfold execMirrorAdmit
  repeat' with_reducible
    first
    | assumption | apply KeepsR.next | (apply keeps_foldl; intro _ _ _) | apply State.admitArrived_keeps
    | fail_if_no_progress refine keeps_lit rfl rfl rfl rfl rfl rfl ?_

theorem execHeldMirrorPlace_keeps {z : State} (extent : BitVec 27) (s : State) (hk : Keeps z s) :
    KeepsR z (execHeldMirrorPlace extent s) := by
  unfold execHeldMirrorPlace
  repeat' first
    | with_reducible
      first
      | assumption | apply KeepsR.next | apply Keeps.ite | apply State.admitIntent_keeps
      | apply State.admitLines_keeps | (apply keeps_foldl; intro _ _ _) | (apply keeps_foldl_fst; intro _ _ _)
      | fail_if_no_progress refine keeps_lit rfl rfl rfl rfl rfl rfl ?_
    | intro _ | extract_lets +onlyGivenNames t | split
    | (with_reducible apply keeps_snd (by with_reducible assumption))
    | (with_reducible apply keeps_fst (by with_reducible assumption)) | dsimp +zetaDelta only

theorem State.frameConfirmed_keeps {z : State} (s : State) (n : Nat) (hk : Keeps z s) :
    Keeps z (State.frameConfirmed s n) := by
  unfold State.frameConfirmed
  repeat' first
    | with_reducible
      first
      | assumption | apply Keeps.ite | apply State.mapPb_keeps | apply State.frontMirrored_keeps
      | apply State.bumpBy_keeps | (apply keeps_foldl; intro _ _ _) | (apply keeps_foldl_fst; intro _ _ _)
      | fail_if_no_progress refine keeps_lit rfl rfl rfl rfl rfl rfl ?_
    | intro _ | extract_lets +onlyGivenNames t | split
    | (with_reducible apply keeps_snd (by with_reducible assumption))
    | (with_reducible apply keeps_fst (by with_reducible assumption)) | dsimp +zetaDelta only

theorem State.slotConfirmed_keeps {z : State} (s : State) (k : Nat) (hk : Keeps z s) :
    Keeps z (State.slotConfirmed s k) := by
  unfold State.slotConfirmed
  repeat' first
    | with_reducible
      first
      | assumption | apply Keeps.ite | apply State.updIntent_keeps | apply State.slotMirrored_keeps
      | apply State.mapPb_keeps | fail_if_no_progress refine keeps_lit rfl rfl rfl rfl rfl rfl ?_
    | (extract_lets +onlyGivenNames t; have ht : Keeps z t := ?_; clear_value t; rotate_left)
    | extract_lets +onlyGivenNames t | split

theorem execConfirm_keeps {z : State} (h : TwinHead) (frames : List (Bool × Nat)) (outcomes : List OutcomeName) (intents : List (BitVec 14)) (free : Nat) (s : State) (hk : Keeps z s) :
    KeepsR z (execConfirm h frames outcomes intents free s) := by
  unfold execConfirm
  repeat' first
    | with_reducible
      first
      | assumption | apply KeepsR.next | apply Keeps.ite | apply State.reapPb_keeps | apply State.shipSlots_keeps
      | apply State.slotConfirmed_keeps | apply State.outcomesConfirmed_keeps | apply State.frameConfirmed_keeps
      | apply State.gotFrame_keeps | (apply keeps_foldl; intro _ _ _) | (apply keeps_foldl_fst; intro _ _ _)
      | fail_if_no_progress refine keeps_lit rfl rfl rfl rfl rfl rfl ?_
    | intro _ | extract_lets +onlyGivenNames t | split
    | (with_reducible apply keeps_snd (by with_reducible assumption))
    | (with_reducible apply keeps_fst (by with_reducible assumption)) | dsimp +zetaDelta only

theorem execOutcome_keeps {z : State} (h : TwinHead) (o : OutcomeBody) (s : State) (hk : Keeps z s) :
    KeepsR z (execOutcome h o s) := by
  unfold execOutcome
  repeat' first
    | with_reducible
      first
      | assumption | apply KeepsR.next | apply Keeps.ite | apply State.issueFor_keeps | apply State.confirmed_keeps
      | apply State.gotFrame_keeps | fail_if_no_progress refine keeps_lit rfl rfl rfl rfl rfl rfl ?_
    | intro _ | extract_lets +onlyGivenNames t | split
    | (with_reducible apply keeps_snd (by with_reducible assumption))
    | (with_reducible apply keeps_fst (by with_reducible assumption)) | dsimp +zetaDelta only

theorem execIntent_keeps {z : State} (h : TwinHead) (slot : BitVec 14) (lines : List TwinLine) (epoch : Word) (s : State) (hk : Keeps z s) :
    KeepsR z (execIntent h slot lines epoch s) := by
  unfold execIntent
  repeat' first
    | with_reducible
      first
      | assumption | apply KeepsR.next | apply Keeps.ite | apply State.gotFrame_keeps
      | fail_if_no_progress refine keeps_lit rfl rfl rfl rfl rfl rfl ?_
    | intro _ | extract_lets +onlyGivenNames t | split
    | (with_reducible apply keeps_snd (by with_reducible assumption))
    | (with_reducible apply keeps_fst (by with_reducible assumption)) | dsimp +zetaDelta only

theorem execGiveup_keeps {z : State} (h : TwinHead) (sideB : Bool) (epoch : Word) (drill hold sameTick : Bool) (s : State)
    (hk : Keeps z s) : KeepsR z (execGiveup h sideB epoch drill hold sameTick s) := by
  unfold execGiveup
  repeat' first
    | with_reducible
      first
      | assumption | apply KeepsR.next | apply Keeps.ite | apply State.twinGone_keeps | apply State.raisePair_keeps
      | apply State.gotFrame_keeps
    | intro _ | extract_lets +onlyGivenNames t | split
    | (with_reducible apply keeps_snd (by with_reducible assumption))
    | (with_reducible apply keeps_fst (by with_reducible assumption)) | dsimp only [id] | dsimp +zetaDelta only

theorem execReclaim_keeps {z : State} (h : TwinHead) (sideB : Bool) (at' : DWord) (s : State) (hk : Keeps z s) :
    KeepsR z (execReclaim h sideB at' s) := by
  unfold execReclaim
  repeat' first
    | with_reducible
      first
      | assumption | apply KeepsR.next | apply Keeps.ite | apply State.gotFrame_keeps | apply State.sendNotices_keeps
      | fail_if_no_progress refine keeps_lit rfl rfl rfl rfl rfl rfl ?_
    | intro _

theorem execSwitch_keeps {z : State} (h : TwinHead) (sideB : Bool) (s : State) (hk : Keeps z s) :
    KeepsR z (execSwitch h sideB s) := by
  unfold execSwitch
  refine KeepsR.next (State.gotFrame_keeps _ _ _ (fun s k => Keeps.ite ?_ k) hk)
  exact keeps_lit rfl rfl rfl rfl rfl rfl k

theorem State.gotResync_keeps {z : State} (s : State) (x1 : ResyncBody) (hk : Keeps z s) :
    Keeps z (State.gotResync s x1) := by
  unfold State.gotResync
  repeat' first
    | with_reducible
      first
      | assumption | apply Keeps.ite | fail_if_no_progress refine keeps_lit rfl rfl rfl rfl rfl rfl ?_
    | intro _ | extract_lets +onlyGivenNames t | split
    | (with_reducible apply keeps_snd (by with_reducible assumption))
    | (with_reducible apply keeps_fst (by with_reducible assumption)) | dsimp only [id] | dsimp +zetaDelta only

theorem execResync_keeps {z : State} (h : TwinHead) (body : ResyncBody) (s : State) (hk : Keeps z s) :
    KeepsR z (execResync h body s) := by
  unfold execResync
  repeat' first
    | with_reducible first | assumption | apply KeepsR.next | apply State.gotFrame_keeps | apply State.gotResync_keeps
    | intro _

theorem execTwinAck_keeps {z : State} (one : Bool) (seq : Nat) (s : State) (hk : Keeps z s) :
    KeepsR z (execTwinAck one seq s) := by
  unfold execTwinAck
  repeat' first
    | with_reducible
      first
      | assumption | apply KeepsR.next | apply Keeps.ite | apply State.pumpTwin_keeps | apply State.setBundle_keeps
      | fail_if_no_progress refine keeps_lit rfl rfl rfl rfl rfl rfl ?_
    | intro _ | extract_lets +onlyGivenNames t | split
    | (with_reducible apply keeps_snd (by with_reducible assumption))
    | (with_reducible apply keeps_fst (by with_reducible assumption)) | dsimp +zetaDelta only

theorem execTwinNak_keeps {z : State} (one : Bool) (seq : Nat) (s : State) (hk : Keeps z s) :
    KeepsR z (execTwinNak one seq s) := by
  unfold execTwinNak
  repeat' with_reducible
    first
    | assumption | apply KeepsR.next | apply Keeps.ite | apply State.bumpBy_keeps | apply State.setBundle_keeps

theorem State.dropBundle_keeps {z : State} (s : State) (one : Bool) (hk : Keeps z s) :
    Keeps z (State.dropBundle s one) := by
  unfold State.dropBundle
  repeat' first
    | with_reducible
      first
      | assumption | apply Keeps.ite | apply State.setBundle_keeps | apply State.setB_keeps
      | fail_if_no_progress refine keeps_lit rfl rfl rfl rfl rfl rfl ?_
    | intro _ | extract_lets +onlyGivenNames t | split
    | (with_reducible apply keeps_snd (by with_reducible assumption))
    | (with_reducible apply keeps_fst (by with_reducible assumption)) | dsimp +zetaDelta only

theorem State.bundleDown_keeps {z : State} (s : State) (one : Bool) (hk : Keeps z s) :
    Keeps z (State.bundleDown s one) := by
  unfold State.bundleDown
  repeat' with_reducible
    first
    | assumption | apply Keeps.ite | apply State.report_keeps | apply State.dropBundle_keeps
    | apply State.linkSilent_keeps

theorem execBundleDown_keeps {z : State} (one : Bool) (ue : Bool) (s : State) (hk : Keeps z s) :
    KeepsR z (execBundleDown one ue s) := by
  unfold execBundleDown
  repeat' with_reducible first | assumption | apply KeepsR.next | apply Keeps.ite | apply State.bundleDown_keeps

theorem execBundleUp_keeps {z : State} (one : Bool) (s : State) (hk : Keeps z s) :
    KeepsR z (execBundleUp one s) := by
  unfold execBundleUp
  repeat' first
    | with_reducible
      first
      | assumption | apply KeepsR.next | apply Keeps.ite | apply State.raisePair_keeps | apply State.pumpTwin_keeps
      | apply State.setBundle_keeps | apply State.setB_keeps
      | fail_if_no_progress refine keeps_lit rfl rfl rfl rfl rfl rfl ?_
    | intro _ | extract_lets +onlyGivenNames t | split
    | (with_reducible apply keeps_snd (by with_reducible assumption))
    | (with_reducible apply keeps_fst (by with_reducible assumption)) | dsimp +zetaDelta only

theorem execSidebandToggle_keeps {z : State} (held : Nat) (s : State) (hk : Keeps z s) :
    KeepsR z (execSidebandToggle held s) := by
  unfold execSidebandToggle
  repeat' first
    | with_reducible
      first
      | assumption | apply KeepsR.next | apply Keeps.ite | apply State.bump_keeps | apply State.twinGone_keeps
      | apply State.setB_keeps | fail_if_no_progress refine keeps_lit rfl rfl rfl rfl rfl rfl ?_
    | intro _ | extract_lets +onlyGivenNames t | split
    | (with_reducible apply keeps_snd (by with_reducible assumption))
    | (with_reducible apply keeps_fst (by with_reducible assumption)) | dsimp +zetaDelta only

theorem execSidebandSilent_keeps {z : State} (s : State) (hk : Keeps z s) :
    KeepsR z (execSidebandSilent s) := by
  unfold execSidebandSilent
  repeat' with_reducible
    first
    | assumption | apply KeepsR.next | apply Keeps.ite | apply State.setB_keeps | apply State.twinGone_keeps
    | fail_if_no_progress refine keeps_lit rfl rfl rfl rfl rfl rfl ?_

/-! Machine/Roles.lean -/

theorem State.sendCopy_keeps {z : State} (s : State) (lines : List Nat) (hk : Keeps z s) :
    Keeps z (State.sendCopy s lines) := by
  unfold State.sendCopy
  repeat' first
    | with_reducible
      first
      | assumption | apply Keeps.ite | apply State.tell_keeps | apply State.sendFrame_keeps
      | (apply keeps_foldl; intro _ _ _) | (apply keeps_foldl_fst; intro _ _ _)
    | intro _ | extract_lets +onlyGivenNames t | split
    | (with_reducible apply keeps_snd (by with_reducible assumption))
    | (with_reducible apply keeps_fst (by with_reducible assumption)) | dsimp +zetaDelta only

theorem State.sendTables_keeps {z : State} (s : State) (hk : Keeps z s) :
    Keeps z (State.sendTables s) := by
  unfold State.sendTables
  repeat' first
    | with_reducible
      first
      | assumption | apply Keeps.ite | apply State.tell_keeps | (apply keeps_foldl; intro _ _ _)
      | (apply keeps_foldl_fst; intro _ _ _)
    | intro _ | extract_lets +onlyGivenNames t | split
    | (with_reducible apply keeps_snd (by with_reducible assumption))
    | (with_reducible apply keeps_fst (by with_reducible assumption)) | dsimp +zetaDelta only

theorem State.showResync_keeps {z : State} (s : State) (full : Bool) (phase : Nat) (hk : Keeps z s) :
    Keeps z (State.showResync s full phase) := by
  unfold State.showResync
  repeat' with_reducible first | assumption | apply Keeps.ite | apply State.setF_keeps

theorem State.enterReturning_keeps {z : State} (s : State) (marked : List Nat) (hk : Keeps z s) :
    Keeps z (State.enterReturning s marked) := by
  unfold State.enterReturning
  repeat' with_reducible
    first
    | assumption | apply State.setB_keeps | apply State.setPairState_keeps | apply State.setServes_keeps
    | apply State.tell_keeps | apply State.writeRole_keeps
    | fail_if_no_progress refine keeps_lit rfl rfl rfl rfl rfl rfl ?_

theorem State.runAs_keeps {z : State} (s : State) (st : Nat) (serves : Nat) (hk : Keeps z s) :
    Keeps z (State.runAs s st serves) := by
  unfold State.runAs
  repeat' with_reducible
    first
    | assumption | apply State.setServes_keeps | apply State.setPairState_keeps
    | fail_if_no_progress refine keeps_lit rfl rfl rfl rfl rfl rfl ?_

theorem State.startPaired_keeps {z : State} (s : State) (mySolo : Bool) (hk : Keeps z s) :
    Keeps z (State.startPaired s mySolo) := by
  unfold State.startPaired
  repeat' first
    | with_reducible
      first
      | assumption | apply Keeps.ite | apply State.sendCopy_keeps | apply State.writeRole_keeps
      | apply State.jointEpoch_keeps | apply State.runAs_keeps
      | fail_if_no_progress refine keeps_lit rfl rfl rfl rfl rfl rfl ?_
    | intro _ | extract_lets +onlyGivenNames t | split
    | (with_reducible apply keeps_snd (by with_reducible assumption))
    | (with_reducible apply keeps_fst (by with_reducible assumption)) | dsimp +zetaDelta only

theorem State.startSurvivor_keeps {z : State} (s : State) (hk : Keeps z s) :
    Keeps z (State.startSurvivor s) := by
  unfold State.startSurvivor
  repeat' with_reducible
    first
    | assumption | apply State.writeRole_keeps | apply State.runAs_keeps
    | fail_if_no_progress refine keeps_lit rfl rfl rfl rfl rfl rfl ?_

theorem State.startAlone_keeps {z : State} (s : State) (hk : Keeps z s) :
    Keeps z (State.startAlone s) := by
  unfold State.startAlone
  repeat' first
    | with_reducible
      first
      | assumption | apply Keeps.ite | apply State.writeRole_keeps | apply State.soloEnter_keeps
      | apply State.runAs_keeps | fail_if_no_progress refine keeps_lit rfl rfl rfl rfl rfl rfl ?_
    | intro _ | extract_lets +onlyGivenNames t | split
    | (with_reducible apply keeps_snd (by with_reducible assumption))
    | (with_reducible apply keeps_fst (by with_reducible assumption)) | dsimp +zetaDelta only

theorem State.decideRole_keeps {z : State} (s : State) (hk : Keeps z s) :
    Keeps z (State.decideRole s) := by
  unfold State.decideRole
  repeat' first
    | with_reducible
      first
      | assumption | apply Keeps.ite | apply State.startSurvivor_keeps | apply State.recordEpoch_keeps
      | apply State.startPaired_keeps | apply State.pairLost_keeps | apply State.enterReturning_keeps
      | apply State.runAs_keeps | fail_if_no_progress refine keeps_lit rfl rfl rfl rfl rfl rfl ?_
    | intro _ | extract_lets +onlyGivenNames t | split
    | (with_reducible apply keeps_snd (by with_reducible assumption))
    | (with_reducible apply keeps_fst (by with_reducible assumption)) | dsimp +zetaDelta only

theorem execHeartbeat_keeps {z : State} (one : Bool) (crcOk : Bool) (hb : TwinHb) (s : State) (hk : Keeps z s) :
    KeepsR z (execHeartbeat one crcOk hb s) := by
  unfold execHeartbeat
  repeat' first
    | with_reducible
      first
      | assumption | apply KeepsR.next | apply Keeps.ite | apply State.raisePair_keeps | apply State.gotHb_keeps
      | apply State.setBundle_keeps | fail_if_no_progress refine keeps_lit rfl rfl rfl rfl rfl rfl ?_
    | intro _ | extract_lets +onlyGivenNames t | split
    | (with_reducible apply keeps_snd (by with_reducible assumption))
    | (with_reducible apply keeps_fst (by with_reducible assumption)) | dsimp +zetaDelta only

theorem State.serveAlone_keeps {z : State} (s : State) (hk : Keeps z s) :
    Keeps z (State.serveAlone s) := by
  unfold State.serveAlone
  repeat' first
    | with_reducible
      first
      | assumption | apply Keeps.ite | apply State.writeRole_keeps | apply State.soloEnter_keeps
      | apply State.runAs_keeps | apply State.startAlone_keeps
      | fail_if_no_progress refine keeps_lit rfl rfl rfl rfl rfl rfl ?_
    | intro _ | extract_lets +onlyGivenNames t | split
    | (with_reducible apply keeps_snd (by with_reducible assumption))
    | (with_reducible apply keeps_fst (by with_reducible assumption)) | dsimp +zetaDelta only

theorem execPairWaitExpiry_keeps {z : State} (s : State) (hk : Keeps z s) :
    KeepsR z (execPairWaitExpiry s) := by
  unfold execPairWaitExpiry
  repeat' first
    | with_reducible
      first
      | assumption | apply KeepsR.next | apply Keeps.ite | apply State.raisePair_keeps
    | intro _ | extract_lets +onlyGivenNames t | split
    | (with_reducible apply keeps_snd (by with_reducible assumption))
    | (with_reducible apply keeps_fst (by with_reducible assumption)) | dsimp +zetaDelta only

theorem State.endWait_keeps {z : State} (s : State) (id : Nat) (code : Nat) (hk : Keeps z s) :
    Keeps z (State.endWait s id code) := by
  unfold State.endWait
  repeat' first
    | with_reducible
      first
      | assumption | apply Keeps.ite | apply State.stopRest_keeps | apply State.endReq_keeps
      | fail_if_no_progress refine keeps_lit rfl rfl rfl rfl rfl rfl ?_
    | intro _ | extract_lets +onlyGivenNames t | split
    | (with_reducible apply keeps_snd (by with_reducible assumption))
    | (with_reducible apply keeps_fst (by with_reducible assumption)) | dsimp only [id] | dsimp +zetaDelta only

theorem State.yieldPfc_keeps {z : State} (s : State) (hk : Keeps z s) :
    Keeps z (State.yieldPfc s) := by
  unfold State.yieldPfc
  repeat' with_reducible first | assumption | (apply keeps_foldl; intro _ _ _) | apply State.sendPfc_keeps

theorem State.yieldUnit_keeps {z : State} (s : State) (drill : Bool) (hold : Bool) (hk : Keeps z s) :
    Keeps z (State.yieldUnit s drill hold) := by
  unfold State.yieldUnit
  repeat' first
    | with_reducible
      first
      | assumption | apply Keeps.ite | apply State.writeRole_keeps | apply State.pairEvent_keeps
      | apply State.yieldPfc_keeps | apply State.setPairState_keeps | apply State.endWait_keeps
      | apply State.bump_keeps | apply State.sendFrame_keeps | apply State.give_keeps
      | (apply keeps_foldl; intro _ _ _) | (apply keeps_foldl_fst; intro _ _ _)
      | fail_if_no_progress refine keeps_lit rfl rfl rfl rfl rfl rfl ?_
    | intro _ | extract_lets +onlyGivenNames t | split
    | (with_reducible apply keeps_snd (by with_reducible assumption))
    | (with_reducible apply keeps_fst (by with_reducible assumption)) | dsimp only [id] | dsimp +zetaDelta only

theorem execYieldUnit_keeps {z : State} (s : State) (hk : Keeps z s) :
    KeepsR z (execYieldUnit s) := by
  unfold execYieldUnit
  repeat' first
    | with_reducible
      first
      | assumption | apply KeepsR.next | apply Keeps.ite | apply State.raisePair_keeps
    | intro _ | extract_lets +onlyGivenNames t | split
    | (with_reducible apply keeps_snd (by with_reducible assumption))
    | (with_reducible apply keeps_fst (by with_reducible assumption)) | dsimp +zetaDelta only

theorem State.yieldNow_keeps {z : State} (s : State) (drill : Bool) (hold : Bool) (hk : Keeps z s) :
    Keeps z (State.yieldNow s drill hold) := by
  unfold State.yieldNow
  repeat' first
    | with_reducible
      first
      | assumption | apply Keeps.ite | apply State.eventDone_keeps | apply State.yieldUnit_keeps
      | fail_if_no_progress refine keeps_lit rfl rfl rfl rfl rfl rfl ?_
    | intro _ | extract_lets +onlyGivenNames t | split
    | (with_reducible apply keeps_snd (by with_reducible assumption))
    | (with_reducible apply keeps_fst (by with_reducible assumption)) | dsimp only [id] | dsimp +zetaDelta only

theorem execTakeoverStart_keeps {z : State} (s : State) (hk : Keeps z s) :
    KeepsR z (execTakeoverStart s) := by
  unfold execTakeoverStart
  repeat' first
    | with_reducible
      first
      | assumption | apply KeepsR.next | apply Keeps.ite | apply State.raisePair_keeps
      | fail_if_no_progress refine keeps_lit rfl rfl rfl rfl rfl rfl ?_
    | intro _ | extract_lets +onlyGivenNames t | split
    | (with_reducible apply keeps_snd (by with_reducible assumption))
    | (with_reducible apply keeps_fst (by with_reducible assumption)) | dsimp +zetaDelta only

theorem State.takeOver_keeps {z : State} (s : State) (hk : Keeps z s) :
    Keeps z (State.takeOver s) := by
  unfold State.takeOver
  repeat' first
    | with_reducible
      first
      | assumption | apply Keeps.ite | apply State.bump_keeps | apply State.journal_keeps
      | apply State.setPairState_keeps | apply State.soloEnter_keeps
      | fail_if_no_progress refine keeps_lit rfl rfl rfl rfl rfl rfl ?_
    | intro _ | extract_lets +onlyGivenNames t | split
    | (with_reducible apply keeps_snd (by with_reducible assumption))
    | (with_reducible apply keeps_fst (by with_reducible assumption)) | dsimp +zetaDelta only

theorem State.openRepeats_keeps {z : State} (s : State) (hk : Keeps z s) :
    Keeps z (State.openRepeats s) := by
  unfold State.openRepeats
  repeat' with_reducible
    first
    | assumption | apply Keeps.ite | fail_if_no_progress refine keeps_lit rfl rfl rfl rfl rfl rfl ?_

theorem execTakeoverPublish_keeps {z : State} (s : State) (hk : Keeps z s) :
    KeepsR z (execTakeoverPublish s) := by
  unfold execTakeoverPublish
  repeat' first
    | with_reducible
      first
      | assumption | apply KeepsR.next | apply Keeps.ite | apply State.raisePair_keeps
      | fail_if_no_progress refine keeps_lit rfl rfl rfl rfl rfl rfl ?_
    | intro _ | extract_lets +onlyGivenNames t | split
    | (with_reducible apply keeps_snd (by with_reducible assumption))
    | (with_reducible apply keeps_fst (by with_reducible assumption)) | dsimp +zetaDelta only

theorem State.serveBoth_keeps {z : State} (s : State) (hk : Keeps z s) :
    Keeps z (State.serveBoth s) := by
  unfold State.serveBoth
  repeat' first
    | with_reducible
      first
      | assumption | apply Keeps.ite | apply State.setReg_keeps | apply State.sendNotices_keeps
      | apply State.openRepeats_keeps | apply State.setServes_keeps
      | fail_if_no_progress refine keeps_lit rfl rfl rfl rfl rfl rfl ?_
    | intro _ | extract_lets +onlyGivenNames t | split
    | (with_reducible apply keeps_snd (by with_reducible assumption))
    | (with_reducible apply keeps_fst (by with_reducible assumption)) | dsimp +zetaDelta only

theorem execSoloDelayExpiry_keeps {z : State} (s : State) (hk : Keeps z s) :
    KeepsR z (execSoloDelayExpiry s) := by
  unfold execSoloDelayExpiry
  repeat' first
    | with_reducible
      first
      | assumption | apply KeepsR.next | apply Keeps.ite | apply State.raisePair_keeps
      | fail_if_no_progress refine keeps_lit rfl rfl rfl rfl rfl rfl ?_
    | intro _ | extract_lets +onlyGivenNames t | split
    | (with_reducible apply keeps_snd (by with_reducible assumption))
    | (with_reducible apply keeps_fst (by with_reducible assumption)) | dsimp +zetaDelta only

theorem State.goSolo_keeps {z : State} (s : State) (hk : Keeps z s) :
    Keeps z (State.goSolo s) := by
  unfold State.goSolo
  repeat' first
    | with_reducible
      first
      | assumption | apply Keeps.ite | apply State.writeRole_keeps | apply State.sendNotices_keeps
      | apply State.soloEnter_keeps | apply State.setPairState_keeps
    | intro _ | extract_lets +onlyGivenNames t | split
    | (with_reducible apply keeps_snd (by with_reducible assumption))
    | (with_reducible apply keeps_fst (by with_reducible assumption)) | dsimp +zetaDelta only

theorem execResyncStart_keeps {z : State} (s : State) (hk : Keeps z s) :
    KeepsR z (execResyncStart s) := by
  unfold execResyncStart
  repeat' first
    | with_reducible
      first
      | assumption | apply KeepsR.next | apply Keeps.ite | apply State.raisePair_keeps | apply State.holdGrounds_keeps
    | intro _ | extract_lets +onlyGivenNames t | split
    | (with_reducible apply keeps_snd (by with_reducible assumption))
    | (with_reducible apply keeps_fst (by with_reducible assumption)) | dsimp +zetaDelta only

theorem State.resyncSurvivor_keeps {z : State} (s : State) (ask : Bool) (marked : List Nat) (hk : Keeps z s) :
    Keeps z (State.resyncSurvivor s ask marked) := by
  unfold State.resyncSurvivor
  repeat' first
    | with_reducible
      first
      | assumption | apply Keeps.ite | apply State.showResync_keeps | apply State.sendCopy_keeps
      | apply State.sendTables_keeps | apply State.writeRole_keeps | apply State.jointEpoch_keeps
      | apply State.soloExit_keeps | fail_if_no_progress refine keeps_lit rfl rfl rfl rfl rfl rfl ?_
    | intro _ | extract_lets +onlyGivenNames t | split
    | (with_reducible apply keeps_snd (by with_reducible assumption))
    | (with_reducible apply keeps_fst (by with_reducible assumption)) | dsimp +zetaDelta only

theorem State.resyncSolo_keeps {z : State} (s : State) (hk : Keeps z s) :
    Keeps z (State.resyncSolo s) := by
  unfold State.resyncSolo
  repeat' first
    | with_reducible
      first
      | assumption | apply Keeps.ite | apply State.showResync_keeps | apply State.sendCopy_keeps
      | apply State.writeRole_keeps | apply State.setPairState_keeps | apply State.jointEpoch_keeps
      | apply State.soloExit_keeps | fail_if_no_progress refine keeps_lit rfl rfl rfl rfl rfl rfl ?_
    | intro _ | extract_lets +onlyGivenNames t | split
    | (with_reducible apply keeps_snd (by with_reducible assumption))
    | (with_reducible apply keeps_fst (by with_reducible assumption)) | dsimp +zetaDelta only

theorem State.resyncNow_keeps {z : State} (s : State) (hk : Keeps z s) :
    Keeps z (State.resyncNow s) := by
  unfold State.resyncNow
  repeat' first
    | with_reducible
      first
      | assumption | apply Keeps.ite | apply State.resyncSolo_keeps | apply State.showResync_keeps
      | apply State.writeRole_keeps | apply State.jointEpoch_keeps | apply State.resyncSurvivor_keeps
      | apply State.startWork_keeps | fail_if_no_progress refine keeps_lit rfl rfl rfl rfl rfl rfl ?_
    | intro _ | extract_lets +onlyGivenNames t | split
    | (with_reducible apply keeps_snd (by with_reducible assumption))
    | (with_reducible apply keeps_fst (by with_reducible assumption)) | dsimp +zetaDelta only

theorem State.adoptKey_keeps {z : State} (s : State) (e : Nat × Tenant) (hk : Keeps z s) :
    Keeps z (State.adoptKey s e) := by
  unfold State.adoptKey
  repeat' first
    | with_reducible
      first
      | assumption | apply Keeps.ite | apply State.loseKey_keeps | apply State.setKeySlot_keeps
      | fail_if_no_progress refine keeps_lit rfl rfl rfl rfl rfl rfl ?_
    | intro _ | extract_lets +onlyGivenNames t | split
    | (with_reducible apply keeps_snd (by with_reducible assumption))
    | (with_reducible apply keeps_fst (by with_reducible assumption)) | dsimp +zetaDelta only

theorem State.takeMetadata_keeps {z : State} (s : State) (hk : Keeps z s) :
    Keeps z (State.takeMetadata s) := by
  unfold State.takeMetadata
  repeat' first
    | with_reducible
      first
      | assumption | apply Keeps.ite | apply State.setF_keeps | apply State.setB_keeps | apply State.journal_keeps
      | apply State.fillPins_keeps | apply State.adoptKey_keeps | (apply keeps_foldl; intro _ _ _)
      | (apply keeps_foldl_fst; intro _ _ _) | fail_if_no_progress refine keeps_lit rfl rfl rfl rfl rfl rfl ?_
    | intro _ | extract_lets +onlyGivenNames t | split
    | (with_reducible apply keeps_snd (by with_reducible assumption))
    | (with_reducible apply keeps_fst (by with_reducible assumption)) | dsimp +zetaDelta only

theorem execMetadataDone_keeps {z : State} (s : State) (hk : Keeps z s) :
    KeepsR z (execMetadataDone s) := by
  unfold execMetadataDone
  repeat' first
    | with_reducible
      first
      | assumption | apply KeepsR.next | apply Keeps.ite | apply State.raisePair_keeps
    | intro _ | extract_lets +onlyGivenNames t | split
    | (with_reducible apply keeps_snd (by with_reducible assumption))
    | (with_reducible apply keeps_fst (by with_reducible assumption)) | dsimp +zetaDelta only

theorem execResyncCopyDone_keeps {z : State} (s : State) (hk : Keeps z s) :
    KeepsR z (execResyncCopyDone s) := by
  unfold execResyncCopyDone
  repeat' first
    | with_reducible
      first
      | assumption | apply KeepsR.next | apply Keeps.ite | apply State.sendNotices_keeps | apply State.setF_keeps
      | apply State.tell_keeps | apply State.journal_keeps | apply State.unmapPage_keeps
      | (apply keeps_foldl; intro _ _ _) | (apply keeps_foldl_fst; intro _ _ _)
      | fail_if_no_progress refine keeps_lit rfl rfl rfl rfl rfl rfl ?_
    | intro _ | extract_lets +onlyGivenNames t | split
    | (with_reducible apply keeps_snd (by with_reducible assumption))
    | (with_reducible apply keeps_fst (by with_reducible assumption)) | dsimp +zetaDelta only

theorem execReclaimSend_keeps {z : State} (s : State) (hk : Keeps z s) :
    KeepsR z (execReclaimSend s) := by
  unfold execReclaimSend
  repeat' with_reducible
    first
    | assumption | apply KeepsR.next | apply Keeps.ite | apply State.tell_keeps
    | fail_if_no_progress refine keeps_lit rfl rfl rfl rfl rfl rfl ?_

theorem execReturnSwitch_keeps {z : State} (s : State) (hk : Keeps z s) :
    KeepsR z (execReturnSwitch s) := by
  unfold execReturnSwitch
  repeat' first
    | with_reducible
      first
      | assumption | apply KeepsR.next | apply Keeps.ite | apply State.raisePair_keeps
      | fail_if_no_progress refine keeps_lit rfl rfl rfl rfl rfl rfl ?_
    | intro _ | extract_lets +onlyGivenNames t | split
    | (with_reducible apply keeps_snd (by with_reducible assumption))
    | (with_reducible apply keeps_fst (by with_reducible assumption)) | dsimp +zetaDelta only

theorem State.switchSides_keeps {z : State} (s : State) (hk : Keeps z s) :
    Keeps z (State.switchSides s) := by
  unfold State.switchSides
  repeat' first
    | with_reducible
      first
      | assumption | apply Keeps.ite | apply State.trySwitch_keeps | apply State.endReq_keeps
      | apply State.writeRole_keeps | apply State.pairEvent_keeps | apply State.bump_keeps
      | apply State.setServes_keeps | apply State.setPairState_keeps | apply State.jointEpoch_keeps
      | (apply keeps_foldl; intro _ _ _) | (apply keeps_foldl_fst; intro _ _ _)
      | fail_if_no_progress refine keeps_lit rfl rfl rfl rfl rfl rfl ?_
    | intro _ | extract_lets +onlyGivenNames t | split
    | (with_reducible apply keeps_snd (by with_reducible assumption))
    | (with_reducible apply keeps_fst (by with_reducible assumption)) | dsimp only [id] | dsimp +zetaDelta only

theorem execReturnAdmit_keeps {z : State} (s : State) (hk : Keeps z s) :
    KeepsR z (execReturnAdmit s) := by
  unfold execReturnAdmit
  repeat' with_reducible
    first
    | assumption | apply KeepsR.next | apply Keeps.ite | (apply keeps_foldl; intro _ _ _)
    | apply State.drainMiss_keeps | apply State.sendNotices_keeps
    | fail_if_no_progress refine keeps_lit rfl rfl rfl rfl rfl rfl ?_

theorem execDrill_keeps {z : State} (h : CmdHead) (side : Byte) (hold : Bool) (s : State) (hk : Keeps z s) :
    KeepsR z (execDrill h side hold s) := by
  unfold execDrill
  repeat' first
    | with_reducible
      first
      | assumption | apply KeepsR.next | apply Keeps.ite | apply State.command_keeps
      | fail_if_no_progress refine keeps_lit rfl rfl rfl rfl rfl rfl ?_
    | intro _

theorem execDrillYield_keeps {z : State} (s : State) (hk : Keeps z s) :
    KeepsR z (execDrillYield s) := by
  unfold execDrillYield
  repeat' first
    | with_reducible
      first
      | assumption | apply KeepsR.next | apply Keeps.ite | apply State.raisePair_keeps
      | fail_if_no_progress refine keeps_lit rfl rfl rfl rfl rfl rfl ?_
    | intro _ | extract_lets +onlyGivenNames t | split
    | (with_reducible apply keeps_snd (by with_reducible assumption))
    | (with_reducible apply keeps_fst (by with_reducible assumption)) | dsimp +zetaDelta only

theorem State.drillReturn_keeps {z : State} (s : State) (hk : Keeps z s) :
    Keeps z (State.drillReturn s) := by
  unfold State.drillReturn
  repeat' first
    | with_reducible
      first
      | assumption | apply Keeps.ite | apply State.raisePair_keeps
    | intro _ | extract_lets +onlyGivenNames t | split
    | (with_reducible apply keeps_snd (by with_reducible assumption))
    | (with_reducible apply keeps_fst (by with_reducible assumption)) | dsimp +zetaDelta only

theorem State.returnFromDrill_keeps {z : State} (s : State) (hk : Keeps z s) :
    Keeps z (State.returnFromDrill s) := by
  unfold State.returnFromDrill
  repeat' first
    | with_reducible
      first
      | assumption | apply Keeps.ite | apply State.sendPfc_keeps | apply State.enterReturning_keeps
      | (apply keeps_foldl; intro _ _ _) | (apply keeps_foldl_fst; intro _ _ _)
    | intro _ | extract_lets +onlyGivenNames t | split
    | (with_reducible apply keeps_snd (by with_reducible assumption))
    | (with_reducible apply keeps_fst (by with_reducible assumption)) | dsimp +zetaDelta only

theorem State.actPair_keeps {z : State} (s : State) (x : PairSignal) (hk : Keeps z s) :
    Keeps z (State.actPair s x) := by
  unfold State.actPair
  repeat' first
    | with_reducible
      first
      | assumption | apply Keeps.ite | apply State.serveAlone_keeps | apply State.decideRole_keeps
      | apply State.startAlone_keeps | apply State.pairLost_keeps | apply State.switchSides_keeps
      | apply State.takeMetadata_keeps | apply State.resyncNow_keeps | apply State.returnFromDrill_keeps
      | apply State.yieldNow_keeps | apply State.serveBoth_keeps | apply State.takeOver_keeps
      | apply State.writeRole_keeps | apply State.soloEnter_keeps | apply State.goSolo_keeps
      | apply State.setPairState_keeps | fail_if_no_progress refine keeps_lit rfl rfl rfl rfl rfl rfl ?_
    | intro _ | extract_lets +onlyGivenNames t | split
    | (with_reducible apply keeps_snd (by with_reducible assumption))
    | (with_reducible apply keeps_fst (by with_reducible assumption)) | dsimp +zetaDelta only

theorem State.actOnPair_keeps {z : State} (s : State) (hk : Keeps z s) :
    Keeps z (State.actOnPair s) := by
  unfold State.actOnPair
  repeat' first
    | with_reducible
      first
      | assumption | apply Keeps.ite | apply State.dropRepairs_keeps | apply State.actPair_keeps
      | (apply keeps_foldl; intro _ _ _) | (apply keeps_foldl_fst; intro _ _ _)
      | fail_if_no_progress refine keeps_lit rfl rfl rfl rfl rfl rfl ?_
    | intro _ | extract_lets +onlyGivenNames t | split
    | (with_reducible apply keeps_snd (by with_reducible assumption))
    | (with_reducible apply keeps_fst (by with_reducible assumption)) | dsimp +zetaDelta only

theorem execCmdSkewDetect_keeps {z : State} (s : State) (hk : Keeps z s) :
    KeepsR z (execCmdSkewDetect s) := by
  unfold execCmdSkewDetect
  repeat' first
    | with_reducible
      first
      | assumption | apply KeepsR.next | apply Keeps.ite | apply State.pairEvent_keeps | apply State.setB_keeps
    | intro _ | extract_lets +onlyGivenNames t | split
    | (with_reducible apply keeps_snd (by with_reducible assumption))
    | (with_reducible apply keeps_fst (by with_reducible assumption)) | dsimp +zetaDelta only

theorem execScmFormat_keeps {z : State} (h : CmdHead) (pairId : DWord) (metaRegions : Byte) (s : State)
    (hk : Keeps z s) : KeepsR z (execScmFormat h pairId metaRegions s) := by
  unfold execScmFormat
  repeat' first
    | with_reducible
      first
      | assumption | apply KeepsR.next | apply Keeps.ite | apply State.crossing_keeps | apply State.command_keeps
    | intro _ | extract_lets +onlyGivenNames t | split
    | (with_reducible apply keeps_snd (by with_reducible assumption))
    | (with_reducible apply keeps_fst (by with_reducible assumption)) | dsimp +zetaDelta only

/-! Machine/Integrity.lean -/

theorem State.pendIrq_keeps {z : State} (s : State) (k : Nat) (hk : Keeps z s) :
    Keeps z (State.pendIrq s k) := by
  unfold State.pendIrq
  exact keeps_lit rfl rfl rfl rfl rfl rfl hk

theorem State.stopStartup_keeps {z : State} (s : State) (hk : Keeps z s) :
    Keeps z (State.stopStartup s) := by
  unfold State.stopStartup
  repeat' first
    | with_reducible
      first
      | assumption | apply Keeps.ite | apply State.setB_keeps | (apply keeps_foldl; intro _ _ _)
      | (apply keeps_foldl_fst; intro _ _ _) | fail_if_no_progress refine keeps_lit rfl rfl rfl rfl rfl rfl ?_
    | intro _ | extract_lets +onlyGivenNames t | split
    | (with_reducible apply keeps_snd (by with_reducible assumption))
    | (with_reducible apply keeps_fst (by with_reducible assumption)) | dsimp +zetaDelta only

theorem State.yieldSignal_keeps {z : State} (s : State) (code : Nat) (source : Nat) (hk : Keeps z s) :
    Keeps z (State.yieldSignal s code source) := by
  unfold State.yieldSignal
  repeat' with_reducible
    first
    | assumption | apply Keeps.ite | apply State.pendIrq_keeps | apply State.setB_keeps | apply State.signal_keeps
    | apply State.stopStartup_keeps | apply State.sendFrame_keeps

theorem State.reaction_keeps {z : State} (s : State) (code : Nat) (source : Nat) (hk : Keeps z s) :
    Keeps z (State.reaction s code source) := by
  unfold State.reaction
  repeat' first
    | with_reducible
      first
      | assumption | apply Keeps.ite | apply State.pendIrq_keeps | apply State.signal_keeps
      | apply State.yieldSignal_keeps | fail_if_no_progress refine keeps_lit rfl rfl rfl rfl rfl rfl ?_
    | intro _ | extract_lets +onlyGivenNames t | split
    | (with_reducible apply keeps_snd (by with_reducible assumption))
    | (with_reducible apply keeps_fst (by with_reducible assumption)) | dsimp +zetaDelta only

theorem State.oneFault_keeps {z : State} (s : State) (code : Nat) (source : Nat) (hk : Keeps z s) :
    Keeps z (State.oneFault s code source) := by
  unfold State.oneFault
  repeat' first
    | with_reducible
      first
      | assumption | apply Keeps.ite | apply State.bump_keeps | apply State.setF_keeps | apply State.notify_keeps
      | apply State.trigger_keeps | apply State.reaction_keeps
      | fail_if_no_progress refine keeps_lit rfl rfl rfl rfl rfl rfl ?_
    | extract_lets +onlyGivenNames t | split

theorem State.countCe_keeps {z : State} (s : State) (n : Nat) (hk : Keeps z s) :
    Keeps z (State.countCe s n) := by
  unfold State.countCe
  repeat' with_reducible first | assumption | apply State.bumpBy_keeps

theorem State.countUe_keeps {z : State} (s : State) (hk : Keeps z s) :
    Keeps z (State.countUe s) := by
  unfold State.countUe
  repeat' with_reducible first | assumption | apply KeepsR.next | apply Keeps.ite | apply State.bump_keeps

theorem State.contextLost_keeps {z : State} (s : State) (q : BitVec 24) (hk : Keeps z s) :
    Keeps z (State.contextLost s q) := by
  unfold State.contextLost
  repeat' first
    | with_reducible
      first
      | assumption | apply State.qpError_keeps | apply State.setQp_keeps
      | fail_if_no_progress refine keeps_lit rfl rfl rfl rfl rfl rfl ?_
    | extract_lets +onlyGivenNames t | split

theorem State.sramUe_keeps {z : State} (s : State) (id : Nat) (wrong : BitVec 80) (item : Nat) (dirty : Bool) (hk : Keeps z s) :
    Keeps z (State.sramUe s id wrong item dirty) := by
  unfold State.sramUe
  repeat' first
    | with_reducible
      first
      | assumption | apply KeepsR.next | apply Keeps.ite | apply execDmaChannelHalt_keeps
      | apply State.bundleDown_keeps | apply State.linkDown_keeps | apply State.queueUe_keeps
      | apply State.mcpTrap_keeps | apply State.dropLine_keeps | apply State.stopStartup_keeps
      | apply State.contextLost_keeps | apply State.haltChannel_keeps | apply State.endReq_keeps
      | apply State.bump_keeps | apply State.tileUe_keeps | apply State.report_keeps | apply State.fetchUe_keeps
      | apply State.countUe_keeps | apply keepsR_elim (by assumption)
      | fail_if_no_progress refine keeps_lit rfl rfl rfl rfl rfl rfl ?_
    | intro _ | extract_lets +onlyGivenNames t | split
    | (with_reducible apply keeps_snd (by with_reducible assumption))
    | (with_reducible apply keeps_fst (by with_reducible assumption)) | dsimp only [id] | dsimp +zetaDelta only

theorem State.sramRead_keeps {z : State} (s : State) (id : Nat) (wrong : BitVec 80) (item : Nat) (dirty : Bool) (hk : Keeps z s) :
    Keeps z (State.sramRead s id wrong item dirty) := by
  unfold State.sramRead
  repeat' first
    | with_reducible
      first
      | assumption | apply Keeps.ite | apply State.sramUe_keeps | apply State.report_keeps | apply State.countCe_keeps
      | fail_if_no_progress refine keeps_lit rfl rfl rfl rfl rfl rfl ?_
    | intro _ | extract_lets +onlyGivenNames t | split
    | (with_reducible apply keeps_snd (by with_reducible assumption))
    | (with_reducible apply keeps_fst (by with_reducible assumption)) | dsimp only [id] | dsimp +zetaDelta only

theorem State.find1_keeps {z : State} (s : State) (x1 : Finding) (hk : Keeps z s) :
    Keeps z (State.find1 s x1) := by
  unfold State.find1
  repeat' first
    | with_reducible
      first
      | assumption | apply Keeps.ite | apply State.sramRead_keeps | apply State.report_keeps
      | fail_if_no_progress refine keeps_lit rfl rfl rfl rfl rfl rfl ?_
    | intro _ | extract_lets +onlyGivenNames t | split
    | (with_reducible apply keeps_snd (by with_reducible assumption))
    | (with_reducible apply keeps_fst (by with_reducible assumption)) | dsimp only [id] | dsimp +zetaDelta only

theorem execFaultReport_keeps {z : State} (found : List Finding) (disagree : Option (BitVec 12)) (s : State) (hk : Keeps z s) :
    KeepsR z (execFaultReport found disagree s) := by
  unfold execFaultReport
  repeat' first
    | with_reducible
      first
      | assumption | apply KeepsR.next | apply Keeps.ite | (apply keeps_foldl; intro _ _ _) | apply State.find1_keeps
      | apply State.report_keeps | apply State.setB_keeps | apply State.setReg_keeps | apply State.setPair_keeps
      | apply State.oneFault_keeps | fail_if_no_progress refine keeps_lit rfl rfl rfl rfl rfl rfl ?_
    | intro _ | extract_lets +onlyGivenNames t | split

theorem execDetectorTest_keeps {z : State} (missing : Option (BitVec 12)) (s : State) (hk : Keeps z s) :
    KeepsR z (execDetectorTest missing s) := by
  unfold execDetectorTest
  repeat' first
    | with_reducible
      first
      | assumption | apply KeepsR.next | apply State.report_keeps | apply State.bump_keeps
      | fail_if_no_progress refine keeps_lit rfl rfl rfl rfl rfl rfl ?_
    | extract_lets +onlyGivenNames t | split

theorem execClockCheck_keeps {z : State} (fault : Option (Fin 4)) (s : State) (hk : Keeps z s) :
    KeepsR z (execClockCheck fault s) := by
  unfold execClockCheck
  repeat' first
    | with_reducible
      first
      | assumption | apply KeepsR.next | apply State.report_keeps
      | fail_if_no_progress refine keeps_lit rfl rfl rfl rfl rfl rfl ?_
    | extract_lets +onlyGivenNames t | split

theorem execSramScrub_keeps {z : State} (found : Option Finding) (progress : BitVec 10) (last : Bool) (s : State) (hk : Keeps z s) :
    KeepsR z (execSramScrub found progress last s) := by
  unfold execSramScrub
  repeat' first
    | with_reducible
      first
      | assumption | apply KeepsR.next | apply Keeps.ite | apply State.setF_keeps | apply State.find1_keeps
      | fail_if_no_progress refine keeps_lit rfl rfl rfl rfl rfl rfl ?_
    | intro _ | extract_lets +onlyGivenNames t | split
    | (with_reducible apply keeps_snd (by with_reducible assumption))
    | (with_reducible apply keeps_fst (by with_reducible assumption)) | dsimp +zetaDelta only

/-! Machine/Transport.lean -/

theorem execLogicalPortUp_keeps {z : State} (lp : Fin 32) (s : State) (hk : Keeps z s) :
    KeepsR z (execLogicalPortUp lp s) := by
  unfold execLogicalPortUp
  repeat' first
    | with_reducible
      first
      | assumption | apply KeepsR.next | apply Keeps.ite | apply State.sendHeld_keeps | apply State.setB_keeps
      | fail_if_no_progress refine keeps_lit rfl rfl rfl rfl rfl rfl ?_
    | intro _ | extract_lets +onlyGivenNames t | split
    | (with_reducible apply keeps_snd (by with_reducible assumption))
    | (with_reducible apply keeps_fst (by with_reducible assumption)) | dsimp +zetaDelta only

theorem execLogicalPortDown_keeps {z : State} (lp : Fin 32) (s : State) (hk : Keeps z s) :
    KeepsR z (execLogicalPortDown lp s) := by
  unfold execLogicalPortDown
  repeat' with_reducible first | assumption | apply KeepsR.next | apply State.portDown_keeps

theorem execRdmaReadRequest_keeps {z : State} (p : Pkt) (r : Reth) (copiesDiffer : Bool) (s : State) (hk : Keeps z s) :
    KeepsR z (execRdmaReadRequest p r copiesDiffer s) := by
  unfold execRdmaReadRequest
  repeat' first
    | with_reducible
      first
      | assumption | apply KeepsR.next | apply Keeps.ite | apply State.admitPkt_keeps | apply State.joinMiss_keeps
      | apply State.report_keeps | apply State.receiveThen_keeps
    | intro _ | extract_lets +onlyGivenNames t | split
    | (with_reducible apply keeps_snd (by with_reducible assumption))
    | (with_reducible apply keeps_fst (by with_reducible assumption)) | dsimp +zetaDelta only

theorem execRdmaWriteFirst_keeps {z : State} (p : Pkt) (r : Reth) (only : Bool) (payload : List Byte) (s : State) (hk : Keeps z s) :
    KeepsR z (execRdmaWriteFirst p r only payload s) := by
  unfold execRdmaWriteFirst
  repeat' with_reducible first | assumption | apply KeepsR.next | apply Keeps.ite | apply State.receive_keeps

theorem execRdmaWriteMiddle_keeps {z : State} (p : Pkt) (last : Bool) (payload : List Byte) (s : State) (hk : Keeps z s) :
    KeepsR z (execRdmaWriteMiddle p last payload s) := by
  unfold execRdmaWriteMiddle
  repeat' with_reducible first | assumption | apply KeepsR.next | apply Keeps.ite | apply State.receive_keeps

theorem execCmpswap_keeps {z : State} (p : Pkt) (rkey : Word) (va : DWord) (cmp : DWord) (swap : DWord) (s : State) (hk : Keeps z s) :
    KeepsR z (execCmpswap p rkey va cmp swap s) := by
  unfold execCmpswap
  repeat' with_reducible first | assumption | apply KeepsR.next | apply State.receive_keeps

theorem execFetchadd_keeps {z : State} (p : Pkt) (rkey : Word) (va : DWord) (add : DWord) (s : State) (hk : Keeps z s) :
    KeepsR z (execFetchadd p rkey va add s) := by
  unfold execFetchadd
  repeat' with_reducible first | assumption | apply KeepsR.next | apply State.receive_keeps

theorem execAtomicWrite_keeps {z : State} (p : Pkt) (rkey : Word) (va : DWord) (data : DWord) (s : State) (hk : Keeps z s) :
    KeepsR z (execAtomicWrite p rkey va data s) := by
  unfold execAtomicWrite
  repeat' with_reducible first | assumption | apply KeepsR.next | apply State.receive_keeps

theorem execFlush_keeps {z : State} (p : Pkt) (r : Reth) (sel : Byte) (placement : Byte) (s : State) (hk : Keeps z s) :
    KeepsR z (execFlush p r sel placement s) := by
  unfold execFlush
  repeat' with_reducible first | assumption | apply KeepsR.next | apply State.receive_keeps

theorem execSend_keeps {z : State} (p : Pkt) (part : Part) (payload : List Byte) (s : State) (hk : Keeps z s) :
    KeepsR z (execSend p part payload s) := by
  unfold execSend
  repeat' with_reducible first | assumption | apply KeepsR.next | apply State.receive_keeps

theorem execAcknowledge_keeps {z : State} (p : Pkt) (kind : AckKind) (s : State) (hk : Keeps z s) :
    KeepsR z (execAcknowledge p kind s) := by
  unfold execAcknowledge
  repeat' with_reducible first | assumption | apply KeepsR.next | apply State.receive_keeps

theorem execCnpReceived_keeps {z : State} (p : Pkt) (s : State) (hk : Keeps z s) :
    KeepsR z (execCnpReceived p s) := by
  unfold execCnpReceived
  repeat' with_reducible first | assumption | apply KeepsR.next | apply State.receive_keeps

theorem execRdmaReadResponseRx_keeps {z : State} (p : Pkt) (opcode : Byte) (s : State) (hk : Keeps z s) :
    KeepsR z (execRdmaReadResponseRx p opcode s) := by
  unfold execRdmaReadResponseRx
  repeat' first
    | with_reducible
      first
      | assumption | apply KeepsR.next | apply Keeps.ite | apply State.bump_keeps | apply State.arrive_keeps
    | intro _ | extract_lets +onlyGivenNames t | split
    | (with_reducible apply keeps_snd (by with_reducible assumption))
    | (with_reducible apply keeps_fst (by with_reducible assumption)) | dsimp +zetaDelta only

theorem execUnsupportedOpcode_keeps {z : State} (p : Pkt) (rc : Bool) (opcode : Byte) (s : State) (hk : Keeps z s) :
    KeepsR z (execUnsupportedOpcode p rc opcode s) := by
  unfold execUnsupportedOpcode
  repeat' first
    | with_reducible
      first
      | assumption | apply KeepsR.next | apply Keeps.ite | apply State.arrive_keeps | apply State.receive_keeps
    | intro _ | extract_lets +onlyGivenNames t | split
    | (with_reducible apply keeps_snd (by with_reducible assumption))
    | (with_reducible apply keeps_fst (by with_reducible assumption)) | dsimp only [id] | dsimp +zetaDelta only

theorem execArpRequest_keeps {z : State} (lp : Fin 32) (vlan : Option (BitVec 12)) (target : Word) (senderMac : BitVec 48) (senderIp : Word) (s : State) (hk : Keeps z s) :
    KeepsR z (execArpRequest lp vlan target senderMac senderIp s) := by
  unfold execArpRequest
  repeat' first
    | with_reducible
      first
      | assumption | apply KeepsR.next | apply Keeps.ite | apply State.bump_keeps | apply State.enqueue_keeps
      | fail_if_no_progress refine keeps_lit rfl rfl rfl rfl rfl rfl ?_
    | intro _ | extract_lets +onlyGivenNames t | split
    | (with_reducible apply keeps_snd (by with_reducible assumption))
    | (with_reducible apply keeps_fst (by with_reducible assumption)) | dsimp +zetaDelta only

theorem execNeighborSolicitation_keeps {z : State} (lp : Fin 32) (vlan : Option (BitVec 12)) (target : BitVec 128) (senderMac : BitVec 48) (senderIp : BitVec 128) (s : State) (hk : Keeps z s) :
    KeepsR z (execNeighborSolicitation lp vlan target senderMac senderIp s) := by
  unfold execNeighborSolicitation
  repeat' first
    | with_reducible
      first
      | assumption | apply KeepsR.next | apply Keeps.ite | apply State.bump_keeps | apply State.enqueue_keeps
      | fail_if_no_progress refine keeps_lit rfl rfl rfl rfl rfl rfl ?_
    | intro _ | extract_lets +onlyGivenNames t | split
    | (with_reducible apply keeps_snd (by with_reducible assumption))
    | (with_reducible apply keeps_fst (by with_reducible assumption)) | dsimp +zetaDelta only

theorem execPfcFrame_keeps {z : State} (lp : Fin 32) (quanta : List (Fin 8 × BitVec 16)) (s : State) (hk : Keeps z s) :
    KeepsR z (execPfcFrame lp quanta s) := by
  unfold execPfcFrame
  repeat' first
    | with_reducible
      first
      | assumption | apply KeepsR.next | apply Keeps.ite | (apply keeps_foldl; intro _ _ _)
      | (apply keeps_foldl_fst; intro _ _ _) | fail_if_no_progress refine keeps_lit rfl rfl rfl rfl rfl rfl ?_
    | intro _ | extract_lets +onlyGivenNames t | split
    | (with_reducible apply keeps_snd (by with_reducible assumption))
    | (with_reducible apply keeps_fst (by with_reducible assumption)) | dsimp +zetaDelta only

theorem execPfcPauseExpiry_keeps {z : State} (lp : Fin 32) (prio : Fin 8) (s : State) (hk : Keeps z s) :
    KeepsR z (execPfcPauseExpiry lp prio s) := by
  unfold execPfcPauseExpiry
  repeat' first
    | with_reducible
      first
      | assumption | apply KeepsR.next | apply Keeps.ite
      | fail_if_no_progress refine keeps_lit rfl rfl rfl rfl rfl rfl ?_
    | intro _ | extract_lets +onlyGivenNames t | split
    | (with_reducible apply keeps_snd (by with_reducible assumption))
    | (with_reducible apply keeps_fst (by with_reducible assumption)) | dsimp +zetaDelta only

theorem execOtherFrameDrop_keeps {z : State} (lp : Fin 32) (ptp : Option PtpEvent) (s : State) (hk : Keeps z s) :
    KeepsR z (execOtherFrameDrop lp ptp s) := by
  unfold execOtherFrameDrop
  repeat' first
    | with_reducible
      first
      | assumption | apply KeepsR.next | apply Keeps.ite | apply State.capture_keeps | apply State.bump_keeps
      | fail_if_no_progress refine keeps_lit rfl rfl rfl rfl rfl rfl ?_
    | extract_lets +onlyGivenNames t | split

theorem execBadCrcFrame_keeps {z : State} (lp : Fin 32) (s : State) (hk : Keeps z s) :
    KeepsR z (execBadCrcFrame lp s) := by
  unfold execBadCrcFrame
  repeat' with_reducible first | assumption | apply KeepsR.next | apply Keeps.ite | apply State.bump_keeps

theorem execPfcRepeat_keeps {z : State} (lp : Fin 32) (prio : Fin 8) (occ : Nat) (s : State) (hk : Keeps z s) :
    KeepsR z (execPfcRepeat lp prio occ s) := by
  unfold execPfcRepeat
  repeat' first
    | with_reducible
      first
      | assumption | apply KeepsR.next | apply Keeps.ite | apply State.sendPfc_keeps | apply State.ingress_keeps
    | intro _ | extract_lets +onlyGivenNames t | split
    | (with_reducible apply keeps_snd (by with_reducible assumption))
    | (with_reducible apply keeps_fst (by with_reducible assumption)) | dsimp +zetaDelta only

theorem State.installQp_keeps {z : State} (s : State) (q : BitVec 24) (hk : Keeps z s) :
    Keeps z (State.installQp s q) := by
  unfold State.installQp
  repeat' first
    | with_reducible
      first
      | assumption | apply Keeps.ite | fail_if_no_progress refine keeps_lit rfl rfl rfl rfl rfl rfl ?_
    | intro _ | extract_lets +onlyGivenNames t | split
    | (with_reducible apply keeps_snd (by with_reducible assumption))
    | (with_reducible apply keeps_fst (by with_reducible assumption)) | dsimp +zetaDelta only

theorem execContextFetchDone_keeps {z : State} (qpn : BitVec 24) (occ : Nat) (s : State) (hk : Keeps z s) :
    KeepsR z (execContextFetchDone qpn occ s) := by
  unfold execContextFetchDone
  repeat' first
    | with_reducible
      first
      | assumption | apply KeepsR.next | apply Keeps.ite | apply State.ingress_keeps | apply State.drainMiss_keeps
      | apply State.installQp_keeps | fail_if_no_progress refine keeps_lit rfl rfl rfl rfl rfl rfl ?_
    | intro _ | extract_lets +onlyGivenNames t | split
    | (with_reducible apply keeps_snd (by with_reducible assumption))
    | (with_reducible apply keeps_fst (by with_reducible assumption)) | dsimp +zetaDelta only

theorem execDescriptorFetchDone_keeps {z : State} (index : BitVec 24) (s : State) (hk : Keeps z s) :
    KeepsR z (execDescriptorFetchDone index s) := by
  unfold execDescriptorFetchDone
  repeat' first
    | with_reducible
      first
      | assumption | apply KeepsR.next | apply Keeps.ite | apply State.drainMiss_keeps
      | (apply keeps_foldl; intro _ _ _) | (apply keeps_foldl_fst; intro _ _ _)
      | fail_if_no_progress refine keeps_lit rfl rfl rfl rfl rfl rfl ?_
    | intro _ | extract_lets +onlyGivenNames t | split
    | (with_reducible apply keeps_snd (by with_reducible assumption))
    | (with_reducible apply keeps_fst (by with_reducible assumption)) | dsimp +zetaDelta only

theorem execContextInvalidationDone_keeps {z : State} (s : State) (hk : Keeps z s) :
    KeepsR z (execContextInvalidationDone s) := by
  unfold execContextInvalidationDone
  repeat' with_reducible
    first
    | assumption | apply KeepsR.next | apply Keeps.ite | apply State.setB_keeps
    | fail_if_no_progress refine keeps_lit rfl rfl rfl rfl rfl rfl ?_

theorem execKeyCacheInvalidationDone_keeps {z : State} (s : State) (hk : Keeps z s) :
    KeepsR z (execKeyCacheInvalidationDone s) := by
  unfold execKeyCacheInvalidationDone
  repeat' with_reducible
    first
    | assumption | apply KeepsR.next | apply Keeps.ite | apply State.setB_keeps
    | fail_if_no_progress refine keeps_lit rfl rfl rfl rfl rfl rfl ?_

theorem execAckTimeout_keeps {z : State} (qpn : BitVec 24) (s : State) (hk : Keeps z s) :
    KeepsR z (execAckTimeout qpn s) := by
  unfold execAckTimeout
  repeat' first
    | with_reducible
      first
      | assumption | apply KeepsR.next | apply Keeps.ite | apply State.requesterError_keeps
      | apply State.retransmit_keeps | apply State.setQp_keeps
      | fail_if_no_progress refine keeps_lit rfl rfl rfl rfl rfl rfl ?_
    | extract_lets +onlyGivenNames t | split

theorem execRnrTimerExpiry_keeps {z : State} (qpn : BitVec 24) (s : State) (hk : Keeps z s) :
    KeepsR z (execRnrTimerExpiry qpn s) := by
  unfold execRnrTimerExpiry
  repeat' first
    | with_reducible
      first
      | assumption | apply KeepsR.next | apply Keeps.ite | apply State.retransmit_keeps | apply State.setQp_keeps
      | fail_if_no_progress refine keeps_lit rfl rfl rfl rfl rfl rfl ?_
    | extract_lets +onlyGivenNames t | split

theorem execCcRateIncrease_keeps {z : State} (qpn : BitVec 24) (s : State) (hk : Keeps z s) :
    KeepsR z (execCcRateIncrease qpn s) := by
  unfold execCcRateIncrease
  repeat' first
    | with_reducible
      first
      | assumption | apply KeepsR.next | apply Keeps.ite | apply State.setQp_keeps
      | fail_if_no_progress refine keeps_lit rfl rfl rfl rfl rfl rfl ?_
    | extract_lets +onlyGivenNames t | split

theorem execPacedRelease_keeps {z : State} (qpn : BitVec 24) (s : State) (hk : Keeps z s) :
    KeepsR z (execPacedRelease qpn s) := by
  unfold execPacedRelease
  repeat' first
    | with_reducible
      first
      | assumption | apply KeepsR.next | apply Keeps.ite | apply State.sendNow_keeps
      | fail_if_no_progress refine keeps_lit rfl rfl rfl rfl rfl rfl ?_
    | intro _ | extract_lets +onlyGivenNames t | split
    | (with_reducible apply keeps_snd (by with_reducible assumption))
    | (with_reducible apply keeps_fst (by with_reducible assumption)) | dsimp +zetaDelta only

theorem State.settleLoan_keeps {z : State} (s : State) (lp : Nat) (cycle : Nat) (hk : Keeps z s) :
    Keeps z (State.settleLoan s lp cycle) := by
  unfold State.settleLoan
  repeat' first
    | with_reducible
      first
      | assumption | apply Keeps.ite | fail_if_no_progress refine keeps_lit rfl rfl rfl rfl rfl rfl ?_
    | intro _ | extract_lets +onlyGivenNames t | split
    | (with_reducible apply keeps_snd (by with_reducible assumption))
    | (with_reducible apply keeps_fst (by with_reducible assumption)) | dsimp +zetaDelta only

theorem execPortEgress_keeps {z : State} (lp : Fin 32) (cycle : Fin 1025) (s : State) (hk : Keeps z s) :
    KeepsR z (execPortEgress lp cycle s) := by
  unfold execPortEgress
  repeat' first
    | with_reducible
      first
      | assumption | apply KeepsR.next | apply Keeps.ite | apply State.captureQp_keeps | apply State.useRis_keeps
      | apply State.settleLoan_keeps | fail_if_no_progress refine keeps_lit rfl rfl rfl rfl rfl rfl ?_
    | intro _ | extract_lets +onlyGivenNames t | split
    | (with_reducible apply keeps_snd (by with_reducible assumption))
    | (with_reducible apply keeps_fst (by with_reducible assumption)) | dsimp +zetaDelta only

end Sys2Proof.Machine
end

