-- ==== Sys2Proof/Laws/KeepsBoard.lean ====
section
/-! SUPPORT. The sequencer, the two-wire bus, the recorder, the register bus and start-up:
each operation keeps the queue and the canonical memories (`Keeps`). -/

namespace Sys2Proof.Machine

open Sys2Proof

/-! Machine/Sequencer.lean -/

theorem State.revert_keeps {z : State} (s : State) (u : Undo) (hk : Keeps z s) :
    Keeps z (State.revert s u) := by
  unfold State.revert
  split
  · refine keeps_litw rfl id (fun w => ?_) id id id hk
    dsimp only
    split
    · exact w
    · exact Maps.wf_filter _ w
  · exact State.setLink_keeps _ _ _ hk
  all_goals exact keeps_lit rfl rfl rfl rfl rfl rfl hk

theorem State.lastPlaced_keeps {z : State} (s : State) (hk : Keeps z s) :
    Keeps z (State.lastPlaced s) := by
  unfold State.lastPlaced
  repeat' first
    | with_reducible
      first
      | assumption | apply Keeps.ite | apply State.revert_keeps | (apply keeps_foldl; intro _ _ _)
      | (apply keeps_foldl_fst; intro _ _ _)
    | intro _ | extract_lets +onlyGivenNames t | split
    | (with_reducible apply keeps_snd (by with_reducible assumption))
    | (with_reducible apply keeps_fst (by with_reducible assumption)) | dsimp +zetaDelta only

theorem State.survive_keeps {z : State} (s : State) (keep : Nat → Bool) (hk : Keeps z s) :
    Keeps z (State.survive s keep) := by
  unfold State.survive
  extract_lets +onlyGivenNames s1 regs _ t meta' temps
  have h1 : Keeps z s1 := State.lastPlaced_keeps _ hk
  clear_value s1
  have ht : Keeps z t := by
    refine keeps_litw rfl (fun w => ?_) (fun w => w) (fun _ => Maps.wf_nil _) (fun _ => Maps.wf_nil _) (fun w => w) h1
    exact Bar.wf_mk (Maps.wf_filter _ (Bar.wf_val w)) (Maps.wf_filter _ (Bar.wf_eff w)) (Maps.wf_filter _ (Bar.wf_copy w))
  clear_value t meta'
  exact State.setReg_keeps _ _ _ (keeps_foldl _ _ (fun _ _ h => State.setReg_keeps _ _ _ h) ht)

theorem State.coreLost_keeps {z : State} (s : State) (hk : Keeps z s) :
    Keeps z (State.coreLost s) := by
  unfold State.coreLost
  repeat' first
    | with_reducible
      first
      | assumption | apply Keeps.ite | apply State.buffer_keeps | apply State.setF_keeps | apply State.survive_keeps
      | apply State.interruptFlash_keeps | fail_if_no_progress refine keeps_lit rfl rfl rfl rfl rfl rfl ?_
    | intro _ | extract_lets +onlyGivenNames t | split
    | (with_reducible apply keeps_snd (by with_reducible assumption))
    | (with_reducible apply keeps_fst (by with_reducible assumption)) | dsimp +zetaDelta only

theorem execVaonInLoss_keeps {z : State} (s : State) (hk : Keeps z s) :
    KeepsR z (execVaonInLoss s) := by
  unfold execVaonInLoss
  repeat' with_reducible
    first
    | assumption | apply KeepsR.next | apply State.survive_keeps | apply State.interruptFlash_keeps

theorem State.setPhase_keeps {z : State} (s : State) (p : Nat) (hk : Keeps z s) :
    Keeps z (State.setPhase s p) := by
  unfold State.setPhase
  repeat' with_reducible first | assumption | apply KeepsR.next | apply Keeps.ite | apply State.setF_keeps

theorem State.seqTime_keeps {z : State} (s : State) (us : Nat) (hk : Keeps z s) :
    Keeps z (State.seqTime s us) := by
  unfold State.seqTime
  repeat' with_reducible first | assumption | apply State.setReg_keeps

theorem State.setPowerState_keeps {z : State} (s : State) (p : Nat) (hk : Keeps z s) :
    Keeps z (State.setPowerState s p) := by
  unfold State.setPowerState
  repeat' with_reducible
    first
    | assumption | apply KeepsR.next | apply Keeps.ite | apply State.trigger_keeps | apply State.setF_keeps

theorem State.offSequence_keeps {z : State} (s : State) (bit : Nat) (standby : Bool) (hk : Keeps z s) :
    Keeps z (State.offSequence s bit standby) := by
  unfold State.offSequence
  repeat' with_reducible
    first
    | assumption | apply Keeps.ite | apply State.pend_keeps | apply State.setB_keeps | apply State.seqTime_keeps
    | apply State.setPhase_keeps | apply State.trigger_keeps
    | fail_if_no_progress refine keeps_lit rfl rfl rfl rfl rfl rfl ?_

theorem State.onSequence_keeps {z : State} (s : State) (hk : Keeps z s) :
    Keeps z (State.onSequence s) := by
  unfold State.onSequence
  repeat' with_reducible
    first
    | assumption | apply Keeps.ite | apply State.setB_keeps | apply State.seqTime_keeps | apply State.setPhase_keeps
    | fail_if_no_progress refine keeps_lit rfl rfl rfl rfl rfl rfl ?_

theorem execInputOkLow_keeps {z : State} (s : State) (hk : Keeps z s) :
    KeepsR z (execInputOkLow s) := by
  unfold execInputOkLow
  repeat' with_reducible first | assumption | apply KeepsR.next | apply State.offSequence_keeps | apply State.setB_keeps

theorem execInputOkQualified_keeps {z : State} (s : State) (hk : Keeps z s) :
    KeepsR z (execInputOkQualified s) := by
  unfold execInputOkQualified
  repeat' first
    | with_reducible
      first
      | assumption | apply KeepsR.next | apply Keeps.ite | apply State.onSequence_keeps | apply State.recorderGo_keeps
      | apply State.setB_keeps
    | intro _ | extract_lets +onlyGivenNames t | split
    | (with_reducible apply keeps_snd (by with_reducible assumption))
    | (with_reducible apply keeps_fst (by with_reducible assumption)) | dsimp +zetaDelta only

theorem execFaultNLow_keeps {z : State} (s : State) (hk : Keeps z s) :
    KeepsR z (execFaultNLow s) := by
  unfold execFaultNLow
  repeat' with_reducible
    first
    | assumption | apply KeepsR.next | apply Keeps.ite | apply State.offSequence_keeps | apply State.setB_keeps

theorem execFaultNHigh_keeps {z : State} (s : State) (hk : Keeps z s) :
    KeepsR z (execFaultNHigh s) := by
  unfold execFaultNHigh
  repeat' first
    | with_reducible
      first
      | assumption | apply KeepsR.next | apply Keeps.ite | apply State.onSequence_keeps | apply State.setB_keeps
    | intro _ | extract_lets +onlyGivenNames t | split
    | (with_reducible apply keeps_snd (by with_reducible assumption))
    | (with_reducible apply keeps_fst (by with_reducible assumption)) | dsimp +zetaDelta only

theorem State.wakeUp_keeps {z : State} (s : State) (by' : Nat) (hk : Keeps z s) :
    Keeps z (State.wakeUp s by') := by
  unfold State.wakeUp
  repeat' first
    | with_reducible
      first
      | assumption | apply Keeps.ite | apply State.onSequence_keeps | apply State.setF_keeps
      | fail_if_no_progress refine keeps_lit rfl rfl rfl rfl rfl rfl ?_
    | intro _ | extract_lets +onlyGivenNames t | split
    | (with_reducible apply keeps_snd (by with_reducible assumption))
    | (with_reducible apply keeps_fst (by with_reducible assumption)) | dsimp +zetaDelta only

theorem execOnSequenceStart_keeps {z : State} (ms : Nat) (s : State) (hk : Keeps z s) :
    KeepsR z (execOnSequenceStart ms s) := by
  unfold execOnSequenceStart
  repeat' first
    | with_reducible
      first
      | assumption | apply KeepsR.next | apply Keeps.ite | apply State.onSequence_keeps | apply State.setF_keeps
    | intro _ | extract_lets +onlyGivenNames t | split
    | (with_reducible apply keeps_snd (by with_reducible assumption))
    | (with_reducible apply keeps_fst (by with_reducible assumption)) | dsimp +zetaDelta only

theorem execPwrbtnPress_keeps {z : State} (s : State) (hk : Keeps z s) :
    KeepsR z (execPwrbtnPress s) := by
  unfold execPwrbtnPress
  repeat' with_reducible
    first
    | assumption | apply KeepsR.next | apply State.setB_keeps
    | fail_if_no_progress refine keeps_lit rfl rfl rfl rfl rfl rfl ?_

theorem execPwrbtnRelease_keeps {z : State} (s : State) (hk : Keeps z s) :
    KeepsR z (execPwrbtnRelease s) := by
  unfold execPwrbtnRelease
  repeat' first
    | with_reducible
      first
      | assumption | apply KeepsR.next | apply Keeps.ite | apply State.wakeUp_keeps | apply State.pend_keeps
      | apply State.notify_keeps | apply State.setB_keeps
      | fail_if_no_progress refine keeps_lit rfl rfl rfl rfl rfl rfl ?_
    | intro _ | extract_lets +onlyGivenNames t | split
    | (with_reducible apply keeps_snd (by with_reducible assumption))
    | (with_reducible apply keeps_fst (by with_reducible assumption)) | dsimp +zetaDelta only

theorem execLongpress_keeps {z : State} (s : State) (hk : Keeps z s) :
    KeepsR z (execLongpress s) := by
  unfold execLongpress
  repeat' with_reducible
    first
    | assumption | apply KeepsR.next | apply Keeps.ite | apply State.offSequence_keeps
    | fail_if_no_progress refine keeps_lit rfl rfl rfl rfl rfl rfl ?_

theorem execShutdown_keeps {z : State} (rq : Requester) (s : State) (hk : Keeps z s) :
    KeepsR z (execShutdown rq s) := by
  unfold execShutdown
  repeat' with_reducible first | assumption | apply KeepsR.next | apply State.offSequence_keeps

theorem execMrstAssert_keeps {z : State} (s : State) (hk : Keeps z s) :
    KeepsR z (execMrstAssert s) := by
  unfold execMrstAssert
  repeat' first
    | with_reducible
      first
      | assumption | apply KeepsR.next | apply Keeps.ite | apply State.buffer_keeps | apply State.setF_keeps
      | apply State.setB_keeps | apply State.survive_keeps | apply State.interruptFlash_keeps
      | fail_if_no_progress refine keeps_lit rfl rfl rfl rfl rfl rfl ?_
    | intro _ | extract_lets +onlyGivenNames t | split
    | (with_reducible apply keeps_snd (by with_reducible assumption))
    | (with_reducible apply keeps_fst (by with_reducible assumption)) | dsimp +zetaDelta only

theorem execMrstRelease_keeps {z : State} (s : State) (hk : Keeps z s) :
    KeepsR z (execMrstRelease s) := by
  unfold execMrstRelease
  repeat' with_reducible
    first
    | assumption | apply KeepsR.next | apply Keeps.ite | apply State.setB_keeps
    | fail_if_no_progress refine keeps_lit rfl rfl rfl rfl rfl rfl ?_

theorem State.tableLoaded_keeps {z : State} (s : State) (hk : Keeps z s) :
    Keeps z (State.tableLoaded s) := by
  unfold State.tableLoaded
  repeat' first
    | with_reducible
      first
      | assumption | apply Keeps.ite | apply State.onSequence_keeps
      | fail_if_no_progress refine keeps_lit rfl rfl rfl rfl rfl rfl ?_
    | intro _ | extract_lets +onlyGivenNames t | split
    | (with_reducible apply keeps_snd (by with_reducible assumption))
    | (with_reducible apply keeps_fst (by with_reducible assumption)) | dsimp +zetaDelta only

theorem execTableLoad_keeps {z : State} (table : Option (List Byte)) (s : State) (hk : Keeps z s) :
    KeepsR z (execTableLoad table s) := by
  unfold execTableLoad
  repeat' first
    | with_reducible
      first
      | assumption | apply KeepsR.next | apply Keeps.ite | apply State.tableLoaded_keeps | apply State.setB_keeps
      | apply State.setReg_keeps | apply State.setF_keeps | (apply keeps_foldl; intro _ _ _)
      | (apply keeps_foldl_fst; intro _ _ _) | fail_if_no_progress refine keeps_lit rfl rfl rfl rfl rfl rfl ?_
    | intro _ | extract_lets +onlyGivenNames t | split
    | (with_reducible apply keeps_snd (by with_reducible assumption))
    | (with_reducible apply keeps_fst (by with_reducible assumption)) | dsimp +zetaDelta only

theorem State.slotFault_keeps {z : State} (s : State) (n : Nat) (bit : Nat) (hk : Keeps z s) :
    Keeps z (State.slotFault s n bit) := by
  unfold State.slotFault
  repeat' with_reducible first | assumption | apply State.offSequence_keeps | apply State.setF_keeps

theorem State.switchSlot_keeps {z : State} (s : State) (n : Nat) (on : Bool) (hk : Keeps z s) :
    Keeps z (State.switchSlot s n on) := by
  unfold State.switchSlot
  repeat' first
    | with_reducible
      first
      | assumption | apply Keeps.ite | fail_if_no_progress refine keeps_lit rfl rfl rfl rfl rfl rfl ?_
    | intro _ | extract_lets +onlyGivenNames t | split
    | (with_reducible apply keeps_snd (by with_reducible assumption))
    | (with_reducible apply keeps_fst (by with_reducible assumption)) | dsimp +zetaDelta only

theorem execSlotEnable_keeps {z : State} (slot : Fin 32) (us : Nat) (nacks : Fin 4) (s : State) (hk : Keeps z s) :
    KeepsR z (execSlotEnable slot us nacks s) := by
  unfold execSlotEnable
  repeat' first
    | with_reducible
      first
      | assumption | apply KeepsR.next | apply Keeps.ite | apply State.setB_keeps | apply State.slotFault_keeps
      | apply State.switchSlot_keeps | apply State.seqTime_keeps
      | fail_if_no_progress refine keeps_lit rfl rfl rfl rfl rfl rfl ?_
    | intro _ | extract_lets +onlyGivenNames t | split
    | (with_reducible apply keeps_snd (by with_reducible assumption))
    | (with_reducible apply keeps_fst (by with_reducible assumption)) | dsimp +zetaDelta only

theorem State.sampleStraps_keeps {z : State} (s : State) (straps : BitVec 3) (hk : Keeps z s) :
    Keeps z (State.sampleStraps s straps) := by
  unfold State.sampleStraps
  repeat' with_reducible first | assumption | apply Keeps.ite | apply State.setB_keeps | apply State.setReg_keeps

theorem execSlotQualified_keeps {z : State} (slot : Fin 32) (us : Nat) (straps : BitVec 3) (s : State) (hk : Keeps z s) :
    KeepsR z (execSlotQualified slot us straps s) := by
  unfold execSlotQualified
  repeat' first
    | with_reducible
      first
      | assumption | apply KeepsR.next | apply Keeps.ite | apply State.trimFirst_keeps
      | apply State.setPowerState_keeps | apply State.setPhase_keeps | apply State.sampleStraps_keeps
      | apply State.setB_keeps | apply State.seqTime_keeps
      | fail_if_no_progress refine keeps_lit rfl rfl rfl rfl rfl rfl ?_
    | intro _ | extract_lets +onlyGivenNames t | split
    | (with_reducible apply keeps_snd (by with_reducible assumption))
    | (with_reducible apply keeps_fst (by with_reducible assumption)) | dsimp +zetaDelta only

theorem execPowerGoodBreak_keeps {z : State} (slot : Fin 32) (us : Nat) (s : State) (hk : Keeps z s) :
    KeepsR z (execPowerGoodBreak slot us s) := by
  unfold execPowerGoodBreak
  repeat' with_reducible
    first
    | assumption | apply KeepsR.next | apply Keeps.ite | apply State.seqTime_keeps
    | fail_if_no_progress refine keeps_lit rfl rfl rfl rfl rfl rfl ?_

theorem execSequenceFault_keeps {z : State} (slot : Fin 32) (us : Nat) (s : State) (hk : Keeps z s) :
    KeepsR z (execSequenceFault slot us s) := by
  unfold execSequenceFault
  repeat' first
    | with_reducible
      first
      | assumption | apply KeepsR.next | apply Keeps.ite | apply State.slotFault_keeps | apply State.seqTime_keeps
      | fail_if_no_progress refine keeps_lit rfl rfl rfl rfl rfl rfl ?_
    | extract_lets +onlyGivenNames t | split

theorem execRailFault_keeps {z : State} (slot : Fin 32) (s : State) (hk : Keeps z s) :
    KeepsR z (execRailFault slot s) := by
  unfold execRailFault
  repeat' with_reducible first | assumption | apply KeepsR.next | apply Keeps.ite | apply State.slotFault_keeps

theorem State.disableSlot_keeps {z : State} (s : State) (n : Nat) (hk : Keeps z s) :
    Keeps z (State.disableSlot s n) := by
  unfold State.disableSlot
  repeat' with_reducible first | assumption | apply Keeps.ite | apply State.setB_keeps | apply State.coreLost_keeps

theorem execSlotDisable_keeps {z : State} (slot : Fin 32) (us : Nat) (s : State) (hk : Keeps z s) :
    KeepsR z (execSlotDisable slot us s) := by
  unfold execSlotDisable
  repeat' first
    | with_reducible
      first
      | assumption | apply KeepsR.next | apply Keeps.ite | apply State.disableSlot_keeps
      | apply State.switchSlot_keeps | apply State.seqTime_keeps
    | intro _ | extract_lets +onlyGivenNames t | split
    | (with_reducible apply keeps_snd (by with_reducible assumption))
    | (with_reducible apply keeps_fst (by with_reducible assumption)) | dsimp +zetaDelta only

theorem execOffSequenceEnd_keeps {z : State} (us : Nat) (pg : BitVec 32) (s : State) (hk : Keeps z s) :
    KeepsR z (execOffSequenceEnd us pg s) := by
  unfold execOffSequenceEnd
  repeat' first
    | with_reducible
      first
      | assumption | apply KeepsR.next | apply Keeps.ite | apply State.setF_keeps | apply State.setPhase_keeps
      | apply State.setB_keeps | apply State.seqTime_keeps | apply State.disableSlot_keeps
      | (apply keeps_foldl; intro _ _ _) | (apply keeps_foldl_fst; intro _ _ _)
      | fail_if_no_progress refine keeps_lit rfl rfl rfl rfl rfl rfl ?_
    | intro _ | extract_lets +onlyGivenNames t | split
    | (with_reducible apply keeps_snd (by with_reducible assumption))
    | (with_reducible apply keeps_fst (by with_reducible assumption)) | dsimp +zetaDelta only

theorem State.requestPower_keeps {z : State} (s : State) (target : Nat) (hk : Keeps z s) :
    Keeps z (State.requestPower s target) := by
  unfold State.requestPower
  repeat' with_reducible
    first
    | assumption | apply Keeps.ite | apply State.setF_keeps | apply State.pend_keeps | apply State.setB_keeps
    | fail_if_no_progress refine keeps_lit rfl rfl rfl rfl rfl rfl ?_

theorem execEnterRun_keeps {z : State} (rq : Requester) (s : State) (hk : Keeps z s) :
    KeepsR z (execEnterRun rq s) := by
  unfold execEnterRun
  repeat' with_reducible first | assumption | apply KeepsR.next | apply State.requestPower_keeps

theorem execEnterTrim_keeps {z : State} (rq : Requester) (s : State) (hk : Keeps z s) :
    KeepsR z (execEnterTrim rq s) := by
  unfold execEnterTrim
  repeat' with_reducible first | assumption | apply KeepsR.next | apply State.requestPower_keeps

theorem execEnterHold_keeps {z : State} (rq : Requester) (s : State) (hk : Keeps z s) :
    KeepsR z (execEnterHold rq s) := by
  unfold execEnterHold
  repeat' with_reducible first | assumption | apply KeepsR.next | apply State.requestPower_keeps

theorem execEnterStandby_keeps {z : State} (rq : Requester) (s : State) (hk : Keeps z s) :
    KeepsR z (execEnterStandby rq s) := by
  unfold execEnterStandby
  repeat' with_reducible
    first
    | assumption | apply KeepsR.next | apply Keeps.ite | apply State.requestPower_keeps | apply State.setDebug_keeps
    | apply State.offSequence_keeps | apply State.clearKeys_keeps

theorem State.holdStep_keeps {z : State} (s : State) (hk : Keeps z s) :
    Keeps z (State.holdStep s) := by
  unfold State.holdStep
  repeat' first
    | with_reducible
      first
      | assumption | apply Keeps.ite | apply State.nandHold_keeps
      | fail_if_no_progress refine keeps_lit rfl rfl rfl rfl rfl rfl ?_
    | intro _ | extract_lets +onlyGivenNames t | split
    | (with_reducible apply keeps_snd (by with_reducible assumption))
    | (with_reducible apply keeps_fst (by with_reducible assumption)) | dsimp +zetaDelta only

theorem execHoldQuiesceDone_keeps {z : State} (s : State) (hk : Keeps z s) :
    KeepsR z (execHoldQuiesceDone s) := by
  unfold execHoldQuiesceDone
  repeat' first
    | with_reducible
      first
      | assumption | apply KeepsR.next | apply Keeps.ite | apply State.setB_keeps | apply State.setPowerState_keeps
      | apply State.selfRefresh_keeps | (apply keeps_foldl; intro _ _ _) | (apply keeps_foldl_fst; intro _ _ _)
      | fail_if_no_progress refine keeps_lit rfl rfl rfl rfl rfl rfl ?_
    | intro _ | extract_lets +onlyGivenNames t | split
    | (with_reducible apply keeps_snd (by with_reducible assumption))
    | (with_reducible apply keeps_fst (by with_reducible assumption)) | dsimp +zetaDelta only

theorem State.applyTrim_keeps {z : State} (s : State) (hk : Keeps z s) :
    Keeps z (State.applyTrim s) := by
  unfold State.applyTrim
  repeat' with_reducible
    first
    | assumption | apply Keeps.ite | apply State.setB_keeps | apply State.dropBundle_keeps
    | fail_if_no_progress refine keeps_lit rfl rfl rfl rfl rfl rfl ?_

theorem State.powerFrame_keeps {z : State} (s : State) (hk : Keeps z s) :
    Keeps z (State.powerFrame s) := by
  unfold State.powerFrame
  repeat' first
    | with_reducible
      first
      | assumption | apply Keeps.ite | apply State.applyTrim_keeps | apply State.startItem_keeps
      | apply State.setPowerState_keeps | apply State.setB_keeps
      | fail_if_no_progress refine keeps_lit rfl rfl rfl rfl rfl rfl ?_
    | intro _ | extract_lets +onlyGivenNames t | split
    | (with_reducible apply keeps_snd (by with_reducible assumption))
    | (with_reducible apply keeps_fst (by with_reducible assumption)) | dsimp +zetaDelta only

theorem execSignalDetect_keeps {z : State} (port : Fin 8) (s : State) (hk : Keeps z s) :
    KeepsR z (execSignalDetect port s) := by
  unfold execSignalDetect
  repeat' with_reducible
    first
    | assumption | apply KeepsR.next | apply Keeps.ite
    | fail_if_no_progress refine keeps_lit rfl rfl rfl rfl rfl rfl ?_

/-! Machine/TwoWire.lean -/

theorem State.setTwb_keeps {z : State} (s : State) (n : Nat) (x : TwbPortRec) (hk : Keeps z s) :
    Keeps z (State.setTwb s n x) := by
  unfold State.setTwb
  repeat' with_reducible
    first
    | assumption | apply Keeps.ite | fail_if_no_progress refine keeps_lit rfl rfl rfl rfl rfl rfl ?_

theorem State.twbStore_keeps {z : State} (n : Nat) : ∀ (bs : List Byte) (i : Nat) (s : State), Keeps z s →
    Keeps z (State.twbStore s n i bs)
  | [], _, _, h => h
  | b :: bs, i, s, h => by
    unfold State.twbStore
    exact State.twbStore_keeps n bs (i + 1) _ (Keeps.ite (State.setF_keeps _ _ _ _ _ h) (State.setTwb_keeps _ _ _ h))

theorem State.twbResult_keeps {z : State} (s : State) (n : Nat) (result : Nat) (hk : Keeps z s) :
    Keeps z (State.twbResult s n result) := by
  unfold State.twbResult
  repeat' with_reducible first | assumption | apply State.setF_keeps

theorem State.twbEnd_keeps {z : State} (s : State) (n : Nat) (result : Nat) (bytes : Nat) (hk : Keeps z s) :
    Keeps z (State.twbEnd s n result bytes) := by
  unfold State.twbEnd
  repeat' first
    | with_reducible
      first
      | assumption | apply State.setB_keeps | apply State.setF_keeps | apply State.twbResult_keeps
      | apply State.bumpSat_keeps | apply State.pend_keeps | apply State.setTwb_keeps
      | fail_if_no_progress refine keeps_lit rfl rfl rfl rfl rfl rfl ?_
    | extract_lets +onlyGivenNames t | split

theorem execTwbGo_keeps {z : State} (rq : Requester) (port : Fin 3) (s : State) (hk : Keeps z s) :
    KeepsR z (execTwbGo rq port s) := by
  unfold execTwbGo
  repeat' with_reducible
    first
    | assumption | apply KeepsR.next | apply Keeps.ite | apply State.twbResult_keeps | apply State.twbEnd_keeps
    | apply State.setF_keeps | apply State.setB_keeps | apply State.setTwb_keeps

theorem execBusFree_keeps {z : State} (port : Fin 3) (s : State) (hk : Keeps z s) :
    KeepsR z (execBusFree port s) := by
  unfold execBusFree
  repeat' with_reducible first | assumption | apply KeepsR.next | apply State.setTwb_keeps

theorem execTwbTransactionDone_keeps {z : State} (port : Fin 3) (bytes : Fin 258) (x : TwbEnd) (s : State) (hk : Keeps z s) :
    KeepsR z (execTwbTransactionDone port bytes x s) := by
  unfold execTwbTransactionDone
  repeat' first
    | with_reducible
      first
      | assumption | apply KeepsR.next | apply Keeps.ite | apply State.setTwb_keeps | apply State.setF_keeps
      | apply State.bumpSat_keeps | apply State.twbEnd_keeps | apply State.twbStore_keeps
      | fail_if_no_progress refine keeps_lit rfl rfl rfl rfl rfl rfl ?_
    | intro _ | extract_lets +onlyGivenNames t | split
    | (with_reducible apply keeps_snd (by with_reducible assumption))
    | (with_reducible apply keeps_fst (by with_reducible assumption)) | dsimp +zetaDelta only

theorem execTwbTimeout_keeps {z : State} (port : Fin 3) (stuck : Bool) (bytes : Fin 258) (s : State) (hk : Keeps z s) :
    KeepsR z (execTwbTimeout port stuck bytes s) := by
  unfold execTwbTimeout
  repeat' with_reducible
    first
    | assumption | apply KeepsR.next | apply Keeps.ite | apply State.twbEnd_keeps | apply State.bumpSat_keeps
    | apply State.twbResult_keeps | apply State.setTwb_keeps

theorem execBusClear_keeps {z : State} (write : Option Requester) (port : Fin 3) (x : ClearEnd) (s : State) (hk : Keeps z s) :
    KeepsR z (execBusClear write port x s) := by
  unfold execBusClear
  repeat' first
    | with_reducible
      first
      | assumption | apply KeepsR.next | apply Keeps.ite | apply State.setTwb_keeps | apply State.twbEnd_keeps
      | fail_if_no_progress refine keeps_lit rfl rfl rfl rfl rfl rfl ?_
    | (extract_lets +onlyGivenNames t; have ht : Keeps z t := ?_; clear_value t; rotate_left)
    | extract_lets +onlyGivenNames t | split

theorem execPortReset_keeps {z : State} (rq : Requester) (port : Fin 3) (s : State) (hk : Keeps z s) :
    KeepsR z (execPortReset rq port s) := by
  unfold execPortReset
  repeat' with_reducible
    first
    | assumption | apply KeepsR.next | apply Keeps.ite | apply State.setTwb_keeps | apply State.setReg_keeps

theorem execSequencerPreempt_keeps {z : State} (port : Fin 3) (bytes : Fin 258) (s : State) (hk : Keeps z s) :
    KeepsR z (execSequencerPreempt port bytes s) := by
  unfold execSequencerPreempt
  repeat' with_reducible first | assumption | apply KeepsR.next | apply Keeps.ite | apply State.twbEnd_keeps

theorem State.twtRead_keeps {z : State} (s : State) (code : Nat) (bytes : State → List Byte) (hk : Keeps z s) :
    Keeps z (State.twtRead s code bytes) := by
  unfold State.twtRead
  repeat' first
    | with_reducible
      first
      | assumption | apply Keeps.ite | apply State.setF_keeps
      | fail_if_no_progress refine keeps_lit rfl rfl rfl rfl rfl rfl ?_
    | intro _ | extract_lets +onlyGivenNames t | split
    | (with_reducible apply keeps_snd (by with_reducible assumption))
    | (with_reducible apply keeps_fst (by with_reducible assumption)) | dsimp +zetaDelta only

theorem execStatus_keeps {z : State} (s : State) (hk : Keeps z s) :
    KeepsR z (execStatus s) := by
  unfold execStatus
  repeat' with_reducible first | assumption | apply KeepsR.next | apply Keeps.ite | apply State.twtRead_keeps

theorem execFirstFault_keeps {z : State} (s : State) (hk : Keeps z s) :
    KeepsR z (execFirstFault s) := by
  unfold execFirstFault
  repeat' first
    | with_reducible
      first
      | assumption | apply KeepsR.next | apply Keeps.ite | apply State.twtRead_keeps
    | intro _ | extract_lets +onlyGivenNames t | split
    | (with_reducible apply keeps_snd (by with_reducible assumption))
    | (with_reducible apply keeps_fst (by with_reducible assumption)) | dsimp +zetaDelta only

theorem execSeqCause_keeps {z : State} (s : State) (hk : Keeps z s) :
    KeepsR z (execSeqCause s) := by
  unfold execSeqCause
  repeat' with_reducible first | assumption | apply KeepsR.next | apply State.twtRead_keeps

theorem execDeviceId_keeps {z : State} (s : State) (hk : Keeps z s) :
    KeepsR z (execDeviceId s) := by
  unfold execDeviceId
  repeat' first
    | with_reducible
      first
      | assumption | apply KeepsR.next | apply Keeps.ite | apply State.twtRead_keeps
    | intro _ | extract_lets +onlyGivenNames t | split
    | (with_reducible apply keeps_snd (by with_reducible assumption))
    | (with_reducible apply keeps_fst (by with_reducible assumption)) | dsimp +zetaDelta only

theorem execQuoteHash_keeps {z : State} (s : State) (hk : Keeps z s) :
    KeepsR z (execQuoteHash s) := by
  unfold execQuoteHash
  repeat' first
    | with_reducible
      first
      | assumption | apply KeepsR.next | apply Keeps.ite | apply State.twtRead_keeps
    | intro _ | extract_lets +onlyGivenNames t | split
    | (with_reducible apply keeps_snd (by with_reducible assumption))
    | (with_reducible apply keeps_fst (by with_reducible assumption)) | dsimp +zetaDelta only

theorem State.twtWrite_keeps {z : State} (s : State) (code : Nat) (body : List Byte) (pec : Option Byte) (f : State → State) (hff : ∀ (s : State), Keeps z s → Keeps z (f s)) (hk : Keeps z s) :
    Keeps z (State.twtWrite s code body pec f) := by
  unfold State.twtWrite
  repeat' first
    | with_reducible
      first
      | assumption | apply Keeps.ite | apply State.setF_keeps | apply State.bumpSat_keeps
      | fail_if_no_progress refine keeps_lit rfl rfl rfl rfl rfl rfl ?_
    | apply hff | intro _ | extract_lets +onlyGivenNames t | split
    | (with_reducible apply keeps_snd (by with_reducible assumption))
    | (with_reducible apply keeps_fst (by with_reducible assumption)) | dsimp +zetaDelta only

theorem State.twtWake_keeps {z : State} (s : State) (hk : Keeps z s) :
    Keeps z (State.twtWake s) := by
  unfold State.twtWake
  repeat' first
    | with_reducible
      first
      | assumption | apply Keeps.ite | apply State.wakeUp_keeps
    | intro _ | extract_lets +onlyGivenNames t | split
    | (with_reducible apply keeps_snd (by with_reducible assumption))
    | (with_reducible apply keeps_fst (by with_reducible assumption)) | dsimp +zetaDelta only

theorem execPowerReqWake_keeps {z : State} (pec : Option Byte) (s : State) (hk : Keeps z s) :
    KeepsR z (execPowerReqWake pec s) := by
  unfold execPowerReqWake
  repeat' first
    | with_reducible
      first
      | assumption | apply KeepsR.next | apply Keeps.ite | apply State.twtWake_keeps | apply State.twtWrite_keeps
    | intro _ | extract_lets +onlyGivenNames t | split
    | (with_reducible apply keeps_snd (by with_reducible assumption))
    | (with_reducible apply keeps_fst (by with_reducible assumption)) | dsimp +zetaDelta only

theorem execPowerReqOff_keeps {z : State} (pec : Option Byte) (s : State) (hk : Keeps z s) :
    KeepsR z (execPowerReqOff pec s) := by
  unfold execPowerReqOff
  repeat' first
    | with_reducible
      first
      | assumption | apply KeepsR.next | apply Keeps.ite | apply State.offSequence_keeps | apply State.twtWrite_keeps
    | intro _ | extract_lets +onlyGivenNames t | split
    | (with_reducible apply keeps_snd (by with_reducible assumption))
    | (with_reducible apply keeps_fst (by with_reducible assumption)) | dsimp +zetaDelta only

theorem State.setWords_keeps {z : State} (s : State) (base : Nat) (bytes : List Byte) (hk : Keeps z s) :
    Keeps z (State.setWords s base bytes) := by
  unfold State.setWords
  repeat' with_reducible first | assumption | (apply keeps_foldl; intro _ _ _) | apply State.setReg_keeps

theorem execMboxReq_keeps {z : State} (data : List Byte) (pec : Option Byte) (s : State) (hk : Keeps z s) :
    KeepsR z (execMboxReq data pec s) := by
  unfold execMboxReq
  repeat' first
    | with_reducible
      first
      | assumption | apply KeepsR.next | apply Keeps.ite | apply State.pend_keeps | apply State.setB_keeps
      | apply State.setF_keeps | apply State.setWords_keeps | apply State.twtWrite_keeps
    | intro _ | extract_lets +onlyGivenNames t | split
    | (with_reducible apply keeps_snd (by with_reducible assumption))
    | (with_reducible apply keeps_fst (by with_reducible assumption)) | dsimp +zetaDelta only

theorem execMboxResp_keeps {z : State} (s : State) (hk : Keeps z s) :
    KeepsR z (execMboxResp s) := by
  unfold execMboxResp
  repeat' first
    | with_reducible
      first
      | assumption | apply KeepsR.next | apply Keeps.ite | apply State.setB_keeps | apply State.twtRead_keeps
    | intro _ | extract_lets +onlyGivenNames t | split
    | (with_reducible apply keeps_snd (by with_reducible assumption))
    | (with_reducible apply keeps_fst (by with_reducible assumption)) | dsimp +zetaDelta only

theorem execCapability_keeps {z : State} (s : State) (hk : Keeps z s) :
    KeepsR z (execCapability s) := by
  unfold execCapability
  repeat' with_reducible first | assumption | apply KeepsR.next | apply State.twtRead_keeps

theorem execReadTemperature1_keeps {z : State} (s : State) (hk : Keeps z s) :
    KeepsR z (execReadTemperature1 s) := by
  unfold execReadTemperature1
  repeat' with_reducible first | assumption | apply KeepsR.next | apply State.twtRead_keeps

theorem execPmbusRevision_keeps {z : State} (s : State) (hk : Keeps z s) :
    KeepsR z (execPmbusRevision s) := by
  unfold execPmbusRevision
  repeat' with_reducible first | assumption | apply KeepsR.next | apply State.twtRead_keeps

theorem execMfrId_keeps {z : State} (s : State) (hk : Keeps z s) :
    KeepsR z (execMfrId s) := by
  unfold execMfrId
  repeat' first
    | with_reducible
      first
      | assumption | apply KeepsR.next | apply Keeps.ite | apply State.twtRead_keeps
    | intro _ | extract_lets +onlyGivenNames t | split
    | (with_reducible apply keeps_snd (by with_reducible assumption))
    | (with_reducible apply keeps_fst (by with_reducible assumption)) | dsimp +zetaDelta only

theorem execMfrModel_keeps {z : State} (s : State) (hk : Keeps z s) :
    KeepsR z (execMfrModel s) := by
  unfold execMfrModel
  repeat' first
    | with_reducible
      first
      | assumption | apply KeepsR.next | apply Keeps.ite | apply State.twtRead_keeps
    | intro _ | extract_lets +onlyGivenNames t | split
    | (with_reducible apply keeps_snd (by with_reducible assumption))
    | (with_reducible apply keeps_fst (by with_reducible assumption)) | dsimp +zetaDelta only

theorem execMfrRevision_keeps {z : State} (s : State) (hk : Keeps z s) :
    KeepsR z (execMfrRevision s) := by
  unfold execMfrRevision
  repeat' first
    | with_reducible
      first
      | assumption | apply KeepsR.next | apply Keeps.ite | apply State.twtRead_keeps
    | intro _ | extract_lets +onlyGivenNames t | split
    | (with_reducible apply keeps_snd (by with_reducible assumption))
    | (with_reducible apply keeps_fst (by with_reducible assumption)) | dsimp +zetaDelta only

theorem execTwtTimeout_keeps {z : State} (s : State) (hk : Keeps z s) :
    KeepsR z (execTwtTimeout s) := by
  unfold execTwtTimeout
  repeat' with_reducible first | assumption | apply KeepsR.next | apply State.bumpSat_keeps

theorem execTwtWake_keeps {z : State} (s : State) (hk : Keeps z s) :
    KeepsR z (execTwtWake s) := by
  unfold execTwtWake
  repeat' with_reducible
    first
    | assumption | apply KeepsR.next | apply Keeps.ite | apply State.twtWake_keeps | apply State.bumpSat_keeps

/-! Machine/Recorder.lean -/

theorem State.senseTemp_keeps {z : State} (s : State) (i : Nat) (raw : BitVec 16) (hk : Keeps z s) :
    Keeps z (State.senseTemp s i raw) := by
  unfold State.senseTemp
  repeat' first
    | with_reducible
      first
      | assumption | apply Keeps.ite | apply State.trigger_keeps | apply State.pend_keeps | apply State.setF_keeps
      | apply State.setB_keeps | fail_if_no_progress refine keeps_lit rfl rfl rfl rfl rfl rfl ?_
    | intro _ | extract_lets +onlyGivenNames t | split
    | (with_reducible apply keeps_snd (by with_reducible assumption))
    | (with_reducible apply keeps_fst (by with_reducible assumption)) | dsimp +zetaDelta only

theorem State.reapply_keeps {z : State} (s : State) (i : Nat) (hk : Keeps z s) :
    Keeps z (State.reapply s i) := by
  unfold State.reapply
  repeat' first
    | with_reducible
      first
      | assumption | apply Keeps.ite | apply State.stageItems_keeps | apply State.trimOsc_keeps
      | apply State.capture_keeps | fail_if_no_progress refine keeps_lit rfl rfl rfl rfl rfl rfl ?_
    | intro _ | extract_lets +onlyGivenNames t | split
    | (with_reducible apply keeps_snd (by with_reducible assumption))
    | (with_reducible apply keeps_fst (by with_reducible assumption)) | dsimp +zetaDelta only

theorem State.startItems_keeps {z : State} (s : State) (hk : Keeps z s) :
    Keeps z (State.startItems s) := by
  unfold State.startItems
  repeat' first
    | with_reducible
      first
      | assumption | apply Keeps.ite | apply State.startItem_keeps | (apply keeps_foldl; intro _ _ _)
      | (apply keeps_foldl_fst; intro _ _ _)
    | intro _ | extract_lets +onlyGivenNames t | split
    | (with_reducible apply keeps_snd (by with_reducible assumption))
    | (with_reducible apply keeps_fst (by with_reducible assumption)) | dsimp +zetaDelta only

theorem State.sense_keeps {z : State} (s : State) (samples : List (BitVec 16)) (hk : Keeps z s) :
    Keeps z (State.sense s samples) := by
  unfold State.sense
  repeat' first
    | with_reducible
      first
      | assumption | apply Keeps.ite | apply State.reapply_keeps | apply State.setF_keeps | apply State.setB_keeps
      | apply State.senseTemp_keeps | (apply keeps_foldl; intro _ _ _) | (apply keeps_foldl_fst; intro _ _ _)
      | fail_if_no_progress refine keeps_lit rfl rfl rfl rfl rfl rfl ?_
    | intro _ | extract_lets +onlyGivenNames t | split
    | (with_reducible apply keeps_snd (by with_reducible assumption))
    | (with_reducible apply keeps_fst (by with_reducible assumption)) | dsimp +zetaDelta only

theorem State.showResid_keeps {z : State} (s : State) (kind : Nat) (base : Nat) (i : Nat) (r : BitVec 15) (hk : Keeps z s) :
    Keeps z (State.showResid s kind base i r) := by
  unfold State.showResid
  repeat' with_reducible
    first
    | assumption | apply State.setF_keeps | fail_if_no_progress refine keeps_lit rfl rfl rfl rfl rfl rfl ?_

theorem State.checkRef_keeps {z : State} (s : State) (refRaw : BitVec 16) (resid : List (BitVec 15)) (hk : Keeps z s) :
    Keeps z (State.checkRef s refRaw resid) := by
  unfold State.checkRef
  repeat' first
    | with_reducible
      first
      | assumption | apply Keeps.ite | (apply keeps_foldl; intro _ _ _) | apply State.setF_keeps
      | apply State.trigger_keeps | apply State.setB_keeps | apply State.showResid_keeps
      | fail_if_no_progress refine keeps_lit rfl rfl rfl rfl rfl rfl ?_
    | intro _ | extract_lets +onlyGivenNames t | split

theorem execCapture_keeps {z : State} (point : Byte) (s : State) (hk : Keeps z s) :
    KeepsR z (execCapture point s) := by
  unfold execCapture
  repeat' with_reducible
    first
    | assumption | apply KeepsR.next | apply Keeps.ite | apply State.setF_keeps | apply State.setB_keeps
    | fail_if_no_progress refine keeps_lit rfl rfl rfl rfl rfl rfl ?_

theorem execCaptureDone_keeps {z : State} (tjMean : BitVec 16) (entries : List CalEntry) (s : State) (hk : Keeps z s) :
    KeepsR z (execCaptureDone tjMean entries s) := by
  unfold execCaptureDone
  repeat' first
    | with_reducible
      first
      | assumption | apply KeepsR.next | (apply keeps_foldl; intro _ _ _) | apply State.takeWord_keeps
      | apply State.setB_keeps | apply State.reapply_keeps | apply State.trigger_keeps
      | fail_if_no_progress refine keeps_lit rfl rfl rfl rfl rfl rfl ?_
    | intro _ | extract_lets +onlyGivenNames t | (with_reducible apply keeps_litw; (with_reducible exact rfl); (iterate 5 with_reducible (first | exact id | exact fun w => Bar.wf_mk (Bar.wf_val w) (Bar.wf_eff w) (Bar.wf_copy w) | exact fun w => Bar.wf_mk (Maps.wf_wr _ _ (Bar.wf_val w)) (Bar.wf_eff w) (Bar.wf_copy w) | exact fun w => Bar.wf_mk (Bar.wf_val w) (Maps.wf_wr _ _ (Bar.wf_eff w)) (Bar.wf_copy w) | exact fun w => Bar.wf_mk (Bar.wf_val w) (Bar.wf_val w) (Bar.wf_copy w) | exact fun w => Bar.wf_mk (Bar.wf_val w) (Bar.wf_eff w) (Bar.wf_val w) | exact fun w => Bar.wf_mk (Maps.wf_filter _ (Bar.wf_val w)) (Maps.wf_filter _ (Bar.wf_eff w)) (Maps.wf_filter _ (Bar.wf_copy w)) | exact fun w => Mem.wf_setBytes _ _ w )); first | with_reducible assumption | with_reducible apply Keeps.ite | with_reducible apply State.takeWord_keeps | with_reducible apply State.setB_keeps | with_reducible apply State.reapply_keeps | with_reducible apply State.trigger_keeps) | split

theorem State.showBuf_keeps {z : State} (s : State) (hk : Keeps z s) :
    Keeps z (State.showBuf s) := by
  unfold State.showBuf
  repeat' with_reducible first | assumption | apply State.setF_keeps

theorem execRecorderTrigger_keeps {z : State} (s : State) (hk : Keeps z s) :
    KeepsR z (execRecorderTrigger s) := by
  unfold execRecorderTrigger
  repeat' first
    | with_reducible
      first
      | assumption | apply KeepsR.next | apply Keeps.ite | apply State.bumpSat_keeps | apply State.recorderGo_keeps
      | apply State.showBuf_keeps | fail_if_no_progress refine keeps_lit rfl rfl rfl rfl rfl rfl ?_
    | extract_lets +onlyGivenNames t | split

theorem execFwTrigger_keeps {z : State} (input : Fin 8) (code : Byte) (s : State) (hk : Keeps z s) :
    KeepsR z (execFwTrigger input code s) := by
  unfold execFwTrigger
  repeat' with_reducible first | assumption | apply KeepsR.next | apply State.trigger_keeps

theorem execRecordProgrammed_keeps {z : State} (s : State) (hk : Keeps z s) :
    KeepsR z (execRecordProgrammed s) := by
  unfold execRecordProgrammed
  repeat' first
    | with_reducible
      first
      | assumption | apply KeepsR.next | apply Keeps.ite | (apply keeps_foldl; intro _ _ _)
      | apply State.storeRow_keeps | apply State.pend_keeps | apply State.bump_keeps | apply State.showBuf_keeps
      | apply State.setF_keeps | apply State.showEfl_keeps | apply State.recorderGo_keeps
      | fail_if_no_progress refine keeps_lit rfl rfl rfl rfl rfl rfl ?_
    | intro _ | extract_lets +onlyGivenNames t | split

theorem execSectorEraseDone_keeps {z : State} (s : State) (hk : Keeps z s) :
    KeepsR z (execSectorEraseDone s) := by
  unfold execSectorEraseDone
  repeat' first
    | with_reducible
      first
      | assumption | apply KeepsR.next | apply Keeps.ite | apply State.eraseRows_keeps | apply State.setB_keeps
      | apply State.showEfl_keeps | apply State.recorderGo_keeps
      | fail_if_no_progress refine keeps_lit rfl rfl rfl rfl rfl rfl ?_
    | extract_lets +onlyGivenNames t | split

theorem State.scanRecorder_keeps {z : State} (s : State) (hk : Keeps z s) :
    Keeps z (State.scanRecorder s) := by
  unfold State.scanRecorder
  repeat' with_reducible
    first
    | assumption | apply Keeps.ite | apply State.setF_keeps | apply State.setReg_keeps | apply State.recorderGo_keeps
    | apply State.showBuf_keeps | apply State.setB_keeps
    | fail_if_no_progress refine keeps_lit rfl rfl rfl rfl rfl rfl ?_

/-! Machine/Bus.lean -/

theorem State.after_keeps {z : State} (s : State) (f : State → Result) (hf : ∀ (s : State), Keeps z s → KeepsR z (f s))
    (hk : Keeps z s) : Keeps z (State.after s f) := by
  unfold State.after
  split
  · next e => exact hf s hk _ e
  · exact hk

theorem State.writeCodes_keeps {z : State} (s : State) (off : Nat) (r : RegDesc) (v : Word) (hk : Keeps z s) :
    Keeps z (State.writeCodes s off r v) := by
  unfold State.writeCodes
  repeat' first
    | with_reducible
      first
      | assumption | apply Keeps.ite | apply State.setReg_keeps
      | fail_if_no_progress refine keeps_lit rfl rfl rfl rfl rfl rfl ?_
    | extract_lets +onlyGivenNames t | (with_reducible apply keeps_litw; (with_reducible exact rfl); (iterate 5 with_reducible (first | exact id | exact fun w => Bar.wf_mk (Bar.wf_val w) (Bar.wf_eff w) (Bar.wf_copy w) | exact fun w => Bar.wf_mk (Maps.wf_wr _ _ (Bar.wf_val w)) (Bar.wf_eff w) (Bar.wf_copy w) | exact fun w => Bar.wf_mk (Bar.wf_val w) (Maps.wf_wr _ _ (Bar.wf_eff w)) (Bar.wf_copy w) )); first | with_reducible assumption | with_reducible apply Keeps.ite | with_reducible apply State.setReg_keeps)

theorem State.writeRing_keeps {z : State} (s : State) (r : Nat) (e : Nat) (off : Nat) (d : RegDesc) (v : Word) (hk : Keeps z s) :
    Keeps z (State.writeRing s r e off d v) := by
  unfold State.writeRing
  repeat' with_reducible
    first
    | assumption | apply Keeps.ite | apply State.ringCfgTo_keeps | apply State.doorbell_keeps
    | apply State.cqHeadTo_keeps | apply State.ctlErr_keeps | apply State.flagAddr_keeps
    | apply State.writeCodes_keeps

theorem State.writeMboxCtrl_keeps {z : State} (s : State) (rq : Requester) (v : Word) (hk : Keeps z s) :
    Keeps z (State.writeMboxCtrl s rq v) := by
  unfold State.writeMboxCtrl
  repeat' with_reducible
    first
    | assumption | apply Keeps.ite | apply State.after_keeps | apply execMboxClaim_keeps
    | apply execMboxRelease_keeps | apply State.submit_keeps | apply State.setB_keeps

theorem State.flashGo_keeps {z : State} (s : State) (rq : Requester) (hk : Keeps z s) :
    Keeps z (State.flashGo s rq) := by
  unfold State.flashGo
  repeat' with_reducible
    first
    | assumption | apply Keeps.ite | apply State.after_keeps | apply execFlashProgram_keeps
    | apply execFlashErase_keeps | apply execFlashSuspend_keeps | apply execFlashResume_keeps
    | apply execOtpProgram_keeps | apply State.eflFlag_keeps

theorem State.powerGo_keeps {z : State} (s : State) (rq : Requester) (hk : Keeps z s) :
    Keeps z (State.powerGo s rq) := by
  unfold State.powerGo
  repeat' with_reducible
    first
    | assumption | apply Keeps.ite | apply State.after_keeps | apply execEnterStandby_keeps
    | apply State.requestPower_keeps

theorem State.writeTwbCtrl_keeps {z : State} (s : State) (rq : Requester) (n : Fin 3) (v : Word) (hk : Keeps z s) :
    Keeps z (State.writeTwbCtrl s rq n v) := by
  unfold State.writeTwbCtrl
  repeat' with_reducible
    first
    | assumption | apply Keeps.ite | apply State.after_keeps | apply execPortReset_keeps | apply State.setTwb_keeps
    | apply execTwbGo_keeps

theorem State.writeActs_keeps {z : State} (s : State) (rq : Requester) (off : Nat) (v : Word) (hk : Keeps z s) :
    Keeps z (State.writeActs s rq off v) := by
  unfold State.writeActs
  repeat' with_reducible
    first
    | assumption | apply Keeps.ite | apply State.powerGo_keeps | apply State.after_keeps | apply execInject_keeps
    | apply State.newNonce_keeps | apply State.setReg_keeps | apply State.flashGo_keeps
    | apply State.offSequence_keeps | apply execCapture_keeps | apply State.trigger_keeps
    | apply State.resumeDma_keeps | apply State.writeTwbCtrl_keeps | apply State.setChan_keeps

theorem State.busWrite_keeps {z : State} (s : State) (rq : Requester) (off : Nat) (v : Word) (hk : Keeps z s) :
    Keeps z (State.busWrite s rq off v) := by
  unfold State.busWrite
  repeat' first
    | with_reducible
      first
      | assumption | apply Keeps.ite | apply State.writeActs_keeps | apply State.writeCodes_keeps
      | apply State.flashRead_keeps | apply State.writeMboxCtrl_keeps | apply State.writeRing_keeps
      | fail_if_no_progress refine keeps_lit rfl rfl rfl rfl rfl rfl ?_
    | intro _ | extract_lets +onlyGivenNames t | split
    | (with_reducible apply keeps_snd (by with_reducible assumption))
    | (with_reducible apply keeps_fst (by with_reducible assumption)) | dsimp +zetaDelta only

theorem execRegisterWrite_keeps {z : State} (rq : Requester) (off : BitVec 26) (v : Word) (hi : Option Word) (s : State) (hk : Keeps z s) :
    KeepsR z (execRegisterWrite rq off v hi s) := by
  unfold execRegisterWrite
  repeat' first
    | with_reducible
      first
      | assumption | apply KeepsR.next | apply Keeps.ite | apply State.busWrite_keeps
      | fail_if_no_progress refine keeps_lit rfl rfl rfl rfl rfl rfl ?_
    | intro _ | extract_lets +onlyGivenNames t | split
    | (with_reducible apply keeps_snd (by with_reducible assumption))
    | (with_reducible apply keeps_fst (by with_reducible assumption)) | dsimp +zetaDelta only

theorem State.discard_keeps {z : State} (s : State) (off : BitVec 26) (bit : Nat) (hk : Keeps z s) :
    Keeps z (State.discard s off bit) := by
  unfold State.discard
  repeat' with_reducible first | assumption | apply Keeps.ite | apply State.ctlErr_keeps | apply State.flagAddr_keeps

theorem execSubwordWrite_keeps {z : State} (off : BitVec 26) (s : State) (hk : Keeps z s) :
    KeepsR z (execSubwordWrite off s) := by
  unfold execSubwordWrite
  repeat' with_reducible first | assumption | apply KeepsR.next | apply State.discard_keeps

theorem execPoisonedWrite_keeps {z : State} (off : BitVec 26) (s : State) (hk : Keeps z s) :
    KeepsR z (execPoisonedWrite off s) := by
  unfold execPoisonedWrite
  repeat' with_reducible first | assumption | apply KeepsR.next | apply State.discard_keeps

theorem State.setCaptures_keeps {z : State} (s : State) (rq : Requester) (m : Table Word) (hk : Keeps z s) :
    Keeps z (State.setCaptures s rq m) := by
  unfold State.setCaptures
  repeat' first
    | with_reducible first | assumption | fail_if_no_progress refine keeps_lit rfl rfl rfl rfl rfl rfl ?_
    | extract_lets +onlyGivenNames t | (with_reducible apply keeps_litw; (with_reducible exact rfl); (iterate 5 with_reducible (first | exact id | exact fun w => Bar.wf_mk (Bar.wf_val w) (Bar.wf_eff w) (Bar.wf_copy w) )); first | with_reducible assumption | with_reducible apply Keeps.ite) | split

theorem State.readActs_keeps {z : State} (s : State) (off : Nat) (n : AccessSize) (hk : Keeps z s) :
    Keeps z (State.readActs s off n) := by
  unfold State.readActs
  repeat' with_reducible first | assumption | apply Keeps.ite | apply State.setB_keeps | apply State.readFlash_keeps

theorem State.busRead_keeps {z : State} (s : State) (rq : Requester) (off : Nat) (n : AccessSize) (hk : Keeps z s) :
    Keeps z (State.busRead s rq off n).2 := by
  unfold State.busRead
  repeat' first
    | with_reducible
      first
      | assumption | apply Keeps.ite | apply State.readActs_keeps | apply State.setCaptures_keeps
      | fail_if_no_progress refine keeps_lit rfl rfl rfl rfl rfl rfl ?_
    | (extract_lets +onlyGivenNames t; have ht : Keeps z t := ?_; clear_value t; rotate_left)
    | extract_lets +onlyGivenNames t | split

theorem State.given_keeps {z : State} (s : State) (rq : Requester) (v : DWord) (hk : Keeps z s) :
    Keeps z (State.given s rq v) :=
  keeps_litw rfl (fun w => Bar.wf_mk (Bar.wf_val w) (Bar.wf_eff w) (Bar.wf_copy w)) id id id id hk

theorem execRegisterPairLowerRead_keeps {z : State} (rq : Requester) (off : BitVec 26) (size : AccessSize) (s : State) (hk : Keeps z s) :
    KeepsR z (execRegisterPairLowerRead rq off size s) := by
  unfold execRegisterPairLowerRead
  repeat' first
    | with_reducible
      first
      | assumption | apply KeepsR.next | apply Keeps.ite | apply State.given_keeps | apply State.busRead_keeps
      | fail_if_no_progress refine keeps_lit rfl rfl rfl rfl rfl rfl ?_
    | intro _ | extract_lets +onlyGivenNames t | split
    | (with_reducible apply keeps_snd (by with_reducible assumption))
    | (with_reducible apply keeps_fst (by with_reducible assumption)) | dsimp +zetaDelta only

theorem execRegr_keeps {z : State} (ag : Agent) (w : DWord) (s : State) (hk : Keeps z s) :
    KeepsR z (execRegr ag w s) := by
  unfold execRegr
  repeat' first
    | with_reducible
      first
      | assumption | apply KeepsR.next | apply State.instruct_keeps | apply State.mcpTrap_keeps
      | apply State.busRead_keeps | apply State.advance_keeps | apply State.setCtx_keeps
      | fail_if_no_progress refine keeps_lit rfl rfl rfl rfl rfl rfl ?_
    | intro _ | extract_lets +onlyGivenNames t | split

theorem execRegw_keeps {z : State} (ag : Agent) (w : DWord) (s : State) (hk : Keeps z s) :
    KeepsR z (execRegw ag w s) := by
  unfold execRegw
  repeat' first
    | with_reducible
      first
      | assumption | apply KeepsR.next | apply State.instruct_keeps | apply State.mcpTrap_keeps
      | apply State.advance_keeps | apply State.busWrite_keeps
      | fail_if_no_progress refine keeps_lit rfl rfl rfl rfl rfl rfl ?_
    | intro _ | extract_lets +onlyGivenNames t | split

/-! Machine/Startup.lean -/

theorem State.setRes_keeps {z : State} (s : State) (b : Bool) (r : Nat) (hk : Keeps z s) :
    Keeps z (State.setRes s b r) := by
  unfold State.setRes
  repeat' with_reducible first | assumption | apply Keeps.ite | apply State.setF_keeps

theorem State.bootBank_keeps {z : State} (s : State) (b : Bool) (hk : Keeps z s) :
    Keeps z (State.bootBank s b) := by
  unfold State.bootBank
  repeat' first
    | with_reducible
      first
      | assumption | apply Keeps.ite | apply State.setRes_keeps | apply State.storeRow_keeps | apply State.setF_keeps
      | apply State.setB_keeps | apply State.startMcp_keeps
      | fail_if_no_progress refine keeps_lit rfl rfl rfl rfl rfl rfl ?_
    | extract_lets +onlyGivenNames t | (with_reducible apply keeps_litw; (with_reducible exact rfl); (iterate 5 with_reducible (first | exact id | exact fun w => Bar.wf_mk (Bar.wf_val w) (Bar.wf_eff w) (Bar.wf_copy w) | exact fun w => Bar.wf_mk (Maps.wf_wr _ _ (Bar.wf_val w)) (Bar.wf_eff w) (Bar.wf_copy w) | exact fun w => Bar.wf_mk (Bar.wf_val w) (Maps.wf_wr _ _ (Bar.wf_eff w)) (Bar.wf_copy w) | exact fun w => Bar.wf_mk (Bar.wf_val w) (Bar.wf_val w) (Bar.wf_copy w) | exact fun w => Bar.wf_mk (Bar.wf_val w) (Bar.wf_eff w) (Bar.wf_val w) | exact fun w => Bar.wf_mk (Maps.wf_filter _ (Bar.wf_val w)) (Maps.wf_filter _ (Bar.wf_eff w)) (Maps.wf_filter _ (Bar.wf_copy w)) | exact fun w => Mem.wf_setBytes _ _ w )); first | with_reducible assumption | with_reducible apply Keeps.ite | with_reducible apply State.setRes_keeps | with_reducible apply State.storeRow_keeps | with_reducible apply State.setF_keeps )

theorem State.tryBanks_keeps {z : State} : ∀ (s : State) (l : List Bool), Keeps z s → Keeps z (State.tryBanks s l)
  | s, [], hk => State.setB_keeps _ _ _ _ (State.stopStartup_keeps _ hk)
  | s, b :: bs, hk => by
    unfold State.tryBanks
    exact Keeps.ite (State.bootBank_keeps _ _ hk) (State.tryBanks_keeps _ bs (State.setRes_keeps _ _ _ hk))

theorem State.boot_keeps {z : State} (s : State) (bist : Option BistFail) (hk : Keeps z s) :
    Keeps z (State.boot s bist) := by
  unfold State.boot
  repeat' first
    | with_reducible
      first
      | assumption | apply KeepsR.next | apply Keeps.ite | apply State.tryBanks_keeps | apply State.setRes_keeps
      | apply State.stopStartup_keeps | apply State.report_keeps | apply State.setReg_keeps | apply State.setB_keeps
      | apply State.readCalStore_keeps | apply State.scanRecorder_keeps | apply State.secReset_keeps
      | fail_if_no_progress refine keeps_lit rfl rfl rfl rfl rfl rfl ?_
    | intro _ | extract_lets +onlyGivenNames t | split
    | (with_reducible apply keeps_snd (by with_reducible assumption))
    | (with_reducible apply keeps_fst (by with_reducible assumption)) | dsimp +zetaDelta only

theorem State.memories_keeps {z : State} (s : State) (present : BitVec 16) (trained : BitVec 16) (dimms : Bool) (channels : BitVec 6) (hk : Keeps z s) :
    Keeps z (State.memories s present trained dimms channels) := by
  unfold State.memories
  repeat' first
    | with_reducible
      first
      | assumption | apply Keeps.ite | apply State.setLink_keeps | apply State.present_keeps | apply State.setF_keeps
      | apply State.startItems_keeps | (apply keeps_foldl; intro _ _ _) | (apply keeps_foldl_fst; intro _ _ _)
      | fail_if_no_progress refine keeps_lit rfl rfl rfl rfl rfl rfl ?_
    | intro _ | extract_lets +onlyGivenNames t | split
    | (with_reducible apply keeps_snd (by with_reducible assumption))
    | (with_reducible apply keeps_fst (by with_reducible assumption)) | dsimp +zetaDelta only

theorem State.replayIntents_keeps {z : State} (s : State) (hk : Keeps z s) :
    Keeps z (State.replayIntents s) := by
  unfold State.replayIntents
  repeat' first
    | with_reducible
      first
      | assumption | apply Keeps.ite | apply State.storeLine_keeps | (apply keeps_foldl; intro _ _ _)
      | (apply keeps_foldl_fst; intro _ _ _) | fail_if_no_progress refine keeps_lit rfl rfl rfl rfl rfl rfl ?_
    | intro _ | extract_lets +onlyGivenNames t | split
    | (with_reducible apply keeps_snd (by with_reducible assumption))
    | (with_reducible apply keeps_fst (by with_reducible assumption)) | dsimp +zetaDelta only

theorem State.emptyScm_keeps {z : State} (s : State) (hk : Keeps z s) : Keeps z (State.emptyScm s) := by
  unfold State.emptyScm
  exact keeps_litw rfl id (fun _ => Maps.wf_nil _) id id id hk

theorem State.startTier_keeps {z : State} (s : State) (dies : Option NandGeom) (nandOk : Bool) (hk : Keeps z s) :
    Keeps z (State.startTier s dies nandOk) := by
  unfold State.startTier
  repeat' first
    | with_reducible
      first
      | assumption | apply Keeps.ite | apply State.emptyTier_keeps | apply State.replayTier_keeps
      | apply State.setF_keeps | apply State.setReg_keeps | (apply keeps_foldl; intro _ _ _)
      | (apply keeps_foldl_fst; intro _ _ _) | fail_if_no_progress refine keeps_lit rfl rfl rfl rfl rfl rfl ?_
    | intro _ | extract_lets +onlyGivenNames t | split
    | (with_reducible apply keeps_snd (by with_reducible assumption))
    | (with_reducible apply keeps_fst (by with_reducible assumption)) | dsimp +zetaDelta only

theorem State.recover_keeps {z : State} (s : State) (dies : Option NandGeom) (metaOk : Bool) (nandOk : Bool) (probes : List (Nat × List (List Byte))) (hk : Keeps z s) :
    Keeps z (State.recover s dies metaOk nandOk probes) := by
  unfold State.recover
  repeat' first
    | with_reducible
      first
      | assumption | apply Keeps.ite | apply State.setReg_keeps | apply State.setB_keeps | apply State.startTier_keeps
      | apply State.replayIntents_keeps | apply State.recoverRegion_keeps | apply State.setEpoch_keeps
      | apply State.recordEpoch_keeps | apply State.emptyScm_keeps | (apply keeps_foldl; intro _ _ _)
      | (apply keeps_foldl_fst; intro _ _ _) | fail_if_no_progress refine keeps_lit rfl rfl rfl rfl rfl rfl ?_
    | intro _ | extract_lets +onlyGivenNames t | split
    | (with_reducible apply keeps_snd (by with_reducible assumption))
    | (with_reducible apply keeps_fst (by with_reducible assumption)) | dsimp +zetaDelta only

theorem State.refillKey_keeps {z : State} (s : State) (e : Nat × Tenant) (hk : Keeps z s) :
    Keeps z (State.refillKey s e) := by
  unfold State.refillKey
  repeat' first
    | with_reducible
      first
      | assumption | apply Keeps.ite | apply State.loseKey_keeps | apply State.setKeySlot_keeps
      | fail_if_no_progress refine keeps_lit rfl rfl rfl rfl rfl rfl ?_
    | intro _ | extract_lets +onlyGivenNames t | split
    | (with_reducible apply keeps_snd (by with_reducible assumption))
    | (with_reducible apply keeps_fst (by with_reducible assumption)) | dsimp +zetaDelta only

theorem State.service_keeps {z : State} (s : State) (hk : Keeps z s) :
    Keeps z (State.service s) := by
  unfold State.service
  repeat' first
    | with_reducible
      first
      | assumption | apply Keeps.ite | apply State.raisePair_keeps | apply State.published_keeps
      | apply State.fillPins_keeps | apply State.showKeys_keeps | apply State.refillKey_keeps
      | (apply keeps_foldl; intro _ _ _) | (apply keeps_foldl_fst; intro _ _ _)
      | fail_if_no_progress refine keeps_lit rfl rfl rfl rfl rfl rfl ?_
    | intro _ | extract_lets +onlyGivenNames t | split
    | (with_reducible apply keeps_snd (by with_reducible assumption))
    | (with_reducible apply keeps_fst (by with_reducible assumption)) | dsimp +zetaDelta only

theorem execStartup_keeps {z : State} (step : StartStep) (s : State) (hk : Keeps z s) :
    KeepsR z (execStartup step s) := by
  unfold execStartup
  repeat' first
    | with_reducible
      first
      | assumption | apply KeepsR.next | apply Keeps.ite | apply State.service_keeps | apply State.setB_keeps
      | apply State.setF_keeps | apply State.recover_keeps | apply State.present_keeps | apply State.memories_keeps
      | apply State.boot_keeps | fail_if_no_progress refine keeps_lit rfl rfl rfl rfl rfl rfl ?_
    | intro _ | extract_lets +onlyGivenNames t | split
    | (with_reducible apply keeps_snd (by with_reducible assumption))
    | (with_reducible apply keeps_fst (by with_reducible assumption)) | dsimp +zetaDelta only

end Sys2Proof.Machine
end

