-- ==== Sys2Proof/Laws/KeepsTime.lean ====
section
/-! SUPPORT. The tick, the meters and the frame:
each operation keeps the queue and the canonical memories (`Keeps`). -/

namespace Sys2Proof.Machine

open Sys2Proof

/-! Machine/Grounds.lean -/

theorem resultOr_keeps {z : State} (s : State) (r : Result) (h : KeepsR z r) (hk : Keeps z s) :
    Keeps z (resultOr s r) := by
  cases r with
  | next t => exact h t rfl
  | _ => exact hk

theorem State.doWork_keeps {z : State} (s : State) (i : Instr) (hk : Keeps z s) :
    Keeps z (State.doWork s i) := by
  cases i
  case lineRepairRequest => exact resultOr_keeps _ _ (execLineRepairRequest_keeps _ _ hk) hk
  case lineRepairServe => exact resultOr_keeps _ _ (execLineRepairServe_keeps _ _ _ hk) hk
  case patrolScrub => exact resultOr_keeps _ _ (execPatrolScrub_keeps _ _ hk) hk
  case mapCheckpoint => exact resultOr_keeps _ _ (execMapCheckpoint_keeps _ hk) hk
  case destage => exact resultOr_keeps _ _ (execDestage_keeps _ hk) hk
  case promote => exact resultOr_keeps _ _ (execPromote_keeps _ _ hk) hk
  case backgroundScan => exact resultOr_keeps _ _ (execBackgroundScan_keeps _ hk) hk
  case resyncStart => exact resultOr_keeps _ _ (execResyncStart_keeps _ hk) hk
  all_goals exact hk

theorem State.runWork_keeps {z : State} (s : State) (w : Nat × Instr) (hk : Keeps z s) :
    Keeps z (State.runWork s w) := by
  unfold State.runWork
  repeat' first
    | with_reducible
      first
      | assumption | apply Keeps.ite | apply State.doWork_keeps
      | fail_if_no_progress refine keeps_lit rfl rfl rfl rfl rfl rfl ?_
    | intro _ | extract_lets +onlyGivenNames t | split
    | (with_reducible apply keeps_snd (by with_reducible assumption))
    | (with_reducible apply keeps_fst (by with_reducible assumption)) | dsimp +zetaDelta only

theorem State.runHeld_keeps {z : State} (s : State) (hk : Keeps z s) :
    Keeps z (State.runHeld s) := by
  unfold State.runHeld
  repeat' first
    | with_reducible
      first
      | assumption | apply Keeps.ite | apply State.runWork_keeps | (apply keeps_foldl; intro _ _ _)
      | (apply keeps_foldl_fst; intro _ _ _)
    | intro _ | extract_lets +onlyGivenNames t | split
    | (with_reducible apply keeps_snd (by with_reducible assumption))
    | (with_reducible apply keeps_fst (by with_reducible assumption)) | dsimp +zetaDelta only

/-! Machine/Tick.lean -/

theorem State.endTick_keeps {z : State} (s : State) (hk : Keeps z s) :
    Keeps z (State.endTick s) := by
  unfold State.endTick
  repeat' first
    | with_reducible
      first
      | assumption | apply Keeps.ite | fail_if_no_progress refine keeps_lit rfl rfl rfl rfl rfl rfl ?_
    | intro _ | extract_lets +onlyGivenNames t | split
    | (with_reducible apply keeps_snd (by with_reducible assumption))
    | (with_reducible apply keeps_fst (by with_reducible assumption)) | dsimp +zetaDelta only

theorem State.beginTick_keeps {z : State} (s : State) (next : Nat) (hk : Keeps z s) :
    Keeps z (State.beginTick s next) := by
  unfold State.beginTick
  repeat' first
    | with_reducible
      first
      | assumption | apply Keeps.ite | fail_if_no_progress refine keeps_lit rfl rfl rfl rfl rfl rfl ?_
    | intro _ | extract_lets +onlyGivenNames t | split
    | (with_reducible apply keeps_snd (by with_reducible assumption))
    | (with_reducible apply keeps_fst (by with_reducible assumption)) | dsimp +zetaDelta only

theorem State.nextTickState_keeps {z : State} (s : State) (hk : Keeps z s) :
    Keeps z (State.nextTickState s) := by
  unfold State.nextTickState
  repeat' first
    | with_reducible
      first
      | assumption | apply Keeps.ite | apply State.meterFlag_keeps | apply State.countMissed_keeps
      | apply State.showLost_keeps | apply State.slew_keeps | apply State.beginTick_keeps | apply State.loadTick_keeps
      | apply State.endTick_keeps
    | intro _ | extract_lets +onlyGivenNames t | split
    | (with_reducible apply keeps_snd (by with_reducible assumption))
    | (with_reducible apply keeps_fst (by with_reducible assumption)) | dsimp +zetaDelta only

theorem State.actOnSignals_keeps {z : State} (s : State) (hk : Keeps z s) :
    Keeps z (State.actOnSignals s) := by
  unfold State.actOnSignals
  repeat' first
    | with_reducible
      first
      | assumption | apply Keeps.ite | fail_if_no_progress refine keeps_lit rfl rfl rfl rfl rfl rfl ?_
    | intro _ | extract_lets +onlyGivenNames t | split
    | (with_reducible apply keeps_snd (by with_reducible assumption))
    | (with_reducible apply keeps_fst (by with_reducible assumption)) | dsimp +zetaDelta only

theorem State.takeEpoch_keeps {z : State} (s : State) (hk : Keeps z s) :
    Keeps z (State.takeEpoch s) := by
  unfold State.takeEpoch
  repeat' first
    | with_reducible
      first
      | assumption | apply Keeps.ite | apply State.recordEpoch_keeps | apply State.setEpoch_keeps
      | fail_if_no_progress refine keeps_lit rfl rfl rfl rfl rfl rfl ?_
    | intro _ | extract_lets +onlyGivenNames t | split
    | (with_reducible apply keeps_snd (by with_reducible assumption))
    | (with_reducible apply keeps_fst (by with_reducible assumption)) | dsimp +zetaDelta only

theorem State.publishAll_keeps {z : State} (s : State) (hk : Keeps z s) :
    Keeps z (State.publishAll s) := by
  unfold State.publishAll
  repeat' with_reducible
    first
    | assumption | apply Keeps.ite | apply State.finishAll_keeps | apply State.updBusy_keeps
    | apply State.publish_keeps

theorem State.deliverAll_keeps {z : State} (s : State) (hk : Keeps z s) :
    Keeps z (State.deliverAll s) := by
  unfold State.deliverAll
  repeat' with_reducible
    first
    | assumption | (apply keeps_foldl; intro _ _ _) | apply State.deliverNotify_keeps
    | fail_if_no_progress refine keeps_lit rfl rfl rfl rfl rfl rfl ?_

theorem State.freeTiles_keeps {z : State} (s : State) (hk : Keeps z s) :
    Keeps z (State.freeTiles s) := by
  unfold State.freeTiles
  repeat' first
    | with_reducible
      first
      | assumption | apply Keeps.ite | apply State.cancelFill_keeps | (apply keeps_foldl; intro _ _ _)
      | (apply keeps_foldl_fst; intro _ _ _) | fail_if_no_progress refine keeps_lit rfl rfl rfl rfl rfl rfl ?_
    | intro _ | extract_lets +onlyGivenNames t | split
    | (with_reducible apply keeps_snd (by with_reducible assumption))
    | (with_reducible apply keeps_fst (by with_reducible assumption)) | dsimp +zetaDelta only

theorem State.toggleSb_keeps {z : State} (s : State) (hk : Keeps z s) :
    Keeps z (State.toggleSb s) := by
  unfold State.toggleSb
  repeat' with_reducible
    first
    | assumption | apply Keeps.ite | fail_if_no_progress refine keeps_lit rfl rfl rfl rfl rfl rfl ?_

theorem State.show_keeps {z : State} (s : State) (off : Nat) (v : Nat) (hk : Keeps z s) :
    Keeps z (State.show s off v) := by
  unfold State.show
  repeat' with_reducible first | assumption | apply State.setReg_keeps

theorem State.showTime_keeps {z : State} (s : State) (hk : Keeps z s) :
    Keeps z (State.showTime s) := by
  unfold State.showTime
  repeat' with_reducible first | assumption | apply State.show_keeps | apply State.setPair_keeps

theorem State.showPort_keeps {z : State} (s : State) (n : Nat) (hk : Keeps z s) :
    Keeps z (State.showPort s n) := by
  unfold State.showPort
  repeat' first
    | with_reducible
      first
      | assumption | apply Keeps.ite | apply State.show_keeps | apply State.setF_keeps
    | intro _ | extract_lets +onlyGivenNames t | split
    | (with_reducible apply keeps_snd (by with_reducible assumption))
    | (with_reducible apply keeps_fst (by with_reducible assumption)) | dsimp +zetaDelta only

theorem State.showTables_keeps {z : State} (s : State) (hk : Keeps z s) :
    Keeps z (State.showTables s) := by
  unfold State.showTables
  repeat' first
    | with_reducible
      first
      | assumption | apply Keeps.ite | apply State.setPair_keeps | apply State.setB_keeps | apply State.show_keeps
      | (apply keeps_foldl; intro _ _ _) | (apply keeps_foldl_fst; intro _ _ _)
      | fail_if_no_progress refine keeps_lit rfl rfl rfl rfl rfl rfl ?_
    | intro _ | extract_lets +onlyGivenNames t | split
    | (with_reducible apply keeps_snd (by with_reducible assumption))
    | (with_reducible apply keeps_fst (by with_reducible assumption)) | dsimp +zetaDelta only

theorem State.showFrames_keeps {z : State} (s : State) (c : Nat) (hk : Keeps z s) :
    Keeps z (State.showFrames s c) := by
  unfold State.showFrames
  repeat' with_reducible first | assumption | apply State.show_keeps

theorem State.showEngines_keeps {z : State} (s : State) (hk : Keeps z s) :
    Keeps z (State.showEngines s) := by
  unfold State.showEngines
  repeat' first
    | with_reducible
      first
      | assumption | apply Keeps.ite | apply State.showFrames_keeps | apply State.show_keeps
      | apply State.setPair_keeps | apply State.setF_keeps | (apply keeps_foldl; intro _ _ _)
      | (apply keeps_foldl_fst; intro _ _ _)
    | intro _ | extract_lets +onlyGivenNames t | split
    | (with_reducible apply keeps_snd (by with_reducible assumption))
    | (with_reducible apply keeps_fst (by with_reducible assumption)) | dsimp +zetaDelta only

theorem State.showPool_keeps {z : State} (s : State) (c : Nat) (hk : Keeps z s) :
    Keeps z (State.showPool s c) := by
  unfold State.showPool
  repeat' with_reducible first | assumption | apply State.show_keeps

theorem State.showFill_keeps {z : State} (s : State) (c : Nat) (k : Nat) (hk : Keeps z s) :
    Keeps z (State.showFill s c k) := by
  unfold State.showFill
  repeat' first
    | with_reducible
      first
      | assumption | apply Keeps.ite | apply State.resetRange_keeps | apply State.showChan_keeps
      | fail_if_no_progress refine keeps_lit rfl rfl rfl rfl rfl rfl ?_
    | intro _ | extract_lets +onlyGivenNames t | split
    | (with_reducible apply keeps_snd (by with_reducible assumption))
    | (with_reducible apply keeps_fst (by with_reducible assumption)) | dsimp +zetaDelta only

theorem State.showStager_keeps {z : State} (s : State) (hk : Keeps z s) :
    Keeps z (State.showStager s) := by
  unfold State.showStager
  repeat' with_reducible
    first
    | assumption | (apply keeps_foldl; intro _ _ _) | apply State.setF_keeps | apply State.showFill_keeps
    | apply State.showPool_keeps

theorem State.showLink_keeps {z : State} (s : State) (m : Nat) (hk : Keeps z s) :
    Keeps z (State.showLink s m) := by
  unfold State.showLink
  repeat' with_reducible
    first
    | assumption | apply Keeps.ite | apply State.show_keeps | apply State.setReg_keeps | apply State.setPair_keeps

theorem State.showMedia_keeps {z : State} (s : State) (hk : Keeps z s) :
    Keeps z (State.showMedia s) := by
  unfold State.showMedia
  repeat' with_reducible
    first
    | assumption | apply Keeps.ite | (apply keeps_foldl; intro _ _ _) | apply State.show_keeps
    | apply State.setF_keeps | apply State.showLink_keeps

theorem State.showDurability_keeps {z : State} (s : State) (hk : Keeps z s) :
    Keeps z (State.showDurability s) := by
  unfold State.showDurability
  repeat' first
    | with_reducible
      first
      | assumption | apply Keeps.ite | apply State.show_keeps | apply State.setF_keeps
      | (apply keeps_foldl; intro _ _ _) | (apply keeps_foldl_fst; intro _ _ _)
    | intro _ | extract_lets +onlyGivenNames t | split
    | (with_reducible apply keeps_snd (by with_reducible assumption))
    | (with_reducible apply keeps_fst (by with_reducible assumption)) | dsimp +zetaDelta only

theorem State.showTwin_keeps {z : State} (s : State) (hk : Keeps z s) :
    Keeps z (State.showTwin s) := by
  unfold State.showTwin
  repeat' first
    | with_reducible
      first
      | assumption | apply Keeps.ite | apply State.show_keeps | apply State.setF_keeps
      | fail_if_no_progress refine keeps_lit rfl rfl rfl rfl rfl rfl ?_
    | (extract_lets +onlyGivenNames t; have ht : Keeps z t := ?_; clear_value t; rotate_left)
    | extract_lets +onlyGivenNames t | split

theorem State.takeSnap_keeps {z : State} (s : State) (hk : Keeps z s) :
    Keeps z (State.takeSnap s) := by
  unfold State.takeSnap
  repeat' first
    | with_reducible
      first
      | assumption | apply Keeps.ite | fail_if_no_progress refine keeps_lit rfl rfl rfl rfl rfl rfl ?_
    | intro _ | extract_lets +onlyGivenNames t | split
    | (with_reducible apply keeps_snd (by with_reducible assumption))
    | (with_reducible apply keeps_fst (by with_reducible assumption)) | dsimp only [id] | dsimp +zetaDelta only

theorem State.refreshCopies_keeps {z : State} (s : State) (hk : Keeps z s) :
    Keeps z (State.refreshCopies s) := by
  unfold State.refreshCopies
  repeat' first
    | with_reducible
      first
      | assumption | (apply keeps_foldl; intro _ _ _) | apply State.showPort_keeps | apply State.showTime_keeps
      | apply State.takeSnap_keeps | apply State.showKeys_keeps | apply State.showTwin_keeps
      | apply State.showDurability_keeps | apply State.showNand_keeps | apply State.dramTick_keeps
      | apply State.showMedia_keeps | apply State.showStager_keeps | apply State.showEngines_keeps
      | apply State.showTables_keeps
    | intro _ | (extract_lets +onlyGivenNames t; have ht : Keeps z t := ?_; clear_value t; rotate_left) | extract_lets +onlyGivenNames t | (with_reducible apply keeps_litw; (with_reducible exact rfl); (iterate 5 with_reducible (first | exact id | exact fun w => Bar.wf_mk (Bar.wf_val w) (Bar.wf_eff w) (Bar.wf_copy w) | exact fun w => Bar.wf_mk (Maps.wf_wr _ _ (Bar.wf_val w)) (Bar.wf_eff w) (Bar.wf_copy w) | exact fun w => Bar.wf_mk (Bar.wf_val w) (Maps.wf_wr _ _ (Bar.wf_eff w)) (Bar.wf_copy w) | exact fun w => Bar.wf_mk (Bar.wf_val w) (Bar.wf_val w) (Bar.wf_copy w) | exact fun w => Bar.wf_mk (Bar.wf_val w) (Bar.wf_eff w) (Bar.wf_val w) )); first | with_reducible assumption )

theorem execTickBoundary_keeps {z : State} (s : State) (hk : Keeps z s) :
    KeepsR z (execTickBoundary s) := by
  unfold execTickBoundary
  repeat' first
    | with_reducible
      first
      | assumption | apply KeepsR.next | apply Keeps.ite | apply State.refreshCopies_keeps
      | apply State.toggleSb_keeps | apply State.moveOnfi_keeps | apply State.holdStep_keeps
      | apply State.pumpTwin_keeps | apply State.pumpChannels_keeps | apply State.pumpLinks_keeps
      | apply State.nandBoundary_keeps | apply State.flushAcks_keeps | apply State.dispatchAll_keeps
      | apply State.watchEngines_keeps | apply State.wakeAll_keeps | apply State.fenceAll_keeps
      | apply State.runHeld_keeps | apply State.switchPages_keeps | apply State.moveAll_keeps
      | apply State.overrunAll_keeps | apply State.freeTiles_keeps | apply State.deliverAll_keeps
      | apply State.publishAll_keeps | apply State.takeEpoch_keeps | apply State.actOnPair_keeps
      | apply State.actOnSignals_keeps | apply State.nextTickState_keeps
    | intro _ | extract_lets +onlyGivenNames t | split
    | (with_reducible apply keeps_snd (by with_reducible assumption))
    | (with_reducible apply keeps_fst (by with_reducible assumption)) | dsimp +zetaDelta only

/-! Machine/Meters.lean -/

theorem State.samplePages_keeps {z : State} (s : State) (hk : Keeps z s) :
    Keeps z (State.samplePages s) := by
  unfold State.samplePages
  repeat' first
    | with_reducible
      first
      | assumption | apply Keeps.ite | (apply keeps_foldl; intro _ _ _) | apply State.addMeter_keeps
      | fail_if_no_progress refine keeps_lit rfl rfl rfl rfl rfl rfl ?_
    | intro _ | extract_lets +onlyGivenNames t | split

theorem State.batchRead_keeps {z : State} (s : State) (old : Nat) (new : Nat) (hk : Keeps z s) :
    Keeps z (State.batchRead s old new) := by
  unfold State.batchRead
  exact keeps_lit rfl rfl rfl rfl rfl rfl hk

theorem State.putRegion_keeps {z : State} (s : State) (addr : Nat) (bytes : List Byte) (hk : Keeps z s) :
    Keeps z (State.putRegion s addr bytes) := by
  unfold State.putRegion
  exact Keeps.ite (keeps_litw rfl id id (Mem.wf_setBytes _ _) id id hk) hk

theorem State.newPeriod_keeps {z : State} (s : State) (mark : Nat) (hk : Keeps z s) :
    Keeps z (State.newPeriod s mark) := by
  unfold State.newPeriod
  exact keeps_lit rfl rfl rfl rfl rfl rfl hk

theorem State.writeBatch_keeps {z : State} (s : State) (mark : Nat) (hk : Keeps z s) :
    Keeps z (State.writeBatch s mark) := by
  unfold State.writeBatch
  repeat' with_reducible
    first
    | assumption | apply State.putRegion_keeps | apply State.setF_keeps | apply State.newPeriod_keeps
    | apply State.setPair_keeps | fail_if_no_progress refine keeps_lit rfl rfl rfl rfl rfl rfl ?_

theorem execMinuteMark_keeps {z : State} (refRaw : BitVec 16) (resid : List (BitVec 15)) (s : State) (hk : Keeps z s) :
    KeepsR z (execMinuteMark refRaw resid s) := by
  unfold execMinuteMark
  repeat' with_reducible
    first
    | assumption | apply KeepsR.next | apply Keeps.ite | apply State.writeBatch_keeps | apply State.checkRef_keeps
    | apply State.nandMinute_keeps | fail_if_no_progress refine keeps_lit rfl rfl rfl rfl rfl rfl ?_

theorem execMeterBatchSigned_keeps {z : State} (s : State) (hk : Keeps z s) :
    KeepsR z (execMeterBatchSigned s) := by
  unfold execMeterBatchSigned
  repeat' first
    | with_reducible
      first
      | assumption | apply KeepsR.next | apply Keeps.ite | apply State.putRegion_keeps | apply State.notify_keeps
      | fail_if_no_progress refine keeps_lit rfl rfl rfl rfl rfl rfl ?_
    | extract_lets +onlyGivenNames t | split

/-! Machine/Frame.lean -/

theorem State.setEff_keeps {z : State} (s : State) (n : Nat) (t : SlotTable) (hk : Keeps z s) :
    Keeps z (State.setEff s n t) := by
  unfold State.setEff
  repeat' with_reducible first | assumption | (apply keeps_foldl; intro _ _ _) | apply State.setReg_keeps

theorem State.applyTable_keeps {z : State} (s : State) (n : Nat) (hk : Keeps z s) :
    Keeps z (State.applyTable s n) := by
  unfold State.applyTable
  repeat' with_reducible
    first
    | assumption | apply Keeps.ite | apply State.setB_keeps
    | fail_if_no_progress refine keeps_lit rfl rfl rfl rfl rfl rfl ?_

theorem State.buildTables_keeps {z : State} (s : State) (hk : Keeps z s) :
    Keeps z (State.buildTables s) := by
  unfold State.buildTables
  repeat' first
    | with_reducible
      first
      | assumption | apply Keeps.ite | apply State.setEff_keeps | apply State.applyTable_keeps
      | (apply keeps_foldl; intro _ _ _) | (apply keeps_foldl_fst; intro _ _ _)
      | fail_if_no_progress refine keeps_lit rfl rfl rfl rfl rfl rfl ?_
    | intro _ | extract_lets +onlyGivenNames t | split
    | (with_reducible apply keeps_snd (by with_reducible assumption))
    | (with_reducible apply keeps_fst (by with_reducible assumption)) | dsimp +zetaDelta only

theorem State.takeUrgency_keeps {z : State} (s : State) (hk : Keeps z s) :
    Keeps z (State.takeUrgency s) := by
  unfold State.takeUrgency
  repeat' with_reducible
    first
    | assumption | apply State.show_keeps | apply State.setPair_keeps
    | fail_if_no_progress refine keeps_lit rfl rfl rfl rfl rfl rfl ?_

theorem State.applyFields_keeps {z : State} (s : State) (hk : Keeps z s) :
    Keeps z (State.applyFields s) := by
  unfold State.applyFields
  exact keeps_foldl _ _ (fun _ _ h => Keeps.ite h (State.portDown_keeps _ _ h)) (State.batchRead_keeps _ _ _
    (keeps_litw rfl (fun w => Bar.wf_mk (Bar.wf_val w) (Bar.wf_val w) (Bar.wf_copy w)) id id id id hk))

theorem State.fenceHalted_keeps {z : State} (s : State) (hk : Keeps z s) :
    Keeps z (State.fenceHalted s) := by
  unfold State.fenceHalted
  repeat' with_reducible first | assumption | (apply keeps_foldl; intro _ _ _) | apply State.fence_keeps

theorem State.countQuiet_keeps {z : State} (s : State) (hk : Keeps z s) :
    Keeps z (State.countQuiet s) := by
  unfold State.countQuiet
  repeat' with_reducible
    first
    | assumption | apply Keeps.ite | fail_if_no_progress refine keeps_lit rfl rfl rfl rfl rfl rfl ?_

theorem State.countSkew_keeps {z : State} (s : State) (hk : Keeps z s) :
    Keeps z (State.countSkew s) := by
  unfold State.countSkew
  repeat' with_reducible
    first
    | assumption | apply Keeps.ite | apply State.setB_keeps
    | fail_if_no_progress refine keeps_lit rfl rfl rfl rfl rfl rfl ?_

theorem State.drillStop_keeps {z : State} (s : State) (hk : Keeps z s) :
    Keeps z (State.drillStop s) := by
  unfold State.drillStop
  repeat' first
    | with_reducible first | assumption | apply Keeps.ite | fail_if_no_progress refine keeps_lit rfl rfl rfl rfl rfl rfl ?_
    | extract_lets +onlyGivenNames t | split

theorem State.publishStep_keeps {z : State} (s : State) (hk : Keeps z s) :
    Keeps z (State.publishStep s) := by
  unfold State.publishStep
  repeat' first
    | with_reducible
      first
      | assumption | apply Keeps.ite | apply State.raisePair_keeps | apply State.published_keeps
      | fail_if_no_progress refine keeps_lit rfl rfl rfl rfl rfl rfl ?_
    | intro _ | extract_lets +onlyGivenNames t | split
    | (with_reducible apply keeps_snd (by with_reducible assumption))
    | (with_reducible apply keeps_fst (by with_reducible assumption)) | dsimp +zetaDelta only

theorem State.resumeMb_keeps {z : State} (s : State) (hk : Keeps z s) :
    Keeps z (State.resumeMb s) := by
  unfold State.resumeMb
  repeat' with_reducible
    first
    | assumption | apply Keeps.ite | apply State.clearHalt_keeps
    | fail_if_no_progress refine keeps_lit rfl rfl rfl rfl rfl rfl ?_

theorem execFrameBoundary_keeps {z : State} (samples : List (BitVec 16)) (s : State) (hk : Keeps z s) :
    KeepsR z (execFrameBoundary samples s) := by
  unfold execFrameBoundary
  repeat' first
    | with_reducible
      first
      | assumption | apply KeepsR.next | apply Keeps.ite | apply State.pend_keeps | apply State.sense_keeps
      | apply State.moveItems_keeps | apply State.publishStep_keeps | apply State.resumeMb_keeps
      | apply State.drillStop_keeps | apply State.drillReturn_keeps | apply State.countSkew_keeps
      | apply State.countQuiet_keeps | apply State.nandFrame_keeps | apply State.buildTables_keeps
      | apply State.powerFrame_keeps | apply State.fenceHalted_keeps | apply State.applyFields_keeps
      | apply State.takeUrgency_keeps | apply State.samplePages_keeps
      | fail_if_no_progress refine keeps_lit rfl rfl rfl rfl rfl rfl ?_
    | intro _ | extract_lets +onlyGivenNames t | split
    | (with_reducible apply keeps_snd (by with_reducible assumption))
    | (with_reducible apply keeps_fst (by with_reducible assumption)) | dsimp +zetaDelta only

end Sys2Proof.Machine
end

