-- ==== Sys2Proof/Laws/Records.lean ====
section
/-! SUPPORT. A record of a data page, as it is laid out, passes the checks of its reading (R315, R316, R327). -/

namespace Sys2Proof.Machine

open Sys2Proof

@[simp] theorem leBytes_length (v : Nat) : ∀ n, (leBytes v n).length = n
  | 0 => rfl
  | n + 1 => by simp [leBytes, leBytes_length]

@[simp] theorem Mem.bytes_length (m : Mem) (a : Nat) : ∀ n, (m.bytes a n).length = n
  | 0 => rfl
  | n + 1 => by simp [Mem.bytes, Mem.bytes_length]

theorem leNat_leBytes : ∀ (n v : Nat), leNat (leBytes v n) = v % 256 ^ n
  | 0, v => by simp [leBytes, leNat, Nat.mod_one]
  | n + 1, v => by
    simp only [leBytes, leNat, leNat_leBytes n, BitVec.toNat_ofNat]
    rw [show 256 ^ (n + 1) = 256 * 256 ^ n from Nat.pow_succ', Nat.mod_mul (x := v) (a := 256)]

theorem crcBits_lt {poly b : Nat} (hp : poly < 2 ^ b) : ∀ (n : Nat) {v : Nat}, v < 2 ^ b → crcBits poly n v < 2 ^ b
  | 0, _, h => h
  | n + 1, v, h => by
    unfold crcBits
    apply crcBits_lt hp n
    have h2 : v / 2 < 2 ^ b := Nat.lt_of_le_of_lt (Nat.div_le_self v 2) h
    split
    · exact Nat.xor_lt_two_pow h2 hp
    · exact h2

theorem crc32c_lt (bs : List Byte) : ∀ v, crc32c v bs < 2 ^ 32 := by
  have h : ∀ (bs : List Byte) (v : Nat), v < 2 ^ 32 → bs.foldl (crcByte 0x82F63B78) v < 2 ^ 32 := by
    intro bs
    induction bs with
    | nil => exact fun v h => h
    | cons b bs ih =>
      intro v h
      exact ih _ (crcBits_lt (by norm_num) 8 (Nat.xor_lt_two_pow h (Nat.lt_trans b.isLt (by norm_num))))
  exact fun v => h bs _ (Nat.mod_lt _ (by norm_num))

theorem crcInv_lt (bs : List Byte) : crcInv bs < 2 ^ 32 := Nat.xor_lt_two_pow (crc32c_lt bs _) (by norm_num)

/-- A slice of what follows `a`. -/
theorem slice_append {α : Type} {a b : List α} {o n k : Nat} (h : o = a.length + k) : slice (a ++ b) o n = slice b k n := by
  subst h; simp [slice, List.drop_append, List.drop_eq_nil_of_le]

/-- A slice at the front of a list. -/
theorem slice_front {α : Type} {a b : List α} {n : Nat} (h : n = a.length) : slice (a ++ b) 0 n = a := by
  subst h; simp [slice]

theorem slice_front_of {α : Type} {a b : List α} {o n : Nat} (h : o + n ≤ a.length) : slice (a ++ b) o n = slice a o n := by
  simp only [slice, List.drop_append, List.take_append, List.length_drop]
  rw [show n - (a.length - o) = 0 by omega]; simp

/-- Chunk k of chunks of one size. -/
theorem slice_flatMap {α : Type} {m : Nat} (f : Nat → List α) (hf : ∀ i, (f i).length = m) :
    ∀ (l : List Nat) (k : Nat) (h : k < l.length), slice (l.flatMap f) (m * k) m = f l[k]
  | x :: l, 0, _ => by simp only [List.flatMap_cons, Nat.mul_zero]; exact slice_front (hf x).symm
  | x :: l, k + 1, h => by
    rw [List.flatMap_cons, slice_append (k := m * k) (by rw [hf]; ring)]
    simpa using slice_flatMap f hf l k (by simpa using h)

theorem slice_short {α : Type} (l : List α) (o : Nat) {n m : Nat} (h : n ≤ m) : slice l o n = (slice l o m).take n := by
  simp [slice, List.take_take, Nat.min_eq_left h]

theorem flatMap_length {α : Type} {m : Nat} (f : Nat → List α) (hf : ∀ i, (f i).length = m) :
    ∀ l : List Nat, (l.flatMap f).length = m * l.length
  | [] => rfl
  | x :: l => by rw [List.flatMap_cons, List.length_append, hf, flatMap_length f hf l, List.length_cons]; ring

/-- What `recordOf` holds at each place. -/
theorem recordOf_parts {h t d : List Byte} (hh : h.length = 64) (ht : t.length = 2048) :
    slice (recordOf h t d) 0 64 = h ∧ slice (recordOf h t d) 64 4 = leBytes (crcInv h) 4 ∧
    (∀ k n, k + n ≤ 2048 → slice (recordOf h t d) (1024 + k) n = slice t k n) ∧
    ∀ k n, slice (recordOf h t d) (3072 + k) n = slice d k n := by
  refine ⟨?_, ?_, fun k n hk => ?_, fun k n => ?_⟩ <;> simp only [recordOf, List.append_assoc]
  · exact slice_front hh.symm
  · rw [slice_append (k := 0) (by simp [hh])]; exact slice_front (by simp)
  · rw [slice_append (k := 960 + k) (by omega), slice_append (k := 956 + k) (by simp only [leBytes_length]; omega),
      slice_append (k := k) (by rw [List.length_replicate]), slice_front_of (by omega)]
  · rw [slice_append (k := 3008 + k) (by omega), slice_append (k := 3004 + k) (by simp only [leBytes_length]; omega),
      slice_append (k := 2048 + k) (by simp only [List.length_replicate]; omega), slice_append (k := k) (by omega)]

/-- The record that is laid out for a data page passes the checks of its reading, where the map names it under that TPN and the
superblock has that SEQ, while no read of it began elsewhere (R315, R316, R327). -/
theorem recordOk_dataRecord {s : State} {page tpn : Nat} {e : NandLocRec} {x : NandSbRec}
    (hp : Maps.find page s.win.pages = some (.nand tpn)) (he : Maps.find tpn s.ntl.map = some e)
    (hx : Maps.find e.sb s.ntl.sbs = some x) (hpg : page < 2 ^ 34) (hr : Maps.find page s.ntl.reading = none) :
    s.recordOk page (s.dataRecord tpn page x.seq) = true := by
  have hl : s.readLoc page = some e := by
    rw [State.readLoc, hr, Option.orElse_none, State.nandLoc, if_neg (Nat.not_le.2 hpg), hp]; exact he
  have hlen : ∀ (fl : Byte) (tn sq : Nat), (recordHeader 1 fl tpn page tn sq (s.pagePoison page)).length = 64 := by
    intros; simp [recordHeader, State.pagePoison]
  simp only [State.recordOk, hp, hl, Option.bind_some, hx, State.dataRecord, if_neg (Nat.not_le.2 hpg)]
  generalize (s.pageTenant page).getD 0 = tn
  generalize (if (s.pagePoison page).any (· != 0) then 1 else 0 : Byte) = fl
  set h := recordHeader 1 fl tpn page tn x.seq (s.pagePoison page) with hdef
  obtain ⟨h0, h1, h2, h3⟩ := recordOf_parts (h := h) (d := (upTo 256).flatMap (fun k => s.med.store.bytes ((page * 256 + k) * 64) 64))
    (t := (upTo 256).flatMap (fun k => leBytes (tagCrc (s.med.store.bytes ((page * 256 + k) * 64) 64) (nandAddress (page * 256 + k) tn false)) 4 ++
      leBytes (s.storedEpoch (page * 256 + k)) 4)) (hlen fl tn x.seq) (by rw [flatMap_length (m := 8) _ (by simp)]; simp [upTo])
  set rec := recordOf h _ _ with hrec
  have hfl : nthD rec 3 0 = fl := by
    rw [hrec, hdef]; rfl
  have hpo : slice rec 32 32 = s.pagePoison page := by
    rw [hrec, recordOf]
    simp only [List.append_assoc]
    rw [slice_front_of (by rw [hlen]), hdef, recordHeader, slice_append (k := 0) (by simp)]
    simp [slice, State.pagePoison, List.take_of_length_le]
  rw [h0, h1, hfl, hpo, leNat_leBytes]
  simp only [Bool.and_eq_true, beq_iff_eq, List.all_eq_true]
  refine ⟨Nat.mod_eq_of_lt (crcInv_lt h), hdef, fun k hk => ?_⟩
  have hk : k < 256 := by simpa [upTo] using hk
  simp only [recordLineOk, beq_iff_eq]
  have hd : slice rec (3072 + 64 * k) 64 = s.med.store.bytes ((page * 256 + k) * 64) 64 := by
    rw [h3, slice_flatMap _ (fun i => by simp) _ k (by simpa [upTo] using hk)]; simp [upTo]
  rw [hd, h2 _ _ (by omega), slice_short _ _ (by norm_num : 4 ≤ 8), slice_flatMap _ (fun i => by simp) _ k (by simpa [upTo] using hk),
    List.take_left' (by simp), leNat_leBytes]
  simpa [upTo, tagCrc] using Nat.mod_eq_of_lt (crcInv_lt _)

end Sys2Proof.Machine
end

