-- ==== Sys2Proof/Laws/State.lean ====
section
/-! SUPPORT. What the basic updates of the state leave of each field, and the registers they write: no later proof unfolds a record
update. -/

namespace Sys2Proof.Machine

open Sys2Proof

/-! ## The queue -/

@[simp] theorem State.withPending_bar (s : State) (q : List Instr) : (s.withPending q).bar = s.bar := rfl
@[simp] theorem State.withPending_snap (s : State) (q : List Instr) : (s.withPending q).snap = s.snap := rfl
@[simp] theorem State.withPending_tck (s : State) (q : List Instr) : (s.withPending q).tck = s.tck := rfl
@[simp] theorem State.withPending_prt (s : State) (q : List Instr) : (s.withPending q).prt = s.prt := rfl
@[simp] theorem State.withPending_trn (s : State) (q : List Instr) : (s.withPending q).trn = s.trn := rfl
@[simp] theorem State.withPending_win (s : State) (q : List Instr) : (s.withPending q).win = s.win := rfl
@[simp] theorem State.withPending_ten (s : State) (q : List Instr) : (s.withPending q).ten = s.ten := rfl
@[simp] theorem State.withPending_cle (s : State) (q : List Instr) : (s.withPending q).cle = s.cle := rfl
@[simp] theorem State.withPending_mcp (s : State) (q : List Instr) : (s.withPending q).mcp = s.mcp := rfl
@[simp] theorem State.withPending_stg (s : State) (q : List Instr) : (s.withPending q).stg = s.stg := rfl
@[simp] theorem State.withPending_dur (s : State) (q : List Instr) : (s.withPending q).dur = s.dur := rfl
@[simp] theorem State.withPending_ctl (s : State) (q : List Instr) : (s.withPending q).ctl = s.ctl := rfl
@[simp] theorem State.withPending_med (s : State) (q : List Instr) : (s.withPending q).med = s.med := rfl
@[simp] theorem State.withPending_drc (s : State) (q : List Instr) : (s.withPending q).drc = s.drc := rfl
@[simp] theorem State.withPending_ntl (s : State) (q : List Instr) : (s.withPending q).ntl = s.ntl := rfl
@[simp] theorem State.withPending_twn (s : State) (q : List Instr) : (s.withPending q).twn = s.twn := rfl
@[simp] theorem State.withPending_integ (s : State) (q : List Instr) : (s.withPending q).integ = s.integ := rfl
@[simp] theorem State.withPending_efl (s : State) (q : List Instr) : (s.withPending q).efl = s.efl := rfl
@[simp] theorem State.withPending_sec (s : State) (q : List Instr) : (s.withPending q).sec = s.sec := rfl
@[simp] theorem State.withPending_sqr (s : State) (q : List Instr) : (s.withPending q).sqr = s.sqr := rfl
@[simp] theorem State.withPending_twb (s : State) (q : List Instr) : (s.withPending q).twb = s.twb := rfl
@[simp] theorem State.withPending_evr (s : State) (q : List Instr) : (s.withPending q).evr = s.evr := rfl
@[simp] theorem State.withPending_free (s : State) (q : List Instr) : (s.withPending q).free = s.free := rfl
@[simp] theorem State.withPending_pending (s : State) (q : List Instr) : (s.withPending q).pending = q := rfl

/-! ## A register (`setReg`) -/

@[simp] theorem State.setReg_snap (s : State) (off : Nat) (v : Word) : (s.setReg off v).snap = s.snap := rfl
@[simp] theorem State.setReg_tck (s : State) (off : Nat) (v : Word) : (s.setReg off v).tck = s.tck := rfl
@[simp] theorem State.setReg_prt (s : State) (off : Nat) (v : Word) : (s.setReg off v).prt = s.prt := rfl
@[simp] theorem State.setReg_trn (s : State) (off : Nat) (v : Word) : (s.setReg off v).trn = s.trn := rfl
@[simp] theorem State.setReg_win (s : State) (off : Nat) (v : Word) : (s.setReg off v).win = s.win := rfl
@[simp] theorem State.setReg_ten (s : State) (off : Nat) (v : Word) : (s.setReg off v).ten = s.ten := rfl
@[simp] theorem State.setReg_cle (s : State) (off : Nat) (v : Word) : (s.setReg off v).cle = s.cle := rfl
@[simp] theorem State.setReg_mcp (s : State) (off : Nat) (v : Word) : (s.setReg off v).mcp = s.mcp := rfl
@[simp] theorem State.setReg_stg (s : State) (off : Nat) (v : Word) : (s.setReg off v).stg = s.stg := rfl
@[simp] theorem State.setReg_dur (s : State) (off : Nat) (v : Word) : (s.setReg off v).dur = s.dur := rfl
@[simp] theorem State.setReg_ctl (s : State) (off : Nat) (v : Word) : (s.setReg off v).ctl = s.ctl := rfl
@[simp] theorem State.setReg_med (s : State) (off : Nat) (v : Word) : (s.setReg off v).med = s.med := rfl
@[simp] theorem State.setReg_drc (s : State) (off : Nat) (v : Word) : (s.setReg off v).drc = s.drc := rfl
@[simp] theorem State.setReg_ntl (s : State) (off : Nat) (v : Word) : (s.setReg off v).ntl = s.ntl := rfl
@[simp] theorem State.setReg_twn (s : State) (off : Nat) (v : Word) : (s.setReg off v).twn = s.twn := rfl
@[simp] theorem State.setReg_integ (s : State) (off : Nat) (v : Word) : (s.setReg off v).integ = s.integ := rfl
@[simp] theorem State.setReg_efl (s : State) (off : Nat) (v : Word) : (s.setReg off v).efl = s.efl := rfl
@[simp] theorem State.setReg_sec (s : State) (off : Nat) (v : Word) : (s.setReg off v).sec = s.sec := rfl
@[simp] theorem State.setReg_sqr (s : State) (off : Nat) (v : Word) : (s.setReg off v).sqr = s.sqr := rfl
@[simp] theorem State.setReg_twb (s : State) (off : Nat) (v : Word) : (s.setReg off v).twb = s.twb := rfl
@[simp] theorem State.setReg_evr (s : State) (off : Nat) (v : Word) : (s.setReg off v).evr = s.evr := rfl
@[simp] theorem State.setReg_free (s : State) (off : Nat) (v : Word) : (s.setReg off v).free = s.free := rfl
@[simp] theorem State.setReg_pending (s : State) (off : Nat) (v : Word) : (s.setReg off v).pending = s.pending := rfl

/-! ## A field (`setF`) -/

@[simp] theorem State.setF_snap (s : State) (off hi lo v : Nat) : (s.setF off hi lo v).snap = s.snap := rfl
@[simp] theorem State.setF_tck (s : State) (off hi lo v : Nat) : (s.setF off hi lo v).tck = s.tck := rfl
@[simp] theorem State.setF_prt (s : State) (off hi lo v : Nat) : (s.setF off hi lo v).prt = s.prt := rfl
@[simp] theorem State.setF_trn (s : State) (off hi lo v : Nat) : (s.setF off hi lo v).trn = s.trn := rfl
@[simp] theorem State.setF_win (s : State) (off hi lo v : Nat) : (s.setF off hi lo v).win = s.win := rfl
@[simp] theorem State.setF_ten (s : State) (off hi lo v : Nat) : (s.setF off hi lo v).ten = s.ten := rfl
@[simp] theorem State.setF_cle (s : State) (off hi lo v : Nat) : (s.setF off hi lo v).cle = s.cle := rfl
@[simp] theorem State.setF_mcp (s : State) (off hi lo v : Nat) : (s.setF off hi lo v).mcp = s.mcp := rfl
@[simp] theorem State.setF_stg (s : State) (off hi lo v : Nat) : (s.setF off hi lo v).stg = s.stg := rfl
@[simp] theorem State.setF_dur (s : State) (off hi lo v : Nat) : (s.setF off hi lo v).dur = s.dur := rfl
@[simp] theorem State.setF_ctl (s : State) (off hi lo v : Nat) : (s.setF off hi lo v).ctl = s.ctl := rfl
@[simp] theorem State.setF_med (s : State) (off hi lo v : Nat) : (s.setF off hi lo v).med = s.med := rfl
@[simp] theorem State.setF_drc (s : State) (off hi lo v : Nat) : (s.setF off hi lo v).drc = s.drc := rfl
@[simp] theorem State.setF_ntl (s : State) (off hi lo v : Nat) : (s.setF off hi lo v).ntl = s.ntl := rfl
@[simp] theorem State.setF_twn (s : State) (off hi lo v : Nat) : (s.setF off hi lo v).twn = s.twn := rfl
@[simp] theorem State.setF_integ (s : State) (off hi lo v : Nat) : (s.setF off hi lo v).integ = s.integ := rfl
@[simp] theorem State.setF_efl (s : State) (off hi lo v : Nat) : (s.setF off hi lo v).efl = s.efl := rfl
@[simp] theorem State.setF_sec (s : State) (off hi lo v : Nat) : (s.setF off hi lo v).sec = s.sec := rfl
@[simp] theorem State.setF_sqr (s : State) (off hi lo v : Nat) : (s.setF off hi lo v).sqr = s.sqr := rfl
@[simp] theorem State.setF_twb (s : State) (off hi lo v : Nat) : (s.setF off hi lo v).twb = s.twb := rfl
@[simp] theorem State.setF_evr (s : State) (off hi lo v : Nat) : (s.setF off hi lo v).evr = s.evr := rfl
@[simp] theorem State.setF_free (s : State) (off hi lo v : Nat) : (s.setF off hi lo v).free = s.free := rfl
@[simp] theorem State.setF_pending (s : State) (off hi lo v : Nat) : (s.setF off hi lo v).pending = s.pending := rfl

/-! ## A bit (`setB`) -/

@[simp] theorem State.setB_snap (s : State) (off i : Nat) (b : Bool) : (s.setB off i b).snap = s.snap := rfl
@[simp] theorem State.setB_tck (s : State) (off i : Nat) (b : Bool) : (s.setB off i b).tck = s.tck := rfl
@[simp] theorem State.setB_prt (s : State) (off i : Nat) (b : Bool) : (s.setB off i b).prt = s.prt := rfl
@[simp] theorem State.setB_trn (s : State) (off i : Nat) (b : Bool) : (s.setB off i b).trn = s.trn := rfl
@[simp] theorem State.setB_win (s : State) (off i : Nat) (b : Bool) : (s.setB off i b).win = s.win := rfl
@[simp] theorem State.setB_ten (s : State) (off i : Nat) (b : Bool) : (s.setB off i b).ten = s.ten := rfl
@[simp] theorem State.setB_cle (s : State) (off i : Nat) (b : Bool) : (s.setB off i b).cle = s.cle := rfl
@[simp] theorem State.setB_mcp (s : State) (off i : Nat) (b : Bool) : (s.setB off i b).mcp = s.mcp := rfl
@[simp] theorem State.setB_stg (s : State) (off i : Nat) (b : Bool) : (s.setB off i b).stg = s.stg := rfl
@[simp] theorem State.setB_dur (s : State) (off i : Nat) (b : Bool) : (s.setB off i b).dur = s.dur := rfl
@[simp] theorem State.setB_ctl (s : State) (off i : Nat) (b : Bool) : (s.setB off i b).ctl = s.ctl := rfl
@[simp] theorem State.setB_med (s : State) (off i : Nat) (b : Bool) : (s.setB off i b).med = s.med := rfl
@[simp] theorem State.setB_drc (s : State) (off i : Nat) (b : Bool) : (s.setB off i b).drc = s.drc := rfl
@[simp] theorem State.setB_ntl (s : State) (off i : Nat) (b : Bool) : (s.setB off i b).ntl = s.ntl := rfl
@[simp] theorem State.setB_twn (s : State) (off i : Nat) (b : Bool) : (s.setB off i b).twn = s.twn := rfl
@[simp] theorem State.setB_integ (s : State) (off i : Nat) (b : Bool) : (s.setB off i b).integ = s.integ := rfl
@[simp] theorem State.setB_efl (s : State) (off i : Nat) (b : Bool) : (s.setB off i b).efl = s.efl := rfl
@[simp] theorem State.setB_sec (s : State) (off i : Nat) (b : Bool) : (s.setB off i b).sec = s.sec := rfl
@[simp] theorem State.setB_sqr (s : State) (off i : Nat) (b : Bool) : (s.setB off i b).sqr = s.sqr := rfl
@[simp] theorem State.setB_twb (s : State) (off i : Nat) (b : Bool) : (s.setB off i b).twb = s.twb := rfl
@[simp] theorem State.setB_evr (s : State) (off i : Nat) (b : Bool) : (s.setB off i b).evr = s.evr := rfl
@[simp] theorem State.setB_free (s : State) (off i : Nat) (b : Bool) : (s.setB off i b).free = s.free := rfl
@[simp] theorem State.setB_pending (s : State) (off i : Nat) (b : Bool) : (s.setB off i b).pending = s.pending := rfl

/-! ## A register pair (`setPair`) -/

@[simp] theorem State.setPair_snap (s : State) (lo v : Nat) : (s.setPair lo v).snap = s.snap := rfl
@[simp] theorem State.setPair_tck (s : State) (lo v : Nat) : (s.setPair lo v).tck = s.tck := rfl
@[simp] theorem State.setPair_prt (s : State) (lo v : Nat) : (s.setPair lo v).prt = s.prt := rfl
@[simp] theorem State.setPair_trn (s : State) (lo v : Nat) : (s.setPair lo v).trn = s.trn := rfl
@[simp] theorem State.setPair_win (s : State) (lo v : Nat) : (s.setPair lo v).win = s.win := rfl
@[simp] theorem State.setPair_ten (s : State) (lo v : Nat) : (s.setPair lo v).ten = s.ten := rfl
@[simp] theorem State.setPair_cle (s : State) (lo v : Nat) : (s.setPair lo v).cle = s.cle := rfl
@[simp] theorem State.setPair_mcp (s : State) (lo v : Nat) : (s.setPair lo v).mcp = s.mcp := rfl
@[simp] theorem State.setPair_stg (s : State) (lo v : Nat) : (s.setPair lo v).stg = s.stg := rfl
@[simp] theorem State.setPair_dur (s : State) (lo v : Nat) : (s.setPair lo v).dur = s.dur := rfl
@[simp] theorem State.setPair_ctl (s : State) (lo v : Nat) : (s.setPair lo v).ctl = s.ctl := rfl
@[simp] theorem State.setPair_med (s : State) (lo v : Nat) : (s.setPair lo v).med = s.med := rfl
@[simp] theorem State.setPair_drc (s : State) (lo v : Nat) : (s.setPair lo v).drc = s.drc := rfl
@[simp] theorem State.setPair_ntl (s : State) (lo v : Nat) : (s.setPair lo v).ntl = s.ntl := rfl
@[simp] theorem State.setPair_twn (s : State) (lo v : Nat) : (s.setPair lo v).twn = s.twn := rfl
@[simp] theorem State.setPair_integ (s : State) (lo v : Nat) : (s.setPair lo v).integ = s.integ := rfl
@[simp] theorem State.setPair_efl (s : State) (lo v : Nat) : (s.setPair lo v).efl = s.efl := rfl
@[simp] theorem State.setPair_sec (s : State) (lo v : Nat) : (s.setPair lo v).sec = s.sec := rfl
@[simp] theorem State.setPair_sqr (s : State) (lo v : Nat) : (s.setPair lo v).sqr = s.sqr := rfl
@[simp] theorem State.setPair_twb (s : State) (lo v : Nat) : (s.setPair lo v).twb = s.twb := rfl
@[simp] theorem State.setPair_evr (s : State) (lo v : Nat) : (s.setPair lo v).evr = s.evr := rfl
@[simp] theorem State.setPair_free (s : State) (lo v : Nat) : (s.setPair lo v).free = s.free := rfl
@[simp] theorem State.setPair_pending (s : State) (lo v : Nat) : (s.setPair lo v).pending = s.pending := rfl

/-! ## Counters (`bumpBy`, `bump`) -/

@[simp] theorem State.bumpBy_snap (s : State) (off n : Nat) : (s.bumpBy off n).snap = s.snap := by unfold State.bumpBy; split <;> rfl
@[simp] theorem State.bumpBy_tck (s : State) (off n : Nat) : (s.bumpBy off n).tck = s.tck := by unfold State.bumpBy; split <;> rfl
@[simp] theorem State.bumpBy_prt (s : State) (off n : Nat) : (s.bumpBy off n).prt = s.prt := by unfold State.bumpBy; split <;> rfl
@[simp] theorem State.bumpBy_trn (s : State) (off n : Nat) : (s.bumpBy off n).trn = s.trn := by unfold State.bumpBy; split <;> rfl
@[simp] theorem State.bumpBy_win (s : State) (off n : Nat) : (s.bumpBy off n).win = s.win := by unfold State.bumpBy; split <;> rfl
@[simp] theorem State.bumpBy_ten (s : State) (off n : Nat) : (s.bumpBy off n).ten = s.ten := by unfold State.bumpBy; split <;> rfl
@[simp] theorem State.bumpBy_cle (s : State) (off n : Nat) : (s.bumpBy off n).cle = s.cle := by unfold State.bumpBy; split <;> rfl
@[simp] theorem State.bumpBy_mcp (s : State) (off n : Nat) : (s.bumpBy off n).mcp = s.mcp := by unfold State.bumpBy; split <;> rfl
@[simp] theorem State.bumpBy_stg (s : State) (off n : Nat) : (s.bumpBy off n).stg = s.stg := by unfold State.bumpBy; split <;> rfl
@[simp] theorem State.bumpBy_dur (s : State) (off n : Nat) : (s.bumpBy off n).dur = s.dur := by unfold State.bumpBy; split <;> rfl
@[simp] theorem State.bumpBy_ctl (s : State) (off n : Nat) : (s.bumpBy off n).ctl = s.ctl := by unfold State.bumpBy; split <;> rfl
@[simp] theorem State.bumpBy_med (s : State) (off n : Nat) : (s.bumpBy off n).med = s.med := by unfold State.bumpBy; split <;> rfl
@[simp] theorem State.bumpBy_drc (s : State) (off n : Nat) : (s.bumpBy off n).drc = s.drc := by unfold State.bumpBy; split <;> rfl
@[simp] theorem State.bumpBy_ntl (s : State) (off n : Nat) : (s.bumpBy off n).ntl = s.ntl := by unfold State.bumpBy; split <;> rfl
@[simp] theorem State.bumpBy_twn (s : State) (off n : Nat) : (s.bumpBy off n).twn = s.twn := by unfold State.bumpBy; split <;> rfl
@[simp] theorem State.bumpBy_integ (s : State) (off n : Nat) : (s.bumpBy off n).integ = s.integ := by unfold State.bumpBy; split <;> rfl
@[simp] theorem State.bumpBy_efl (s : State) (off n : Nat) : (s.bumpBy off n).efl = s.efl := by unfold State.bumpBy; split <;> rfl
@[simp] theorem State.bumpBy_sec (s : State) (off n : Nat) : (s.bumpBy off n).sec = s.sec := by unfold State.bumpBy; split <;> rfl
@[simp] theorem State.bumpBy_sqr (s : State) (off n : Nat) : (s.bumpBy off n).sqr = s.sqr := by unfold State.bumpBy; split <;> rfl
@[simp] theorem State.bumpBy_twb (s : State) (off n : Nat) : (s.bumpBy off n).twb = s.twb := by unfold State.bumpBy; split <;> rfl
@[simp] theorem State.bumpBy_evr (s : State) (off n : Nat) : (s.bumpBy off n).evr = s.evr := by unfold State.bumpBy; split <;> rfl
@[simp] theorem State.bumpBy_free (s : State) (off n : Nat) : (s.bumpBy off n).free = s.free := by unfold State.bumpBy; split <;> rfl
@[simp] theorem State.bumpBy_pending (s : State) (off n : Nat) : (s.bumpBy off n).pending = s.pending := by unfold State.bumpBy; split <;> rfl
@[simp] theorem State.bump_snap (s : State) (off : Nat) : (s.bump off).snap = s.snap := State.bumpBy_snap s off 1
@[simp] theorem State.bump_tck (s : State) (off : Nat) : (s.bump off).tck = s.tck := State.bumpBy_tck s off 1
@[simp] theorem State.bump_prt (s : State) (off : Nat) : (s.bump off).prt = s.prt := State.bumpBy_prt s off 1
@[simp] theorem State.bump_trn (s : State) (off : Nat) : (s.bump off).trn = s.trn := State.bumpBy_trn s off 1
@[simp] theorem State.bump_win (s : State) (off : Nat) : (s.bump off).win = s.win := State.bumpBy_win s off 1
@[simp] theorem State.bump_ten (s : State) (off : Nat) : (s.bump off).ten = s.ten := State.bumpBy_ten s off 1
@[simp] theorem State.bump_cle (s : State) (off : Nat) : (s.bump off).cle = s.cle := State.bumpBy_cle s off 1
@[simp] theorem State.bump_mcp (s : State) (off : Nat) : (s.bump off).mcp = s.mcp := State.bumpBy_mcp s off 1
@[simp] theorem State.bump_stg (s : State) (off : Nat) : (s.bump off).stg = s.stg := State.bumpBy_stg s off 1
@[simp] theorem State.bump_dur (s : State) (off : Nat) : (s.bump off).dur = s.dur := State.bumpBy_dur s off 1
@[simp] theorem State.bump_ctl (s : State) (off : Nat) : (s.bump off).ctl = s.ctl := State.bumpBy_ctl s off 1
@[simp] theorem State.bump_med (s : State) (off : Nat) : (s.bump off).med = s.med := State.bumpBy_med s off 1
@[simp] theorem State.bump_drc (s : State) (off : Nat) : (s.bump off).drc = s.drc := State.bumpBy_drc s off 1
@[simp] theorem State.bump_ntl (s : State) (off : Nat) : (s.bump off).ntl = s.ntl := State.bumpBy_ntl s off 1
@[simp] theorem State.bump_twn (s : State) (off : Nat) : (s.bump off).twn = s.twn := State.bumpBy_twn s off 1
@[simp] theorem State.bump_integ (s : State) (off : Nat) : (s.bump off).integ = s.integ := State.bumpBy_integ s off 1
@[simp] theorem State.bump_efl (s : State) (off : Nat) : (s.bump off).efl = s.efl := State.bumpBy_efl s off 1
@[simp] theorem State.bump_sec (s : State) (off : Nat) : (s.bump off).sec = s.sec := State.bumpBy_sec s off 1
@[simp] theorem State.bump_sqr (s : State) (off : Nat) : (s.bump off).sqr = s.sqr := State.bumpBy_sqr s off 1
@[simp] theorem State.bump_twb (s : State) (off : Nat) : (s.bump off).twb = s.twb := State.bumpBy_twb s off 1
@[simp] theorem State.bump_evr (s : State) (off : Nat) : (s.bump off).evr = s.evr := State.bumpBy_evr s off 1
@[simp] theorem State.bump_free (s : State) (off : Nat) : (s.bump off).free = s.free := State.bumpBy_free s off 1
@[simp] theorem State.bump_pending (s : State) (off : Nat) : (s.bump off).pending = s.pending := State.bumpBy_pending s off 1

/-! ## What a register reads after a write -/

@[simp] theorem State.reg_setReg (s : State) (off : Nat) (v : Word) : (s.setReg off v).reg off = v := Maps.rd_wr_same _ _ _ _

theorem State.reg_setReg_other (s : State) {off o : Nat} (v : Word) (h : o ≠ off) : (s.setReg off v).reg o = s.reg o :=
  Maps.rd_wr_other _ _ _ h

@[simp] theorem State.reg_setF (s : State) (off hi lo v : Nat) : (s.setF off hi lo v).reg off = setFld (s.reg off) hi lo v :=
  State.reg_setReg _ _ _

theorem State.reg_setF_other (s : State) {off o : Nat} (hi lo v : Nat) (h : o ≠ off) : (s.setF off hi lo v).reg o = s.reg o :=
  State.reg_setReg_other _ _ h

theorem State.reg_setB_other (s : State) {off o : Nat} (i : Nat) (b : Bool) (h : o ≠ off) : (s.setB off i b).reg o = s.reg o :=
  State.reg_setReg_other _ _ h

theorem State.reg_bumpBy (s : State) (off n : Nat) : (s.bumpBy off n).reg off = s.reg off + BitVec.ofNat 32 n := by
  unfold State.bumpBy
  split
  · subst n; simp
  · simp

theorem State.reg_bumpBy_other (s : State) {off o : Nat} (n : Nat) (h : o ≠ off) : (s.bumpBy off n).reg o = s.reg o := by
  unfold State.bumpBy
  split
  · rfl
  · exact State.reg_setReg_other _ _ h

end Sys2Proof.Machine
end

