-- ==== Sys2Proof/Machine/Layouts.lean ====
section
/-! DEFINITION. The 128 bytes of a command of the control rings, and the row they spell (R580, R581). -/

namespace Sys2Proof.Machine

open Sys2Proof

/-- The little-endian number of `n` bytes of a command from an offset (R6, R580). -/
def cmdField (b : List Byte) (o n : Nat) : Nat := leNat (slice b o n)

/-- Every byte of a command outside the ranges given is 0; a range is an offset and a length. -/
def restZero (b : List Byte) (used : List (Nat × Nat)) : Bool :=
  (upTo 128).all (fun i => used.any (fun u => decide (u.1 ≤ i) && decide (i < u.1 + u.2)) || nthD b i 0 == 0#8)

/-- OPCODE, TAG, and ADDR with LEN, which a command with data uses (R580, log 124). -/
def headBytes (data : Bool) : List (Nat × Nat) := if data then [(0, 1), (4, 4), (8, 12)] else [(0, 1), (4, 4)]

/-- The head of a command on a ring: its TAG, and whether a reserved byte or bit is not 0; `high` are the reserved bits of the flag
bytes it uses, as a number. -/
def cmdHead (ring : Fin 16) (b : List Byte) (data : Bool) (used : List (Nat × Nat)) (high : Nat) : CmdHead :=
  { ring, tag := BitVec.ofNat 32 (cmdField b 4 4), reservedSet := !restZero b (headBytes data ++ used) || high != 0 }

/-- A window descriptor from its 32 bytes (R110); its reserved bits are those that `descHigh` gathers. -/
def cmdDesc (b : List Byte) : WinDesc :=
  let w (k : Nat) : Nat := cmdField b (32 + 8 * k) 8
  { vaBase := BitVec.ofNat 64 (w 0), progId := BitVec.ofNat 10 (w 1 / 2 ^ 48), pnaBase := BitVec.ofNat 48 (w 1)
    tenant := BitVec.ofNat 12 (w 2 / 2 ^ 48), length := BitVec.ofNat 48 (w 2), rights := BitVec.ofNat 5 (w 3 / 2 ^ 11)
    pinned := w 3 / 2 ^ 10 % 2 == 1 }

/-- The reserved bits of a window descriptor (R110). -/
def descHigh (b : List Byte) : Nat :=
  cmdField b 40 8 / 2 ^ 58 + cmdField b 48 8 / 2 ^ 60 + cmdField b 56 8 / 2 ^ 16

/-- The QP block of QP_CREATE and QP_MODIFY (R581). -/
def cmdQp (b : List Byte) : QpBlock :=
  let f (o n : Nat) : Nat := cmdField b o n
  { qpn := BitVec.ofNat 32 (f 24 4), mask := BitVec.ofNat 8 (f 28 1), tenant := BitVec.ofNat 16 (f 32 2), cls := BitVec.ofNat 8 (f 34 1)
    state := BitVec.ofNat 8 (f 35 1), pmtu := BitVec.ofNat 8 (f 36 1), egressLp := BitVec.ofNat 8 (f 37 1), altLp := BitVec.ofNat 8 (f 38 1)
    notice := f 39 1 % 2 == 1, ipv6 := f 39 1 / 2 % 2 == 1, remoteQpn := BitVec.ofNat 32 (f 40 4), bond := BitVec.ofNat 32 (f 44 4)
    mac := BitVec.ofNat 48 (f 48 6), vlan := BitVec.ofNat 16 (f 54 2), ip := BitVec.ofNat 128 (f 56 16), udpPort := BitVec.ofNat 16 (f 72 2)
    ackCode := BitVec.ofNat 8 (f 74 1), retry := BitVec.ofNat 8 (f 75 1), rnrRetry := BitVec.ofNat 8 (f 76 1)
    minRnr := BitVec.ofNat 8 (f 77 1), maxRd := BitVec.ofNat 8 (f 78 1), ePsn := BitVec.ofNat 32 (f 80 4)
    reqPsn := BitVec.ofNat 32 (f 84 4) }

/-- Bytes of the QP block; MASK, of four bytes, is used by QP_MODIFY alone. -/
def qpBytes (modify : Bool) : List (Nat × Nat) :=
  [(24, 4), (32, 47), (80, 8)] ++ (if modify then [(28, 1)] else [])

/-- The row that a command's 128 bytes spell, with the bytes found at ADDR; what management firmware answers MGMT with is not in them.
An OPCODE of no command spells none (R581). -/
def commandOf (ring : Fin 16) (b data : List Byte) : Option Instr :=
  let f (o n : Nat) : Nat := cmdField b o n
  let w (n o k : Nat) : BitVec n := BitVec.ofNat n (f o k)
  let h (used : List (Nat × Nat)) (high : Nat) : CmdHead := cmdHead ring b false used high
  let hd (used : List (Nat × Nat)) (high : Nat) : CmdHead := cmdHead ring b true used high
  match f 0 1 with
  | 0x01 => some (.tenantCreate (hd [(24, 3), (28, 10)] (f 26 1 / 4)) (w 16 24 2) (f 26 1 % 2 == 1) (f 26 1 / 2 % 2 == 1)
      (w 32 28 4) (w 32 32 4) (w 16 36 2) (w 32 16 4) data)
  | 0x02 => some (.tenantDestroy (h [(24, 2)] 0) (w 16 24 2))
  | 0x03 => some (.extentAlloc (h [(24, 7)] 0) (w 32 24 4) (w 16 28 2) (w 8 30 1))
  | 0x04 => some (.extentFree (h [(24, 4)] 0) (w 32 24 4))
  | 0x05 => some (.extentDiscard (h [(24, 18)] 0) (w 64 24 8) (w 64 32 8) (w 16 40 2))
  | 0x08 => some (.windowOpen (h [(24, 5), (32, 32)] (f 28 1 / 2 + descHigh b)) (w 32 24 4) (f 28 1 % 2 == 1) (cmdDesc b))
  | 0x09 => some (.windowModify (h [(24, 5), (32, 4)] 0) (w 32 24 4) (w 8 28 1) (w 8 32 1) (w 8 33 1) (w 16 34 2))
  | 0x0A => some (.windowRevoke (h [(24, 4)] 0) (w 32 24 4))
  | 0x0C => some (.qpCreate (h (qpBytes false) (f 39 1 / 4)) (cmdQp b))
  | 0x0D => some (.qpModify (h (qpBytes true) (f 39 1 / 4)) (cmdQp b))
  | 0x0E => some (.qpDestroy (h [(24, 4)] 0) (w 32 24 4))
  | 0x10 => some (.programLoad (hd [] 0) data)
  | 0x11 => some (.programUnload (h [(24, 1)] 0) (w 8 24 1))
  | 0x14 => some (.drill (h [(24, 2)] (f 25 1 / 2)) (w 8 24 1) (f 25 1 % 2 == 1))
  | 0x15 => some (.tierFormat (h [] 0))
  | 0x16 => some (.scmFormat (h [(24, 9)] 0) (w 64 24 8) (w 8 32 1))
  | 0x18 => some (.regionRead (hd [(24, 8)] 0) (w 64 24 8) (w 32 16 4))
  | 0x19 => some (.regionWrite (hd [(24, 8)] 0) (w 64 24 8) data)
  | 0x1C => some (.mgmt (h [(24, 104)] 0) (slice b 24 104) 0 0 0 0)
  | 0x1D => some (.nop (h [] 0))
  | 0x1E => some (.query (h [(24, 1), (28, 4)] 0) (w 8 24 1) (w 32 28 4))
  | _ => none

end Sys2Proof.Machine
end

