-- ==== Sys2Proof/WellFormed.lean ====
section
/-! DEFINITION. Which commands can be sent: the operands that the buses, the links and the Ausum words can carry. The
machine takes any command; these are the ones that the outside can make. -/

namespace Sys2Proof

open Sys2Proof.Machine

/-- The Ausum word of an instruction row, the op and subs of the row (R186), and its MODE bit where a T row has one (R193). -/
def Instr.word : Instr → Option (DWord × Nat × List Nat × Option Bool)
  | .nopInstruction _ w _ => some (w, 0x01, [0], none)
  | .add _ w => some (w, 0x10, [0], none)
  | .sub _ w => some (w, 0x10, [1], none)
  | .and _ w => some (w, 0x10, [2], none)
  | .or _ w => some (w, 0x10, [3], none)
  | .xor _ w => some (w, 0x10, [4], none)
  | .shl _ w => some (w, 0x10, [5], none)
  | .shr _ w => some (w, 0x10, [6], none)
  | .sar _ w => some (w, 0x10, [7], none)
  | .mul _ w => some (w, 0x10, [8], none)
  | .mulhu _ w => some (w, 0x10, [9], none)
  | .minu _ w => some (w, 0x10, [10], none)
  | .maxu _ w => some (w, 0x10, [11], none)
  | .min _ w => some (w, 0x10, [12], none)
  | .max _ w => some (w, 0x10, [13], none)
  | .andn _ w => some (w, 0x10, [14], none)
  | .addi _ w => some (w, 0x11, [0], none)
  | .subi _ w => some (w, 0x11, [1], none)
  | .andi _ w => some (w, 0x11, [2], none)
  | .ori _ w => some (w, 0x11, [3], none)
  | .xori _ w => some (w, 0x11, [4], none)
  | .shli _ w => some (w, 0x11, [5], none)
  | .shri _ w => some (w, 0x11, [6], none)
  | .sari _ w => some (w, 0x11, [7], none)
  | .muli _ w => some (w, 0x11, [8], none)
  | .mulhui _ w => some (w, 0x11, [9], none)
  | .minui _ w => some (w, 0x11, [10], none)
  | .maxui _ w => some (w, 0x11, [11], none)
  | .mini _ w => some (w, 0x11, [12], none)
  | .maxi _ w => some (w, 0x11, [13], none)
  | .andni _ w => some (w, 0x11, [14], none)
  | .deph _ w => some (w, 0x11, [15], none)
  | .cmpEq _ w => some (w, 0x12, [0], none)
  | .cmpNe _ w => some (w, 0x12, [1], none)
  | .cmpLtu _ w => some (w, 0x12, [2], none)
  | .cmpGeu _ w => some (w, 0x12, [3], none)
  | .cmpLt _ w => some (w, 0x12, [4], none)
  | .cmpGe _ w => some (w, 0x12, [5], none)
  | .cmpTst _ w => some (w, 0x12, [6], none)
  | .cmpNtst _ w => some (w, 0x12, [7], none)
  | .cmpiEq _ w => some (w, 0x13, [0], none)
  | .cmpiNe _ w => some (w, 0x13, [1], none)
  | .cmpiLtu _ w => some (w, 0x13, [2], none)
  | .cmpiGeu _ w => some (w, 0x13, [3], none)
  | .cmpiLt _ w => some (w, 0x13, [4], none)
  | .cmpiGe _ w => some (w, 0x13, [5], none)
  | .cmpiTst _ w => some (w, 0x13, [6], none)
  | .cmpiNtst _ w => some (w, 0x13, [7], none)
  | .pand _ w => some (w, 0x14, [0], none)
  | .por _ w => some (w, 0x14, [1], none)
  | .pxor _ w => some (w, 0x14, [2], none)
  | .pandn _ w => some (w, 0x14, [3], none)
  | .p2g _ w => some (w, 0x14, [4], none)
  | .clz _ w => some (w, 0x15, [0], none)
  | .ctz _ w => some (w, 0x15, [1], none)
  | .popc _ w => some (w, 0x15, [2], none)
  | .bswap _ w => some (w, 0x15, [3], none)
  | .bswap32 _ w => some (w, 0x15, [4], none)
  | .extu _ w => some (w, 0x16, [0], none)
  | .exts _ w => some (w, 0x16, [1], none)
  | .ins _ w => some (w, 0x16, [2], none)
  | .crc32cB _ w => some (w, 0x17, [0], none)
  | .crc32cD _ w => some (w, 0x17, [1], none)
  | .crc64D _ w => some (w, 0x17, [2], none)
  | .getcx _ w => some (w, 0x18, [0, 1, 2, 3, 4, 5, 6, 7], none)
  | .ldPad _ w _ => some (w, 0x20, [0, 1, 2, 3, 4, 5, 6, 7], none)
  | .ldPayload _ w => some (w, 0x20, [8, 9, 10, 11, 12, 13, 14, 15], none)
  | .ldTile _ w _ => some (w, 0x20, [16, 17, 18, 19, 20, 21, 22, 23], none)
  | .stPad _ w => some (w, 0x21, [0, 1, 2, 3], none)
  | .stTile _ w => some (w, 0x21, [16, 17, 18, 19], none)
  | .tld _ w => some (w, 0x30, [0], none)
  | .tst _ w _ => some (w, 0x31, [0], none)
  | .tcopy _ w _ => some (w, 0x32, [0], (some false))
  | .tcopyPayload _ w => some (w, 0x32, [0], (some true))
  | .tfill _ w => some (w, 0x33, [0], none)
  | .txor _ w _ => some (w, 0x34, [0], none)
  | .tcrcCrc32c _ w _ => some (w, 0x35, [0], (some false))
  | .tcrcCrc64 _ w _ => some (w, 0x35, [0], (some true))
  | .tcmp _ w _ => some (w, 0x36, [0], none)
  | .tscanEq _ w _ => some (w, 0x37, [0], (some false))
  | .tscanNe _ w _ => some (w, 0x37, [0], (some true))
  | .tsumAdd _ w _ => some (w, 0x38, [0], (some false))
  | .tsumXor _ w _ => some (w, 0x38, [0], (some true))
  | .mreadResponse _ w => some (w, 0x40, [0], none)
  | .mreadPad _ w => some (w, 0x40, [1], none)
  | .mwritePad _ w => some (w, 0x41, [0], none)
  | .mwritePayload _ w => some (w, 0x41, [1], none)
  | .cas8 _ w => some (w, 0x42, [0], none)
  | .fadd8 _ w => some (w, 0x42, [1], none)
  | .swap8 _ w => some (w, 0x42, [2], none)
  | .mask8 _ w => some (w, 0x42, [3], none)
  | .cas16 _ w => some (w, 0x42, [4], none)
  | .write8 _ w => some (w, 0x42, [5], none)
  | .stage _ w => some (w, 0x43, [0], none)
  | .fence _ w => some (w, 0x44, [0], none)
  | .postResponse _ w => some (w, 0x50, [0], none)
  | .postAck _ w => some (w, 0x50, [1], none)
  | .postAtomic _ w => some (w, 0x50, [2], none)
  | .postFlushack _ w => some (w, 0x50, [3], none)
  | .reply _ w => some (w, 0x51, [0], none)
  | .notify _ w => some (w, 0x52, [0], none)
  | .meter _ w => some (w, 0x53, [0], none)
  | .br _ w => some (w, 0x60, [0], none)
  | .brp _ w => some (w, 0x61, [0], none)
  | .call _ w => some (w, 0x62, [0], none)
  | .ret _ w => some (w, 0x63, [0], none)
  | .yield _ w => some (w, 0x64, [0], none)
  | .yieldWNext _ w => some (w, 0x65, [0], none)
  | .yieldWMedia _ w => some (w, 0x65, [1], none)
  | .yieldWStage _ w => some (w, 0x65, [2], none)
  | .yieldWFence _ w => some (w, 0x65, [3], none)
  | .yieldWTime _ w => some (w, 0x65, [4], none)
  | .commit _ w => some (w, 0x66, [0], none)
  | .commitC _ w => some (w, 0x66, [1], none)
  | .commitA _ w => some (w, 0x66, [2], none)
  | .abort _ w => some (w, 0x67, [0], none)
  | .csrr _ w => some (w, 0x70, [0], none)
  | .csrw _ w => some (w, 0x70, [1], none)
  | .regr _ w => some (w, 0x70, [2], none)
  | .regw _ w => some (w, 0x70, [3], none)
  | .tret _ w => some (w, 0x71, [0], none)
  | .iflush _ w => some (w, 0x72, [0], none)
  | .keyopUnwrap _ w => some (w, 0x73, [0], none)
  | .keyopClear _ w => some (w, 0x73, [1], none)
  | .keyopSign _ w => some (w, 0x73, [2], none)
  | .keyopVerify _ w => some (w, 0x73, [3], none)
  | .keyopHash _ w => some (w, 0x73, [4], none)
  | .keyopAttest _ w => some (w, 0x73, [5], none)
  | .registerWrite _ _ _ _ => none
  | .registerPairLowerRead _ _ _ => none
  | .subwordWrite _ => none
  | .poisonedWrite _ => none
  | .tickBoundary => none
  | .frameBoundary _ => none
  | .minuteMark _ _ => none
  | .meterBatchSigned => none
  | .ppsEdge _ _ => none
  | .loadArm => none
  | .ppsLost => none
  | .logicalPortUp _ => none
  | .logicalPortDown _ => none
  | .rdmaReadRequest _ _ _ => none
  | .rdmaWriteFirst _ _ _ _ => none
  | .rdmaWriteMiddle _ _ _ => none
  | .cmpswap _ _ _ _ _ => none
  | .fetchadd _ _ _ _ => none
  | .atomicWrite _ _ _ _ => none
  | .flush _ _ _ _ => none
  | .send _ _ _ => none
  | .acknowledge _ _ => none
  | .cnpReceived _ => none
  | .rdmaReadResponseRx _ _ => none
  | .unsupportedOpcode _ _ _ => none
  | .arpRequest _ _ _ _ _ => none
  | .neighborSolicitation _ _ _ _ _ => none
  | .pfcFrame _ _ => none
  | .pfcPauseExpiry _ _ => none
  | .otherFrameDrop _ _ => none
  | .badCrcFrame _ => none
  | .pfcRepeat _ _ _ => none
  | .contextFetchDone _ _ => none
  | .descriptorFetchDone _ => none
  | .contextInvalidationDone => none
  | .keyCacheInvalidationDone => none
  | .ackTimeout _ => none
  | .rnrTimerExpiry _ => none
  | .ccRateIncrease _ => none
  | .pacedRelease _ => none
  | .tenantCreate _ _ _ _ _ _ _ _ _ => none
  | .tenantDestroy _ _ => none
  | .extentAlloc _ _ _ _ => none
  | .extentFree _ _ => none
  | .extentDiscard _ _ _ _ => none
  | .pageDiscard _ => none
  | .windowOpen _ _ _ _ => none
  | .windowModify _ _ _ _ _ _ => none
  | .pinnedPublish _ => none
  | .windowRevoke _ _ => none
  | .windowRevokeDone _ => none
  | .qpCreate _ _ => none
  | .qpModify _ _ => none
  | .qpDestroy _ _ => none
  | .programLoad _ _ => none
  | .programUnload _ _ => none
  | .programRelease _ => none
  | .drill _ _ _ => none
  | .drillYield => none
  | .tierFormat _ => none
  | .scmFormat _ _ _ => none
  | .regionRead _ _ _ => none
  | .regionWrite _ _ _ => none
  | .mgmt _ _ _ _ _ _ => none
  | .nop _ => none
  | .query _ _ _ => none
  | .sqDoorbell _ _ => none
  | .cqHeadWrite _ _ => none
  | .ringEnable _ _ => none
  | .dmaChannelHalt _ _ _ => none
  | .dmaResume _ => none
  | .functionLevelReset => none
  | .perst => none
  | .cmdSkewDetect => none
  | .heldMirrorPlace _ => none
  | .mreadDataReturn _ _ => none
  | .matomAccepted _ _ => none
  | .timeWake _ => none
  | .trapOverrun _ => none
  | .icacheInvalidationDone => none
  | .engineFence _ => none
  | .requestRestart _ => none
  | .mcpInterrupt _ => none
  | .tileInitDone => none
  | .tileFillStart _ => none
  | .tileFillDone _ _ _ => none
  | .stageLate _ => none
  | .stagerChannelHalt _ _ _ _ _ => none
  | .channelResume _ _ => none
  | .mediaDataFlit _ _ => none
  | .mediaFlitAck _ _ => none
  | .mediaFlitNak _ _ => none
  | .mediaAckDue _ => none
  | .mediaLinkSilent _ => none
  | .retrainDone _ => none
  | .retrainTimeout _ => none
  | .rdr _ _ _ _ => none
  | .cnf _ _ => none
  | .err _ _ _ => none
  | .cfgr _ _ _ => none
  | .lineRepairRequest _ => none
  | .lineRepairServe _ _ => none
  | .lineRepairReply _ => none
  | .gapMove _ _ => none
  | .regionRecordWrite _ _ => none
  | .patrolScrub _ => none
  | .destage => none
  | .destageSwitch _ => none
  | .promote _ => none
  | .promoteSwitch _ => none
  | .dramRequestAccept _ _ _ => none
  | .dramColumnIssue _ _ _ => none
  | .dramReadReturn _ _ => none
  | .refresh _ _ => none
  | .zqCalibration _ _ => none
  | .rowIdleClose _ _ _ => none
  | .dramScrub => none
  | .caParityAlert _ _ _ _ => none
  | .nandReadDone _ _ _ _ => none
  | .nandProgramDone _ _ _ => none
  | .nandEraseDone _ _ => none
  | .nandSuspend _ => none
  | .nandReadyTimeout _ => none
  | .dieFailed _ => none
  | .stripeRowClose _ => none
  | .fold => none
  | .garbageCollection => none
  | .wearRelocation => none
  | .backgroundScan => none
  | .mapCheckpoint => none
  | .placementIssue => none
  | .inflightMarkClear _ => none
  | .fenceComplete _ => none
  | .flushLimitExpiry _ => none
  | .intentHeaderPlaced _ => none
  | .intentHomeWrite _ => none
  | .journalApply => none
  | .heartbeat _ _ _ => none
  | .heartbeatSend => none
  | .mirror _ _ _ _ => none
  | .mirrorAdmit => none
  | .confirm _ _ _ _ _ => none
  | .outcome _ _ => none
  | .intent _ _ _ _ => none
  | .giveup _ _ _ _ _ _ => none
  | .reclaim _ _ _ => none
  | .switch _ _ => none
  | .resync _ _ => none
  | .twinAck _ _ => none
  | .twinNak _ _ => none
  | .bundleDown _ _ => none
  | .bundleUp _ => none
  | .sidebandToggle _ => none
  | .sidebandSilent => none
  | .faultReport _ _ => none
  | .yieldUnit => none
  | .takeoverStart => none
  | .takeoverPublish => none
  | .soloDelayExpiry => none
  | .resyncStart => none
  | .metadataDone => none
  | .resyncCopyDone => none
  | .reclaimSend => none
  | .returnSwitch => none
  | .returnAdmit => none
  | .pairWaitExpiry => none
  | .detectorTest _ => none
  | .clockCheck _ => none
  | .sramScrub _ _ _ => none
  | .inject => none
  | .startup _ => none
  | .provision _ => none
  | .debugToken => none
  | .seal _ => none
  | .returnUnit _ => none
  | .rdpRaise _ => none
  | .rdpRegress _ => none
  | .recoveryData => none
  | .recoveryRun => none
  | .kekInstall => none
  | .ownerRotate _ => none
  | .evrClear => none
  | .debugClose => none
  | .quote _ => none
  | .fwBegin _ _ => none
  | .fwData _ _ => none
  | .fwEnd _ _ => none
  | .mboxClaim _ => none
  | .mboxRelease _ => none
  | .newNonce => none
  | .flashProgram _ _ => none
  | .flashErase _ _ => none
  | .flashSuspend _ => none
  | .flashResume _ => none
  | .otpProgram _ _ => none
  | .flashProgramDone _ => none
  | .erasePulseDone _ => none
  | .heldGoStart => none
  | .flashRead _ _ _ => none
  | .inputOkLow => none
  | .inputOkQualified => none
  | .faultNLow => none
  | .faultNHigh => none
  | .pwrbtnPress => none
  | .longpress => none
  | .mrstAssert => none
  | .mrstRelease => none
  | .shutdown _ => none
  | .tableLoad _ => none
  | .onSequenceStart _ => none
  | .slotEnable _ _ _ => none
  | .slotDisable _ _ => none
  | .slotQualified _ _ _ => none
  | .sequenceFault _ _ => none
  | .railFault _ => none
  | .offSequenceEnd _ _ => none
  | .enterRun _ => none
  | .enterTrim _ => none
  | .enterHold _ => none
  | .holdQuiesceDone => none
  | .enterStandby _ => none
  | .twbGo _ _ => none
  | .twbTransactionDone _ _ _ => none
  | .twbTimeout _ _ _ => none
  | .busClear _ _ _ => none
  | .portReset _ _ => none
  | .sequencerPreempt _ _ => none
  | .status => none
  | .firstFault => none
  | .seqCause => none
  | .deviceId => none
  | .quoteHash => none
  | .powerReqWake _ => none
  | .powerReqOff _ => none
  | .mboxReq _ _ => none
  | .mboxResp => none
  | .capability => none
  | .readTemperature1 => none
  | .pmbusRevision => none
  | .mfrId => none
  | .mfrModel => none
  | .mfrRevision => none
  | .twtTimeout => none
  | .twtWake => none
  | .capture _ => none
  | .captureDone _ _ => none
  | .recorderTrigger => none
  | .fwTrigger _ _ => none
  | .recordProgrammed => none
  | .sectorEraseDone => none
  | .portEgress _ _ => none
  | .vaonInLoss => none
  | .pwrbtnRelease => none
  | .powerGoodBreak _ _ => none
  | .busFree _ => none
  | .signalDetect _ => none

/-- The word is one of its row: op, sub and MODE are the row's. A word that no row lists (R182) goes with NOP's. -/
def Instr.wordOk (c : Instr) : Bool :=
  match c.word with
  | none => true
  | some (w, op, subs, mode) =>
    (wOp w == op && subs.contains (wSub w) && (match mode with | some m => bitOf w 0 == m | none => true)) ||
    (op == 0x01 && !defined w)

/-- An access of this size lies within its register, at a multiple of its size (R7, R9). -/
def AccessSize.aligned (n : AccessSize) (off : BitVec 26) : Bool :=
  match n with
  | .one => true
  | .two => off.toNat % 2 == 0
  | .four => off.toNat % 4 == 0
  | .eight => off.toNat % 8 == 0

/-- A line carried over the twin link is 64 bytes (R393). -/
def TwinLine.ok (l : TwinLine) : Bool := l.data.length == 64

/-- A run has as many lines of 64 B as its descriptor says, and the descriptor's low bits are 0 (R398). -/
def MirrorRun.ok (r : MirrorRun) : Bool :=
  r.lines.length == (r.desc.extractLsb' 4 6).toNat + 1 && r.desc.extractLsb' 0 4 == 0 && r.lines.all (fun l => l.length == 64)

/-- A presented DRAM access names 16 words of a 128 B line (R285, R294). -/
def DramReq.ok (r : DramReq) : Bool := r.addr.toNat % 128 == 0 && r.words.length == 16

/-- A wrapped key is 96 bytes, and there is none without ENCRYPT (R98, R478). -/
def wrappedOk (len : Word) (k : List Byte) : Bool := k.length == len.toNat

/-- The operands are those that can be carried. -/
def Instr.operandsOk (c : Instr) : Bool :=
  match c with
  | .registerWrite _ off _ hi => off.toNat % (if hi.isSome then 8 else 4) == 0
  | .registerPairLowerRead _ off n => AccessSize.aligned n off
  | .frameBoundary samples => samples.length == 40
  | .minuteMark _ resid => resid.length == 40
  | .rdmaWriteFirst _ _ _ payload | .rdmaWriteMiddle _ _ payload | .send _ _ payload => payload.length ≤ 4096
  | .pfcFrame _ quanta => quanta.length ≤ 8
  | .tenantCreate _ _ _ _ _ _ _ len wrapped => wrappedOk len wrapped
  | .programLoad _ image => 120 ≤ image.length && image.length ≤ 1049696
  | .mgmt _ body _ _ _ _ => body.length == 104
  | .mirror _ runs _ _ => runs.all MirrorRun.ok
  | .mediaDataFlit _ flit => flit.length == 256
  | .rdr _ _ _ line => line.length == 88
  | .lineRepairServe _ raw => raw.length == 88
  | .nandReadDone _ steps _ (.read record) => steps.cws.length == 19 && record.length == 19456
  | .intent _ _ lines _ => lines.all TwinLine.ok
  | .resync _ (.line l _) => TwinLine.ok l
  | .dramRequestAccept _ _ arrivals => arrivals.length ≤ 12 && arrivals.all DramReq.ok
  | .dramReadReturn _ wrong => wrong.length == 16
  | .twbTransactionDone _ _ (.reply data _) => data.length ≤ 256
  | .tableLoad (some bytes) => bytes.length == 532
  | .mboxReq data _ => 1 ≤ data.length && data.length ≤ 32
  | _ => true

/-- A command that the outside can send. -/
def Instr.wellFormed (c : Instr) : Bool := c.wordOk && c.operandsOk

end Sys2Proof
end

