-- ==== Sys2Proof/Tests/Slice0.lean ====
section
/-! SUPPORT. Tests: commands that WellFormed refuses, one for each check, and states and operands that meet the premises of each
statement. -/

set_option maxRecDepth 20000
set_option Elab.async false

namespace Sys2Proof.Tests

open Sys2Proof Sys2Proof.Machine Sys2Proof.Claims

/-! ## Small states -/

/-- A word of a row (R182). -/
def word (op d a b sub imm : Nat) : DWord :=
  BitVec.ofNat 64 (op * 2 ^ 56 + d * 2 ^ 47 + a * 2 ^ 42 + b * 2 ^ 37 + sub * 2 ^ 32 + imm)

/-- A request on strand 0: with two tiles bound, and registers that hold small numbers. -/
def req : Request :=
  { st := .running 0, cluster := some 0, slot := some 0, qpn := 2, len := 8, tenant := 1, win := 1, rights := 31
    payload := List.replicate 64 7
    ctx := { g := [(1, 5), (2, 3), (3, 0x8000000000000081)], t := [(1, 0), (2, 1)] }
    pour := some { stages := [{ tiles := [{ off := 0, zero := true, tile := some 0, filled := true }] }] } }

/-- A tile that request 0 holds. -/
def tile (k : Nat) : Tile := { state := .held, tenant := 1, req := 0, stage := 0, index := k, bytes := [(k, 1), (9, 4)] }

/-- An open window of tenant 1 over the first extent. -/
def window1 : Window := { tenant := 1, length := 65536, rights := 31, state := .opened }

/-- Tenant 1 with one extent, a window over it, and QP 2. -/
def served : State :=
  { State.reset with
    win := { tenants := [(1, { scmQuota := 8, tileQuota := 64 })], extents := [(0, { tenant := 1 })], windows := [(1, window1)]
             pages := [(0, .scm 0 0)], keyCache := [] }
    trn := { qps := [(2, { state := .rtr, tenant := 1 })] }
    med := { links := [(0, { state := 2, credits := 64, frames := [(0, (0, 0))] })] } }

/-- Strand 0 runs `r`, whose image holds `w` at every pc. -/
def strand (r : Request) (w : DWord) : State :=
  { served with
    cle := { reqs := [(0, r)], strands := [(0, (0, 0))]
             images := [(0, { state := 1, id := 0, version := 0, blocks := 1, records := [], code := [w, w] })] }
    stg := { tiles := [(0, tile 0), (1, tile 1)] } }

/-- The MCP runs `w`, which its instruction buffer holds. -/
def mcp (w : DWord) (g : Table DWord) : State :=
  { State.reset with mcp := { running := true, g, ibuf := [(0, leBytes w.toNat 8)] } }


/-- A key-engine descriptor: data at 0x100000, result at 0x100100, 32 bytes (R476). -/
def descriptor : Mem := [(2, 16), (9, 1), (10, 16), (16, 32)]
def descriptorBytes : List Byte := (List.range 32).map descriptor.byte

/-- The MCP runs `w` with that descriptor in SRAM at g[1]. -/
def keyed (w : DWord) : State :=
  { State.reset with mcp := { running := true, g := [(1, 0x100000)], ibuf := [(0, leBytes w.toNat 8)], sram := descriptor } }

/-- A command waits on ring CR1 of a unit that serves tenant 1; tenant 2 has nothing. -/
def ringed : State :=
  { served with
    win := { served.win with tenants := [(1, { scmQuota := 8, tileQuota := 64, pinQuota := 4096 }), (2, {})]
                             extents := [(0, { tenant := 1 }), (5, { tenant := 1 })] }
    ctl := { rings := [(1, { fetched := 1 })] }
    cle := { conj := [(0, 0x8000000000000000)] } }.setReg (ringCfg 1) 0x10404
def head : CmdHead := ⟨1, 7, false⟩
def desc (base : BitVec 48) (pinned : Bool) : WinDesc :=
  { vaBase := 0, progId := 0, pnaBase := base, tenant := 1, length := 65536, rights := 31, pinned }
def qpBlock (q : Word) : QpBlock :=
  { qpn := q, mask := 0, tenant := 1, cls := 1, state := 1, pmtu := 0, egressLp := 0, altLp := 0, notice := false, ipv6 := false
    remoteQpn := 0, bond := 0, mac := 0, vlan := 0, ip := 0, udpPort := 0, ackCode := 0, retry := 0, rnrRetry := 0, minRnr := 0
    maxRd := 1, reqPsn := 0, ePsn := 0 }

def pkt : Pkt :=
  { lp := 0, qpn := 2, psn := 0, ackReq := false, ce := false, cycle := 0, dmac := 0, ipv6 := false, dip := 0, udp := 4791
    tag := none, dscp := 0, occ := 0 }

/-- A QP that takes requests. -/
def qp2 : Qp := { state := .rtr, tenant := 1, maxRd := 4, pmtu := 4 }

/-- A unit that serves side A, with logical port 0 up, and whose QP 2 is `c`, all on chip. -/
def portal (c : Qp) : State :=
  (({ served with
      bar := { eff := [(lpReg Reg.PRT_LP_CFG 0, 0x6000)] }
      win := { served.win with windows := [(1, { window1 with gen := 1 })], pinStore := [(1, true)] }
      cle := { conj := [(16, 0x8000000000000000)], images := [(0, { state := 1, id := 0, version := 0, blocks := 1, records := [], code := [0] })] }
      trn := { qps := [(2, c)], store := [(2, 2)] } }.setB Reg.TRN_STATUS 0 true).setB (prtReg Reg.PRT_STATUS 0) 16 true).setReg
    Reg.TWN_STATUS 0x24000000

def reth : Reth := { rkey := 0x101, va := 64, len := 32 }

/-- An Invoke of kind 16: header (R168), and payload. -/
def invoke : List Byte :=
  [1, 16, 0, 0] ++ beBytes 0x101 4 ++ beBytes 64 8 ++ beBytes 32 4 ++ beBytes 9 4 ++ List.replicate 8 0 ++ List.replicate 8 5
def sentFrame : Frame := { kind := .readResponse, qpn := 2, cls := .lungo, psn := 0, data := [1, 2] }

/-- Request 0 on strand 0 has a pour schedule of one window tile that no fill has brought, and line 2 is in the placement buffer. -/
def pourer : State :=
  ({ strand { req with pour := some { stages := [{ tiles := [{ off := 64, zero := false }] }] } } 0 with
      stg := {}
      dur := { pb := [{ line := 2, data := List.replicate 64 9, tenant := 1, qpn := 2, wseq := 1, epoch := 0, mirror := false }] } }).setB
    Reg.STG_STATUS 16 true
/-- A request whose one stage has not come, and tile 5, which is being filled for it by channel 0 of cluster 0. -/
def poured : Request := { req with pour := some { stages := [{ tiles := [{ off := 64, zero := false }] }] } }
def late : Request := { poured with st := .waiting (.stage 0) 0 }
def incoming : Tile := { state := .filling, tenant := 1, req := 0, stage := 0, index := 0 }
def filling (r : Request) : State :=
  { strand r 0 with stg := { tiles := [(5, incoming)], channels := [(0, { tile := some 5 })] } }

/-- The unit with a media link 0. -/
def linked (l : MLinkRec) : State := { served with med := { served.med with links := [(0, l)] }, tck := { boundaries := 100 } }
def link2 : MLinkRec := { state := 2, credits := 64, frames := [(0, (0, 0))] }
/-- Transaction 5 is outstanding on link 0. -/
def sent5 (x : MTrans) : MSentRec := { trans := x, address := 3, line := storedBytes (List.replicate 64 9) 3 7 }
def asked (x : MTrans) : State := linked { link2 with trans := [(5, sent5 x)] }
/-- A flit of the stack, and a line it returns: as stored, with one bit wrong, with three bits of a word wrong. -/
def ackedFlit : List Byte := flitBytes 1 0 0 0 []
def cnfFlit : List Byte := flitBytes 1 0 0 0 (leBytes 0x582 8)
def rawLine (wrong : Nat) : List Byte :=
  match storedBytes (List.replicate 64 9) 3 7 with | b :: bs => (b ^^^ BitVec.ofNat 8 wrong) :: bs | [] => []
def flit0 : FlitRec := { seq := 0 }
def flit1 : FlitRec := { seq := 1 }

/-- An Accepted line of this unit as home, and of its twin. -/
def entry : PbEntry := { line := 2, data := List.replicate 64 9, tenant := 1, qpn := 2, wseq := 1, epoch := 0, mirror := false }
def buffered (e : PbEntry) (marked : Table (Nat × Nat)) : State := { served with dur := { pb := [e], inflight := marked } }
def intent0 : Intent := { lines := [(2, List.replicate 64 9)], tenant := 1, epoch := 0, images := 1 }
def slotted (x : Intent) : State := { served with dur := { intents := [(0, x)] } }
/-- Both bundles of the twin link are up. -/
def paired (s : State) : State :=
  ({ s with twn := { s.twn with bundle0 := { up := true }, bundle1 := { up := true }, credit := 100 } }).setF Reg.TWN_STATUS 31 29 1

/-- The chip's own work has valid entries. -/
def grounded : State :=
  { served with cle := { conj := [(8, 0x8000000000000000), (9, 0x8000000000000000), (10, 0x8000000000000000), (11, 0x8000000000000000), (12, 0x8000000000000000), (13, 0x8000000000000000), (14, 0x8000000000000000), (15, 0x8000000000000000)]
                         images := [(0, { state := 1, id := 0, version := 0, blocks := 1, records := [], code := [0] })] } }

/-- A request that waits on a FENCE, and its QP: all Accepted writes are durable. -/
def fencing : Request := { req with st := .waiting .fence 0, fences := [{ target := 5, tick := 0 }] }
def fenced (c : Qp) : State := { strand fencing 0 with trn := { qps := [(2, c)] } }

/-- DRAM channel 0, Up, in a unit with 64 GiB on each channel. -/
def dramUp (x : DramChRec) : State := { State.reset with drc := { channels := [(0, x)], dimmGib := 64 } }
def dramRead : DramReq := { port := 3, cls := 1, tenant := 1, write := false, addr := 0, mask := 0, words := [], qpn := none }
def dramWrite : DramReq := { dramRead with write := true, mask := 0xFFFF, words := List.replicate 16 5 }
def dramRec (w : Bool) : DramReqRec :=
  { port := 3, cls := 1, tenant := 1, write := w, line := 0, words := if w then List.replicate 16 5 else [], since := 0, addr := 0 }

/-- A superblock of two dies with one record, of page 0 as TPN 0. -/
def sb0 : NandSbRec := { stream := 1, seq := 1, dies := [0, 64], cws := 19, recs := [{ kind := .data 0 0, start := 0 }] }
/-- The tier runs with superblock 0; page 0 lies in NAND, and TPN 0's record in that superblock. -/
def tiered (x : NandSbRec) : State :=
  { grounded with
    win := { grounded.win with pages := [(0, .nand 0)] }
    bar := { eff := [(Reg.MED_CTRL, 7), (Reg.NTL_CTRL, 7), (Reg.NTL_CKPT_CFG, 0x1), (Reg.NTL_GC_CFG, 0x10008), (Reg.NTL_SCAN_CFG, 0x10000)]
             val := [(Reg.NTL_GEOM, 0x11010001)] }
    ntl := { state := 2, sbs := [(0, x)], map := [(0, { sb := 0, start := 0, page := 0 })], tpns := 8, usable := 4 }
    tck := { tick := 30000000 } }
/-- Request 0 waits for page 0's record. -/
def nandWaits : State :=
  { tiered sb0 with cle := { (tiered sb0).cle with reqs := [(0, req)] }, med := { (tiered sb0).med with nandReads := [(0, .req 0)] } }
/-- Superblock 0 is being emptied into superblock 5 of the garbage-collection stream, by requester 4: its one record is being read. -/
def copying : State :=
  { tiered { sb0 with closed := true, victim := true } with
    ntl := { (tiered { sb0 with closed := true, victim := true }).ntl with
             sbs := [(0, { sb0 with closed := true, victim := true }), (5, { stream := 2, seq := 2, dies := [0, 64] })]
             copyWant := [{ requester := 4, stream := 2, sb := 0, start := 0 }] }
    med := { (tiered sb0).med with nandReads := [(0, .copy 4)] } }
/-- What a few reads since its erase leave of a superblock's reads. -/
theorem undisturbed {s : State} {page : Nat} {e : NandLocRec} {x : NandSbRec} (hs : s.med.nandReads.contains (page, .scan) = false)
    (he : s.readLoc page = some e) (hx : Maps.find e.sb s.ntl.sbs = some x)
    (h : ∀ d ∈ x.diesOf e.start 19, Maps.getD x.reads d 0 + 1 < s.effF Reg.NTL_SCAN_CFG 31 16 * 1024) : Undisturbed s page := by
  refine ⟨hs, fun e' x' he' hx' => ?_⟩
  cases he.symm.trans he'
  cases hx.symm.trans hx'
  exact h
def nandSteps : NandSteps := { retry := 0, soft := 0, rebuild := 0, iterations := 0, cws := [] }
def ck : State := { tiered sb0 with ntl := { (tiered sb0).ntl with destaged := 5, changed := [(0, true)], horizon := [(3, [2])] } }

def twinHead : TwinHead := { one := false, seq := 0, crcOk := true }
def twinLine : TwinLine := { line := 2, tenant := 1, data := List.replicate 64 9 }
def homedLine : Nat × Nat × List Byte := (2, 1, List.replicate 64 9)
def strayLine : Nat × Nat × List Byte := (200000, 7, List.replicate 64 9)
def arrivedRec (l : Nat × Nat × List Byte) : ArrivedRec := { frame := 6, lines := [l], epoch := 0 }
def outcomeBody : OutcomeBody := ⟨1, false, 1, 3, 0x101, 0, 64, 5, 6, [7], 0, 3⟩
/-- The unit in a pair state; its bundles as given. -/
def inPair (p : Nat) (w : Twn) : State := { served with twn := w }.setF Reg.TWN_STATUS 31 29 p
def bothUp : Twn := { bundle0 := { up := true }, bundle1 := { up := true } }
def twinHb (state : Fin 8) : TwinHb :=
  { sideB := true, state, solo := false, epoch := 0, tick := 0, pairId := 5, free := 7, tenants := 0, extents := 0, windows := 0, pinned := 0 }
def soloOn (s : State) : State := { s with bar := { s.bar with eff := [(Reg.TWN_CTRL, 3)] }, tck := { tick := 2999, boundaries := 2999 } }
def role1 : RoleRec := { state := 1, serves := 1, solo := false, epoch := 0, pairId := 5 }
/-- Start-up step 5: what control software wrote is published. -/
def deciding (w : Twn) : State := soloOn { inPair 0 w with sec := { startup := 4, published := true } }

/-- The unit after reset with registers as given. -/
def regs (l : List (Nat × Nat)) : State := l.foldl (fun s e => s.setReg e.1 (BitVec.ofNat 32 e.2)) State.reset
/-- Its sequencer in a phase, with VAON_IN good and FAULT_N high; slot 1 switched by its pin, slot 2 over PMBus. -/
def phased (p : Nat) (q : Sqr) : State :=
  { regs [(Reg.SEQ_STATUS, p * 2 ^ 29 + 2 ^ 28 + 2 ^ 27), (Reg.SEQ_EN_STATE, 1), (Reg.SEQ_PG_STATE, 1), (Reg.SEQ_SLOT_CFG + 16, 9),
      (Reg.SEQ_SLOT_CFG + 32, 0x02140102), (Reg.SEQ_SLOT_ON + 16, 100)] with sqr := { q with tableDue := false } }
def slots (s : State) (on good : Nat) : State :=
  (s.setReg Reg.SEQ_EN_STATE (BitVec.ofNat 32 on)).setReg Reg.SEQ_PG_STATE (BitVec.ofNat 32 good)
/-- A start-up step that follows step `n`, with VDD_CORE good. -/
def starting (n : Nat) : State := { phased 2 {} with sec := { startup := n } }.setReg Reg.SEQ_PG_STATE 3
/-- A submission in the mailbox, of a unit in a lifecycle: DEVICE_ID and nonce zero. -/
def submitted (lifecycle kind : Nat) (body : List Byte) : State :=
  let s := (regs [(Reg.SEC_STATUS, lifecycle * 2 ^ 30 + 0x24800000)]).setMbox
    ([BitVec.ofNat 8 kind, 0] ++ leBytes body.length 2 ++ List.replicate 52 0 ++ body)
  { s with sec := { submitted := true } }
/-- The OTP of a provisioned unit. -/
def ownedOtp : Mem := [(0xA0, 5), (0x1A4, 1)]
/-- A firmware header of 8 bytes of load, entered at offset 0, in a unit that takes the vendor's signature. -/
def fwHead : List Byte := leBytes 0x57465942 4 ++ leBytes 1 2 ++ leBytes 0 2 ++ leBytes 0 4 ++ leBytes 1 4 ++ leBytes 8 4 ++ leBytes 0 4 ++ List.replicate 8 0
def flashOp (kind : Nat) : FlashOpRec := { kind, bankB := true, row := 512, words := [1, 2, 3, 4] }
def flashing (kind : Nat) : State := { State.reset with efl := { op := some (flashOp kind) } }
/-- A table of delays in which every slot's are zero. -/
def seqTable : List Byte :=
  let b := leBytes 0x54514553 4 ++ leBytes 1 2 ++ List.replicate 522 0
  b ++ leBytes (Nat.xor (crc32c 0xFFFFFFFF b) 0xFFFFFFFF) 4
/-- A controller port runs a transaction; a target port that is awake and enabled. -/
def onBus (x : TwbPortRec) : State := { phased 2 {} with twb := { port0 := x } }.setReg (twbReg Reg.TWB_CMD 0) 0x00010202
def target : State := (phased 2 {}).setB Reg.TWB_TWT_CFG 8 true
/-- A trained unit in Run at 20 °C. -/
def trained : State :=
  { phased 2 {} with
    sec := { startup := 5 }, twn := bothUp
    evr := { readings := [(0, [320]), (1, [320]), (2, [320]), (3, [320]), (4, [320]), (5, [320]), (6, [320]), (7, [320]), (8, [320]), (9, [320]), (10, [320]), (11, [320])] } }
def firing : FiringRec := { input := 24, code := 3, level := 0, source := 0 }
def recording : RecordRec := { trigger := 24, code := 3, level := 0, source := 0, dropped := 0, values := [] }
/-- A ring and an owner for loading programs, and an image of one instruction and one entry. -/
def loading : State :=
  { ringed with ctl := { ringed.ctl with rings := [(3, { fetched := 1 })] }, efl := { otp := ownedOtp } }.setReg (ringCfg 3) 0x10404
def image1 : List Byte :=
  leBytes 0x4D535541 4 ++ leBytes 1 2 ++ List.replicate 10 0 ++ leBytes 8 4 ++ leBytes 1 2 ++ List.replicate 10 0 ++ (leBytes 5 2 ++ [16, 1] ++ List.replicate 12 0) ++
  List.replicate 8 0 ++ List.replicate 64 7

/-- A body of the length that a kind has, and a submission to a provisioned unit. -/
def bodyOf : Nat → List Byte
  | 2 => [3, 0, 0, 0] | 5 => [1] | 10 => List.replicate 92 0 | 11 => List.replicate 64 7 | 0x40 => List.replicate 32 0 | _ => []
def provisioned (lifecycle kind : Nat) (body : List Byte) : State := { submitted lifecycle kind body with efl := { otp := ownedOtp } }
/-- A key-engine descriptor whose data is a wrapped key at 0x100040, in a unit that holds a key-encryption key. -/
def someKey : List Byte := (List.range 64).map (BitVec.ofNat 8)
def wrappedKey : Mem := [(0, 0x40), (2, 16), (9, 1), (10, 16), (16, 96), (64, 1)]
def unwrapping (w : DWord) : State :=
  { (State.reset.setB Reg.SEC_STATUS 22 true) with
      mcp := { running := true, g := [(1, 0x100000)], ibuf := [(0, leBytes w.toNat 8)], sram := wrappedKey }
      sec := { kek := some (List.replicate 32 0) } }

/-! ## Ill-formed commands -/

theorem test_wf_word_of_another_row : (Instr.add .mcp 0x1100000000000000).wellFormed = false := by decide
theorem test_wf_mode_of_another_row : (Instr.tsumXor .mcp 0x3800000000000000 []).wellFormed = false := by decide
theorem test_wf_unaligned_write : (Instr.registerWrite .mcp 2 0 none).wellFormed = false := by decide
theorem test_wf_unaligned_pair : (Instr.registerWrite .mcp 4 0 (some 0)).wellFormed = false := by decide
theorem test_wf_unaligned_read : (Instr.registerPairLowerRead .mcp 1 .two).wellFormed = false := by decide
theorem test_wf_frame_samples : (Instr.frameBoundary []).wellFormed = false := by decide
theorem test_wf_minute_residuals : (Instr.minuteMark 0 []).wellFormed = false := by decide
theorem test_wf_pfc_quanta : (Instr.pfcFrame 0 (List.replicate 9 (0, 0))).wellFormed = false := by decide
theorem test_wf_tenant_key : (Instr.tenantCreate ⟨1, 0, false⟩ 1 true false 0 0 0 96 []).wellFormed = false := by decide
theorem test_wf_image_length : (Instr.programLoad ⟨1, 0, false⟩ []).wellFormed = false := by decide
theorem test_wf_mgmt_body : (Instr.mgmt ⟨1, 0, false⟩ [] 0 0 0 0).wellFormed = false := by decide
theorem test_wf_mirror_run : (Instr.mirror ⟨false, 0, true⟩ [⟨0x10, []⟩] 0 0).wellFormed = false := by decide
theorem test_wf_intent_line : (Instr.intent ⟨false, 0, true⟩ 0 [⟨0, 0, [], 3⟩] 0).wellFormed = false := by decide
theorem test_wf_resync_line : (Instr.resync ⟨false, 0, true⟩ (.line ⟨0, 0, [], 3⟩ 0)).wellFormed = false := by decide
theorem test_wf_flit_bytes : (Instr.mediaDataFlit 0 []).wellFormed = false := by decide
theorem test_wf_rdr_bytes : (Instr.rdr 0 0 0 []).wellFormed = false := by decide
theorem test_wf_repair_bytes : (Instr.lineRepairServe 0 []).wellFormed = false := by decide
theorem test_wf_nand_record : (Instr.nandReadDone 0 nandSteps false (.read [])).wellFormed = false := by decide
theorem test_wf_dram_words :
    (Instr.dramRequestAccept 0 0 [{ port := 0, cls := 0, tenant := 0, write := false, addr := 0, mask := 0, words := [], qpn := none }]).wellFormed =
      false := by decide
theorem test_wf_dram_read : (Instr.dramReadReturn 0 []).wellFormed = false := by decide
theorem test_wf_table_bytes : (Instr.tableLoad (some [])).wellFormed = false := by decide
theorem test_wf_mbox_bytes : (Instr.mboxReq [] none).wellFormed = false := by decide
theorem test_wf_long_payload : ∀ p : List Byte, p.length = 4097 → (Instr.send pkt .only p).wellFormed = false := by
  intro p h
  simp [Instr.wellFormed, Instr.operandsOk, h]
theorem test_wf_bus_reply : ∀ d : List Byte, d.length = 257 → (Instr.twbTransactionDone 0 0 (.reply d 0)).wellFormed = false := by
  intro d h
  simp [Instr.wellFormed, Instr.operandsOk, h]

/-! ## What meets the premises of the statements -/

/-- A strand runs a word that meets `ok`, while `pre` holds. -/
def StrandMeets (ok : DWord → Prop) (pre : State → Request → DWord → Prop) : Prop :=
  ∃ s i id r w, RunsOn s i id r w ∧ ok w ∧ pre s r w
def StrandMeetsAt (ok : DWord → Prop) (pre : State → Fin 512 → Request → DWord → Prop) : Prop :=
  ∃ s i id r w, RunsOn s i id r w ∧ ok w ∧ pre s i r w
/-- The MCP runs a word that meets `ok`, while `pre` holds. -/
def McpMeets (ok : DWord → Prop) (pre : State → DWord → Prop) : Prop := ∃ s w, McpRuns s w ∧ ok w ∧ pre s w
/-- A strand, and the MCP, run a word that meets `ok`. -/
def MeetsWord (ok : DWord → Prop) : Prop := StrandMeets ok (fun _ _ _ => True) ∧ McpMeets ok (fun _ _ => True)
/-- The same, while `pre` holds of the registers. -/
def MeetsJump (ok : DWord → Prop) (pre : Ctx → DWord → Prop) : Prop :=
  StrandMeets ok (fun _ r w => pre r.ctx w) ∧ McpMeets ok (fun s w => pre (s.ctxOf .mcp) w)

theorem strandMeets {ok : DWord → Prop} {pre : State → Request → DWord → Prop} (s : State) (r : Request) (w : DWord)
    (h : s.running 0 = some (0, r) ∧ s.inTurn (.strand 0) = true ∧ (s.codeOf r)[r.ctx.pc]? = some w ∧ r.ctx.preg (wPr w) ≠ wPn w)
    (hok : ok w) (hpre : pre s r w) : StrandMeets ok pre :=
  ⟨s, 0, 0, r, w, ⟨h.1, h.2.1, h.2.2.1, h.2.2.2⟩, hok, hpre⟩
theorem strandMeetsAt {ok : DWord → Prop} {pre : State → Fin 512 → Request → DWord → Prop} (s : State) (r : Request) (w : DWord)
    (h : s.running 0 = some (0, r) ∧ s.inTurn (.strand 0) = true ∧ (s.codeOf r)[r.ctx.pc]? = some w ∧ r.ctx.preg (wPr w) ≠ wPn w)
    (hok : ok w) (hpre : pre s 0 r w) : StrandMeetsAt ok pre :=
  ⟨s, 0, 0, r, w, ⟨h.1, h.2.1, h.2.2.1, h.2.2.2⟩, hok, hpre⟩
theorem mcpMeets {ok : DWord → Prop} {pre : State → DWord → Prop} (s : State) (w : DWord)
    (h : s.mcp.running = true ∧ s.mcp.halted = false ∧ w ∈ s.mcpWords ∧ (s.ctxOf .mcp).preg (wPr w) ≠ wPn w) (hok : ok w)
    (hpre : pre s w) : McpMeets ok pre :=
  ⟨s, w, ⟨h.1, h.2.1, h.2.2.1, h.2.2.2⟩, hok, hpre⟩

/-- Strand 0 and the MCP each run the word. -/
def worksBoth (w : DWord) : Bool :=
  decide ((strand req w).running 0 = some (0, req)) && (strand req w).inTurn (.strand 0) &&
  decide (((strand req w).codeOf req)[req.ctx.pc]? = some w) && req.ctx.preg (wPr w) != wPn w &&
  (mcp w req.ctx.g).mcpWords.contains w && ((mcp w req.ctx.g).ctxOf .mcp).preg (wPr w) != wPn w
theorem worksBoth_runs {w : DWord} (h : worksBoth w = true) : RunsOn (strand req w) 0 0 req w ∧ McpRuns (mcp w req.ctx.g) w := by
  simp only [worksBoth, Bool.and_eq_true, decide_eq_true_eq, bne_iff_ne, ne_eq, List.contains_iff_mem] at h
  exact ⟨⟨h.1.1.1.1.1, h.1.1.1.1.2, h.1.1.1.2, h.1.1.2⟩, ⟨rfl, rfl, h.1.2, h.2⟩⟩
theorem meetsWord {ok : DWord → Prop} (w : DWord) (h : worksBoth w = true) (hok : ok w) : MeetsWord ok :=
  ⟨⟨_, _, _, _, w, (worksBoth_runs h).1, hok, trivial⟩, ⟨_, w, (worksBoth_runs h).2, hok, trivial⟩⟩
theorem meetsJump {ok : DWord → Prop} {pre : Ctx → DWord → Prop} (w : DWord) (h : worksBoth w = true) (hok : ok w)
    (hs : pre req.ctx w) (hm : pre ((mcp w req.ctx.g).ctxOf .mcp) w) : MeetsJump ok pre :=
  ⟨⟨_, _, _, _, w, (worksBoth_runs h).1, hok, hs⟩, ⟨_, w, (worksBoth_runs h).2, hok, hm⟩⟩


/-- The parts of the device that the manual leaves open, as these examples take them: a DEVICE_ID of zeros, signatures that verify. -/
def Open : Prop := (∀ a, Config.factory a = 0) ∧ ∀ k b g, Config.verifies k b g = true
theorem owner_signs (o : Open) {s : State} (h : s.otpOwner.isSome = true) (b g : List Byte) : s.ownerVerifies b g = true := by
  unfold State.ownerVerifies
  split
  · exact o.2 _ _ _
  · rename_i h'; rw [h'] at h; exact h
theorem submits (o : Open) {s : State} {k : Nat}
    (h : s.sec.submitted = true ∧ s.mboxKind = k ∧ s.mboxFormat = true ∧ s.mbox 8 16 = List.replicate 16 0 ∧
      ∀ i, i < 8 → leNat (s.mbox (24 + 4 * i) 4) = (s.reg (Reg.SEC_NONCE + 4 * i)).toNat) : Submitted s k :=
  ⟨h.1, h.2.1, h.2.2.1, fun _ => ⟨h.2.2.2.1.trans (by simp [upTo, State.otpByte, o.1, List.range, List.range.loop]), h.2.2.2.2⟩⟩
theorem verified (o : Open) {s : State} {k : Nat}
    (h : s.sec.submitted = true ∧ s.mboxKind = k ∧ s.mboxFormat = true ∧ s.mbox 8 16 = List.replicate 16 0 ∧
      ∀ i, i < 8 → leNat (s.mbox (24 + 4 * i) 4) = (s.reg (Reg.SEC_NONCE + 4 * i)).toNat)
    (hs : s.otpOwner.isSome = true) : Verified s k := ⟨submits o h, fun _ => owner_signs o hs _ _⟩
theorem loadable (o : Open) : loading.loadReason image1 = 0 := by
  rw [State.loadReason, owner_signs o (by decide +kernel)]
  decide +kernel
/-- Extents that are one extent lie on one side. -/
theorem sameExtents {l : List Nat} {k : Nat} (h : ∀ e ∈ l, e = k) {m : Table Extent} :
    ∀ e ∈ l, ∀ x y, Maps.find e m = some x → Maps.find k m = some y → x.sideB = y.sideB := by
  intro e he x y hx hy
  rw [h e he] at hx
  cases hx.symm.trans hy
  rfl

theorem meets_StepRunsFront :
    (∃ (s : State) (c : Instr) (rest : List Instr), s.pending = c :: rest) := 
  ⟨State.reset.withPending [.debugToken], _, _, rfl⟩

theorem meets_IdleOnEmptyQueue :
    (∃ s : State, s.pending = []) := 
  ⟨State.reset, rfl⟩

theorem meets_StepKeepsCanonicalForm :
    (∃ (s t : State), Canonical s ∧ step s = .next t) := 
  ⟨State.reset, State.reset, by decide +kernel, rfl⟩

theorem meets_ResetRegisters :
    (∃ (off : Nat) (d : RegDesc), regAt off = some d) := 
  ⟨0x28001C, _, rfl⟩

theorem meets_UnlistedOffsets :
    (∃ (s : State) (rq : Requester) (off : BitVec 26) (v : Word), s.reaches rq = true ∧ regAt off.toNat = none) ∧
    (∃ (s : State) (rq : Requester) (off : BitVec 26), s.reaches rq = true ∧ off.toNat % 4 = 0 ∧ regAt off.toNat = none ∧ isPairLow
      off.toNat = false ∧ Maps.find off.toNat (s.captures rq) = none) := ⟨
  ⟨State.reset, .mcp, 0x3FFFFFC, 5, by decide +kernel⟩,
  ⟨State.reset, .mcp, 0x3FFFFFC, by decide +kernel⟩⟩

theorem meets_AluResults :
    (∀ sub : Fin 15, MeetsWord (fun w => wOp w = 0x10 ∧ wSub w = sub ∧ wImm w = 0)) ∧
    (∀ sub : Fin 15, MeetsWord (fun w => wOp w = 0x11 ∧ wSub w = sub ∧ wB w = 0 ∧ wImm w < 64)) ∧
    (MeetsWord (fun w => wOp w = 0x11 ∧ wSub w = 15 ∧ wB w = 0)) := ⟨
  fun sub => meetsWord (word 0x10 3 1 2 sub 0) (by revert sub; decide +kernel) (by revert sub; decide +kernel),
  fun sub => meetsWord (word 0x11 3 1 0 sub 7) (by revert sub; decide +kernel) (by revert sub; decide +kernel),
  meetsWord (word 0x11 3 1 0 15 7) (by decide +kernel) (by decide +kernel)⟩

theorem meets_CompareAndPredicateResults :
    (∀ sub : Fin 8, MeetsWord (fun w => wOp w = 0x12 ∧ wSub w = sub ∧ wD w < 8 ∧ wImm w = 0)) ∧
    (∀ sub : Fin 8, MeetsWord (fun w => wOp w = 0x13 ∧ wSub w = sub ∧ wD w < 8 ∧ wB w = 0)) ∧
    (∀ sub : Fin 4, MeetsWord (fun w => wOp w = 0x14 ∧ wSub w = sub ∧ wD w < 8 ∧ wA w < 8 ∧ wB w < 8 ∧ wImm w = 0)) ∧
    (MeetsWord (fun w => wOp w = 0x14 ∧ wSub w = 4 ∧ wA w < 8 ∧ wB w = 0 ∧ wImm w = 0)) := ⟨
  fun sub => meetsWord (word 0x12 3 1 2 sub 0) (by revert sub; decide +kernel) (by revert sub; decide +kernel),
  fun sub => meetsWord (word 0x13 3 1 0 sub 5) (by revert sub; decide +kernel) (by revert sub; decide +kernel),
  fun sub => meetsWord (word 0x14 3 1 2 sub 0) (by revert sub; decide +kernel) (by revert sub; decide +kernel),
  meetsWord (word 0x14 3 1 0 4 0) (by decide +kernel) (by decide +kernel)⟩

theorem meets_BitFieldAndCrcResults :
    (∀ sub : Fin 5, MeetsWord (fun w => wOp w = 0x15 ∧ wSub w = sub ∧ wB w = 0 ∧ wImm w = 0)) ∧
    (∀ sub : Fin 3, MeetsWord (fun w => wOp w = 0x16 ∧ wSub w = sub ∧ wB w = 0 ∧ 1 ≤ fld w 6 0 ∧ fld w 13 8 + fld w 6 0 ≤ 64 ∧ fld w 7 7 =
      0 ∧ fld w 31 14 = 0)) ∧
    (∀ sub : Fin 3, MeetsWord (fun w => wOp w = 0x17 ∧ wSub w = sub ∧ wImm w = 0)) := ⟨
  fun sub => meetsWord (word 0x15 3 1 0 sub 0) (by revert sub; decide +kernel) (by revert sub; decide +kernel),
  fun sub => meetsWord (word 0x16 3 1 0 sub 0x403) (by revert sub; decide +kernel) (by revert sub; decide +kernel),
  fun sub => meetsWord (word 0x17 3 1 2 sub 0) (by revert sub; decide +kernel) (by revert sub; decide +kernel)⟩

theorem meets_ContextAndPadResults :
    (StrandMeets (fun w => wOp w = 0x18 ∧ wSub w < 8 ∧ wA w = 0 ∧ wB w = 0 ∧ wImm w = 0) (fun _ _ _ => True)) ∧
    (StrandMeets (fun w => wOp w = 0x20 ∧ wSub w < 8 ∧ wB w = 0) (fun _ r w => (r.ctx.greg (wA w) + wSimm w).toNat + 2 ^ (wSub w % 4) ≤
      8192)) ∧
    (McpMeets (fun w => wOp w = 0x20 ∧ wSub w < 8 ∧ wB w = 0) (fun s w => let a := ((s.ctxOf .mcp).greg (wA w) + wSimm w).toNat; 0x100000
      ≤ a ∧ a + 2 ^ (wSub w % 4) ≤ 0x200000)) ∧
    (StrandMeets (fun w => wOp w = 0x20 ∧ 8 ≤ wSub w ∧ wSub w < 16 ∧ wB w = 0) (fun _ r w => (r.ctx.greg (wA w) + wSimm w).toNat + 2 ^
      (wSub w % 4) ≤ r.payload.length)) ∧
    (∃ (tile : Nat), StrandMeets (fun w => wOp w = 0x20 ∧ 16 ≤ wSub w ∧ wSub w < 24 ∧ wB w < 8) (fun _ r w => bound r (wB w) = some tile)) ∧
    (StrandMeets (fun w => wOp w = 0x21 ∧ wSub w < 4 ∧ wD w = 0) (fun _ r w => (r.ctx.greg (wA w) + wSimm w).toNat + 2 ^ (wSub w % 4) ≤
      8192)) ∧
    (McpMeets (fun w => wOp w = 0x21 ∧ wSub w < 4 ∧ wD w = 0) (fun s w => let a := ((s.ctxOf .mcp).greg (wA w) + wSimm w).toNat; 0x100000
      ≤ a ∧ a + 2 ^ (wSub w % 4) ≤ 0x200000)) ∧
    (∃ (tile : Nat), StrandMeetsAt (fun w => wOp w = 0x21 ∧ 16 ≤ wSub w ∧ wSub w < 20 ∧ wD w < 8) (fun _ _ r w => bound r (wD w) = some
      tile)) := ⟨
  strandMeets (strand (req) (word 0x18 3 0 0 0 0)) req (word 0x18 3 0 0 0 0) (by decide +kernel) (by decide +kernel) (by decide +kernel),
  strandMeets (strand ({ req with ctx := { req.ctx with pad := [(21, 0x80), (22, 0xFF)] } }) (word 0x20 3 1 0 0 16))
    { req with ctx := { req.ctx with pad := [(21, 0x80), (22, 0xFF)] } } (word 0x20 3 1 0 0 16) (by decide +kernel) (by decide +kernel)
    (by decide +kernel),
  mcpMeets
    { (mcp (word 0x20 3 1 0 0 16) [(1, 0x100010)]) with mcp := { (mcp (word 0x20 3 1 0 0 16) [(1, 0x100010)]).mcp with sram := [(0x20, 0x91), (0x22, 0x88)] } }
    (word 0x20 3 1 0 0 16) (by decide +kernel) (by decide +kernel) (by decide +kernel),
  strandMeets (strand (req) (word 0x20 3 1 0 8 16)) req (word 0x20 3 1 0 8 16) (by decide +kernel) (by decide +kernel) (by decide +kernel),
  ⟨0, strandMeets (strand (req) (word 0x20 3 1 1 16 4)) req (word 0x20 3 1 1 16 4) (by decide +kernel) (by decide +kernel)
    (by decide +kernel)⟩,
  strandMeets (strand (req) (word 0x21 0 1 2 0 16)) req (word 0x21 0 1 2 0 16) (by decide +kernel) (by decide +kernel) (by decide +kernel),
  mcpMeets (mcp (word 0x21 0 1 2 0 16) [(1, 0x100010), (2, 0x1122334455667788)]) (word 0x21 0 1 2 0 16) (by decide +kernel)
    (by decide +kernel) (by decide +kernel),
  ⟨0, strandMeetsAt (strand (req) (word 0x21 1 1 3 16 4085)) req (word 0x21 1 1 3 16 4085) (by decide +kernel) (by decide +kernel)
    (by decide +kernel)⟩⟩

theorem meets_TileResults :
    (∃ (k : Nat) (tile : Nat), StrandMeetsAt (fun w => TWord 0x30 false w ∧ bitOf w 25 = false ∧ wD w = 0 ∧ wB w = 0 ∧ fld w 24 13 = 0 ∧
      fld w 12 1 = 0) (fun _ _ r w => gn r (wA w) = k ∧ ∃ p st x, r.pour = some p ∧ p.resident k = true ∧ p.stages[k]? = some st ∧
      st.tiles[fld w 28 26]? = some x ∧ x.tile = some tile)) ∧
    (∃ (tile : Nat), StrandMeets (fun w => TWord 0x31 false w ∧ wD w = 0 ∧ fld w 28 26 = 0) (fun s r w => bound r (fld w 31 29) = some
      tile ∧ (tRange w r.ctx).2 ≠ 0 ∧ allowed s r (gn r (wA w)) (tRange w r.ctx).2 1 ∧ linesFit s r (gn r (wA w)) (tRange w r.ctx).2)) ∧
    (∃ (a : Nat) (b : Nat), StrandMeetsAt (fun w => TWord 0x32 false w ∧ wD w = 0 ∧ wA w = 0) (fun _ _ r w => bound r (fld w 31 29) = some
      a ∧ bound r (fld w 28 26) = some b)) ∧
    (∃ (a : Nat), StrandMeetsAt (fun w => TWord 0x32 true w ∧ wD w = 0 ∧ fld w 28 26 = 0) (fun _ _ r w => bound r (fld w 31 29) = some a ∧
      gn r (wA w) + (tRange w r.ctx).2 ≤ r.payload.length)) ∧
    (∃ (a : Nat), StrandMeetsAt (fun w => TWord 0x33 false w ∧ wD w = 0 ∧ fld w 28 26 = 0) (fun _ _ r w => bound r (fld w 31 29) = some
      a)) ∧
    (∃ (a : Nat) (b : Nat), StrandMeetsAt (fun w => TWord 0x34 false w ∧ wD w = 0 ∧ wA w = 0) (fun _ _ r w => bound r (fld w 31 29) = some
      a ∧ bound r (fld w 28 26) = some b)) ∧
    (∃ (a : Nat), StrandMeets (fun w => TWord 0x35 false w ∧ fld w 28 26 = 0) (fun s r w => bound r (fld w 31 29) = some a ∧ s.tileBytes a
      (tRange w r.ctx).1 (tRange w r.ctx).2 ≠ [])) ∧
    (∃ (a : Nat), StrandMeets (fun w => TWord 0x35 true w ∧ fld w 28 26 = 0) (fun s r w => bound r (fld w 31 29) = some a ∧ s.tileBytes a
      (tRange w r.ctx).1 (tRange w r.ctx).2 ≠ [])) ∧
    (∃ (a : Nat) (b : Nat) (n : Nat), StrandMeets (fun w => TWord 0x36 false w ∧ wA w = 0) (fun s r w => bound r (fld w 31 29) = some a ∧
      bound r (fld w 28 26) = some b ∧ n < (tRange w r.ctx).2 ∧ s.tileBytes a (tRange w r.ctx).1 n = s.tileBytes b (tRange w r.ctx).1 n ∧
      s.tileBytes a ((tRange w r.ctx).1 + n) 1 ≠ s.tileBytes b ((tRange w r.ctx).1 + n) 1 ∧ Maps.has s.stg.tiles a = true ∧ Maps.has
      s.stg.tiles b = true)) ∧
    (∃ (a : Nat) (b : Nat), StrandMeets (fun w => TWord 0x36 false w ∧ wA w = 0) (fun s r w => bound r (fld w 31 29) = some a ∧ bound r
      (fld w 28 26) = some b ∧ s.tileBytes a (tRange w r.ctx).1 (tRange w r.ctx).2 = s.tileBytes b (tRange w r.ctx).1 (tRange w r.ctx).2)) ∧
    (∃ (a : Nat), StrandMeets (fun w => TWord 0x37 false w ∧ fld w 28 26 = 0) (fun _ r w => bound r (fld w 31 29) = some a)) ∧
    (∃ (a : Nat), StrandMeets (fun w => TWord 0x37 true w ∧ fld w 28 26 = 0) (fun _ r w => bound r (fld w 31 29) = some a)) ∧
    (∃ (a : Nat), StrandMeets (fun w => TWord 0x38 false w ∧ fld w 28 26 = 0) (fun _ r w => bound r (fld w 31 29) = some a)) ∧
    (∃ (a : Nat), StrandMeets (fun w => TWord 0x38 true w ∧ fld w 28 26 = 0) (fun _ r w => bound r (fld w 31 29) = some a)) ∧
    (StrandMeetsAt (fun w => wOp w = 0x43 ∧ wSub w = 0 ∧ wD w = 0 ∧ wB w = 0 ∧ wImm w ≤ 8191) (fun s _ r w => s.stageTrap r (r.ctx.greg
      (wA w) + wSimm w).toNat = none)) := ⟨
  ⟨0, 0, strandMeetsAt (strand req (word 0x30 0 0 0 0 1610612736)) req (word 0x30 0 0 0 0 1610612736) (by decide +kernel)
    (by decide +kernel) ⟨by decide +kernel, _, _, _, rfl, by decide +kernel, rfl, rfl, rfl⟩⟩,
  ⟨0, strandMeets (strand (req) (word 0x31 0 1 0 0 536895518)) req (word 0x31 0 1 0 0 536895518) (by decide +kernel) (by decide +kernel)
    (by decide +kernel)⟩,
  ⟨0, 1, strandMeetsAt (strand (req) (word 0x32 0 0 0 0 704593930)) req (word 0x32 0 0 0 0 704593930) (by decide +kernel)
    (by decide +kernel) (by decide +kernel)⟩,
  ⟨0, strandMeetsAt (strand (req) (word 0x32 0 1 0 0 536936479)) req (word 0x32 0 1 0 0 536936479) (by decide +kernel) (by decide +kernel)
    (by decide +kernel)⟩,
  ⟨0, strandMeetsAt (strand (req) (word 0x33 0 3 0 0 536895526)) req (word 0x33 0 3 0 0 536895526) (by decide +kernel) (by decide +kernel)
    (by decide +kernel)⟩,
  ⟨0, 1, strandMeetsAt (strand (req) (word 0x34 0 0 0 0 671088678)) req (word 0x34 0 0 0 0 671088678) (by decide +kernel)
    (by decide +kernel) (by decide +kernel)⟩,
  ⟨0, strandMeets (strand (req) (word 0x35 3 1 0 0 536870950)) req (word 0x35 3 1 0 0 536870950) (by decide +kernel) (by decide +kernel)
    (by decide +kernel)⟩,
  ⟨0, strandMeets (strand (req) (word 0x35 3 1 0 0 536870951)) req (word 0x35 3 1 0 0 536870951) (by decide +kernel) (by decide +kernel)
    (by decide +kernel)⟩,
  ⟨0, 1, 0, strandMeets (strand (req) (word 0x36 3 0 0 0 671088678)) req (word 0x36 3 0 0 0 671088678) (by decide +kernel)
    (by decide +kernel) (by decide +kernel)⟩,
  ⟨0, 1, strandMeets (strand (req) (word 0x36 3 0 0 0 671105062)) req (word 0x36 3 0 0 0 671105062) (by decide +kernel)
    (by decide +kernel) (by decide +kernel)⟩,
  ⟨0, strandMeets (strand (req) (word 0x37 3 0 0 0 536870958)) req (word 0x37 3 0 0 0 536870958) (by decide +kernel) (by decide +kernel)
    (by decide +kernel)⟩,
  ⟨0, strandMeets (strand (req) (word 0x37 3 0 0 0 536870959)) req (word 0x37 3 0 0 0 536870959) (by decide +kernel) (by decide +kernel)
    (by decide +kernel)⟩,
  ⟨0, strandMeets (strand (req) (word 0x38 3 1 0 0 536870952)) req (word 0x38 3 1 0 0 536870952) (by decide +kernel) (by decide +kernel)
    (by decide +kernel)⟩,
  ⟨0, strandMeets (strand (req) (word 0x38 3 1 0 0 536870953)) req (word 0x38 3 1 0 0 536870953) (by decide +kernel) (by decide +kernel)
    (by decide +kernel)⟩,
  strandMeetsAt (strand ({ req with ctx := { req.ctx with pad := [(17, 1), (40, 2)] } }) (word 0x43 0 1 0 0 11))
    { req with ctx := { req.ctx with pad := [(17, 1), (40, 2)] } } (word 0x43 0 1 0 0 11) (by decide +kernel) (by decide +kernel)
    (by decide +kernel)⟩

theorem meets_WindowInstructions :
    (StrandMeetsAt (fun w => wOp w = 0x40 ∧ wSub w = 0 ∧ wD w = 0 ∧ wImm w = 0) (fun s _ r w => r.kind = 0 ∧ allowed s r (gn r (wA w)) (gn
      r (wB w)) 0 ∧ responseBytes r + gn r (wB w) ≤ r.len ∧ r.kept = [])) ∧
    (StrandMeetsAt (fun w => wOp w = 0x40 ∧ wSub w = 1 ∧ wImm w = 0) (fun s _ r w => gn r (wD w) + gn r (wB w) ≤ 8192 ∧ allowed s r (gn r
      (wA w)) (gn r (wB w)) 0 ∧ r.kept = [])) ∧
    (∃ (s : State) (req index : Nat) (r : Request) (m : MRead), Maps.find req s.cle.reqs = some r ∧ r.rest = none ∧ r.mreads[index]? =
      some m ∧ m.done = false ∧ r.readFail = none ∧ s.readsPending req ((s.window r.win).pnaBase + m.off) m.now = false) ∧
    (∃ (s : State) (req index : Nat) (r : Request) (x : RestRec), Maps.find req s.cle.reqs = some r ∧ r.rest = some x ∧ s.restPending req
      r x = false ∧ x.fail = none ∧ dropParts 16384 x.parts = []) ∧
    (StrandMeets (fun w => wOp w = 0x41 ∧ wSub w = 0 ∧ fld w 31 15 = 0 ∧ fld w 14 0 < 16384) (fun s r w => gn r (wB w) ≠ 0 ∧ gn r (wB w) ≤
      fld w 14 0 + 1 ∧ gn r (wD w) + gn r (wB w) ≤ 8192 ∧ allowed s r (gn r (wA w)) (gn r (wB w)) 1 ∧ linesFit s r (gn r (wA w)) (gn r (wB
      w)))) ∧
    (StrandMeets (fun w => wOp w = 0x41 ∧ wSub w = 1 ∧ fld w 31 15 = 0 ∧ fld w 14 0 < 16384) (fun s r w => gn r (wB w) ≠ 0 ∧ gn r (wB w) ≤
      fld w 14 0 + 1 ∧ gn r (wD w) + gn r (wB w) ≤ r.payload.length ∧ allowed s r (gn r (wA w)) (gn r (wB w)) 1 ∧ linesFit s r (gn r (wA
      w)) (gn r (wB w)))) ∧
    (StrandMeetsAt (fun w => wOp w = 0x44 ∧ wSub w = 0 ∧ wD w = 0 ∧ wImm w = 0) (fun s _ r w => allowed s r (gn r (wA w)) (gn r (wB w))
      3)) := ⟨
  strandMeetsAt (strand (req) (word 0x40 0 1 2 0 0)) req (word 0x40 0 1 2 0 0) (by decide +kernel) (by decide +kernel) (by decide +kernel),
  strandMeetsAt (strand (req) (word 0x40 2 1 2 1 0)) req (word 0x40 2 1 2 1 0) (by decide +kernel) (by decide +kernel) (by decide +kernel),
  ⟨(strand { req with mreads := [{ off := 8, len := 8, dst := none, now := 8 }] } 0), 0, 0,
    { req with mreads := [{ off := 8, len := 8, dst := none, now := 8 }] }, { off := 8, len := 8, dst := none, now := 8 }, by
    decide +kernel⟩,
  ⟨(strand { req with rest := some { parts := [(0, 8)], psn := 0 } } 0), 0, 0, { req with rest := some { parts := [(0, 8)], psn := 0 } },
    { parts := [(0, 8)], psn := 0 }, by decide +kernel⟩,
  strandMeets (strand (req) (word 0x41 2 1 2 0 16)) req (word 0x41 2 1 2 0 16) (by decide +kernel) (by decide +kernel) (by decide +kernel),
  strandMeets (strand (req) (word 0x41 2 1 2 1 16)) req (word 0x41 2 1 2 1 16) (by decide +kernel) (by decide +kernel) (by decide +kernel),
  strandMeetsAt (strand (req) (word 0x44 0 1 2 0 0)) req (word 0x44 0 1 2 0 0) (by decide +kernel) (by decide +kernel) (by decide +kernel)⟩

theorem meets_MatomInstructions :
    (∃ (s : State), ∃ req index r m c, Maps.find req s.cle.reqs = some r ∧ (r.matoms ++ r.logged).find? (fun x => x.pos == index && x.due)
      = some m ∧ r.st ≠ .ended ∧ m.sub < 6 ∧ m.read = true ∧ s.qp r.qpn = some c ∧ (let size := if m.sub = 4 then 16 else 8; m.pna % size
      = 0 ∧ s.readsPending req m.pna size = false ∧ s.matomBehind (m.pna / 64) m.seq = false ∧ s.newPagesFit r.tenant [m.pna / 16384] =
      true ∧ s.pbRoom r.cls 1 = true)) ∧
    (∀ x : Fin 6, StrandMeetsAt (fun w => wOp w = 0x42 ∧ wSub w = x ∧ wImm w = 0 ∧ wB w + 4 ≤ 32 ∧ wD w ≤ 30) (fun s _ r w => allowed s r
      (gn r (wA w) / 16 * 16) 16 2 ∧ allowed s r (gn r (wA w) / 8 * 8) 8 2 ∧ r.logged = [] ∧ r.repeated = [] ∧ ∀ l ∈ linesOf ((s.window
      r.win).pnaBase + gn r (wA w) / 16 * 16) 16, Maps.has s.med.poison l = false)) := ⟨
  ⟨(strand { req with matoms := [{ sub := 1, off := 0, ops := [3], d := 3, pos := 0 }] } 0), 0, 0,
    { req with matoms := [{ sub := 1, off := 0, ops := [3], d := 3, pos := 0 }] }, { sub := 1, off := 0, ops := [3], d := 3, pos := 0 },
    { state := .rtr, tenant := 1 }, by decide +kernel⟩,
  fun x => strandMeetsAt (strand req (word 0x42 3 1 2 x 0)) req (word 0x42 3 1 2 x 0) (by revert x; decide +kernel)
    (by revert x; decide +kernel) (by revert x; decide +kernel)⟩

theorem meets_MessageInstructions :
    (StrandMeets (fun w => wOp w = 0x50 ∧ wSub w = 0 ∧ wD w = 0 ∧ wA w = 0 ∧ wB w = 0 ∧ wImm w = 0) (fun _ r _ => r.kind = 0 ∧ r.eff.post
      = none ∧ responseBytes r = r.len)) ∧
    (StrandMeets (fun w => wOp w = 0x50 ∧ wSub w = 1 ∧ wD w = 0 ∧ wA w = 0 ∧ wB w = 0 ∧ wImm w = 0) (fun _ r _ => (r.kind = 1 ∨ r.kind =
      6) ∧ r.eff.post = none)) ∧
    (StrandMeets (fun w => wOp w = 0x50 ∧ wSub w = 2 ∧ wD w = 0 ∧ wB w = 0 ∧ wImm w = 0) (fun _ r _ => 2 ≤ r.kind ∧ r.kind ≤ 4 ∧
      r.eff.post = none)) ∧
    (StrandMeets (fun w => wOp w = 0x50 ∧ wSub w = 3 ∧ wD w = 0 ∧ wA w = 0 ∧ wB w = 0 ∧ wImm w = 0) (fun _ r _ => r.kind = 5 ∧ r.eff.post
      = none)) ∧
    (StrandMeets (fun w => wOp w = 0x51 ∧ wSub w = 0 ∧ wD w = 0 ∧ wImm w < 256) (fun s r w => s.standardStatus r = false ∧ 16 ≤ r.kind ∧
      gn r (wB w) ≤ 510 ∧ (gn r (wB w) = 0 ∨ gn r (wA w) + 8 * gn r (wB w) ≤ 8192) ∧ r.eff.reply = none)) ∧
    (∃ (c : Qp), StrandMeets (fun w => wOp w = 0x51 ∧ wSub w = 0 ∧ wD w = 0 ∧ wImm w < 256) (fun s r w => s.standardStatus r = true ∧ gn r
      (wB w) = 0 ∧ r.eff.reply = none ∧ s.qp (if BitVec.ofNat 24 (r.args.getD 0 0).toNat = 0 then r.qpn else BitVec.ofNat 24 (r.args.getD
      0 0).toNat) = some c ∧ c.tenant = r.tenant)) ∧
    (StrandMeets (fun w => wOp w = 0x52 ∧ wSub w = 0 ∧ wD w = 0 ∧ wB w = 0 ∧ wImm w < 16) (fun _ r w => gn r (wA w) + 32 ≤ 8192 ∧
      r.eff.notifies.length < 4)) ∧
    (StrandMeets (fun w => wOp w = 0x53 ∧ wSub w = 0 ∧ wD w = 0 ∧ wA w = 0 ∧ wImm w < 2) (fun _ r _ => r.eff.meters.length < 8)) := ⟨
  strandMeets (strand ({ req with mreads := [{ off := 0, len := 8, dst := none, now := 8, done := true }] }) (word 0x50 0 0 0 0 0))
    { req with mreads := [{ off := 0, len := 8, dst := none, now := 8, done := true }] } (word 0x50 0 0 0 0 0) (by decide +kernel)
    (by decide +kernel) (by decide +kernel),
  strandMeets (strand ({ req with kind := 1 }) (word 0x50 0 0 0 1 0)) { req with kind := 1 } (word 0x50 0 0 0 1 0) (by decide +kernel)
    (by decide +kernel) (by decide +kernel),
  strandMeets (strand ({ req with kind := 2 }) (word 0x50 0 1 0 2 0)) { req with kind := 2 } (word 0x50 0 1 0 2 0) (by decide +kernel)
    (by decide +kernel) (by decide +kernel),
  strandMeets (strand ({ req with kind := 5 }) (word 0x50 0 0 0 3 0)) { req with kind := 5 } (word 0x50 0 0 0 3 0) (by decide +kernel)
    (by decide +kernel) (by decide +kernel),
  strandMeets (strand ({ req with kind := 17 }) (word 0x51 0 1 2 0 9)) { req with kind := 17 } (word 0x51 0 1 2 0 9) (by decide +kernel)
    (by decide +kernel) (by decide +kernel),
  ⟨{ state := .rtr, tenant := 1 }, strandMeets
    { (strand ({ req with kind := 16 }) (word 0x51 0 1 0 0 0)) with cle := { (strand ({ req with kind := 16 }) (word 0x51 0 1 0 0 0)).cle with images := [(0, { state := 1, id := 1, version := 0, blocks := 1, records := [], code := [(word 0x51 0 1 0 0 0)] })] } }
    { req with kind := 16 } (word 0x51 0 1 0 0 0) (by decide +kernel) (by decide +kernel) (by decide +kernel)⟩,
  strandMeets (strand (req) (word 0x52 0 1 0 0 3)) req (word 0x52 0 1 0 0 3) (by decide +kernel) (by decide +kernel) (by decide +kernel),
  strandMeets (strand (req) (word 0x53 0 0 1 0 1)) req (word 0x53 0 0 1 0 1) (by decide +kernel) (by decide +kernel) (by decide +kernel)⟩

theorem meets_FlowInstructions :
    (MeetsWord (fun w => wOp w = 0x01 ∧ wSub w = 0 ∧ wD w = 0 ∧ wA w = 0 ∧ wB w = 0 ∧ wImm w = 0)) ∧
    (MeetsJump (fun w => wOp w = 0x60 ∧ wSub w = 0 ∧ wD w = 0 ∧ wA w = 0 ∧ wB w = 0) (fun _ _ => True)) ∧
    (MeetsJump (fun w => wOp w = 0x61 ∧ wSub w = 0 ∧ wD w = 0 ∧ wB w = 0 ∧ wA w < 16) (fun c w => (c.preg (wA w % 8) ^^ decide (8 ≤ wA w))
      = true)) ∧
    (StrandMeets (fun w => wOp w = 0x61 ∧ wSub w = 0 ∧ wD w = 0 ∧ wB w = 0 ∧ wA w < 16) (fun _ r w => (r.ctx.preg (wA w % 8) ^^ decide (8
      ≤ wA w)) = false)) ∧
    (∃ (s : State) (i : Fin 512) (id : Nat) (r : Request) (w : DWord) (target : Nat), RunsOn s i id r w ∧ wOp w = 0x62 ∧ wSub w = 0 ∧ wD w
      = 0 ∧ wA w = 0 ∧ wB w = 0 ∧ r.stack.length < 8 ∧ (r.ctx.pc : Int) + (wSimm w).toInt = target ∧ target < (s.codeOf r).length) ∧
    (∃ (top : Nat) (rest : List Nat), StrandMeets (fun w => wOp w = 0x63 ∧ wSub w = 0 ∧ wD w = 0 ∧ wA w = 0 ∧ wB w = 0 ∧ wImm w = 0) (fun
      _ r _ => r.stack = top :: rest)) ∧
    (StrandMeetsAt (fun w => wOp w = 0x67 ∧ wSub w = 0 ∧ wD w = 0 ∧ wA w = 0 ∧ wB w = 0 ∧ wImm w < 256) (fun _ _ r _ => r.st ≠ .ended ∧
      r.st ≠ .held)) := ⟨
  meetsWord (word 1 0 0 0 0 0) (by decide +kernel) (by decide +kernel),
  meetsJump (word 0x60 0 0 0 0 1) (by decide +kernel) (by decide +kernel) (by decide +kernel) (by decide +kernel),
  meetsJump (word 0x61 0 0 0 0 1) (by decide +kernel) (by decide +kernel) (by decide +kernel) (by decide +kernel),
  strandMeets (strand (req) (word 0x61 0 8 0 0 1)) req (word 0x61 0 8 0 0 1) (by decide +kernel) (by decide +kernel) (by decide +kernel),
  ⟨(strand req (word 0x62 0 0 0 0 1)), 0, 0, req, (word 0x62 0 0 0 0 1), 1, (by constructor <;> decide +kernel), by decide +kernel, by
    decide +kernel, by decide +kernel, by decide +kernel, by decide +kernel, by decide +kernel, by decide +kernel, by decide +kernel⟩,
  ⟨1, [], strandMeets (strand ({ req with stack := [1] }) (word 0x63 0 0 0 0 0)) { req with stack := [1] } (word 0x63 0 0 0 0 0)
    (by decide +kernel) (by decide +kernel) (by decide +kernel)⟩,
  strandMeetsAt (strand (req) (word 0x67 0 0 0 0 7)) req (word 0x67 0 0 0 0 7) (by decide +kernel) (by decide +kernel) (by decide +kernel)⟩

theorem meets_Yields :
    (StrandMeetsAt (fun w => wOp w = 0x64 ∧ wSub w = 0 ∧ wD w = 0 ∧ wA w = 0 ∧ wB w = 0 ∧ wImm w = 0) (fun _ _ _ _ => True)) ∧
    (StrandMeetsAt (fun w => wOp w = 0x65 ∧ wSub w = 0 ∧ wD w = 0 ∧ wA w = 0 ∧ wB w = 0 ∧ wImm w = 0) (fun _ _ _ _ => True)) ∧
    (StrandMeetsAt (fun w => wOp w = 0x65 ∧ wSub w = 1 ∧ wD w = 0 ∧ wA w = 0 ∧ wB w = 0 ∧ wImm w = 0) (fun _ _ _ _ => True)) ∧
    (∃ (k : Nat), StrandMeetsAt (fun w => wOp w = 0x65 ∧ wSub w = 2 ∧ wD w = 0 ∧ wB w = 0 ∧ wImm w = 0) (fun _ _ r w => gn r (wA w) = k ∧
      ∃ p st, r.pour = some p ∧ p.stages[k]? = some st ∧ st.failed = none ∧ p.cursor ≤ k)) ∧
    (StrandMeetsAt (fun w => wOp w = 0x65 ∧ wSub w = 3 ∧ wD w = 0 ∧ wA w = 0 ∧ wB w = 0 ∧ wImm w = 0) (fun _ _ _ _ => True)) ∧
    (StrandMeetsAt (fun w => wOp w = 0x65 ∧ wSub w = 4 ∧ wD w = 0 ∧ wB w = 0 ∧ wImm w = 0) (fun _ _ _ _ => True)) ∧
    (∃ (s : State) (req : Nat) (r : Request) (at' due : Nat), Maps.find req s.cle.reqs = some r ∧ r.st = .waiting (.time at') due ∧ at' ≤
      s.now) := ⟨
  strandMeetsAt (strand (req) (word 0x64 0 0 0 0 0)) req (word 0x64 0 0 0 0 0) (by decide +kernel) (by decide +kernel) (by decide +kernel),
  strandMeetsAt (strand (req) (word 0x65 0 0 0 0 0)) req (word 0x65 0 0 0 0 0) (by decide +kernel) (by decide +kernel) (by decide +kernel),
  strandMeetsAt (strand (req) (word 0x65 0 0 0 1 0)) req (word 0x65 0 0 0 1 0) (by decide +kernel) (by decide +kernel) (by decide +kernel),
  ⟨0, strandMeetsAt (strand req (word 0x65 0 0 0 2 0)) req (word 0x65 0 0 0 2 0) (by decide +kernel) (by decide +kernel) ⟨by
    decide +kernel, _, _, rfl, rfl, rfl, by decide +kernel⟩⟩,
  strandMeetsAt (strand (req) (word 0x65 0 0 0 3 0)) req (word 0x65 0 0 0 3 0) (by decide +kernel) (by decide +kernel) (by decide +kernel),
  strandMeetsAt (strand (req) (word 0x65 0 1 0 4 0)) req (word 0x65 0 1 0 4 0) (by decide +kernel) (by decide +kernel) (by decide +kernel),
  ⟨(strand { req with st := .waiting (.time 0) 1 } 0), 0, { req with st := .waiting (.time 0) 1 }, 0, 1, by decide +kernel⟩⟩

theorem meets_Commits :
    (StrandMeetsAt (CommitWord 1) (fun s _ r _ => s.commitGate r 1 = .go)) ∧
    (StrandMeetsAt (CommitWord 0) (fun s _ r _ => s.commitGate r 0 = .go)) ∧
    (StrandMeetsAt (CommitWord 0) (fun s _ r _ => s.commitGate r 0 = .go ∧ r.eff.writes = [] ∧ r.eff.post = none ∧ r.eff.reply = none ∧
      r.rest = none)) ∧
    (∃ (off : Nat) (bytes : List Byte), StrandMeetsAt (CommitWord 0) (fun s _ r _ => s.commitGate r 0 = .go ∧ r.eff.writes =
      [{ off, bytes }] ∧ bytes ≠ [])) ∧
    (∃ (off : Nat) (bytes : List Byte), StrandMeetsAt (CommitWord 2) (fun s _ r _ => s.commitGate r 2 = .go ∧ r.eff.writes =
      [{ off, bytes }] ∧ bytes ≠ [])) ∧
    (∃ r : Request, r.eff.writes = [] ∧ ∀ m ∈ r.matoms, m.accepted = true) := ⟨
  strandMeetsAt (strand ({ req with kind := 17 }) (word 0x66 0 0 0 1 0)) { req with kind := 17 } (word 0x66 0 0 0 1 0) (by decide +kernel)
    (by decide +kernel) (by decide +kernel),
  strandMeetsAt (strand (req) (word 0x66 0 0 0 0 0)) req (word 0x66 0 0 0 0 0) (by decide +kernel) (by decide +kernel) (by decide +kernel),
  strandMeetsAt (strand ({ req with kind := 17 }) (word 0x66 0 0 0 0 0)) { req with kind := 17 } (word 0x66 0 0 0 0 0) (by decide +kernel)
    (by decide +kernel) (by decide +kernel),
  ⟨0, (List.replicate 64 7), strandMeetsAt (strand ({ req with eff := { writes := [{ off := 0, bytes := List.replicate 64 7 }] } }) (word
    0x66 0 0 0 0 0)) { req with eff := { writes := [{ off := 0, bytes := List.replicate 64 7 }] } } (word 0x66 0 0 0 0 0)
    (by decide +kernel) (by decide +kernel) (by decide +kernel)⟩,
  ⟨0, (List.replicate 64 7), strandMeetsAt ((strand ({ req with eff := { writes := [{ off := 0, bytes := List.replicate 64 7 }] } }) (word
    0x66 0 0 0 2 0)).setB Reg.TWN_STATUS 26 true) { req with eff := { writes := [{ off := 0, bytes := List.replicate 64 7 }] } } (word
    0x66 0 0 0 2 0) (by decide +kernel) (by decide +kernel) (by decide +kernel)⟩,
  ⟨req, rfl, by decide +kernel⟩⟩

theorem meets_ManagementInstructions :
    (McpMeets (fun w => wOp w = 0x70 ∧ wSub w = 0 ∧ wA w = 0 ∧ wB w = 0 ∧ (wImm w ≤ 5 ∨ wImm w = 0x11)) (fun _ _ => True)) ∧
    (McpMeets (fun w => wOp w = 0x70 ∧ wSub w = 0 ∧ wA w = 0 ∧ wB w = 0 ∧ wImm w = 0x10) (fun _ _ => True)) ∧
    (McpMeets (fun w => wOp w = 0x70 ∧ wSub w = 1 ∧ wD w = 0 ∧ wB w = 0 ∧ (wImm w = 2 ∨ wImm w = 4 ∨ wImm w = 5)) (fun _ _ => True)) ∧
    (McpMeets (fun w => wOp w = 0x70 ∧ wSub w = 2 ∧ wB w = 0) (fun s w => let a := ((s.ctxOf .mcp).greg (wA w) + wSimm w).toNat; a % 4 = 0
      ∧ a < 2 ^ 26 ∧ isPairLow a = false ∧ Maps.find a s.bar.capMcp = none ∧ ¬ (Reg.EVR_WIN ≤ a ∧ a < Reg.EVR_WIN + 256))) ∧
    (∃ (d : RegDesc), McpMeets (fun w => wOp w = 0x70 ∧ wSub w = 3 ∧ wD w = 0) (fun s w => let a := ((s.ctxOf .mcp).greg (wA w) + wSimm
      w).toNat; a % 4 = 0 ∧ a < 2 ^ 26 ∧ regAt a = some d ∧ (isDataPlane a = false ∨ s.sec.dark = false) ∧ plainRegister a = true)) ∧
    (McpMeets (fun w => wOp w = 0x71 ∧ wSub w = 0 ∧ wD w = 0 ∧ wA w = 0 ∧ wB w = 0 ∧ wImm w = 0) (fun _ _ => True)) ∧
    (McpMeets (fun w => wOp w = 0x72 ∧ wSub w = 0 ∧ wD w = 0 ∧ wImm w = 0) (fun s w => ((s.ctxOf .mcp).greg (wB w)).toNat = 0)) ∧
    (∃ (s : State) (k : Fin 16), s.mcp.running = true ∧ s.mcp.halted = false ∧ bitOf (s.csr 0) 0 = true ∧ bitOf (s.csr 0) 2 = false ∧
      bitOf s.mcp.irqPend k.val = true ∧ bitOf (s.csr 0x11) k.val = true) := ⟨
  mcpMeets (mcp (word 0x70 3 0 0 0 0) [(1, 0x100010), (2, 0)]) (word 0x70 3 0 0 0 0) (by decide +kernel) (by decide +kernel)
    (by decide +kernel),
  mcpMeets (mcp (word 0x70 3 0 0 0 16) [(1, 0x100010), (2, 0)]) (word 0x70 3 0 0 0 16) (by decide +kernel) (by decide +kernel)
    (by decide +kernel),
  mcpMeets (mcp (word 0x70 0 1 0 1 2) [(1, 0x100010), (2, 0)]) (word 0x70 0 1 0 1 2) (by decide +kernel) (by decide +kernel)
    (by decide +kernel),
  mcpMeets (mcp (word 0x70 3 0 0 2 0x320504) [(1, 0x100010), (2, 0)]) (word 0x70 3 0 0 2 0x320504) (by decide +kernel) (by decide +kernel)
    (by decide +kernel),
  ⟨((regAt 0x28001C).getD ⟨0, 0, 0, 0, 0, 0, 0, 0, 0, 0, 0, 0⟩), mcpMeets (mcp (word 0x70 0 0 1 3 0x28001C) [(1, 0x100010), (2, 0)]) (word
    0x70 0 0 1 3 0x28001C) (by decide +kernel) (by decide +kernel) (by decide +kernel)⟩,
  mcpMeets (mcp (word 0x71 0 0 0 0 0) [(1, 0x100010), (2, 0)]) (word 0x71 0 0 0 0 0) (by decide +kernel) (by decide +kernel)
    (by decide +kernel),
  mcpMeets (mcp (word 0x72 0 1 2 0 0) [(1, 0x100010), (2, 0)]) (word 0x72 0 1 2 0 0) (by decide +kernel) (by decide +kernel)
    (by decide +kernel),
  ⟨{ State.reset with mcp := { running := true, irqPend := 8, csr := [(0, 1), (1, 0x100), (0x11, 8)] } }, 3, by decide +kernel⟩⟩

theorem meets_KeyOperations :
    (∃ (d : List Byte), McpMeets (KeyWord 1) (fun s w => Descriptor s w d ∧ kdField d 20 2 < 4096)) ∧
    (∃ (d : List Byte), McpMeets (KeyWord 2) (fun s w => Descriptor s w d ∧ inReadable (kdField d 0 8) (kdField d 16 4) = true ∧ inSram
      (kdField d 8 8) 64 = true ∧ kdField d 22 1 = 0)) ∧
    (∃ (d : List Byte), McpMeets (KeyWord 3) (fun s w => Descriptor s w d ∧ inReadable (kdField d 0 8) (kdField d 16 4) = true ∧
      inReadable (kdField d 8 8) 64 = true ∧ (kdField d 22 1 = 0 ∨ (kdField d 22 1 = 1 ∧ s.getB Reg.SEC_STATUS 23 = false) ∨ (kdField d 22
      1 = 2 ∧ inReadable (kdField d 24 8) 32 = true)))) ∧
    (∃ (d : List Byte), McpMeets (KeyWord 4) (fun s w => Descriptor s w d ∧ inReadable (kdField d 0 8) (kdField d 16 4) = true ∧ inSram
      (kdField d 8 8) 64 = true)) ∧
    (∃ (d : List Byte), McpMeets (KeyWord 5) (fun s w => Descriptor s w d ∧ inReadable (kdField d 0 8) 32 = true ∧ inSram (kdField d 8 8)
      256 = true)) ∧
    ((∀ k i a c t, Config.gcmOpen k i a c t = some someKey) → ∃ d : List Byte, McpMeets (KeyWord 0) (fun s w => Descriptor s w d ∧
      inReadable (kdField d 0 8) 96 = true ∧ kdField d 20 2 < 4096 ∧ s.getB Reg.SEC_STATUS 22 = true ∧ s.unwrapKey (kdField d 20 2)
      (s.keyInput (kdField d 0 8) 96) = some someKey)) := ⟨
  ⟨descriptorBytes, mcpMeets (keyed (word 0x73 3 1 0 1 0)) (word 0x73 3 1 0 1 0) (by decide +kernel) (by decide +kernel)
    (by decide +kernel)⟩,
  ⟨descriptorBytes, mcpMeets (keyed (word 0x73 3 1 0 2 0)) (word 0x73 3 1 0 2 0) (by decide +kernel) (by decide +kernel)
    (by decide +kernel)⟩,
  ⟨descriptorBytes, mcpMeets (keyed (word 0x73 3 1 0 3 0)) (word 0x73 3 1 0 3 0) (by decide +kernel) (by decide +kernel)
    (by decide +kernel)⟩,
  ⟨descriptorBytes, mcpMeets (keyed (word 0x73 3 1 0 4 0)) (word 0x73 3 1 0 4 0) (by decide +kernel) (by decide +kernel)
    (by decide +kernel)⟩,
  ⟨descriptorBytes, mcpMeets (keyed (word 0x73 3 1 0 5 0)) (word 0x73 3 1 0 5 0) (by decide +kernel) (by decide +kernel)
    (by decide +kernel)⟩,
  fun g => ⟨(List.range 32).map wrappedKey.byte, mcpMeets (unwrapping (word 0x73 3 1 0 0 0)) (word 0x73 3 1 0 0 0) (by decide +kernel)
    (by decide +kernel) ⟨by decide +kernel, by decide +kernel, by decide +kernel, by decide +kernel,
    (by simp only [State.unwrapKey, g]; decide +kernel)⟩⟩⟩

theorem meets_EngineEvents :
    (∃ (s : State) (strand : Fin 512) (id : Nat) (r : Request), s.running strand = some (id, r) ∧ s.overran strand = true ∧ r.st ≠ .ended
      ∧ r.st ≠ .held) ∧
    (∃ (s : State) (e : Fin 64), bitOf s.cle.fenceDue e.val = true ∧ bitOf s.fencedEngines e.val = false) ∧
    (∃ (s : State) (id : Nat) (r : Request) (c : Nat), Maps.find id s.cle.reqs = some r ∧ r.st = .discarded ∧ r.cluster = some c) := ⟨
  ⟨{ (strand req 0) with tck := { boundaries := 1 } }, 0, 0, req, by decide +kernel⟩,
  ⟨{ (strand req 0) with cle := { (strand req 0).cle with fenceDue := 1 } }, 0, by decide +kernel⟩,
  ⟨(strand { req with st := .discarded } 0), 0, { req with st := .discarded }, 0, by decide +kernel⟩⟩

theorem meets_RegisterAccesses :
    (∃ (s : State) (rq : Requester) (off : BitVec 26) (v : Word) (d : RegDesc), s.reaches rq = true ∧ regAt off.toNat = some d ∧
      (isDataPlane off.toNat = false ∨ s.sec.dark = false) ∧ plainRegister off.toNat = true) ∧
    (∃ (s : State) (rq : Requester) (off : BitVec 26), s.reaches rq = true ∧ off.toNat % 4 = 0 ∧ isPairLow off.toNat = true ∧ (¬
      (Reg.EVR_WIN ≤ off.toNat ∧ off.toNat < Reg.EVR_WIN + 256))) ∧
    (∃ (s : State) (rq : Requester) (off : BitVec 26), s.reaches rq = true ∧ off.toNat % 8 = 0 ∧ isPairLow off.toNat = true ∧ isPairLow
      (off.toNat + 4) = false) ∧
    (∃ (s : State) (rq : Requester) (off : BitVec 26) (v : Word), s.reaches rq = true ∧ off.toNat % 4 = 0 ∧ isPairLow off.toNat = false ∧
      (¬ (Reg.EVR_WIN ≤ off.toNat ∧ off.toNat < Reg.EVR_WIN + 256)) ∧ Maps.find off.toNat (s.captures rq) = some v) ∧
    (∃ (s : State) (off : BitVec 26), s.pcieUp = true) ∧
    (∃ (s : State) (off : BitVec 26), s.pcieUp = true) := ⟨
  ⟨State.reset, .mcp, 0x28001C, 7, ⟨Reg.INT_SCRUB_CFG, 1, 0, 1, 0, 0xFFFF, 0xFFFF, 0x0, 0x0, 0x0, 0x0, 0x64⟩, by decide +kernel⟩,
  ⟨State.reset, .mcp, (BitVec.ofNat 26 Reg.TCK_TICK_LO), by decide +kernel⟩,
  ⟨State.reset, .mcp, (BitVec.ofNat 26 Reg.TCK_TICK_LO), by decide +kernel⟩,
  ⟨{ State.reset with bar := { capMcp := [(Reg.TCK_TICK_LO + 4, 5)] } }, .mcp, (BitVec.ofNat 26 (Reg.TCK_TICK_LO + 4)), 5, by
    decide +kernel⟩,
  ⟨((State.reset.setB Reg.CTL_STATUS 23 true).setReg Reg.SEQ_EN_STATE 0x12), 0x28001C, by decide +kernel⟩,
  ⟨((State.reset.setB Reg.CTL_STATUS 23 true).setReg Reg.SEQ_EN_STATE 0x12), 0x28001C, by decide +kernel⟩⟩

theorem meets_RingRegisters :
    (∃ (s : State) (r : Fin 16) (tail : BitVec 16), r.val ≠ 0 ∧ s.ringOn r.val = true ∧ tail.toNat < s.sqSize r.val ∧ s.dmaHalted 0 =
      false) ∧
    (∃ (s : State) (r : Fin 16) (head : BitVec 16), r.val ≠ 0 ∧ s.ringOn r.val = true ∧ (s.ring r.val).busy = none) ∧
    (∃ (s : State) (r : Fin 16) (v : BitVec 32), s.sec.stopped = false ∧ s.ringOn r.val = false ∧ bitOf v 16 = true) ∧
    (∃ (s : State) (ch cause : Fin 8) (ring : Fin 16), 1 ≤ cause.val ∧ cause.val ≤ 3 ∧ s.dmaHalted ch.val = false) ∧
    (∃ (s : State) (mask : BitVec 8) (k : Nat), k < 6 ∧ bitOf mask k = true) ∧
    (∃ (s : State), ∀ r : Fin 16, (s.ring r.val).busy = none) ∧
    (∃ (s : State) (r : Fin 16) (p : PendCmd) (x : Image), (s.ring r.val).busy = some p ∧ p.opcode = 0x10 ∧ p.result = 0 ∧
      Maps.find p.w0.toNat s.cle.images = some x ∧ x.state = 3) := ⟨
  ⟨((State.reset.setReg (ringCfg 1) 0x10404)), 1, 3, by decide +kernel⟩,
  ⟨((State.reset.setReg (ringCfg 1) 0x10404)), 1, 3, by decide +kernel⟩,
  ⟨State.reset, 1, 0x10404, by decide +kernel⟩,
  ⟨State.reset, 2, 1, 4, by decide +kernel⟩,
  ⟨((State.reset.setB Reg.CTL_DMA_STATUS 31 true)), 1, 0, by decide +kernel⟩,
  ⟨State.reset, by decide +kernel⟩,
  ⟨{ State.reset with
      ctl := { rings := [(1, { busy := some { opcode := 0x10, tag := 7, w0 := 3 } })] }
      cle := { images := [(3, { state := 3, id := 0, version := 0, blocks := 1, records := [], code := [] })] } },
    1, { opcode := 0x10, tag := 7, w0 := 3 },
    { state := 3, id := 0, version := 0, blocks := 1, records := [], code := [] }, by decide +kernel⟩⟩

theorem meets_TableCommands :
    (∃ (s : State) (h : CmdHead) (id : BitVec 16) (e ra : Bool) (sq pq : Word) (tq : BitVec 16) (len : Word) (wrapped : List Byte), Begins
      s h 0x01 (if e then some 3 else none) ∧ id.toNat < 4096 ∧ tq.toNat ≤ 4096 ∧ len.toNat = (if e then 96 else 0) ∧ Maps.has
      s.processed.tenants id.toNat = false ∧ (e = true → (s.unwrapKey id.toNat wrapped).isSome = true)) ∧
    (∃ (s : State) (h : CmdHead) (id : BitVec 16) (x : Tenant), Begins s h 0x02 none ∧ id.toNat < 4096 ∧ Maps.find id.toNat
      s.processed.tenants = some x ∧ x.destroyed = false ∧ (∀ e ∈ s.processed.extents, e.2.tenant ≠ id.toNat) ∧ (∀ q ∈ s.processed.qps,
      q.2.tenant ≠ id.toNat) ∧ (∀ v ∈ s.processed.windows, v.2.tenant = id.toNat → v.2.state = .free ∨ v.2.state = .retired)) ∧
    (∃ (s : State) (h : CmdHead) (e : Word) (id : BitVec 16) (side : Byte) (x : Tenant), Begins s h 0x03 none ∧ e.toNat < 2 ^ 27 ∧
      id.toNat < 4096 ∧ side.toNat ≤ 1 ∧ Maps.has s.processed.extents e.toNat = false ∧ Maps.find id.toNat s.processed.tenants = some x ∧
      x.destroyed = false) ∧
    (∃ (s : State) (h : CmdHead) (e : Word), Begins s h 0x04 none ∧ e.toNat < 2 ^ 27 ∧ Maps.has s.processed.extents e.toNat = true ∧
      s.processed.covered e.toNat = false) ∧
    (∃ (s : State) (h : CmdHead) (a n : DWord) (id : BitVec 16), Begins s h 0x05 none ∧ id.toNat < 4096 ∧ s.processed.owns id.toNat
      a.toNat n.toNat = true) ∧
    (∃ (s : State) (h : CmdHead) (rkey : Word) (rc : Bool) (d : WinDesc), Begins s h 0x08 none ∧ d.length.toNat ≠ 0 ∧ d.pinned = false ∧
      (Maps.getD s.processed.windows (rkey.toNat / 256) {}).opensWith (rkey.toNat % 256) rc = true ∧ s.processed.owns d.tenant.toNat
      d.pnaBase.toNat d.length.toNat = true ∧ d.vaBase.toNat + d.length.toNat ≤ 2 ^ 64 ∧ (∀ e ∈ extentsOf d.pnaBase.toNat d.length.toNat,
      ∀ x y, Maps.find e s.processed.extents = some x → Maps.find (extentOf d.pnaBase.toNat) s.processed.extents = some y → x.sideB =
      y.sideB) ∧ s.hasProgram d.progId.toNat = true) ∧
    (∃ (s : State) (h : CmdHead) (rkey : Word) (rc : Bool) (d : WinDesc), Begins s h 0x08 none ∧ d.length.toNat ≠ 0 ∧ d.pinned = true ∧
      (Maps.getD s.processed.windows (rkey.toNat / 256) {}).opensWith (rkey.toNat % 256) rc = true ∧ s.processed.owns d.tenant.toNat
      d.pnaBase.toNat d.length.toNat = true ∧ d.vaBase.toNat + d.length.toNat ≤ 2 ^ 64 ∧ (∀ e ∈ extentsOf d.pnaBase.toNat d.length.toNat,
      ∀ x y, Maps.find e s.processed.extents = some x → Maps.find (extentOf d.pnaBase.toNat) s.processed.extents = some y → x.sideB =
      y.sideB) ∧ s.hasProgram d.progId.toNat = true ∧ s.pinReason d.tenant.toNat (extentsOf d.pnaBase.toNat d.length.toNat) = 0) ∧
    (∃ (s : State) (h : CmdHead) (rkey : Word) (mask rights pinned : Byte) (prog : BitVec 16), Begins s h 0x09 none ∧ mask.toNat ≤ 7 ∧
      bitOf mask 1 = false ∧ rights.toNat ≤ 31 ∧ prog.toNat ≤ 1023 ∧ (Maps.getD s.processed.windows (rkey.toNat / 256) {}).gen =
      rkey.toNat % 256 ∧ (Maps.getD s.processed.windows (rkey.toNat / 256) {}).state = .opened ∧ s.hasProgram prog.toNat = true) ∧
    (∃ (s : State) (h : CmdHead) (rkey : Word), Begins s h 0x0A none ∧ (Maps.getD s.processed.windows (rkey.toNat / 256) {}).gen =
      rkey.toNat % 256 ∧ (Maps.getD s.processed.windows (rkey.toNat / 256) {}).state = .opened) ∧
    (∃ (s : State) (h : CmdHead) (b : QpBlock) (x : Tenant), Begins s h 0x0C none ∧ qpBad b true = false ∧ 2 ≤ b.qpn.toNat ∧ b.qpn.toNat <
      2 ^ 20 ∧ Maps.has s.processed.qps b.qpn.toNat = false ∧ Maps.find b.tenant.toNat s.processed.tenants = some x ∧ x.destroyed = false
      ∧ b.cls ≠ 3 ∧ (b.cls = 0 → x.risAllowed = true ∧ ∀ e ∈ s.processed.qps, e.2.cls = .ristretto → e.1 % 4096 ≠ b.qpn.toNat % 4096)) ∧
    (∃ (s : State) (h : CmdHead) (b : QpBlock) (c : Qp), Begins s h 0x0D none ∧ qpBad b false = false ∧ Maps.find b.qpn.toNat
      s.processed.qps = some c ∧ (bitOf b.mask 0 = true → stateChangeOk c.state b.state.toNat = true) ∧ (bitOf b.mask 4 = true → c.state =
      .init ∨ c.state = .rtr)) ∧
    (∃ (s : State) (h : CmdHead) (q : Word), Begins s h 0x0E none ∧ Maps.has s.processed.qps q.toNat = true) := ⟨
  ⟨ringed, head, 3, false, true, 8, 8, 16, 0, [], by decide +kernel⟩,
  ⟨ringed, head, 2, {}, by decide +kernel⟩,
  ⟨ringed, head, 7, 1, 1, { scmQuota := 8, tileQuota := 64, pinQuota := 4096 }, by decide +kernel⟩,
  ⟨ringed, head, 5, by decide +kernel⟩,
  ⟨ringed, head, 0, 65536, 1, by decide +kernel⟩,
  ⟨ringed, head, 0x201, false, (desc 0 false), by decide +kernel, by decide +kernel, by decide +kernel, by decide +kernel, by
    decide +kernel, by decide +kernel, sameExtents (by decide +kernel : ∀ e ∈ extentsOf (desc 0 false).pnaBase.toNat (desc 0
    false).length.toNat, e = extentOf (desc 0 false).pnaBase.toNat), by decide +kernel⟩,
  ⟨ringed, head, 0x201, false, (desc 0xA00000 true), by decide +kernel, by decide +kernel, by decide +kernel, by decide +kernel, by
    decide +kernel, by decide +kernel, sameExtents (by decide +kernel : ∀ e ∈ extentsOf (desc 0xA00000 true).pnaBase.toNat (desc 0xA00000
    true).length.toNat, e = extentOf (desc 0xA00000 true).pnaBase.toNat), by decide +kernel, by decide +kernel⟩,
  ⟨{ ringed with win := { ringed.win with windows := [(1, { window1 with gen := 1 })] } }, head, 0x101, 4, 3, 0, 0, by decide +kernel⟩,
  ⟨{ ringed with win := { ringed.win with windows := [(1, { window1 with gen := 1 })] } }, head, 0x101, by decide +kernel⟩,
  ⟨ringed, head, (qpBlock 5), { scmQuota := 8, tileQuota := 64, pinQuota := 4096 }, by decide +kernel⟩,
  ⟨ringed, head, (qpBlock 2), { state := .rtr, tenant := 1 }, by decide +kernel⟩,
  ⟨ringed, head, 2, by decide +kernel⟩⟩

theorem meets_TableEvents :
    (∃ (s : State) (p : BitVec 34), Maps.find p.toNat s.win.discards = some false ∧ (∀ e ∈ s.dur.pb, e.line / 256 ≠ p.toNat)) ∧
    (∃ (s : State) (p : BitVec 34), Maps.find p.toNat s.win.discards = some true) ∧
    (∃ (s : State) (i : BitVec 24) (x : PinRec) (exts : List Nat), s.win.pinWait.find? (fun e => e.1 == i.toNat) = some (i.toNat, x) ∧
      extentsOf (Maps.getD s.processed.windows i.toNat {}).pnaBase (Maps.getD s.processed.windows i.toNat {}).length = exts ∧ s.nandPages
      exts = [] ∧ s.filling exts = false) ∧
    (∃ (s : State) (i : BitVec 24) (w : Window), Maps.find i.toNat s.win.windows = some w ∧ w.state = .closing ∧ (∀ e ∈ s.trn.opt, e.2.win
      = i.toNat → e.2.gen ≠ w.gen) ∧ w.pinned = false) ∧
    (∃ (s : State) (k : Fin 64) (x : Image), Maps.find k.val s.cle.images = some x ∧ x.state = 2 ∧ (∀ r ∈ s.cle.reqs, r.2.slot ≠ some
      k.val) ∧ (∀ e ∈ s.cle.conj, names e.2 k.val = false) ∧ (∀ e ∈ s.trn.opt, ∀ v, e.2.firstEntry = some v ∨ e.2.nextEntry = some v →
      names v k.val = false)) := ⟨
  ⟨{ served with win := { served.win with discards := [(0, false)] }, med := { store := [(3, 7), (70000, 8)] } }, 0, by decide +kernel⟩,
  ⟨{ served with win := { served.win with discards := [(0, true)] } }, 0, by decide +kernel⟩,
  ⟨{ served with win := { served.win with pinWait := [(1, { ring := 1, tag := 7 })], changes := [{ group := some 1, change := .windowOpen 1 1 (desc 0 true), held := true }] } },
    1, { ring := 1, tag := 7 }, [0], by decide +kernel⟩,
  ⟨{ served with win := { served.win with windows := [(1, { window1 with gen := 1, state := .closing })] } }, 1,
    { window1 with gen := 1, state := .closing }, by decide +kernel⟩,
  ⟨{ served with cle := { images := [(3, { state := 2, id := 0, version := 0, blocks := 1, records := [], code := [] })] } }, 3,
    { state := 2, id := 0, version := 0, blocks := 1, records := [], code := [] }, by decide +kernel⟩⟩

theorem meets_CompletingCommands :
    (Open → ∃ (s : State) (h : CmdHead) (image : List Byte), Begins s h 0x10 (some 3) ∧ 120 ≤ image.length ∧ image.length ≤ 1049696 ∧
      s.loadReason image = 0) ∧
    (∃ (s : State) (h : CmdHead) (k : Byte) (x : Image), Begins s h 0x11 none ∧ k.toNat < 64 ∧ Maps.find k.toNat s.cle.images = some x ∧
      x.state = 1 ∧ s.unloadInUse k.toNat = false) ∧
    (∃ (s : State) (h : CmdHead) (side : Byte) (hold : Bool), Begins s h 0x14 none ∧ side.toNat ≤ 1 ∧ s.drillOk (side == 1) = true) ∧
    (∃ (s : State) (h : CmdHead), Begins s h 0x15 none ∧ s.ntl.state ≠ 0 ∧ s.ntl.state ≠ 4 ∧ (∀ e ∈ s.win.pages, ∀ n, e.2 ≠ .nand n) ∧
      s.capTpns ≤ s.maxTpns) ∧
    (∃ (s : State) (h : CmdHead) (pair : DWord) (n : Byte), Begins s h 0x16 none ∧ 1 ≤ n.toNat ∧ n.toNat ≤ 63 ∧ s.pairState = 0 ∧
      s.servesBits = 0) ∧
    (∃ (s : State) (n : Nat) (pair : DWord) (g : Option Nat), n ≤ 63 ∧ s.publishable { group := g, change := .format n pair } = true) ∧
    (∃ (s : State) (h : CmdHead) (o : DWord) (n : Word), Begins s h 0x18 (some 4) ∧ n.toNat ≤ 2 ^ 24 ∧ o.toNat + n.toNat ≤ 2 ^ 30) ∧
    (∃ (s : State) (h : CmdHead) (o : DWord) (bs : List Byte), Begins s h 0x19 (some 5) ∧ bs.length ≤ 2 ^ 24 ∧ o.toNat + bs.length ≤ 2 ^
      30) ∧
    (∃ (s : State) (h : CmdHead) (body : List Byte) (w0 w1 w2 : DWord), Begins s h 0x1C none ∧ s.mcp.running = true ∧ s.mcp.halted =
      false) ∧
    (∃ (s : State) (h : CmdHead), Begins s h 0x1D none) ∧
    (∃ (s : State) (h : CmdHead) (i : Word) (a b c : Nat), Begins s h 0x1E none ∧ Maps.find i.toNat s.snap.qps = some (a, b, c)) ∧
    (∃ (s : State) (h : CmdHead) (i : Word), Begins s h 0x1E none) := ⟨
  fun o => ⟨loading, ⟨3,7,false⟩, image1, by decide +kernel, by decide +kernel, by decide +kernel, loadable o⟩,
  ⟨{ ringed with cle := { ringed.cle with images := [(3, { state := 1, id := 0, version := 0, blocks := 1, records := [], code := [] })], conjStaged := [(64, 0x8003000000000000)] } },
    head, 3, { state := 1, id := 0, version := 0, blocks := 1, records := [], code := [] }, by decide +kernel⟩,
  ⟨({ ringed with twn := { bundle0 := { up := true }, bundle1 := { up := true }, hb := some { sideB := true, state := 1, solo := false, epoch := 0, tick := 0, pairId := 0, free := 0, tenants := 0, extents := 0, windows := 0, pinned := 0 } } }.setReg
    Reg.TWN_STATUS 0x26000000), head, 0, true, by decide +kernel⟩,
  ⟨{ ringed with ntl := { state := 5 } }, head, by decide +kernel, by decide +kernel, by decide +kernel,
    (by intro e he n; rw [(by decide +kernel : ∀ e ∈ ringed.win.pages, e.2 = PageLoc.scm 0 0) e he]; simp), by decide +kernel⟩,
  ⟨((ringed.setB Reg.TWN_STATUS 29 false)), head, 0x1122334455667788, 2, by decide +kernel⟩,
  ⟨served, 3, 5, none, by decide +kernel⟩,
  ⟨{ ringed with ctl := { ringed.ctl with region := [(5, 1)] } }, head, 3, 6, by decide +kernel⟩,
  ⟨{ ringed with ctl := { ringed.ctl with region := [(5, 1)] } }, head, 3, [0, 1, 2, 0], by decide +kernel⟩,
  ⟨{ ringed with mcp := { running := true } }, head, (List.replicate 104 0), 1, 2, 3, by decide +kernel⟩,
  ⟨ringed, head, by decide +kernel⟩,
  ⟨{ ringed with snap := { qps := [(2, (1, 2, 3))] } }, head, 2, 1, 2, 3, by decide +kernel⟩,
  ⟨ringed, head, 1, by decide +kernel⟩⟩

theorem meets_TickAndFrame :
    (∃ (s : State), s.clocked = true) ∧
    (∃ (s : State) (samples : List (BitVec 16)), s.clocked = true ∧ s.frameDue = true) := ⟨
  ⟨((State.reset.setB Reg.SEQ_PG_STATE 1 true).setReg Reg.SEQ_PG_STATE 2), by decide +kernel⟩,
  ⟨{ (State.reset.setB Reg.SEQ_PG_STATE 1 true).setReg Reg.SEQ_PG_STATE 2 with tck := { tick := 2999 } }, (List.replicate 40 0), by
    decide +kernel⟩⟩

theorem meets_MeterBatches :
    (∃ (s : State) (refRaw : BitVec 16) (resid : List (BitVec 15)), s.clocked = true ∧ s.minuteDue = true ∧ s.batchHeld = false) ∧
    (∃ (s : State) (refRaw : BitVec 16) (resid : List (BitVec 15)), s.clocked = true ∧ s.minuteDue = true ∧ s.batchHeld = true) ∧
    (∃ (s : State) (slot seq : Nat) (bytes : List Byte) (mark : Nat) (rest : List (Nat × Nat × List Byte × Nat)), s.ten.unsigned = (slot,
      seq, bytes, mark) :: rest ∧ s.dmaHalted 7 = false ∧ CanAnnounce s) := ⟨
  ⟨{ (served.setReg Reg.SEQ_PG_STATE 2) with tck := { tick := 179999999 } }, 0, (List.replicate 40 0), by decide +kernel⟩,
  ⟨{ (served.setReg Reg.SEQ_PG_STATE 2) with tck := { tick := 179999999 }, ten := { unread := [0] } }, 0, (List.replicate 40 0), by
    decide +kernel⟩,
  ⟨({ State.reset with ten := { unsigned := [(3, 9, [1, 2], 5)] } }.setReg (ringCfg 0) 0x10404), 3, 9, [1, 2], 5, [], by decide +kernel⟩⟩

theorem meets_ClockEvents :
    (∃ (s : State) (falling : Bool) (cycle : Fin 1025), falling = s.effB Reg.TCK_CTRL 6 ∧ s.timeSrc = 1 ∧ s.loadArmed = false ∧ s.getB
      Reg.TCK_STATUS 4 = false) ∧
    (∃ (s : State), s.timeSrc = 1 ∧ s.getB Reg.TCK_STATUS 4 = false ∧ s.tck.lastEdge.getD 0 + s.lostLimit * 3000000 ≤ s.tck.boundaries) := ⟨
  ⟨{ State.reset with bar := { eff := [(Reg.TCK_CTRL, 0x10)] } }, false, 5, by decide +kernel⟩,
  ⟨{ State.reset with bar := { eff := [(Reg.TCK_CTRL, 0x10), (Reg.TCK_PPS_CFG, 0x100)] }, tck := { boundaries := 3000000 } }, by
    decide +kernel⟩⟩

theorem meets_PortEvents :
    (∃ (s : State) (lp : Fin 32), s.lpExists lp = true) ∧
    (∃ (s : State) (lp : Fin 32) (f : Frame) (c : Qp), s.lpExists lp = true ∧ s.prt.heldOut = [f] ∧ s.qp f.qpn = some c ∧ c.egressLp =
      lp.val ∧ s.twn.yieldedAt = none) ∧
    (∃ (s : State) (lp : Fin 32) (vlan : Option (BitVec 12)) (target : Word) (mac : BitVec 48) (ip : Word), s.lpUp lp = true ∧ s.vlanOk lp
      (vlan.map BitVec.toNat) = true ∧ s.effB (lpReg Reg.PRT_LP_CFG lp) 13 = true ∧ s.effF (lpReg Reg.PRT_LP_IPV4 lp) 31 0 = target.toNat) ∧
    (∃ (s : State) (lp : Fin 32) (vlan : Option (BitVec 12)) (target : BitVec 128) (mac : BitVec 48) (ip : BitVec 128), s.lpUp lp = true ∧
      s.vlanOk lp (vlan.map BitVec.toNat) = true ∧ s.effB (lpReg Reg.PRT_LP_CFG lp) 14 = true ∧ s.lpIpv6 lp = target.toNat) ∧
    (∃ (s : State) (lp : Fin 32) (q : Fin 8) (n : BitVec 16), s.lpUp lp = true ∧ s.effB (prtReg Reg.PRT_PFC_CFG lp) q = true) ∧
    (∃ (s : State) (lp : Fin 32) (q : Fin 8), Maps.getD s.prt.pausedRx (prioKey lp q) 0 ≤ s.tck.start + s.tck.length) ∧
    (∃ (s : State) (lp : Fin 32), s.lpUp lp = true) ∧
    (∃ (s : State) (lp : Fin 32) (e : PtpEvent), s.lpUp lp = true ∧ s.effB (prtReg Reg.PRT_TS_CFG lp) 25 = false) ∧
    (∃ (s : State) (lp : Fin 32) (e : PtpEvent) (w : Nat), s.lpUp lp = true ∧ s.effB (prtReg Reg.PRT_TS_CFG lp) 25 = true ∧ s.getF (prtReg
      Reg.PRT_TS_WIDX lp) 3 0 = w) ∧
    (∃ (s : State) (lp : Fin 32), s.lpUp lp = true) ∧
    (∃ (s : State) (lp : Fin 32) (q : Fin 8) (occ : Nat), s.pausing lp q = true ∧ s.twn.yieldedAt = none ∧ min occ (ingressUnits -
      s.ingressOther lp q) ≤ s.xon lp) ∧
    (∃ (s : State) (lp : Fin 32) (q : Fin 8) (occ : Nat), s.pausing lp q = true ∧ s.twn.yieldedAt = none ∧ s.xon lp < min occ
      (ingressUnits - s.ingressOther lp q) ∧ s.repeatDue lp q = true) ∧
    (∃ (s : State) (lp : Fin 32) (cycle : Fin 1025) (f : Frame), s.lpUp lp = true ∧ s.sqr.serdesIdle = false ∧ s.chooseFrame lp cycle =
      some f) := ⟨
  ⟨{ State.reset with bar := { eff := [(Reg.PRT_MODE, 1)] } }, 0, by decide +kernel⟩,
  ⟨{ portal qp2 with bar := { eff := [(Reg.PRT_MODE, 1)] }, prt := { heldOut := [sentFrame] } }, 0, sentFrame, qp2, by decide +kernel⟩,
  ⟨(portal qp2), 0, none, 0, 1, 2, by decide +kernel⟩,
  ⟨(portal qp2), 0, none, 0, 1, 2, by decide +kernel⟩,
  ⟨{ portal qp2 with bar := { (portal qp2).bar with eff := [(prtReg Reg.PRT_PFC_CFG 0, 0xFF)] } }, 0, 3, 5, by decide +kernel⟩,
  ⟨{ portal qp2 with prt := { pausedRx := [(prioKey 0 3, 1000)] } }, 0, 3, by decide +kernel⟩,
  ⟨(portal qp2), 0, by decide +kernel⟩,
  ⟨(portal qp2), 0, { type := 0, seq := 7, cycle := 5 }, by decide +kernel⟩,
  ⟨{ portal qp2 with bar := { (portal qp2).bar with eff := [(prtReg Reg.PRT_TS_CFG 0, 0x2000000)] } }, 0,
    { type := 0, seq := 7, cycle := 5 }, 0, by decide +kernel⟩,
  ⟨(portal qp2), 0, by decide +kernel⟩,
  ⟨{ portal qp2 with prt := { pauseTx := [(prioKey 0 3, 0)] } }, 0, 3, 0, by decide +kernel⟩,
  ⟨{ portal qp2 with prt := { pauseTx := [(prioKey 0 3, 0)] }, tck := { start := 100000000 } }, 0, 3, 1000, by decide +kernel⟩,
  ⟨{ portal qp2 with prt := { egress := [(0, [sentFrame])] } }, 0, 0, sentFrame, by decide +kernel⟩⟩

theorem meets_ReceivedRequests :
    (∃ (s : State) (p : Pkt) (r : Reth) (c : Qp), Arrives s p (.read r) c ∧ Expected p c ∧ c.between = false ∧ r.len ≠ 0 ∧ r.len.toNat ≤ 2
      ^ 30 ∧ Passes s c (plainAccess r.rkey 1 r.va.toNat r.len.toNat false false) ∧ c.rdFull = false) ∧
    (∃ (s : State) (p : Pkt) (r : Reth) (c : Qp) (payload : List Byte), Arrives s p (.write .only r payload) c ∧ Expected p c ∧ c.between
      = false ∧ payload.length = r.len.toNat ∧ r.len ≠ 0 ∧ payload.length ≤ mtuBytes c.pmtu ∧ Passes s c (plainAccess r.rkey 2 r.va.toNat
      r.len.toNat false true)) ∧
    (∃ (s : State) (p : Pkt) (c : Qp) (m : OpenMsg) (e : OptEntry) (payload : List Byte), Arrives s p (.write .last
      { rkey := 0, va := 0, len := 0 } payload) c ∧ Expected p c ∧ c.sendOpen = false ∧ c.openMsg = some m ∧ payload.length = m.left ∧ 0 <
      m.left ∧ m.left ≤ mtuBytes c.pmtu ∧ (s.window m.win).state = .opened ∧ (s.window m.win).gen = m.gen ∧ Maps.find m.opt s.trn.opt =
      some e) ∧
    (∃ (s : State) (p : Pkt) (c : Qp) (k : Word) (va x y : DWord), Arrives s p (.cmpSwap k va x y) c ∧ AtomicGoes s p c k va) ∧
    (∃ (s : State) (p : Pkt) (c : Qp) (k : Word) (va x : DWord), Arrives s p (.fetchAdd k va x) c ∧ AtomicGoes s p c k va) ∧
    (∃ (s : State) (p : Pkt) (c : Qp) (k : Word) (va x : DWord), Arrives s p (.atomicWrite k va x) c ∧ AtomicGoes s p c k va) ∧
    (∃ (s : State) (p : Pkt) (c : Qp) (r : Reth) (sel placement : Byte), Arrives s p (.flush r sel placement) c ∧ Expected p c ∧ c.between
      = false ∧ sel.toNat ≤ 1 ∧ placement ≠ 0 ∧ Passes s c (plainAccess r.rkey 8 r.va.toNat r.len.toNat (sel == 1) true)) ∧
    (∃ (s : State) (p : Pkt) (c : Qp) (m : List Byte), Arrives s p (.send .only m) c ∧ Expected p c ∧ c.between = false ∧ c.sendBuf = [] ∧
      m.length ≤ mtuBytes c.pmtu ∧ headerOk m = true ∧
    (let rkey : Word := BitVec.ofNat 32 (headerField m 4 4); let d : BitVec 5 :=
      (match s.conjEntry (s.window (rkey.toNat / 256)).progId (headerField m 1 1) with | some e => BitVec.ofNat 5 (fld e 62 58) | none => 0);
      s.checkAccess c.tenant
      { rkey, rights := d ||| 16, start := headerField m 8 8, relative := true, len := headerField m 16 4, noBytes := false, home := bitOf d 1 || bitOf d 2 }
      = Code.ok) ∧ s.repeatsFor c.bond (headerField m 20 4) = [] ∧ s.optFree c.cls true = true) := ⟨
  ⟨(portal qp2), pkt, reth, qp2, (by constructor <;> decide +kernel), (by constructor <;> decide +kernel), by decide +kernel, by
    decide +kernel, by decide +kernel, by decide +kernel, by decide +kernel⟩,
  ⟨(portal qp2), pkt, reth, qp2, (List.replicate 32 7), (by constructor <;> decide +kernel), (by constructor <;> decide +kernel), by
    decide +kernel, by decide +kernel, by decide +kernel, by decide +kernel, by decide +kernel⟩,
  ⟨{ portal { qp2 with openMsg := some { opt := 5, left := 32, next := 96, win := 1, gen := 1, rkey := 0x101 } } with trn := { (portal { qp2 with openMsg := some { opt := 5, left := 32, next := 96, win := 1, gen := 1, rkey := 0x101 } }).trn with opt := [(5, { kind := .write, qpn := 2, cls := .lungo, lp := 0, tick := 0, psn := 0, win := 1, gen := 1, more := true })] } },
    pkt, { qp2 with openMsg := some { opt := 5, left := 32, next := 96, win := 1, gen := 1, rkey := 0x101 } },
    { opt := 5, left := 32, next := 96, win := 1, gen := 1, rkey := 0x101 },
    { kind := .write, qpn := 2, cls := .lungo, lp := 0, tick := 0, psn := 0, win := 1, gen := 1, more := true }, (List.replicate 32 7),
    (by constructor <;> decide +kernel), (by constructor <;> decide +kernel), by decide +kernel, by decide +kernel, by decide +kernel, by
    decide +kernel, by decide +kernel, by decide +kernel, by decide +kernel, by decide +kernel⟩,
  ⟨(portal qp2), pkt, qp2, 0x101, 64, 1, 2, (by constructor <;> decide +kernel), (⟨(by constructor <;> decide +kernel), by decide +kernel,
    by decide +kernel, by decide +kernel, rfl, by decide +kernel⟩)⟩,
  ⟨(portal qp2), pkt, qp2, 0x101, 64, 1, (by constructor <;> decide +kernel), (⟨(by constructor <;> decide +kernel), by decide +kernel, by
    decide +kernel, by decide +kernel, rfl, by decide +kernel⟩)⟩,
  ⟨(portal qp2), pkt, qp2, 0x101, 64, 1, (by constructor <;> decide +kernel), (⟨(by constructor <;> decide +kernel), by decide +kernel, by
    decide +kernel, by decide +kernel, rfl, by decide +kernel⟩)⟩,
  ⟨(portal qp2), pkt, qp2, reth, 0, 1, (by constructor <;> decide +kernel), (by constructor <;> decide +kernel), by decide +kernel, by
    decide +kernel, by decide +kernel, by decide +kernel⟩,
  ⟨(portal qp2), pkt, qp2, invoke, (by constructor <;> decide +kernel), (by constructor <;> decide +kernel), by decide +kernel, by
    decide +kernel, by decide +kernel, by decide +kernel, by decide +kernel, by decide +kernel, by decide +kernel⟩⟩

theorem meets_ReceivedAnswers :
    (∃ (s : State) (p : Pkt) (c : Qp), Arrives s p (.ack .ack) c ∧ c.state = .rts) ∧
    (∃ (s : State) (p : Pkt) (c : Qp), Arrives s p .cnp c ∧ c.cls = .ristretto) ∧
    (∃ (s : State) (p : Pkt) (c : Qp), Arrives s p .cnp c ∧ c.cls ≠ .ristretto) ∧
    (∃ (s : State) (p : Pkt) (op : Byte), s.lpUp p.lp = true ∧ s.addressed p = true) ∧
    (∃ (s : State) (p : Pkt) (op : Byte), s.lpUp p.lp = true ∧ s.addressed p = false) ∧
    (∃ (s : State) (p : Pkt) (c : Qp) (op : Byte), Arrives s p (.unsupported op) c ∧ Expected p c) := ⟨
  ⟨(portal { qp2 with state := .rts, unacked := [sentFrame, { sentFrame with psn := 1 }], ackCode := 1, retriesLeft := 3 }), pkt,
    { qp2 with state := .rts, unacked := [sentFrame, { sentFrame with psn := 1 }], ackCode := 1, retriesLeft := 3 },
    (by constructor <;> decide +kernel), by decide +kernel⟩,
  ⟨(portal { qp2 with cls := .ristretto }), pkt, { qp2 with cls := .ristretto }, (by constructor <;> decide +kernel), by decide +kernel⟩,
  ⟨(portal qp2), pkt, qp2, (by constructor <;> decide +kernel), by decide +kernel⟩,
  ⟨(portal qp2), pkt, 0x0D, by decide +kernel⟩,
  ⟨(portal qp2), { pkt with udp := 1 }, 0x0D, by decide +kernel⟩,
  ⟨(portal qp2), pkt, qp2, 0x30, (by constructor <;> decide +kernel), (by constructor <;> decide +kernel)⟩⟩

theorem meets_TransportEvents :
    (∃ (s : State) (q : BitVec 24) (c : Qp) (w occ : Nat), Maps.has s.trn.fetching q.toNat = true ∧ s.qp q = some c ∧ Maps.find q.toNat
      s.trn.installs = some (qpSet q, w) ∧ s.inMiss q = false) ∧
    (∃ (s : State) (i : BitVec 24), Maps.has s.win.fetching i.toNat = true ∧ (∀ e ∈ s.prt.miss, e.2 = [])) ∧
    (∃ (s : State), s.getB Reg.TRN_STATUS 0 = false) ∧
    (∃ (s : State), s.getB Reg.WIN_STATUS 0 = false) ∧
    (∃ (s : State) (q : BitVec 24) (c : Qp) (f : Frame) (rest : List Frame), s.qp q = some c ∧ c.unacked = f :: rest ∧ c.state = .rts ∧
      c.ackCode ≠ 0 ∧ c.rnrUntil = none ∧ ackTicks c.ackCode ≤ s.now - c.sentTick ∧ c.retriesLeft ≠ 0) ∧
    (∃ (s : State) (q : BitVec 24) (c : Qp) (at' : Nat) (psn : BitVec 24), s.qp q = some c ∧ c.rnrUntil = some (at', psn) ∧ at' ≤ s.now) ∧
    (∃ (s : State) (q : BitVec 24) (c : Qp), s.qp q = some c ∧ s.isPaced c = true ∧ c.rate ≠ 256 ∧ max 1 (s.effF Reg.TRN_CC_CFG2 15 0) ≤
      s.now - c.rateTick) ∧
    (∃ (s : State) (q : BitVec 24) (c : Qp) (f : Frame) (fs : List Frame), s.qp q = some c ∧ Maps.find q.toNat s.trn.paceq = some (f ::
      fs) ∧ c.paceAt ≤ s.tck.start ∧ s.twn.yieldedAt = none ∧ s.lpUp c.egressLp = true) := ⟨
  ⟨{ portal qp2 with trn := { qps := [(2, qp2)], fetching := [(2, true)], installs := [(2, (2, 0))] } }, 2, qp2, 0, 0, by decide +kernel⟩,
  ⟨{ portal qp2 with win := { (portal qp2).win with pinStore := [], fetching := [(1, true)] } }, 1, by decide +kernel⟩,
  ⟨State.reset, by decide +kernel⟩,
  ⟨State.reset, by decide +kernel⟩,
  ⟨{ portal { qp2 with state := .rts, unacked := [sentFrame, { sentFrame with psn := 1 }], ackCode := 1, retriesLeft := 3 } with tck := { tick := 5000000 } },
    2, { qp2 with state := .rts, unacked := [sentFrame, { sentFrame with psn := 1 }], ackCode := 1, retriesLeft := 3 }, sentFrame,
    [{ sentFrame with psn := 1 }], by decide +kernel⟩,
  ⟨(portal { qp2 with state := .rts, rnrUntil := some (0, 0), unacked := [sentFrame] }), 2,
    { qp2 with state := .rts, rnrUntil := some (0, 0), unacked := [sentFrame] }, 0, 0, by decide +kernel⟩,
  ⟨{ portal { qp2 with rate := 100 } with bar := { eff := [(Reg.TRN_CTRL, 2), (Reg.TRN_CC_CFG, 0x10000000)] }, tck := { tick := 1000000 } },
    2, { qp2 with rate := 100 }, by decide +kernel⟩,
  ⟨{ portal qp2 with trn := { (portal qp2).trn with paceq := [(2, [sentFrame])] } }, 2, qp2, sentFrame, [], by decide +kernel⟩⟩

theorem meets_StagerEvents :
    (∃ (s : State) (c : Fin 8) (k id : Nat) (r : Request) (p : Pour) (st j tl : Nat), (List.range 8).find? (fun k => (s.chan c
      k).tile.isNone && !(s.chan c k).halted) = some k ∧ s.getB Reg.STG_STATUS 16 = true ∧ s.fillWinner ((s.fillAsks c).filter (fun x =>
      s.quotaAllows x.2)) = some (id, r) ∧ r.pour = some p ∧ s.nextFill id r = some (st, j) ∧ s.takeTile c (r.cls == .ristretto) = some tl
      ∧ (∀ l ∈ linesOf (s.fillTile id r (tileSrc p st j) st j).base (s.fillTile id r (tileSrc p st j) st j).len, Maps.has s.med.poison l =
      false)) ∧
    (∃ (s : State) (c k : Fin 8) (tl : Nat) (x : Tile) (r : Request), (s.chan c k).tile = some tl ∧ (s.chan c k).halted = false ∧
      s.fillPending tl = false ∧ Maps.find tl s.stg.tiles = some x ∧ x.orphan = false ∧ x.freeing = false ∧ Maps.find x.req s.cle.reqs =
      some r) ∧
    (∃ (s : State) (c k : Fin 8) (tl : Nat) (x : Tile) (r : Request) (code : Byte), (s.chan c k).tile = some tl ∧ (s.chan c k).halted =
      false ∧ s.fillPending tl = false ∧ Maps.find tl s.stg.tiles = some x ∧ x.state = .filling ∧ x.orphan = false ∧ x.freeing = false ∧
      Maps.find x.req s.cle.reqs = some r) ∧
    (∃ (s : State) (req : Nat) (r : Request) (k since : Nat) (p : Pour), Maps.find req s.cle.reqs = some r ∧ r.st = .waiting (.stage k)
      since ∧ r.pour = some p ∧ s.effF Reg.STG_LATE_LIMIT 23 0 ≠ 0 ∧ since + s.effF Reg.STG_LATE_LIMIT 23 0 ≤ s.now + 1 ∧ p.resident k =
      false) ∧
    (∃ (s : State) (c k cause source : Fin 8) (pna : BitVec 48) (tl : Nat) (x : Tile), (cause.val = 1 ∨ cause.val = 2) ∧ source.val ≤ 4 ∧
      (s.chan c k).tile = some tl ∧ (s.chan c k).halted = false ∧ Maps.find tl s.stg.tiles = some x) ∧
    (∃ (s : State) (c k : Fin 8), (s.chan c k).halted = true ∧ (s.chan c k).resume = true ∧ s.frameDue = true ∧ (s.chan c k).halts <
      s.haltLimit) := ⟨
  ⟨pourer, 0, 0, 0, { req with pour := some { stages := [{ tiles := [{ off := 64, zero := false }] }] } },
    { stages := [{ tiles := [{ off := 64, zero := false }] }] }, 0, 0, 0, by decide +kernel⟩,
  ⟨(filling poured), 0, 0, 5, incoming, poured, by decide +kernel⟩,
  ⟨(filling poured), 0, 0, 5, incoming, poured, 0x12, by decide +kernel⟩,
  ⟨{ filling late with bar := { eff := [(Reg.STG_LATE_LIMIT, 5)] }, tck := { tick := 100, boundaries := 100 } }, 0, late, 0, 0,
    { stages := [{ tiles := [{ off := 64, zero := false }] }] }, by decide +kernel⟩,
  ⟨(filling poured), 0, 0, 1, 2, 5, 5, incoming, by decide +kernel⟩,
  ⟨{ State.reset with stg := { channels := [(0, { halted := true, resume := true, halts := 1 })] }, tck := { tick := 2999 } }, 0, 0, by
    decide +kernel⟩⟩

theorem meets_MediaFlits :
    (∃ (s : State) (m : Fin 16) (flit : List Byte), (s.link m).state ≠ 0 ∧ (s.link m).state ≠ 4 ∧ flitOk flit = false) ∧
    (∃ (s : State) (m : Fin 16) (flit : List Byte), (s.link m).state ≠ 0 ∧ (s.link m).state ≠ 4 ∧ flitOk flit = true ∧ flitType flit = 1 ∧
      flitSeq flit = (s.link m).rxSeq ∧ slice flit 8 240 = List.replicate 240 0) ∧
    (∃ (s : State) (m : Fin 16) (flit : List Byte) (tag : BitVec 10), (s.link m).state ≠ 0 ∧ (s.link m).state ≠ 4 ∧ flitOk flit = true ∧
      flitType flit = 1 ∧ flitSeq flit = (s.link m).rxSeq ∧ slice flit 8 240 = leBytes (0x82 + tag.toNat * 256) 8 ++ List.replicate 232 0) ∧
    (∃ (s : State) (m : Fin 16) (first : List FlitRec) (f : FlitRec) (rest : List FlitRec), (s.link m).unacked = first ++ f :: rest ∧ (∀ e
      ∈ first, e.seq ≠ f.seq) ∧ (s.link m).held = []) ∧
    (∃ (s : State) (m : Fin 16) (first : List FlitRec) (f : FlitRec) (rest : List FlitRec), (s.link m).state = 2 ∧ (s.link m).unacked =
      first ++ f :: rest ∧ (∀ e ∈ first, e.seq ≠ f.seq) ∧ (∀ e ∈ f :: rest, e.replays < 7)) ∧
    (∃ (s : State) (m : Fin 16), (s.link m).rxUnacked ≠ 0) ∧
    (∃ (s : State) (m : Fin 16), (s.link m).state = 2 ∧ (s.link m).heard < s.tck.boundaries) ∧
    (∃ (s : State) (m : Fin 16), (s.link m).state = 3 ∧ s.tck.boundaries ≤ (s.link m).downAt + 48 ∧ (s.link m).held = []) ∧
    (∃ (s : State) (m : Fin 16), (s.link m).state = 3 ∧ (s.link m).downAt + 48 ≤ s.tck.boundaries) := ⟨
  ⟨(linked link2), 0, (List.replicate 256 1), by decide +kernel⟩,
  ⟨(linked link2), 0, ackedFlit, by decide +kernel⟩,
  ⟨(linked { link2 with trans := [(5, { trans := .fix 2 })] }), 0, cnfFlit, 5, by decide +kernel⟩,
  ⟨(linked { link2 with unacked := [flit0, flit1] }), 0, [flit0], flit1, [], by decide +kernel⟩,
  ⟨(linked { link2 with unacked := [flit0, flit1] }), 0, [flit0], flit1, [], by decide +kernel⟩,
  ⟨(linked { link2 with rxUnacked := 3 }), 0, by decide +kernel⟩,
  ⟨(linked link2), 0, by decide +kernel⟩,
  ⟨(linked { link2 with state := 3, downAt := 60 }), 0, by decide +kernel⟩,
  ⟨(linked { link2 with state := 3, downAt := 52 }), 0, by decide +kernel⟩⟩

theorem meets_MediaReplies :
    (∃ (s : State) (m : Fin 16) (tag : BitVec 10) (raw : List Byte) (x : MSentRec) (line : Nat), Answers s m tag x ∧ x.trans = .rd line
      none ∧ (s.link m).held = [] ∧ checkLine raw x.address = .clean) ∧
    (∃ (s : State) (m : Fin 16) (tag : BitVec 10) (raw : List Byte) (x : MSentRec) (line bits : Nat), Answers s m tag x ∧ x.trans = .rd
      line none ∧ (s.link m).held = [] ∧ checkLine raw x.address = .corrected bits ∧ bits < s.medWbBits) ∧
    (∃ (s : State) (m : Fin 16) (tag : BitVec 10) (raw : List Byte) (x : MSentRec) (line bits : Nat), Answers s m tag x ∧ x.trans = .rd
      line none ∧ Maps.has s.med.rewritten line = false ∧ checkLine raw x.address = .corrected bits ∧ s.medWbBits ≤ bits) ∧
    (∃ (s : State) (m : Fin 16) (tag : BitVec 10) (raw : List Byte) (x : MSentRec) (line : Nat), Answers s m tag x ∧ x.trans = .rd line
      none ∧ checkLine raw x.address = .uncorrectable) ∧
    (∃ (s : State) (m : Fin 16) (tag : BitVec 10) (x : MSentRec) (line : Nat) (q : BitVec 24) (w : Nat) (mirror : Bool), Answers s m tag x
      ∧ x.trans = .wr line q w mirror ∧ (s.link m).held = [] ∧ x.line.length = 88) ∧
    (∃ (s : State) (m : Fin 16) (tag : BitVec 10) (reason : BitVec 6) (x : MSentRec) (line id : Nat) (r : Request), Answers s m tag x ∧
      x.trans = .rd line (some id) ∧ Maps.find id s.cle.reqs = some r ∧ r.st ≠ .ended ∧ r.rest = none) ∧
    (∃ (s : State) (m : Fin 16) (tag : BitVec 10) (reason : BitVec 6) (x : MSentRec) (line : Nat) (q : BitVec 24) (w : Nat) (mirror :
      Bool), Answers s m tag x ∧ x.trans = .wr line q w mirror ∧ Maps.getD (s.link m).errs tag.toNat 0 < 2 ∧ (s.link m).state = 2 ∧
      (s.link m).held = [] ∧ (s.link m).unacked.length < 64 ∧ s.sqr.serdesIdle = false ∧ s.slotsTaken (46 + m) < 64 ∧ (∀ e, s.regionOf
      line = some e → (s.region e.1 e.2.1).moving = false)) ∧
    (∃ (s : State) (m : Fin 16) (tag : BitVec 10) (reason : BitVec 6) (x : MSentRec) (line : Nat) (q : BitVec 24) (w : Nat) (mirror :
      Bool), Answers s m tag x ∧ x.trans = .wr line q w mirror ∧ 2 ≤ Maps.getD (s.link m).errs tag.toNat 0) ∧
    (∃ (s : State) (m : Fin 16) (tag : BitVec 10) (w : DWord) (x : MSentRec), Answers s m tag x ∧ x.trans = .cfgrd 0 ∧ (s.link m).held =
      [] ∧ refuseOf w = 0) ∧
    (∃ (s : State) (m : Fin 16) (tag : BitVec 10) (w : DWord) (x : MSentRec), Answers s m tag x ∧ x.trans = .cfgrd 0 ∧ (s.link m).held =
      [] ∧ refuseOf w ≠ 0) ∧
    (∃ (s : State) (m : Fin 16) (tag : BitVec 10) (cnt : BitVec 6) (raw : List Byte) (reason : BitVec 6) (w : DWord), (s.link
      m).discarding = false ∧ Maps.find tag.toNat (s.link m).trans = none ∧ (s.link m).state ≠ 4) ∧
    (∃ (s : State) (m : Fin 16) (tag : BitVec 10) (cnt : BitVec 6) (raw : List Byte) (reason : BitVec 6) (w : DWord), (s.link
      m).discarding = true) := ⟨
  ⟨(asked (.rd 2 none)), 0, 5, (rawLine 0), (sent5 (.rd 2 none)), 2, by decide +kernel⟩,
  ⟨{ asked (.rd 2 none) with bar := { eff := [(Reg.MED_SCRUB_CFG, 0x300)] } }, 0, 5, (rawLine 1), (sent5 (.rd 2 none)), 2, 1, by
    decide +kernel⟩,
  ⟨(asked (.rd 2 none)), 0, 5, (rawLine 3), (sent5 (.rd 2 none)), 2, 2, by decide +kernel⟩,
  ⟨(asked (.rd 2 none)), 0, 5, (rawLine 7), (sent5 (.rd 2 none)), 2, by decide +kernel⟩,
  ⟨(asked (.wr 2 2 1 false)), 0, 5, (sent5 (.wr 2 2 1 false)), 2, 2, 1, false, by decide +kernel⟩,
  ⟨{ strand req 0 with med := (asked (.rd 2 (some 0))).med }, 0, 5, 1, (sent5 (.rd 2 (some 0))), 2, 0, req, by decide +kernel⟩,
  ⟨(linked { link2 with trans := [(5, sent5 (.wr 2 2 1 false))], errs := [(5, 1)] }), 0, 5, 1, (sent5 (.wr 2 2 1 false)), 2, 2, 1, false,
    by decide +kernel, by decide +kernel, by decide +kernel, by decide +kernel, by decide +kernel, by decide +kernel, by decide +kernel,
    by decide +kernel, fun e h => by cases (by decide +kernel : (linked
    { link2 with trans := [(5, sent5 (.wr 2 2 1 false))], errs := [(5, 1)] }).regionOf 2 = some (0, 0, 2)).symm.trans h; decide +kernel⟩,
  ⟨(linked { link2 with trans := [(5, sent5 (.wr 2 2 1 false))], errs := [(5, 2)] }), 0, 5, 1, (sent5 (.wr 2 2 1 false)), 2, 2, 1, false,
    by decide +kernel⟩,
  ⟨(linked { link2 with state := 1, idRead := true, trans := [(5, sent5 (.cfgrd 0))] }), 0, 5, 0x4002000107, (sent5 (.cfgrd 0)), by
    decide +kernel⟩,
  ⟨(linked { link2 with state := 1, trans := [(5, sent5 (.cfgrd 0))] }), 0, 5, 0, (sent5 (.cfgrd 0)), by decide +kernel⟩,
  ⟨(linked link2), 0, 5, 0, [], 0, 0, by decide +kernel⟩,
  ⟨(linked { link2 with discarding := true }), 0, 5, 0, [], 0, 0, by decide +kernel⟩⟩

theorem meets_MediaUpkeep :
    (∃ (s : State) (line : BitVec 42) (x : RepairRec), Maps.find line.toNat s.med.repairs = some x ∧ x.asked = false ∧ s.newest line.toNat
      = none ∧ s.groundsOk 12 = true ∧ s.twn.yieldedAt = none) ∧
    (∃ (s : State) (line : BitVec 42) (raw : List Byte), s.med.repairServed.contains line.toNat = true ∧ s.newest line.toNat = none ∧
      s.groundsOk 12 = true ∧ s.twn.yieldedAt = none) ∧
    (∃ (s : State) (line : BitVec 42) (r : ReplyRec) (x : RepairRec) (d : List Byte), s.twn.replies.find? (fun r => r.line == line.toNat)
      = some r ∧ Maps.find line.toNat s.med.repairs = some x ∧ x.asked = true ∧ x.written = false ∧ s.nandRepair line.toNat = false ∧
      r.data = some d ∧ d.length = 64) ∧
    (∃ (s : State) (m : Fin 16) (r : Fin 512), (s.region m r).moving = false ∧ s.gapInterval ≤ (s.region m r).writes ∧ s.metaRegions ≤
      r.val ∧ (s.region m r).moves < s.recordEvery) ∧
    (∃ (s : State) (m : Fin 16) (r : Fin 512), s.recordEvery ≤ (s.region m r).moves) ∧
    (∃ (s : State) (m : Fin 16) (f : Nat), s.effB Reg.MED_CTRL 0 = true ∧ (s.link m).state = 2 ∧ s.groundsOk 10 = true ∧ s.med.scrubFrom ≤
      s.now ∧ s.scrubFrame m = some f) ∧
    (∃ (s : State) (m : Fin 16), s.effB Reg.MED_CTRL 0 = true ∧ (s.link m).state = 2 ∧ s.groundsOk 10 = true ∧ s.med.scrubFrom ≤ s.now ∧
      s.scrubFrame m = none ∧ (∀ k, k < 16 → k ≠ m.val → (s.link k).state = 2 → stackFrames ≤ Maps.getD s.med.scrubNext k 0)) := ⟨
  ⟨{ paired grounded with med := { (paired grounded).med with repairs := [(2, {})] } }, 2, {}, by decide +kernel⟩,
  ⟨{ paired grounded with med := { (paired grounded).med with repairServed := [2], store := [(128, 1)], epochs := [(2, 3)] } }, 2,
    (storedBytes (List.replicate 64 0) 0 3), by decide +kernel⟩,
  ⟨{ paired grounded with med := { (paired grounded).med with repairs := [(2, { asked := true })] }, twn := { (paired grounded).twn with replies := [{ line := 2, data := some (List.replicate 64 9), epoch := 3 }] } },
    2, { line := 2, data := some (List.replicate 64 9), epoch := 3 }, { asked := true }, (List.replicate 64 9), by decide +kernel⟩,
  ⟨{ linked link2 with med := { (linked link2).med with regions := [(5, { writes := 100000 })] } }, 0, 5, by decide +kernel⟩,
  ⟨{ linked link2 with med := { (linked link2).med with regions := [(5, { gap := 4, moves := 100000 })] } }, 0, 5, by decide +kernel⟩,
  ⟨{ linked link2 with cle := grounded.cle, bar := { eff := [(Reg.MED_CTRL, 7)] } }, 0, 0, by decide +kernel⟩,
  ⟨{ linked link2 with cle := grounded.cle, bar := { eff := [(Reg.MED_CTRL, 7)] }, med := { links := [(0, link2)], scrubNext := [(0, 1)] } },
    0, by decide +kernel⟩⟩

theorem meets_PlacementEvents :
    (∃ (s : State) (e : PbEntry), s.dur.pb.find? (fun e => !e.mirror && !(e.issued && e.shipped) && !e.placed && !Maps.has s.dur.inflight
      (e.line / 32768)) = some e) ∧
    (∃ (s : State) (e : PbEntry) (m f : Nat), s.dur.pb.find? (fun e => !e.mirror && !(e.issued && e.shipped) && !e.placed && !Maps.has
      s.dur.inflight (e.line / 32768)) = none ∧ s.dur.pb.find? (fun e => s.issuable e || s.shippable e) = some e ∧ s.issuable e = true ∧
      s.shippable e = false ∧ e.intent = none ∧ Maps.find (e.line / 256) s.win.pages = some (.scm m f)) ∧
    (∃ (s : State) (e : PbEntry), s.dur.pb.find? (fun e => !e.mirror && !(e.issued && e.shipped) && !e.placed && !Maps.has s.dur.inflight
      (e.line / 32768)) = none ∧ s.dur.pb.find? (fun e => s.issuable e || s.shippable e) = some e ∧ s.issuable e = false ∧ s.shippable e =
      true ∧ s.twn.switchDue = none) ∧
    (∃ (s : State) (e : BitVec 27) (g quiet : Nat), Maps.find e.toNat s.dur.inflight = some (g, quiet) ∧ 2 ≤ quiet ∧ s.unmirrored e.toNat
      = false ∧ (∀ x, s.extent e.toNat = some x → x.pinCount = 0)) ∧
    (∃ (s : State) (q : BitVec 24) (c : Qp) (id : Nat) (r : Request), s.qp q = some c ∧ s.cle.reqs.filter (fun e => e.2.qpn == q) = [(id,
      r)] ∧ (∃ f ∈ r.fences, f.done = false ∧ wseqGe (durableFront s.dur.solo c) f.target = true) ∧ (∀ f ∈ r.fences, f.done = false →
      wseqGe (durableFront s.dur.solo c) f.target = true → c.covers s.dur.solo f.target = true)) ∧
    (∃ (s : State) (q : BitVec 24) (c : Qp) (id : Nat) (r : Request), s.qp q = some c ∧ s.cle.reqs.filter (fun e => e.2.qpn == q) = [(id,
      r)] ∧ (∃ f ∈ r.fences, f.done = false ∧ wseqGe (durableFront s.dur.solo c) f.target = true) ∧ (∀ f ∈ r.fences, f.done = false →
      wseqGe (durableFront s.dur.solo c) f.target = true → c.covers s.dur.solo f.target = false)) ∧
    (∃ (s : State) (req : Nat) (r : Request) (since : Nat) (f : FenceRec), Maps.find req s.cle.reqs = some r ∧ s.pairState = 2 ∧ s.effF
      Reg.TWN_FLUSH_LIMIT 23 0 ≠ 0 ∧ r.st = .waiting .fence since ∧ f ∈ r.fences ∧ f.done = false ∧ max f.tick s.twn.holdAt + s.effF
      Reg.TWN_FLUSH_LIMIT 23 0 ≤ s.now) ∧
    (∃ (s : State) (k : BitVec 14) (x : Intent), Maps.find k.toNat s.dur.intents = some x ∧ x.headed = false ∧ x.lines.length ≤ x.images ∧
      x.fromTwin = false ∧ x.shipped = false ∧ s.mirroring = true ∧ s.twn.yieldedAt = none ∧ s.twn.shipped + x.lines.length ≤
      s.twn.credit) ∧
    (∃ (s : State) (k : BitVec 14) (x : Intent), Maps.find k.toNat s.dur.intents = some x ∧ x.headed = false ∧ x.lines.length ≤ x.images ∧
      (x.fromTwin = true ∨ s.mirroring = false ∨ s.twn.credit < s.twn.shipped + x.lines.length)) ∧
    (∃ (s : State) (k : BitVec 14) (x : Intent) (line : Nat) (d : List Byte) (m f : Nat), Maps.find k.toNat s.dur.intents = some x ∧
      x.valid = true ∧ x.homing = false ∧ (x.twinDone = true ∨ x.fromTwin = true ∨ s.dur.solo = true) ∧ s.earlierWaits k.toNat x = false ∧
      x.lines = [(line, d)] ∧ Maps.find (line / 256) s.win.pages = some (.scm m f)) ∧
    (∃ (s : State) (g : Nat) (rest : List Nat), s.dur.journalPlaced = g :: rest ∧ (∀ h ∈ s.dur.journalOpen, g ≤ h)) := ⟨
  ⟨(buffered entry []), entry, by decide +kernel⟩,
  ⟨(buffered entry [(0, (1, 0))]), entry, 0, 0, by decide +kernel⟩,
  ⟨{ (paired (buffered entry [(0, (1, 0))])) with dur := { (paired (buffered entry [(0, (1, 0))])).dur with pb := [{ entry with issued := true }] } },
    { entry with issued := true }, by decide +kernel⟩,
  ⟨{ served with dur := { inflight := [(0, (1, 2))] } }, 0, 1, 2, by decide +kernel⟩,
  ⟨(fenced { qp2 with acc := 5, plc := 5, mir := 5 }), 2, { qp2 with acc := 5, plc := 5, mir := 5 }, 0, fencing, by decide +kernel⟩,
  ⟨(fenced { qp2 with acc := 5, plc := 5, mir := 5, xcheck := [(5, 2, 1, 1)] }), 2,
    { qp2 with acc := 5, plc := 5, mir := 5, xcheck := [(5, 2, 1, 1)] }, 0, fencing, by decide +kernel⟩,
  ⟨({ fenced qp2 with bar := { eff := [(Reg.TWN_FLUSH_LIMIT, 5)] }, tck := { tick := 100 } }.setF Reg.TWN_STATUS 31 29 2), 0, fencing, 0,
    { target := 5, tick := 0 }, by decide +kernel⟩,
  ⟨(paired (slotted intent0)), 0, intent0, by decide +kernel⟩,
  ⟨(slotted intent0), 0, intent0, by decide +kernel⟩,
  ⟨(slotted { intent0 with valid := true, twinDone := true }), 0, { intent0 with valid := true, twinDone := true }, 2, (List.replicate 64
    9), 0, 0, by decide +kernel⟩,
  ⟨{ served with dur := { journalPlaced := [4, 6], journalOpen := [5], groups := [(4, [(4, 1), (5, 2)])] } }, 4, [6], by decide +kernel⟩⟩

theorem meets_DramRequests :
    (∃ (s : State) (ch : Fin 6) (slot : Fin 64) (r : DramReq) (l : Nat), Alone s ch r l ∧ r.write = false ∧ (s.dram ch).rq.length < 64 ∧
      (∀ e ∈ (s.dram ch).wq, e.line ≠ l / 128)) ∧
    (∃ (s : State) (ch : Fin 6) (slot : Fin 64) (r : DramReq) (l : Nat), Alone s ch r l ∧ r.write = true ∧ r.mask = 0xFFFF ∧ r.port ≠ 11 ∧
      (s.dram ch).wq.length + (s.dram ch).merging.length < 128 ∧ (∀ e ∈ (s.dram ch).wq, e.line ≠ l / 128)) ∧
    (∃ (s : State) (ch : Fin 6) (slot : Fin 64) (r : DramReq) (l : Nat) (e : DramReqRec), Alone s ch r l ∧ r.write = false ∧ (s.dram
      ch).wq.find? (fun e => e.line == l / 128) = some e) ∧
    (∃ (s : State) (ch : Fin 6) (slot : Fin 64) (nb : Bool) (p : Nat) (r : DramReqRec) (ws : List DWord), s.slotsTaken (40 + ch) ≤
      slot.val ∧ (s.dramDrain ch).dramGrant ch slot = some p ∧ ((s.dramDrain ch).dramCandidates ch).filter (fun r => r.port == p) = [r] ∧
      r.cls < 4 ∧ r.write = false ∧ Maps.find (r.addr / 128) s.drc.lines = some ws) ∧
    (∃ (s : State) (ch : Fin 6) (slot : Fin 64) (nb : Bool) (p : Nat) (r : DramReqRec), s.slotsTaken (40 + ch) ≤ slot.val ∧ (s.dramDrain
      ch).dramGrant ch slot = some p ∧ ((s.dramDrain ch).dramCandidates ch).filter (fun r => r.port == p) = [r] ∧ r.cls < 4 ∧ r.write =
      true) ∧
    (∃ (s : State) (ch : Fin 6) (slot : Fin 64) (nb : Bool), slot.val < s.slotsTaken (40 + ch)) ∧
    (∃ (s : State) (ch : Fin 6) (wrong : List (BitVec 80)) (r : DramReqRec) (rest : List DramReqRec), s.frozen = false ∧ (s.dram
      ch).inflight = r :: rest ∧ r.mask ≠ 0 ∧ (∀ w ∈ wrong, wordErr w ≠ .ue) ∧ bitsCorrected wrong < Nat.max 1 (s.effF Reg.DRC_SCRUB_CFG
      15 8)) ∧
    (∃ (s : State) (ch : Fin 6) (wrong : List (BitVec 80)) (r : DramReqRec) (rest : List DramReqRec) (w : Nat), s.frozen = false ∧ (s.dram
      ch).inflight = r :: rest ∧ (List.range wrong.length).find? (fun i => wordErr (wrong.getD i 0) == .ue) = some w) := ⟨
  ⟨(dramUp { state := 2 }), 0, 0, dramRead, 0, by decide +kernel⟩,
  ⟨(dramUp { state := 2 }), 0, 0, dramWrite, 0, by decide +kernel⟩,
  ⟨(dramUp { state := 2, wq := [dramRec true] }), 0, 0, dramRead, 0, (dramRec true), by decide +kernel⟩,
  ⟨{ dramUp { state := 2, rq := [dramRec false] } with drc := { (dramUp { state := 2, rq := [dramRec false] }).drc with lines := [(0, List.replicate 16 6)] } },
    0, 1, false, 3, (dramRec false), (List.replicate 16 6), by decide +kernel⟩,
  ⟨(dramUp { state := 2, wq := [dramRec true] }), 0, 1, true, 3, (dramRec true), by decide +kernel⟩,
  ⟨{ dramUp { state := 2 } with tck := { slotUsed := [(40, 5)] } }, 0, 3, false, by decide +kernel⟩,
  ⟨{ dramUp { state := 2, inflight := [{ dramRec false with words := List.replicate 16 6 }] } with bar := { eff := [(Reg.DRC_SCRUB_CFG, 0x300)] } },
    0, [0, 1], { dramRec false with words := List.replicate 16 6 }, [], by decide +kernel, by decide +kernel, by decide +kernel,
    (by intro w hw; simp at hw; rcases hw with rfl | rfl <;> decide +kernel), by decide +kernel⟩,
  ⟨(dramUp { state := 2, inflight := [dramRec false] }), 0, [0, 7], (dramRec false), [], 1, by decide +kernel⟩⟩

theorem meets_DramUpkeep :
    (∃ (s : State) (ch : Fin 6) (slot : Fin 64), s.slotsTaken (40 + ch) ≤ slot.val ∧ s.dramGrant ch slot = some 12 ∧ 0 < (s.dram ch).owed
      ∧ ((s.dram ch).state = 2 ∨ (s.dram ch).state = 4) ∧ (s.neighbourOwed ch = false ∨ s.refreshFirst ch = true)) ∧
    (∃ (s : State) (ch : Fin 6) (slot : Fin 64) (bank row : Nat) (rest : List (Nat × Nat)), s.slotsTaken (40 + ch) ≤ slot.val ∧
      s.dramGrant ch slot = some 12 ∧ s.frozen = false ∧ (s.dram ch).state = 2 ∧ s.refreshFirst ch = false ∧ (s.dram ch).nr = (bank, row)
      :: rest) ∧
    (∃ (s : State) (ch : Fin 6) (rank : Fin 2), (s.dram ch).state = 2 ∧ Maps.getD (s.dram ch).zq rank 0 + 384000 ≤ s.now) ∧
    (∃ (s : State) (ch : Fin 6) (bank : Fin 64) (cycle : Fin 1025), s.frozen = false ∧ Maps.getD (s.dram ch).lastUse bank 0 + 8 * Nat.max
      1 (s.effF Reg.DRC_SCHED_CFG 15 8) ≤ s.tck.start + cycle.val) ∧
    (∃ (s : State) (c l : Nat), s.effB Reg.DRC_CTRL 1 = true ∧ s.frozen = false ∧ s.drc.scrubFrom ≤ s.now ∧ s.drc.scrubNext * 128 <
      s.dramBytes ∧ s.drc.scrubNext * 128 < 2 ^ 40 ∧ dramMap s.drc.grain (s.drc.scrubNext * 128) = (c, l)) ∧
    (∃ (s : State) (ch : Fin 6) (port : Fin 12) (cls : Fin 4) (addr : BitVec 40), s.effB Reg.DRC_CTRL 0 = true ∧ s.frozen = false) := ⟨
  ⟨(dramUp { state := 2, owed := 3 }), 0, 2, by decide +kernel⟩,
  ⟨(dramUp { state := 2, nr := [(3, 9)] }), 0, 2, 3, 9, [], by decide +kernel⟩,
  ⟨{ dramUp { state := 2 } with tck := { tick := 400000 } }, 0, 1, by decide +kernel⟩,
  ⟨{ dramUp { state := 2, openRows := [(3, 1), (4, 2)] } with tck := { start := 1000000 } }, 0, 3, 1024, by decide +kernel⟩,
  ⟨{ dramUp { state := 2 } with bar := { eff := [(Reg.DRC_CTRL, 3)] } }, 0, 0, by decide +kernel⟩,
  ⟨{ dramUp { state := 2 } with bar := { eff := [(Reg.DRC_CTRL, 3)] } }, 0, 1, 1, 1000, by decide +kernel⟩⟩

theorem meets_PageMovement :
    (∃ (s : State) (page tp : Nat), Destages s ∧ (stillDraining s).destagePick = some page ∧ s.freeTpn = some tp) ∧
    (∃ (s : State) (page : Nat), Destages s ∧ (stillDraining s).destagePick = some page ∧ s.freeTpn = none) ∧
    (∃ (s : State) (page : BitVec 34) (d : DestageRec), Maps.find page.toNat s.med.destages = some d ∧ (d.written = true ∨ s.destageDone d
      = true)) ∧
    (∃ (s : State) (p : Nat) (d : DestageRec) (loc : PageLoc) (sb start : Nat), d.switch = true ∧ Maps.find p s.win.pages = some loc ∧
      d.handed = some (sb, start) ∧ d.written = false ∧ s.unpinned p = true) ∧
    (∃ (s : State) (p : Nat) (d : DestageRec), d.switch = true ∧ (d.written = true ∨ s.unpinned p = false)) ∧
    (∃ (s : State) (page : BitVec 34), s.med.promoteWant.contains page.toNat = true ∧ Maps.has s.med.promotes page.toNat = false ∧
      s.inNand page.toNat = true ∧ s.groundsOk 9 = true ∧ s.rawFree ≠ 0 ∧ (s.poolFree ≠ 0 ∨ s.win.reserved.contains page.toNat = true) ∧
      (s.promoteKept page.toNat = true ∨ s.pastQuota ((s.pageTenant page.toNat).getD 0) 1 = false) ∧ Maps.has s.ntl.staged page.toNat =
      false) ∧
    (∃ (s : State) (page : BitVec 34) (x : PromoteRec), Maps.find page.toNat s.med.promotes = some x ∧ x.left = 0) ∧
    (∃ (s : State) (p : Nat) (x : PromoteRec) (tp : Nat), x.switch = true ∧ Maps.find p s.win.pages = some (.nand tp)) := ⟨
  ⟨{ grounded with bar := { eff := [(Reg.MED_CTRL, 7)] }, med := { grounded.med with destaging := true, links := [(0, { state := 2, credits := 64, frames := [(0, (0, 0))] })] }, ntl := { state := 2, tpns := 8 }, tck := { tick := 10000000000 } },
    0, 0, by decide +kernel⟩,
  ⟨{ grounded with bar := { eff := [(Reg.MED_CTRL, 7)] }, med := { grounded.med with destaging := true, links := [(0, { state := 2, credits := 64, frames := [(0, (0, 0))] })] }, ntl := { state := 2, tpns := 0 }, tck := { tick := 10000000000 } },
    0, by decide +kernel⟩,
  ⟨{ tiered sb0 with med := { destages := [(0, { tpn := 3, written := true })] } }, 0, { tpn := 3, written := true }, by decide +kernel⟩,
  ⟨{ tiered sb0 with win := { (tiered sb0).win with pages := [(0, .scm 0 0)] } }, 0, { tpn := 3, handed := some (0, 0), switch := true },
    (.scm 0 0), 0, 0, by decide +kernel⟩,
  ⟨{ tiered sb0 with win := { (tiered sb0).win with pages := [(0, .scm 0 0)] } }, 0,
    { tpn := 3, handed := some (0, 0), switch := true, written := true }, by decide +kernel⟩,
  ⟨{ tiered sb0 with med := { links := [(0, { state := 2, credits := 64 })], promoteWant := [0] } }, 0, by decide +kernel⟩,
  ⟨{ tiered sb0 with med := { promotes := [(0, { stack := 0, frame := 4, left := 0 })] } }, 0, { stack := 0, frame := 4, left := 0 }, by
    decide +kernel⟩,
  ⟨(tiered sb0), 0, { stack := 0, frame := 4, left := 0, switch := true }, 0, by decide +kernel⟩⟩

theorem meets_NandDevices :
    (∃ (s : State) (page : BitVec 35) (steps : NandSteps) (evict : Bool) (record : List Byte), s.med.nandReads.any (fun e => e.1 ==
      page.toNat && e.2.stages) = true ∧ (s.nandLoc page.toNat).isSome = true ∧ s.nandIssued (.read page.toNat) = true ∧ s.recordOk
      page.toNat record = true ∧ s.ntl.copyWant = [] ∧ Undisturbed s page.toNat ∧ ((s.stepsTaken page.toNat steps).rebuild = 0 ∨
      s.beyondParity page.toNat = false)) ∧
    (∃ (s : State) (page : BitVec 35) (steps : NandSteps) (evict : Bool) (id : Nat) (r : Request) (out : NandOutcome), page.toNat < 2 ^ 34
      ∧ WaitsAlone s page.toNat id r ∧ (out = .lost ∨ (∃ record, out = .read record ∧ s.recordOk page.toNat record = false)) ∧ (s.nandLoc
      page.toNat).isSome = true ∧ s.effB Reg.MED_CTRL 2 = true ∧ s.pairState = 1 ∧ 0 < s.poolFree ∧ Maps.find page.toNat s.med.promotes =
      none) ∧
    (∃ (s : State) (page : BitVec 35) (steps : NandSteps) (evict : Bool) (id : Nat) (r : Request), WaitsAlone s page.toNat id r ∧
      (s.nandLoc page.toNat).isSome = true ∧ (s.die (s.pageDie page.toNat)).streak + 1 < 8) ∧
    (∃ (s : State) (page : BitVec 35) (id : Nat) (r : Request), WaitsAlone s page.toNat id r) ∧
    (∃ (s : State) (sb : BitVec 22) (page : BitVec 17) (x : NandSbRec), Maps.find sb.toNat s.ntl.sbs = some x ∧ x.issued page.toNat = true
      ∧ Maps.has x.progs page.toNat = false ∧ x.dies ≠ [] ∧ s.nandIssued (.prog sb.toNat page.toNat) = true ∧ (s.die (x.dieOf
      page.toNat)).suspended = false) ∧
    (∃ (s : State) (sb : BitVec 22) (page : BitVec 17) (x : NandSbRec) (d : Nat), Maps.find sb.toNat s.ntl.sbs = some x ∧ x.issued
      page.toNat = true ∧ Maps.has x.progs page.toNat = false ∧ x.dies ≠ [] ∧ s.nandIssued (.prog sb.toNat page.toNat) = true ∧ x.dieOf
      page.toNat = d ∧ (s.die d).suspended = false ∧ (s.die d).streak + 1 < 8) ∧
    (∃ (s : State) (sb : BitVec 22) (x : NandSbRec), Maps.find sb.toNat s.ntl.sbs = some x ∧ x.erasing = true ∧ s.nandIssued (.erase
      sb.toNat) = true ∧ (∀ d ∈ x.dies, (s.die d).suspended = false)) ∧
    (∃ (s : State) (die : BitVec 10), s.effB Reg.NTL_CTRL 2 = true ∧ s.dieBusy die.toNat = true ∧ (s.die die.toNat).suspended = false ∧
      (s.die die.toNat).suspends < 16 ∧ s.readStarves die.toNat = true) ∧
    (∃ (s : State) (die : BitVec 10), s.allDies.contains die.toNat = true ∧ (s.die die.toNat).failed = false) := ⟨
  ⟨nandWaits, 0, nandSteps, false, (nandWaits.dataRecord 0 0 1), by decide +kernel, by decide +kernel, by decide +kernel,
    recordOk_dataRecord (s := nandWaits) (e := { sb := 0, start := 0, page := 0 }) (x := sb0) rfl rfl rfl (by decide +kernel) rfl, by
    decide +kernel, undisturbed (e := { sb := 0, start := 0, page := 0 }) (x := sb0) (by decide +kernel) (by decide +kernel)
    (by decide +kernel) (by decide +kernel), .inr (by decide +kernel)⟩,
  ⟨{ paired nandWaits with med := { nandWaits.med with links := [(0, { state := 2, credits := 64 })] } }, 0, nandSteps, false, 0, req,
    .lost, by decide +kernel, ⟨rfl, by decide +kernel, rfl, by decide +kernel, rfl⟩, .inl rfl, by decide +kernel, by decide +kernel, by
    decide +kernel, by decide +kernel, by decide +kernel⟩,
  ⟨nandWaits, 0, nandSteps, false, 0, req, by decide +kernel⟩,
  ⟨nandWaits, 0, 0, req, by decide +kernel⟩,
  ⟨{ tiered ({ sb0 with cws := 40 }) with ntl := { (tiered ({ sb0 with cws := 40 })).ntl with ops := [{ ch := 0, requester := 2, job := .prog 0 0, issued := true }] } },
    0, 0, { sb0 with cws := 40 }, by decide +kernel⟩,
  ⟨{ tiered ({ sb0 with cws := 40 }) with ntl := { (tiered ({ sb0 with cws := 40 })).ntl with ops := [{ ch := 0, requester := 2, job := .prog 0 0, issued := true }], dies := [(0, { spares := 5 })] } },
    0, 0, { sb0 with cws := 40 }, 0, by decide +kernel⟩,
  ⟨{ tiered ({ sb0 with closed := true, erasing := true, victim := true }) with ntl := { (tiered ({ sb0 with closed := true, erasing := true, victim := true })).ntl with ops := [{ ch := 0, requester := 2, job := .erase 0, issued := true }] } },
    0, { sb0 with closed := true, erasing := true, victim := true }, by decide +kernel⟩,
  ⟨{ tiered sb0 with ntl := { (tiered sb0).ntl with ops := [{ ch := 0, requester := 2, job := .prog 0 0, issued := true }, { ch := 0, requester := 0, job := .read 0 }] } },
    0, by decide +kernel⟩,
  ⟨(tiered sb0), 0, by decide +kernel⟩⟩

theorem meets_NandHousekeeping :
    (∃ (s : State) (sb : BitVec 22) (x : NandSbRec), Maps.find sb.toNat s.ntl.sbs = some x ∧ x.closed = false ∧ x.cws % Nat.max 1 x.rowCws
      ≠ 0 ∧ x.rowOld (Nat.max 1 (s.effF Reg.NTL_GC_CFG 23 16)) s.frameNow = true) ∧
    (∃ (s : State) (sb : Nat) (x : NandSbRec), s.ntl.state = 2 ∧ (3 * s.slcLimit < 4 * s.slcUsed ∨ s.ntl.lastDestage + 1 < s.frameNow) ∧
      Idle s sb x ∧ leastSb (fun e => e.2.seq) (s.ntl.sbs.filter (fun e => e.2.stream == 0 && e.2.closed && !e.2.victim)) = some (sb, x) ∧
      s.validRecs sb = []) ∧
    (∃ (s : State) (sb : Nat) (x : NandSbRec), s.ntl.state = 2 ∧ s.streamFree 1 < Nat.max 1 (s.effF Reg.NTL_GC_CFG 7 0) ∧ Idle s sb x ∧
      leastSb (fun e => (s.validRecs e.1).length * 2 ^ 64 + e.2.seq) (s.ntl.sbs.filter (fun e => (e.2.stream == 1 || e.2.stream == 2) &&
      e.2.closed && !e.2.victim && e.2.recs.any (fun r => !s.recValid e.1 r))) = some (sb, x) ∧ s.validRecs sb = []) ∧
    (∃ (s : State) (sb : Nat) (x : NandSbRec), s.ntl.state = 2 ∧ s.effB Reg.NTL_CTRL 1 = true ∧ Idle s sb x ∧ leastSb (fun e => Maps.getD
      s.ntl.erases e.1 0) (s.ntl.sbs.filter (fun e => (e.2.stream == 1 || e.2.stream == 2) && e.2.closed && !e.2.victim &&
      s.ntl.erases.any (fun y => y.1 / 65536 == e.1 / 65536 && !inSlc s y.1 && decide (Maps.getD s.ntl.erases e.1 0 + s.effF
      Reg.NTL_WEAR_CFG 15 0 < y.2)))) = some (sb, x) ∧ s.validRecs sb = []) ∧
    (∃ (s : State) (page : BitVec 35) (steps : NandSteps) (evict : Bool) (record : List Byte) (e : NandLocRec) (w : NandWantRec) (r :
      NandRec) (tp p nsb : Nat) (x : NandSbRec), s.med.nandReads.filter (fun y => y.1 == page.toNat) = [(page.toNat, .copy w.requester)] ∧
      s.nandIssued (.read page.toNat) = true ∧ (s.nandLoc page.toNat).isSome = true ∧ s.readLoc page.toNat = some e ∧ s.recordOk
      page.toNat record = true ∧ ((s.stepsTaken page.toNat steps).rebuild = 0 ∨ s.beyondParity page.toNat = false) ∧ Undisturbed s
      page.toNat ∧ s.ntl.copyWant = [w] ∧ w.sb = e.sb ∧ w.start = e.start ∧ (s.validRecs w.sb).find? (fun r => r.start == w.start) = some
      r ∧ r.kind = .data tp p ∧ s.ntl.moves = [] ∧ Maps.has s.ntl.map tp = true ∧ s.openSb w.stream = some (nsb, x) ∧ s.sbRoom x = true) ∧
    (∃ (s : State) (tp : Nat) (e : NandLocRec), s.ntl.state = 2 ∧ s.effB Reg.NTL_CTRL 0 = true ∧ s.ntl.scanFrom ≤ s.now ∧ s.groundsOk 10 =
      true ∧ s.sqr.tierShut = false ∧ s.ntl.map.find? (fun e => decide (s.ntl.scanNext ≤ e.1)) = some (tp, e) ∧ s.med.nandReads.contains
      (e.page, .scan) = false) ∧
    (∃ (s : State), s.ntl.state = 2 ∧ s.ntl.ckptDue = false ∧ Nat.max 1 (s.effF Reg.NTL_CKPT_CFG 15 0) ≤ s.ntl.destaged ∧ s.groundsOk 11 =
      true ∧ s.sqr.tierShut = false ∧ s.ntl.rootGroup = none ∧ s.ntl.changed = [] ∧ s.ntl.newSegments = []) ∧
    (∃ (s : State) (g : Nat), s.ntl.rootGroup = some g ∧ s.dur.journalOpen.contains g = false) ∧
    (∃ (s : State) (n : Nat) (loc : Nat × Nat) (v : State) (x : NandSbRec), s.ntl.state = 2 ∧ s.ntl.ckptDue = false ∧ Nat.max 1 (s.effF
      Reg.NTL_CKPT_CFG 15 0) ≤ s.ntl.destaged ∧ s.groundsOk 11 = true ∧ s.sqr.tierShut = false ∧ s.ntl.rootGroup = none ∧ s.ntl.changed =
      [(n, true)] ∧ s.ntl.newSegments = [] ∧ (s.startWork 11).layOut 5 3 (.segment n) ((s.startWork 11).segmentRecord n) = (some loc, v) ∧
      Maps.find loc.1 v.ntl.sbs = some x ∧ x.protects loc.2 19 = false) ∧
    (∃ (s : State) (sb : Nat) (x : NandSbRec) (tp p st : Nat) (bytes : List Byte) (e : NandLocRec), s.ntl.state = 2 ∧ (3 * s.slcLimit < 4
      * s.slcUsed ∨ s.ntl.lastDestage + 1 < s.frameNow) ∧ Idle s sb x ∧ leastSb (fun e => e.2.seq) (s.ntl.sbs.filter (fun e => e.2.stream
      == 0 && e.2.closed && !e.2.victim)) = some (sb, x) ∧ s.validRecs sb = [{ kind := .data tp p, start := st, bytes }] ∧ Maps.has
      s.ntl.map tp = true ∧ s.nandLoc p = some e ∧ e.sb = sb ∧ e.start = st ∧ s.med.nandReads.contains (p, .copy 3) = false) ∧
    (∃ (s : State) (sb : Nat) (x : NandSbRec) (tp p st : Nat) (bytes : List Byte) (e : NandLocRec), s.ntl.state = 2 ∧ s.streamFree 1 <
      Nat.max 1 (s.effF Reg.NTL_GC_CFG 7 0) ∧ Idle s sb x ∧ leastSb (fun e => (s.validRecs e.1).length * 2 ^ 64 + e.2.seq)
      (s.ntl.sbs.filter (fun e => (e.2.stream == 1 || e.2.stream == 2) && e.2.closed && !e.2.victim && e.2.recs.any (fun r => !s.recValid
      e.1 r))) = some (sb, x) ∧ s.validRecs sb = [{ kind := .data tp p, start := st, bytes }] ∧ Maps.has s.ntl.map tp = true ∧ s.nandLoc p
      = some e ∧ e.sb = sb ∧ e.start = st ∧ s.med.nandReads.contains (p, .copy 4) = false) ∧
    (∃ (s : State) (sb : Nat) (x : NandSbRec) (tp p st : Nat) (bytes : List Byte) (e : NandLocRec), s.ntl.state = 2 ∧ s.effB Reg.NTL_CTRL
      1 = true ∧ Idle s sb x ∧ leastSb (fun e => Maps.getD s.ntl.erases e.1 0) (s.ntl.sbs.filter (fun e => (e.2.stream == 1 || e.2.stream
      == 2) && e.2.closed && !e.2.victim && s.ntl.erases.any (fun y => y.1 / 65536 == e.1 / 65536 && !inSlc s y.1 && decide (Maps.getD
      s.ntl.erases e.1 0 + s.effF Reg.NTL_WEAR_CFG 15 0 < y.2)))) = some (sb, x) ∧ s.validRecs sb =
      [{ kind := .data tp p, start := st, bytes }] ∧ Maps.has s.ntl.map tp = true ∧ s.nandLoc p = some e ∧ e.sb = sb ∧ e.start = st ∧
      s.med.nandReads.contains (p, .copy 4) = false) := ⟨
  ⟨(tiered { sb0 with rowFrame := some (1, 0) }), 0, { sb0 with rowFrame := some (1, 0) }, by decide +kernel⟩,
  ⟨(tiered { { sb0 with closed := true, recs := [{ kind := .filler, start := 0 }] } with stream := 0 }), 0,
    { { sb0 with closed := true, recs := [{ kind := .filler, start := 0 }] } with stream := 0 }, by decide +kernel⟩,
  ⟨(tiered ({ sb0 with closed := true, recs := [{ kind := .filler, start := 0 }] })), 0,
    { sb0 with closed := true, recs := [{ kind := .filler, start := 0 }] }, by decide +kernel⟩,
  ⟨{ tiered ({ sb0 with closed := true, recs := [{ kind := .filler, start := 0 }] }) with ntl := { (tiered ({ sb0 with closed := true, recs := [{ kind := .filler, start := 0 }] })).ntl with erases := [(1, 100000)] } },
    0, { sb0 with closed := true, recs := [{ kind := .filler, start := 0 }] }, by decide +kernel⟩,
  ⟨copying, 0, nandSteps, false, (copying.dataRecord 0 0 1), { sb := 0, start := 0, page := 0 },
    { requester := 4, stream := 2, sb := 0, start := 0 }, { kind := .data 0 0, start := 0 }, 0, 0, 5,
    { stream := 2, seq := 2, dies := [0, 64] }, by decide +kernel, by decide +kernel, by decide +kernel, by decide +kernel,
    recordOk_dataRecord (s := copying) (e := { sb := 0, start := 0, page := 0 }) (x := { sb0 with closed := true, victim := true }) rfl
    rfl rfl (by decide +kernel) rfl, .inr (by decide +kernel), undisturbed (e := { sb := 0, start := 0, page := 0 }) (x :=
    { sb0 with closed := true, victim := true }) (by decide +kernel) (by decide +kernel) (by decide +kernel) (by decide +kernel), by
    decide +kernel, by decide +kernel, by decide +kernel, by decide +kernel, by decide +kernel, by decide +kernel, by decide +kernel, by
    decide +kernel, by decide +kernel⟩,
  ⟨(tiered sb0), 0, { sb := 0, start := 0, page := 0 }, by decide +kernel⟩,
  ⟨{ tiered sb0 with ntl := { (tiered sb0).ntl with destaged := 5, seq := 7 } }, by decide +kernel⟩,
  ⟨{ tiered sb0 with ntl := { (tiered sb0).ntl with rootGroup := some 4, newSegments := [(0, (2, 0))] } }, 4, by decide +kernel⟩,
  ⟨ck, 0, ((((ck.startWork 11).layOut 5 3 (.segment 0) ((ck.startWork 11).segmentRecord 0)).1.getD (0, 0))), (((ck.startWork 11).layOut 5
    3 (.segment 0) ((ck.startWork 11).segmentRecord 0)).2), ((((ck.startWork 11).layOut 5 3 (.segment 0) ((ck.startWork 11).segmentRecord
    0)).2.ntl.sbs.findSome? (fun e => if e.1 = 2 then some e.2 else none)).getD sb0), by decide +kernel⟩,
  ⟨(tiered
    { { sb0 with closed := true, recs := [{ kind := .filler, start := 19 }, { kind := .data 0 0, start := 0 }] } with stream := 0 }), 0,
    { { sb0 with closed := true, recs := [{ kind := .filler, start := 19 }, { kind := .data 0 0, start := 0 }] } with stream := 0 }, 0, 0,
    0, [], { sb := 0, start := 0, page := 0 }, by decide +kernel⟩,
  ⟨(tiered ({ sb0 with closed := true, recs := [{ kind := .filler, start := 19 }, { kind := .data 0 0, start := 0 }] })), 0,
    { sb0 with closed := true, recs := [{ kind := .filler, start := 19 }, { kind := .data 0 0, start := 0 }] }, 0, 0, 0, [],
    { sb := 0, start := 0, page := 0 }, by decide +kernel⟩,
  ⟨{ tiered ({ sb0 with closed := true, recs := [{ kind := .filler, start := 19 }, { kind := .data 0 0, start := 0 }] }) with ntl := { (tiered ({ sb0 with closed := true, recs := [{ kind := .filler, start := 19 }, { kind := .data 0 0, start := 0 }] })).ntl with erases := [(1, 100000)] } },
    0, { sb0 with closed := true, recs := [{ kind := .filler, start := 19 }, { kind := .data 0 0, start := 0 }] }, 0, 0, 0, [],
    { sb := 0, start := 0, page := 0 }, by decide +kernel⟩⟩

theorem meets_TwinFrames :
    (∃ (s : State) (h : TwinHead), h.crcOk = false) ∧
    (∃ (s : State) (h : TwinHead), h.crcOk = true ∧ h.seq ≠ (s.bundle h.one).rxSeq) ∧
    (∃ (s : State) (h : TwinHead) (runs : List MirrorRun) (ep : Word) (cls : Fin 4), InOrder s h) ∧
    (∃ (s : State) (a : ArrivedRec) (l : Nat × Nat × List Byte), s.twn.arrived = [a] ∧ a.lines = [l] ∧ a.intent = none ∧ Homed s l) ∧
    (∃ (s : State) (a : ArrivedRec) (l : Nat × Nat × List Byte), s.twn.arrived = [a] ∧ a.lines = [l] ∧ s.holdsFor (l.1 / 32768) l.2.1 =
      false) ∧
    (∃ (s : State) (e : BitVec 27) (a : ArrivedRec) (l : Nat × Nat × List Byte), s.twn.heldLines = [a] ∧ a.lines = [l] ∧ a.intent = none ∧
      l.1 / 32768 = e.toNat ∧ Homed s l) ∧
    (∃ (s : State) (h : TwinHead) (one : Bool) (seq : Nat) (l : Nat × BitVec 24 × Nat) (free : Nat), InOrder s h ∧ Maps.find (frameName
      one seq) s.twn.sentFrames = some [l] ∧ NoSlotWaits s) ∧
    (∃ (s : State) (h : TwinHead) (o : OutcomeBody), InOrder s h) ∧
    (∃ (s : State) (h : TwinHead) (slot : BitVec 14) (ls : List TwinLine) (ep : Word), InOrder s h) ∧
    (∃ (s : State) (a : ArrivedRec) (l : Nat × Nat × List Byte) (p k : Nat), s.twn.arrived = [a] ∧ a.lines = [l] ∧ a.intent = some p ∧
      Homed s l ∧ Maps.lowestFree s.dur.intents 16384 = some k) ∧
    (∃ (s : State) (h : TwinHead) (sb : Bool) (ep : Word) (dr hd : Bool), InOrder s h ∧ (s.pairState = 1 ∨ s.pairState = 2) ∧ s.getB
      Reg.TWN_STATUS 20 = false) ∧
    (∃ (s : State) (h : TwinHead) (sb : Bool) (ep : Word) (dr hd : Bool), h.crcOk = true ∧ h.seq = (s.bundle h.one).rxSeq ∧
      s.twn.giveupAt.isSome = true) ∧
    (∃ (s : State) (h : TwinHead) (sb : Bool) (r : DWord), InOrder s h ∧ s.pairState = 4) ∧
    (∃ (s : State) (h : TwinHead) (sb : Bool), InOrder s h ∧ s.twn.gap = true ∧ sb = s.sideB) ∧
    (∃ (s : State) (h : TwinHead) (e : BitVec 27) (tn : BitVec 12) (sb : Bool) (pc : Nat), InOrder s h) ∧
    (∃ (s : State) (h : TwinHead), InOrder s h) := ⟨
  ⟨(inPair 1 bothUp), { twinHead with crcOk := false }, by decide +kernel⟩,
  ⟨(inPair 1 bothUp), { twinHead with seq := 5 }, by decide +kernel⟩,
  ⟨(inPair 1 bothUp), twinHead, [⟨0x410, [List.replicate 64 9, List.replicate 64 8]⟩], 0, 1, by decide +kernel⟩,
  ⟨(inPair 1 { bothUp with arrived := [arrivedRec homedLine] }), (arrivedRec homedLine), homedLine, by decide +kernel, by decide +kernel,
    by decide +kernel, ⟨by decide +kernel, 0, 0, by decide +kernel⟩⟩,
  ⟨(inPair 1 { bothUp with arrived := [arrivedRec strayLine] }), (arrivedRec strayLine), strayLine, by decide +kernel⟩,
  ⟨(inPair 1 { bothUp with heldLines := [arrivedRec homedLine] }), 0, (arrivedRec homedLine), homedLine, by decide +kernel, by
    decide +kernel, by decide +kernel, by decide +kernel, ⟨by decide +kernel, 0, 0, by decide +kernel⟩⟩,
  ⟨{ inPair 1 { bothUp with sentFrames := [(frameName false 3, [(2, 2, 1)])] } with dur := { pb := [entry] } }, twinHead, false, 3, ((2,
    2, 1)), 50, by decide +kernel⟩,
  ⟨(inPair 1 bothUp), twinHead, outcomeBody, by decide +kernel⟩,
  ⟨(inPair 1 bothUp), twinHead, 4, [twinLine], 0, by decide +kernel⟩,
  ⟨(inPair 1 { bothUp with arrived := [{ arrivedRec homedLine with intent := some 4 }] }), { arrivedRec homedLine with intent := some 4 },
    homedLine, 4, 0, by decide +kernel, by decide +kernel, by decide +kernel, ⟨by decide +kernel, 0, 0, by decide +kernel⟩, by
    decide +kernel⟩,
  ⟨(inPair 1 bothUp), twinHead, false, 0, false, false, by decide +kernel⟩,
  ⟨(inPair 5 { bothUp with giveupAt := some 0, yieldedAt := some 0 }), twinHead, true, 0, false, false, by decide +kernel⟩,
  ⟨(inPair 4 bothUp), twinHead, false, 5000, by decide +kernel⟩,
  ⟨(inPair 1 { bothUp with gap := true, switchLeft := 2 }), twinHead, false, by decide +kernel⟩,
  ⟨(inPair 6 bothUp), twinHead, 5, 1, false, 0, by decide +kernel⟩,
  ⟨(inPair 6 bothUp), twinHead, by decide +kernel⟩⟩

theorem meets_TwinLinkUpkeep :
    (∃ (s : State) (one : Bool) (seq : Nat), (s.bundle one).unacked.any (fun r => r.seq == seq) = true ∧ (s.bundle one).held = []) ∧
    (∃ (s : State) (one ue : Bool), (s.bundle one).up = true ∧ (s.bundle (!one)).up = true ∧ (ue = true ∨ (s.bundle one).heard +
      s.silentTicks ≤ s.now + 1 ∨ (∃ r ∈ (s.bundle one).unacked, 8 ≤ r.replays)) ∧ s.dur.solo = false) ∧
    (∃ (s : State) (one : Bool), (s.bundle one).up = true ∧ (s.bundle (!one)).up = false ∧ s.twn.sbSilent = false ∧ s.pairState = 1 ∧
      s.dur.solo = false) ∧
    (∃ (s : State), s.pairState = 1 ∧ s.linkUp = false) ∧
    (∃ (s : State) (one : Bool) (v : Nat), (s.bundle one).validSince = some v ∧ (s.bundle one).up = false ∧ (one && s.sqr.twl1) = false ∧
      Nat.max v (s.bundle one).downAt + 64 ≤ s.now + 1) ∧
    (∃ (s : State), s.pairState = 2 ∧ s.linkUp = true) ∧
    (∃ (s : State), s.twn.yieldedAt = none ∧ s.linkUp = true ∧ (s.twn.hbSent = none ∨ s.twn.hbSentTick + 2 ≤ s.now)) ∧
    (∃ (s : State) (one : Bool) (hb : TwinHb), s.sec.startup = 5 ∧ NoSlotWaits s) ∧
    (∃ (s : State) (held : Nat), held < 64) ∧
    (∃ (s : State) (held : Nat), 64 ≤ held ∧ s.now - s.twn.sbLast ≤ 2) ∧
    (∃ (s : State) (held : Nat), 64 ≤ held ∧ 12 ≤ s.now - s.twn.sbLast ∧ s.now - s.twn.sbLast ≤ 20 ∧ 1 ≤ s.twn.sbRun ∧ s.getB
      Reg.TWN_STATUS 24 = false ∧ s.getB Reg.TWN_STATUS 20 = false ∧ s.pairState = 1) ∧
    (∃ (s : State), s.twn.sbSilent = false ∧ s.twn.sbLast + 600 < s.now ∧ s.linkUp = true) ∧
    (∃ (s : State), s.twn.sbSilent = false ∧ s.twn.sbLast + 600 < s.now ∧ s.linkUp = false ∧ s.getB Reg.TWN_STATUS 19 = false ∧ s.getB
      Reg.TWN_STATUS 20 = false ∧ s.pairState = 2) := ⟨
  ⟨(inPair 1
    { bothUp with bundle0 := { up := true, unacked := [{ seq := 2, replays := 0, frame := .metaEnd }, { seq := 3, replays := 0, frame := .copyEnd }] } }),
    false, 2, by decide +kernel⟩,
  ⟨(inPair 1 { bothUp with bundle0 := { up := true, unacked := [{ seq := 2, replays := 0, frame := .metaEnd }] } }), false, true, by
    decide +kernel⟩,
  ⟨(inPair 1 { bundle0 := { up := true, unacked := [{ seq := 2, replays := 0, frame := .metaEnd }] }, sbSilent := false }), false, by
    decide +kernel⟩,
  ⟨(inPair 1 {}), by decide +kernel⟩,
  ⟨{ inPair 2 { bundle1 := { validSince := some 5 }, silentAt := some 1 } with tck := { tick := 100 } }, true, 5, by decide +kernel⟩,
  ⟨(inPair 2 bothUp), by decide +kernel⟩,
  ⟨(inPair 1 bothUp), by decide +kernel⟩,
  ⟨{ inPair 1 bothUp with sec := { startup := 5 } }, true, (twinHb 1), by decide +kernel⟩,
  ⟨(inPair 1 bothUp), 63, by decide +kernel⟩,
  ⟨(inPair 1 { bothUp with sbRun := 1 }), 64, by decide +kernel⟩,
  ⟨{ inPair 1 { bothUp with sbRun := 1, sbSilent := false } with tck := { tick := 15 } }, 70, by decide +kernel⟩,
  ⟨{ inPair 1 { bothUp with sbSilent := false } with tck := { tick := 700 } }, by decide +kernel⟩,
  ⟨{ inPair 2 { sbSilent := false } with tck := { tick := 700 } }, by decide +kernel⟩⟩

theorem meets_RoleChanges :
    (∃ (s : State), s.twn.yieldDue = true ∧ s.twn.yieldedAt = none ∧ s.inRun = true) ∧
    (∃ (s : State) (d : DrillRec), s.twn.drill = some d ∧ d.stopped = true ∧ s.twn.yieldedAt = none ∧ (∀ e ∈ s.dur.pb, e.mirror = true ∨
      e.mirrored = true)) ∧
    (∃ (s : State) (drill hold : Bool), s.twn.yieldedAt = none) ∧
    (∃ (s : State) (k : Nat), s.twn.takeoverDue = some k) ∧
    (∃ (s : State), (s.pairState = 1 ∨ s.pairState = 2) ∧ s.getB Reg.TWN_STATUS 20 = false) ∧
    (∃ (s : State) (tt g : Nat), s.twn.takeover = some (tt, g) ∧ s.dur.journalOpen.contains g = false) ∧
    (∃ (s : State) (tt g : Nat), s.twn.takeover = some (tt, g)) ∧
    (∃ (s : State) (tt : Nat), s.twn.silentAt = some tt ∧ s.pairState = 2 ∧ s.effB Reg.TWN_CTRL 0 = true ∧ tt + s.soloDelay ≤ s.now + 1) ∧
    (∃ (s : State) (tt : Nat), s.twn.silentAt = some tt ∧ s.pairState = 2) ∧
    (∃ (s : State), s.frameDue = true ∧ s.resyncDue = true ∧ (s.pairState = 6 ∨ s.groundsOk 12 = true)) ∧
    (∃ (s : State) (ask : Bool) (marked : List Nat), s.linkUp = true ∧ s.twn.resync = none ∧ s.pairState = 4 ∧ s.twn.asked = some (ask,
      marked) ∧ s.twinState = 6) ∧
    (∃ (s : State), s.pairState = 6 ∧ s.twn.metaIn = true ∧ s.getB Reg.TWN_RESYNC_STATUS 27 = false) ∧
    (∃ (s : State), s.pairState = 6 ∧ s.getB Reg.TWN_RESYNC_STATUS 27 = true ∧ s.twn.copyIn = true ∧ s.twn.copyDone = false ∧
      s.copyPending = false) ∧
    (∃ (s : State), s.pairState = 6 ∧ s.twn.copyDone = true ∧ s.twn.reclaim = none ∧ s.frameDue = true ∧ s.effB Reg.TWN_CTRL 2 = false ∧
      s.twn.yieldedAt = none) ∧
    (∃ (s : State) (b : Bool) (n : Nat), s.twn.reclaim = some (b, n) ∧ n ≤ s.nextTick ∧ (s.pairState = 4 ∨ s.pairState = 6)) ∧
    (∃ (s : State) (b : Bool) (n : Nat), s.twn.reclaim = some (b, n) ∧ (s.pairState = 4 ∨ s.pairState = 6)) ∧
    (∃ (s : State), s.twn.gap = true ∧ s.twn.switchLeft = 0 ∧ s.twn.arrived = [] ∧ s.missQps = []) ∧
    (∃ (s : State), s.sec.startup = 4 ∧ s.sec.stopped = false ∧ s.twn.hb = none ∧ s.effB Reg.TWN_CTRL 1 = true ∧ s.twn.waitFrom + Nat.max
      1 (s.effF Reg.TWN_LINK_CFG 23 16) * 3000000 ≤ s.now + 1) ∧
    (∃ (s : State) (r : RoleRec), s.roleDue = true ∧ s.twn.hb = none ∧ s.effB Reg.TWN_CTRL 1 = true ∧ s.twn.role = some r ∧ r.state = 1) ∧
    (∃ (s : State) (one : Bool) (hb : TwinHb), s.sec.startup = 4) ∧
    (∃ (s : State) (r : RoleRec) (hb : TwinHb), s.roleDue = true ∧ s.twn.hb = some hb ∧ s.twn.role = some r ∧ r.state = 1 ∧ hb.pairId =
      r.pairId ∧ (hb.state = 1 ∨ hb.state = 2 ∨ hb.state = 3)) ∧
    (∃ (s : State), s.frameDue = true ∧ 999 ≤ s.twn.skew ∧ s.summaryDiffers = true ∧ s.pairState = 1 ∧ s.getB Reg.TWN_STATUS 18 = false) := ⟨
  ⟨{ inPair 1 { bothUp with yieldDue := true } with sec := { startup := 5 } }, by decide +kernel⟩,
  ⟨(inPair 1 { bothUp with drill := some { sideB := false, hold := true, ring := 1, tag := 7, stopped := true } }),
    { sideB := false, hold := true, ring := 1, tag := 7, stopped := true }, by decide +kernel⟩,
  ⟨{ inPair 1 bothUp with cle := { reqs := [(0, { req with st := .waiting .media 0 })] } }, true, false, by decide +kernel⟩,
  ⟨(inPair 1 { bothUp with takeoverDue := some 3 }), 3, by decide +kernel⟩,
  ⟨(inPair 1 bothUp), by decide +kernel⟩,
  ⟨(inPair 4 { bothUp with takeover := some (0, 4) }), 0, 4, by decide +kernel⟩,
  ⟨{ inPair 4 { bothUp with takeover := some (10, 4) } with tck := { tick := 90 } }, 10, 4, by decide +kernel⟩,
  ⟨(soloOn (inPair 2 { silentAt := some 5 })), 5, by decide +kernel⟩,
  ⟨(inPair 2 { silentAt := some 5 }), 5, by decide +kernel⟩,
  ⟨(soloOn (inPair 6 { bothUp with hb := some (twinHb 4) })), by decide +kernel⟩,
  ⟨(inPair 4 { bothUp with asked := some (false, [0]), hb := some (twinHb 6) }), false, [0], by decide +kernel⟩,
  ⟨(inPair 6
    { bothUp with metaIn := true, metaTenants := [(1, { scmQuota := 5 })], metaExtents := [(0, { tenant := 1 })], metaWindows := [(1, window1)] }),
    by decide +kernel⟩,
  ⟨((inPair 6 { bothUp with copyIn := true }).setB Reg.TWN_RESYNC_STATUS 27 true), by decide +kernel⟩,
  ⟨{ inPair 6 { bothUp with copyDone := true } with tck := { tick := 2999 } }, by decide +kernel⟩,
  ⟨(inPair 4 { bothUp with reclaim := some (false, 0) }), false, 0, by decide +kernel⟩,
  ⟨(inPair 6 { bothUp with reclaim := some (true, 1) }), true, 1, by decide +kernel⟩,
  ⟨(inPair 1 { bothUp with gap := true }), by decide +kernel⟩,
  ⟨{ soloOn { inPair 0 {} with sec := { startup := 4 } } with tck := { tick := 3000000000, boundaries := 3000000000 } }, by
    decide +kernel⟩,
  ⟨(deciding { role := some role1 }), role1, by decide +kernel⟩,
  ⟨{ inPair 0 bothUp with sec := { startup := 4 } }, false, (twinHb 1), by decide +kernel⟩,
  ⟨(deciding { bothUp with role := some role1, hb := some (twinHb 1) }), role1, (twinHb 1), by decide +kernel⟩,
  ⟨{ inPair 1 { bothUp with hb := some { twinHb 1 with tenants := 9 }, skew := 999 } with tck := { tick := 2999 } }, by decide +kernel⟩⟩

theorem meets_FaultsAndStartup :
    (∃ (s : State) (code : BitVec 8) (source : BitVec 12), s.integ.reports = [] ∧ faultLevel code.toNat = 1) ∧
    (∃ (s : State) (code : BitVec 8) (source : BitVec 12), s.integ.reports = [] ∧ faultLevel code.toNat = 2 ∧ s.twn.yieldedAt = none) ∧
    (∃ (s : State) (code : BitVec 8) (source : BitVec 12), s.integ.reports = [] ∧ faultLevel code.toNat = 3 ∧ s.twn.yieldedAt = none ∧
      s.inRun = true ∧ s.reg Reg.INT_FIRST_FAULT = 0) ∧
    (∃ (s : State) (id : BitVec 12) (wrong : BitVec 80) (item : Nat) (dirty : Bool), s.integ.reports = [] ∧ wordErr wrong = .ce) ∧
    (∃ (s : State) (p : BitVec 10), s.getB Reg.INT_CTRL 0 = true ∧ s.integ.scrubFrom ≤ s.now) ∧
    (∃ (s : State) (p : BitVec 10), s.getB Reg.INT_CTRL 0 = true ∧ s.integ.scrubFrom ≤ s.now) ∧
    (∃ (s : State), s.debug = 2 ∧ sramId (s.getF Reg.INT_INJECT 11 0) = true ∧ s.getF Reg.INT_INJECT 11 0 ≠ 0x071) ∧
    (∃ (s : State), s.debug = 0) ∧
    (∃ (s : State) (f : BistFail), s.sqr.mrst = false ∧ s.slotGood 1 = true ∧ s.sec.startup = 1 ∧ s.sec.stopped = false) ∧
    (∃ (s : State) (present trained : BitVec 16) (chans : BitVec 6) (c : Fin 6), s.sqr.mrst = false ∧ s.slotGood 1 = true ∧ s.sec.startup
      = 2 ∧ s.sec.stopped = false ∧ s.dimmRow = true) ∧
    (∃ (s : State) (present trained : BitVec 16) (dimms : Bool) (chans : BitVec 6) (c : Fin 6), s.sqr.mrst = false ∧ s.slotGood 1 = true ∧
      s.sec.startup = 2 ∧ s.sec.stopped = false ∧ (s.dimmRow = false ∨ dimms = false)) ∧
    (∃ (s : State) (dies : Option NandGeom), s.sqr.mrst = false ∧ s.slotGood 1 = true ∧ s.sec.startup = 2 ∧ s.sec.stopped = false ∧
      s.memoriesUp = true ∧ (∀ e ∈ s.med.links, e.2.foreign = false) ∧ s.dur.intents.length < 2 ^ 27) ∧
    (∃ (s : State) (sp wd : Fin 16), s.sqr.mrst = false ∧ s.slotGood 1 = true ∧ (3 ≤ s.sec.startup ∨ s.sec.stopped = true)) ∧
    (∃ (s : State), s.sqr.mrst = false ∧ s.slotGood 1 = true ∧ s.sec.startup = 3 ∧ s.sec.stopped = false ∧ s.getB Reg.CTL_STATUS 23 = true
      ∧ s.ringOn 0 = true ∧ s.getB Reg.TOP_STRAP 1 = false ∧ s.win.tenants = []) := ⟨
  ⟨State.reset, 0x0B, 5, by decide +kernel⟩,
  ⟨State.reset, 0x11, 5, by decide +kernel⟩,
  ⟨{ State.reset with sec := { startup := 5 } }, 0x07, 5, by decide +kernel⟩,
  ⟨State.reset, 0x071, 1, 0, false, by decide +kernel⟩,
  ⟨(State.reset.setB Reg.INT_CTRL 0 true), 0, by decide +kernel⟩,
  ⟨(State.reset.setB Reg.INT_CTRL 0 true), 1005, by decide +kernel⟩,
  ⟨(regs [(Reg.INT_INJECT, 0x00050003)]), by decide +kernel⟩,
  ⟨(regs [(Reg.SEC_STATUS, 0)]), by decide +kernel⟩,
  ⟨(starting 1), { fails := 1, kind := 1, first := 5 }, by decide +kernel⟩,
  ⟨((starting 2).setReg Reg.DRC_DIMM_CFG 0x401002), 5, 5, 3, 0, by decide +kernel⟩,
  ⟨(starting 2), 5, 5, true, 3, 0, by decide +kernel⟩,
  ⟨{ starting 2 with med := { links := [(0, link2)] }, drc := { channels := [(0, { state := 2 }), (1, { state := 2 }), (2, { state := 2 }), (3, { state := 2 }), (4, { state := 2 }), (5, { state := 2 })] } },
    none, by decide +kernel⟩,
  ⟨(starting 3), 3, 5, by decide +kernel⟩,
  ⟨(((starting 3).setReg (ringCfg 0) 0x10404).setB Reg.CTL_STATUS 23 true), by decide +kernel⟩⟩

theorem meets_LifecycleCommands :
    (∃ (s : State) (ok : Bool), Verified s 0x01 ∧ s.lifecycle ≠ 0) ∧
    (∃ (s : State), Verified s 0x01 ∧ s.lifecycle = 0) ∧
    (Open → ∃ (s : State), Verified s 0x02 ∧ s.owned = true ∧ s.rdp ≠ 2) ∧
    (Open → ∃ (s : State), Verified s 0x03 ∧ s.lifecycle = 1) ∧
    (Open → ∃ (s : State), Verified s 0x04 ∧ s.owned = true) ∧
    (Open → ∃ (s : State), Verified s 0x05 ∧ s.lifecycle ≠ 0 ∧ leNat s.mboxBody = 1) ∧
    (Open → ∃ (s : State), Verified s 0x05 ∧ s.lifecycle ≠ 0 ∧ leNat s.mboxBody = 2) ∧
    (Open → ∃ (s : State), Verified s 0x06 ∧ s.rdp = 1) ∧
    (Open → (∀ k i a c t, Config.gcmOpen k i a c t = some (List.replicate 32 0)) → ∃ (s : State) (k : List Byte), Verified s 0x0A ∧
      s.owned = true ∧ (∀ e ∈ s.win.tenants, e.2.encrypt = false) ∧ s.kekOf s.mboxBody = some k) ∧
    (Open → ∃ (s : State), Verified s 0x0A ∧ s.owned = true ∧ (∃ e ∈ s.win.tenants, e.2.encrypt = true)) ∧
    (Open → ∃ (s : State) (k : Nat), Verified s 0x0B ∧ s.owned = true ∧ s.getF Reg.SEC_STATUS 25 24 = k ∧ k < 3) ∧
    (Open → ∃ (s : State), Verified s 0x0C ∧ s.lifecycle ≠ 0) ∧
    (∃ (s : State), Verified s 0x10) ∧
    (Open → ∀ k ∈ [0x02, 0x03, 0x04, 0x05, 0x06, 0x0A, 0x0B, 0x0C], ∃ s : State, Submitted s k ∧ s.ownerVerifies (s.mbox 0 192) (s.mbox
      192 64) = false) ∧
    (Open → ∀ k ∈ [0x02, 0x03, 0x04, 0x0A, 0x0B], ∃ s : State, Verified s k ∧ s.lifecycle = 0) ∧
    (Open → (∀ k i a c t, Config.gcmOpen k i a c t = none) → ∃ s : State, Verified s 0x0A ∧ s.owned = true ∧ (∀ e ∈ s.win.tenants,
      e.2.encrypt = false) ∧ s.kekOf s.mboxBody = none) := ⟨
  ⟨(submitted 1 1 (List.replicate 64 7)), true, by decide +kernel⟩,
  ⟨(submitted 0 1 (List.replicate 64 7)), by decide +kernel⟩,
  fun o => ⟨{ submitted 1 2 ([3, 0, 0, 0]) with efl := { otp := ownedOtp } }, verified o (by decide +kernel) (by decide +kernel), by
    decide +kernel, by decide +kernel⟩,
  fun o => ⟨{ submitted 1 3 ([]) with efl := { otp := ownedOtp } }, verified o (by decide +kernel) (by decide +kernel), by decide +kernel⟩,
  fun o => ⟨{ submitted 1 4 ([]) with efl := { otp := ownedOtp } }, verified o (by decide +kernel) (by decide +kernel), by decide +kernel⟩,
  fun o => ⟨{ submitted 1 5 ([1]) with efl := { otp := ownedOtp } }, verified o (by decide +kernel) (by decide +kernel), by
    decide +kernel, by decide +kernel⟩,
  fun o => ⟨{ submitted 1 5 ([2]) with efl := { otp := ownedOtp } }, verified o (by decide +kernel) (by decide +kernel), by
    decide +kernel, by decide +kernel⟩,
  fun o => ⟨{ submitted 1 6 ([]) with efl := { otp := ownedOtp } }, verified o (by decide +kernel) (by decide +kernel), by decide +kernel⟩,
  fun o g => ⟨{ submitted 1 10 (List.replicate 92 0) with efl := { otp := ownedOtp } }, (List.replicate 32 0), verified o
    (by decide +kernel) (by decide +kernel), by decide +kernel, by decide +kernel, ((by simp only [State.kekOf, g]; decide +kernel))⟩,
  fun o =>
    ⟨{ { submitted 1 10 (List.replicate 92 0) with efl := { otp := ownedOtp } } with win := { tenants := [(1, { encrypt := true })] } },
    verified o (by decide +kernel) (by decide +kernel), by decide +kernel, by decide +kernel⟩,
  fun o => ⟨{ submitted 1 11 (List.replicate 64 7) with efl := { otp := ownedOtp } }, 0, verified o (by decide +kernel)
    (by decide +kernel), by decide +kernel, by decide +kernel, by decide +kernel⟩,
  fun o => ⟨{ submitted 1 12 ([]) with efl := { otp := ownedOtp } }, verified o (by decide +kernel) (by decide +kernel), by
    decide +kernel⟩,
  ⟨(submitted 1 16 ([])), by decide +kernel⟩,
  fun o k hk => ⟨submitted 1 k (bodyOf k), submits o (by revert k; decide +kernel), (by revert k; decide +kernel)⟩,
  fun o k hk => ⟨provisioned 0 k (bodyOf k), verified o (by revert k; decide +kernel) (by revert k; decide +kernel),
    (by revert k; decide +kernel)⟩,
  fun o g => ⟨provisioned 1 10 (bodyOf 10), verified o (by decide +kernel) (by decide +kernel), by decide +kernel, by decide +kernel, by
    simp [State.kekOf, g]⟩⟩

theorem meets_FirmwareSubmissions :
    (∃ (s : State), Verified s 0x07 ∧ s.bootFail = true ∧ leNat (s.mboxBody.take 4) + (s.mboxBody.length - 4) ≤ 0x100000) ∧
    (Open → ∃ (s : State) (h : List Byte) (n : Nat), Verified s 0x08 ∧ s.bootFail = true ∧ s.keyInput 0x100000 32 = h ∧ s.fwHeaderOk h =
      true ∧ fwField h 16 4 = n ∧ s.imageVerifies h (s.keyInput 0x100000 (32 + n)) (s.keyInput (0x100020 + n) 64) = true) ∧
    (∃ (s : State) (h : List Byte), Verified s 0x08 ∧ s.bootFail = true ∧ s.keyInput 0x100000 32 = h ∧ s.fwHeaderOk h = false) ∧
    (∃ (s : State), Verified s 0x40) ∧
    (∃ (s : State), Verified s 0x41) ∧
    (∃ (s : State) (b : Bool) (o : Nat) (bs : List Byte), Verified s 0x42 ∧ s.sec.install = some b ∧ leNat (s.mboxBody.take 4) = o ∧
      s.mboxBody.drop 4 = bs ∧ o % 32 = 0 ∧ o + bs.length ≤ 0xFE000 ∧ (∀ i, i < ceilDiv bs.length 32 → s.rowErased b ((0x2000 + o) / 32 +
      i) = true)) ∧
    (Open → ∃ (s : State) (b : Bool) (h : List Byte) (n : Nat), Verified s 0x43 ∧ s.sec.install = some b ∧ s.bankBytes b 0x2000 32 = h ∧
      s.fwHeaderOk h = true ∧ fwField h 16 4 = n ∧ s.imageVerifies h (s.bankBytes b 0x2000 (32 + n)) (s.bankBytes b (0x2020 + n) 64) =
      true ∧ s.rowErased b 0 = true) ∧
    (∃ (s : State) (rq : Requester), s.getF Reg.SEC_MBOX_CTRL 31 30 = 0) ∧
    (∃ (s : State) (rq : Requester), rq ≠ .mcp ∧ s.getF Reg.SEC_MBOX_CTRL 31 30 = Requester.mboxOwner rq ∧ s.getB Reg.SEC_MBOX_CTRL 3 =
      true) ∧
    (∀ k ∈ [0x40, 0x41, 0x43], ∃ s : State, Verified s k) := ⟨
  ⟨((submitted 0 7 ([4,0,0,0,9,8,7])).setB Reg.SEC_BOOT_STATUS 31 true), by decide +kernel⟩,
  fun o => ⟨({ submitted 0 8 ([]) with mcp := { sram := Mem.setBytes [] 0 (fwHead ++ List.replicate 8 1) } }.setB Reg.SEC_BOOT_STATUS 31
    true), fwHead, 8, by decide +kernel, by decide +kernel, by decide +kernel, by decide +kernel, by decide +kernel,
    (by rw [State.imageVerifies, if_pos (by decide +kernel)]; exact o.2 _ _ _)⟩,
  ⟨((submitted 0 8 ([])).setB Reg.SEC_BOOT_STATUS 31 true), (List.replicate 32 0), by decide +kernel⟩,
  ⟨(submitted 0 64 (List.replicate 32 0)), by decide +kernel⟩,
  ⟨(submitted 0 65 ([])), by decide +kernel⟩,
  ⟨{ submitted 0 66 ([32,0,0,0,1,2,3,4,5,6,7,8]) with sec := { submitted := true, install := some false } }, false, 32, [1,2,3,4,5,6,7,8],
    by decide +kernel⟩,
  fun o =>
    ⟨{ submitted 0 67 ([]) with sec := { submitted := true, install := some true }, efl := { wordsB := [(0x400, 0x0000000157465942), (0x401, 0x0000000100000000), (0x402, 8), (0x403, 0), (0x404, 7)] } },
    true, fwHead, 8, by decide +kernel, by decide +kernel, by decide +kernel, by decide +kernel, by decide +kernel,
    (by rw [State.imageVerifies, if_pos (by decide +kernel)]; exact o.2 _ _ _), by decide +kernel⟩,
  ⟨State.reset, .control, by decide +kernel⟩,
  ⟨(regs [(Reg.SEC_MBOX_CTRL, 0x40000008)]), .control, by decide +kernel⟩,
  fun k hk => ⟨submitted 0 k (bodyOf k), (by revert k; decide +kernel)⟩⟩

theorem meets_FlashOperations :
    (∃ (s : State) (rq : Requester), FlashFree s rq ∧ s.rowErased s.eflBank s.eflRow = true) ∧
    (∃ (s : State) (rq : Requester), FlashFree s rq ∧ s.rowErased s.eflBank s.eflRow = false) ∧
    (∃ (s : State) (rq : Requester) (same : Bool), s.flashAllowed rq = false) ∧
    (∃ (s : State) (rq : Requester), FlashFree s rq) ∧
    (∃ (s : State) (rq : Requester) (o : FlashOpRec), s.flashAllowed rq = true ∧ s.efl.op = some o ∧ o.kind = 1 ∧ o.recorder = false) ∧
    (∃ (s : State) (rq : Requester) (o : FlashOpRec), s.flashAllowed rq = true ∧ s.eflBusy false = false ∧ s.efl.suspendedOp = some o) ∧
    (∃ (s : State) (rq : Requester) (bit : Nat), s.flashAllowed rq = true ∧ s.eflBusy false = false ∧ s.efl.suspendedOp = none ∧ s.getF
      Reg.EFL_ADDR 18 5 = bit ∧ s.getF Reg.EFL_ADDR 22 19 = 0 ∧ 3456 ≤ bit ∧ bit ≤ 3711) ∧
    (∃ (s : State) (o : FlashOpRec), s.efl.op = some o ∧ o.recorder = false ∧ o.kind = 0) ∧
    (∃ (s : State) (o : FlashOpRec), s.efl.op = some o ∧ o.recorder = false ∧ o.kind = 4) ∧
    (∃ (s : State) (o : FlashOpRec), s.efl.op = some o ∧ o.recorder = false ∧ o.kind = 0) ∧
    (∃ (s : State) (o : FlashOpRec), s.efl.op = some o ∧ o.recorder = false ∧ o.kind = 1) ∧
    (∃ (s : State) (o : FlashOpRec), s.efl.op = some o ∧ o.recorder = false ∧ o.kind = 1 ∧ s.getF Reg.EFL_ERASE_PROGRESS 6 0 + 1 < 80) ∧
    (∃ (s : State) (o : FlashOpRec), s.efl.op = none ∧ s.efl.heldGo = some o) ∧
    (∃ (s : State) (rq : Requester) (v : Word) (e : BitVec 80), s.readDenied rq = true) ∧
    (∃ (s : State) (rq : Requester) (v : BitVec 32) (e : BitVec 80), s.readDenied rq = false ∧ s.flashBusy (bitOf v 23) = false) := ⟨
  ⟨State.reset, .mcp, by decide +kernel⟩,
  ⟨{ State.reset with efl := { wordsA := [(0, 5)] } }, .mcp, by decide +kernel⟩,
  ⟨State.reset, .control, false, by decide +kernel⟩,
  ⟨State.reset, .mcp, by decide +kernel⟩,
  ⟨(flashing 1), .mcp, (flashOp 1), by decide +kernel⟩,
  ⟨({ State.reset with efl := { suspendedOp := some (flashOp 1) } }.setB Reg.EFL_STATUS 30 true), .mcp, (flashOp 1), by decide +kernel⟩,
  ⟨(regs [(Reg.EFL_ADDR, 3500 * 32)]), .mcp, 3500, by decide +kernel⟩,
  ⟨(flashing 0), (flashOp 0), by decide +kernel⟩,
  ⟨(flashing 4), (flashOp 4), by decide +kernel⟩,
  ⟨(flashing 0), (flashOp 0), by decide +kernel⟩,
  ⟨(flashing 1), (flashOp 1), by decide +kernel⟩,
  ⟨(flashing 1), (flashOp 1), by decide +kernel⟩,
  ⟨{ State.reset with efl := { heldGo := some (flashOp 0) } }, (flashOp 0), by decide +kernel⟩,
  ⟨State.reset, .control, 8, 0, by decide +kernel⟩,
  ⟨{ State.reset with efl := { wordsA := [(1, 0x1122334455667788)] } }, .mcp, 8, 0, by decide +kernel⟩⟩

theorem meets_PowerInputs :
    (∃ (s : State), s.phase = 2) ∧
    (∃ (s : State), s.phase = 0 ∧ s.sqr.tableDue = false ∧ s.getB Reg.SEQ_STATUS 27 = true) ∧
    (∃ (s : State), s.phase = 2 ∧ s.getB Reg.SEQ_STATUS 26 = false) ∧
    (∃ (s : State), s.phase = 0 ∧ s.sqr.tableDue = false ∧ s.getB Reg.SEQ_STATUS 26 = false ∧ s.slotGood 0 = true) ∧
    (∃ (s : State), s.sqr.pressed = true ∧ s.phase = 4) ∧
    (∃ (s : State), s.sqr.pressed = true ∧ s.phase = 5 ∧ s.getB Reg.PWR_WAKE 16 = true ∧ s.mayStart = true) ∧
    (∃ (s : State), s.sqr.pressed = true ∧ s.phase = 5 ∧ s.getB Reg.PWR_WAKE 16 = true ∧ s.mayStart = false) ∧
    (∃ (s : State), s.sqr.pressed = true ∧ s.phase = 2) ∧
    (∃ (s : State), s.sqr.pressed = true ∧ s.phase = 2) ∧
    (∃ (s : State) (rq : Requester), s.phase = 2) ∧
    (∃ (s : State), s.sqr.mrst = true ∧ s.phase = 2) := ⟨
  ⟨(phased 2 {}), by decide +kernel⟩,
  ⟨(phased 0 {}), by decide +kernel⟩,
  ⟨(phased 2 {}), by decide +kernel⟩,
  ⟨((phased 0 {}).setB Reg.SEQ_STATUS 27 false), by decide +kernel⟩,
  ⟨(phased 4 { pressed := true }), by decide +kernel⟩,
  ⟨((phased 5 { pressed := true }).setB Reg.PWR_WAKE 16 true), by decide +kernel⟩,
  ⟨(((phased 5 { pressed := true }).setB Reg.PWR_WAKE 16 true).setB Reg.SEQ_STATUS 27 false), by decide +kernel⟩,
  ⟨((phased 2 { pressed := true }).setReg (ringCfg 0) 0x10404), by decide +kernel⟩,
  ⟨(phased 2 { pressed := true }), by decide +kernel⟩,
  ⟨(phased 2 {}), .mcp, by decide +kernel⟩,
  ⟨(phased 2 { mrst := true }), by decide +kernel⟩⟩

theorem meets_PowerSequence :
    (∃ (s : State) (b : List Byte), s.phase = 0 ∧ tableOk b = true) ∧
    (∃ (s : State) (b : List Byte), s.phase = 0 ∧ tableOk b = false) ∧
    (∃ (s : State) (ms : Nat), s.phase = 4 ∧ Nat.max 1 (s.getF Reg.SEQ_CTRL 15 0) ≤ ms ∧ s.mayStart = true ∧ (s.sqr.wake = true ∨ (s.getB
      Reg.SEQ_CTRL 20 = true ∧ s.sqr.latched = false))) ∧
    (∃ (s : State) (n : Fin 32) (us : Nat) (k : Fin 4), s.phase = 1 ∧ s.usedSlots.contains n.val = true ∧ s.slotOn n = false ∧ s.onDelay n
      ≤ us ∧ s.getB (Reg.SEQ_SLOT_CFG + 16 * n.val) 4 = false ∧ s.busTaken n = false ∧ (s.slotMode n < 2 ∨ k ≠ 3)) ∧
    (∃ (s : State) (n : Fin 32) (us : Nat), s.phase = 1 ∧ s.usedSlots.contains n.val = true ∧ s.slotOn n = false ∧ s.onDelay n ≤ us ∧
      s.getB (Reg.SEQ_SLOT_CFG + 16 * n.val) 4 = false ∧ 2 ≤ s.slotMode n ∧ s.busTaken n = false) ∧
    (∃ (s : State) (n m : Fin 32) (us : Nat) (x : BitVec 3) (tt : Nat), Maps.find n.val s.sqr.highSince = some tt ∧ s.phase = 1 ∧ s.slotOn
      n = true ∧ s.slotGood n = false ∧ tt + s.slotQual n ≤ us ∧ m ≠ n ∧ s.usedSlots.contains m.val = true ∧ s.slotGood m = false) ∧
    (∃ (s : State) (n : Fin 32) (us : Nat) (x : BitVec 3) (tt : Nat), Maps.find n.val s.sqr.highSince = some tt ∧ s.phase = 1 ∧ s.slotOn n
      = true ∧ s.slotGood n = false ∧ tt + s.slotQual n ≤ us ∧ (∀ m ∈ s.usedSlots, m ≠ n.val → s.slotOn m = true ∧ s.slotGood m = true)) ∧
    (∃ (s : State) (n : Fin 32) (us : Nat), s.slotOn n = true ∧ s.slotGood n = false ∧ s.getB (Reg.SEQ_SLOT_CFG + 16 * n.val) 3 = true) ∧
    (∃ (s : State) (n : Fin 32) (us tt : Nat), Maps.find n.val s.sqr.enabledAt = some tt ∧ s.phase = 1 ∧ s.slotOn n = true ∧ s.slotGood n
      = false ∧ tt + s.slotDeadline n ≤ us) ∧
    (∃ (s : State) (n : Fin 32), s.phase = 2 ∧ n ≠ 0 ∧ Slot s n true true ∧ s.getB (Reg.SEQ_SLOT_CFG + 16 * n.val) 3 = true) ∧
    (∃ (s : State) (n : Fin 32) (us : Nat), s.phase = 3 ∧ bitOf s.sqr.offSlots n = true ∧ s.slotOn n = true ∧ s.slotKept n = false ∧
      s.busTaken n = false ∧ s.offDelay n ≤ us) ∧
    (∃ (s : State) (us : Nat) (pg : BitVec 32), OffDone s us pg ∧ s.sqr.standby = false) ∧
    (∃ (s : State) (us : Nat) (pg : BitVec 32), OffDone s us pg ∧ s.sqr.standby = true) := ⟨
  ⟨(phased 0 {}), seqTable, by decide +kernel⟩,
  ⟨(phased 0 {}), [], by decide +kernel⟩,
  ⟨(phased 4 { wake := true }), 300000, by decide +kernel⟩,
  ⟨(phased 1 {}), 1, 200, 3, by decide +kernel⟩,
  ⟨(phased 1 {}), 2, 200, by decide +kernel⟩,
  ⟨(slots (phased 1 { highSince := [(1, 50)] }) 3 1), 1, 2, 5000, 0, 50, by decide +kernel⟩,
  ⟨(slots (phased 1 { highSince := [(1, 50)] }) 0x3FF 0x3FD), 1, 5000, 0, 50, by decide +kernel⟩,
  ⟨(slots (phased 1 {}) 3 1), 1, 70, by decide +kernel⟩,
  ⟨(slots (phased 1 { enabledAt := [(1, 50)] }) 3 1), 1, 500000, 50, by decide +kernel⟩,
  ⟨(slots (phased 2 {}) 3 3), 1, by decide +kernel⟩,
  ⟨(slots (phased 3 { offSlots := 2 }) 3 3), 1, 500, by decide +kernel⟩,
  ⟨(phased 3 { offSlots := 2 }), 20, 0, by decide +kernel⟩,
  ⟨(phased 3 { offSlots := 2, standby := true }), 20, 0, by decide +kernel⟩⟩

theorem meets_PowerStates :
    (∃ (s : State) (rq : Requester), (s.powerState = 1 ∨ s.powerState = 2) ∧ s.getB Reg.PWR_STATUS 28 = false) ∧
    (∃ (s : State) (rq : Requester), s.powerState = 0 ∧ s.getB Reg.PWR_STATUS 28 = false) ∧
    (∃ (s : State) (rq : Requester), (s.powerState = 0 ∨ s.powerState = 1) ∧ s.getB Reg.PWR_STATUS 28 = false ∧ s.servesBits = 0) ∧
    (∃ (s : State) (rq : Requester), (s.powerState = 0 ∨ s.powerState = 1) ∧ s.getB Reg.PWR_STATUS 28 = false ∧ s.servesBits ≠ 0) ∧
    (∃ (s : State) (rq : Requester), s.getB Reg.PWR_STATUS 28 = true) ∧
    (∃ (s : State) (rq : Requester), s.powerState = 2 ∧ s.getB Reg.PWR_STATUS 28 = false ∧ s.phase = 2) ∧
    (∃ (s : State) (c : Fin 6), s.sqr.holding = true ∧ s.sqr.tierShut = true ∧ s.trn.opt = [] ∧ s.dur.pb = [] ∧ s.ntl.ops = [] ∧
      s.ntl.ckptDue = false ∧ s.frozen = false) ∧
    (∃ (s : State), s.sqr.holding = true ∧ s.sqr.tierShut = true ∧ s.trn.opt = [] ∧ s.dur.pb = [] ∧ s.ntl.ops = [] ∧ s.ntl.ckptDue = false
      ∧ s.frozen = true) ∧
    (∃ (s : State) (p : Fin 8), bitOf s.sqr.gatedPorts p = true) := ⟨
  ⟨(regs [(Reg.PWR_STATUS, 0x20000000)]), .mcp, by decide +kernel⟩,
  ⟨(regs [(Reg.PWR_STATUS, 0)]), .mcp, by decide +kernel⟩,
  ⟨(regs [(Reg.PWR_STATUS, 0)]), .mcp, by decide +kernel⟩,
  ⟨(regs [(Reg.PWR_STATUS, 0), (Reg.TWN_STATUS, 0x04000000)]), .mcp, by decide +kernel⟩,
  ⟨(regs [(Reg.PWR_STATUS, 0x10000000)]), .mcp, by decide +kernel⟩,
  ⟨((phased 2 {}).setReg Reg.PWR_STATUS 0x40000000), .mcp, by decide +kernel⟩,
  ⟨{ State.reset with sqr := { holding := true, tierShut := true }, drc := { channels := [(0, { state := 2 })] } }, 0, by decide +kernel⟩,
  ⟨{ State.reset with sqr := { holding := true, tierShut := true } }.setB Reg.DRC_STATUS 8 true, by decide +kernel⟩,
  ⟨{ State.reset with sqr := { gatedPorts := 4 } }, 2, by decide +kernel⟩⟩

theorem meets_ControllerPorts :
    (∃ (s : State) (n : Fin 3) (w r : Nat), s.inputOk = true ∧ (s.twbPort n).running = false ∧ (s.twbPort n).sclStuck = false ∧ (s.twbPort
      n).busStuck = false ∧ s.getF (twbReg Reg.TWB_CMD n) 23 16 = w ∧ s.getF (twbReg Reg.TWB_CMD n) 15 8 = r ∧ 1 ≤ w + r ∧ w + r ≤ 256) ∧
    (∃ (s : State) (n : Fin 3), s.inputOk = true ∧ (s.twbPort n).running = true) ∧
    (∃ (s : State) (n : Fin 3) (k : Fin 258) (data : List Byte) (pec : Byte), (s.twbPort n).running = true ∧ (s.twbPort n).waiting = false
      ∧ s.replyResult n data pec = 0) ∧
    (∃ (s : State) (n : Fin 3) (k : Fin 258), (s.twbPort n).running = true ∧ (s.twbPort n).waiting = false) ∧
    (∃ (s : State) (n : Fin 3) (k : Fin 258) (byte : Byte) (bit : Fin 8), (s.twbPort n).running = true ∧ (s.twbPort n).waiting = false ∧
      (s.twbPort n).repeats < s.getF (twbReg Reg.TWB_CFG n) 11 10) ∧
    (∃ (s : State) (n : Fin 3) (k : Fin 258), (s.twbPort n).running = true) ∧
    (∃ (s : State) (n : Fin 3), (s.twbPort n).running = false) ∧
    (∃ (s : State) (n : Fin 3), (s.twbPort n).running = false) ∧
    (∃ (s : State) (n : Fin 3) (k : Fin 258), s.phase = 3 ∧ (s.twbPort n).running = true) := ⟨
  ⟨(onBus {}), 0, 1, 2, by decide +kernel⟩,
  ⟨(onBus { running := true }), 0, by decide +kernel⟩,
  ⟨(onBus { running := true }), 0, 3, [1, 9], 0, by decide +kernel⟩,
  ⟨(onBus { running := true }), 0, 2, by decide +kernel⟩,
  ⟨((onBus { running := true }).setReg (twbReg Reg.TWB_CFG 0) 0x400), 0, 3, 1, 2, by decide +kernel⟩,
  ⟨(onBus { running := true }), 0, 3, by decide +kernel⟩,
  ⟨(onBus {}), 0, by decide +kernel⟩,
  ⟨(onBus {}), 0, by decide +kernel⟩,
  ⟨{ phased 3 {} with twb := { port0 := { running := true } } }, 0, 2, by decide +kernel⟩⟩

theorem meets_TargetPort :
    (∃ (s : State) (pec : Option Byte), s.twtAwake = true ∧ s.getB Reg.TWB_TWT_CFG 8 = true ∧ PecGood s 0x10 [1] pec) ∧
    (∃ (s : State) (pec : Option Byte), s.twtAwake = true ∧ s.getB Reg.TWB_TWT_CFG 8 = true ∧ s.phase = 2 ∧ PecGood s 0x10 [2] pec) ∧
    (∃ (s : State) (data : List Byte) (pec : Option Byte), s.twtAwake = true ∧ s.getB Reg.TWB_TWT_MBOX_CTRL 14 = false ∧ 1 ≤ data.length ∧
      data.length ≤ 32 ∧ PecGood s 0x20 (blockOf data) pec) ∧
    (∃ (s : State) (p : Byte), s.twtAwake = true ∧ s.getB Reg.TWB_TWT_CFG 8 = true) ∧
    (∃ (s : State) (data : List Byte) (p : Byte), s.twtAwake = true ∧ s.getB Reg.TWB_TWT_MBOX_CTRL 14 = false ∧ 1 ≤ data.length ∧
      data.length ≤ 32 ∧ p ≠ WritePec s 0x20 (blockOf data)) ∧
    (∃ (s : State), s.twtAwake = true ∧ s.getB Reg.TWB_TWT_MBOX_CTRL 15 = true) ∧
    (∃ (s : State), s.twtAwake = true ∧ s.getB Reg.TWB_TWT_MBOX_CTRL 15 = false) ∧
    (∃ (s : State), s.phase = 5 ∧ s.inputOk = true ∧ s.getB Reg.PWR_WAKE 17 = true ∧ s.mayStart = true) ∧
    (∃ s : State, s.twtAwake = true) := ⟨
  ⟨target, none, by decide +kernel⟩,
  ⟨target, (some (WritePec target 0x10 [2])), by decide +kernel⟩,
  ⟨target, [1, 2, 3], none, by decide +kernel⟩,
  ⟨target, 0x55, by decide +kernel⟩,
  ⟨target, [1], 0, by decide +kernel⟩,
  ⟨(target.setB Reg.TWB_TWT_MBOX_CTRL 15 true), by decide +kernel⟩,
  ⟨target, by decide +kernel⟩,
  ⟨((phased 5 {}).setB Reg.PWR_WAKE 17 true), by decide +kernel⟩,
  ⟨target, by decide +kernel⟩⟩

theorem meets_RecorderAndCalibration :
    (∃ (s : State) (p : Byte), (p = 20 ∨ p = 60 ∨ p = 100) ∧ s.inRun = true ∧ s.powerState = 0 ∧ s.allTrained = true ∧ s.evr.capture =
      none ∧ (∀ i, i < 12 → s.near p.toNat i = true)) ∧
    (∃ (s : State) (p : Byte), (s.inRun = false ∨ s.powerState ≠ 0 ∨ s.evr.capture ≠ none ∨ ¬(p = 20 ∨ p = 60 ∨ p = 100))) ∧
    (∃ (s : State) (p : Nat) (tj : BitVec 16) (entries : List CalEntry) (dst : Nat), s.evr.capture = some p ∧ s.getF Reg.CAL_DST 19 3 * 8
      = dst) ∧
    (∃ (s : State) (f : FiringRec) (rest : List FiringRec), s.evr.fired = f :: rest ∧ s.evr.buffer.length < 8) ∧
    (∃ (s : State) (f : FiringRec) (rest : List FiringRec), s.evr.fired = f :: rest ∧ 8 ≤ s.evr.buffer.length) ∧
    (∃ (s : State) (i : Fin 8) (code : Byte), s.getB (Reg.EVR_TRIG_CFG + 4 * (24 + i.val)) 31 = true ∧ (∀ f ∈ s.evr.fired, f.input ≠ 24 +
      i.val)) ∧
    (∃ (s : State) (i : Fin 8) (code : Byte), s.getB (Reg.EVR_TRIG_CFG + 4 * (24 + i.val)) 31 = false) ∧
    (∃ (s : State) (o : FlashOpRec) (r : RecordRec) (rest : List RecordRec), s.efl.op = some o ∧ o.recorder = true ∧ o.kind = 0 ∧
      s.evr.buffer = r :: rest ∧ s.getB Reg.EVR_STATUS 31 = true ∧ o.row = recorderSlot (s.getF Reg.EVR_STATUS 10 0) ∧ o.words.length =
      32) ∧
    (∃ (s : State) (o : FlashOpRec) (k : Nat), s.efl.op = some o ∧ o.recorder = true ∧ o.kind = 1 ∧ o.row = recorderSector k ∧
      s.evr.clearing = none ∧ s.evr.erasing = some k) := ⟨
  ⟨trained, 20, by decide +kernel⟩,
  ⟨State.reset, 20, by decide +kernel⟩,
  ⟨{ State.reset with evr := { capture := some 20 } }, 20, 5, [], 0, by decide +kernel⟩,
  ⟨({ State.reset with evr := { fired := [firing] } }.setReg (Reg.EVR_TRIG_CFG + 96) 0x80000002), firing, [], by decide +kernel⟩,
  ⟨{ State.reset with evr := { fired := [firing], buffer := List.replicate 8 recording } }, firing, [], by decide +kernel⟩,
  ⟨(regs [(Reg.EVR_TRIG_CFG + 96, 0x80000002)]), 0, 7, by decide +kernel⟩,
  ⟨(regs [(Reg.EVR_TRIG_CFG + 96, 0)]), 0, 7, by decide +kernel⟩,
  ⟨({ State.reset with efl := { op := some { kind := 0, bankB := true, row := recorderSlot 0, words := List.replicate 32 6, recorder := true } }, evr := { buffer := [recording] } }.setB
    Reg.EVR_STATUS 31 true), { kind := 0, bankB := true, row := recorderSlot 0, words := List.replicate 32 6, recorder := true },
    recording, [], by decide +kernel⟩,
  ⟨{ State.reset with efl := { op := some { kind := 1, bankB := true, row := recorderSector 2, recorder := true } }, evr := { erasing := some 2 } },
    { kind := 1, bankB := true, row := recorderSector 2, recorder := true }, 2, by decide +kernel⟩⟩

theorem meets_RetiredAtLastGeneration :
    (∃ (s : State) (i : BitVec 24) (w : Window), Maps.find i.toNat s.win.windows = some w ∧ w.state = .closing ∧ w.gen = 0xFF ∧ (∀ e ∈
      s.trn.opt, e.2.win = i.toNat → e.2.gen ≠ w.gen)) := 
  ⟨{ served with win := { served.win with windows := [(1, { window1 with gen := 255, state := .closing })] } }, 1,
    { window1 with gen := 255, state := .closing }, by decide +kernel⟩

theorem meets_RistrettoNeverPaced :
    (∃ (s : State) (c : Qp), c.cls = .ristretto) ∧
    (∃ (s : State) (p : Pkt) (c : Qp), Arrives s p .cnp c ∧ c.cls = .ristretto) := ⟨
  ⟨(portal qp2), { qp2 with cls := .ristretto }, by decide +kernel⟩,
  ⟨(portal { qp2 with cls := .ristretto }), pkt, { qp2 with cls := .ristretto }, (by constructor <;> decide +kernel), by decide +kernel⟩⟩

end Sys2Proof.Tests
end

section
/-! Proofs of the family 00_scope: every command answers a state in canonical form, the state after reset, and the accesses to
BAR0. -/

namespace Sys2Proof.Machine

open Sys2Proof

/-! ## Every command -/

/-- Every row of the opcode table keeps the queue and the canonical memories: the row's meaning does (Laws/Keeps*.lean). -/
theorem exec_keeps {z s : State} (c : Instr) (hk : Keeps z s) : KeepsR z (exec c s) :=
  match c with
  | .registerWrite rq off v hi => execRegisterWrite_keeps rq off v hi s hk
  | .registerPairLowerRead rq off size => execRegisterPairLowerRead_keeps rq off size s hk
  | .subwordWrite off => execSubwordWrite_keeps off s hk
  | .poisonedWrite off => execPoisonedWrite_keeps off s hk
  | .tickBoundary => execTickBoundary_keeps s hk
  | .frameBoundary samples => execFrameBoundary_keeps samples s hk
  | .minuteMark refRaw resid => execMinuteMark_keeps refRaw resid s hk
  | .meterBatchSigned => execMeterBatchSigned_keeps s hk
  | .ppsEdge falling cycle => execPpsEdge_keeps falling cycle s hk
  | .loadArm => execLoadArm_keeps s hk
  | .ppsLost => execPpsLost_keeps s hk
  | .logicalPortUp lp => execLogicalPortUp_keeps lp s hk
  | .logicalPortDown lp => execLogicalPortDown_keeps lp s hk
  | .rdmaReadRequest p r copiesDiffer => execRdmaReadRequest_keeps p r copiesDiffer s hk
  | .rdmaWriteFirst p r only payload => execRdmaWriteFirst_keeps p r only payload s hk
  | .rdmaWriteMiddle p last payload => execRdmaWriteMiddle_keeps p last payload s hk
  | .cmpswap p rkey va cmp swap => execCmpswap_keeps p rkey va cmp swap s hk
  | .fetchadd p rkey va add => execFetchadd_keeps p rkey va add s hk
  | .atomicWrite p rkey va data => execAtomicWrite_keeps p rkey va data s hk
  | .flush p r sel placement => execFlush_keeps p r sel placement s hk
  | .send p part payload => execSend_keeps p part payload s hk
  | .acknowledge p kind => execAcknowledge_keeps p kind s hk
  | .cnpReceived p => execCnpReceived_keeps p s hk
  | .rdmaReadResponseRx p opcode => execRdmaReadResponseRx_keeps p opcode s hk
  | .unsupportedOpcode p rc opcode => execUnsupportedOpcode_keeps p rc opcode s hk
  | .arpRequest lp vlan target senderMac senderIp => execArpRequest_keeps lp vlan target senderMac senderIp s hk
  | .neighborSolicitation lp vlan target senderMac senderIp => execNeighborSolicitation_keeps lp vlan target senderMac senderIp s hk
  | .pfcFrame lp quanta => execPfcFrame_keeps lp quanta s hk
  | .pfcPauseExpiry lp prio => execPfcPauseExpiry_keeps lp prio s hk
  | .otherFrameDrop lp ptp => execOtherFrameDrop_keeps lp ptp s hk
  | .badCrcFrame lp => execBadCrcFrame_keeps lp s hk
  | .pfcRepeat lp prio occ => execPfcRepeat_keeps lp prio occ s hk
  | .contextFetchDone qpn occ => execContextFetchDone_keeps qpn occ s hk
  | .descriptorFetchDone index => execDescriptorFetchDone_keeps index s hk
  | .contextInvalidationDone => execContextInvalidationDone_keeps s hk
  | .keyCacheInvalidationDone => execKeyCacheInvalidationDone_keeps s hk
  | .ackTimeout qpn => execAckTimeout_keeps qpn s hk
  | .rnrTimerExpiry qpn => execRnrTimerExpiry_keeps qpn s hk
  | .ccRateIncrease qpn => execCcRateIncrease_keeps qpn s hk
  | .pacedRelease qpn => execPacedRelease_keeps qpn s hk
  | .tenantCreate h tenant encrypt risAllowed scmQuota pinQuota tileQuota len wrapped =>
    execTenantCreate_keeps h tenant encrypt risAllowed scmQuota pinQuota tileQuota len wrapped s hk
  | .tenantDestroy h tenant => execTenantDestroy_keeps h tenant s hk
  | .extentAlloc h extent tenant side => execExtentAlloc_keeps h extent tenant side s hk
  | .extentFree h extent => execExtentFree_keeps h extent s hk
  | .extentDiscard h pna length tenant => execExtentDiscard_keeps h pna length tenant s hk
  | .pageDiscard page => execPageDiscard_keeps page s hk
  | .windowOpen h rkey recycle d => execWindowOpen_keeps h rkey recycle d s hk
  | .windowModify h rkey mask rights pinned progId => execWindowModify_keeps h rkey mask rights pinned progId s hk
  | .pinnedPublish index => execPinnedPublish_keeps index s hk
  | .windowRevoke h rkey => execWindowRevoke_keeps h rkey s hk
  | .windowRevokeDone index => execWindowRevokeDone_keeps index s hk
  | .qpCreate h b => execQpCreate_keeps h b s hk
  | .qpModify h b => execQpModify_keeps h b s hk
  | .qpDestroy h qpn => execQpDestroy_keeps h qpn s hk
  | .programLoad h image => execProgramLoad_keeps h image s hk
  | .programUnload h slot => execProgramUnload_keeps h slot s hk
  | .programRelease slot => execProgramRelease_keeps slot s hk
  | .drill h side hold => execDrill_keeps h side hold s hk
  | .drillYield => execDrillYield_keeps s hk
  | .tierFormat h => execTierFormat_keeps h s hk
  | .scmFormat h pairId metaRegions => execScmFormat_keeps h pairId metaRegions s hk
  | .regionRead h offset len => execRegionRead_keeps h offset len s hk
  | .regionWrite h offset data => execRegionWrite_keeps h offset data s hk
  | .mgmt h body result w0 w1 w2 => execMgmt_keeps h body result w0 w1 w2 s hk
  | .nop h => execNop_keeps h s hk
  | .query h kind index => execQuery_keeps h kind index s hk
  | .sqDoorbell ring tail => execSqDoorbell_keeps ring tail s hk
  | .cqHeadWrite ring head => execCqHeadWrite_keeps ring head s hk
  | .ringEnable ring v => execRingEnable_keeps ring v s hk
  | .dmaChannelHalt ch cause ring => execDmaChannelHalt_keeps ch cause ring s hk
  | .dmaResume mask => execDmaResume_keeps mask s hk
  | .functionLevelReset => execFunctionLevelReset_keeps s hk
  | .perst => execPerst_keeps s hk
  | .cmdSkewDetect => execCmdSkewDetect_keeps s hk
  | .heldMirrorPlace extent => execHeldMirrorPlace_keeps extent s hk
  | .nopInstruction ag w fetchUe => execNopInstruction_keeps ag w fetchUe s hk
  | .add ag w => execAdd_keeps ag w s hk
  | .sub ag w => execSub_keeps ag w s hk
  | .and ag w => execAnd_keeps ag w s hk
  | .or ag w => execOr_keeps ag w s hk
  | .xor ag w => execXor_keeps ag w s hk
  | .shl ag w => execShl_keeps ag w s hk
  | .shr ag w => execShr_keeps ag w s hk
  | .sar ag w => execSar_keeps ag w s hk
  | .mul ag w => execMul_keeps ag w s hk
  | .mulhu ag w => execMulhu_keeps ag w s hk
  | .minu ag w => execMinu_keeps ag w s hk
  | .maxu ag w => execMaxu_keeps ag w s hk
  | .min ag w => execMin_keeps ag w s hk
  | .max ag w => execMax_keeps ag w s hk
  | .andn ag w => execAndn_keeps ag w s hk
  | .addi ag w => execAddi_keeps ag w s hk
  | .subi ag w => execSubi_keeps ag w s hk
  | .andi ag w => execAndi_keeps ag w s hk
  | .ori ag w => execOri_keeps ag w s hk
  | .xori ag w => execXori_keeps ag w s hk
  | .shli ag w => execShli_keeps ag w s hk
  | .shri ag w => execShri_keeps ag w s hk
  | .sari ag w => execSari_keeps ag w s hk
  | .muli ag w => execMuli_keeps ag w s hk
  | .mulhui ag w => execMulhui_keeps ag w s hk
  | .minui ag w => execMinui_keeps ag w s hk
  | .maxui ag w => execMaxui_keeps ag w s hk
  | .mini ag w => execMini_keeps ag w s hk
  | .maxi ag w => execMaxi_keeps ag w s hk
  | .andni ag w => execAndni_keeps ag w s hk
  | .deph ag w => execDeph_keeps ag w s hk
  | .cmpEq ag w => execCmpEq_keeps ag w s hk
  | .cmpNe ag w => execCmpNe_keeps ag w s hk
  | .cmpLtu ag w => execCmpLtu_keeps ag w s hk
  | .cmpGeu ag w => execCmpGeu_keeps ag w s hk
  | .cmpLt ag w => execCmpLt_keeps ag w s hk
  | .cmpGe ag w => execCmpGe_keeps ag w s hk
  | .cmpTst ag w => execCmpTst_keeps ag w s hk
  | .cmpNtst ag w => execCmpNtst_keeps ag w s hk
  | .cmpiEq ag w => execCmpiEq_keeps ag w s hk
  | .cmpiNe ag w => execCmpiNe_keeps ag w s hk
  | .cmpiLtu ag w => execCmpiLtu_keeps ag w s hk
  | .cmpiGeu ag w => execCmpiGeu_keeps ag w s hk
  | .cmpiLt ag w => execCmpiLt_keeps ag w s hk
  | .cmpiGe ag w => execCmpiGe_keeps ag w s hk
  | .cmpiTst ag w => execCmpiTst_keeps ag w s hk
  | .cmpiNtst ag w => execCmpiNtst_keeps ag w s hk
  | .pand ag w => execPand_keeps ag w s hk
  | .por ag w => execPor_keeps ag w s hk
  | .pxor ag w => execPxor_keeps ag w s hk
  | .pandn ag w => execPandn_keeps ag w s hk
  | .p2g ag w => execP2g_keeps ag w s hk
  | .clz ag w => execClz_keeps ag w s hk
  | .ctz ag w => execCtz_keeps ag w s hk
  | .popc ag w => execPopc_keeps ag w s hk
  | .bswap ag w => execBswap_keeps ag w s hk
  | .bswap32 ag w => execBswap32_keeps ag w s hk
  | .extu ag w => execExtu_keeps ag w s hk
  | .exts ag w => execExts_keeps ag w s hk
  | .ins ag w => execIns_keeps ag w s hk
  | .crc32cB ag w => execCrc32cB_keeps ag w s hk
  | .crc32cD ag w => execCrc32cD_keeps ag w s hk
  | .crc64D ag w => execCrc64D_keeps ag w s hk
  | .getcx ag w => execGetcx_keeps ag w s hk
  | .ldPad ag w wrong => execLdPad_keeps ag w wrong s hk
  | .ldPayload ag w => execLdPayload_keeps ag w s hk
  | .ldTile ag w wrong => execLdTile_keeps ag w wrong s hk
  | .stPad ag w => execStPad_keeps ag w s hk
  | .stTile ag w => execStTile_keeps ag w s hk
  | .tld ag w => execTld_keeps ag w s hk
  | .tst ag w wrong => execTst_keeps ag w wrong s hk
  | .tcopy ag w wrong => execTcopy_keeps ag w wrong s hk
  | .tcopyPayload ag w => execTcopyPayload_keeps ag w s hk
  | .tfill ag w => execTfill_keeps ag w s hk
  | .txor ag w wrong => execTxor_keeps ag w wrong s hk
  | .tcrcCrc32c ag w wrong => execTcrcCrc32c_keeps ag w wrong s hk
  | .tcrcCrc64 ag w wrong => execTcrcCrc64_keeps ag w wrong s hk
  | .tcmp ag w wrong => execTcmp_keeps ag w wrong s hk
  | .tscanEq ag w wrong => execTscanEq_keeps ag w wrong s hk
  | .tscanNe ag w wrong => execTscanNe_keeps ag w wrong s hk
  | .tsumAdd ag w wrong => execTsumAdd_keeps ag w wrong s hk
  | .tsumXor ag w wrong => execTsumXor_keeps ag w wrong s hk
  | .mreadResponse ag w => execMreadResponse_keeps ag w s hk
  | .mreadPad ag w => execMreadPad_keeps ag w s hk
  | .mreadDataReturn req index => execMreadDataReturn_keeps req index s hk
  | .mwritePad ag w => execMwritePad_keeps ag w s hk
  | .mwritePayload ag w => execMwritePayload_keeps ag w s hk
  | .cas8 ag w => execCas8_keeps ag w s hk
  | .fadd8 ag w => execFadd8_keeps ag w s hk
  | .swap8 ag w => execSwap8_keeps ag w s hk
  | .mask8 ag w => execMask8_keeps ag w s hk
  | .cas16 ag w => execCas16_keeps ag w s hk
  | .write8 ag w => execWrite8_keeps ag w s hk
  | .matomAccepted req index => execMatomAccepted_keeps req index s hk
  | .stage ag w => execStage_keeps ag w s hk
  | .fence ag w => execFence_keeps ag w s hk
  | .postResponse ag w => execPostResponse_keeps ag w s hk
  | .postAck ag w => execPostAck_keeps ag w s hk
  | .postAtomic ag w => execPostAtomic_keeps ag w s hk
  | .postFlushack ag w => execPostFlushack_keeps ag w s hk
  | .reply ag w => execReply_keeps ag w s hk
  | .notify ag w => execNotify_keeps ag w s hk
  | .meter ag w => execMeter_keeps ag w s hk
  | .br ag w => execBr_keeps ag w s hk
  | .brp ag w => execBrp_keeps ag w s hk
  | .call ag w => execCall_keeps ag w s hk
  | .ret ag w => execRet_keeps ag w s hk
  | .yield ag w => execYield_keeps ag w s hk
  | .yieldWNext ag w => execYieldWNext_keeps ag w s hk
  | .yieldWMedia ag w => execYieldWMedia_keeps ag w s hk
  | .yieldWStage ag w => execYieldWStage_keeps ag w s hk
  | .yieldWFence ag w => execYieldWFence_keeps ag w s hk
  | .yieldWTime ag w => execYieldWTime_keeps ag w s hk
  | .timeWake req => execTimeWake_keeps req s hk
  | .commit ag w => execCommit_keeps ag w s hk
  | .commitC ag w => execCommitC_keeps ag w s hk
  | .commitA ag w => execCommitA_keeps ag w s hk
  | .abort ag w => execAbort_keeps ag w s hk
  | .trapOverrun strand => execTrapOverrun_keeps strand s hk
  | .icacheInvalidationDone => execIcacheInvalidationDone_keeps s hk
  | .engineFence engine => execEngineFence_keeps engine s hk
  | .requestRestart req => execRequestRestart_keeps req s hk
  | .csrr ag w => execCsrr_keeps ag w s hk
  | .csrw ag w => execCsrw_keeps ag w s hk
  | .regr ag w => execRegr_keeps ag w s hk
  | .regw ag w => execRegw_keeps ag w s hk
  | .tret ag w => execTret_keeps ag w s hk
  | .iflush ag w => execIflush_keeps ag w s hk
  | .keyopUnwrap ag w => execKeyopUnwrap_keeps ag w s hk
  | .keyopClear ag w => execKeyopClear_keeps ag w s hk
  | .keyopSign ag w => execKeyopSign_keeps ag w s hk
  | .keyopVerify ag w => execKeyopVerify_keeps ag w s hk
  | .keyopHash ag w => execKeyopHash_keeps ag w s hk
  | .keyopAttest ag w => execKeyopAttest_keeps ag w s hk
  | .mcpInterrupt source => execMcpInterrupt_keeps source s hk
  | .tileInitDone => execTileInitDone_keeps s hk
  | .tileFillStart cluster => execTileFillStart_keeps cluster s hk
  | .tileFillDone cluster channel err => execTileFillDone_keeps cluster channel err s hk
  | .stageLate req => execStageLate_keeps req s hk
  | .stagerChannelHalt cluster channel cause source pna => execStagerChannelHalt_keeps cluster channel cause source pna s hk
  | .channelResume cluster channel => execChannelResume_keeps cluster channel s hk
  | .mediaDataFlit ml flit => execMediaDataFlit_keeps ml flit s hk
  | .mediaFlitAck ml seq => execMediaFlitAck_keeps ml seq s hk
  | .mediaFlitNak ml seq => execMediaFlitNak_keeps ml seq s hk
  | .mediaAckDue ml => execMediaAckDue_keeps ml s hk
  | .mediaLinkSilent ml => execMediaLinkSilent_keeps ml s hk
  | .retrainDone ml => execRetrainDone_keeps ml s hk
  | .retrainTimeout ml => execRetrainTimeout_keeps ml s hk
  | .rdr ml tag cnt line => execRdr_keeps ml tag cnt line s hk
  | .cnf ml tag => execCnf_keeps ml tag s hk
  | .err ml tag reason => execErr_keeps ml tag reason s hk
  | .cfgr ml tag w => execCfgr_keeps ml tag w s hk
  | .lineRepairRequest line => execLineRepairRequest_keeps line s hk
  | .lineRepairServe line raw => execLineRepairServe_keeps line raw s hk
  | .lineRepairReply line => execLineRepairReply_keeps line s hk
  | .gapMove ml region => execGapMove_keeps ml region s hk
  | .regionRecordWrite ml region => execRegionRecordWrite_keeps ml region s hk
  | .patrolScrub ml => execPatrolScrub_keeps ml s hk
  | .destage => execDestage_keeps s hk
  | .destageSwitch page => execDestageSwitch_keeps page s hk
  | .promote page => execPromote_keeps page s hk
  | .promoteSwitch page => execPromoteSwitch_keeps page s hk
  | .dramRequestAccept ch slot arrivals => execDramRequestAccept_keeps ch slot arrivals s hk
  | .dramColumnIssue ch slot neighbour => execDramColumnIssue_keeps ch slot neighbour s hk
  | .dramReadReturn ch wrong => execDramReadReturn_keeps ch wrong s hk
  | .refresh ch slot => execRefresh_keeps ch slot s hk
  | .zqCalibration ch rank => execZqCalibration_keeps ch rank s hk
  | .rowIdleClose ch bank cycle => execRowIdleClose_keeps ch bank cycle s hk
  | .dramScrub => execDramScrub_keeps s hk
  | .caParityAlert ch port cls addr => execCaParityAlert_keeps ch port cls addr s hk
  | .nandReadDone page steps evict out => execNandReadDone_keeps page steps evict out s hk
  | .nandProgramDone sb page ok => execNandProgramDone_keeps sb page ok s hk
  | .nandEraseDone sb bad => execNandEraseDone_keeps sb bad s hk
  | .nandSuspend die => execNandSuspend_keeps die s hk
  | .nandReadyTimeout page => execNandReadyTimeout_keeps page s hk
  | .dieFailed die => execDieFailed_keeps die s hk
  | .stripeRowClose sb => execStripeRowClose_keeps sb s hk
  | .fold => execFold_keeps s hk
  | .garbageCollection => execGarbageCollection_keeps s hk
  | .wearRelocation => execWearRelocation_keeps s hk
  | .backgroundScan => execBackgroundScan_keeps s hk
  | .mapCheckpoint => execMapCheckpoint_keeps s hk
  | .placementIssue => execPlacementIssue_keeps s hk
  | .inflightMarkClear extent => execInflightMarkClear_keeps extent s hk
  | .fenceComplete qpn => execFenceComplete_keeps qpn s hk
  | .flushLimitExpiry req => execFlushLimitExpiry_keeps req s hk
  | .intentHeaderPlaced slot => execIntentHeaderPlaced_keeps slot s hk
  | .intentHomeWrite slot => execIntentHomeWrite_keeps slot s hk
  | .journalApply => execJournalApply_keeps s hk
  | .heartbeat one crcOk hb => execHeartbeat_keeps one crcOk hb s hk
  | .heartbeatSend => execHeartbeatSend_keeps s hk
  | .mirror h runs epoch cls => execMirror_keeps h runs epoch cls s hk
  | .mirrorAdmit => execMirrorAdmit_keeps s hk
  | .confirm h frames outcomes intents free => execConfirm_keeps h frames outcomes intents free s hk
  | .outcome h o => execOutcome_keeps h o s hk
  | .intent h slot lines epoch => execIntent_keeps h slot lines epoch s hk
  | .giveup h sideB epoch drill hold sameTick => execGiveup_keeps h sideB epoch drill hold sameTick s hk
  | .reclaim h sideB at' => execReclaim_keeps h sideB at' s hk
  | .switch h sideB => execSwitch_keeps h sideB s hk
  | .resync h body => execResync_keeps h body s hk
  | .twinAck one seq => execTwinAck_keeps one seq s hk
  | .twinNak one seq => execTwinNak_keeps one seq s hk
  | .bundleDown one ue => execBundleDown_keeps one ue s hk
  | .bundleUp one => execBundleUp_keeps one s hk
  | .sidebandToggle held => execSidebandToggle_keeps held s hk
  | .sidebandSilent => execSidebandSilent_keeps s hk
  | .faultReport found disagree => execFaultReport_keeps found disagree s hk
  | .yieldUnit => execYieldUnit_keeps s hk
  | .takeoverStart => execTakeoverStart_keeps s hk
  | .takeoverPublish => execTakeoverPublish_keeps s hk
  | .soloDelayExpiry => execSoloDelayExpiry_keeps s hk
  | .resyncStart => execResyncStart_keeps s hk
  | .metadataDone => execMetadataDone_keeps s hk
  | .resyncCopyDone => execResyncCopyDone_keeps s hk
  | .reclaimSend => execReclaimSend_keeps s hk
  | .returnSwitch => execReturnSwitch_keeps s hk
  | .returnAdmit => execReturnAdmit_keeps s hk
  | .pairWaitExpiry => execPairWaitExpiry_keeps s hk
  | .detectorTest missing => execDetectorTest_keeps missing s hk
  | .clockCheck fault => execClockCheck_keeps fault s hk
  | .sramScrub found progress last => execSramScrub_keeps found progress last s hk
  | .inject => execInject_keeps s hk
  | .startup step => execStartup_keeps step s hk
  | .provision ok => execProvision_keeps ok s hk
  | .debugToken => execDebugToken_keeps s hk
  | .seal ok => execSeal_keeps ok s hk
  | .returnUnit ok => execReturnUnit_keeps ok s hk
  | .rdpRaise ok => execRdpRaise_keeps ok s hk
  | .rdpRegress ok => execRdpRegress_keeps ok s hk
  | .recoveryData => execRecoveryData_keeps s hk
  | .recoveryRun => execRecoveryRun_keeps s hk
  | .kekInstall => execKekInstall_keeps s hk
  | .ownerRotate ok => execOwnerRotate_keeps ok s hk
  | .evrClear => execEvrClear_keeps s hk
  | .debugClose => execDebugClose_keeps s hk
  | .quote refused => execQuote_keeps refused s hk
  | .fwBegin refused ok => execFwBegin_keeps refused ok s hk
  | .fwData refused ok => execFwData_keeps refused ok s hk
  | .fwEnd refused ok => execFwEnd_keeps refused ok s hk
  | .mboxClaim rq => execMboxClaim_keeps rq s hk
  | .mboxRelease rq => execMboxRelease_keeps rq s hk
  | .newNonce => execNewNonce_keeps s hk
  | .flashProgram rq sameCycle => execFlashProgram_keeps rq sameCycle s hk
  | .flashErase rq sameCycle => execFlashErase_keeps rq sameCycle s hk
  | .flashSuspend rq => execFlashSuspend_keeps rq s hk
  | .flashResume rq => execFlashResume_keeps rq s hk
  | .otpProgram rq sameCycle => execOtpProgram_keeps rq sameCycle s hk
  | .flashProgramDone ok => execFlashProgramDone_keeps ok s hk
  | .erasePulseDone erased => execErasePulseDone_keeps erased s hk
  | .heldGoStart => execHeldGoStart_keeps s hk
  | .flashRead rq v wrong => execFlashRead_keeps rq v wrong s hk
  | .inputOkLow => execInputOkLow_keeps s hk
  | .inputOkQualified => execInputOkQualified_keeps s hk
  | .faultNLow => execFaultNLow_keeps s hk
  | .faultNHigh => execFaultNHigh_keeps s hk
  | .pwrbtnPress => execPwrbtnPress_keeps s hk
  | .longpress => execLongpress_keeps s hk
  | .mrstAssert => execMrstAssert_keeps s hk
  | .mrstRelease => execMrstRelease_keeps s hk
  | .shutdown rq => execShutdown_keeps rq s hk
  | .tableLoad table => execTableLoad_keeps table s hk
  | .onSequenceStart ms => execOnSequenceStart_keeps ms s hk
  | .slotEnable slot us nacks => execSlotEnable_keeps slot us nacks s hk
  | .slotDisable slot us => execSlotDisable_keeps slot us s hk
  | .slotQualified slot us straps => execSlotQualified_keeps slot us straps s hk
  | .sequenceFault slot us => execSequenceFault_keeps slot us s hk
  | .railFault slot => execRailFault_keeps slot s hk
  | .offSequenceEnd us pg => execOffSequenceEnd_keeps us pg s hk
  | .enterRun rq => execEnterRun_keeps rq s hk
  | .enterTrim rq => execEnterTrim_keeps rq s hk
  | .enterHold rq => execEnterHold_keeps rq s hk
  | .holdQuiesceDone => execHoldQuiesceDone_keeps s hk
  | .enterStandby rq => execEnterStandby_keeps rq s hk
  | .twbGo rq port => execTwbGo_keeps rq port s hk
  | .twbTransactionDone port bytes x => execTwbTransactionDone_keeps port bytes x s hk
  | .twbTimeout port stuck bytes => execTwbTimeout_keeps port stuck bytes s hk
  | .busClear write port x => execBusClear_keeps write port x s hk
  | .portReset rq port => execPortReset_keeps rq port s hk
  | .sequencerPreempt port bytes => execSequencerPreempt_keeps port bytes s hk
  | .status => execStatus_keeps s hk
  | .firstFault => execFirstFault_keeps s hk
  | .seqCause => execSeqCause_keeps s hk
  | .deviceId => execDeviceId_keeps s hk
  | .quoteHash => execQuoteHash_keeps s hk
  | .powerReqWake pec => execPowerReqWake_keeps pec s hk
  | .powerReqOff pec => execPowerReqOff_keeps pec s hk
  | .mboxReq data pec => execMboxReq_keeps data pec s hk
  | .mboxResp => execMboxResp_keeps s hk
  | .capability => execCapability_keeps s hk
  | .readTemperature1 => execReadTemperature1_keeps s hk
  | .pmbusRevision => execPmbusRevision_keeps s hk
  | .mfrId => execMfrId_keeps s hk
  | .mfrModel => execMfrModel_keeps s hk
  | .mfrRevision => execMfrRevision_keeps s hk
  | .twtTimeout => execTwtTimeout_keeps s hk
  | .twtWake => execTwtWake_keeps s hk
  | .capture point => execCapture_keeps point s hk
  | .captureDone tjMean entries => execCaptureDone_keeps tjMean entries s hk
  | .recorderTrigger => execRecorderTrigger_keeps s hk
  | .fwTrigger input code => execFwTrigger_keeps input code s hk
  | .recordProgrammed => execRecordProgrammed_keeps s hk
  | .sectorEraseDone => execSectorEraseDone_keeps s hk
  | .portEgress lp cycle => execPortEgress_keeps lp cycle s hk
  | .vaonInLoss => execVaonInLoss_keeps s hk
  | .pwrbtnRelease => execPwrbtnRelease_keeps s hk
  | .powerGoodBreak slot us => execPowerGoodBreak_keeps slot us s hk
  | .busFree port => execBusFree_keeps port s hk
  | .signalDetect port => execSignalDetect_keeps port s hk

/-- Every row's meaning is a next state, whatever its guards decide (log 1). -/
theorem exec_next (c : Instr) (s : State) : ∃ t, exec c s = .next t := by
  cases c
  all_goals exact ⟨_, rfl⟩

theorem State.wf_withPending (s : State) (q : List Instr) : (s.withPending q).wf = s.wf := rfl

/-- A step answers a state in canonical form, from one in that form. -/
theorem step_wf {s t : State} (h : s.wf = true) (hst : step s = .next t) : t.wf = true := by
  unfold step at hst
  split at hst
  · cases hst; exact h
  · exact (exec_keeps _ (Keeps.refl _) t hst).2 (by rwa [State.wf_withPending])

theorem State.wf_reset : State.reset.wf = true := by
  simp [State.wf, Bar.wf, Mem.wf, State.reset]

/-- Nothing is listed after reset, so every register reads as the reset value of its offset. -/
theorem State.reg_reset (off : Nat) : State.reset.reg off = resetOf off := rfl

theorem resetOf_regAt {off : Nat} {d : RegDesc} (h : regAt off = some d) : resetOf off = BitVec.ofNat 32 d.reset := by
  simp [resetOf, h]

/-! ## A bit and its writes -/

/-- A word whose bit `i` is replaced holds the new bit there. -/
theorem bitOf_setFld_same {n i : Nat} (w : BitVec n) (b : Bool) (h : i < n) :
    bitOf (setFld w i i (if b then 1 else 0)) i = b := by
  have hp : 0 < 2 ^ i := Nat.two_pow_pos i
  have hb : (if b then 1 else 0) % 2 = b.toNat := by cases b <;> rfl
  have hx : w.toNat / 2 ^ (i + 1) * 2 ^ (i + 1) + b.toNat * 2 ^ i + w.toNat % 2 ^ i =
      w.toNat % 2 ^ i + 2 ^ i * (2 * (w.toNat / 2 ^ (i + 1)) + b.toNat) := by ring
  have hq : (w.toNat % 2 ^ i + 2 ^ i * (2 * (w.toNat / 2 ^ (i + 1)) + b.toNat)) / 2 ^ i =
      2 * (w.toNat / 2 ^ (i + 1)) + b.toNat := by
    rw [Nat.add_mul_div_left _ _ hp, Nat.div_eq_of_lt (Nat.mod_lt _ hp), Nat.zero_add]
  have hbit : ∀ x : Nat, (x / 2 ^ i % 2 == 1) = x.testBit i := fun x => by
    rw [Nat.testBit_eq_decide_div_mod_eq]; rfl
  simp only [bitOf, setFld, BitVec.toNat_ofNat, Nat.add_sub_cancel_left, Nat.pow_one, hb]
  rw [hbit, Nat.testBit_mod_two_pow, ← hbit, hx, hq]
  cases b <;> simp [h]

theorem State.getB_setB_same (s : State) (off : Nat) {i : Nat} (b : Bool) (h : i < 32) :
    (s.setB off i b).getB off i = b := by
  rw [State.getB, State.setB, State.reg_setF, bitOf_setFld_same _ _ h]

/-! ## Discarded writes (R9, R573) -/

/-- The MSI-X message that may go with it leaves the registers alone. -/
@[simp] theorem State.reg_ctlErr (s : State) (bit o : Nat) :
    (s.ctlErr bit).reg o = (s.setB Reg.CTL_ERR bit true).reg o := by
  unfold State.ctlErr
  dsimp only
  split <;> rfl

@[simp] theorem State.getB_ctlErr (s : State) (bit o i : Nat) :
    (s.ctlErr bit).getB o i = (s.setB Reg.CTL_ERR bit true).getB o i := by
  rw [State.getB, State.reg_ctlErr, ← State.getB]

/-- A write that is discarded sets its bit of CTL_ERR and leaves its offset in CTL_ERR_ADDR; no other register changes. -/
theorem State.discard_flags {s : State} (off : BitVec 26) {bit : Nat} (hb : bit < 32) (h : s.pcieUp = true) :
    (s.discard off bit).getB Reg.CTL_ERR bit = true ∧
    (s.discard off bit).reg Reg.CTL_ERR_ADDR = BitVec.ofNat 32 off.toNat ∧
    ∀ o, o ≠ Reg.CTL_ERR → o ≠ Reg.CTL_ERR_ADDR → (s.discard off bit).reg o = s.reg o := by
  have hd : s.discard off bit = (s.flagAddr off.toNat).ctlErr bit := by simp [State.discard, h]
  rw [hd]
  refine ⟨?_, ?_, fun o h1 h2 => ?_⟩
  · rw [State.getB_ctlErr, State.getB_setB_same _ _ _ hb]
  · rw [State.reg_ctlErr, State.reg_setB_other _ _ _ (by decide), State.flagAddr, State.reg_setReg]
  · rw [State.reg_ctlErr, State.reg_setB_other _ _ _ h1, State.flagAddr, State.reg_setReg_other _ _ h2]

/-! ## Writes (R8, R10, R12) -/

theorem State.busWrite_unlisted {s : State} {rq : Requester} {off : Nat} {v : Word} (h : regAt off = none) :
    s.busWrite rq off v = s := by simp [State.busWrite, h]

/-- A write of one register, from a requester that reaches BAR0. -/
theorem exec_registerWrite {s : State} {rq : Requester} (off : BitVec 26) (v : Word) (h : s.reaches rq = true) :
    exec (.registerWrite rq off v none) s = .next (s.busWrite rq off.toNat v) := by
  change execRegisterWrite rq off v none s = _
  simp [execRegisterWrite, h]

/-- Where no field of the register acts, nothing happens beyond the access codes. -/
theorem State.writeActs_plain {s : State} {rq : Requester} {off : Nat} {v : Word} (h : Claims.plainRegister off = true) :
    s.writeActs rq off v = s := by
  simp only [Claims.plainRegister, List.contains_cons, List.contains_nil, Bool.and_eq_true, Bool.not_eq_true',
    Bool.or_eq_false_iff, beq_eq_false_iff_ne] at h
  obtain ⟨⟨-, hstg⟩, -, -, -, h1, h2, h3, h4, h5, h6, h7, h8, h9, h10, h11, -⟩ := h
  rw [State.writeActs, if_neg h1, if_neg h2, if_neg h3, if_neg h4, if_neg h5, if_neg h6, if_neg h7, if_neg h8, if_neg h9,
    if_neg h10, if_neg h11, if_neg (by simp [hstg])]

/-- A write to a register whose fields only store is by its access codes. -/
theorem State.busWrite_plain {s : State} {rq : Requester} {off : Nat} {v : Word} {d : RegDesc} (hd : regAt off = some d)
    (hs : isDataPlane off = false ∨ s.sec.dark = false) (h : Claims.plainRegister off = true) :
    s.busWrite rq off v = s.writeCodes off d v := by
  have hdark : (isDataPlane off && s.sec.dark) = false := by rcases hs with hs | hs <;> simp [hs]
  have hacts := fun t : State => State.writeActs_plain (s := t) (rq := rq) (v := v) h
  simp only [Claims.plainRegister, List.contains_cons, List.contains_nil, Bool.and_eq_true, Bool.not_eq_true',
    Bool.or_eq_false_iff, beq_eq_false_iff_ne] at h
  obtain ⟨⟨⟨hring, hmbox⟩, -⟩, hctrl, hrd, htck, -⟩ := h
  have hv : s.asWritten off v = v := by simp [State.asWritten, htck]
  simp only [State.busWrite, hd, hdark, hacts, hv]
  rw [if_neg (by simp), if_neg (by simp [hring]), if_neg hctrl, if_neg hrd, if_neg (by simp [hmbox])]

/-- The value in force, which a data-plane register takes as well, is no part of what its own plane sees (R19). -/
theorem State.reg_writeCodes (s : State) (off : Nat) (d : RegDesc) (v : Word) (o : Nat) :
    (s.writeCodes off d v).reg o = (s.setReg off (d.written (s.reg off) v)).reg o := by
  unfold State.writeCodes
  dsimp only
  split <;> rfl

theorem State.writeCodes_stored (s : State) (off : Nat) (d : RegDesc) (v : Word) :
    Claims.Stored s (s.writeCodes off d v) off d v := by
  refine ⟨?_, fun o h => ?_⟩
  · rw [State.reg_writeCodes, State.reg_setReg]
  · rw [State.reg_writeCodes, State.reg_setReg_other _ _ h]

/-- A write by the access codes changes the register bank alone. -/
theorem State.writeCodes_frame (s : State) (off : Nat) (d : RegDesc) (v : Word) :
    s.writeCodes off d v = { s with bar := (s.writeCodes off d v).bar } := by
  unfold State.writeCodes
  dsimp only
  split <;> rfl

/-! ## The recorder's window and the pairs -/

/-- The offset lies in the recorder's window, EVR_WIN (R551). -/
def inWindow (off : Nat) : Prop := Reg.EVR_WIN ≤ off ∧ off < Reg.EVR_WIN + 256

/-- Every word of the recorder's window is listed. -/
theorem regAt_window {off : Nat} (h : inWindow off) (h4 : off % 4 = 0) : regAt off ≠ none := by
  obtain ⟨hlo, hhi⟩ : 0x310100 ≤ off ∧ off < 0x310200 := h
  have hb : blockRegs off = Reg.regsEVR := by
    unfold blockRegs
    iterate 21 rw [if_neg (by omega)]
    rw [if_pos (by omega)]
  have hi : (off - 0x310100) / 4 < 64 := by omega
  have hd : (off - 0x310100) / 4 * 4 = off - 0x310100 := by omega
  rw [regAt, hb, ne_eq, List.find?_eq_none]
  intro hnone
  refine hnone ⟨Reg.EVR_WIN, 64, 4, 1, 0, 0x0, 0x0, 0xFFFFFFFF, 0x0, 0x0, 0x0, 0x0⟩ (by decide) ?_
  simp [RegDesc.covers, hlo, hi, hd]

/-- No family of pairs reaches into the recorder's window. -/
theorem pairLows_window : ∀ f ∈ pairLows, f.1 + f.2.1 * f.2.2 ≤ Reg.EVR_WIN ∨ Reg.EVR_WIN + 256 ≤ f.1 := by decide

theorem isPairLow_window {off : Nat} (h : inWindow off) : isPairLow off = false := by
  rw [isPairLow, List.any_eq_false]
  intro f hf hc
  simp only [Bool.and_eq_true, decide_eq_true_eq] at hc
  obtain ⟨⟨hlo, hhi⟩, -⟩ := hc
  obtain ⟨hwlo, hwhi⟩ := h
  have hf' := pairLows_window f hf
  omega

/-- A pair at a multiple of 8 does not end at the window's start, which is a multiple of 8 as well. -/
theorem upper_not_window {off : Nat} (h8 : off % 8 = 0) (hp : isPairLow off = true) : ¬ inWindow (off + 4) := by
  rintro ⟨hlo, hhi⟩
  have hwin : Reg.EVR_WIN % 8 = 0 := by decide
  have hw : inWindow off := ⟨by omega, by omega⟩
  simp [isPairLow_window hw] at hp

/-! ## Reads (R9, R12, R15) -/

/-- Outside the recorder's window a read does nothing besides. -/
theorem State.readActs_outside {s : State} {off : Nat} {n : AccessSize} (h : ¬ inWindow off) : s.readActs off n = s := by
  rw [State.readActs, if_neg (by simpa [inWindow] using h)]

theorem State.captures_setCaptures (s : State) (rq : Requester) (m : Table Word) :
    (s.setCaptures rq m).captures rq = m := by cases rq <;> rfl

theorem State.find_captured (s : State) (rq : Requester) (k : Nat) (v : Word) (m : Table Word) :
    Maps.find k ((s.setCaptures rq (Maps.put k v m)).captures rq) = some v := by
  rw [State.captures_setCaptures, Maps.find_put_same]

theorem State.reg_setCaptures (s : State) (rq : Requester) (m : Table Word) (o : Nat) :
    (s.setCaptures rq m).reg o = s.reg o := by cases rq <;> rfl

theorem State.captures_given (s : State) (rq q : Requester) (v : DWord) : (s.given rq v).captures q = s.captures q := by
  cases q <;> rfl

theorem State.reg_given (s : State) (rq : Requester) (v : DWord) (o : Nat) : (s.given rq v).reg o = s.reg o := rfl

theorem State.lastRead_given (s : State) (rq : Requester) (v : DWord) :
    Maps.find (Requester.index rq) (s.given rq v).bar.lastRead = some v := Maps.find_put_same _ _ _

/-- A word's register is the one at its own offset. -/
theorem word_aligned {off : Nat} (h : off % 4 = 0) : off / 4 * 4 = off := Nat.div_mul_cancel (Nat.dvd_of_mod_eq_zero h)

/-- A read of a pair's lower register gives it and captures the upper one for the requester (R15). -/
theorem State.busRead_lower {s : State} {rq : Requester} {off : Nat} (h4 : off % 4 = 0) (hp : isPairLow off = true) :
    s.busRead rq off .four =
      (s.shown off, s.setCaptures rq (Maps.put (off + 4) (s.shown (off + 4)) (s.captures rq))) := by
  have hw : ¬ inWindow off := fun hw => by simp [isPairLow_window hw] at hp
  simp [State.busRead, word_aligned h4, State.readActs_outside hw, hp, AccessSize.pick]

/-- A read of a register that the requester has captured takes the capture (R15). -/
theorem State.busRead_captured {s : State} {rq : Requester} {off : Nat} {v : Word} (h4 : off % 4 = 0)
    (hp : isPairLow off = false) (hw : ¬ inWindow off) (hc : Maps.find off (s.captures rq) = some v) :
    s.busRead rq off .four = (v, s.setCaptures rq (Maps.del off (s.captures rq))) := by
  simp [State.busRead, word_aligned h4, State.readActs_outside hw, hp, hc, AccessSize.pick]

/-- A read at an unlisted offset gives 0 (R12). -/
theorem State.busRead_unlisted {s : State} {rq : Requester} {off : Nat} (h4 : off % 4 = 0) (h : regAt off = none)
    (hp : isPairLow off = false) (hc : Maps.find off (s.captures rq) = none) : s.busRead rq off .four = (0, s) := by
  have hw : ¬ inWindow off := fun hw => regAt_window hw h4 h
  simp [State.busRead, word_aligned h4, State.readActs_outside hw, hp, hc, AccessSize.pick, State.shown, h]

/-- A read of one register, from a requester that reaches BAR0. -/
theorem exec_read_four {s t : State} {rq : Requester} {off : BitVec 26} {v : Word} (h : s.reaches rq = true)
    (hr : s.busRead rq off.toNat .four = (v, t)) :
    exec (.registerPairLowerRead rq off .four) s = .next (t.given rq (BitVec.setWidth 64 v)) := by
  change execRegisterPairLowerRead rq off .four s = _
  simp [execRegisterPairLowerRead, h, hr]

/-- A read of 8 bytes is two of 4, the lower offset first (R9). -/
theorem exec_read_eight {s t u : State} {rq : Requester} {off : BitVec 26} {v w : Word} (h : s.reaches rq = true)
    (hlo : s.busRead rq off.toNat .four = (v, t)) (hhi : t.busRead rq (off.toNat + 4) .four = (w, u)) :
    exec (.registerPairLowerRead rq off .eight) s = .next (u.given rq (w ++ v)) := by
  change execRegisterPairLowerRead rq off .eight s = _
  simp [execRegisterPairLowerRead, h, hlo, hhi]

/-! ## The statements of the family -/

/-- Settles O5: the empty queue leaves the state, and every row's meaning keeps the canonical form. -/
theorem stepKeepsCanonicalForm : Obligations.StepKeepsCanonicalForm := fun _ _ h hst => step_wf h hst

/-- Settles O3: each row's meaning is a next state by its own definition. -/
theorem everyCommandAnswers : Obligations.EveryCommandAnswers := exec_next

/-- Settles O6: every table and memory is empty after reset. -/
theorem resetIsCanonical : Obligations.ResetIsCanonical := ⟨State.wf_reset, rfl⟩

/-- Settles O7: nothing is listed after reset, so each register reads as its Reset column. -/
theorem resetRegisters : Obligations.ResetRegisters := fun off _ h => (State.reg_reset off).trans (resetOf_regAt h)

/-- Settles O8: an unlisted offset is no word of the recorder's window, so reading it does nothing besides giving 0. -/
theorem unlistedOffsets : Obligations.UnlistedOffsets := by
  refine ⟨fun s rq off v hr h => ?_, fun s rq off hr h4 h hp hc => ?_⟩
  · rw [exec_registerWrite off v hr, State.busWrite_unlisted h]
  · exact ⟨_, exec_read_four hr (State.busRead_unlisted h4 h hp hc), State.lastRead_given _ _ _, fun _ => rfl⟩

/-! ## The clauses of RegisterAccesses -/

/-- A write to a register whose fields only store changes that register and the bank alone (R8, R10). -/
theorem exec_write_plain {s : State} {rq : Requester} {off : BitVec 26} {v : Word} {d : RegDesc} (hr : s.reaches rq = true)
    (hd : regAt off.toNat = some d) (hs : isDataPlane off.toNat = false ∨ s.sec.dark = false)
    (hp : Claims.plainRegister off.toNat = true) :
    ∃ t, exec (.registerWrite rq off v none) s = .next t ∧ Claims.Stored s t off.toNat d v ∧ t = { s with bar := t.bar } := by
  refine ⟨s.writeCodes off.toNat d v, ?_, State.writeCodes_stored _ _ _ _, State.writeCodes_frame _ _ _ _⟩
  rw [exec_registerWrite off v hr, State.busWrite_plain hd hs hp]

/-- A read of a pair's lower register gives it, and leaves the upper one captured (R15). -/
theorem exec_read_lower {s : State} {rq : Requester} {off : BitVec 26} (hr : s.reaches rq = true) (h4 : off.toNat % 4 = 0)
    (hp : isPairLow off.toNat = true) :
    ∃ t, exec (.registerPairLowerRead rq off .four) s = .next t ∧
      Maps.find (Requester.index rq) t.bar.lastRead = some (BitVec.setWidth 64 (s.shown off.toNat)) ∧
      Maps.find (off.toNat + 4) (t.captures rq) = some (s.shown (off.toNat + 4)) ∧ (∀ o, t.reg o = s.reg o) ∧
      t = { s with bar := t.bar } := by
  refine ⟨_, exec_read_four hr (State.busRead_lower h4 hp), State.lastRead_given _ _ _, ?_, fun o => ?_, ?_⟩
  · rw [State.captures_given, State.find_captured]
  · rw [State.reg_given, State.reg_setCaptures]
  · cases rq <;> rfl

/-- A 64-bit read of a pair: its second half takes the capture that its first half left (R9, R15). -/
theorem exec_read_pair {s : State} {rq : Requester} {off : BitVec 26} (hr : s.reaches rq = true) (h8 : off.toNat % 8 = 0)
    (hp : isPairLow off.toNat = true) (hup : isPairLow (off.toNat + 4) = false) :
    ∃ t, exec (.registerPairLowerRead rq off .eight) s = .next t ∧
      Maps.find (Requester.index rq) t.bar.lastRead = some (s.shown (off.toNat + 4) ++ s.shown off.toNat) ∧
      ∀ o, t.reg o = s.reg o := by
  have hw : ¬ inWindow (off.toNat + 4) := upper_not_window h8 hp
  have hlo := State.busRead_lower (s := s) (rq := rq) (by omega) hp
  have hhi := State.busRead_captured (by omega) hup hw
    (State.find_captured s rq (off.toNat + 4) (s.shown (off.toNat + 4)) (s.captures rq))
  refine ⟨_, exec_read_eight hr hlo hhi, State.lastRead_given _ _ _, fun o => ?_⟩
  rw [State.reg_given, State.reg_setCaptures, State.reg_setCaptures]

/-- A read of an upper register takes what the requester has captured, once (R15). -/
theorem exec_read_captured {s : State} {rq : Requester} {off : BitVec 26} {v : Word} (hr : s.reaches rq = true)
    (h4 : off.toNat % 4 = 0) (hp : isPairLow off.toNat = false) (hw : ¬ inWindow off.toNat)
    (hc : Maps.find off.toNat (s.captures rq) = some v) :
    ∃ t, exec (.registerPairLowerRead rq off .four) s = .next t ∧
      Maps.find (Requester.index rq) t.bar.lastRead = some (BitVec.setWidth 64 v) ∧
      Maps.find off.toNat (t.captures rq) = none ∧ ∀ o, t.reg o = s.reg o := by
  refine ⟨_, exec_read_four hr (State.busRead_captured h4 hp hw hc), State.lastRead_given _ _ _, ?_, fun o => ?_⟩
  · rw [State.captures_given, State.captures_setCaptures, Maps.find_del_same]
  · rw [State.reg_given, State.reg_setCaptures]

/-- Settles O23, clause by clause. -/
theorem registerAccesses : Obligations.RegisterAccesses :=
  ⟨fun _ _ _ _ _ hr hd hs hp => exec_write_plain hr hd hs hp,
    fun _ _ _ hr h4 hp _ => exec_read_lower hr h4 hp,
    fun _ _ _ hr h8 hp hup => exec_read_pair hr h8 hp hup,
    fun _ _ _ _ hr h4 hp hw hc => exec_read_captured hr h4 hp hw hc,
    fun _ off h => ⟨_, rfl, State.discard_flags off (by decide) h⟩,
    fun _ off h => ⟨_, rfl, State.discard_flags off (by decide) h⟩⟩

end Sys2Proof.Machine
end

section
/-! Proofs of the family 02_tick_and_classes, the clock: single fields of a register, what reports leave alone, and the events of
PPS_IN and LOAD_ARM (O30). -/

namespace Sys2Proof.Machine

open Sys2Proof

/-! ## Fields of a word -/

theorem bitOf_eq_testBit {n : Nat} (w : BitVec n) (i : Nat) : bitOf w i = w.toNat.testBit i := by
  rw [Nat.testBit_eq_decide_div_mod_eq]; rfl

/-- A word whose field is replaced: the field's bits are those of the value, the others stay. -/
theorem testBit_setFld {n hi lo : Nat} (w : BitVec n) (v i : Nat) (h : lo ≤ hi) :
    (setFld w hi lo v).toNat.testBit i =
      (decide (i < n) && if lo ≤ i ∧ i ≤ hi then v.testBit (i - lo) else w.toNat.testBit i) := by
  have hlow : w.toNat % 2 ^ lo < 2 ^ lo := Nat.mod_lt _ (Nat.two_pow_pos lo)
  have hmid : 2 ^ lo * (v % 2 ^ (hi + 1 - lo)) + w.toNat % 2 ^ lo < 2 ^ (hi + 1) := by
    have hv : v % 2 ^ (hi + 1 - lo) + 1 ≤ 2 ^ (hi + 1 - lo) := Nat.mod_lt _ (Nat.two_pow_pos _)
    have hp : 2 ^ lo * 2 ^ (hi + 1 - lo) = 2 ^ (hi + 1) := by rw [← pow_add]; congr 1; omega
    have := Nat.mul_le_mul_left (2 ^ lo) hv
    rw [hp, Nat.mul_add, Nat.mul_one] at this
    omega
  have hx : w.toNat / 2 ^ (hi + 1) * 2 ^ (hi + 1) + v % 2 ^ (hi + 1 - lo) * 2 ^ lo + w.toNat % 2 ^ lo =
      2 ^ (hi + 1) * (w.toNat / 2 ^ (hi + 1)) + (2 ^ lo * (v % 2 ^ (hi + 1 - lo)) + w.toNat % 2 ^ lo) := by ring
  simp only [setFld, BitVec.toNat_ofNat, Nat.testBit_mod_two_pow, hx]
  rw [Nat.testBit_two_pow_mul_add _ hmid, Nat.testBit_two_pow_mul_add _ hlow]
  congr 1
  by_cases hhi : i < hi + 1
  · by_cases hlo : i < lo
    · simp [hhi, hlo, Nat.not_le.2 hlo]
    · have hd : i - lo < hi + 1 - lo := by omega
      simp [hhi, hlo, hd, Nat.not_lt.1 hlo, Nat.lt_succ_iff.1 hhi]
  · have hle : ¬ i ≤ hi := by omega
    simp [hhi, hle, Nat.testBit_div_two_pow, Nat.sub_add_cancel (Nat.not_lt.1 hhi)]

/-- Writing one bit of a word leaves the others. -/
theorem bitOf_setFld_other {n i j : Nat} (w : BitVec n) (v : Nat) (h : j ≠ i) : bitOf (setFld w i i v) j = bitOf w j := by
  have hout : ¬ (i ≤ j ∧ j ≤ i) := by omega
  rw [bitOf_eq_testBit, bitOf_eq_testBit, testBit_setFld _ _ _ (Nat.le_refl i), if_neg hout]
  by_cases hj : j < n
  · simp [hj]
  · have hw : w.toNat < 2 ^ j := Nat.lt_of_lt_of_le w.isLt (Nat.pow_le_pow_right (by omega) (Nat.not_lt.1 hj))
    simp [hj, Nat.testBit_lt_two_pow hw]

/-- A field of a word reads as the low bits of what was written to it. -/
theorem fld_setFld_same {n hi lo : Nat} (w : BitVec n) (v : Nat) (h : lo ≤ hi) (hn : hi < n) :
    fld (setFld w hi lo v) hi lo = v % 2 ^ (hi + 1 - lo) := by
  refine Nat.eq_of_testBit_eq fun i => ?_
  rw [fld, Nat.testBit_mod_two_pow, Nat.testBit_div_two_pow, testBit_setFld _ _ _ h, Nat.testBit_mod_two_pow]
  by_cases hi' : i < hi + 1 - lo
  · have hr : lo ≤ i + lo ∧ i + lo ≤ hi := by omega
    have hlt : i + lo < n := by omega
    simp [hi', hr, hlt]
  · simp [hi']

/-- A bit keeps its value where another bit is written. -/
theorem State.getB_setB_other (s : State) {off i o j : Nat} (b : Bool) (h : o = off → j ≠ i) :
    (s.setB off i b).getB o j = s.getB o j := by
  by_cases ho : o = off
  · subst ho
    rw [State.getB, State.setB, State.reg_setF, bitOf_setFld_other _ _ (h rfl), State.getB]
  · rw [State.getB, State.reg_setB_other _ _ _ ho, State.getB]

theorem State.getF_setF_same (s : State) (off : Nat) {hi lo : Nat} (v : Nat) (h : lo ≤ hi) (hn : hi < 32) :
    (s.setF off hi lo v).getF off hi lo = v % 2 ^ (hi + 1 - lo) := by
  rw [State.getF, State.reg_setF, fld_setFld_same _ _ h hn]

/-! ## Notifications and triggers, as the clock sees them -/

/-- The registers that a notification on CR0 or a trigger of the recorder writes (R544, R576, R585). -/
def reportRegs : List Nat := [ringCqTail 0, Reg.CTL_NOTIFY_DROP, Reg.EVR_STATUS]

/-- `t` comes from `s` by reports alone: the clock, the fields in force and every other register are those of `s`. -/
structure Reported (s t : State) : Prop where
  tck : t.tck = s.tck
  eff : t.bar.eff = s.bar.eff
  reg : ∀ o, o ∉ reportRegs → t.reg o = s.reg o

namespace Reported

variable {s t u : State}

theorem getB (h : Reported s t) {o : Nat} (i : Nat) (ho : o ∉ reportRegs) : t.getB o i = s.getB o i := by
  rw [State.getB, h.reg o ho, State.getB]

theorem timeSrc (h : Reported s t) : t.timeSrc = s.timeSrc := by
  rw [State.timeSrc, State.effF, h.eff, State.timeSrc, State.effF]

theorem ite {p : Prop} [Decidable p] (ht : Reported s t) (hu : Reported s u) : Reported s (if p then t else u) := by
  split
  · exact ht
  · exact hu

theorem withCtl (h : Reported s t) (c : Ctl) : Reported s { t with ctl := c } := ⟨h.tck, h.eff, h.reg⟩

theorem withEvr (h : Reported s t) (c : Evr) : Reported s { t with evr := c } := ⟨h.tck, h.eff, h.reg⟩

theorem setReg (h : Reported s t) {off : Nat} (v : Word) (hr : off ∈ reportRegs) : Reported s (t.setReg off v) :=
  ⟨h.tck, h.eff, fun o ho => (t.reg_setReg_other v (ne_of_mem_of_not_mem hr ho).symm).trans (h.reg o ho)⟩

theorem writeEntry (h : Reported s t) (e : RingEntry) : Reported s (t.writeEntry 0 e) := by
  have hw {x : Ctl} {v : Word} := (h.withCtl x).setReg (off := ringCqTail 0) v (by decide)
  exact ite (hw.withCtl _) hw

theorem notify (h : Reported s t) (type b2 b3 : Nat) (w0 w1 w2 : DWord) : Reported s (t.notify type b2 b3 w0 w1 w2) := by
  have hl : Reported s t.writeLost := by
    unfold State.writeLost
    split
    · exact (h.writeEntry _).withCtl _
    · exact h
  unfold State.notify
  dsimp only
  split
  · exact (hl.writeEntry _).withCtl _
  · exact (hl.setReg (off := Reg.CTL_NOTIFY_DROP) _ (by decide)).withCtl _

theorem trigger (h : Reported s t) (input code level source : Nat) : Reported s (t.trigger input code level source) := by
  unfold State.trigger
  split
  · exact h
  · split
    · exact (h.withEvr _).setReg (off := Reg.EVR_STATUS) _ (by decide)
    · exact h.withEvr _

end Reported

theorem Reported.refl (s : State) : Reported s s := ⟨rfl, rfl, fun _ _ => rfl⟩

/-! ## Measuring an edge of PPS_IN (R35–R37) -/

/-- What acting on a measured distance leaves: PPS_FAR, its report and whether it was reported apart, the clock and its registers stay. -/
structure Steered (s t : State) : Prop where
  tck : ∃ far, t.tck = { s.tck with farPosted := far }
  bit : ∀ i, i ≠ 5 → t.getB Reg.TCK_STATUS i = s.getB Reg.TCK_STATUS i
  reg : ∀ o, o ∉ Reg.TCK_STATUS :: reportRegs → t.reg o = s.reg o

/-- PPS_FAR written, whether it has been posted kept, and reports after that. -/
theorem Reported.steered {s t : State} {far : Bool} (b : Bool)
    (h : Reported { s.setB Reg.TCK_STATUS 5 b with tck := { s.tck with farPosted := far } } t) : Steered s t where
  tck := ⟨far, h.tck⟩
  bit i hi := (h.getB i (by decide)).trans (s.getB_setB_other b fun _ => hi)
  reg o ho := by
    rw [List.mem_cons, not_or] at ho
    obtain ⟨hs, hr⟩ := ho
    exact (h.reg o hr).trans (s.reg_setB_other 5 b hs)

theorem State.steer_steered (s : State) (d : Int) : Steered s (s.steer d) := by
  unfold State.steer
  split
  · split
    · exact ⟨⟨_, rfl⟩, fun _ _ => rfl, fun _ _ => rfl⟩
    · dsimp only
      split
      · exact (Reported.refl _).steered true
      · exact (((Reported.refl _).notify 0x14 0 1 0 0 0).trigger 21 1 0 0).steered true
  · exact (Reported.refl _).steered false

/-- A measured distance stands to be slewed and is shown in PPS_PHASE; the counter and PPS_PRESENT stay (R35, R36). -/
theorem State.gotPhase_shows (s : State) (d : Int) :
    (∃ far, (s.gotPhase d).tck = { s.tck with phase := some d, farPosted := far }) ∧
    (s.gotPhase d).getB Reg.TCK_STATUS 0 = s.getB Reg.TCK_STATUS 0 ∧
    (s.gotPhase d).reg Reg.TCK_PPS_PHASE = BitVec.ofInt 32 d := by
  obtain ⟨htck, hbit, hreg⟩ := State.steer_steered
    { (s.setReg Reg.TCK_PPS_PHASE (BitVec.ofInt 32 d)).setB Reg.TCK_STATUS 2 (d.natAbs ≤ s.lockWindow) with
      tck := { s.tck with phase := some d } } d
  refine ⟨htck, (hbit 0 (by decide)).trans ?_, (hreg _ (by decide)).trans ?_⟩
  · exact (State.getB_setB_other _ _ (by decide)).trans (congrArg (bitOf · 0) (s.reg_setReg_other _ (by decide)))
  · exact (State.reg_setB_other _ _ _ (by decide)).trans (s.reg_setReg _ _)

/-- The state in which a selected edge is measured, where there is neither a holdover nor an armed load. -/
abbrev State.edgeSeen (s : State) : State :=
  ({ s with tck := { s.tck with lastEdge := some s.tck.boundaries } } : State).setB Reg.TCK_STATUS 0 true

theorem exec_ppsEdge_measured {s : State} {falling : Bool} {cycle : Fin 1025} (hf : falling = s.effB Reg.TCK_CTRL 6)
    (hsrc : s.timeSrc = 1) (harm : s.loadArmed = false) (hhold : s.getB Reg.TCK_STATUS 4 = false) :
    exec (.ppsEdge falling cycle) s = .next (s.edgeSeen.gotPhase (s.secondDist cycle)) := by
  have hhold' : s.edgeSeen.getB Reg.TCK_STATUS 4 = false := (State.getB_setB_other _ _ (by decide)).trans hhold
  have harm' : s.edgeSeen.loadArmed = false := (State.getB_setB_other _ _ (by decide)).trans harm
  have hsrc' : s.edgeSeen.timeSrc = 1 := hsrc
  change execPpsEdge falling cycle s = _
  unfold execPpsEdge
  rw [if_neg (by simp [hf])]
  dsimp only
  rw [if_neg (Bool.eq_false_iff.1 hhold'), if_neg (not_not.2 hsrc'), if_neg (Bool.eq_false_iff.1 harm')]
  rfl

/-- A selected edge with SRC PPS, outside a holdover and with no load armed (R35, R36). -/
theorem exec_ppsEdge {s : State} {falling : Bool} {cycle : Fin 1025} (hf : falling = s.effB Reg.TCK_CTRL 6)
    (hsrc : s.timeSrc = 1) (harm : s.loadArmed = false) (hhold : s.getB Reg.TCK_STATUS 4 = false) :
    ∃ t, exec (.ppsEdge falling cycle) s = .next t ∧ t.tck.lastEdge = some s.tck.boundaries ∧
      t.getB Reg.TCK_STATUS 0 = true ∧ t.reg Reg.TCK_PPS_PHASE = BitVec.ofInt 32 (s.secondDist cycle) ∧
      t.tck.tick = s.tck.tick ∧ t.tck.phase = some (s.secondDist cycle) := by
  obtain ⟨⟨far, htck⟩, hpresent, hphase⟩ := s.edgeSeen.gotPhase_shows (s.secondDist cycle)
  refine ⟨_, exec_ppsEdge_measured hf hsrc harm hhold, ?_, ?_, hphase, ?_, ?_⟩
  · rw [htck]; rfl
  · rw [hpresent, State.getB_setB_same _ _ _ (by decide)]
  · rw [htck]; rfl
  · rw [htck]

/-! ## LOAD_ARM and PPS_LOST (R37, R38) -/

theorem exec_loadArm (s : State) :
    ∃ t, exec .loadArm s = .next t ∧ t.loadArmed = true ∧ Claims.OtherRegs s t [Reg.TCK_CTRL] ∧ t = { s with bar := t.bar } := by
  refine ⟨s.setB Reg.TCK_CTRL 0 true, rfl, State.getB_setB_same _ _ _ (by decide), fun o ho => ?_, rfl⟩
  exact s.reg_setB_other 0 true (by simpa using ho)

/-- Under SRC PPS a holdover leaves no distance to slew by (R38). -/
theorem State.selDist_holdover {s : State} (hsrc : s.timeSrc = 1) (hhold : s.getB Reg.TCK_STATUS 4 = true) : s.selDist = none := by
  rw [State.selDist, if_pos hsrc, if_pos hhold]

/-- Edges missing for LOST_LIMIT seconds begin a holdover (R38). -/
theorem exec_ppsLost {s : State} (hsrc : s.timeSrc = 1) (hhold : s.getB Reg.TCK_STATUS 4 = false)
    (hlost : s.tck.lastEdge.getD 0 + s.lostLimit * 3000000 ≤ s.tck.boundaries) :
    ∃ t, exec .ppsLost s = .next t ∧ t.getB Reg.TCK_STATUS 4 = true ∧ t.getB Reg.TCK_STATUS 0 = false ∧ t.selDist = none ∧
      t.tck.tick = s.tck.tick := by
  have h := ((Reported.refl ((s.setB Reg.TCK_STATUS 4 true).setB Reg.TCK_STATUS 0 false)).notify 0x14 0 2 0 0 0).trigger 21 2 0 0
  have h4 := (h.getB 4 (by decide)).trans
    ((State.getB_setB_other _ _ (by decide)).trans (State.getB_setB_same _ _ _ (by decide)))
  refine ⟨_, ?_, h4, (h.getB 0 (by decide)).trans (State.getB_setB_same _ _ _ (by decide)),
    State.selDist_holdover (h.timeSrc.trans hsrc) h4, congrArg Tck.tick h.tck⟩
  change execPpsLost s = _
  simp [execPpsLost, State.edgeLost, hsrc, hhold, hlost]

/-- Settles O30, clause by clause. -/
theorem clockEvents : Obligations.ClockEvents :=
  ⟨fun _ _ _ hf hsrc harm hhold => exec_ppsEdge hf hsrc harm hhold, exec_loadArm,
    fun _ hsrc hhold hlost => exec_ppsLost hsrc hhold hlost⟩

end Sys2Proof.Machine
end

section
/-! Proofs of the family 02_tick_and_classes, the ports: links that come and go, address questions, PFC, dropped frames and
egress (O31). -/

namespace Sys2Proof.Machine

open Sys2Proof

/-! ## Registers of the ports -/

/-- A counter raised by one, and nothing else. -/
theorem State.onlyCounted_bump (s : State) (off : Nat) : Claims.OnlyCounted s (s.bump off) off :=
  ⟨s.reg_bumpBy off 1, fun o ho => s.reg_bumpBy_other 1 (by simpa using ho), rfl⟩

theorem State.lpUp_setB_same (s : State) (lp : Nat) (b : Bool) :
    (s.setB (prtReg Reg.PRT_STATUS lp) (16 + lp % 4) b).lpUp lp = b :=
  State.getB_setB_same _ _ _ (by omega)

/-- `t` differs from `s` in the register bank alone. -/
def OnlyBar (s t : State) : Prop := ∃ x, t = { s with bar := x }

namespace OnlyBar

variable {s t : State}

theorem refl (s : State) : OnlyBar s s := ⟨_, rfl⟩

theorem eq (h : OnlyBar s t) : t = { s with bar := t.bar } := by
  obtain ⟨x, rfl⟩ := h
  rfl

theorem setReg (h : OnlyBar s t) (off : Nat) (v : Word) : OnlyBar s (t.setReg off v) := by
  obtain ⟨x, rfl⟩ := h
  exact ⟨_, rfl⟩

theorem setF (h : OnlyBar s t) (off hi lo v : Nat) : OnlyBar s (t.setF off hi lo v) := h.setReg off _

end OnlyBar

/-! ## A record taken out or replaced -/

/-- Taking out or replacing one record leaves the others. -/
theorem Maps.find_del_or_put_other {α : Type} {p : Prop} [Decidable p] {k i : Nat} (v : α) (m : Table α) (h : i ≠ k) :
    Maps.find i (if p then Maps.del k m else Maps.put k v m) = Maps.find i m := by
  split
  · exact Maps.find_del_other h m
  · exact Maps.find_put_other v h m

/-- A queue, listed only while frames wait in it. -/
theorem Maps.getD_del_or_put (k : Nat) (fs : List Frame) (m : Table (List Frame)) :
    Maps.getD (if fs.isEmpty then Maps.del k m else Maps.put k fs m) k [] = fs := by
  cases fs with
  | nil => simp [Maps.getD, Maps.find_del_same]
  | cons f fs => simp [Maps.getD]

/-! ## Frames queued (R94) -/

/-- A frame put at the end of a port's queue. -/
theorem State.queued_enqueue (s : State) (lp : Nat) (f : Frame) : Claims.Queued s (s.enqueue lp f) lp f :=
  ⟨Maps.find_put_same _ _ _, fun _ hk => Maps.find_put_other _ hk _⟩

/-- `t` differs from `s` in the transport's tables alone. -/
def OnlyTrn (s t : State) : Prop := ∃ x, t = { s with trn := x }

theorem OnlyTrn.trans {s t u : State} (h : OnlyTrn s t) (h' : OnlyTrn t u) : OnlyTrn s u := by
  obtain ⟨x, rfl⟩ := h
  obtain ⟨y, rfl⟩ := h'
  exact ⟨y, rfl⟩

theorem State.dropOutstanding_onlyTrn (s : State) (q : BitVec 24) (o : Option Nat) : OnlyTrn s (s.dropOutstanding q o) := by
  unfold State.dropOutstanding
  split
  · exact ⟨_, rfl⟩
  · exact ⟨_, rfl⟩

/-- A frame that departs stands at the end of its port's queue without the entries that go with it, whose freeing is the transport's own
(R96). -/
theorem State.depart_enqueues (s : State) (lp : Nat) (f : Frame) :
    OnlyTrn (s.enqueue lp { f with opt := none, acks := [] }) (s.depart lp f) := by
  unfold State.depart
  exact List.foldlRecOn _ _ ⟨_, rfl⟩ fun t ht o _ => ht.trans (.trans ⟨_, rfl⟩ (State.dropOutstanding_onlyTrn (t.freeOpt o) _ _))

theorem State.sendOut_egress {s : State} {c : Qp} {f : Frame} (hy : s.twn.yieldedAt = none) (hup : s.lpUp c.egressLp = true) :
    s.sendOut c f = s.depart c.egressLp f := by
  rw [State.sendOut, if_neg (by simp [hy]), if_pos hup]

/-- `t` comes from `s` by QPs' frames going out: the transport's tables, the held frames and the queues of ports that are up apart,
nothing has changed (R94). -/
def SentOut (s t : State) : Prop :=
  ∃ trn egress heldOut, t = { s with trn, prt := { s.prt with egress, heldOut } } ∧
    ∀ k, s.lpUp k = false → Maps.find k egress = Maps.find k s.prt.egress

namespace SentOut

variable {s t u : State}

theorem refl (s : State) : SentOut s s := ⟨_, _, _, rfl, fun _ _ => rfl⟩

theorem trans (h : SentOut s t) (h' : SentOut t u) : SentOut s u := by
  obtain ⟨_, _, _, rfl, hd⟩ := h
  obtain ⟨x, e, w, rfl, hd'⟩ := h'
  exact ⟨x, e, w, rfl, fun k hk => (hd' k hk).trans (hd k hk)⟩

theorem lpUp (h : SentOut s t) (k : Nat) : t.lpUp k = s.lpUp k := by
  obtain ⟨_, _, _, rfl, -⟩ := h
  rfl

theorem reg (h : SentOut s t) (o : Nat) : t.reg o = s.reg o := by
  obtain ⟨_, _, _, rfl, -⟩ := h
  rfl

theorem depart {lp : Nat} (s : State) (f : Frame) (h : s.lpUp lp = true) : SentOut s (s.depart lp f) := by
  obtain ⟨x, hx⟩ := s.depart_enqueues lp f
  refine ⟨x, _, _, hx, fun k hk => Maps.find_put_other _ ?_ _⟩
  rintro rfl
  simp [h] at hk

theorem sendOut (s : State) (c : Qp) (f : Frame) : SentOut s (s.sendOut c f) := by
  unfold State.sendOut
  split
  · exact refl s
  · split
    · next h => exact depart s f h
    · split
      · next h => exact depart s f h
      · exact ⟨_, _, _, rfl, fun _ _ => rfl⟩

/-- Frames sent one after the other, each for its QP where that exists. -/
theorem foldl (fs : List Frame) (h : SentOut s t) :
    SentOut s (fs.foldl (fun s f => match s.qp f.qpn with | some c => s.sendOut c f | none => s) t) := by
  refine List.foldlRecOn _ _ h fun u hu f _ => ?_
  split
  · exact hu.trans (sendOut u _ f)
  · exact hu

end SentOut

/-! ## A logical port comes up or goes down (R60, R94) -/

/-- A logical port that has come up, before the held frames are sent. -/
abbrev State.cameUp (s : State) (lp : Fin 32) : State :=
  let forced := if s.effB (prtReg Reg.PRT_MODE lp) 4 then Maps.del lp.val s.prt.forced else Maps.put lp.val true s.prt.forced
  ({ s with prt := { s.prt with forced } } : State).setB (prtReg Reg.PRT_STATUS lp) (16 + lp % 4) true

theorem exec_logicalPortUp_eq {s : State} {lp : Fin 32} (h : s.lpExists lp = true) :
    exec (.logicalPortUp lp) s = .next (s.cameUp lp).sendHeld := by
  change execLogicalPortUp lp s = _
  rw [execLogicalPortUp, if_neg (by simp [h])]

theorem SentOut.sendHeld (s : State) : SentOut s s.sendHeld :=
  .foldl s.prt.heldOut ⟨_, _, _, rfl, fun _ _ => rfl⟩

theorem State.sendHeld_nil {s : State} (h : s.prt.heldOut = []) :
    s.sendHeld = { s with prt := { s.prt with heldOut := [] } } := by
  rw [State.sendHeld, h, List.foldl_nil]

/-- The one frame held goes to the queue of its QP's EGRESS_LP, which is up, and none is held after that. -/
theorem State.sendHeld_singleton {s : State} {f : Frame} {c : Qp} (hf : s.prt.heldOut = [f]) (hc : s.qp f.qpn = some c)
    (hy : s.twn.yieldedAt = none) (hup : s.lpUp c.egressLp = true) :
    s.sendHeld.prt.heldOut = [] ∧ Claims.Queued s s.sendHeld c.egressLp { f with opt := none, acks := [] } := by
  have hsend : s.sendHeld = ({ s with prt := { s.prt with heldOut := [] } } : State).sendOut c f := by
    rw [State.sendHeld, hf, List.foldl_cons, List.foldl_nil]
    change (match s.qp f.qpn with | some c => _ | none => _) = _
    rw [hc]
  have hdepart := hsend.trans (State.sendOut_egress (s := { s with prt := { s.prt with heldOut := [] } }) hy hup)
  obtain ⟨x, hx⟩ := State.depart_enqueues { s with prt := { s.prt with heldOut := [] } } c.egressLp f
  rw [hdepart, hx]
  exact ⟨rfl, s.queued_enqueue c.egressLp { f with opt := none, acks := [] }⟩

theorem exec_logicalPortUp {s : State} {lp : Fin 32} (h : s.lpExists lp = true) :
    ∃ t, exec (.logicalPortUp lp) s = .next t ∧ t.lpUp lp = true ∧ Claims.OtherRegs s t [prtReg Reg.PRT_STATUS lp] ∧
      t = { s with bar := t.bar, prt := t.prt, trn := t.trn } ∧
      (s.prt.heldOut = [] → t.trn = s.trn ∧ t.prt.egress = s.prt.egress) ∧
      ∀ f c, s.prt.heldOut = [f] → s.qp f.qpn = some c → c.egressLp = lp.val → s.twn.yieldedAt = none →
        t.prt.heldOut = [] ∧ Claims.Queued s t lp { f with opt := none, acks := [] } := by
  have hsent := SentOut.sendHeld (s.cameUp lp)
  have hup : (s.cameUp lp).lpUp lp = true := State.lpUp_setB_same _ _ _
  refine ⟨_, exec_logicalPortUp_eq h, (hsent.lpUp lp).trans hup, fun o ho => ?_, ?_, fun hnil => ?_, fun f c hf hc hlp hy => ?_⟩
  · exact (hsent.reg o).trans (State.reg_setB_other _ _ _ (by simpa using ho))
  · obtain ⟨_, _, _, ht, -⟩ := hsent
    rw [ht]
    rfl
  · rw [State.sendHeld_nil (s := s.cameUp lp) hnil]
    exact ⟨rfl, rfl⟩
  · rw [← hlp]
    exact State.sendHeld_singleton (s := s.cameUp lp) hf hc hy (by rw [hlp]; exact hup)

/-- A logical port that has gone down, before its queue goes elsewhere. -/
abbrev State.wentDown (s : State) (lp : Nat) : State :=
  { s.setB (prtReg Reg.PRT_STATUS lp) (16 + lp % 4) false with
    prt := { s.prt with egress := Maps.del lp s.prt.egress, forced := Maps.del lp s.prt.forced } }

theorem State.wentDown_lpUp (s : State) (lp : Nat) : (s.wentDown lp).lpUp lp = false := State.lpUp_setB_same s lp false

theorem SentOut.portDown (s : State) (lp : Nat) : SentOut (s.wentDown lp) (s.portDown lp) :=
  .foldl (Maps.getD s.prt.egress lp []) (.refl _)

theorem State.portDown_nil {s : State} {lp : Nat} (h : Maps.getD s.prt.egress lp [] = []) : s.portDown lp = s.wentDown lp := by
  rw [State.portDown, h]
  rfl

theorem exec_logicalPortDown (s : State) (lp : Fin 32) :
    ∃ t, exec (.logicalPortDown lp) s = .next t ∧ t.lpUp lp = false ∧
      Claims.OtherRegs s t [prtReg Reg.PRT_STATUS lp] ∧ Maps.find lp.val t.prt.egress = none ∧
      t = { s with bar := t.bar, prt := t.prt, trn := t.trn } ∧
      (Maps.getD s.prt.egress lp [] = [] → t.trn = s.trn ∧ t.prt.heldOut = s.prt.heldOut ∧
        ∀ k, k ≠ lp.val → Maps.find k t.prt.egress = Maps.find k s.prt.egress) := by
  have hsent := SentOut.portDown s lp
  refine ⟨s.portDown lp, rfl, (hsent.lpUp lp).trans (s.wentDown_lpUp lp), fun o ho => ?_, ?_, ?_, fun hnil => ?_⟩
  · exact (hsent.reg o).trans (s.reg_setB_other _ _ (by simpa using ho))
  · obtain ⟨_, _, _, ht, hdown⟩ := hsent
    rw [ht]
    exact (hdown lp (s.wentDown_lpUp lp)).trans (Maps.find_del_same _ _)
  · obtain ⟨_, _, _, ht, -⟩ := hsent
    rw [ht]
    rfl
  · rw [State.portDown_nil hnil]
    exact ⟨rfl, rfl, fun k hk => Maps.find_del_other hk _⟩

/-! ## Address questions (R61) -/

/-- The answer to a question for an address of `n` bytes. -/
abbrev State.addressAnswer (s : State) (lp : Nat) (kind : FrameKind) (n target mac ip : Nat) : Frame :=
  { kind, bth := 0, data := s.lpMac lp ++ beBytes target n ++ beBytes mac 6 ++ beBytes ip n }

theorem exec_arpRequest {s : State} {lp : Fin 32} {vlan : Option (BitVec 12)} {target : Word} (mac : BitVec 48) (ip : Word)
    (hup : s.lpUp lp = true) (hvlan : s.vlanOk lp (vlan.map BitVec.toNat) = true)
    (hen : s.effB (lpReg Reg.PRT_LP_CFG lp) 13 = true) (hip : s.effF (lpReg Reg.PRT_LP_IPV4 lp) 31 0 = target.toNat) :
    ∃ t f, exec (.arpRequest lp vlan target mac ip) s = .next t ∧ Claims.Queued s t lp f ∧ f.kind = .arpReply ∧
      f.data = s.lpMac lp ++ beBytes target.toNat 4 ++ beBytes mac.toNat 6 ++ beBytes ip.toNat 4 ∧
      t = { s with prt := { s.prt with egress := t.prt.egress } } := by
  refine ⟨_, _, ?_, s.queued_enqueue lp (s.addressAnswer lp .arpReply 4 target.toNat mac.toNat ip.toNat), rfl, rfl, rfl⟩
  change execArpRequest lp vlan target mac ip s = _
  rw [execArpRequest, if_neg (by simp [hup]), if_pos (by simp [hvlan, hen, hip])]

theorem exec_neighborSolicitation {s : State} {lp : Fin 32} {vlan : Option (BitVec 12)} {target : BitVec 128} (mac : BitVec 48)
    (ip : BitVec 128) (hup : s.lpUp lp = true) (hvlan : s.vlanOk lp (vlan.map BitVec.toNat) = true)
    (hen : s.effB (lpReg Reg.PRT_LP_CFG lp) 14 = true) (hip : s.lpIpv6 lp = target.toNat) :
    ∃ t f, exec (.neighborSolicitation lp vlan target mac ip) s = .next t ∧ Claims.Queued s t lp f ∧ f.kind = .neighborAdvert ∧
      f.data = s.lpMac lp ++ beBytes target.toNat 16 ++ beBytes mac.toNat 6 ++ beBytes ip.toNat 16 ∧
      t = { s with prt := { s.prt with egress := t.prt.egress } } := by
  refine ⟨_, _, ?_, s.queued_enqueue lp (s.addressAnswer lp .neighborAdvert 16 target.toNat mac.toNat ip.toNat), rfl, rfl, rfl⟩
  change execNeighborSolicitation lp vlan target mac ip s = _
  rw [execNeighborSolicitation, if_neg (by simp [hup]), if_pos (by simp [hvlan, hen, hip])]

/-! ## Received PFC (R64) -/

/-- A nonzero number of quanta takes some cycles. -/
theorem State.quantaCycles_pos (s : State) (lp : Nat) {n : Nat} (h : 0 < n) : 0 < s.quantaCycles lp n := by
  have hbit : 0 < s.cclkPerBit lp := by
    unfold State.cclkPerBit
    split
    all_goals decide
  have : 0 < n * 512 * s.cclkPerBit lp := Nat.mul_pos (by omega) hbit
  exact Nat.div_pos (by omega) (by decide)

/-- A priority whose record is the only one taken out or replaced is the only one whose pause may change. -/
theorem State.paused_other {s : State} {m : Table Nat} {k lp q : Nat}
    (hm : ∀ i, i ≠ k → Maps.find i m = Maps.find i s.prt.pausedRx) (h : prioKey lp q ≠ k) :
    ({ s with prt := { s.prt with pausedRx := m } } : State).paused lp q = s.paused lp q :=
  congrArg (fun e : Option Nat => decide (s.tck.start < e.getD 0)) (hm _ h)

theorem State.paused_del (s : State) (lp q : Nat) :
    ({ s with prt := { s.prt with pausedRx := Maps.del (prioKey lp q) s.prt.pausedRx } } : State).paused lp q = false := by
  simp [State.paused, Maps.getD, Maps.find_del_same]

theorem State.paused_put (s : State) (lp q e : Nat) :
    ({ s with prt := { s.prt with pausedRx := Maps.put (prioKey lp q) e s.prt.pausedRx } } : State).paused lp q =
      decide (s.tck.start < e) := by
  simp [State.paused, Maps.getD]

/-- A PFC frame for one enabled priority pauses it, or releases it with 0 quanta (R64). -/
theorem exec_pfcFrame {s : State} {lp : Fin 32} {q : Fin 8} (n : BitVec 16) (hup : s.lpUp lp = true)
    (hen : s.effB (prtReg Reg.PRT_PFC_CFG lp) q = true) :
    ∃ t, exec (.pfcFrame lp [(q, n)]) s = .next t ∧ t.paused lp q = decide (n ≠ 0) ∧
      (∀ lp' q', prioKey lp' q' ≠ prioKey lp q → t.paused lp' q' = s.paused lp' q') ∧
      t = { s with prt := { s.prt with pausedRx := t.prt.pausedRx } } := by
  have hexec : exec (.pfcFrame lp [(q, n)]) s = .next { s with prt := { s.prt with
      pausedRx := if n = 0 then Maps.del (prioKey lp q) s.prt.pausedRx
        else Maps.put (prioKey lp q) (s.tck.start + s.quantaCycles lp n.toNat) s.prt.pausedRx } } := by
    change execPfcFrame lp [(q, n)] s = _
    rw [execPfcFrame, if_neg (by simp [hup]), List.foldl_cons, List.foldl_nil, if_pos hen]
  refine ⟨_, hexec, ?_, fun lp' q' hk => State.paused_other (fun i hi => Maps.find_del_or_put_other _ _ hi) hk, rfl⟩
  by_cases hn : n = 0
  · rw [if_pos hn, State.paused_del, decide_eq_false (not_not.2 hn)]
  · have hpos : 0 < n.toNat := Nat.pos_of_ne_zero fun h0 => hn (BitVec.eq_of_toNat_eq h0)
    have hcyc := s.quantaCycles_pos lp hpos
    rw [if_neg hn, State.paused_put, decide_eq_true hn, decide_eq_true (Nat.lt_add_of_pos_right hcyc)]

theorem exec_pfcPauseExpiry {s : State} {lp : Fin 32} {q : Fin 8}
    (h : Maps.getD s.prt.pausedRx (prioKey lp q) 0 ≤ s.tck.start + s.tck.length) :
    ∃ t, exec (.pfcPauseExpiry lp q) s = .next t ∧ t.paused lp q = false ∧
      (∀ lp' q', prioKey lp' q' ≠ prioKey lp q → t.paused lp' q' = s.paused lp' q') ∧
      t = { s with prt := { s.prt with pausedRx := t.prt.pausedRx } } := by
  refine ⟨_, ?_, s.paused_del lp q, fun lp' q' hk => State.paused_other (fun i hi => Maps.find_del_other hi _) hk, rfl⟩
  change execPfcPauseExpiry lp q s = _
  rw [execPfcPauseExpiry, if_neg (Nat.not_lt.2 h)]

/-! ## Frames that are dropped (R61, R62, R68) -/

theorem exec_badCrcFrame {s : State} {lp : Fin 32} (h : s.lpUp lp = true) :
    ∃ t, exec (.badCrcFrame lp) s = .next t ∧ Claims.OnlyCounted s t (prtReg Reg.PRT_DROP_CRC lp) := by
  refine ⟨_, ?_, s.onlyCounted_bump _⟩
  change execBadCrcFrame lp s = _
  rw [execBadCrcFrame, if_pos h]

/-- A dropped frame of no event message, or of one that is not captured, is counted alone (R61). -/
theorem exec_otherFrameDrop {s : State} {lp : Fin 32} {ptp : Option PtpEvent} (h : s.lpUp lp = true)
    (hp : ptp.isSome = true → s.effB (prtReg Reg.PRT_TS_CFG lp) 25 = false) :
    ∃ t, exec (.otherFrameDrop lp ptp) s = .next t ∧ Claims.OnlyCounted s t (prtReg Reg.PRT_DROP_OTHER lp) := by
  refine ⟨_, ?_, s.onlyCounted_bump _⟩
  change execOtherFrameDrop lp ptp s = _
  cases ptp with
  | none => rw [execOtherFrameDrop, if_neg (by simp [h])]
  | some e => simp [execOtherFrameDrop, h, hp rfl]

theorem dropOther_ne_tsEntry (lp w k : Nat) : prtReg Reg.PRT_DROP_OTHER lp ≠ prtReg Reg.PRT_TS_ENTRY0 lp + w + k := by
  simp only [prtReg, Reg.PRT_DROP_OTHER, Reg.PRT_TS_ENTRY0]
  omega

theorem dropOther_ne_tsWidx (lp : Nat) : prtReg Reg.PRT_DROP_OTHER lp ≠ prtReg Reg.PRT_TS_WIDX lp := by
  simp only [prtReg, Reg.PRT_DROP_OTHER, Reg.PRT_TS_WIDX]
  omega

theorem tsEntry_ne_tsWidx (lp w k : Nat) : prtReg Reg.PRT_TS_ENTRY0 lp + w + k ≠ prtReg Reg.PRT_TS_WIDX lp := by
  simp only [prtReg, Reg.PRT_TS_ENTRY0, Reg.PRT_TS_WIDX]
  omega

/-! A capture writes an entry of the port's ring and WIDX, and no drop counter (R68). -/

theorem State.capture_onlyBar (s : State) (lp : Nat) (sent qpPacket : Bool) (cycle type seq : Nat) :
    OnlyBar s (s.capture lp sent qpPacket cycle type seq) :=
  (((((OnlyBar.refl s).setReg _ _).setReg _ _).setReg _ _).setF _ _ _ _).setF _ _ _ _

theorem State.reg_capture_dropOther (s : State) (lp : Nat) (sent qpPacket : Bool) (cycle type seq : Nat) :
    (s.capture lp sent qpPacket cycle type seq).reg (prtReg Reg.PRT_DROP_OTHER lp) = s.reg (prtReg Reg.PRT_DROP_OTHER lp) := by
  have hentry := dropOther_ne_tsEntry lp (16 * s.getF (prtReg Reg.PRT_TS_WIDX lp) 3 0)
  have hwidx := dropOther_ne_tsWidx lp
  rw [State.capture, State.reg_setF_other _ _ _ _ hwidx, State.reg_setF_other _ _ _ _ hwidx, State.reg_setReg_other _ _ (hentry 8),
    State.reg_setReg_other _ _ (hentry 4)]
  exact s.reg_setReg_other _ (hentry 0)

theorem State.reg_capture_entry (s : State) (lp : Nat) (sent qpPacket : Bool) (cycle type seq : Nat) :
    (s.capture lp sent qpPacket cycle type seq).reg
      (prtReg Reg.PRT_TS_ENTRY0 lp + 16 * s.getF (prtReg Reg.PRT_TS_WIDX lp) 3 0 + 8) = BitVec.ofNat 32 (type * 2 ^ 24 + seq) := by
  have hwidx := tsEntry_ne_tsWidx lp (16 * s.getF (prtReg Reg.PRT_TS_WIDX lp) 3 0) 8
  rw [State.capture, State.reg_setF_other _ _ _ _ hwidx, State.reg_setF_other _ _ _ _ hwidx, State.reg_setReg]

theorem State.getF_capture_widx (s : State) (lp : Nat) (sent qpPacket : Bool) (cycle type seq : Nat) :
    (s.capture lp sent qpPacket cycle type seq).getF (prtReg Reg.PRT_TS_WIDX lp) 3 0 =
      (s.getF (prtReg Reg.PRT_TS_WIDX lp) 3 0 + 1) % 16 := by
  rw [State.capture, State.getF_setF_same _ _ _ (by decide) (by decide)]
  rfl

/-- A dropped event message that is captured (R61, R68). -/
theorem exec_otherFrameDrop_captured {s : State} {lp : Fin 32} {e : PtpEvent} {w : Nat} (h : s.lpUp lp = true)
    (hp : s.effB (prtReg Reg.PRT_TS_CFG lp) 25 = true) (hw : s.getF (prtReg Reg.PRT_TS_WIDX lp) 3 0 = w) :
    ∃ t, exec (.otherFrameDrop lp (some e)) s = .next t ∧
      t.reg (prtReg Reg.PRT_DROP_OTHER lp) = s.reg (prtReg Reg.PRT_DROP_OTHER lp) + 1 ∧
      t.reg (prtReg Reg.PRT_TS_ENTRY0 lp + 16 * w + 8) = BitVec.ofNat 32 (e.type.toNat * 2 ^ 24 + e.seq.toNat) ∧
      t.getF (prtReg Reg.PRT_TS_WIDX lp) 3 0 = (w + 1) % 16 ∧ t = { s with bar := t.bar } := by
  subst hw
  refine ⟨(s.capture lp false false e.cycle e.type.toNat e.seq.toNat).bump (prtReg Reg.PRT_DROP_OTHER lp), ?_, ?_, ?_, ?_,
    ((s.capture_onlyBar lp false false e.cycle e.type.toNat e.seq.toNat).setReg _ _).eq⟩
  · change execOtherFrameDrop lp (some e) s = _
    simp [execOtherFrameDrop, h, hp]
  · rw [State.bump, State.reg_bumpBy, State.reg_capture_dropOther]
    rfl
  · rw [State.bump, State.reg_bumpBy_other _ _ (dropOther_ne_tsEntry lp _ 8).symm, State.reg_capture_entry]
  · rw [State.bump, State.getF, State.reg_bumpBy_other _ _ (dropOther_ne_tsWidx lp).symm, ← State.getF, State.getF_capture_widx]

/-! ## PFC sent (R65) -/

/-- The ingress occupancy of a priority, within what the buffer has room for. -/
abbrev State.occupied (s : State) (lp q occ : Nat) : State :=
  { s with prt := { s.prt with
    occ := Maps.wr (fun _ => 0) s.prt.occ (prioKey lp q) (Nat.min occ (ingressUnits - s.ingressOther lp q)) } }

/-- While PFC is asserted, the occupancy lifts it or leaves it. -/
theorem State.ingress_pausing {s : State} {lp q : Nat} (occ : Nat) (hp : s.pausing lp q = true) (hy : s.twn.yieldedAt = none) :
    s.ingress lp q occ = if min occ (ingressUnits - s.ingressOther lp q) ≤ s.xon lp then (s.occupied lp q occ).sendPfc lp q 0
      else s.occupied lp q occ := by
  have hp' : (s.occupied lp q occ).pausing lp q = true := hp
  unfold State.ingress
  dsimp only
  rw [if_neg (by simp [hy]), if_neg (by simp [hp'])]
  simp only [hp', Bool.true_and, decide_eq_true_eq]
  rfl

theorem State.queued_sendPfc (s : State) (lp q quanta : Nat) :
    Claims.Queued s (s.sendPfc lp q quanta) lp { kind := .pfc, bth := 0, prio := q, quanta } :=
  State.queued_enqueue _ lp _

theorem State.pausing_sendPfc (s : State) (lp q quanta : Nat) : (s.sendPfc lp q quanta).pausing lp q = decide (quanta ≠ 0) := by
  change Maps.has (if quanta = 0 then _ else _) (prioKey lp q) = _
  by_cases h : quanta = 0
  · simp [h, Maps.has, Maps.find_del_same]
  · simp [h, Maps.has]

/-- At XON or below the priority is released (R65). -/
theorem exec_pfcRepeat_lifts {s : State} {lp : Fin 32} {q : Fin 8} {occ : Nat} (hp : s.pausing lp q = true)
    (hy : s.twn.yieldedAt = none) (hocc : min occ (ingressUnits - s.ingressOther lp q) ≤ s.xon lp) :
    ∃ t f, exec (.pfcRepeat lp q occ) s = .next t ∧ Claims.Queued s t lp f ∧ f.kind = .pfc ∧ f.prio = q.val ∧ f.quanta = 0 ∧
      t.pausing lp q = false := by
  have hlift := (s.occupied lp q occ).pausing_sendPfc lp q 0
  refine ⟨(s.occupied lp q occ).sendPfc lp q 0, _, ?_, (s.occupied lp q occ).queued_sendPfc lp q 0, rfl, rfl, rfl, hlift⟩
  change execPfcRepeat lp q occ s = _
  rw [execPfcRepeat, if_neg (by simp [hp]), State.ingress_pausing occ hp hy, if_pos hocc]
  dsimp only
  rw [if_neg (by simp [hlift])]

/-- Above XON the pause is sent again once it is due (R65). -/
theorem exec_pfcRepeat_repeats {s : State} {lp : Fin 32} {q : Fin 8} {occ : Nat} (hp : s.pausing lp q = true)
    (hy : s.twn.yieldedAt = none) (hocc : s.xon lp < min occ (ingressUnits - s.ingressOther lp q))
    (hdue : s.repeatDue lp q = true) :
    ∃ t f, exec (.pfcRepeat lp q occ) s = .next t ∧ Claims.Queued s t lp f ∧ f.kind = .pfc ∧ f.prio = q.val ∧
      f.quanta = 0xFFFF ∧ t.pausing lp q = true := by
  have hp' : (s.occupied lp q occ).pausing lp q = true := hp
  have hdue' : (s.occupied lp q occ).repeatDue lp q = true := hdue
  refine ⟨(s.occupied lp q occ).sendPfc lp q 0xFFFF, _, ?_, (s.occupied lp q occ).queued_sendPfc lp q 0xFFFF, rfl, rfl, rfl,
    State.pausing_sendPfc _ lp q 0xFFFF⟩
  change execPfcRepeat lp q occ s = _
  rw [execPfcRepeat, if_neg (by simp [hp]), State.ingress_pausing occ hp hy, if_neg (Nat.not_le.2 hocc)]
  dsimp only
  rw [if_pos (by rw [hp', hdue']; rfl)]

/-! ## Egress (R45–R48, R63, R67) -/

/-- A loan is settled once: looking again finds the same. -/
theorem State.lent_settleLoan (s : State) (lp cycle : Nat) : (s.settleLoan lp cycle).lent lp cycle = s.lent lp cycle := by
  rw [State.lent]
  simp only [State.settleLoan, Maps.find_put_same, if_true]

/-- Settling the loan of an entry does not change what it grants. -/
theorem State.chooseFrame_settleLoan (s : State) (lp cycle : Nat) :
    (s.settleLoan lp cycle).chooseFrame lp cycle = s.chooseFrame lp cycle := by
  rw [State.chooseFrame, State.lent_settleLoan]
  rfl

/-- The ports once frame `f` has started on `lp` in a cycle: out of its queue, on the wire, and marked unless it is the port's own. -/
abbrev State.started (s : State) (lp cycle : Nat) (f : Frame) : State :=
  let fs := (Maps.getD s.prt.egress lp []).erase f
  let out := if f.ofPort then f else
    { f with ect0 := s.effB Reg.TRN_CTRL 0, pcp := s.classPrio lp f.cls, dscp := s.classDscp lp f.cls }
  { s.settleLoan lp cycle with prt := { (s.settleLoan lp cycle).prt with
    egress := if fs.isEmpty then Maps.del lp s.prt.egress else Maps.put lp fs s.prt.egress
    sent := Maps.put lp (out, s.now, cycle) s.prt.sent
    busy := Maps.put lp (s.tck.start + cycle + s.frameCycles lp f) s.prt.busy } }

theorem State.prt_captureQp (s : State) (lp : Nat) (sent : Bool) (qpn : BitVec 24) (cycle bth : Nat) (psn : BitVec 24) :
    (s.captureQp lp sent qpn cycle bth psn).prt = s.prt := by
  unfold State.captureQp
  split
  · rw [(s.capture_onlyBar lp sent true cycle bth psn.toNat).eq]
  · rfl

/-- The rest of a start of a QP's frame: Ristretto's slots are used, and the packet is captured where that is selected (R45, R68). -/
abbrev State.accounted (s : State) (lp cycle : Nat) (f : Frame) : State :=
  let tenant := match s.qp f.qpn with | some c => c.tenant | none => 0
  let s := if f.cls == .ristretto then s.useRis lp (entryAt cycle) (ceilDiv (s.frameCycles lp f) 16) tenant else s
  s.captureQp lp true f.qpn cycle f.bth f.psn

theorem State.prt_accounted (s : State) (lp cycle : Nat) (f : Frame) : (s.accounted lp cycle f).prt = s.prt := by
  rw [State.prt_captureQp]
  split
  · rfl
  · rfl

theorem exec_portEgress_starts {s : State} {lp : Fin 32} {cycle : Fin 1025} {f : Frame} (hup : s.lpUp lp = true)
    (hidle : s.sqr.serdesIdle = false) (hf : s.chooseFrame lp cycle = some f) :
    exec (.portEgress lp cycle) s =
      .next (if f.ofPort then s.started lp cycle f else (s.started lp cycle f).accounted lp cycle f) := by
  change execPortEgress lp cycle s = _
  rw [execPortEgress, if_neg (by simp [hup, hidle])]
  dsimp only
  rw [State.chooseFrame_settleLoan, hf]
  rfl

theorem exec_portEgress {s : State} {lp : Fin 32} {cycle : Fin 1025} {f : Frame} (hup : s.lpUp lp = true)
    (hidle : s.sqr.serdesIdle = false) (hf : s.chooseFrame lp cycle = some f) :
    ∃ t, exec (.portEgress lp cycle) s = .next t ∧
      Maps.find lp.val t.prt.sent = some (if f.ofPort then f else
        { f with ect0 := s.effB Reg.TRN_CTRL 0, pcp := s.classPrio lp f.cls, dscp := s.classDscp lp f.cls }, s.now, cycle.val) ∧
      (f.ofPort = true → t = { s with prt := t.prt }) ∧
      Maps.getD t.prt.egress lp [] = (Maps.getD s.prt.egress lp []).erase f ∧
      ∀ k, k ≠ lp.val → Maps.find k t.prt.egress = Maps.find k s.prt.egress := by
  refine ⟨_, exec_portEgress_starts hup hidle hf, ?_⟩
  have hprt : (if f.ofPort then s.started lp cycle f else (s.started lp cycle f).accounted lp cycle f).prt =
      (s.started lp cycle f).prt := by
    split
    · rfl
    · exact State.prt_accounted _ _ _ _
  rw [hprt]
  refine ⟨Maps.find_put_same _ _ _, fun hp => ?_, Maps.getD_del_or_put _ _ _, fun k hk => Maps.find_del_or_put_other _ _ hk⟩
  rw [if_pos hp]
  rfl

/-- Settles O31, clause by clause. -/
theorem portEvents : Obligations.PortEvents :=
  ⟨fun _ _ h => exec_logicalPortUp h, exec_logicalPortDown,
    fun _ _ _ _ mac ip hup hvlan hen hip => exec_arpRequest mac ip hup hvlan hen hip,
    fun _ _ _ _ mac ip hup hvlan hen hip => exec_neighborSolicitation mac ip hup hvlan hen hip,
    fun _ _ _ n hup hen => exec_pfcFrame n hup hen,
    fun _ _ _ h => exec_pfcPauseExpiry h,
    fun _ _ hup => exec_otherFrameDrop hup (by simp),
    fun _ _ _ hup hp => exec_otherFrameDrop hup fun _ => hp,
    fun _ _ _ _ hup hp hw => exec_otherFrameDrop_captured hup hp hw,
    fun _ _ hup => exec_badCrcFrame hup,
    fun _ _ _ _ hp hy hocc => exec_pfcRepeat_lifts hp hy hocc,
    fun _ _ _ _ hp hy hocc hdue => exec_pfcRepeat_repeats hp hy hocc hdue,
    fun _ _ _ _ hup hidle hf => exec_portEgress hup hidle hf⟩

end Sys2Proof.Machine
end

section
/-! Proofs of the family 03_ports_and_transport, arrivals: what the way of a packet to its checks leaves of the state, and that a
request at ePSN is processed (for O32, O33 and O59). -/

namespace Sys2Proof.Machine

open Sys2Proof

/-! ## A packet on its way to its checks (R61, R65, R68, R78, R120) -/

/-- Counters of the look-ups of a context and a descriptor (R83, R121). -/
def lookupRegs : List Nat := [Reg.TRN_CNT_HIT, Reg.TRN_CNT_EVICT_CANCEL, Reg.WIN_CNT_KC_HIT, Reg.WIN_CNT_KC_MISS]

/-- Where the registers of the physical ports end. -/
def portRegsEnd : Nat := 0x48000

/-- `t` comes from `s` by packets coming in and being looked up: ingress occupancy with its PFC, captures, the two caches and the
counters of look-ups apart, nothing has changed. -/
def CameIn (s t : State) : Prop :=
  ∃ val occ pauseTx egress cache writeback installs keyCache fetching,
    t = { s with
      bar := { s.bar with val }, prt := { s.prt with occ, pauseTx, egress }
      trn := { s.trn with cache, writeback, installs }, win := { s.win with keyCache, fetching } } ∧
    ∀ o, portRegsEnd ≤ o → o ∉ lookupRegs → t.reg o = s.reg o

namespace CameIn

variable {s t u : State}

theorem refl (s : State) : CameIn s s := ⟨_, _, _, _, _, _, _, _, _, rfl, fun _ _ _ => rfl⟩

theorem trans (h : CameIn s t) (h' : CameIn t u) : CameIn s u := by
  obtain ⟨_, _, _, _, _, _, _, _, _, rfl, hr⟩ := h
  obtain ⟨_, _, _, _, _, _, _, _, _, rfl, hr'⟩ := h'
  exact ⟨_, _, _, _, _, _, _, _, _, rfl, fun o hp hl => (hr' o hp hl).trans (hr o hp hl)⟩

theorem setReg (h : CameIn s t) {off : Nat} (v : Word) (ho : off < portRegsEnd ∨ off ∈ lookupRegs) : CameIn s (t.setReg off v) := by
  refine h.trans ⟨_, _, _, _, _, _, _, _, _, rfl, fun o hp hl => t.reg_setReg_other v ?_⟩
  rintro rfl
  exact ho.elim (Nat.not_lt.2 hp) hl

theorem bump (h : CameIn s t) {off : Nat} (ho : off ∈ lookupRegs) : CameIn s (t.bump off) := h.setReg _ (.inr ho)

theorem withTrn (h : CameIn s t) (cache : Table CacheSet) (writeback : Table Bool) (installs : Table (Nat × Nat)) :
    CameIn s { t with trn := { t.trn with cache, writeback, installs } } :=
  h.trans ⟨_, _, _, _, _, _, _, _, _, rfl, fun _ _ _ => rfl⟩

theorem withWin (h : CameIn s t) (keyCache : Table CacheSet) (fetching : Table Bool) :
    CameIn s { t with win := { t.win with keyCache, fetching } } :=
  h.trans ⟨_, _, _, _, _, _, _, _, _, rfl, fun _ _ _ => rfl⟩

/-! What admission reads is as it was. -/

theorem reg (h : CameIn s t) {o : Nat} (hp : portRegsEnd ≤ o) (hl : o ∉ lookupRegs) : t.reg o = s.reg o := by
  obtain ⟨_, _, _, _, _, _, _, _, _, -, hr⟩ := h
  exact hr o hp hl

theorem qp (h : CameIn s t) : t.qp = s.qp := by
  obtain ⟨_, _, _, _, _, _, _, _, _, rfl, -⟩ := h
  rfl

theorem window (h : CameIn s t) : t.window = s.window := by
  obtain ⟨_, _, _, _, _, _, _, _, _, rfl, -⟩ := h
  rfl

theorem opt (h : CameIn s t) : t.trn.opt = s.trn.opt := by
  obtain ⟨_, _, _, _, _, _, _, _, _, rfl, -⟩ := h
  rfl

theorem optFree (h : CameIn s t) : t.optFree = s.optFree := by
  obtain ⟨_, _, _, _, _, _, _, _, _, rfl, -⟩ := h
  rfl

theorem entryFor (h : CameIn s t) : t.entryFor = s.entryFor := by
  obtain ⟨_, _, _, _, _, _, _, _, _, rfl, -⟩ := h
  rfl

theorem conjEntry (h : CameIn s t) : t.conjEntry = s.conjEntry := by
  obtain ⟨_, _, _, _, _, _, _, _, _, rfl, -⟩ := h
  rfl

theorem repeatsFor (h : CameIn s t) : t.repeatsFor = s.repeatsFor := by
  obtain ⟨_, _, _, _, _, _, _, _, _, rfl, -⟩ := h
  rfl

theorem inMiss (h : CameIn s t) : t.inMiss = s.inMiss := by
  obtain ⟨_, _, _, _, _, _, _, _, _, rfl, -⟩ := h
  rfl

theorem twn (h : CameIn s t) : t.twn = s.twn := by
  obtain ⟨_, _, _, _, _, _, _, _, _, rfl, -⟩ := h
  rfl

/-- The window check sees the same (R117). -/
theorem checkAccess (h : CameIn s t) : t.checkAccess = s.checkAccess := by
  have hside : t.reg Reg.TWN_STATUS = s.reg Reg.TWN_STATUS := h.reg (by decide) (by decide)
  obtain ⟨_, _, _, _, _, _, _, _, _, rfl, -⟩ := h
  funext tenant a
  unfold State.checkAccess State.homeCode State.serves State.pairState State.getB State.getF
  rw [hside]
  rfl

end CameIn

/-! ## The steps of that way -/

/-- The ingress buffer's own: its occupancy, PFC asserted, and the PFC frames queued (R65). -/
theorem State.ingress_eq (s : State) (lp q occ : Nat) : ∃ occ' pauseTx egress,
    s.ingress lp q occ = { s with prt := { s.prt with occ := occ', pauseTx, egress } } := by
  unfold State.ingress
  dsimp only
  split
  · exact ⟨_, _, _, rfl⟩
  · split
    · exact ⟨_, _, _, rfl⟩
    · split
      · exact ⟨_, _, _, rfl⟩
      · exact ⟨_, _, _, rfl⟩

theorem CameIn.ingress (s : State) (lp q occ : Nat) : CameIn s (s.ingress lp q occ) := by
  obtain ⟨_, _, _, h⟩ := s.ingress_eq lp q occ
  rw [h]
  exact ⟨_, _, _, _, _, _, _, _, _, rfl, fun _ _ _ => rfl⟩

/-- The registers of a physical port's captures stand among the ports'. -/
theorem CameIn.capture (s : State) (lp : Fin 32) (sent qpPacket : Bool) (cycle type seq : Nat) :
    CameIn s (s.capture lp sent qpPacket cycle type seq) := by
  have hw : s.getF (prtReg Reg.PRT_TS_WIDX lp) 3 0 < 16 := Nat.mod_lt _ (by decide)
  have hlp := lp.isLt
  have hwidx : prtReg Reg.PRT_TS_WIDX lp < portRegsEnd := by
    simp only [prtReg, Reg.PRT_TS_WIDX, portRegsEnd]
    omega
  have hentry (k : Nat) (hk : k ≤ 8) :
      prtReg Reg.PRT_TS_ENTRY0 lp + 16 * s.getF (prtReg Reg.PRT_TS_WIDX lp) 3 0 + k < portRegsEnd := by
    simp only [prtReg, Reg.PRT_TS_ENTRY0, portRegsEnd] at hw ⊢
    omega
  exact (((((refl s).setReg _ (.inl (hentry 0 (by omega)))).setReg _ (.inl (hentry 4 (by omega)))).setReg _
    (.inl (hentry 8 (by omega)))).setReg _ (.inl hwidx)).setReg _ (.inl hwidx)

theorem CameIn.captureQp (s : State) (lp : Fin 32) (sent : Bool) (qpn : BitVec 24) (cycle bth : Nat) (psn : BitVec 24) :
    CameIn s (s.captureQp lp sent qpn cycle bth psn) := by
  unfold State.captureQp
  split
  · exact CameIn.capture s lp sent true cycle bth psn.toNat
  · exact CameIn.refl s

theorem State.captureQp_onlyBar (s : State) (lp : Nat) (sent : Bool) (qpn : BitVec 24) (cycle bth : Nat) (psn : BitVec 24) :
    OnlyBar s (s.captureQp lp sent qpn cycle bth psn) := by
  unfold State.captureQp
  split
  · exact s.capture_onlyBar lp sent true cycle bth psn.toNat
  · exact .refl s

theorem CameIn.keyTouch (s : State) (i : Nat) : CameIn s (s.keyTouch i) := by
  unfold State.keyTouch
  split
  · exact (refl s).bump (by decide)
  · dsimp only
    split
    · exact ((refl s).withWin _ _).bump (by decide)
    · exact ((refl s).withWin _ _).bump (by decide)

theorem State.keyTouch_trn (s : State) (i : Nat) : (s.keyTouch i).trn = s.trn := by
  unfold State.keyTouch
  split
  · rfl
  · dsimp only
    split
    · rfl
    · rfl

theorem CameIn.keepWay {s t : State} (h : CameIn s t) (q : BitVec 24) : CameIn s (t.keepWay q) := by
  unfold State.keepWay
  dsimp only
  split
  · exact h.withTrn _ _ _
  · exact h.withTrn _ _ _

theorem CameIn.ctxHit (s : State) (q : BitVec 24) : CameIn s (s.ctxHit q) := by
  have hbump : CameIn s (s.bump Reg.TRN_CNT_HIT) := (refl s).bump (by decide)
  unfold State.ctxHit
  dsimp only
  split
  · exact hbump
  · split
    · exact hbump
    · split
      · exact hbump.withTrn _ _ _
      · split
        · exact ((hbump.withTrn _ _ _).keepWay _).bump (by decide)
        · exact (hbump.withTrn _ _ _).keepWay _

/-! ## Reception (R77–R80, R121) -/

theorem State.ctxLookup_congr {s t : State} (h : t.trn = s.trn) : t.ctxLookup = s.ctxLookup := by
  funext q
  rw [State.ctxLookup, h, State.ctxLookup]

theorem State.gapHolds_eq_false {s : State} (h : s.twn.gap = false) (key : Option Nat) : s.gapHolds key = false := by
  unfold State.gapHolds
  split
  · simp [h]
  · rfl

/-- The state in which the descriptor of a received packet is looked up. -/
abbrev State.takenIn (s : State) (p : Pkt) (bth : Nat) (b : ReqBody) : State :=
  (s.ingress p.lp (s.rxPrio p) (p.occ + rxUnits p b)).captureQp p.lp false p.qpn p.cycle bth p.psn

theorem CameIn.takenIn (s : State) (p : Pkt) (bth : Nat) (b : ReqBody) : CameIn s (s.takenIn p bth b) :=
  (CameIn.ingress s _ _ _).trans (CameIn.captureQp _ _ _ _ _ _ _)

/-- A packet taken in changes registers and the ports alone. -/
theorem State.takenIn_eq (s : State) (p : Pkt) (bth : Nat) (b : ReqBody) :
    ∃ bar prt, s.takenIn p bth b = { s with bar, prt } := by
  obtain ⟨_, _, _, hi⟩ := s.ingress_eq p.lp (s.rxPrio p) (p.occ + rxUnits p b)
  rw [State.takenIn, (State.captureQp_onlyBar (s.ingress p.lp (s.rxPrio p) (p.occ + rxUnits p b)) _ _ _ _ _ _).eq, hi]
  exact ⟨_, _, rfl⟩

theorem State.takenIn_trn (s : State) (p : Pkt) (bth : Nat) (b : ReqBody) : (s.takenIn p bth b).trn = s.trn := by
  obtain ⟨_, _, h⟩ := s.takenIn_eq p bth b
  rw [h]

theorem State.keyPresent_takenIn (s : State) (p : Pkt) (bth : Nat) (b : ReqBody) : (s.takenIn p bth b).keyPresent = s.keyPresent := by
  obtain ⟨_, _, h⟩ := s.takenIn_eq p bth b
  rw [h]
  rfl

theorem CameIn.descriptorReady (s : State) (key : Option Nat) : CameIn s (s.descriptorReady key).2 := by
  cases key with
  | none => exact CameIn.refl s
  | some i => exact CameIn.keyTouch s i

theorem State.descriptorReady_trn (s : State) (key : Option Nat) : (s.descriptorReady key).2.trn = s.trn := by
  cases key with
  | none => rfl
  | some i => exact s.keyTouch_trn i

/-- The state in which a received packet of a QP whose context is on chip goes to its checks. -/
abbrev State.lookedUp (s : State) (p : Pkt) (bth : Nat) (b : ReqBody) (c : Qp) : State :=
  ((s.takenIn p bth b).descriptorReady (keyOf c b)).2.ctxHit p.qpn

theorem CameIn.lookedUp (s : State) (p : Pkt) (bth : Nat) (b : ReqBody) (c : Qp) : CameIn s (s.lookedUp p bth b c) :=
  ((CameIn.takenIn s p bth b).trans (CameIn.descriptorReady _ _)).trans (CameIn.ctxHit _ _)

/-- A packet whose descriptor is on chip, or that needs none, finds it (R121). -/
theorem State.descriptorReady_takenIn {s : State} {p : Pkt} {b : ReqBody} {c : Qp} (h : Claims.Arrives s p b c) (bth : Nat) :
    ((s.takenIn p bth b).descriptorReady (keyOf c b)).1 = true := by
  have hkey := h.key
  cases hk : keyOf c b with
  | none => rfl
  | some i => exact (congrFun (s.keyPresent_takenIn p bth b) i).trans (hkey i hk)

/-- A packet that nothing makes wait goes to its checks, and leaves the ingress buffer after them. -/
theorem State.receiveThen_arrives {s : State} {p : Pkt} {b : ReqBody} {c : Qp} (h : Claims.Arrives s p b c) (bth : Nat)
    (check : State → State) :
    s.receiveThen p bth b check =
      (check (s.lookedUp p bth b c)).ingress p.lp ((check (s.lookedUp p bth b c)).rxPrio p) p.occ := by
  have hin := CameIn.takenIn s p bth b
  have hvalid : (s.takenIn p bth b).getB Reg.TRN_STATUS 0 = true := by
    rw [State.getB, hin.reg (by decide) (by decide)]
    exact h.valid
  have hhost := h.host
  have hctx : ((s.takenIn p bth b).descriptorReady (keyOf c b)).2.ctxLookup p.qpn = .hit := by
    rw [State.ctxLookup_congr ((State.descriptorReady_trn _ _).trans (s.takenIn_trn p bth b))]
    exact h.context
  have hlook := CameIn.lookedUp s p bth b c
  have hmiss : (s.lookedUp p bth b c).inMiss p.qpn = false := by rw [hlook.inMiss]; exact h.first
  have hgap : (s.lookedUp p bth b c).gapHolds (keyOf c b) = false :=
    State.gapHolds_eq_false (by rw [hlook.twn]; exact h.gap) _
  have hstop : (s.takenIn p bth b).twn.stopped = false := by rw [hin.twn]; exact h.going
  have hqp : (s.takenIn p bth b).qp p.qpn = some c := by rw [hin.qp]; exact h.qp
  rw [State.receiveThen, State.arrive, if_neg (by simp [h.up]), if_neg (by simp [h.addressed])]
  dsimp only
  rw [if_neg (by simp [hvalid, hstop]; omega), hqp]
  dsimp only
  rw [hctx]
  dsimp only
  rw [if_neg (by simp [hmiss, State.descriptorReady_takenIn h bth, hgap])]

/-- As before, by what it leaves: of the ports alone more than the checks did. -/
theorem State.receive_arrives {s : State} {p : Pkt} {b : ReqBody} {c : Qp} (h : Claims.Arrives s p b c) (bth : Nat) :
    ∃ u prt, CameIn s u ∧ s.receive p bth b = { u.admitPkt p b false with prt } := by
  obtain ⟨_, _, _, hi⟩ := ((s.lookedUp p bth b c).admitPkt p b false).ingress_eq p.lp
    (((s.lookedUp p bth b c).admitPkt p b false).rxPrio p) p.occ
  exact ⟨_, _, CameIn.lookedUp s p bth b c, (State.receiveThen_arrives h bth _).trans hi⟩

/-- A packet without a CE mark draws no CNP (R91). -/
theorem State.congested_unmarked {s : State} {p : Pkt} (h : p.ce = false) : s.congested p = s := by
  unfold State.congested
  split
  · rfl
  · simp [h]

/-- The opcode is that of a request. -/
def ReqBody.request : ReqBody → Bool
  | .ack _ | .cnp | .readResponse => false
  | _ => true

/-- A request at ePSN of a QP that takes requests is processed (R77, R85). -/
theorem State.admitPkt_expected {s : State} {p : Pkt} {b : ReqBody} {c : Qp} (hq : s.qp p.qpn = some c) (hce : p.ce = false)
    (hx : Claims.Expected p c) (hb : b.request = true) : s.admitPkt p b false = s.process p c b := by
  have hpsn : s.psnCheck p c b false = s.process p c b := by
    have hbehind : psnBehind c.ePsn p.psn = 0 := by simp [psnBehind, hx.psn]
    rw [State.psnCheck, hbehind]
    rfl
  rw [State.admitPkt, State.congested_unmarked hce, hq]
  dsimp only
  split
  · exact absurd hb (by simp [ReqBody.request])
  · exact absurd hb (by decide)
  · exact absurd hb (by decide)
  · rw [hpsn]
    rcases hx.state with hs | hs
    · rw [hs]
    · rw [hs]

/-- A received request that nothing makes wait, at ePSN: it is processed in a state that admission sees as the one before. -/
theorem State.receive_request {s : State} {p : Pkt} {b : ReqBody} {c : Qp} (h : Claims.Arrives s p b c)
    (hx : Claims.Expected p c) (hb : b.request = true) (bth : Nat) :
    ∃ u prt, CameIn s u ∧ s.receive p bth b = { u.process p c b with prt } := by
  obtain ⟨u, prt, hu, hr⟩ := State.receive_arrives h bth
  refine ⟨u, prt, hu, ?_⟩
  rw [hr, State.admitPkt_expected (by rw [hu.qp]; exact h.qp) h.mark hx hb]

end Sys2Proof.Machine
end

section
/-! Proofs of the family 03_ports_and_transport, launches: what reads issued to the media and the launch of a request leave of the
transport and the engines (for O32). -/

namespace Sys2Proof.Machine

open Sys2Proof

/-! ## Reads issued to the media leave the transport and the engines alone -/

/-- The transport's tables and the engines are the same in both. -/
structure KeepsWork (s t : State) : Prop where
  trn : t.trn = s.trn
  cle : t.cle = s.cle

namespace KeepsWork

variable {s t : State}

theorem refl (s : State) : KeepsWork s s := ⟨rfl, rfl⟩

theorem foldl {β : Type} {f : State → β → State} (h : KeepsWork s t) (l : List β)
    (hf : ∀ u b, KeepsWork s u → KeepsWork s (f u b)) : KeepsWork s (l.foldl f t) :=
  List.foldlRecOn l f h fun u hu b _ => hf u b hu

theorem takeBytes (n : Nat) : ∀ {t : State}, KeepsWork s t → KeepsWork s (t.takeBytes n).2 := by
  induction n with
  | zero => exact id
  | succ n ih => exact fun {t} h => ih (t := { t with free := t.free + 1 }) ⟨h.trn, h.cle⟩

theorem metaLine (h : KeepsWork s t) (m : Nat) (x : MTrans) (data : List Byte) : KeepsWork s (t.metaLine m x data).2 :=
  ⟨h.trn, h.cle⟩

theorem compose (h : KeepsWork s t) (m : Nat) (x : MTrans) : KeepsWork s (t.compose m x).2 := by
  unfold State.compose
  split
  case h_6 | h_9 | h_10 | h_11 | h_12 | h_13 => split <;> exact ⟨h.trn, h.cle⟩
  case h_14 => exact (h.takeBytes 36).metaLine _ _ _
  case h_15 => exact (h.takeBytes 64).metaLine _ _ _
  all_goals exact h

theorem countWrite (h : KeepsWork s t) (x : MTrans) : KeepsWork s (t.countWrite x) := by
  unfold State.countWrite
  split
  · exact ⟨h.trn, h.cle⟩
  · exact h

theorem takeLine (h : KeepsWork s t) (tile line : Nat) : KeepsWork s (t.takeLine tile line) := by
  unfold State.takeLine
  split
  · exact h
  · exact ⟨h.trn, h.cle⟩

theorem takeSlots (h : KeepsWork s t) (n e k : Nat) (cls : Cls) (tenant : Nat) : KeepsWork s (t.takeSlots n e k cls tenant) := by
  unfold State.takeSlots
  dsimp only
  split
  · exact ⟨h.trn, h.cle⟩
  · exact ⟨h.trn, h.cle⟩

theorem setLink (h : KeepsWork s t) (m : Nat) (l : MLinkRec) : KeepsWork s (t.setLink m l) := ⟨h.trn, h.cle⟩

theorem resend (h : KeepsWork s t) (m tag : Nat) : KeepsWork s (t.resend m tag) := by
  unfold State.resend
  dsimp only
  split
  · exact h
  · exact h.setLink _ _

theorem send (h : KeepsWork s t) (m : Nat) (w : MWork) : KeepsWork s (t.send m w) := by
  unfold State.send
  dsimp only
  split
  · exact (((h.compose _ _).setLink _ _).countWrite _).takeLine _ _
  · exact ((h.compose _ _).setLink _ _).countWrite _

theorem pumpOne (h : KeepsWork s t) (m : Nat) : KeepsWork s (t.pumpOne m) := by
  unfold State.pumpOne
  dsimp only
  split
  · exact h
  · split
    · exact h
    · split
      · exact ((h.setLink _ _).takeSlots _ _ _ _ _).resend _ _
      · exact ((h.setLink _ _).takeSlots _ _ _ _ _).send _ _

theorem issueFor (h : KeepsWork s t) (m : Nat) (cls : Cls) (tenant : Nat) (x : MTrans) :
    KeepsWork s (t.issueFor m cls tenant x) := (h.setLink _ _).pumpOne m

theorem withNtl (h : KeepsWork s t) (x : Ntl) : KeepsWork s { t with ntl := x } := ⟨h.trn, h.cle⟩

theorem pumpNand (h : KeepsWork s t) (ch : Nat) : KeepsWork s (t.pumpNand ch) := by
  unfold State.pumpNand
  split
  · exact h
  · exact (h.takeSlots _ _ _ _ _).withNtl _

theorem queueNand (h : KeepsWork s t) (o : NandOpRec) : KeepsWork s (t.queueNand o) := (h.withNtl _).pumpNand o.ch

theorem askNand (h : KeepsWork s t) (page : Nat) (want : NandWant) : KeepsWork s (t.askNand page want) := by
  unfold State.askNand
  dsimp only
  split
  · exact h
  · refine foldl ?_ _ fun _ _ hu => hu.queueNand _
    exact ⟨h.trn, h.cle⟩

theorem wantNand (h : KeepsWork s t) (page : Nat) (want : NandWant) : KeepsWork s (t.wantNand page want) := by
  unfold State.wantNand
  split
  · exact h.withNtl _
  · exact h.askNand page want

end KeepsWork

/-! ## A request launched (R148, R360, R363) -/

/-- Request `id` of `t` is `rq`, but for its state, which is not that of an ended one, its merge reads and their failure. -/
def Stands (t : State) (id : Nat) (rq : Request) : Prop :=
  ∃ st merges readFail, Maps.find id t.cle.reqs = some { rq with st, merges, readFail } ∧ st ≠ .ended

/-- A request as it is admitted: no MATOM of it, and no rest of a response, is under way. -/
structure Request.Fresh (rq : Request) : Prop where
  matoms : rq.matoms = []
  logged : rq.logged = []
  rest : rq.rest = none

/-- A read that fails fails a fresh request, and changes nothing else of it (R150). -/
theorem Request.failAt_fresh {rq : Request} (h : rq.Fresh) (base a n code : Nat) :
    rq.failAt base a n code = { rq with readFail := some (rq.readFail.getD code) } := by
  obtain ⟨hm, hl, hr⟩ := h
  rw [Request.failAt]
  dsimp only
  rw [hr, if_neg (by simp), Request.fail]
  dsimp only
  rw [hm, hl]
  cases rq
  simp_all

/-- A request that does not end stays, changed. -/
theorem State.updReq_live {s : State} {id : Nat} {r : Request} {f : Request → Request} (h : Maps.find id s.cle.reqs = some r)
    (hst : (f r).st ≠ .ended) : s.updReq id f = s.setReq id (f r) := by
  rw [State.updReq, h]
  dsimp only
  rw [if_neg (by simp [hst])]

theorem Stands.failRead {s : State} {id : Nat} {rq : Request} (h : Stands s id rq) (hf : rq.Fresh) (line code : Nat) :
    (s.failRead id line code).trn = s.trn ∧ Stands (s.failRead id line code) id rq := by
  obtain ⟨st, merges, readFail, hreq, hst⟩ := h
  have hfail := Request.failAt_fresh (rq := { rq with st, merges, readFail }) ⟨hf.matoms, hf.logged, hf.rest⟩
  rw [State.failRead, State.updReq_live hreq (by rw [hfail]; exact hst), hfail]
  exact ⟨rfl, st, merges, _, Maps.find_put_same _ _ _, hst⟩

theorem Stands.keeps {s t : State} {id : Nat} {rq : Request} (h : Stands s id rq) (hk : KeepsWork s t) : Stands t id rq := by
  rw [Stands, hk.cle]
  exact h

/-- A read issued for a fresh request leaves it standing (R107, R269, R363). -/
theorem Stands.readLine {s : State} {id : Nat} {rq : Request} (h : Stands s id rq) (hf : rq.Fresh) (line : Nat) :
    (s.readLine line (some id)).trn = s.trn ∧ Stands (s.readLine line (some id)) id rq := by
  have hkeeps {t : State} (hk : KeepsWork s t) : t.trn = s.trn ∧ Stands t id rq := ⟨hk.trn, h.keeps hk⟩
  unfold State.readLine
  split
  · exact h.failRead hf line Code.mediaUe
  · split
    · exact hkeeps ((KeepsWork.refl s).issueFor _ _ _ _)
    · exact hkeeps ((KeepsWork.refl s).wantNand _ _)
    · exact hkeeps (.refl s)

/-- The merge reads of a fresh request (R360). -/
theorem Stands.mergeReads {s : State} {id : Nat} {rq : Request} (h : Stands s id rq) (hf : rq.Fresh) (ms : List Nat) :
    let t := ms.foldl (fun s l => if (s.newest l).isSome then s.bump Reg.DUR_CNT_FWD else s.readLine l (some id)) s
    t.trn = s.trn ∧ Stands t id rq := by
  refine List.foldlRecOn (motive := fun t => t.trn = s.trn ∧ Stands t id rq) ms _ ⟨rfl, h⟩ fun t ⟨htrn, ht⟩ l _ => ?_
  split
  · exact ⟨htrn, ht⟩
  · obtain ⟨hread, hstands⟩ := ht.readLine hf l
    exact ⟨hread.trans htrn, hstands⟩

/-- A launched request stands in the engines, and the transport's tables are as they were. -/
theorem State.launch_stands (s : State) {rq : Request} (hf : rq.Fresh) :
    (s.launch rq).trn = s.trn ∧ ∃ id, Stands (s.launch rq) id rq := by
  have hadd : Stands (s.addReq rq fun o => .ready o false).2 s.cle.order rq :=
    ⟨_, _, _, Maps.find_put_same _ _ _, by simp⟩
  unfold State.launch
  dsimp only
  split
  · split
    · next r hr =>
      have hset (merges : List MergeRec) :
          Stands ((s.addReq rq fun o => .ready o false).2.setReq s.cle.order { r with merges }) s.cle.order rq := by
        obtain ⟨st, _, readFail, hfind, hst⟩ := hadd
        cases hfind.symm.trans hr
        exact ⟨st, merges, readFail, Maps.find_put_same _ _ _, hst⟩
      obtain ⟨htrn, hstands⟩ := (hset _).mergeReads hf _
      exact ⟨htrn, _, hstands⟩
    · obtain ⟨htrn, hstands⟩ := hadd.mergeReads hf _
      exact ⟨htrn, _, hstands⟩
  · exact ⟨rfl, _, hadd⟩

end Sys2Proof.Machine
end

section
/-! Proofs of the family 03_ports_and_transport, requests: READ, WRITE, the atomics, FLUSH and an Invoke SEND admitted (O32). -/

namespace Sys2Proof.Machine

open Sys2Proof

/-! ## Requests admitted (R96, R117, R144) -/

@[simp] theorem State.qp_setQp (s : State) (q : BitVec 24) (c : Qp) : (s.setQp q c).qp q = some c := Maps.find_put_same _ _ _

theorem State.qp_launch (s : State) {rq : Request} (hf : rq.Fresh) (q : BitVec 24) : (s.launch rq).qp q = s.qp q := by
  rw [State.qp, (s.launch_stands hf).1, State.qp]

/-- An entry of the Operation Table taken, the QP's context replaced, and the request launched with that entry. -/
abbrev State.admitted (s : State) (q : BitVec 24) (e : OptEntry) (c' : Nat → Qp) (rq : Request) : State :=
  let o := Maps.nextKey 0 s.trn.opt
  ((s.addOpt e).2.setQp q (c' o)).launch { rq with opt := some o }

theorem State.admitted_admitted (s : State) (p : Pkt) (e : OptEntry) (c' : Nat → Qp) {rq : Request} (hf : rq.Fresh) (prt : Prt) :
    Claims.Admitted { s.admitted p.qpn e c' rq with prt } p c' e rq := by
  obtain ⟨htrn, id, st, merges, readFail, hreq, -⟩ := State.launch_stands
    ((s.addOpt e).2.setQp p.qpn (c' (Maps.nextKey 0 s.trn.opt)))
    (rq := { rq with opt := some (Maps.nextKey 0 s.trn.opt) }) ⟨hf.matoms, hf.logged, hf.rest⟩
  refine ⟨Maps.nextKey 0 s.trn.opt, id, _, ?_, ?_, hreq, rfl⟩
  · exact (State.qp_launch _ (rq := { rq with opt := some (Maps.nextKey 0 s.trn.opt) }) ⟨hf.matoms, hf.logged, hf.rest⟩ _).trans
      (State.qp_setQp _ p.qpn _)
  · exact (congrArg (fun x => Maps.find _ x.opt) htrn).trans (Maps.find_put_same _ _ _)

/-- The path MTU is at most 4,096 B (R71). -/
theorem mtuBytes_le (pmtu : Nat) : mtuBytes pmtu ≤ 4096 := by
  have h : 2 ^ Nat.min pmtu 4 ≤ 2 ^ 4 := Nat.pow_le_pow_right (by decide) (Nat.min_le_right _ _)
  unfold mtuBytes
  omega

/-- The window check of a request, and the Operation Table, as `CameIn` leaves them. -/
theorem CameIn.passes {s u : State} (hu : CameIn s u) {c : Qp} {a : Access} (h : Claims.Passes s c a) : Claims.Passes u c a := by
  rw [Claims.Passes, hu.checkAccess, hu.optFree]
  exact h

theorem State.process_read {u : State} {p : Pkt} {c : Qp} {r : Reth} (hx : Claims.Expected p c) (hb : c.between = false)
    (hlen : r.len ≠ 0) (hmax : r.len.toNat ≤ 2 ^ 30)
    (hp : Claims.Passes u c (Claims.plainAccess r.rkey 1 r.va.toNat r.len.toNat false false)) (hfull : c.rdFull = false) :
    u.process p c (.read r) = u.admitted p.qpn (u.entryFor p c .read (r.rkey.toNat / 256) false)
      (fun o => { c.expect (c.packets r.len.toNat) with
        begun := c.begun + 1
        outstanding := c.outstanding ++ [{ psn := p.psn, packets := c.packets r.len.toNat, opt := o, reth := some r }] })
      { baseRequest p c r.rkey 0 0x0C with
        addr := r.va.toNat - (u.window (r.rkey.toNat / 256)).vaBase, len := r.len.toNat, rights := 1, msn := c.begun + 1 } := by
  obtain ⟨hcheck, hfree⟩ := hp
  rw [Claims.plainAccess] at hcheck
  have hmax' : ¬ 2 ^ 30 < r.len.toNat := Nat.not_lt.2 hmax
  rw [State.process, if_neg (by simp [hx.host])]
  dsimp only
  rw [if_neg (by rw [hb, decide_eq_false hmax']; decide), if_neg hlen, State.admitRead]
  simp only [Nat.zero_mul, Nat.add_zero, Nat.sub_zero, hcheck, hfull, hfree]
  rfl

theorem State.process_writeOnly {u : State} {p : Pkt} {c : Qp} {r : Reth} {payload : List Byte} (hx : Claims.Expected p c)
    (hb : c.between = false) (hlen : payload.length = r.len.toNat) (hpos : r.len ≠ 0) (hmtu : payload.length ≤ mtuBytes c.pmtu)
    (hp : Claims.Passes u c (Claims.plainAccess r.rkey 2 r.va.toNat r.len.toNat false true)) :
    u.process p c (.write .only r payload) = u.admitted p.qpn (u.entryFor p c .write (r.rkey.toNat / 256) false)
      (fun _ => { c.expect 1 with begun := c.begun + 1 })
      { baseRequest p c r.rkey 1 0x0A with
        addr := r.va.toNat - (u.window (r.rkey.toNat / 256)).vaBase, len := payload.length, payload, rights := 2
        msn := c.begun + 1 } := by
  obtain ⟨hcheck, hfree⟩ := hp
  rw [Claims.plainAccess] at hcheck
  obtain ⟨hsend, hopen⟩ : c.sendOpen = false ∧ c.openMsg = none := by simpa [Qp.between] using hb
  have hclosed : ({ c.expect 1 with begun := c.begun + 1, openMsg := none } : Qp) = { c.expect 1 with begun := c.begun + 1 } := by
    rw [← hopen]
    rfl
  have hshape : writeShape c .only r payload.length = true := by simp [writeShape, hopen, hlen, hlen ▸ hmtu]
  have hmax : ¬ 2 ^ 30 < r.len.toNat := by have := mtuBytes_le c.pmtu; omega
  rw [State.process, if_neg (by simp [hx.host])]
  dsimp only
  rw [if_neg (by rw [hsend, hshape, decide_eq_false hmax]; decide), if_neg hpos, State.admitWrite, ← hclosed]
  simp only [hcheck, hfree]
  rfl

/-- Operation kind and BTH opcode of a plain atomic (R69, R165). -/
def OptKind.atomicKind : OptKind → Nat
  | .cmpSwap => 2
  | .fetchAdd => 3
  | _ => 4

def OptKind.atomicBth : OptKind → Nat
  | .cmpSwap => 0x13
  | .fetchAdd => 0x14
  | _ => 0x1D

/-- A plain atomic that is no repeat (R74, R117). -/
theorem State.admitAtomic_fresh {u : State} {p : Pkt} {c : Qp} {k : Word} {va : DWord} (kind : OptKind) (ops : List DWord)
    (hp : Claims.Passes u c (Claims.plainAccess k 4 va.toNat 8 false true)) (hrep : c.repeatLeft = []) (hfull : c.rdFull = false) :
    u.admitAtomic p c kind k va ops = u.admitted p.qpn (u.entryFor p c kind (k.toNat / 256) false)
      (fun o => { c.expect 1 with
        begun := c.begun + 1, outstanding := c.outstanding ++ [{ psn := p.psn, packets := 1, opt := o, reth := none }] })
      { baseRequest p c k kind.atomicKind kind.atomicBth with
        addr := va.toNat - (u.window (k.toNat / 256)).vaBase, len := 8, args := ops, rights := 4, msn := c.begun + 1 } := by
  obtain ⟨hcheck, hfree⟩ := hp
  rw [Claims.plainAccess] at hcheck
  unfold State.admitAtomic
  simp only [hrep, hcheck, hfull, hfree]
  rfl

theorem State.process_flush {u : State} {p : Pkt} {c : Qp} {r : Reth} {sel placement : Byte} (hx : Claims.Expected p c)
    (hb : c.between = false) (hsel : sel.toNat ≤ 1) (hplace : placement ≠ 0)
    (hp : Claims.Passes u c (Claims.plainAccess r.rkey 8 r.va.toNat r.len.toNat (sel == 1) true)) :
    u.process p c (.flush r sel placement) = u.admitted p.qpn (u.entryFor p c .flush (r.rkey.toNat / 256) false)
      (fun _ => { c.expect 1 with begun := c.begun + 1 })
      { baseRequest p c r.rkey 5 0x1C with
        addr := if sel = 1 then 0 else r.va.toNat - (u.window (r.rkey.toNat / 256)).vaBase
        len := if sel = 1 then (u.window (r.rkey.toNat / 256)).length else r.len.toNat
        rights := 8, msn := c.begun + 1 } := by
  obtain ⟨hcheck, hfree⟩ := hp
  rw [Claims.plainAccess] at hcheck
  rw [State.process, if_neg (by simp [hx.host])]
  dsimp only
  rw [if_neg (by rw [hb, decide_eq_false (Nat.not_lt.2 hsel), beq_false_of_ne hplace]; decide), State.admitFlush]
  simp only [hcheck, hfree, beq_iff_eq]
  rfl

/-- A WRITE Last packet goes on at the address after the packets before it, and completes the message's entry (R118). -/
theorem State.process_writeLast {u : State} {p : Pkt} {c : Qp} {m : OpenMsg} {e : OptEntry} {r : Reth} {payload : List Byte}
    (hx : Claims.Expected p c) (hsend : c.sendOpen = false) (hopen : c.openMsg = some m) (hlen : payload.length = m.left)
    (hpos : 0 < m.left) (hmtu : m.left ≤ mtuBytes c.pmtu) (hwin : (u.window m.win).state = .opened)
    (hgen : (u.window m.win).gen = m.gen) (hopt : Maps.find m.opt u.trn.opt = some e) :
    ∃ id q, (u.process p c (.write .last r payload)).qp p.qpn = some { c.expect 1 with openMsg := none } ∧
      Maps.find m.opt (u.process p c (.write .last r payload)).trn.opt = some { e with more := false } ∧
      Maps.find id (u.process p c (.write .last r payload)).cle.reqs = some q ∧ q.kind = 6 ∧
      q.addr = m.next ∧ q.payload = payload ∧ q.last = true ∧ q.opt = some m.opt ∧ q.psn = p.psn ∧ q.win = m.rkey.toNat / 256 := by
  have hshape : writeShape c .last r payload.length = true := by simp [writeShape, hopen, hlen, hpos, hmtu]
  have heq : u.process p c (.write .last r payload) = u.admitWriteNext p c m true payload := by
    unfold State.process
    rw [if_neg (by simp [hx.host])]
    dsimp only
    rw [if_neg (by rw [hsend, hshape]; simp), hopen]
  rw [heq, State.admitWriteNext]
  dsimp only
  rw [if_neg (by simp [hwin, hgen])]
  have hupd : Maps.find m.opt (Maps.upd m.opt (fun e : OptEntry => { e with more := !true }) u.trn.opt) =
      some { e with more := false } := by
    rw [Maps.upd, hopt]
    exact Maps.find_put_same _ _ _
  obtain ⟨htrn, id, st, merges, readFail, hreq, -⟩ := State.launch_stands
    { u.setQp p.qpn { c.expect 1 with openMsg := none } with
      trn := { (u.setQp p.qpn { c.expect 1 with openMsg := none }).trn with
        opt := Maps.upd m.opt (fun e : OptEntry => { e with more := !true }) u.trn.opt } }
    (rq := { baseRequest p c m.rkey 6 0x08 with
      addr := m.next, len := payload.length, payload, last := true, opt := some m.opt, rights := 2, msn := c.begun })
    ⟨rfl, rfl, rfl⟩
  refine ⟨id, _, ?_, ?_, hreq, rfl, rfl, rfl, rfl, rfl, rfl, rfl⟩
  · exact (State.qp_launch _ ⟨rfl, rfl, rfl⟩ _).trans (State.qp_setQp u p.qpn _)
  · exact (congrArg (fun x => Maps.find _ x.opt) htrn).trans hupd

/-- The rights that the conjugation table declares for an Invoke, and what its window check asks (R117, R164). -/
abbrev State.declared (s : State) (m : List Byte) : BitVec 5 :=
  match s.conjEntry (s.window ((BitVec.ofNat 32 (headerField m 4 4) : Word).toNat / 256)).progId (headerField m 1 1) with
  | some e => BitVec.ofNat 5 (fld e 62 58)
  | none => 0

abbrev State.invokeAccess (s : State) (m : List Byte) : Access :=
  { rkey := BitVec.ofNat 32 (headerField m 4 4), rights := s.declared m ||| 16, start := headerField m 8 8, relative := true
    len := headerField m 16 4, noBytes := false, home := bitOf (s.declared m) 1 || bitOf (s.declared m) 2 }

theorem State.qp_ackAt {s : State} {q psn : BitVec 24} {c : Qp} (h : s.qp q = some c) :
    (s.ackAt q psn).qp q = some { c with ackDue := c.ackDue ++ [psn] } := by
  rw [State.ackAt, h]
  exact Maps.find_put_same _ _ _

/-- Original values kept for a repeat of an Invoke, and the code that its checks come to (R117, R373). -/
abbrev State.invokeRepeats (s : State) (c : Qp) (m : List Byte) : Table (List DWord) :=
  if c.bond ≠ 0 && s.pairState == 4 then s.repeatsFor c.bond (headerField m 20 4) else []

abbrev State.invokeCode (s : State) (c : Qp) (m : List Byte) : Nat :=
  let code := s.checkAccess c.tenant (s.invokeAccess m)
  if code = Code.ok && !(s.invokeRepeats c m).isEmpty && !Maps.has (s.invokeRepeats c m) 0 then Code.yielded else code

/-- Without a kept original the window check alone decides. -/
theorem State.invokeCode_of_fresh {s : State} {c : Qp} {m : List Byte} (hrep : s.repeatsFor c.bond (headerField m 20 4) = []) :
    s.invokeCode c m = s.checkAccess c.tenant (s.invokeAccess m) := by
  have hnone : s.invokeRepeats c m = [] := by rw [State.invokeRepeats, hrep, ite_self]
  rw [State.invokeCode, hnone]
  exact if_neg (by simp)

/-- The request of an Invoke with Operation Table entry `o`. -/
abbrev State.invokeRequest (s : State) (p : Pkt) (c : Qp) (m : List Byte) (o : Nat) : Request :=
  { baseRequest p c (BitVec.ofNat 32 (headerField m 4 4)) (headerField m 1 1) (headerField m 1 1) with
    addr := headerField m 8 8, len := headerField m 16 4, payload := m.drop 32, opt := some o, rights := s.declared m
    args := [BitVec.ofNat 64 (headerField m 24 4), BitVec.ofNat 64 (headerField m 28 4), BitVec.ofNat 64 (headerField m 20 4)]
    tag := BitVec.ofNat 32 (headerField m 20 4), repeated := s.invokeRepeats c m, msn := c.begun + 1 }

/-- The context of a QP whose Invoke message is complete. -/
abbrev Qp.invoked (c : Qp) : Qp := { c.expect 1 with begun := c.begun + 1, msn := c.msn + 1, sendBuf := [], sendOpen := false }

/-- The state in which an Invoke that passes its checks is launched: its entry taken, its message complete and to be acknowledged. -/
abbrev State.invokeTaken (s : State) (p : Pkt) (c : Qp) (m : List Byte) : State :=
  let win := (BitVec.ofNat 32 (headerField m 4 4) : Word).toNat / 256
  ((s.addOpt (s.entryFor p c .invoke win false)).2.setQp p.qpn c.invoked).ackAt p.qpn p.psn

theorem State.admitInvoke_passes {u : State} {p : Pkt} {c : Qp} {m : List Byte} (hcode : u.invokeCode c m = Code.ok)
    (hfree : u.optFree c.cls true = true) :
    u.admitInvoke p c m = (u.invokeTaken p c m).launch (u.invokeRequest p c m (Maps.nextKey 0 u.trn.opt)) := by
  change (if u.invokeCode c m ≠ Code.ok then _ else if !u.optFree c.cls true then _ else _) = _
  rw [if_neg (not_not.2 hcode), if_neg (by simp [hfree])]
  rfl

/-- An Invoke of one packet that nothing refuses is acknowledged, and stands in the engines (R75, R87, R168). -/
theorem State.process_sendOnly {u : State} {p : Pkt} {c : Qp} {m : List Byte} (hx : Claims.Expected p c) (hb : c.between = false)
    (hbuf : c.sendBuf = []) (hmtu : m.length ≤ mtuBytes c.pmtu) (hhead : headerOk m = true)
    (hcheck : u.checkAccess c.tenant (u.invokeAccess m) = Code.ok) (hrep : u.repeatsFor c.bond (headerField m 20 4) = [])
    (hfree : u.optFree c.cls true = true) :
    ∃ id q, (u.process p c (.send .only m)).qp p.qpn =
        some { c.expect 1 with begun := c.begun + 1, msn := c.msn + 1, ackDue := c.ackDue ++ [p.psn] } ∧
      Maps.find id (u.process p c (.send .only m)).cle.reqs = some q ∧ q.kind = headerField m 1 1 ∧ q.addr = headerField m 8 8 ∧
      q.len = headerField m 16 4 ∧ q.payload = m.drop 32 ∧ q.tag = BitVec.ofNat 32 (headerField m 20 4) ∧ q.psn = p.psn := by
  obtain ⟨hsend, hopen⟩ : c.sendOpen = false ∧ c.openMsg = none := by simpa [Qp.between] using hb
  have hmax := mtuBytes_le c.pmtu
  have hlong : ¬ 16384 < m.length := by omega
  have heq : u.process p c (.send .only m) = u.admitInvoke p c m := by
    rw [State.process, if_neg (by simp [hx.host])]
    rw [if_neg (by simp [hopen, sendShape, hsend, hmtu]), State.admitSend, hbuf, List.nil_append]
    dsimp only
    rw [if_neg (by rw [hhead, decide_eq_false hlong]; decide), if_pos (by decide)]
  have hinvoked : c.invoked = { c.expect 1 with begun := c.begun + 1, msn := c.msn + 1 } := by
    rw [Qp.invoked, ← hbuf, ← hsend]
    rfl
  obtain ⟨-, id, st, merges, readFail, hreq, -⟩ := State.launch_stands (u.invokeTaken p c m)
    (rq := u.invokeRequest p c m (Maps.nextKey 0 u.trn.opt)) ⟨rfl, rfl, rfl⟩
  rw [heq, State.admitInvoke_passes ((State.invokeCode_of_fresh hrep).trans hcheck) hfree]
  refine ⟨id, _, ?_, hreq, rfl, rfl, rfl, rfl, rfl, rfl⟩
  rw [State.qp_launch _ ⟨rfl, rfl, rfl⟩, State.qp_ackAt (State.qp_setQp _ _ _), hinvoked]
  rfl

/-! ## The commands -/

theorem exec_rdmaReadRequest {s : State} {p : Pkt} {r : Reth} {c : Qp} (h : Claims.Arrives s p (.read r) c)
    (hx : Claims.Expected p c) (hb : c.between = false) (hlen : r.len ≠ 0) (hmax : r.len.toNat ≤ 2 ^ 30)
    (hp : Claims.Passes s c (Claims.plainAccess r.rkey 1 r.va.toNat r.len.toNat false false)) (hfull : c.rdFull = false) :
    ∃ t, exec (.rdmaReadRequest p r false) s = .next t ∧
      Claims.Admitted t p
        (fun o => { c.expect (c.packets r.len.toNat) with
          begun := c.begun + 1
          outstanding := c.outstanding ++ [{ psn := p.psn, packets := c.packets r.len.toNat, opt := o, reth := some r }] })
        (s.entryFor p c .read (r.rkey.toNat / 256) false)
        { baseRequest p c r.rkey 0 0x0C with
          addr := r.va.toNat - (s.window (r.rkey.toNat / 256)).vaBase, len := r.len.toNat, rights := 1, msn := c.begun + 1 } := by
  obtain ⟨u, prt, hu, hr⟩ := State.receive_request h hx rfl 0x0C
  refine ⟨_, congrArg Host.Outcome.next hr, ?_⟩
  rw [State.process_read hx hb hlen hmax (hu.passes hp) hfull, hu.entryFor, hu.window]
  exact State.admitted_admitted _ p _ _ ⟨rfl, rfl, rfl⟩ prt

theorem exec_rdmaWriteOnly {s : State} {p : Pkt} {r : Reth} {c : Qp} {payload : List Byte}
    (h : Claims.Arrives s p (.write .only r payload) c) (hx : Claims.Expected p c) (hb : c.between = false)
    (hlen : payload.length = r.len.toNat) (hpos : r.len ≠ 0) (hmtu : payload.length ≤ mtuBytes c.pmtu)
    (hp : Claims.Passes s c (Claims.plainAccess r.rkey 2 r.va.toNat r.len.toNat false true)) :
    ∃ t, exec (.rdmaWriteFirst p r true payload) s = .next t ∧
      Claims.Admitted t p (fun _ => { c.expect 1 with begun := c.begun + 1 })
        (s.entryFor p c .write (r.rkey.toNat / 256) false)
        { baseRequest p c r.rkey 1 0x0A with
          addr := r.va.toNat - (s.window (r.rkey.toNat / 256)).vaBase, len := payload.length, payload, rights := 2
          msn := c.begun + 1 } := by
  obtain ⟨u, prt, hu, hr⟩ := State.receive_request h hx rfl 0x0A
  refine ⟨_, congrArg Host.Outcome.next hr, ?_⟩
  rw [State.process_writeOnly hx hb hlen hpos hmtu (hu.passes hp), hu.entryFor, hu.window]
  exact State.admitted_admitted _ p _ _ ⟨rfl, rfl, rfl⟩ prt

theorem exec_rdmaWriteLast {s : State} {p : Pkt} {c : Qp} {m : OpenMsg} {e : OptEntry} {payload : List Byte}
    (h : Claims.Arrives s p (.write .last { rkey := 0, va := 0, len := 0 } payload) c) (hx : Claims.Expected p c)
    (hsend : c.sendOpen = false) (hopen : c.openMsg = some m) (hlen : payload.length = m.left) (hpos : 0 < m.left)
    (hmtu : m.left ≤ mtuBytes c.pmtu) (hwin : (s.window m.win).state = .opened) (hgen : (s.window m.win).gen = m.gen)
    (hopt : Maps.find m.opt s.trn.opt = some e) :
    ∃ t id q, exec (.rdmaWriteMiddle p true payload) s = .next t ∧ t.qp p.qpn = some { c.expect 1 with openMsg := none } ∧
      Maps.find m.opt t.trn.opt = some { e with more := false } ∧ Maps.find id t.cle.reqs = some q ∧ q.kind = 6 ∧
      q.addr = m.next ∧ q.payload = payload ∧ q.last = true ∧ q.opt = some m.opt ∧ q.psn = p.psn ∧ q.win = m.rkey.toNat / 256 := by
  obtain ⟨u, prt, hu, hr⟩ := State.receive_request h hx rfl 0x08
  rw [← hu.window] at hwin hgen
  rw [← hu.opt] at hopt
  obtain ⟨id, q, hdone⟩ := State.process_writeLast (p := p) (r := { rkey := 0, va := 0, len := 0 }) hx hsend hopen hlen hpos hmtu
    hwin hgen hopt
  exact ⟨_, id, q, congrArg Host.Outcome.next hr, hdone⟩

/-- A plain atomic, whatever its kind, that is received and that nothing refuses (R72, R74). -/
theorem State.receive_atomic {s : State} {p : Pkt} {b : ReqBody} {c : Qp} {k : Word} {va : DWord} (h : Claims.Arrives s p b c)
    (hgo : Claims.AtomicGoes s p c k va) (bth : Nat) (kind : OptKind) (ops : List DWord) (hb : b.request = true)
    (hproc : ∀ u : State, c.notice = false → c.between = false → va.toNat % 8 = 0 →
      u.process p c b = u.admitAtomic p c kind k va ops) :
    Claims.AtomicAdmitted s (s.receive p bth b) p c k va kind kind.atomicKind kind.atomicBth ops := by
  obtain ⟨hx, hbetween, halign, hp, hrep, hfull⟩ := hgo
  obtain ⟨u, prt, hu, hr⟩ := State.receive_request h hx hb bth
  rw [hr, hproc u hx.host hbetween halign, State.admitAtomic_fresh kind ops (hu.passes hp) hrep hfull, hu.entryFor, hu.window]
  exact State.admitted_admitted _ p _ _ ⟨rfl, rfl, rfl⟩ prt

theorem exec_cmpswap {s : State} {p : Pkt} {c : Qp} {k : Word} {va x y : DWord} (h : Claims.Arrives s p (.cmpSwap k va x y) c)
    (hgo : Claims.AtomicGoes s p c k va) :
    ∃ t, exec (.cmpswap p k va x y) s = .next t ∧ Claims.AtomicAdmitted s t p c k va .cmpSwap 2 0x13 [x, y] := by
  refine ⟨_, rfl, State.receive_atomic h hgo 0x13 .cmpSwap [x, y] rfl fun u hn hb ha => ?_⟩
  simp [State.process, hn, hb, ha]

theorem exec_fetchadd {s : State} {p : Pkt} {c : Qp} {k : Word} {va x : DWord} (h : Claims.Arrives s p (.fetchAdd k va x) c)
    (hgo : Claims.AtomicGoes s p c k va) :
    ∃ t, exec (.fetchadd p k va x) s = .next t ∧ Claims.AtomicAdmitted s t p c k va .fetchAdd 3 0x14 [x] := by
  refine ⟨_, rfl, State.receive_atomic h hgo 0x14 .fetchAdd [x] rfl fun u hn hb ha => ?_⟩
  simp [State.process, hn, hb, ha]

theorem exec_atomicWrite {s : State} {p : Pkt} {c : Qp} {k : Word} {va x : DWord} (h : Claims.Arrives s p (.atomicWrite k va x) c)
    (hgo : Claims.AtomicGoes s p c k va) :
    ∃ t, exec (.atomicWrite p k va x) s = .next t ∧ Claims.AtomicAdmitted s t p c k va .atomicWrite 4 0x1D [x] := by
  refine ⟨_, rfl, State.receive_atomic h hgo 0x1D .atomicWrite [x] rfl fun u hn hb ha => ?_⟩
  simp [State.process, hn, hb, ha]

theorem exec_flush {s : State} {p : Pkt} {c : Qp} {r : Reth} {sel placement : Byte}
    (h : Claims.Arrives s p (.flush r sel placement) c) (hx : Claims.Expected p c) (hb : c.between = false) (hsel : sel.toNat ≤ 1)
    (hplace : placement ≠ 0) (hp : Claims.Passes s c (Claims.plainAccess r.rkey 8 r.va.toNat r.len.toNat (sel == 1) true)) :
    ∃ t, exec (.flush p r sel placement) s = .next t ∧
      Claims.Admitted t p (fun _ => { c.expect 1 with begun := c.begun + 1 })
        (s.entryFor p c .flush (r.rkey.toNat / 256) false)
        { baseRequest p c r.rkey 5 0x1C with
          addr := if sel = 1 then 0 else r.va.toNat - (s.window (r.rkey.toNat / 256)).vaBase
          len := if sel = 1 then (s.window (r.rkey.toNat / 256)).length else r.len.toNat
          rights := 8, msn := c.begun + 1 } := by
  obtain ⟨u, prt, hu, hr⟩ := State.receive_request h hx rfl 0x1C
  refine ⟨_, congrArg Host.Outcome.next hr, ?_⟩
  rw [State.process_flush hx hb hsel hplace (hu.passes hp), hu.entryFor, hu.window]
  exact State.admitted_admitted _ p _ _ ⟨rfl, rfl, rfl⟩ prt

theorem exec_sendOnly {s : State} {p : Pkt} {c : Qp} {m : List Byte} (h : Claims.Arrives s p (.send .only m) c)
    (hx : Claims.Expected p c) (hb : c.between = false) (hbuf : c.sendBuf = []) (hmtu : m.length ≤ mtuBytes c.pmtu)
    (hhead : headerOk m = true) (hcheck : s.checkAccess c.tenant (s.invokeAccess m) = Code.ok)
    (hrep : s.repeatsFor c.bond (headerField m 20 4) = []) (hfree : s.optFree c.cls true = true) :
    ∃ t id q, exec (.send p .only m) s = .next t ∧
      t.qp p.qpn = some { c.expect 1 with begun := c.begun + 1, msn := c.msn + 1, ackDue := c.ackDue ++ [p.psn] } ∧
      Maps.find id t.cle.reqs = some q ∧ q.kind = headerField m 1 1 ∧ q.addr = headerField m 8 8 ∧ q.len = headerField m 16 4 ∧
      q.payload = m.drop 32 ∧ q.tag = BitVec.ofNat 32 (headerField m 20 4) ∧ q.psn = p.psn := by
  obtain ⟨u, prt, hu, hr⟩ := State.receive_request h hx rfl 0x04
  have haccess : u.invokeAccess m = s.invokeAccess m := by
    rw [State.invokeAccess, State.declared, hu.conjEntry, hu.window]
  rw [← haccess, ← hu.checkAccess] at hcheck
  rw [← hu.repeatsFor] at hrep
  rw [← hu.optFree] at hfree
  obtain ⟨id, q, hdone⟩ := State.process_sendOnly hx hb hbuf hmtu hhead hcheck hrep hfree
  exact ⟨_, id, q, congrArg Host.Outcome.next hr, hdone⟩

/-- Settles O32, clause by clause. -/
theorem receivedRequests : Obligations.ReceivedRequests :=
  ⟨fun _ _ _ _ h hx hb hlen hmax hp hfull => exec_rdmaReadRequest h hx hb hlen hmax hp hfull,
    fun _ _ _ _ _ h hx hb hlen hpos hmtu hp => exec_rdmaWriteOnly h hx hb hlen hpos hmtu hp,
    fun _ _ _ _ _ _ h hx hsend hopen hlen hpos hmtu hwin hgen hopt =>
      exec_rdmaWriteLast h hx hsend hopen hlen hpos hmtu hwin hgen hopt,
    fun _ _ _ _ _ _ _ h hgo => exec_cmpswap h hgo,
    fun _ _ _ _ _ _ h hgo => exec_fetchadd h hgo,
    fun _ _ _ _ _ _ h hgo => exec_atomicWrite h hgo,
    fun _ _ _ _ _ _ h hx hb hsel hplace hp => exec_flush h hx hb hsel hplace hp,
    fun _ _ _ _ h hx hb hbuf hmtu hhead hcheck hrep hfree => exec_sendOnly h hx hb hbuf hmtu hhead hcheck hrep hfree⟩

end Sys2Proof.Machine
end

section
/-! Proofs of the family 03_ports_and_transport, answers: what a frame released for a QP leaves of it, and the acknowledges, CNPs,
stray responses and unsupported opcodes received (O33, O59). -/

namespace Sys2Proof.Machine

open Sys2Proof

/-! ## A frame released for a QP (R89, R92, R94, R96) -/

/-- `t` comes from `s` by frames of QP `q` released: its context is as it was but for its pacing and its outstanding requests, and of
the rest the Operation Table, the frames that wait and the queues of the ports alone have changed. -/
def Released (q : BitVec 24) (s t : State) : Prop :=
  ∃ qps opt paceq egress heldOut,
    t = { s with trn := { s.trn with qps, opt, paceq }, prt := { s.prt with egress, heldOut } } ∧
    ∀ c, s.qp q = some c → ∃ paceAt outstanding, t.qp q = some { c with paceAt, outstanding }

namespace Released

variable {q : BitVec 24} {s t u : State}

theorem refl (q : BitVec 24) (s : State) : Released q s s := ⟨_, _, _, _, _, rfl, fun c hc => ⟨c.paceAt, c.outstanding, hc⟩⟩

theorem trans (h : Released q s t) (h' : Released q t u) : Released q s u := by
  obtain ⟨_, _, _, _, _, rfl, hq⟩ := h
  obtain ⟨_, _, _, _, _, rfl, hq'⟩ := h'
  refine ⟨_, _, _, _, _, rfl, fun c hc => ?_⟩
  obtain ⟨_, _, hc'⟩ := hq c hc
  obtain ⟨paceAt, outstanding, hc''⟩ := hq' _ hc'
  exact ⟨paceAt, outstanding, hc''⟩

theorem foldl {β : Type} {f : State → β → State} (s : State) (l : List β) (hf : ∀ t b, Released q t (f t b)) :
    Released q s (l.foldl f s) :=
  List.foldlRecOn l f (refl q s) fun t ht b _ => ht.trans (hf t b)

theorem reg (h : Released q s t) (o : Nat) : t.reg o = s.reg o := by
  obtain ⟨_, _, _, _, _, rfl, -⟩ := h
  rfl

theorem freeOpt (q : BitVec 24) (s : State) (o : Nat) : Released q s (s.freeOpt o) :=
  ⟨_, _, _, _, _, rfl, fun c hc => ⟨c.paceAt, c.outstanding, hc⟩⟩

theorem enqueue (q : BitVec 24) (s : State) (lp : Nat) (f : Frame) : Released q s (s.enqueue lp f) :=
  ⟨_, _, _, _, _, rfl, fun c hc => ⟨c.paceAt, c.outstanding, hc⟩⟩

/-- A context replaced by one that differs in its pacing and its outstanding requests alone. -/
theorem setQp {c : Qp} (hc : s.qp q = some c) (paceAt : Nat) (outstanding : List OutRec) :
    Released q s (s.setQp q { c with paceAt, outstanding }) := by
  refine ⟨_, _, _, _, _, rfl, fun d hd => ⟨paceAt, outstanding, ?_⟩⟩
  cases hc.symm.trans hd
  exact State.qp_setQp _ _ _

theorem dropOutstanding (q : BitVec 24) (s : State) (o : Option Nat) : Released q s (s.dropOutstanding q o) := by
  unfold State.dropOutstanding
  split
  · next c _ hc => exact setQp hc c.paceAt _
  · exact refl q s

theorem depart (s : State) (lp : Nat) {f : Frame} (hf : f.qpn = q) : Released q s (s.depart lp f) := by
  unfold State.depart
  subst hf
  exact (enqueue _ s lp _).trans (foldl _ _ fun t o => (freeOpt _ t o).trans (dropOutstanding _ _ _))

theorem sendOut (s : State) (c : Qp) {f : Frame} (hf : f.qpn = q) : Released q s (s.sendOut c f) := by
  unfold State.sendOut
  split
  · exact refl q s
  · split
    · exact depart s _ hf
    · split
      · exact depart s _ hf
      · exact ⟨_, _, _, _, _, rfl, fun c hc => ⟨c.paceAt, c.outstanding, hc⟩⟩

theorem sendNow {c : Qp} {f : Frame} (hc : s.qp q = some c) (hf : f.qpn = q) : Released q s (s.sendNow q c f) := by
  unfold State.sendNow
  split
  · exact (setQp hc _ c.outstanding).trans (sendOut _ _ hf)
  · exact sendOut s c hf

theorem release (q : BitVec 24) (s : State) (f : Frame) : Released q s (s.release q f) := by
  unfold State.release
  split
  · exact foldl _ _ fun t o => freeOpt q t o
  · next c hc =>
    dsimp only
    split
    · exact ⟨_, _, _, _, _, rfl, fun c hc => ⟨c.paceAt, c.outstanding, hc⟩⟩
    · exact sendNow hc rfl

end Released

/-- The QP of a request that fails is in Error, with the code and the PSN in its last-status word (R88). -/
theorem State.nakCode_qp {s : State} {q psn : BitVec 24} {c : Qp} (hq : s.qp q = some c) (hn : c.notice = false) (code : Nat) :
    ∃ c', (s.nakCode q psn code).qp q = some c' ∧ c'.state = .error ∧ c'.lastCode = code ∧ c'.lastPsn = psn ∧ c'.ePsn = c.ePsn := by
  obtain ⟨_, _, _, _, _, -, hrel⟩ := Released.release q (s.setQp q { c with lastCode := code, lastPsn := psn })
    { kind := Code.nak code, psn, msn := c.msn }
  obtain ⟨paceAt, outstanding, hc⟩ := hrel _ (State.qp_setQp _ _ _)
  rw [State.nakCode, hq]
  dsimp only
  rw [if_neg (by simp [hn]), State.qpError, hc]
  dsimp only
  rw [State.markFailed, State.qp_setQp]
  exact ⟨_, State.qp_setQp _ _ _, rfl, rfl, rfl, rfl⟩

/-! ## Answers received (R70, R90–R93) -/

namespace CameIn

variable {s t : State}

theorem qps (h : CameIn s t) : t.trn.qps = s.trn.qps := by
  obtain ⟨_, _, _, _, _, _, _, _, _, rfl, -⟩ := h
  rfl

theorem now (h : CameIn s t) : t.now = s.now := by
  obtain ⟨_, _, _, _, _, _, _, _, _, rfl, -⟩ := h
  rfl

theorem effF (h : CameIn s t) : t.effF = s.effF := by
  obtain ⟨_, _, _, _, _, _, _, _, _, rfl, -⟩ := h
  rfl

/-- The engines, the write path and the rings are as they were. -/
theorem frame (h : CameIn s t) : t.cle = s.cle ∧ t.dur = s.dur ∧ t.ctl = s.ctl := by
  obtain ⟨_, _, _, _, _, _, _, _, _, rfl, -⟩ := h
  exact ⟨rfl, rfl, rfl⟩

end CameIn

/-- An Acknowledge goes to the requester side of a QP in RTS (R77, R90). -/
theorem State.admitPkt_ack {s : State} {p : Pkt} {c : Qp} (hq : s.qp p.qpn = some c) (hce : p.ce = false) (hst : c.state = .rts)
    (k : AckKind) : s.admitPkt p (.ack k) false = s.gotAck p c k := by
  rw [State.admitPkt, State.congested_unmarked hce, hq]
  exact if_pos hst

theorem State.admitPkt_cnp {s : State} {p : Pkt} {c : Qp} (hq : s.qp p.qpn = some c) (hce : p.ce = false) :
    s.admitPkt p .cnp false = s.gotCnp p.qpn c := by
  rw [State.admitPkt, State.congested_unmarked hce, hq]

theorem exec_acknowledge {s : State} {p : Pkt} {c : Qp} (h : Claims.Arrives s p (.ack .ack) c) (hst : c.state = .rts) :
    ∃ t, exec (.acknowledge p .ack) s = .next t ∧
      t.qp p.qpn = some { c with
        unacked := c.unacked.filter (fun f => !psnGe p.psn f.psn), sentTick := s.now, retriesLeft := c.retry,
        rnrLeft := c.rnrRetry, rnrUntil := none,
        reqOldest := ((c.unacked.filter (fun f => !psnGe p.psn f.psn)).head?.map (·.psn)).getD c.reqNext } := by
  obtain ⟨u, prt, hu, hr⟩ := State.receive_arrives h 0x11
  refine ⟨_, congrArg Host.Outcome.next hr, ?_⟩
  rw [State.admitPkt_ack (by rw [hu.qp]; exact h.qp) h.mark hst, ← hu.now]
  refine (State.qp_setQp u p.qpn _).trans ?_
  cases c.unacked.filter (fun f => !psnGe p.psn f.psn) with
  | nil => rfl
  | cons f fs => rfl

/-- What a CNP leaves: the QP's answer to it, in a state that is seen as the one before (R92, R93). -/
theorem State.receive_cnp {s : State} {p : Pkt} {c : Qp} (h : Claims.Arrives s p .cnp c) :
    ∃ u prt, CameIn s u ∧ s.receive p 0x81 .cnp = { u.gotCnp p.qpn c with prt } := by
  obtain ⟨u, prt, hu, hr⟩ := State.receive_arrives h 0x81
  refine ⟨u, prt, hu, ?_⟩
  rw [hr, State.admitPkt_cnp (by rw [hu.qp]; exact h.qp) h.mark]

theorem State.gotCnp_ristretto (s : State) (q : BitVec 24) {c : Qp} (h : c.cls = .ristretto) :
    s.gotCnp q c = s.bump Reg.TRN_CNT_CNP_RX := if_pos (by simp [h])

theorem State.gotCnp_other (s : State) (q : BitVec 24) {c : Qp} (h : c.cls ≠ .ristretto) :
    s.gotCnp q c = (s.bump Reg.TRN_CNT_CNP_RX).setQp q { c with
      rateTick := s.now
      rate := max (c.rate * max 1 (s.effF Reg.TRN_CC_CFG 23 16) / 256) (max 1 (s.effF Reg.TRN_CC_CFG2 23 16)) } :=
  if_neg (by simp [h])

theorem CameIn.reg_cnpRx {s t : State} (h : CameIn s t) : t.reg Reg.TRN_CNT_CNP_RX = s.reg Reg.TRN_CNT_CNP_RX :=
  h.reg (by decide) (by decide)

/-- A CNP of a Ristretto QP is counted alone (R93). -/
theorem exec_cnpReceived_ristretto {s : State} {p : Pkt} {c : Qp} (h : Claims.Arrives s p .cnp c) (hcls : c.cls = .ristretto) :
    ∃ t, exec (.cnpReceived p) s = .next t ∧ t.reg Reg.TRN_CNT_CNP_RX = s.reg Reg.TRN_CNT_CNP_RX + 1 ∧
      t.trn.qps = s.trn.qps ∧ t.cle = s.cle ∧ t.dur = s.dur ∧ t.ctl = s.ctl := by
  obtain ⟨u, prt, hu, hr⟩ := State.receive_cnp h
  rw [State.gotCnp_ristretto u p.qpn hcls] at hr
  refine ⟨_, congrArg Host.Outcome.next hr, ?_, hu.qps, hu.frame⟩
  rw [← hu.reg_cnpRx]
  exact u.reg_bumpBy _ 1

theorem exec_cnpReceived_cuts {s : State} {p : Pkt} {c : Qp} (h : Claims.Arrives s p .cnp c) (hcls : c.cls ≠ .ristretto) :
    ∃ t, exec (.cnpReceived p) s = .next t ∧ t.reg Reg.TRN_CNT_CNP_RX = s.reg Reg.TRN_CNT_CNP_RX + 1 ∧
      t.qp p.qpn = some { c with
        rateTick := s.now
        rate := max (c.rate * max 1 (s.effF Reg.TRN_CC_CFG 23 16) / 256) (max 1 (s.effF Reg.TRN_CC_CFG2 23 16)) } := by
  obtain ⟨u, prt, hu, hr⟩ := State.receive_cnp h
  rw [State.gotCnp_other u p.qpn hcls] at hr
  refine ⟨_, congrArg Host.Outcome.next hr, ?_, ?_⟩
  · rw [← hu.reg_cnpRx]
    exact u.reg_bumpBy _ 1
  · rw [← hu.now, ← hu.effF]
    exact State.qp_setQp _ _ _

/-! ## What is dropped or refused (R61, R70) -/

theorem State.reg_captureQp_dropOther (s : State) (lp : Nat) (sent : Bool) (qpn : BitVec 24) (cycle bth : Nat) (psn : BitVec 24) :
    (s.captureQp lp sent qpn cycle bth psn).reg (prtReg Reg.PRT_DROP_OTHER lp) = s.reg (prtReg Reg.PRT_DROP_OTHER lp) := by
  unfold State.captureQp
  split
  · exact s.reg_capture_dropOther lp sent true cycle bth psn.toNat
  · rfl

theorem State.reg_ingress (s : State) (lp q occ o : Nat) : (s.ingress lp q occ).reg o = s.reg o := by
  obtain ⟨_, _, _, hi⟩ := s.ingress_eq lp q occ
  rw [hi]
  rfl

/-- A read response is counted as dropped (R70). -/
theorem exec_rdmaReadResponseRx_dropped {s : State} {p : Pkt} (op : Byte) (hup : s.lpUp p.lp = true)
    (ha : s.addressed p = true) :
    ∃ t, exec (.rdmaReadResponseRx p op) s = .next t ∧
      t.reg (prtReg Reg.PRT_DROP_OTHER p.lp) = s.reg (prtReg Reg.PRT_DROP_OTHER p.lp) + 1 ∧
      t = { s with bar := t.bar, prt := t.prt } := by
  have harrive (k : State → State) : s.arrive p op.toNat .readResponse k =
      (k (s.takenIn p op.toNat .readResponse)).ingress p.lp ((k (s.takenIn p op.toNat .readResponse)).rxPrio p) p.occ := by
    rw [State.arrive, if_neg (by simp [hup]), if_neg (by simp [ha])]
  refine ⟨_, congrArg Host.Outcome.next (harrive _), ?_, ?_⟩
  · rw [State.reg_ingress, State.bump, State.reg_bumpBy, State.reg_captureQp_dropOther, State.reg_ingress]
    rfl
  · obtain ⟨_, _, _, hi⟩ := ((s.takenIn p op.toNat .readResponse).bump (prtReg Reg.PRT_DROP_OTHER p.lp)).ingress_eq p.lp
      (((s.takenIn p op.toNat .readResponse).bump (prtReg Reg.PRT_DROP_OTHER p.lp)).rxPrio p) p.occ
    obtain ⟨_, _, ht⟩ := s.takenIn_eq p op.toNat .readResponse
    rw [hi, ht]
    rfl

/-- A read response that is not the port's own is counted, and nothing else (R61). -/
theorem exec_rdmaReadResponseRx_stray {s : State} {p : Pkt} (op : Byte) (hup : s.lpUp p.lp = true) (ha : s.addressed p = false) :
    ∃ t, exec (.rdmaReadResponseRx p op) s = .next t ∧ Claims.OnlyCounted s t (prtReg Reg.PRT_DROP_OTHER p.lp) := by
  refine ⟨_, ?_, s.onlyCounted_bump _⟩
  change execRdmaReadResponseRx p op s = _
  rw [execRdmaReadResponseRx, State.arrive, if_neg (by simp [hup]), if_pos (by simp [ha])]

/-- An opcode of no supported request leaves the QP in Error (R70, R88). -/
theorem exec_unsupportedOpcode {s : State} {p : Pkt} {c : Qp} {op : Byte} (h : Claims.Arrives s p (.unsupported op) c)
    (hx : Claims.Expected p c) :
    ∃ t c', exec (.unsupportedOpcode p true op) s = .next t ∧ t.qp p.qpn = some c' ∧ c'.state = .error ∧
      c'.lastCode = Code.invalidRequest ∧ c'.lastPsn = p.psn ∧ c'.ePsn = c.ePsn := by
  obtain ⟨u, prt, hu, hr⟩ := State.receive_request h hx rfl op.toNat
  have hq : u.qp p.qpn = some c := by rw [hu.qp]; exact h.qp
  obtain ⟨c', hc'⟩ := State.nakCode_qp (psn := p.psn) hq hx.host Code.invalidRequest
  have hinvalid : u.process p c (.unsupported op) = u.nakCode p.qpn p.psn Code.invalidRequest := by
    rw [State.process, if_neg (by simp [hx.host])]
    rfl
  rw [hinvalid] at hr
  exact ⟨_, c', congrArg Host.Outcome.next hr, hc'⟩

/-- Settles O33, clause by clause. -/
theorem receivedAnswers : Obligations.ReceivedAnswers :=
  ⟨fun _ _ _ h hst => exec_acknowledge h hst,
    fun _ _ _ h hcls =>
      let ⟨t, ht, hreg, hqps, _⟩ := exec_cnpReceived_ristretto h hcls
      ⟨t, ht, hreg, hqps⟩,
    fun _ _ _ h hcls => exec_cnpReceived_cuts h hcls,
    fun _ _ op hup ha => exec_rdmaReadResponseRx_dropped op hup ha,
    fun _ _ op hup ha => exec_rdmaReadResponseRx_stray op hup ha,
    fun _ _ _ _ h hx => exec_unsupportedOpcode h hx⟩

/-- A Ristretto QP is not paced, with congestion control on or off (R93). -/
theorem State.isPaced_ristretto (s : State) {c : Qp} (h : c.cls = .ristretto) : s.isPaced c = false := by
  simp [State.isPaced, h]

/-- Settles O59: pacing is of Lungo and Drip alone, and a CNP's cut is not of Ristretto. -/
theorem ristrettoNeverPaced : Obligations.RistrettoNeverPaced :=
  ⟨fun s _ hcls => s.isPaced_ristretto hcls, fun _ _ _ h hcls => exec_cnpReceived_ristretto h hcls⟩

end Sys2Proof.Machine
end

section
/-! Proofs of the family 03_ports_and_transport, events: fetches and invalidations that end, timers, the rise of a QP's rate and its
paced frames (O34). -/

namespace Sys2Proof.Machine

open Sys2Proof

/-! ## Fetches that end (R78, R80, R120, R121) -/

theorem Maps.mem_put_same {α : Type} (k : Nat) (v : α) : ∀ m : Table α, (k, v) ∈ Maps.put k v m
  | [] => by simp [Maps.put]
  | (j, w) :: m => by
    have ih := Maps.mem_put_same k v m
    simp only [Maps.put]
    split
    · simp
    · split
      · simp
      · simp [ih]

/-- A key is found in the set in which it has been installed. -/
theorem CacheSet.wayOf_install (cs : CacheSet) (way key : Nat) (dirty : Bool) : ((cs.install way key dirty).wayOf key).isSome = true := by
  rw [CacheSet.wayOf, Option.isSome_map, List.find?_isSome]
  exact ⟨(way, key, dirty), Maps.mem_put_same _ _ _, by simp⟩

theorem Maps.getD_put_same {α : Type} (k : Nat) (v d : α) (m : Table α) : Maps.getD (Maps.put k v m) k d = v := by
  rw [Maps.getD, Maps.find_put_same, Option.getD_some]

/-- No packet of a QP is among those that wait. -/
theorem State.inMiss_eq_false {s : State} {q : BitVec 24} (h : s.inMiss q = false) {e : Nat × List MissEntry} (he : e ∈ s.prt.miss)
    {m : MissEntry} (hm : m ∈ e.2) : (m.pkt.qpn == q) = false := by
  simp only [State.inMiss, List.any_eq_false] at h
  have hnone := h e he
  rw [Bool.not_eq_true, List.any_eq_false] at hnone
  exact Bool.eq_false_iff.2 (hnone m hm)

/-- A QP of which no packet waits has none to admit: the miss buffers alone are gone through. -/
theorem State.drainMiss_none {s : State} {q : BitVec 24} (h : s.inMiss q = false) : s.drainMiss q = (s.takeMiss q).2 := by
  have hnone : s.prt.miss.flatMap (fun e => e.2.filter (fun m => m.pkt.qpn == q)) = [] := by
    rw [List.flatMap_eq_nil_iff]
    exact fun e he => List.filter_eq_nil_iff.2 fun m hm => Bool.eq_false_iff.1 (State.inMiss_eq_false h he hm)
  have hempty : (s.takeMiss q).1 = [] := by rw [State.takeMiss, hnone]; rfl
  unfold State.drainMiss
  dsimp only
  rw [hempty]
  rfl

/-- The state in which a fetched context is installed. -/
abbrev State.ctxFetched (s : State) (q : BitVec 24) : State :=
  { s with trn := { s.trn with fetching := Maps.del q.toNat s.trn.fetching } }

/-- A fetched context goes into the way kept for it (R78, R80). -/
theorem State.wayOf_installQp {s : State} {q : BitVec 24} {w : Nat} (h : Maps.find q.toNat s.trn.installs = some (qpSet q, w)) :
    ((Maps.getD (s.installQp q).trn.cache (qpSet q) {}).wayOf q.toNat).isSome = true := by
  have hplace (d : Nat × Nat) : Maps.getD s.trn.installs q.toNat d = (qpSet q, w) := by rw [Maps.getD, h, Option.getD_some]
  rw [State.installQp]
  dsimp only
  rw [hplace, Maps.getD_put_same]
  exact CacheSet.wayOf_install _ _ _ _

theorem exec_contextFetchDone_alone {s : State} {q : BitVec 24} {c : Qp} (occ : Nat)
    (hf : Maps.has s.trn.fetching q.toNat = true) (hq : s.qp q = some c) (hm : s.inMiss q = false) :
    exec (.contextFetchDone q occ) s = .next (((s.ctxFetched q).installQp q).takeMiss q).2 := by
  have hfirst : (s.prt.miss.flatMap (·.2)).find? (fun e => e.pkt.qpn == q) = none := by
    rw [List.find?_eq_none]
    intro m hmem
    obtain ⟨e, he, hme⟩ := List.mem_flatMap.1 hmem
    exact Bool.eq_false_iff.1 (State.inMiss_eq_false hm he hme)
  have hq' : (s.ctxFetched q).qp q = some c := hq
  have hdrain : ((s.ctxFetched q).installQp q).drainMiss q = (((s.ctxFetched q).installQp q).takeMiss q).2 :=
    State.drainMiss_none hm
  change execContextFetchDone q occ s = _
  rw [execContextFetchDone, if_neg (by simp [hf])]
  dsimp only
  rw [hfirst, hq']
  exact congrArg Host.Outcome.next hdrain

theorem exec_contextFetchDone {s : State} {q : BitVec 24} {c : Qp} {w : Nat} (occ : Nat)
    (hf : Maps.has s.trn.fetching q.toNat = true) (hq : s.qp q = some c)
    (hi : Maps.find q.toNat s.trn.installs = some (qpSet q, w)) (hm : s.inMiss q = false) :
    ∃ t, exec (.contextFetchDone q occ) s = .next t ∧ Maps.find q.toNat t.trn.fetching = none ∧
      ((Maps.getD t.trn.cache (qpSet q) {}).wayOf q.toNat).isSome = true ∧ t.trn.qps = s.trn.qps :=
  ⟨_, exec_contextFetchDone_alone occ hf hq hm, Maps.find_del_same _ _, State.wayOf_installQp (s := s.ctxFetched q) hi, rfl⟩

/-- The state in which a fetched descriptor stands in the key cache. -/
abbrev State.keyFetched (s : State) (i : Nat) : State :=
  let cs := Maps.getD s.win.keyCache (keySet i) {}
  let keyCache := if s.keyPresent i then s.win.keyCache else Maps.put (keySet i) (cs.install (cs.target []) i false) s.win.keyCache
  { s with win := { s.win with fetching := Maps.del i s.win.fetching, keyCache } }

theorem State.keyPresent_keyFetched (s : State) (i : Nat) : (s.keyFetched i).keyPresent i = true := by
  by_cases h : s.keyPresent i = true
  · rw [State.keyPresent]
    dsimp only
    rw [if_pos h]
    exact h
  · rw [State.keyPresent]
    dsimp only
    rw [if_neg h, Maps.getD_put_same, CacheSet.wayOf_install, Bool.or_true]

theorem State.missQps_nil {s : State} (h : ∀ e ∈ s.prt.miss, e.2 = []) : s.missQps = [] := by
  have hnone : s.prt.miss.flatMap (fun e => e.2.map (fun m => m.pkt.qpn.toNat)) = [] := by
    rw [List.flatMap_eq_nil_iff]
    exact fun e he => by rw [h e he, List.map_nil]
  rw [State.missQps, hnone]
  rfl

theorem exec_descriptorFetchDone {s : State} {i : BitVec 24} (hf : Maps.has s.win.fetching i.toNat = true)
    (hm : ∀ e ∈ s.prt.miss, e.2 = []) :
    ∃ t, exec (.descriptorFetchDone i) s = .next t ∧ Maps.find i.toNat t.win.fetching = none ∧ t.keyPresent i.toNat = true ∧
      t.win.windows = s.win.windows := by
  refine ⟨s.keyFetched i.toNat, ?_, Maps.find_del_same _ _, s.keyPresent_keyFetched i.toNat, rfl⟩
  have hnone : (s.keyFetched i.toNat).missQps = [] := State.missQps_nil hm
  change execDescriptorFetchDone i s = _
  rw [execDescriptorFetchDone, if_neg (by simp [hf])]
  exact congrArg (fun l => Host.Outcome.next (List.foldl _ (s.keyFetched i.toNat) l)) hnone

/-! ## Invalidations that end (R79, R120) -/

theorem exec_contextInvalidationDone {s : State} (h : s.getB Reg.TRN_STATUS 0 = false) :
    ∃ t, exec .contextInvalidationDone s = .next t ∧ t.trn = { s.trn with store := [], cache := [] } ∧
      t.getB Reg.TRN_STATUS 0 = true ∧ Claims.OtherRegs s t [Reg.TRN_STATUS] := by
  refine ⟨({ s with trn := { s.trn with store := [], cache := [] } } : State).setB Reg.TRN_STATUS 0 true, ?_, rfl,
    State.getB_setB_same _ _ _ (by decide), fun o ho => ?_⟩
  · change execContextInvalidationDone s = _
    rw [execContextInvalidationDone, if_neg (by simp [h])]
  · exact State.reg_setB_other { s with trn := { s.trn with store := [], cache := [] } } 0 true (by simpa using ho)

theorem exec_keyCacheInvalidationDone {s : State} (h : s.getB Reg.WIN_STATUS 0 = false) :
    ∃ t, exec .keyCacheInvalidationDone s = .next t ∧ t.win = { s.win with pinStore := [], keyCache := [] } ∧
      t.getB Reg.WIN_STATUS 0 = true ∧ Claims.OtherRegs s t [Reg.WIN_STATUS] := by
  refine ⟨({ s with win := { s.win with pinStore := [], keyCache := [] } } : State).setB Reg.WIN_STATUS 0 true, ?_, rfl,
    State.getB_setB_same _ _ _ (by decide), fun o ho => ?_⟩
  · change execKeyCacheInvalidationDone s = _
    rw [execKeyCacheInvalidationDone, if_neg (by simp [h])]
  · exact State.reg_setB_other { s with win := { s.win with pinStore := [], keyCache := [] } } 0 true (by simpa using ho)

/-! ## Timers (R90) -/

/-- Frames sent again are counted, and leave of their QP's context all but when it sent, its pacing and its outstanding requests. -/
theorem State.retransmit_spec {s : State} {q : BitVec 24} {c : Qp} (hq : s.qp q = some c) (psn : BitVec 24) :
    (∃ paceAt outstanding, (s.retransmit q psn).qp q = some { c with sentTick := s.now, paceAt, outstanding }) ∧
    (s.retransmit q psn).reg Reg.TRN_CNT_RETX =
      s.reg Reg.TRN_CNT_RETX + BitVec.ofNat 32 (c.unacked.filter (fun g => psnGe g.psn psn)).length := by
  have hrel := Released.foldl (q := q) (s.setQp q { c with sentTick := s.now }) (c.unacked.filter (fun g => psnGe g.psn psn))
    fun t f => Released.release q t f
  have hreg := hrel.reg Reg.TRN_CNT_RETX
  obtain ⟨_, _, _, _, _, -, hqp⟩ := hrel
  obtain ⟨paceAt, outstanding, hc⟩ := hqp _ (State.qp_setQp _ _ _)
  rw [State.retransmit, hq]
  dsimp only
  refine ⟨⟨paceAt, outstanding, ?_⟩, ?_⟩
  · rw [State.qp, State.bumpBy_trn]
    exact hc
  · rw [State.reg_bumpBy, hreg]
    rfl

theorem exec_ackTimeout {s : State} {q : BitVec 24} {c : Qp} {f : Frame} {rest : List Frame} (hq : s.qp q = some c)
    (hun : c.unacked = f :: rest) (hst : c.state = .rts) (hcode : c.ackCode ≠ 0) (hrnr : c.rnrUntil = none)
    (hdue : ackTicks c.ackCode ≤ s.now - c.sentTick) (hleft : c.retriesLeft ≠ 0) :
    ∃ t c', exec (.ackTimeout q) s = .next t ∧ t.qp q = some c' ∧ c'.retriesLeft = c.retriesLeft - 1 ∧ c'.sentTick = s.now ∧
      c'.unacked = c.unacked ∧
      t.reg Reg.TRN_CNT_RETX = s.reg Reg.TRN_CNT_RETX + BitVec.ofNat 32 (c.unacked.filter (fun g => psnGe g.psn f.psn)).length := by
  obtain ⟨⟨paceAt, outstanding, hc⟩, hreg⟩ :=
    State.retransmit_spec (State.qp_setQp s q { c with retriesLeft := c.retriesLeft - 1 }) f.psn
  refine ⟨_, _, ?_, hc, rfl, rfl, rfl, hreg⟩
  change execAckTimeout q s = _
  rw [execAckTimeout, hq]
  dsimp only
  rw [hun]
  dsimp only
  rw [if_neg (by simp [hst, hcode, hrnr, hdue]), if_neg hleft]

theorem exec_rnrTimerExpiry {s : State} {q : BitVec 24} {c : Qp} {due : Nat} {psn : BitVec 24} (hq : s.qp q = some c)
    (hrnr : c.rnrUntil = some (due, psn)) (hdue : due ≤ s.now) :
    ∃ t c', exec (.rnrTimerExpiry q) s = .next t ∧ t.qp q = some c' ∧ c'.rnrUntil = none ∧ c'.sentTick = s.now ∧
      c'.unacked = c.unacked ∧
      t.reg Reg.TRN_CNT_RETX = s.reg Reg.TRN_CNT_RETX + BitVec.ofNat 32 (c.unacked.filter (fun g => psnGe g.psn psn)).length := by
  obtain ⟨⟨paceAt, outstanding, hc⟩, hreg⟩ := State.retransmit_spec (State.qp_setQp s q { c with rnrUntil := none }) psn
  refine ⟨_, _, ?_, hc, rfl, rfl, rfl, hreg⟩
  change execRnrTimerExpiry q s = _
  rw [execRnrTimerExpiry, hq]
  dsimp only
  rw [hrnr]
  exact congrArg Host.Outcome.next (if_neg (Nat.not_lt.2 hdue))

/-! ## Rate and pacing (R92) -/

theorem exec_ccRateIncrease {s : State} {q : BitVec 24} {c : Qp} (hq : s.qp q = some c) (hp : s.isPaced c = true)
    (hr : c.rate ≠ 256) (hdue : max 1 (s.effF Reg.TRN_CC_CFG2 15 0) ≤ s.now - c.rateTick) :
    ∃ t, exec (.ccRateIncrease q) s = .next t ∧
      t.qp q = some { c with rate := min (c.rate + s.effF Reg.TRN_CC_CFG 31 24) 256, rateTick := s.now } ∧
      (∀ k, k ≠ q.toNat → Maps.find k t.trn.qps = Maps.find k s.trn.qps) ∧
      t = { s with trn := { s.trn with qps := t.trn.qps } } := by
  have hwait : ¬ s.now - c.rateTick < Nat.max 1 (s.effF Reg.TRN_CC_CFG2 15 0) := Nat.not_lt.2 hdue
  refine ⟨_, ?_, State.qp_setQp s q _, fun k hk => Maps.find_put_other _ hk _, rfl⟩
  change execCcRateIncrease q s = _
  rw [execCcRateIncrease, hq]
  dsimp only
  rw [if_neg (by rw [hp, decide_eq_false hr, decide_eq_false hwait]; decide)]

/-- Entries freed one after the other, each with its request's place among the outstanding ones. -/
theorem State.freeOpts_trn (q : BitVec 24) (l : List Nat) : ∀ s : State, ∃ qps,
    (l.foldl (fun (s : State) (o : Nat) => (s.freeOpt o).dropOutstanding q (some o)) s).trn =
      { s.trn with qps, opt := l.foldl (fun m o => Maps.del o m) s.trn.opt } := by
  induction l with
  | nil => exact fun s => ⟨s.trn.qps, rfl⟩
  | cons o l ih =>
    intro s
    have hdrop : ∃ qps, ((s.freeOpt o).dropOutstanding q (some o)).trn = { (s.freeOpt o).trn with qps } := by
      unfold State.dropOutstanding
      split
      · exact ⟨_, rfl⟩
      · exact ⟨_, rfl⟩
    obtain ⟨_, hdrop⟩ := hdrop
    obtain ⟨qps, hl⟩ := ih ((s.freeOpt o).dropOutstanding q (some o))
    rw [hdrop] at hl
    exact ⟨qps, hl⟩

/-- A record taken out stays out. -/
theorem Maps.find_foldl_del {α : Type} {i : Nat} (l : List Nat) : ∀ m : Table α, find i m = none ∨ i ∈ l →
    find i (l.foldl (fun m o => del o m) m) = none := by
  induction l with
  | nil => exact fun m h => h.resolve_right (List.not_mem_nil)
  | cons o l ih =>
    intro m h
    refine ih _ ?_
    by_cases ho : i = o
    · rw [ho]
      exact .inl (find_del_same o m)
    · rw [find_del_other ho]
      exact h.imp_right fun hi => (List.mem_cons.1 hi).resolve_left ho

/-- A frame sent for a QP whose EGRESS_LP is up departs there, its QP's pacing interval started (R92, R94). -/
theorem State.sendNow_egress {s : State} (q : BitVec 24) {c : Qp} (f : Frame) (hy : s.twn.yieldedAt = none)
    (hup : s.lpUp c.egressLp = true) :
    ∃ qps, s.sendNow q c f = State.depart { s with trn := { s.trn with qps } } c.egressLp f := by
  unfold State.sendNow
  split
  · exact ⟨_, State.sendOut_egress (s := s.setQp q _) hy hup⟩
  · exact ⟨s.trn.qps, State.sendOut_egress hy hup⟩

/-- A frame that departs frees the entries that go with it, and leaves the frames that wait (R92, R96). -/
theorem State.depart_trn (s : State) (lp : Nat) (f : Frame) : ∃ qps, (s.depart lp f).trn =
    { s.trn with qps, opt := (f.opt.toList ++ f.acks).foldl (fun m o => Maps.del o m) s.trn.opt } :=
  State.freeOpts_trn f.qpn _ (s.enqueue lp { f with opt := none, acks := [] })

/-- The state in which of a QP's waiting frames `fs` are left. -/
abbrev State.leftWaiting (s : State) (q : BitVec 24) (fs : List Frame) : State :=
  { s with trn := { s.trn with
    paceq := if fs.isEmpty then Maps.del q.toNat s.trn.paceq else Maps.put q.toNat fs s.trn.paceq } }

theorem exec_pacedRelease {s : State} {q : BitVec 24} {c : Qp} {f : Frame} {fs : List Frame} (hq : s.qp q = some c)
    (hw : Maps.find q.toNat s.trn.paceq = some (f :: fs)) (hdue : c.paceAt ≤ s.tck.start) (hy : s.twn.yieldedAt = none)
    (hup : s.lpUp c.egressLp = true) :
    ∃ t, exec (.pacedRelease q) s = .next t ∧ Maps.getD t.trn.paceq q.toNat [] = fs ∧
      Claims.Queued s t c.egressLp { f with opt := none, acks := [] } ∧ ∀ o, f.opt = some o → Maps.find o t.trn.opt = none := by
  have hexec : exec (.pacedRelease q) s = .next ((s.leftWaiting q fs).sendNow q c f) := by
    change execPacedRelease q s = _
    rw [execPacedRelease, hq, Maps.getD, hw, Option.getD_some]
    exact congrArg Host.Outcome.next (if_neg (by simp [hdue]))
  obtain ⟨qps, hsend⟩ := State.sendNow_egress (s := s.leftWaiting q fs) q f hy hup
  obtain ⟨_, htrn⟩ := State.depart_trn { s.leftWaiting q fs with trn := { (s.leftWaiting q fs).trn with qps } } c.egressLp f
  obtain ⟨_, henq⟩ := State.depart_enqueues { s.leftWaiting q fs with trn := { (s.leftWaiting q fs).trn with qps } } c.egressLp f
  rw [hsend] at hexec
  refine ⟨_, hexec, ?_, ?_, fun o ho => ?_⟩
  · rw [htrn]
    exact Maps.getD_del_or_put _ _ _
  · rw [henq]
    exact s.queued_enqueue c.egressLp { f with opt := none, acks := [] }
  · rw [htrn]
    exact Maps.find_foldl_del _ _ (.inr (by simp [ho]))

/-- Settles O34, clause by clause. -/
theorem transportEvents : Obligations.TransportEvents :=
  ⟨fun _ _ _ _ occ hf hq hi hm => exec_contextFetchDone occ hf hq hi hm,
    fun _ _ hf hm => exec_descriptorFetchDone hf hm,
    fun _ h => exec_contextInvalidationDone h,
    fun _ h => exec_keyCacheInvalidationDone h,
    fun _ _ _ _ _ hq hun hst hcode hrnr hdue hleft => exec_ackTimeout hq hun hst hcode hrnr hdue hleft,
    fun _ _ _ _ _ hq hrnr hdue => exec_rnrTimerExpiry hq hrnr hdue,
    fun _ _ _ hq hp hr hdue => exec_ccRateIncrease hq hp hr hdue,
    fun _ _ _ _ _ hq hw hdue hy hup => exec_pacedRelease hq hw hdue hy hup⟩

end Sys2Proof.Machine
end

section
/-! Proofs of the family 04_windows_and_tenants, tables: what the transactions sent to the stacks, the journal, notifications and the
answers to commands leave alone; discards, pinned publications, revocations and program releases (O26, O58). -/

namespace Sys2Proof.Machine

open Sys2Proof

/-! ## Tables -/

/-- A read after a change of one record. -/
theorem Maps.find_upd {α : Type} (k i : Nat) (f : α → α) (m : Table α) :
    Maps.find i (Maps.upd k f m) = if i = k then (Maps.find i m).map f else Maps.find i m := by
  unfold Maps.upd
  split
  · next v hv =>
    split
    · next h => rw [h, Maps.find_put_same, hv, Option.map_some]
    · next h => rw [Maps.find_put_other _ h]
  · next hv =>
    split
    · next h => rw [h, hv, Option.map_none]
    · rfl

/-- A table filtered by its keys reads as before at the keys kept, and has no record at the others. -/
theorem Maps.find_filter_key {α : Type} (p : Nat → Bool) (i : Nat) :
    ∀ m : Table α, Maps.find i (m.filter fun e => p e.1) = if p i then Maps.find i m else none
  | [] => by simp
  | (j, v) :: m => by
    have ih := Maps.find_filter_key p i m
    by_cases hij : i = j
    · subst hij
      cases hp : p i <;> simp [Maps.find, hp, ih]
    · cases hp : p j <;> simp [Maps.find, hp, ih, hij]

/-- A cleared range reads as 0, and every other byte as before. -/
theorem Mem.byte_clear (m : Mem) (a n i : Nat) :
    (Mem.clear m a n).byte i = if i < a ∨ a + n ≤ i then m.byte i else 0 := by
  rw [Mem.byte, Mem.clear, Maps.rd, Maps.find_filter_key (fun i => i < a || a + n ≤ i)]
  by_cases h : i < a ∨ a + n ≤ i
  · rw [if_pos h, if_pos (by simpa using h), Mem.byte, Maps.rd]
  · rw [if_neg h, if_neg (by simpa using h)]
    rfl

/-- What every step of a fold leaves alone, the fold does. -/
theorem foldl_unchanged {α β : Type} {view : State → α} {f : State → β → State} (h : ∀ s b, view (f s b) = view s) (l : List β)
    (s : State) : view (l.foldl f s) = view s :=
  List.foldlRecOn (motive := fun t => view t = view s) l f rfl fun t ht b _ => (h t b).trans ht

/-! ## Transactions sent to the stacks, and the journal (R250–R257, R387) -/

theorem State.takeBytes_eq (n : Nat) : ∀ s : State, ∃ free, (s.takeBytes n).2 = { s with free } := by
  induction n with
  | zero => exact fun s => ⟨s.free, rfl⟩
  | succ n ih =>
    intro s
    obtain ⟨free, h⟩ := ih { s with free := s.free + 1 }
    exact ⟨free, h⟩

/-- To compose a transaction takes free values, and nothing else. -/
theorem State.compose_eq (s : State) (m : Nat) (t : MTrans) : ∃ free, (s.compose m t).2 = { s with free } := by
  have hmeta (u : State) (data : List Byte) : (u.metaLine m t data).2 = { u with free := u.free + 1 } := rfl
  unfold State.compose
  split
  case h_6 | h_9 | h_10 | h_11 | h_12 | h_13 => split <;> exact ⟨_, rfl⟩
  case h_14 =>
    obtain ⟨_, h⟩ := s.takeBytes_eq 36
    rw [hmeta, h]
    exact ⟨_, rfl⟩
  case h_15 =>
    obtain ⟨_, h⟩ := s.takeBytes_eq 64
    rw [hmeta, h]
    exact ⟨_, rfl⟩
  all_goals exact ⟨_, rfl⟩

/-- The state but for what sending to the stacks changes: the slots of the tick and the tenants' meters, the journal's groups, the links
and the write counts of their regions, tiles, and the free values taken. -/
def State.besideMedia (s : State) : State :=
  { s with
    tck := {}, stg := {}, free := 0
    win := { s.win with tenants := [] }
    dur := { s.dur with journalSeq := 0, journalOpen := [], groups := [], undo := [] }
    med := { s.med with links := [], regions := [] } }

section BesideMedia

variable (s : State)

@[simp] theorem State.besideMedia_setLink (m : Nat) (l : MLinkRec) : (s.setLink m l).besideMedia = s.besideMedia := rfl

@[simp] theorem State.besideMedia_takeSlots (n e k : Nat) (cls : Cls) (tenant : Nat) :
    (s.takeSlots n e k cls tenant).besideMedia = s.besideMedia := by
  unfold State.takeSlots
  dsimp only
  split
  · rfl
  · rfl

@[simp] theorem State.besideMedia_compose (m : Nat) (t : MTrans) : (s.compose m t).2.besideMedia = s.besideMedia := by
  obtain ⟨_, h⟩ := s.compose_eq m t
  rw [h]
  rfl

@[simp] theorem State.besideMedia_countWrite (t : MTrans) : (s.countWrite t).besideMedia = s.besideMedia := by
  unfold State.countWrite
  split
  · rfl
  · rfl

@[simp] theorem State.besideMedia_takeLine (tile line : Nat) : (s.takeLine tile line).besideMedia = s.besideMedia := by
  unfold State.takeLine
  split
  · rfl
  · rfl

@[simp] theorem State.besideMedia_resend (m tag : Nat) : (s.resend m tag).besideMedia = s.besideMedia := by
  unfold State.resend
  dsimp only
  split
  · rfl
  · rfl

@[simp] theorem State.besideMedia_send (m : Nat) (w : MWork) : (s.send m w).besideMedia = s.besideMedia := by
  unfold State.send
  dsimp only
  split
  · simp
  · simp

@[simp] theorem State.besideMedia_pumpOne (m : Nat) : (s.pumpOne m).besideMedia = s.besideMedia := by
  unfold State.pumpOne
  dsimp only
  split
  · rfl
  · split
    · rfl
    · split
      · simp
      · simp

@[simp] theorem State.besideMedia_issueFor (m : Nat) (cls : Cls) (tenant : Nat) (t : MTrans) :
    (s.issueFor m cls tenant t).besideMedia = s.besideMedia :=
  State.besideMedia_pumpOne _ m

@[simp] theorem State.besideMedia_journalFor (cls : Cls) (tenant : Nat) (recs : List (Nat × Nat)) :
    (s.journalFor cls tenant recs).2.besideMedia = s.besideMedia :=
  (foldl_unchanged (fun t _ => t.besideMedia_issueFor _ _ _ _) _ _ : _)

@[simp] theorem State.besideMedia_journal (recs : List (Nat × Nat)) : (s.journal recs).2.besideMedia = s.besideMedia :=
  s.besideMedia_journalFor _ _ recs

end BesideMedia

/-! ## Discards (R342) -/

/-- Where pages lie, which are to be discarded, and the bytes stored. -/
abbrev State.pageView (s : State) : Table PageLoc × Table Bool × Mem := (s.win.pages, s.win.discards, s.med.store)

theorem State.pageView_eq {s t : State} (h : t.besideMedia = s.besideMedia) : t.pageView = s.pageView :=
  (congrArg State.pageView h :)

theorem State.pageView_serveTile (s : State) (page tile : Nat) : (s.serveTile page tile).pageView = s.pageView := by
  unfold State.serveTile
  split
  · rfl
  · exact foldl_unchanged (fun t l => State.pageView_eq (t.besideMedia_takeLine tile l)) _ _

theorem State.pageView_endNandRead (s : State) (page : Nat) : (s.endNandRead page).pageView = s.pageView :=
  (foldl_unchanged (view := State.pageView) (f := fun s d => s.setDie d { s.die d with suspended := false }) (fun _ _ => rfl)
    (s.readDies page) s :)

/-- What is given up with a discarded page is neither a location nor a stored byte. -/
theorem State.pageView_dropPage (s : State) (p : Nat) : (s.dropPage p).pageView = s.pageView := by
  unfold State.dropPage
  dsimp only
  have hread (l : List Nat) : ((l.foldl (fun (s : State) t => s.serveTile p t) s).endNandRead p).pageView = s.pageView :=
    (State.pageView_endNandRead _ p).trans (foldl_unchanged (fun t i => t.pageView_serveTile p i) l s)
  split
  · exact hread _
  · exact hread _

/-- An unmapped page has no location, and no byte of it is stored where it had one (R107, R388). -/
theorem State.unmapPage_spec (s : State) (p : Nat) :
    Maps.find p (s.unmapPage p).win.pages = none ∧ (s.unmapPage p).win.discards = s.win.discards ∧
      (s.unmapPage p).med.store =
        if Maps.has s.win.pages p then Mem.clear s.med.store (p * 16384) 16384 else s.med.store := by
  unfold State.unmapPage Maps.has
  split
  · next h => exact ⟨h, rfl, by simp [h]⟩
  · next loc h =>
    have hview := State.pageView_eq (s.besideMedia_journal [(Tbl.page, p)])
    have hdiscards := congrArg (fun v => v.2.1) hview
    refine ⟨Maps.find_del_same _ _, hdiscards, ?_⟩
    rw [h, Option.isSome_some, if_pos rfl]
    exact congrArg (fun v : Table PageLoc × Table Bool × Mem => Mem.clear v.2.2 (p * 16384) 16384) hview

theorem exec_pageDiscard {s : State} {p : BitVec 34} (hd : Maps.find p.toNat s.win.discards = some false)
    (hpb : ∀ e ∈ s.dur.pb, e.line / 256 ≠ p.toNat) :
    ∃ t, exec (.pageDiscard p) s = .next t ∧ Maps.find p.toNat t.win.pages = none ∧ Maps.find p.toNat t.win.discards = none ∧
      (Maps.has s.win.pages p.toNat = true → ∀ k, k < 16384 → t.med.store.byte (p.toNat * 16384 + k) = 0) ∧
      ∀ a, a / 16384 ≠ p.toNat → t.med.store.byte a = s.med.store.byte a := by
  let u : State := { s with win := { s.win with discards := Maps.del p.toNat s.win.discards } }
  have hexec : exec (.pageDiscard p) s = .next ((u.unmapPage p.toNat).dropPage p.toNat) := by
    have hnone : s.dur.pb.any (fun e => pageOfLine e.line == p.toNat) = false := by
      simpa [List.any_eq_false, pageOfLine] using hpb
    change execPageDiscard p s = _
    rw [execPageDiscard]
    dsimp only
    rw [hd]
    dsimp only
    rw [if_neg (by simp [hnone]), if_neg (by simp)]
  obtain ⟨hpages, hdiscards, hstore⟩ := u.unmapPage_spec p.toNat
  have hview := (u.unmapPage p.toNat).pageView_dropPage p.toNat
  rw [State.pageView, State.pageView, Prod.mk.injEq, Prod.mk.injEq, hdiscards, hstore] at hview
  obtain ⟨hpages', hdiscards', hstore'⟩ := hview
  refine ⟨_, hexec, by rw [hpages', hpages], by rw [hdiscards']; exact Maps.find_del_same _ _, fun hhas k hk => ?_, fun a ha => ?_⟩
  · rw [hstore', if_pos hhas, Mem.byte_clear, if_neg (by omega)]
  · rw [hstore']
    split
    · rw [Mem.byte_clear, if_pos (by omega)]
    · rfl

theorem exec_pageDiscard_written {s : State} {p : BitVec 34} (hd : Maps.find p.toNat s.win.discards = some true) :
    exec (.pageDiscard p) s = .next { s with win := { s.win with discards := Maps.del p.toNat s.win.discards } } := by
  change execPageDiscard p s = _
  rw [execPageDiscard]
  dsimp only
  rw [hd]
  dsimp only
  rw [if_neg (by simp), if_pos rfl]

/-! ## Answers to commands, and notifications (R576–R585) -/

/-- The window tables and the transport's, which no entry of a ring changes. -/
abbrev State.tableView (s : State) : Win × Trn := (s.win, s.trn)

/-- An entry written to a ring changes registers and the control port alone (R576, R587). -/
theorem State.writeEntry_eq (s : State) (r : Nat) (e : RingEntry) : ∃ bar ctl, s.writeEntry r e = { s with bar, ctl } := by
  have hmsix {c : Prop} [Decidable c] {u : State} (hu : ∃ bar ctl, u = { s with bar, ctl }) :
      ∃ bar ctl, (if c then u.sendMsix r else u) = { s with bar, ctl } := by
    obtain ⟨_, _, rfl⟩ := hu
    split
    · exact ⟨_, _, rfl⟩
    · exact ⟨_, _, rfl⟩
  exact hmsix ⟨_, _, rfl⟩

theorem State.tableView_writeEntry (s : State) (r : Nat) (e : RingEntry) : (s.writeEntry r e).tableView = s.tableView := by
  obtain ⟨_, _, h⟩ := s.writeEntry_eq r e
  rw [h]

theorem State.tableView_imageLoaded (s : State) (k : Nat) : (s.imageLoaded k).tableView = s.tableView := by
  unfold State.imageLoaded
  split
  · rfl
  · dsimp only
    split
    · rfl
    · exact foldl_unchanged (view := State.tableView) (f := State.drain) (fun _ _ => rfl) _ _

theorem State.tableView_finish (s : State) (r : Nat) : (s.finish r).tableView = s.tableView := by
  unfold State.finish
  split
  · rfl
  · dsimp only
    split
    · rfl
    · rw [State.tableView_writeEntry]
      split
      · exact State.tableView_imageLoaded _ _
      · rfl

/-- A command that completes leaves the tables alone (R578). -/
theorem State.tableView_eventDone (s : State) (r : Nat) (tag : Word) (f : PendCmd → PendCmd) :
    (s.eventDone r tag f).tableView = s.tableView := by
  unfold State.eventDone
  dsimp only
  split
  · split
    · exact State.tableView_finish _ _
    · rfl
  · rfl

/-- A notification changes registers and the control port alone (R584, R585). -/
theorem State.notify_eq (s : State) (type b2 b3 : Nat) (w0 w1 w2 : DWord) :
    ∃ bar ctl, s.notify type b2 b3 w0 w1 w2 = { s with bar, ctl } := by
  have hlost : ∃ bar ctl, s.writeLost = { s with bar, ctl } := by
    unfold State.writeLost
    split
    · obtain ⟨_, _, h⟩ := s.writeEntry_eq 0 { type := 0x19, phase := false, b2 := 0, b3 := 0, tag := BitVec.ofNat 32 s.ctl.notifySeq,
                                              w0 := BitVec.ofNat 64 s.ctl.lost, w1 := 0, w2 := 0 }
      dsimp only
      rw [h]
      exact ⟨_, _, rfl⟩
    · exact ⟨_, _, rfl⟩
  obtain ⟨bar, ctl, hlost⟩ := hlost
  unfold State.notify
  dsimp only
  rw [hlost]
  split
  · obtain ⟨_, _, h⟩ := State.writeEntry_eq { s with bar, ctl } 0
      { type, phase := false, b2, b3, tag := BitVec.ofNat 32 ctl.notifySeq, w0, w1, w2 }
    rw [h]
    exact ⟨_, _, rfl⟩
  · exact ⟨_, _, rfl⟩

/-! ## Pinned publications (R115, R384) -/

theorem exec_pinnedPublish {s : State} {i : BitVec 24} {x : PinRec} {exts : List Nat}
    (hwait : s.win.pinWait.find? (fun e => e.1 == i.toNat) = some (i.toNat, x))
    (hexts : extentsOf (Maps.getD s.processed.windows i.toNat {}).pnaBase (Maps.getD s.processed.windows i.toNat {}).length = exts)
    (hnand : s.nandPages exts = []) (hfill : s.filling exts = false) :
    ∃ t, exec (.pinnedPublish i) s = .next t ∧ t.win.pinWait = dropPin i.toNat s.win.pinWait ∧
      t.win.changes = unhold (3, i.toNat) s.win.changes ∧ t.tables = s.tables := by
  let u : State := { s with win := { s.win with
    pinWait := dropPin i.toNat s.win.pinWait, reserved := s.win.reserved.filter (fun p => !exts.contains (p / 128))
    changes := unhold (3, i.toNat) s.win.changes } }
  have hexec : exec (.pinnedPublish i) s = .next (u.eventDone x.ring x.tag fun p => { p with tick := true }) := by
    subst hexts
    change execPinnedPublish i s = _
    rw [execPinnedPublish]
    dsimp only
    rw [hwait]
    dsimp only
    rw [hnand, hfill, if_neg (by simp)]
  have hview := u.tableView_eventDone x.ring x.tag fun p => { p with tick := true }
  rw [State.tableView, State.tableView, Prod.mk.injEq] at hview
  obtain ⟨hwin, htrn⟩ := hview
  exact ⟨_, hexec, by rw [hwin], by rw [hwin], by rw [State.tables, hwin, htrn]; rfl⟩

/-! ## Revocations (R113, R124) -/

/-- Windows, changes to be published and extents. -/
abbrev State.windowView (s : State) : Table Window × List PendChange × Table Extent :=
  (s.win.windows, s.win.changes, s.win.extents)

theorem State.win_dropTiles (s : State) (id : Nat) : (s.dropTiles id).win = s.win :=
  (foldl_unchanged (view := State.win) (f := fun s e => s.cancelFill e.1) (fun _ _ => rfl)
    (s.stg.tiles.filter fun e => e.2.req == id && e.2.state == .filling && !s.fillBegun e.1 e.2) s :)

theorem State.win_expel (s : State) (id : Nat) : (s.expel id).win = s.win := s.win_dropTiles id

theorem State.windowView_eventDone (s : State) (r : Nat) (tag : Word) (f : PendCmd → PendCmd) :
    (s.eventDone r tag f).windowView = s.windowView :=
  congrArg (fun v : Win × Trn => (v.1.windows, v.1.changes, v.1.extents)) (s.tableView_eventDone r tag f)

/-- The requests on a window that are expelled, and the journal's record of it, change no window. -/
theorem State.windowView_expelled (s : State) (l : List Nat) (recs : List (Nat × Nat)) :
    ((l.foldl State.expel s).journal recs).2.windowView = s.windowView := by
  have hjournal := congrArg State.windowView ((l.foldl State.expel s).besideMedia_journal recs)
  have hexpel : (l.foldl State.expel s).win = s.win := foldl_unchanged (view := State.win) State.win_expel l s
  have hwindows := congrArg (fun v : Win => (v.windows, v.changes, v.extents)) hexpel
  exact hjournal.trans hwindows

/-- A drained revocation: the window is Free, or Retired at its last generation, no revocation of it is left to be published, and the
extents change where the window is pinned. -/
theorem exec_windowRevokeDone {s : State} {i : BitVec 24} {w : Window} (hw : Maps.find i.toNat s.win.windows = some w)
    (hclosing : w.state = .closing) (hopt : ∀ e ∈ s.trn.opt, e.2.win = i.toNat → e.2.gen ≠ w.gen) :
    ∃ t, exec (.windowRevokeDone i) s = .next t ∧ t.windowView =
      (Maps.put i.toNat { w with state := if w.gen = 255 then .retired else .free, revokers := [], held := 0, cut := 0 } s.win.windows,
        s.win.changes.filter (fun c => (c.revokes i.toNat).isNone),
        if w.pinned then (extentsOf w.pnaBase w.length).foldl (fun t e => Maps.upd e (fun (x : Extent) => x.pinned false) t) s.win.extents
        else s.win.extents) := by
  have hwin : s.window i.toNat = w := by rw [State.window, Maps.getD, hw, Option.getD_some]
  have hdrained : s.trn.opt.any (fun e => e.2.win == i.toNat && e.2.gen == w.gen) = false := by
    simpa [List.any_eq_false] using hopt
  obtain ⟨t, ht⟩ := exec_next (.windowRevokeDone i) s
  refine ⟨t, ht, ?_⟩
  change execWindowRevokeDone i s = _ at ht
  rw [execWindowRevokeDone, Host.Outcome.next.injEq] at ht
  dsimp only at ht
  rw [hwin, if_neg (by simp [hclosing, hdrained])] at ht
  subst ht
  split
  · rw [State.windowView_expelled]
    split
    · rfl
    · rfl
  · rw [foldl_unchanged fun t x => t.windowView_eventDone _ _ _, State.windowView_eventDone, State.windowView_expelled]
    split
    · rfl
    · rfl

theorem exec_windowRevokeDone_unpinned {s : State} {i : BitVec 24} {w : Window} (hw : Maps.find i.toNat s.win.windows = some w)
    (hclosing : w.state = .closing) (hopt : ∀ e ∈ s.trn.opt, e.2.win = i.toNat → e.2.gen ≠ w.gen) (hpin : w.pinned = false) :
    ∃ t, exec (.windowRevokeDone i) s = .next t ∧
      Maps.find i.toNat t.win.windows =
        some { w with state := if w.gen = 255 then .retired else .free, revokers := [], held := 0, cut := 0 } ∧
      (∀ c ∈ t.win.changes, c.revokes i.toNat = none) ∧
      (∀ k, k ≠ i.toNat → Maps.find k t.win.windows = Maps.find k s.win.windows) ∧ t.win.extents = s.win.extents := by
  obtain ⟨t, ht, hview⟩ := exec_windowRevokeDone hw hclosing hopt
  rw [State.windowView, Prod.mk.injEq, Prod.mk.injEq] at hview
  obtain ⟨hwindows, hchanges, hextents⟩ := hview
  refine ⟨t, ht, by rw [hwindows, Maps.find_put_same], fun c hc => ?_, fun k hk => by rw [hwindows, Maps.find_put_other _ hk],
    hextents.trans (if_neg (by simp [hpin]))⟩
  rw [hchanges] at hc
  simpa using (List.mem_filter.1 hc).2

/-- Settles O58: the state that a drained revocation gives a window is Retired at GEN 0xFF. -/
theorem retiredAtLastGeneration : Obligations.RetiredAtLastGeneration := by
  intro s i w hw hclosing hgen hopt
  obtain ⟨t, ht, hview⟩ := exec_windowRevokeDone hw hclosing hopt
  have hwindows := congrArg Prod.fst hview
  exact ⟨t, _, ht, (congrArg (Maps.find i.toNat) hwindows).trans (Maps.find_put_same _ _ _), if_pos hgen⟩

/-! ## Program releases (R174) -/

theorem exec_programRelease {s : State} {k : Fin 64} {x : Image} (hx : Maps.find k.val s.cle.images = some x) (hdrain : x.state = 2)
    (hreqs : ∀ r ∈ s.cle.reqs, r.2.slot ≠ some k.val) (hconj : ∀ e ∈ s.cle.conj, names e.2 k.val = false)
    (hopt : ∀ e ∈ s.trn.opt, ∀ v, e.2.firstEntry = some v ∨ e.2.nextEntry = some v → names v k.val = false) :
    ∃ t, exec (.programRelease k) s = .next t ∧ Maps.find k.val t.cle.images = none ∧
      ∀ j, j ≠ k.val → Maps.find j t.cle.images = Maps.find j s.cle.images := by
  let u : State := { s with cle := { s.cle with images := Maps.del k.val s.cle.images } }
  have hnoReq : s.cle.reqs.any (fun r => r.2.slot == some k.val) = false := by simpa [List.any_eq_false] using hreqs
  have hnoConj : s.cle.conj.any (fun e => names e.2 k) = false := by simpa [List.any_eq_false] using hconj
  have hnoOpt : s.trn.opt.any (fun e => (e.2.firstEntry.toList ++ e.2.nextEntry.toList).any (fun v => names v k)) = false := by
    simpa [List.any_eq_false, or_imp, forall_and] using hopt
  obtain ⟨_, _, hnotify⟩ := u.notify_eq 0x15 0 0 (BitVec.ofNat 64 k.val) (BitVec.ofNat 64 x.id.toNat) 0
  have hexec : exec (.programRelease k) s = .next (u.notify 0x15 0 0 (BitVec.ofNat 64 k.val) (BitVec.ofNat 64 x.id.toNat) 0) := by
    change execProgramRelease k s = _
    rw [execProgramRelease, hx]
    dsimp only
    rw [hnoReq, hnoConj, hnoOpt, if_neg (by simp [hdrain])]
  rw [hnotify] at hexec
  exact ⟨_, hexec, Maps.find_del_same _ _, fun j hj => Maps.find_del_other hj _⟩

/-- Settles O26, clause by clause. -/
theorem tableEvents : Obligations.TableEvents :=
  ⟨fun _ _ hd hpb => exec_pageDiscard hd hpb,
    fun _ _ hd => ⟨_, exec_pageDiscard_written hd, rfl⟩,
    fun _ _ _ _ hwait hexts hnand hfill => exec_pinnedPublish hwait hexts hnand hfill,
    fun _ _ _ hw hclosing hopt hpin => exec_windowRevokeDone_unpinned hw hclosing hopt hpin,
    fun _ _ _ hx hdrain hreqs hconj hopt => exec_programRelease hx hdrain hreqs hconj hopt⟩

end Sys2Proof.Machine
end

section
/-! Proofs of the family 04_windows_and_tenants, the twin link: frames taken in their order, the twin's lines admitted, its confirmations
and outcome entries, and the loss of the twin (O45). -/

namespace Sys2Proof.Machine

open Sys2Proof

/-! ## Frames in order (R393, R404) -/

@[simp] theorem State.bundle_setBundle (s : State) (one : Bool) (b : BundleRec) : (s.setBundle one b).bundle one = b := by
  cases one
  · rfl
  · rfl

theorem State.setBundle_setBundle (s : State) (one : Bool) (b c : BundleRec) :
    (s.setBundle one b).setBundle one c = s.setBundle one c := by
  cases one
  · rfl
  · rfl

/-- Of the pair's state a replaced bundle changes the bundles alone. -/
theorem State.twn_setBundle (s : State) (one : Bool) (b : BundleRec) :
    ∃ bundle0 bundle1, (s.setBundle one b).twn = { s.twn with bundle0, bundle1 } := by
  cases one
  · exact ⟨_, _, rfl⟩
  · exact ⟨_, _, rfl⟩

/-- The state after the next frame has been taken from its bundle. -/
abbrev State.frameTaken (s : State) (h : TwinHead) : State := s.setBundle h.one (Claims.taken s h)

section Frames

variable {s : State} {h : TwinHead}

theorem State.gotFrame_damaged (hcrc : h.crcOk = false) (act : State → State) :
    s.gotFrame h act = s.setBundle h.one { s.bundle h.one with naks := (s.bundle h.one).naks + 1 } :=
  if_pos (by simp [hcrc])

theorem State.gotFrame_outOfOrder (hcrc : h.crcOk = true) (hseq : h.seq ≠ (s.bundle h.one).rxSeq) (act : State → State) :
    s.gotFrame h act = s.setBundle h.one { s.bundle h.one with heard := s.now } := by
  unfold State.gotFrame
  dsimp only
  rw [if_neg (by simp [hcrc]), if_pos hseq]

/-- The next frame is taken from its bundle; a unit that has yielded does not act on it. -/
theorem State.gotFrame_next (hcrc : h.crcOk = true) (hseq : h.seq = (s.bundle h.one).rxSeq) (act : State → State) :
    s.gotFrame h act = if s.twn.yieldedAt.isSome then s.frameTaken h else act (s.frameTaken h) := by
  have htaken : (s.setBundle h.one { s.bundle h.one with heard := s.now }).setBundle h.one
      { (s.setBundle h.one { s.bundle h.one with heard := s.now }).bundle h.one with rxSeq := (s.bundle h.one).rxSeq + 1 } =
      s.frameTaken h := by
    rw [State.bundle_setBundle, State.setBundle_setBundle]
    rfl
  have hyield : (s.frameTaken h).twn.yieldedAt = s.twn.yieldedAt := by
    obtain ⟨_, _, htwn⟩ := s.twn_setBundle h.one (Claims.taken s h)
    rw [htwn]
  unfold State.gotFrame
  dsimp only
  rw [if_neg (by simp [hcrc]), if_neg (by simp [hseq]), htaken, hyield]

theorem State.gotFrame_inOrder (hin : Claims.InOrder s h) (act : State → State) : s.gotFrame h act = act (s.frameTaken h) := by
  obtain ⟨hcrc, hseq, hyield⟩ := hin
  rw [State.gotFrame_next hcrc hseq, if_neg (by simp [hyield])]

theorem exec_giveup_alone (sb : Bool) (ep : Word) (dr hd : Bool) :
    exec (.giveup h sb ep dr hd false) s = .next (s.gotFrame h fun s => s.twinGone 2) :=
  congrArg Host.Outcome.next (if_neg (by simp))

/-- Every frame with an effect of its own is acted on only where its bundle's order calls for it. -/
theorem frames_of_gotFrame {t : State} (hgot : ∀ act, s.gotFrame h act = t) :
    Claims.Frames (fun c => exec c s = .next t) h :=
  ⟨fun _ _ _ => congrArg Host.Outcome.next (hgot _), fun _ _ _ _ => congrArg Host.Outcome.next (hgot _),
    fun _ => congrArg Host.Outcome.next (hgot _), fun _ _ _ => congrArg Host.Outcome.next (hgot _),
    fun _ _ _ _ => (exec_giveup_alone _ _ _ _).trans (congrArg Host.Outcome.next (hgot _)), fun _ _ => congrArg Host.Outcome.next (hgot _),
    fun _ => congrArg Host.Outcome.next (hgot _), fun _ => congrArg Host.Outcome.next (hgot _)⟩

/-! ## Frames that leave a note in the pair's state (R359, R375, R415, R416, R418) -/

theorem exec_mirror (runs : List MirrorRun) (ep : Word) (cls : Fin 4) (hin : Claims.InOrder s h) :
    ∃ t, exec (.mirror h runs ep cls) s = .next t ∧ Claims.Took s t h fun w => { w with arrived := w.arrived ++
      [{ frame := frameName h.one h.seq, epoch := ep.toNat, cls := Cls.ofNum cls, lines := runs.flatMap runLines }] } :=
  ⟨_, congrArg Host.Outcome.next (State.gotFrame_inOrder hin _), rfl⟩

theorem exec_intent (slot : BitVec 14) (ls : List TwinLine) (ep : Word) (hin : Claims.InOrder s h) :
    ∃ t, exec (.intent h slot ls ep) s = .next t ∧
      Claims.Took s t h fun w => { w with arrived := w.arrived ++ [Claims.slotArrived slot ls ep] } :=
  ⟨_, congrArg Host.Outcome.next (State.gotFrame_inOrder hin _), rfl⟩

theorem exec_switch {sb : Bool} (hin : Claims.InOrder s h) (hgap : s.twn.gap = true) (hside : sb = s.sideB) :
    ∃ t, exec (.switch h sb) s = .next t ∧ Claims.Took s t h fun w => { w with switchLeft := s.twn.switchLeft - 1 } := by
  obtain ⟨_, _, htwn⟩ := s.twn_setBundle h.one (Claims.taken s h)
  have hgap' : (s.frameTaken h).twn.gap = true := by rw [htwn]; exact hgap
  have hleft : (s.frameTaken h).twn.switchLeft = s.twn.switchLeft := by rw [htwn]
  have hside' : (sb == (s.frameTaken h).sideB) = true := by rw [hside]; exact beq_self_eq_true _
  refine ⟨_, congrArg Host.Outcome.next (State.gotFrame_inOrder hin _), ?_⟩
  dsimp only
  rw [if_pos (by rw [hgap', hside', Bool.and_self]), hleft]
  exact rfl

theorem exec_resync (body : ResyncBody) (hin : Claims.InOrder s h) : exec (.resync h body) s = .next ((s.frameTaken h).gotResync body) :=
  congrArg Host.Outcome.next (State.gotFrame_inOrder hin _)

theorem exec_resync_extent (e : BitVec 27) (tn : BitVec 12) (sb : Bool) (pc : Nat) (hin : Claims.InOrder s h) :
    ∃ t, exec (.resync h (.extent e tn sb pc)) s = .next t ∧
      Maps.find e.toNat t.twn.metaExtents = some { tenant := tn.toNat, sideB := sb, pinCount := pc } :=
  ⟨_, exec_resync _ hin, Maps.find_put_same _ _ _⟩

theorem exec_resync_ends (hin : Claims.InOrder s h) :
    (∃ t, exec (.resync h .metaEnd) s = .next t ∧ Claims.Took s t h fun w => { w with metaIn := true }) ∧
    (∃ t, exec (.resync h .copyEnd) s = .next t ∧ Claims.Took s t h fun w => { w with copyIn := true }) ∧
    ∃ t, exec (.resync h .copyDone) s = .next t ∧ Claims.Took s t h fun w => { w with copyDone := true } :=
  ⟨⟨_, exec_resync _ hin, rfl⟩, ⟨_, exec_resync _ hin, rfl⟩, ⟨_, exec_resync _ hin, rfl⟩⟩

end Frames

/-! ## Lines of the twin's admitted (R102, R359, R375) -/

/-- Slots taken change the tick's count of them and the tenants' meters. -/
theorem State.takeSlots_eq (s : State) (n e k : Nat) (cls : Cls) (tenant : Nat) : ∃ tck tenants,
    s.takeSlots n e k cls tenant = { s with tck, win := { s.win with tenants } } ∧
      ∀ i, (Maps.find i tenants).map Tenant.encrypt = (Maps.find i s.win.tenants).map Tenant.encrypt := by
  unfold State.takeSlots
  dsimp only
  split
  · refine ⟨_, _, rfl, fun i => ?_⟩
    rw [Maps.find_upd]
    split
    · rw [Option.map_map]
      rfl
    · rfl
  · exact ⟨_, s.win.tenants, rfl, fun _ => rfl⟩

/-- The key of a line is the same where extents, keys and the tenants' ENCRYPT are (R128, R130). -/
theorem State.lineKey_congr {s t : State} (hextents : t.win.extents = s.win.extents) (hkeys : t.win.keySlots = s.win.keySlots)
    (hencrypt : ∀ i, (Maps.find i t.win.tenants).map Tenant.encrypt = (Maps.find i s.win.tenants).map Tenant.encrypt) (line : Nat) :
    t.lineKey line = s.lineKey line := by
  have hkey (u : State) : u.lineKey line = (Maps.find (line / 32768) u.win.extents).bind fun x =>
      ((Maps.find x.tenant u.win.tenants).map Tenant.encrypt).bind fun on =>
        if on then some (Maps.getD u.win.keySlots x.tenant []) else none := by
    unfold State.lineKey State.extent
    cases Maps.find (line / 32768) u.win.extents with
    | none => rfl
    | some x =>
      dsimp only
      rw [Option.bind_some]
      cases Maps.find x.tenant u.win.tenants with
      | none => rfl
      | some _ => rfl
  simp only [hkey, hextents, hkeys, hencrypt]

theorem State.stampPage_eq (s : State) (page : Nat) : ∃ med, s.stampPage page = { s with med } := by
  unfold State.stampPage
  split
  · exact ⟨_, rfl⟩
  · exact ⟨_, rfl⟩

/-- What an Accepted write brings about for its lines and pages (R266–R269, R276, R278, R342, R360). -/
theorem State.noteWrites_eq (s : State) (lines : List Nat) : ∃ med inflight reqs discards, s.noteWrites lines =
    { s with med, dur := { s.dur with inflight }, cle := { s.cle with reqs }, win := { s.win with discards } } := by
  have hstamp : ∃ med, (dedup (lines.map pageOfLine)).foldl State.stampPage s = { s with med } :=
    List.foldlRecOn (motive := fun t => ∃ med, t = { s with med }) _ _ ⟨s.med, rfl⟩ fun t ⟨_, ht⟩ page _ => by
      obtain ⟨_, hpage⟩ := t.stampPage_eq page
      rw [hpage, ht]
      exact ⟨_, rfl⟩
  obtain ⟨_, hstamp⟩ := hstamp
  unfold State.noteWrites
  dsimp only
  rw [hstamp]
  exact ⟨_, _, _, _, rfl⟩

theorem mem_of_mem_dedup {x : Nat} : ∀ {l : List Nat}, x ∈ dedup l → x ∈ l
  | [], h => h
  | y :: l, h => by
    rw [dedup, List.mem_cons] at h
    rcases h with rfl | h
    · exact List.mem_cons_self
    · exact List.mem_cons_of_mem _ (mem_of_mem_dedup (List.mem_filter.1 h).1)

/-- Lines of written pages enter the mirror partition, each counted. -/
theorem State.admitLines_written {s : State} {a : ArrivedRec} (intent : Option Nat)
    (hmap : ∀ l ∈ a.lines, s.unwritten (pageOfLine l.1) = false) :
    (s.admitLines a intent).twn = s.twn ∧ (s.admitLines a intent).dur.intents = s.dur.intents ∧
      (s.admitLines a intent).dur.pb = s.dur.pb ++ a.lines.map (fun l => { Claims.mirrorEntry s a l with intent }) ∧
      (s.admitLines a intent).reg Reg.DUR_CNT_MIRROR_RX = s.reg Reg.DUR_CNT_MIRROR_RX + BitVec.ofNat 32 a.lines.length := by
  obtain ⟨tck, tenants, hslots, hencrypt⟩ :=
    s.takeSlots_eq 80 (s.slotsTaken 80) 1 a.cls ((a.lines.head?.map (fun l => l.2.1)).getD 0)
  obtain ⟨u, hu⟩ : ∃ u : State, u = { s with tck, win := { s.win with tenants } } := ⟨_, rfl⟩
  have hpages : (dedup (a.lines.map fun l => pageOfLine l.1)).filter u.unwritten = [] := by
    rw [List.filter_eq_nil_iff, hu]
    intro page hpage
    obtain ⟨l, hl, rfl⟩ := List.mem_map.1 (mem_of_mem_dedup hpage)
    exact Bool.eq_false_iff.1 (hmap l hl)
  obtain ⟨_, _, _, _, hnote⟩ := u.noteWrites_eq (a.lines.map Prod.fst)
  have hkey (line : Nat) : (u.noteWrites (a.lines.map Prod.fst)).lineKey line = s.lineKey line := by
    rw [hnote, hu]
    exact State.lineKey_congr (s := s) (by rfl) (by rfl) hencrypt line
  unfold State.admitLines
  dsimp only
  rw [hslots, ← hu, hpages, List.foldl_nil]
  simp only [hkey]
  rw [hnote, State.bumpBy_twn, State.bumpBy_dur, State.reg_bumpBy, List.length_map, hu]
  exact ⟨rfl, rfl, rfl, rfl⟩

theorem State.holdsAll_singleton {s : State} {a : ArrivedRec} {l : Nat × Nat × List Byte} (hl : a.lines = [l]) :
    s.holdsAll a = s.holdsFor (l.1 / 32768) l.2.1 := by
  simp [State.holdsAll, hl]

/-- A frame whose lines are all of extents held for their tenants is admitted whole (R102). -/
theorem State.admitArrived_held {s : State} {a : ArrivedRec} (hintent : a.intent = none) (hheld : s.holdsAll a = true) :
    s.admitArrived a = s.admitLines a none := by
  have hall : ∀ l ∈ a.lines, s.holdsFor (l.1 / 32768) l.2.1 = true := by simpa [State.holdsAll] using hheld
  have hok : a.lines.filter (fun l => s.holdsFor (l.1 / 32768) l.2.1) = a.lines := List.filter_eq_self.2 hall
  have hstray : a.lines.filter (fun l => !s.holdsFor (l.1 / 32768) l.2.1) = [] :=
    List.filter_eq_nil_iff.2 fun l hl => by simp [hall l hl]
  unfold State.admitArrived
  rw [hintent]
  dsimp only
  rw [hok, hstray]
  rfl

/-- The slot of this unit's that takes the images of the twin's slot `p` (R375). -/
abbrev ArrivedRec.slot (a : ArrivedRec) (p : Nat) : Intent :=
  { lines := a.lines.map (fun l => (l.1, l.2.2)), tenant := (a.lines.head?.map (fun l => l.2.1)).getD 0, epoch := a.epoch,
    fromTwin := true, peer := p, cls := a.cls }

/-- An intent slot filled. -/
abbrev State.putIntent (s : State) (k : Nat) (x : Intent) : State :=
  { s with dur := { s.dur with intents := Maps.put k x s.dur.intents } }

/-- A slot of the twin's whose lines are all of extents held for their tenants goes into a slot of this unit's (R102, R375). -/
theorem State.admitArrived_slot {s : State} {a : ArrivedRec} {p k : Nat} (hintent : a.intent = some p) (hheld : s.holdsAll a = true)
    (hfree : Maps.lowestFree s.dur.intents 16384 = some k) :
    s.admitArrived a = (s.putIntent k (a.slot p)).admitLines a (some k) := by
  unfold State.admitArrived
  rw [hintent]
  dsimp only
  unfold State.admitIntent
  rw [hheld, hfree]
  rfl

/-- A line of an extent that is not held for its tenant is kept apart (R102). -/
theorem State.admitArrived_stray {s : State} {a : ArrivedRec} {l : Nat × Nat × List Byte} (hl : a.lines = [l])
    (hstray : s.holdsFor (l.1 / 32768) l.2.1 = false) :
    (s.admitArrived a).twn = { s.twn with heldLines := s.twn.heldLines ++ [a] } ∧ (s.admitArrived a).dur.pb = s.dur.pb := by
  cases hintent : a.intent with
  | some p =>
    have hheld : s.holdsAll a = false := (State.holdsAll_singleton hl).trans hstray
    have hkept : s.admitArrived a = { s with twn := { s.twn with heldLines := s.twn.heldLines ++ [a] } } := by
      unfold State.admitArrived
      rw [hintent]
      dsimp only
      unfold State.admitIntent
      rw [hheld]
      rfl
    rw [hkept]
    exact ⟨rfl, rfl⟩
  | none =>
    obtain ⟨htwn, -, hpb, -⟩ := State.admitLines_written (s := s) (a := { a with lines := [] }) none (by simp)
    have hkept : s.admitArrived a = { s.admitLines { a with lines := [] } none with
        twn := { (s.admitLines { a with lines := [] } none).twn with
          heldLines := (s.admitLines { a with lines := [] } none).twn.heldLines ++ [{ a with lines := [l] }] } } := by
      unfold State.admitArrived
      rw [hintent]
      dsimp only
      rw [hl]
      simp only [List.filter_cons, hstray]
      rfl
    rw [hkept, htwn, ← hl]
    exact ⟨rfl, hpb.trans (List.append_nil _)⟩

/-- A line whose page lies in SCM has a written page. -/
theorem State.unwritten_homed {s : State} {l : Nat × Nat × List Byte} (h : Claims.Homed s l) : s.unwritten (pageOfLine l.1) = false := by
  obtain ⟨-, _, _, hpage⟩ := h
  simp [State.unwritten, Maps.has, hpage]

section Admitted

variable {s : State} {a : ArrivedRec} {l : Nat × Nat × List Byte}

theorem exec_mirrorAdmit (ha : s.twn.arrived = [a]) :
    exec .mirrorAdmit s = .next (State.admitArrived { s with twn := { s.twn with arrived := [] } } a) := by
  change execMirrorAdmit s = _
  rw [execMirrorAdmit, ha]
  rfl

theorem exec_mirrorAdmit_homed (ha : s.twn.arrived = [a]) (hl : a.lines = [l]) (hintent : a.intent = none) (hhome : Claims.Homed s l) :
    ∃ t, exec .mirrorAdmit s = .next t ∧ t.twn.arrived = [] ∧ t.dur.pb = s.dur.pb ++ [Claims.mirrorEntry s a l] ∧
      t.reg Reg.DUR_CNT_MIRROR_RX = s.reg Reg.DUR_CNT_MIRROR_RX + 1 := by
  let u : State := { s with twn := { s.twn with arrived := [] } }
  have hheld : u.holdsAll a = true := (State.holdsAll_singleton hl).trans hhome.1
  obtain ⟨htwn, -, hpb, hreg⟩ := State.admitLines_written (s := u) (a := a) none
    (by rw [hl]; exact List.forall_mem_singleton.2 (State.unwritten_homed hhome))
  refine ⟨_, exec_mirrorAdmit ha, ?_⟩
  rw [State.admitArrived_held hintent hheld, htwn, hpb, hreg, hl]
  exact ⟨rfl, rfl, rfl⟩

theorem exec_mirrorAdmit_slot {p k : Nat} (ha : s.twn.arrived = [a]) (hl : a.lines = [l]) (hintent : a.intent = some p)
    (hhome : Claims.Homed s l) (hfree : Maps.lowestFree s.dur.intents 16384 = some k) :
    ∃ t, exec .mirrorAdmit s = .next t ∧ t.twn.arrived = [] ∧
      Maps.find k t.dur.intents =
        some { lines := [(l.1, l.2.2)], tenant := l.2.1, epoch := a.epoch, fromTwin := true, peer := p, cls := a.cls } ∧
      t.dur.pb = s.dur.pb ++ [{ Claims.mirrorEntry s a l with intent := some k }] := by
  let u : State := { s with twn := { s.twn with arrived := [] } }
  have hheld : u.holdsAll a = true := (State.holdsAll_singleton hl).trans hhome.1
  refine ⟨_, exec_mirrorAdmit ha, ?_⟩
  rw [State.admitArrived_slot (s := u) hintent hheld hfree]
  obtain ⟨htwn, hintents, hpb, -⟩ := State.admitLines_written (s := u.putIntent k (a.slot p)) (a := a) (some k)
    (by rw [hl]; exact List.forall_mem_singleton.2 (State.unwritten_homed hhome))
  rw [htwn, hintents, hpb, Maps.find_put_same, ArrivedRec.slot, hl]
  exact ⟨rfl, rfl, rfl⟩

theorem exec_mirrorAdmit_stray (ha : s.twn.arrived = [a]) (hl : a.lines = [l]) (hstray : s.holdsFor (l.1 / 32768) l.2.1 = false) :
    ∃ t, exec .mirrorAdmit s = .next t ∧ t.twn.arrived = [] ∧ t.dur.pb = s.dur.pb ∧ t.twn.heldLines = s.twn.heldLines ++ [a] := by
  obtain ⟨htwn, hpb⟩ := State.admitArrived_stray (s := { s with twn := { s.twn with arrived := [] } }) hl hstray
  exact ⟨_, exec_mirrorAdmit ha, by rw [htwn], hpb, by rw [htwn]⟩

theorem exec_heldMirrorPlace {e : BitVec 27} (ha : s.twn.heldLines = [a]) (hl : a.lines = [l]) (hintent : a.intent = none)
    (hextent : l.1 / 32768 = e.toNat) (hhome : Claims.Homed s l) :
    ∃ t, exec (.heldMirrorPlace e) s = .next t ∧ t.twn.heldLines = [] ∧ t.dur.pb = s.dur.pb ++ [Claims.mirrorEntry s a l] := by
  obtain ⟨frame, lines, epoch, cls, intent⟩ := a
  subst hl hintent
  have hok : (l.1 / 32768 == e.toNat && s.holdsFor e.toNat l.2.1) = true := by
    rw [← hextent, hhome.1, beq_self_eq_true, Bool.and_self]
  have hexec : exec (.heldMirrorPlace e) s = .next (State.admitLines { s with twn := { s.twn with heldLines := [] } }
      { frame, lines := [l], epoch, cls } none) := by
    change execHeldMirrorPlace e s = _
    simp only [execHeldMirrorPlace, ha, List.filter_cons, List.filter_nil, List.map_cons, List.map_nil, Option.isSome_none,
      Option.isNone_none, Bool.false_and, Bool.false_eq_true, reduceIte, hok]
    rfl
  obtain ⟨htwn, -, hpb, -⟩ := State.admitLines_written (s := { s with twn := { s.twn with heldLines := [] } })
    (a := { frame, lines := [l], epoch, cls }) none (List.forall_mem_singleton.2 (State.unwritten_homed hhome))
  exact ⟨_, hexec, by rw [htwn], hpb⟩

end Admitted

end Sys2Proof.Machine
end

section
/-! Proofs of the family 04_windows_and_tenants, the twin's answers: what a CONFIRM releases, an outcome entry of the twin's written, the
loss of the twin, and the return of a side (O45). -/

namespace Sys2Proof.Machine

open Sys2Proof

/-! ## Answers released (R90, R96, R369) -/

/-- `t` comes from `s` by frames released for QPs: the transport and the queues of the ports alone have changed. -/
def Answered (s t : State) : Prop := ∃ trn prt, t = { s with trn, prt }

namespace Answered

variable {s t u : State}

theorem refl (s : State) : Answered s s := ⟨_, _, rfl⟩

theorem trans (h : Answered s t) (h' : Answered t u) : Answered s u := by
  obtain ⟨_, _, rfl⟩ := h
  obtain ⟨_, _, rfl⟩ := h'
  exact ⟨_, _, rfl⟩

theorem foldl {β : Type} {f : State → β → State} (hf : ∀ t b, Answered t (f t b)) (l : List β) (s : State) :
    Answered s (l.foldl f s) :=
  List.foldlRecOn l f (refl s) fun t ht b _ => ht.trans (hf t b)

theorem setQp (s : State) (q : BitVec 24) (c : Qp) : Answered s (s.setQp q c) := ⟨_, _, rfl⟩

theorem freeOpt (s : State) (o : Nat) : Answered s (s.freeOpt o) := ⟨_, _, rfl⟩

theorem release (s : State) (q : BitVec 24) (f : Frame) : Answered s (s.release q f) := by
  obtain ⟨_, _, _, _, _, h, -⟩ := Released.release q s f
  exact ⟨_, _, h⟩

theorem sendMsg (s : State) (q : BitVec 24) (kind : FrameKind) (bytes : List Byte) (opt : Option Nat) :
    Answered s (s.sendMsg q kind bytes opt) := by
  unfold State.sendMsg
  split
  · split
    · exact freeOpt s _
    · exact refl s
  · exact (setQp s q _).trans (foldl (fun t f => release t q f) _ _)

theorem messageDone (s : State) (q : BitVec 24) : Answered s (s.messageDone q) := by
  unfold State.messageDone
  split
  · exact setQp s q _
  · exact refl s

theorem give (s : State) (q : BitVec 24) (a : Answer) : Answered s (s.give q a) := by
  unfold State.give
  split
  · exact sendMsg s q _ _ _
  · refine (messageDone s q).trans ?_
    dsimp only
    split
    · split
      · exact freeOpt _ _
      · exact refl _
    · exact (setQp _ q _).trans (release _ q _)

end Answered

/-- Held answers that go out leave the transport, the ports and the list of those held changed (R369). -/
theorem State.releaseAnswers_eq (s : State) :
    ∃ trn prt heldAnswers, s.releaseAnswers = { s with trn, prt, dur := { s.dur with heldAnswers } } := by
  unfold State.releaseAnswers
  dsimp only
  obtain ⟨_, _, h⟩ := Answered.foldl (fun t (h : HeldAnswer) => Answered.give t h.qpn h.answer)
    (s.dur.heldAnswers.partition fun h => (s.unconfirmed h.waits).isEmpty).1
    { s with dur := { s.dur with heldAnswers := (s.dur.heldAnswers.partition fun h => (s.unconfirmed h.waits).isEmpty).2 } }
  rw [h]
  exact ⟨_, _, _, rfl⟩

/-! ## Confirmations (R350, R375, R400, R401) -/

/-- Nothing is shipped where no slot waits for room (R400). -/
theorem State.shipSlots_idle {s : State} (h : Claims.NoSlotWaits s) : s.shipSlots = s :=
  List.foldlRecOn (motive := fun t => t = s) _ _ rfl fun t ht e he => by
    rw [ht, State.shipSlot]
    refine if_pos ?_
    rcases h e he with h | h | h
    · simp [h]
    · simp [h]
    · simp [h]

theorem State.frontMirrored_eq (s : State) (q : BitVec 24) (w : Nat) : ∃ trn, s.frontMirrored q w = { s with trn } := by
  unfold State.frontMirrored
  split
  · exact ⟨_, rfl⟩
  · exact ⟨_, rfl⟩

/-- Of a confirmed frame's one line every entry is Mirrored, and it counts once where an entry was not. -/
theorem State.frameConfirmed_singleton {s : State} {n : Nat} {l : Nat × BitVec 24 × Nat}
    (hsent : Maps.find n s.twn.sentFrames = some [l]) : ∃ bar trn pb,
      s.frameConfirmed n =
        { s with bar, trn, dur := { s.dur with pb }, twn := { s.twn with sentFrames := Maps.del n s.twn.sentFrames } } ∧
      (s.frameConfirmed n).reg Reg.DUR_CNT_MIRRORED = s.reg Reg.DUR_CNT_MIRRORED +
        (if s.dur.pb.any (fun e => e.isFor l.1 l.2.1 l.2.2 false && !e.mirrored) then 1 else 0) ∧
      ∀ e ∈ pb, e.isFor l.1 l.2.1 l.2.2 false = true → e.mirrored = true := by
  let u : State := { s with twn := { s.twn with sentFrames := Maps.del n s.twn.sentFrames } }
  by_cases hdue : s.dur.pb.any (fun e => e.isFor l.1 l.2.1 l.2.2 false && !e.mirrored) = true
  · have hone : s.frameConfirmed n = ((u.bumpBy Reg.DUR_CNT_MIRRORED 1).frontMirrored l.2.1 l.2.2).mapPb
        (fun e => e.isFor l.1 l.2.1 l.2.2 false) (fun e => { e with mirrored := true }) := by
      unfold State.frameConfirmed
      rw [hsent]
      simp only [List.filter_cons, hdue]
      rfl
    obtain ⟨_, hfront⟩ := (u.bumpBy Reg.DUR_CNT_MIRRORED 1).frontMirrored_eq l.2.1 l.2.2
    rw [hone, hfront, if_pos hdue]
    refine ⟨_, _, _, rfl, u.reg_bumpBy _ 1, fun e he hfor => ?_⟩
    obtain ⟨x, -, rfl⟩ := List.mem_map.1 he
    by_cases hx : x.isFor l.1 l.2.1 l.2.2 false = true
    · rw [if_pos hx]
    · rw [if_neg hx] at hfor
      exact absurd hfor hx
  · have hnone : s.frameConfirmed n = u := by
      unfold State.frameConfirmed
      rw [hsent]
      simp only [List.filter_cons, hdue]
      rfl
    rw [hnone, if_neg hdue]
    refine ⟨_, _, _, rfl, (BitVec.add_zero _).symm, fun e he hfor => ?_⟩
    by_contra hmirrored
    exact hdue (List.any_eq_true.2 ⟨e, he, by simp [hfor, hmirrored]⟩)

theorem exec_confirm {s : State} {h : TwinHead} {one : Bool} {seq : Nat} {l : Nat × BitVec 24 × Nat} (free : Nat)
    (hin : Claims.InOrder s h) (hsent : Maps.find (frameName one seq) s.twn.sentFrames = some [l]) (hslots : Claims.NoSlotWaits s) :
    ∃ t, exec (.confirm h [(one, seq)] [] [] free) s = .next t ∧ Maps.find (frameName one seq) t.twn.sentFrames = none ∧
      t.twn.credit = free ∧ t.twn.shipped = 0 ∧
      t.reg Reg.DUR_CNT_MIRRORED = s.reg Reg.DUR_CNT_MIRRORED +
        (if s.dur.pb.any (fun e => e.isFor l.1 l.2.1 l.2.2 false && !e.mirrored) then 1 else 0) ∧
      ∀ e ∈ t.dur.pb, e.isFor l.1 l.2.1 l.2.2 false = true → e.mirrored = true := by
  have hsent' : Maps.find (frameName one seq) (s.frameTaken h).twn.sentFrames = some [l] := by
    obtain ⟨_, _, htwn⟩ := s.twn_setBundle h.one (Claims.taken s h)
    rw [htwn]
    exact hsent
  obtain ⟨_, _, pb, hconf, hreg, hpb⟩ := State.frameConfirmed_singleton hsent'
  obtain ⟨_, _, _, hrel⟩ := ((s.frameTaken h).frameConfirmed (frameName one seq)).releaseAnswers_eq
  obtain ⟨v, hv⟩ : ∃ v : State, v = { ((s.frameTaken h).frameConfirmed (frameName one seq)).releaseAnswers with
      twn := { ((s.frameTaken h).frameConfirmed (frameName one seq)).releaseAnswers.twn with credit := free, shipped := 0 } } :=
    ⟨_, rfl⟩
  have hexec : exec (.confirm h [(one, seq)] [] [] free) s = .next v.shipSlots.reapPb := by
    rw [hv]
    exact congrArg Host.Outcome.next (State.gotFrame_inOrder hin _)
  rw [hrel, hconf] at hv
  rw [State.shipSlots_idle (s := v) (by rw [hv]; exact hslots)] at hexec
  rw [hconf] at hreg
  subst hv
  exact ⟨_, hexec, Maps.find_del_same _ _, rfl, rfl, hreg, fun e he => hpb e (List.mem_filter.1 he).1⟩

/-! ## An outcome entry of the twin's (R368) -/

@[simp] theorem State.link_setLink (s : State) (m : Nat) (l : MLinkRec) : (s.setLink m l).link m = l := Maps.getD_put_same _ _ _ _

/-- A transaction as it is sent is the one asked for. -/
theorem State.compose_trans (s : State) (m : Nat) (t : MTrans) : (s.compose m t).1.trans = t := by
  unfold State.compose
  split
  case h_6 | h_9 | h_10 | h_11 | h_12 | h_13 => split <;> rfl
  all_goals rfl

theorem State.link_compose (s : State) (m : Nat) (t : MTrans) (k : Nat) : (s.compose m t).2.link k = s.link k := by
  obtain ⟨_, h⟩ := s.compose_eq m t
  rw [h]
  rfl

theorem State.link_countWrite (s : State) (t : MTrans) (m : Nat) : (s.countWrite t).link m = s.link m := by
  unfold State.countWrite
  split
  · rfl
  · rfl

theorem State.link_takeLine (s : State) (tile line m : Nat) : (s.takeLine tile line).link m = s.link m := by
  unfold State.takeLine
  split
  · rfl
  · rfl

/-- A transaction sent is outstanding on its link, and what is held there still is. -/
theorem State.link_send (s : State) (m : Nat) (w : MWork) :
    ((s.send m w).link m).held = (s.link m).held ∧
      ∃ k y, Maps.find k ((s.send m w).link m).trans = some y ∧ y.trans = w.trans := by
  unfold State.send
  dsimp only
  split
  · rw [State.link_takeLine, State.link_countWrite, State.link_setLink, State.link_compose]
    exact ⟨rfl, _, _, Maps.find_put_same _ _ _, s.compose_trans m w.trans⟩
  · rw [State.link_countWrite, State.link_setLink, State.link_compose]
    exact ⟨rfl, _, _, Maps.find_put_same _ _ _, s.compose_trans m w.trans⟩

theorem State.held_resend (s : State) (m tag : Nat) : ((s.resend m tag).link m).held = (s.link m).held := by
  unfold State.resend
  dsimp only
  split
  · rfl
  · rw [State.link_setLink]
    rfl

/-- Held work that is not to be sent again is, after a turn of its link, still held or sent. -/
theorem State.bound_pumpOne {s : State} {m : Nat} {w : MWork} (hw : w ∈ (s.link m).held) (hfirst : w.again = none) :
    Claims.Bound (s.pumpOne m) m w.trans := by
  have hstays {t : State} (hheld : w ∈ (t.link m).held) : Claims.Bound t m w.trans := .inl ⟨w, hheld, rfl⟩
  unfold State.pumpOne
  dsimp only
  split
  · exact hstays hw
  · split
    · exact hstays hw
    · next e x hx =>
      obtain ⟨_, _, hslots, -⟩ := (s.setLink m { s.link m with held := (s.link m).held.erase x }).takeSlots_eq
        (mediaTable m) e 1 x.cls x.tenant
      have hheld : (((s.setLink m { s.link m with held := (s.link m).held.erase x }).takeSlots (mediaTable m) e 1 x.cls
          x.tenant).link m).held = (s.link m).held.erase x := by
        rw [hslots]
        exact congrArg MLinkRec.held (State.link_setLink s m _)
      by_cases hwx : w = x
      · subst hwx
        rw [hfirst]
        exact .inr (State.link_send _ m w).2
      · have herase : w ∈ (s.link m).held.erase x := (List.mem_erase_of_ne hwx).2 hw
        split
        · exact hstays (by rw [State.held_resend, hheld]; exact herase)
        · exact hstays (by rw [(State.link_send _ m x).1, hheld]; exact herase)

/-- Work for a stack is held for it or sent to it. -/
theorem State.bound_issueFor (s : State) (m : Nat) (cls : Cls) (tenant : Nat) (t : MTrans) :
    Claims.Bound (s.issueFor m cls tenant t) m t :=
  State.bound_pumpOne (w := { trans := t, cls, tenant }) (by rw [State.link_setLink]; simp) rfl

theorem exec_outcome {s : State} {h : TwinHead} (o : OutcomeBody) (hin : Claims.InOrder s h) :
    ∃ t x, exec (.outcome h o) s = .next t ∧ t.dur.twinOutcomes = keepOutcome s.dur.twinOutcomes x ∧ x.bond = o.bond.toNat ∧
      x.kind = o.kind ∧ x.seq = o.seq.toNat ∧ x.pos = o.pos.toNat ∧ x.va = o.va.toNat ∧ x.ops = [o.op0, o.op1] ∧
      x.orig = o.orig ∧ x.epoch = o.epoch.toNat ∧ x.confirmed = true ∧ Claims.Bound t s.metaStack (.outcome false x.key) := by
  let x : Outcome := {
    bond := o.bond.toNat, sideB := o.sideB, kind := o.kind, seq := o.seq.toNat, rkey := o.rkey, pos := o.pos.toNat,
    va := o.va.toNat, ops := [o.op0, o.op1], orig := o.orig, epoch := o.epoch.toNat, confirmed := true }
  let u : State := { s.frameTaken h with dur := { s.dur with twinOutcomes := keepOutcome s.dur.twinOutcomes x } }
  have hexec : exec (.outcome h o) s = .next (u.issueFor u.metaStack (Cls.ofNum o.cls) 0 (.outcome false x.key)) :=
    congrArg Host.Outcome.next (State.gotFrame_inOrder hin _)
  have hkept := congrArg (fun t : State => t.dur.twinOutcomes)
    (u.besideMedia_issueFor u.metaStack (Cls.ofNum o.cls) 0 (.outcome false x.key))
  exact ⟨_, x, hexec, hkept, rfl, rfl, rfl, rfl, rfl, rfl, rfl, rfl, rfl, u.bound_issueFor _ _ _ _⟩

/-! ## The loss of the twin (R404, R405, R414, R420) -/

theorem State.twn_notify (s : State) (type b2 b3 : Nat) (w0 w1 w2 : DWord) : (s.notify type b2 b3 w0 w1 w2).twn = s.twn := by
  obtain ⟨_, _, h⟩ := s.notify_eq type b2 b3 w0 w1 w2
  rw [h]

theorem State.twn_trigger (s : State) (input code level source : Nat) : (s.trigger input code level source).twn = s.twn := by
  unfold State.trigger
  split
  · rfl
  · split
    · rw [State.bumpSat, State.setF_twn]
    · rfl

/-- The registers that a pair event is shown in (R414). -/
def pairEventRegs : List Nat := [Reg.TWN_LAST_EVENT, Reg.TWN_LAST_TICK_LO, Reg.TWN_LAST_TICK_LO + 4]

section PairEvents

variable (s : State) (kind side tick : Nat) (w1 : DWord)

theorem State.twn_pairEvent : (s.pairEvent kind side tick w1).twn = s.twn := by
  unfold State.pairEvent
  rw [State.twn_trigger, State.twn_notify, State.setPair_twn, State.setReg_twn]

/-- Past the notification and the trigger a pair event leaves the registers as it wrote them. -/
theorem State.reg_pairEvent_reported {o : Nat} (ho : o ∉ reportRegs) : (s.pairEvent kind side tick w1).reg o =
    ((s.setReg Reg.TWN_LAST_EVENT (BitVec.ofNat 32 (kind * 2 ^ 28 + side * 2 ^ 26))).setPair Reg.TWN_LAST_TICK_LO tick).reg o :=
  (((Reported.refl _).notify _ _ _ _ _ _).trigger _ _ _ _).reg o ho

theorem State.reg_pairEvent_other {o : Nat} (ho : o ∉ reportRegs) (ho' : o ∉ pairEventRegs) :
    (s.pairEvent kind side tick w1).reg o = s.reg o := by
  simp only [pairEventRegs, List.mem_cons, List.not_mem_nil, or_false, not_or] at ho'
  obtain ⟨hevent, hlo, hhi⟩ := ho'
  rw [State.reg_pairEvent_reported _ _ _ _ _ ho, State.setPair, State.reg_setReg_other _ _ hhi, State.reg_setReg_other _ _ hlo,
    State.reg_setReg_other _ _ hevent]

theorem State.reg_pairEvent_event : (s.pairEvent kind side tick w1).reg Reg.TWN_LAST_EVENT =
    BitVec.ofNat 32 (kind * 2 ^ 28 + side * 2 ^ 26) := by
  rw [State.reg_pairEvent_reported _ _ _ _ _ (by decide), State.setPair, State.reg_setReg_other _ _ (by decide),
    State.reg_setReg_other _ _ (by decide), State.reg_setReg]

end PairEvents

/-- The loss of the twin is shown, and makes a unit that is Paired or in LinkHold take over (R405). -/
theorem State.twinGone_takesOver {s : State} (kind : Nat) (hpair : s.pairState = 1 ∨ s.pairState = 2)
    (hside : s.getB Reg.TWN_STATUS 20 = false) :
    (s.twinGone kind).twn.takeoverDue = some (s.twn.takeoverDue.getD kind) ∧
      (s.twinGone kind).reg Reg.TWN_LAST_EVENT = BitVec.ofNat 32 (kind * 2 ^ 28 + sideNum (!s.sideB) * 2 ^ 26) := by
  have hstatus : (s.pairEvent kind (sideNum (!s.sideB)) s.now 0).reg Reg.TWN_STATUS = s.reg Reg.TWN_STATUS :=
    s.reg_pairEvent_other _ _ _ _ (by decide) (by decide)
  have hside' : (s.pairEvent kind (sideNum (!s.sideB)) s.now 0).getB Reg.TWN_STATUS 20 = false := by
    rw [State.getB, hstatus]
    exact hside
  have hpair' : (s.pairEvent kind (sideNum (!s.sideB)) s.now 0).pairState = s.pairState := by
    rw [State.pairState, State.getF, hstatus]
    rfl
  have hgone : s.twinGone kind = { s.pairEvent kind (sideNum (!s.sideB)) s.now 0 with
      twn := { s.twn with takeoverDue := some (s.twn.takeoverDue.getD kind) } } := by
    unfold State.twinGone
    dsimp only
    rw [if_neg (by rw [hside']; exact Bool.false_ne_true), hpair', State.twn_pairEvent]
    rcases hpair with hpair | hpair
    · rw [hpair]
      rfl
    · rw [hpair]
      rfl
  rw [hgone]
  exact ⟨rfl, s.reg_pairEvent_event _ _ _ _⟩

theorem exec_giveup {s : State} {h : TwinHead} (sb : Bool) (ep : Word) (dr hd : Bool) (hin : Claims.InOrder s h)
    (hpair : s.pairState = 1 ∨ s.pairState = 2) (hside : s.getB Reg.TWN_STATUS 20 = false) :
    ∃ t, exec (.giveup h sb ep dr hd false) s = .next t ∧ t.twn.takeoverDue = some (s.twn.takeoverDue.getD 2) ∧
      t.reg Reg.TWN_LAST_EVENT = BitVec.ofNat 32 (2 * 2 ^ 28 + sideNum (!s.sideB) * 2 ^ 26) := by
  obtain ⟨_, _, htwn⟩ := s.twn_setBundle h.one (Claims.taken s h)
  obtain ⟨hdue, hevent⟩ := State.twinGone_takesOver (s := s.frameTaken h) 2 hpair hside
  rw [htwn] at hdue
  exact ⟨_, (exec_giveup_alone sb ep dr hd).trans (congrArg Host.Outcome.next (State.gotFrame_inOrder hin _)), hdue, hevent⟩

theorem State.mem_signals_raisePair (s : State) (x : PairSignal) : x ∈ (s.raisePair x).twn.signals := by
  unfold State.raisePair
  split
  · next h => exact List.contains_iff_mem.1 h
  · exact List.mem_append_right _ List.mem_cons_self

theorem State.bundle_raisePair (s : State) (x : PairSignal) (one : Bool) : (s.raisePair x).bundle one = s.bundle one := by
  unfold State.raisePair
  split
  · rfl
  · rfl

/-- Where both units gave up in one tick the pair is lost (R404). -/
theorem exec_giveup_both {s : State} {h : TwinHead} (sb : Bool) (ep : Word) (dr hd : Bool) (hcrc : h.crcOk = true)
    (hseq : h.seq = (s.bundle h.one).rxSeq) (hgave : s.twn.giveupAt.isSome = true) :
    ∃ t, exec (.giveup h sb ep dr hd true) s = .next t ∧ .lost false ∈ t.twn.signals ∧ t.bundle h.one = Claims.taken s h := by
  have hexec : exec (.giveup h sb ep dr hd true) s = .next ((s.frameTaken h).raisePair (.lost false)) := by
    change execGiveup h sb ep dr hd true s = _
    rw [execGiveup, if_pos (by simp [hcrc, hseq, hgave]), State.gotFrame_next hcrc hseq, id_eq, ite_self]
  exact ⟨_, hexec, State.mem_signals_raisePair _ _, by rw [State.bundle_raisePair, State.bundle_setBundle]⟩

/-- A unit of a lost pair that has no complete copy serves nothing (R405, R420). -/
theorem State.pairLost_serves (s : State) :
    (s.actPair (.lost false)).getB Reg.TWN_STATUS 21 = true ∧ Claims.Serves (s.actPair (.lost false)) false false := by
  have hserves (u : State) : ∃ v : State, v.bar = u.bar ∧
      u.setServes 0 = (v.setB Reg.TWN_STATUS 26 false).setB Reg.TWN_STATUS 27 false := by
    unfold State.setServes
    dsimp only
    split
    · refine ⟨_, ?_, rfl⟩
      unfold State.meterFlag
      split
      · rfl
      · rfl
    · exact ⟨u, rfl, rfl⟩
  obtain ⟨v, hbar, hv⟩ := hserves (s.setB Reg.TWN_STATUS 21 true)
  have hlost : s.actPair (.lost false) = (v.setB Reg.TWN_STATUS 26 false).setB Reg.TWN_STATUS 27 false := hv
  rw [hlost, Claims.Serves]
  refine ⟨?_, ?_, State.getB_setB_same _ _ _ (by decide)⟩
  · rw [State.getB_setB_other _ _ (by decide), State.getB_setB_other _ _ (by decide), State.getB, State.reg, hbar]
    exact State.getB_setB_same s _ true (by decide)
  · rw [State.getB_setB_other _ _ (by decide), State.getB_setB_same _ _ _ (by decide)]

/-! ## The return of a side (R408, R418) -/

theorem State.twn_sendNotices (s : State) (type status side tick : Nat) : (s.sendNotices type status side tick).twn = s.twn := by
  have hsend (t : State) (q : BitVec 24) (bytes : List Byte) :
      ((t.sendMsg q .notice bytes none).bump Reg.TWN_CNT_NOTICE).twn = t.twn := by
    obtain ⟨_, _, h⟩ := Answered.sendMsg t q .notice bytes none
    rw [State.bump_twn, h]
  refine foldl_unchanged (view := State.twn) (fun t e => ?_) _ s
  dsimp only
  split
  · rfl
  · exact foldl_unchanged (view := State.twn) (fun t k => hsend t _ _) _ t

theorem exec_reclaim {s : State} {h : TwinHead} (sb : Bool) (r : DWord) (hin : Claims.InOrder s h) (hpair : s.pairState = 4) :
    ∃ t, exec (.reclaim h sb r) s = .next t ∧ t.twn.reclaim = some (sb, r.toNat) ∧ t.bundle h.one = Claims.taken s h := by
  have hpair' : (s.frameTaken h).pairState = 4 := hpair
  have hexec : exec (.reclaim h sb r) s = .next (State.sendNotices
      { s.frameTaken h with twn := { (s.frameTaken h).twn with reclaim := some (sb, r.toNat) } } 2 Code.homeMoved (sideNum sb)
      r.toNat) := by
    refine congrArg Host.Outcome.next ((State.gotFrame_inOrder hin _).trans ?_)
    exact if_neg (by simp [hpair'])
  refine ⟨_, hexec, by rw [State.twn_sendNotices], ?_⟩
  rw [State.bundle, State.twn_sendNotices]
  exact State.bundle_setBundle s h.one (Claims.taken s h)

/-- Settles O45, clause by clause. -/
theorem twinFrames : Obligations.TwinFrames :=
  ⟨fun _ _ hcrc => frames_of_gotFrame (State.gotFrame_damaged hcrc),
    fun _ _ hcrc hseq => frames_of_gotFrame (State.gotFrame_outOfOrder hcrc hseq),
    fun _ _ runs ep cls hin => exec_mirror runs ep cls hin,
    fun _ _ _ ha hl hintent hhome => exec_mirrorAdmit_homed ha hl hintent hhome,
    fun _ _ _ ha hl hstray => exec_mirrorAdmit_stray ha hl hstray,
    fun _ _ _ _ ha hl hintent hextent hhome => exec_heldMirrorPlace ha hl hintent hextent hhome,
    fun _ _ _ _ _ free hin hsent hslots => exec_confirm free hin hsent hslots,
    fun _ _ o hin => exec_outcome o hin,
    fun _ _ slot ls ep hin => exec_intent slot ls ep hin,
    fun _ _ _ _ _ ha hl hintent hhome hfree => exec_mirrorAdmit_slot ha hl hintent hhome hfree,
    fun _ _ sb ep dr hd hin hpair hside => exec_giveup sb ep dr hd hin hpair hside,
    fun _ _ sb ep dr hd hcrc hseq hgave => exec_giveup_both sb ep dr hd hcrc hseq hgave,
    State.pairLost_serves,
    fun _ _ sb r hin hpair => exec_reclaim sb r hin hpair,
    fun _ _ _ hin hgap hside => exec_switch hin hgap hside,
    fun _ _ e tn sb pc hin => exec_resync_extent e tn sb pc hin,
    fun _ _ hin => exec_resync_ends hin⟩

end Sys2Proof.Machine
end

section
/-! Proofs of the family 05_clause_engines, issuing: what the state is in which an instruction's body starts, what a change of the
request or of the MCP's registers makes of it, and when a word passes the checks of its row. -/

namespace Sys2Proof.Machine

open Sys2Proof

/-! ## The turns of an engine (R140) -/

/-- A fold of changes to records of other keys leaves a record. -/
theorem Maps.find_foldl_other {α β : Type} {f : Table α → β → Table α} {k : Nat} {l : List β}
    (h : ∀ m, ∀ b ∈ l, Maps.find k (f m b) = Maps.find k m) (m : Table α) : Maps.find k (l.foldl f m) = Maps.find k m :=
  List.foldlRecOn (motive := fun t => Maps.find k t = Maps.find k m) l f rfl fun t ht b hb => (h t b hb).trans ht

theorem State.searchOrder_engine {s : State} {e k : Nat} (h : k ∈ s.searchOrder e) : k / 8 = e := by
  obtain ⟨j, -, rfl⟩ := List.mem_map.1 (List.mem_filter.1 h).1
  omega

/-- Taking a turn leaves the turns of other engines' strands. -/
theorem State.turns_takeTurn (s : State) {i : Fin 512} {k : Nat} (h : k / 8 ≠ i.val / 8) :
    Maps.find k (s.takeTurn i).cle.turns = Maps.find k s.cle.turns := by
  refine Maps.find_foldl_other (fun m j hj => ?_) _
  have hkj : k ≠ j := fun hkj => h (by rw [hkj, State.searchOrder_engine hj])
  split
  · exact Maps.find_del_other hkj m
  · rw [Maps.find_upd, if_neg hkj]

/-! ## The state that a strand's instruction starts in -/

/-- `u` comes from `s` by issuing on strand `i`, and by nothing else. -/
structure Issued (s u : State) (i : Fin 512) : Prop where
  issues : Claims.Issues s u i
  rest : ∃ issued lastIssued turns icache free,
    u = { s with cle := { s.cle with issued, lastIssued, turns, icache }, free }

theorem State.issued (s : State) (i : Fin 512) (w : DWord) (n : Nat) :
    Issued s ((s.took (.strand i) w).spend (.strand i) n) i := by
  have hfill : ∃ icache free, s.fillIcache i = { s with cle := { s.cle with icache }, free } := by
    unfold State.fillIcache
    split
    · exact ⟨_, _, rfl⟩
    · dsimp only
      split
      · exact ⟨_, _, rfl⟩
      · split
        · exact ⟨_, _, rfl⟩
        · exact ⟨_, _, rfl⟩
  obtain ⟨icache, free, hfill⟩ := hfill
  unfold State.took
  dsimp only
  rw [hfill]
  refine ⟨⟨Maps.find_put_same _ _ _, fun e he => ⟨?_, Maps.find_put_other _ he _⟩, fun k hk => ?_⟩, _, _, _, _, _, rfl⟩
  · exact (Maps.find_upd _ _ _ _).trans (if_neg he)
  · have hki : k ≠ i.val := fun hki => hk (by rw [hki])
    exact (Maps.find_put_other _ hki _).trans
      (State.turns_takeTurn { s with cle := { s.cle with icache := icache }, free := free } hk)

namespace Issued

variable {s u : State} {i : Fin 512}

theorem spend (h : Issued s u i) (n : Nat) : Issued s (u.spend (.strand i) n) i := by
  obtain ⟨⟨hlast, hengines, hturns⟩, _, _, _, _, _, rfl⟩ := h
  refine ⟨⟨hlast, hengines, fun k hk => ?_⟩, _, _, _, _, _, rfl⟩
  have hki : k ≠ i.val := fun hki => hk (by rw [hki])
  exact (Maps.find_put_other _ hki _).trans (hturns k hk)

/-! What a body reads is as before. -/

theorem reqs (h : Issued s u i) : u.cle.reqs = s.cle.reqs := by
  obtain ⟨-, _, _, _, _, _, rfl⟩ := h
  rfl

theorem order (h : Issued s u i) : u.cle.order = s.cle.order := by
  obtain ⟨-, _, _, _, _, _, rfl⟩ := h
  rfl

theorem running (h : Issued s u i) : u.running = s.running := by
  obtain ⟨-, _, _, _, _, _, rfl⟩ := h
  rfl

theorem codeOf (h : Issued s u i) : u.codeOf = s.codeOf := by
  obtain ⟨-, _, _, _, _, _, rfl⟩ := h
  rfl

theorem window (h : Issued s u i) : u.window = s.window := by
  obtain ⟨-, _, _, _, _, _, rfl⟩ := h
  rfl

theorem qp (h : Issued s u i) : u.qp = s.qp := by
  obtain ⟨-, _, _, _, _, _, rfl⟩ := h
  rfl

theorem dur (h : Issued s u i) : u.dur = s.dur := by
  obtain ⟨-, _, _, _, _, _, rfl⟩ := h
  rfl

theorem med (h : Issued s u i) : u.med = s.med := by
  obtain ⟨-, _, _, _, _, _, rfl⟩ := h
  rfl

theorem now (h : Issued s u i) : u.now = s.now := by
  obtain ⟨-, _, _, _, _, _, rfl⟩ := h
  rfl

theorem reg (h : Issued s u i) : u.reg = s.reg := by
  obtain ⟨-, _, _, _, _, _, rfl⟩ := h
  rfl

/-- A request replaced, and nothing besides. -/
theorem setReq (h : Issued s u i) (id : Nat) (r : Request) : Claims.OnlyRequest s (u.setReq id r) i id r where
  request := Maps.find_put_same _ _ _
  others k hk := (Maps.find_put_other r hk _).trans (by rw [h.reqs])
  issues := ⟨h.issues.last, h.issues.engines, h.issues.turns⟩
  rest := by
    obtain ⟨-, _, _, _, _, _, rfl⟩ := h
    rfl

end Issued

/-! ## A word that passes the checks of a row (R182, R185, R186) -/

/-- The word is one of the row's, and allowed. -/
structure Row.Admits (row : Row) (w : DWord) : Prop where
  defined : defined w = true
  op : wOp w = row.op
  sub : row.subs.contains (wSub w) = true
  mode : row.mode = none ∨ row.mode = some (bitOf w 0)
  allowed : row.allowed w = true

/-- A word of a row of one sub. -/
theorem Row.admits_sub {row : Row} {w : DWord} {sub : Nat} (hop : wOp w = row.op) (hsub : wSub w = sub) (hsubs : row.subs = [sub])
    (hlisted : (subsOf row.op).contains sub = true) (hmode : row.mode = none) (hallowed : row.allowed w = true) : row.Admits w where
  defined := by rw [defined, hop, hsub, hlisted]
  op := hop
  sub := by simp [hsubs, hsub]
  mode := .inl hmode
  allowed := hallowed

/-- A word of an X row. -/
theorem xRow_admits {op sub cost : Nat} {allowed : DWord → Bool} {w : DWord} (hop : wOp w = op) (hsub : wSub w = sub)
    (hlisted : (subsOf op).contains sub = true) (hallowed : allowed w = true) : (xRow op sub cost allowed).Admits w :=
  Row.admits_sub hop hsub rfl hlisted rfl hallowed

/-- On a strand, an admitted word of either profile's row runs its body. -/
theorem RunsOn.instruct_issued {s : State} {i : Fin 512} {id : Nat} {r : Request} {w : DWord} (h : RunsOn s i id r w) {row : Row}
    (hrow : row.Admits w) (hprofile : row.profile ≠ .management) (body : State → State) :
    ∃ u, Issued s u i ∧ s.instruct (.strand i) w row body = body u :=
  ⟨_, s.issued i w row.cost, h.instruct hrow.defined hrow.op hrow.sub hrow.mode hrow.allowed hprofile⟩

/-- A clause's body gets the request that runs. -/
theorem RunsOn.clauseOp_issued {s : State} {i : Fin 512} {id : Nat} {r : Request} {w : DWord} (h : RunsOn s i id r w) {row : Row}
    (hrow : row.Admits w) (hprofile : row.profile ≠ .management) (body : State → Fin 512 → Nat → Request → State) :
    ∃ u, Issued s u i ∧ s.clauseOp (.strand i) w row body = body u i id r :=
  ⟨_, s.issued i w row.cost, h.clauseOp hrow.defined hrow.op hrow.sub hrow.mode hrow.allowed hprofile⟩

section Clauses

variable {c : Agent → DWord → Instr} {ok : DWord → Prop} {row : DWord → Row}
  {body : DWord → State → Fin 512 → Nat → Request → State}

/-- A clause instruction is given by what its body makes of the state that issuing leaves. -/
theorem strandGives_of_body {pre : State → Fin 512 → Request → DWord → Prop} {post : State → State → Nat → Request → DWord → Prop}
    (hexec : ∀ ag w s, exec (c ag w) s = .next (s.clauseOp ag w (row w) (body w)))
    (hrow : ∀ w, ok w → (row w).Admits w ∧ (row w).profile ≠ .management)
    (hbody : ∀ s u i id r w, ok w → pre s i r w → Issued s u i → s.running i = some (id, r) → post s (body w u i id r) id r w) :
    Claims.StrandGives c ok pre post := by
  intro s i id r w hruns hok hpre
  obtain ⟨hadmits, hprofile⟩ := hrow w hok
  obtain ⟨u, hissued, hop⟩ := hruns.clauseOp_issued hadmits hprofile (body w)
  exact ⟨_, (hexec _ _ _).trans (congrArg _ hop), hbody s u i id r w hok hpre hissued hruns.running⟩

/-- A clause instruction that only replaces its request. -/
theorem strandDoes_of_setReq {pre : State → Request → DWord → Prop} {f : State → Request → DWord → Request}
    (hexec : ∀ ag w s, exec (c ag w) s = .next (s.clauseOp ag w (row w) (body w)))
    (hrow : ∀ w, ok w → (row w).Admits w ∧ (row w).profile ≠ .management)
    (hbody : ∀ s u i id r w, ok w → pre s r w → Issued s u i → body w u i id r = u.setReq id (f s r w)) :
    Claims.StrandDoes c ok pre f := by
  intro s i id r w hruns hok hpre
  obtain ⟨hadmits, hprofile⟩ := hrow w hok
  obtain ⟨u, hissued, hop⟩ := hruns.clauseOp_issued hadmits hprofile (body w)
  refine ⟨_, (hexec _ _ _).trans (congrArg _ hop), ?_⟩
  rw [hbody s u i id r w hok hpre hissued]
  exact hissued.setReq id _

end Clauses

/-! ## The state that an instruction of the MCP starts in (R207, R213) -/

/-- `u` comes from `s` by buffering the word's line and `cost` cycles. -/
def Fetched (s u : State) (cost : Nat) : Prop :=
  ∃ ibuf, u = { s with mcp := { s.mcp with ibuf, cycles := s.mcp.cycles + cost } }

theorem McpRuns.instruct_fetched {s : State} {w : DWord} (h : McpRuns s w) {row : Row} (hrow : row.Admits w)
    (hprofile : row.profile ≠ .clause) (body : State → State) :
    ∃ u, Fetched s u row.cost ∧ s.instruct .mcp w row body = body u := by
  obtain ⟨ibuf, hbuf⟩ := s.buffer_eq w
  refine ⟨_, ⟨ibuf, ?_⟩, h.instruct hrow.defined hrow.op hrow.sub hrow.mode hrow.allowed hprofile⟩
  rw [hbuf]
  rfl

namespace Fetched

variable {s u : State} {cost : Nat}

theorem ctxOf (h : Fetched s u cost) : u.ctxOf .mcp = s.ctxOf .mcp := by
  obtain ⟨_, rfl⟩ := h
  rfl

theorem spend (h : Fetched s u cost) (n : Nat) : Fetched s (u.spend .mcp n) (cost + n) := by
  obtain ⟨ibuf, rfl⟩ := h
  exact ⟨ibuf, by simp [State.spend, Nat.add_assoc]⟩

/-- The MCP's registers replaced, and nothing besides. -/
theorem setCtx (h : Fetched s u cost) (x : Ctx) : Claims.OnlyMcp s (u.setCtx .mcp x) cost := by
  obtain ⟨_, rfl⟩ := h
  rfl

end Fetched

/-! ## Instructions that replace the registers (R184, R187) -/

theorem Issued.setCtx {s u : State} {i : Fin 512} (h : Issued s u i) {id : Nat} {r : Request} (hr : s.running i = some (id, r))
    (x : Ctx) : u.setCtx (.strand i) x = u.setReq id { r with ctx := x } := by
  have hu : u.running i = some (id, r) := (congrFun h.running i).trans hr
  simp [State.setCtx, hu]

theorem Issued.ctxOf {s u : State} {i : Fin 512} (h : Issued s u i) {id : Nat} {r : Request} (hr : s.running i = some (id, r)) :
    u.ctxOf (.strand i) = r.ctx := by
  have hu : u.running i = some (id, r) := (congrFun h.running i).trans hr
  simp [State.ctxOf, hu]

/-- An instruction of both profiles that replaces the registers by `next`, where that writes `f` of them into g[d] and goes on. -/
theorem computesG_of_setCtx {c : Agent → DWord → Instr} {ok : DWord → Prop} {row : Row} {f : Ctx → DWord → DWord}
    {next : Agent → DWord → Ctx → Ctx}
    (hexec : ∀ ag w s, exec (c ag w) s = .next (s.instruct ag w row fun u => u.setCtx ag (next ag w (u.ctxOf ag))))
    (hrow : ∀ w, ok w → row.Admits w) (hprofile : row.profile = .both)
    (hnext : ∀ ag w x, ok w → Claims.WritesG x (next ag w x) (wD w) (f x w) (x.pc + pcStep ag)) :
    Claims.ComputesG c ok row.cost f := by
  refine ⟨fun s i id r w hruns hok => ?_, fun s w hruns hok => ?_⟩
  · obtain ⟨u, hissued, hop⟩ := hruns.instruct_issued (hrow w hok) (by simp [hprofile])
      fun u => u.setCtx (.strand i) (next (.strand i) w (u.ctxOf (.strand i)))
    refine ⟨_, { r with ctx := next (.strand i) w r.ctx }, (hexec _ _ _).trans (congrArg _ hop), ?_, rfl, hnext _ _ _ hok⟩
    rw [hissued.ctxOf hruns.running, hissued.setCtx hruns.running]
    exact hissued.setReq _ _
  · obtain ⟨u, hfetched, hop⟩ := hruns.instruct_fetched (hrow w hok) (by simp [hprofile])
      fun u => u.setCtx .mcp (next .mcp w (u.ctxOf .mcp))
    refine ⟨_, (hexec _ _ _).trans (congrArg _ hop), hfetched.setCtx _, ?_⟩
    obtain ⟨hg, hp, hrest⟩ := hnext .mcp w (s.ctxOf .mcp) hok
    rw [hfetched.ctxOf]
    refine ⟨hg, hp, ?_⟩
    generalize next .mcp w (s.ctxOf .mcp) = x at hrest
    rw [hrest]
    rfl

/-- `f` written into g[d] (R184). -/
theorem Ctx.writesG_setG (x : Ctx) (d : Nat) (v : DWord) (pc : Nat) : Claims.WritesG x { x.setG d v with pc := pc } d v pc where
  g := x.greg_setG d v
  p := x.preg_setG d v
  rest := by
    unfold Ctx.setG
    split
    · rfl
    · rfl

/-- An instruction of both profiles that writes `f` into g[d] and goes on. -/
theorem computesG_of_writesG {c : Agent → DWord → Instr} {ok : DWord → Prop} {row : Row} {f : Ctx → DWord → DWord}
    {g : DWord → Ctx → DWord} (hexec : ∀ ag w s, exec (c ag w) s = .next (s.writesG ag w row (g w)))
    (hrow : ∀ w, ok w → row.Admits w) (hprofile : row.profile = .both) (hval : ∀ x w, ok w → g w x = f x w) :
    Claims.ComputesG c ok row.cost f :=
  computesG_of_setCtx (next := fun ag w x => { x.setG (wD w) (g w x) with pc := x.pc + pcStep ag }) hexec hrow hprofile
    fun _ w x hok => hval x w hok ▸ x.writesG_setG _ _ _

end Sys2Proof.Machine
end

section
/-! Proofs of the family 05_clause_engines, the ALU rows (O9). -/

namespace Sys2Proof.Machine

open Sys2Proof

/-! ## Results (R187) -/

/-- The immediate, sign-extended (R182). -/
theorem wSimm_eq (w : DWord) : wSimm w = BitVec.signExtend 64 (w.extractLsb' 0 32) := by
  have hfld : wImm w = (w.extractLsb' 0 32).toNat := by simp [wImm, fld]
  rw [wSimm, hfld]
  generalize w.extractLsb' 0 32 = x
  have hx := x.isLt
  refine BitVec.eq_of_toNat_eq ?_
  rw [BitVec.toNat_signExtend, sextTo64, Nat.mod_eq_of_lt hx]
  by_cases hmsb : x.msb = true
  · have hge := BitVec.le_toNat_of_msb_true hmsb
    rw [if_pos (by omega), hmsb]
    simp
    omega
  · have hlt := BitVec.toNat_lt_of_msb_false (Bool.eq_false_iff.2 hmsb)
    rw [if_neg (by omega), Bool.eq_false_iff.2 hmsb]
    simp

/-- A shift's immediate stands for itself. -/
theorem wSimm_toNat {w : DWord} (h : wImm w < 64) : (wSimm w).toNat = wImm w := by
  rw [wSimm, sextTo64]
  rw [Nat.mod_eq_of_lt (by omega), if_neg (by omega), BitVec.toNat_ofNat, Nat.mod_eq_of_lt (by omega)]

theorem aluShl_eq (a b : DWord) : aluShl a b = BitVec.ofNat 64 (a.toNat * 2 ^ (b.toNat % 64)) := by
  refine BitVec.eq_of_toNat_eq ?_
  rw [aluShl, BitVec.toNat_shiftLeft, Nat.shiftLeft_eq, BitVec.toNat_ofNat]

theorem aluShr_eq (a b : DWord) : aluShr a b = BitVec.ofNat 64 (a.toNat / 2 ^ (b.toNat % 64)) := by
  refine BitVec.eq_of_toNat_eq ?_
  rw [aluShr, BitVec.toNat_ushiftRight, Nat.shiftRight_eq_div_pow, BitVec.toNat_ofNat,
    Nat.mod_eq_of_lt (Nat.lt_of_le_of_lt (Nat.div_le_self _ _) a.isLt)]

theorem aluSar_eq (a b : DWord) : aluSar a b = BitVec.ofInt 64 (a.toInt / 2 ^ (b.toNat % 64)) := by
  rw [aluSar, BitVec.sshiftRight, Int.shiftRight_eq_div_pow]
  norm_cast

theorem aluMul_eq (a b : DWord) : aluMul a b = BitVec.ofNat 64 (a.toNat * b.toNat) := by
  refine BitVec.eq_of_toNat_eq ?_
  rw [aluMul, BitVec.toNat_mul, BitVec.toNat_ofNat]

theorem aluMinu_eq (a b : DWord) : aluMinu a b = BitVec.ofNat 64 (min a.toNat b.toNat) := by
  rw [aluMinu, Nat.min_def]
  split <;> simp

theorem aluMaxu_eq (a b : DWord) : aluMaxu a b = BitVec.ofNat 64 (max a.toNat b.toNat) := by
  rw [aluMaxu, Nat.max_def]
  split <;> simp

theorem aluMin_eq (a b : DWord) : aluMin a b = BitVec.ofInt 64 (min a.toInt b.toInt) := by
  rw [aluMin, Int.min_def]
  split <;> simp

theorem aluMax_eq (a b : DWord) : aluMax a b = BitVec.ofInt 64 (max a.toInt b.toInt) := by
  rw [aluMax, Int.max_def]
  split <;> simp

/-- DEPH's result is the immediate above the low half of the register. -/
theorem deph_eq (w a : DWord) :
    BitVec.ofNat 64 (a.toNat % 2 ^ 32 + wImm w * 2 ^ 32) = w.extractLsb' 0 32 ++ a.extractLsb' 0 32 := by
  refine BitVec.eq_of_toNat_eq ?_
  have hfld : wImm w = (w.extractLsb' 0 32).toNat := by simp [wImm, fld]
  have hlow : a.toNat % 2 ^ 32 = (a.extractLsb' 0 32).toNat := by simp
  rw [hfld, hlow, BitVec.toNat_append, BitVec.toNat_ofNat, ← Nat.shiftLeft_add_eq_or_of_lt (BitVec.isLt _), Nat.shiftLeft_eq,
    Nat.add_comm, Nat.mod_eq_of_lt]
  have := (w.extractLsb' 0 32).isLt
  have := (a.extractLsb' 0 32).isLt
  omega

/-! ## Rows -/

/-- An ALU instruction's row, from what it computes. -/
theorem aluRow_of_writesG {c : Agent → DWord → Instr} {sub cost : Nat} {f g : DWord → DWord → DWord}
    (hexec : ∀ ag w s, exec (c ag w) s = .next (s.writesG ag w (aluRow sub cost) (onRegs w g)))
    (hlisted : (subsOf 0x10).contains sub = true) (hval : ∀ a b, g a b = f a b) : Claims.AluRow c sub cost f := by
  refine computesG_of_writesG hexec (fun w ⟨hop, hsub, himm⟩ => ?_) rfl fun x w _ => hval _ _
  exact Row.admits_sub hop hsub rfl hlisted rfl (by simp [aluRow, noImm, himm])

/-- An ALUI instruction's row, from what it computes of immediates below the row's limit. -/
theorem aluiRow_of_writesG {c : Agent → DWord → Instr} {sub cost lim : Nat} {shift : Bool} {f g : DWord → DWord → DWord}
    (hexec : ∀ ag w s, exec (c ag w) s = .next (s.writesG ag w (aluiRow sub cost shift) (onImm w g)))
    (hlisted : (subsOf 0x11).contains sub = true) (hlim : shift = true → lim = 64)
    (hval : ∀ a b, (shift = true → b.toNat < 64) → g a b = f a b) : Claims.AluiRow c sub cost lim f := by
  refine computesG_of_writesG hexec (fun w ⟨hop, hsub, hb, himm⟩ => ?_) rfl fun x w ⟨_, _, _, himm⟩ => ?_
  · refine Row.admits_sub hop hsub rfl hlisted rfl ?_
    cases shift
    · simp [aluiRow, noB, hb]
    · simpa [aluiRow, noB, hb] using hlim rfl ▸ himm
  · rw [onImm, ← wSimm_eq]
    refine hval _ _ fun hshift => ?_
    rw [hlim hshift] at himm
    rwa [wSimm_toNat himm]

/-- An ALUI row without a limit. -/
theorem aluiRow_of_writesG_whole {c : Agent → DWord → Instr} {sub cost : Nat} {f g : DWord → DWord → DWord}
    (hexec : ∀ ag w s, exec (c ag w) s = .next (s.writesG ag w (aluiRow sub cost false) (onImm w g)))
    (hlisted : (subsOf 0x11).contains sub = true) (hval : ∀ a b, g a b = f a b) : Claims.AluiRow c sub cost (2 ^ 32) f :=
  aluiRow_of_writesG hexec hlisted (fun h => absurd h (by decide)) fun a b _ => hval a b

/-- A shift by an immediate: its count is the immediate itself. -/
theorem aluiRow_of_writesG_shift {c : Agent → DWord → Instr} {sub : Nat} {g : DWord → DWord → DWord} (f : DWord → Nat → DWord)
    (hexec : ∀ ag w s, exec (c ag w) s = .next (s.writesG ag w (aluiRow sub 1 true) (onImm w g)))
    (hlisted : (subsOf 0x11).contains sub = true) (hval : ∀ a b, g a b = f a (b.toNat % 64)) :
    Claims.AluiRow c sub 1 64 fun a b => f a b.toNat :=
  aluiRow_of_writesG hexec hlisted (fun _ => rfl) fun a b hb => by rw [hval, Nat.mod_eq_of_lt (hb rfl)]

theorem deph_computes : Claims.ComputesG .deph (fun w => wOp w = 0x11 ∧ wSub w = 15 ∧ wB w = 0) 1
    (fun x w => w.extractLsb' 0 32 ++ (x.greg (wA w)).extractLsb' 0 32) :=
  computesG_of_writesG (row := aluiRow 15 1 false) (fun _ _ _ => rfl)
    (fun w ⟨hop, hsub, hb⟩ => Row.admits_sub hop hsub rfl (by decide) rfl (by simp [aluiRow, noB, hb])) rfl
    fun x w _ => deph_eq w (x.greg (wA w))

/-- Settles O9, row by row. -/
theorem aluResults : Obligations.AluResults :=
  ⟨aluRow_of_writesG (g := aluAdd) (fun _ _ _ => rfl) (by decide) fun _ _ => rfl,
    aluRow_of_writesG (g := aluSub) (fun _ _ _ => rfl) (by decide) fun _ _ => rfl,
    aluRow_of_writesG (g := aluAnd) (fun _ _ _ => rfl) (by decide) fun _ _ => rfl,
    aluRow_of_writesG (g := aluOr) (fun _ _ _ => rfl) (by decide) fun _ _ => rfl,
    aluRow_of_writesG (g := aluXor) (fun _ _ _ => rfl) (by decide) fun _ _ => rfl,
    aluRow_of_writesG (fun _ _ _ => rfl) (by decide) aluShl_eq,
    aluRow_of_writesG (fun _ _ _ => rfl) (by decide) aluShr_eq,
    aluRow_of_writesG (fun _ _ _ => rfl) (by decide) aluSar_eq,
    aluRow_of_writesG (fun _ _ _ => rfl) (by decide) aluMul_eq,
    aluRow_of_writesG (g := aluMulhu) (fun _ _ _ => rfl) (by decide) fun _ _ => rfl,
    aluRow_of_writesG (fun _ _ _ => rfl) (by decide) aluMinu_eq,
    aluRow_of_writesG (fun _ _ _ => rfl) (by decide) aluMaxu_eq,
    aluRow_of_writesG (fun _ _ _ => rfl) (by decide) aluMin_eq,
    aluRow_of_writesG (fun _ _ _ => rfl) (by decide) aluMax_eq,
    aluRow_of_writesG (g := aluAndn) (fun _ _ _ => rfl) (by decide) fun _ _ => rfl,
    aluiRow_of_writesG_whole (g := aluAdd) (fun _ _ _ => rfl) (by decide) fun _ _ => rfl,
    aluiRow_of_writesG_whole (g := aluSub) (fun _ _ _ => rfl) (by decide) fun _ _ => rfl,
    aluiRow_of_writesG_whole (g := aluAnd) (fun _ _ _ => rfl) (by decide) fun _ _ => rfl,
    aluiRow_of_writesG_whole (g := aluOr) (fun _ _ _ => rfl) (by decide) fun _ _ => rfl,
    aluiRow_of_writesG_whole (g := aluXor) (fun _ _ _ => rfl) (by decide) fun _ _ => rfl,
    aluiRow_of_writesG_shift (fun a n => BitVec.ofNat 64 (a.toNat * 2 ^ n)) (fun _ _ _ => rfl) (by decide) aluShl_eq,
    aluiRow_of_writesG_shift (fun a n => BitVec.ofNat 64 (a.toNat / 2 ^ n)) (fun _ _ _ => rfl) (by decide) aluShr_eq,
    aluiRow_of_writesG_shift (fun a n => BitVec.ofInt 64 (a.toInt / 2 ^ n)) (fun _ _ _ => rfl) (by decide) aluSar_eq,
    aluiRow_of_writesG_whole (fun _ _ _ => rfl) (by decide) aluMul_eq,
    aluiRow_of_writesG_whole (g := aluMulhu) (fun _ _ _ => rfl) (by decide) fun _ _ => rfl,
    aluiRow_of_writesG_whole (fun _ _ _ => rfl) (by decide) aluMinu_eq,
    aluiRow_of_writesG_whole (fun _ _ _ => rfl) (by decide) aluMaxu_eq,
    aluiRow_of_writesG_whole (fun _ _ _ => rfl) (by decide) aluMin_eq,
    aluiRow_of_writesG_whole (fun _ _ _ => rfl) (by decide) aluMax_eq,
    aluiRow_of_writesG_whole (g := aluAndn) (fun _ _ _ => rfl) (by decide) fun _ _ => rfl,
    deph_computes⟩

end Sys2Proof.Machine
end

section
/-! Proofs of the family 05_clause_engines, the window instructions: dropping a request changes the media links too (O14). -/

namespace Sys2Proof.Machine

open Sys2Proof

/-- A request that has ended but for a long response, of which nothing is left to read. -/
def heldResponse : Request := { st := .held, again := true, rest := some { parts := [], psn := 0 } }

/-- A tile of request 0 whose fill waits on a link for its first transaction. -/
def waitingTile : Tile := { state := .filling, tenant := 0, req := 0, stage := 0, index := 0, len := 64 }

/-- Request 0 has ended but for its response, while a fill of a tile of its has yet to begin. -/
def heldBesideFill : State :=
  { State.reset with
    cle := { reqs := [(0, heldResponse)] }
    stg := { tiles := [(0, waitingTile)] }
    med := { links := [(0, { held := [{ trans := .fill 0 0, cls := .grounds, tenant := 0 }] })] } }

/-- With the last of the response the request goes, and its fill is given up (R247). -/
theorem exec_mreadDataReturn_heldBesideFill :
    ∃ t, exec (.mreadDataReturn 0 0) heldBesideFill = .next t ∧ (t.link 0).held = [] :=
  ⟨_, rfl, by decide +kernel⟩

/-- Refutes O14: where the last of a held request's long response goes out, the request is dropped, and a fill of its that has not begun
leaves its media link with it (R247), so that the media state is not as before. -/
theorem not_windowInstructions : ¬ Obligations.WindowInstructions := by
  rintro ⟨-, -, -, hlast, -⟩
  obtain ⟨t, hexec, -, hmed, -⟩ := hlast heldBesideFill 0 0 heldResponse { parts := [], psn := 0 } rfl rfl (by decide +kernel) rfl rfl
  obtain ⟨u, hexec', hheld⟩ := exec_mreadDataReturn_heldBesideFill
  rw [hexec, Host.Outcome.next.injEq] at hexec'
  rw [← hexec', State.link, hmed] at hheld
  exact absurd hheld (by decide +kernel)

end Sys2Proof.Machine
end

section
/-! Proofs of the family 05_clause_engines, messages: what POST, REPLY, NOTIFY and METER queue (O16). -/

namespace Sys2Proof.Machine

open Sys2Proof

/-! ## POST (R201) -/

/-- A POST word: only sub 2 uses a. -/
abbrev PostWord (sub : Nat) (w : DWord) : Prop :=
  wOp w = 0x50 ∧ wSub w = sub ∧ wD w = 0 ∧ (sub = 2 ∨ wA w = 0) ∧ wB w = 0 ∧ wImm w = 0

/-- A POST that fits the request's kind, the first of its clause, queues its form with g[a]. -/
theorem post_does {c : Agent → DWord → Instr} {ok : DWord → Prop} {sub : Nat} {kinds : List Nat} {ready : Request → Bool}
    {pre : State → Request → DWord → Prop} {f : State → Request → DWord → Request}
    (hexec : ∀ ag w s, exec (c ag w) s = .next (s.post ag w sub kinds ready)) (hlisted : (subsOf 0x50).contains sub = true)
    (hok : ∀ w, ok w → PostWord sub w)
    (hpre : ∀ s r w, pre s r w → r.kind ∈ kinds ∧ r.eff.post = none ∧ ready r = true)
    (hf : ∀ s r w, ok w → f s r w = Claims.onward { r with eff := { r.eff with post := some (sub, r.ctx.greg (wA w)) } }) :
    Claims.StrandDoes c ok pre f := by
  refine strandDoes_of_setReq hexec (fun w hw => ⟨?_, Profile.noConfusion⟩) fun s u i id r w hw hp _ => ?_
  · obtain ⟨hop, hsub, hd, ha, hb, himm⟩ := hok w hw
    exact xRow_admits hop hsub hlisted (by simpa [noD, noB, noImm, noA, hd, hb, himm] using ha)
  · obtain ⟨hkind, hpost, hready⟩ := hpre s r w hp
    rw [hf s r w hw, if_neg (by simpa using hkind), if_neg (by simp [hpost, hready])]
    rfl

/-- What POST queues where a is not used: g0, which reads 0. -/
theorem greg_unused {x : Ctx} {w : DWord} (ha : wA w = 0) : x.greg (wA w) = 0 := by rw [ha, Ctx.greg, if_pos rfl]

theorem postResponse_does : Claims.StrandDoes .postResponse
    (fun w => wOp w = 0x50 ∧ wSub w = 0 ∧ wD w = 0 ∧ wA w = 0 ∧ wB w = 0 ∧ wImm w = 0)
    (fun _ r _ => r.kind = 0 ∧ r.eff.post = none ∧ Claims.responseBytes r = r.len)
    (fun _ r _ => Claims.onward { r with eff := { r.eff with post := some (0, 0) } }) := by
  refine post_does (fun _ _ _ => rfl) (by decide) (fun w ⟨hop, hsub, hd, ha, hb, himm⟩ => ⟨hop, hsub, hd, .inr ha, hb, himm⟩)
    (fun _ r _ ⟨hkind, hpost, hlen⟩ => ⟨by simp [hkind], hpost, ?_⟩) (fun _ _ _ ⟨_, _, _, ha, _⟩ => by rw [greg_unused ha])
  rw [← List.sum_eq_foldl, beq_iff_eq]
  exact hlen

theorem postAck_does : Claims.StrandDoes .postAck
    (fun w => wOp w = 0x50 ∧ wSub w = 1 ∧ wD w = 0 ∧ wA w = 0 ∧ wB w = 0 ∧ wImm w = 0)
    (fun _ r _ => (r.kind = 1 ∨ r.kind = 6) ∧ r.eff.post = none)
    (fun _ r _ => Claims.onward { r with eff := { r.eff with post := some (1, 0) } }) :=
  post_does (fun _ _ _ => rfl) (by decide) (fun _ ⟨hop, hsub, hd, ha, hb, himm⟩ => ⟨hop, hsub, hd, .inr ha, hb, himm⟩)
    (fun _ _ _ ⟨hkind, hpost⟩ => ⟨by simpa using hkind, hpost, rfl⟩) (fun _ _ _ ⟨_, _, _, ha, _⟩ => by rw [greg_unused ha])

theorem postAtomic_does : Claims.StrandDoes .postAtomic
    (fun w => wOp w = 0x50 ∧ wSub w = 2 ∧ wD w = 0 ∧ wB w = 0 ∧ wImm w = 0)
    (fun _ r _ => 2 ≤ r.kind ∧ r.kind ≤ 4 ∧ r.eff.post = none)
    (fun _ r w => Claims.onward { r with eff := { r.eff with post := some (2, r.ctx.greg (wA w)) } }) :=
  post_does (fun _ _ _ => rfl) (by decide) (fun _ ⟨hop, hsub, hd, hb, himm⟩ => ⟨hop, hsub, hd, .inl rfl, hb, himm⟩)
    (fun _ _ _ ⟨hge, hle, hpost⟩ => ⟨by simp; omega, hpost, rfl⟩) (fun _ _ _ _ => rfl)

theorem postFlushack_does : Claims.StrandDoes .postFlushack
    (fun w => wOp w = 0x50 ∧ wSub w = 3 ∧ wD w = 0 ∧ wA w = 0 ∧ wB w = 0 ∧ wImm w = 0)
    (fun _ r _ => r.kind = 5 ∧ r.eff.post = none)
    (fun _ r _ => Claims.onward { r with eff := { r.eff with post := some (3, 0) } }) :=
  post_does (fun _ _ _ => rfl) (by decide) (fun _ ⟨hop, hsub, hd, ha, hb, himm⟩ => ⟨hop, hsub, hd, .inr ha, hb, himm⟩)
    (fun _ _ _ ⟨hkind, hpost⟩ => ⟨by simp [hkind], hpost, rfl⟩) (fun _ _ _ ⟨_, _, _, ha, _⟩ => by rw [greg_unused ha])

/-! ## REPLY (R170, R202) -/

theorem Issued.standardStatus {s u : State} {i : Fin 512} (h : Issued s u i) : u.standardStatus = s.standardStatus := by
  obtain ⟨-, _, _, _, _, _, rfl⟩ := h
  rfl

theorem Issued.statusReply {s u : State} {i : Fin 512} (h : Issued s u i) : u.statusReply = s.statusReply := by
  obtain ⟨-, _, _, _, _, _, rfl⟩ := h
  rfl

/-- The standard program set's STATUS is an Invoke of kind 16. -/
theorem State.kind_of_standardStatus {s : State} {r : Request} (h : s.standardStatus r = true) : r.kind = 16 := by
  simp only [State.standardStatus, Bool.and_eq_true, beq_iff_eq] at h
  exact h.1.1

/-- The first REPLY of an Invoke's clause, its words in the pad, queues the STATUS clause's own answer or the words. -/
theorem reply_does {pre : State → Request → DWord → Prop} {reply : State → Request → DWord → Nat × List DWord}
    (hpre : ∀ s r w, pre s r w → 16 ≤ r.kind ∧ Claims.gn r (wB w) ≤ 510 ∧
      (Claims.gn r (wB w) = 0 ∨ Claims.gn r (wA w) + 8 * Claims.gn r (wB w) ≤ 8192) ∧ r.eff.reply = none)
    (hreply : ∀ s r w, pre s r w → reply s r w = if s.standardStatus r then s.statusReply r else
      (wImm w, (List.range (Claims.gn r (wB w))).map fun k =>
        BitVec.ofNat 64 (leNat (r.ctx.padBytes (Claims.gn r (wA w) + 8 * k) 8)))) :
    Claims.StrandDoes .reply (fun w => wOp w = 0x51 ∧ wSub w = 0 ∧ wD w = 0 ∧ wImm w < 256) pre
      fun s r w => Claims.onward { r with eff := { r.eff with reply := some (reply s r w) } } := by
  refine strandDoes_of_setReq (fun _ _ _ => rfl) (fun w ⟨hop, hsub, hd, himm⟩ => ⟨?_, Profile.noConfusion⟩)
    fun s u i id r w _ hp hissued => ?_
  · exact xRow_admits hop hsub (by decide) (by simp [noD, hd, himm])
  · obtain ⟨hkind, hn, hpad, hnone⟩ := hpre s r w hp
    rw [hreply s r w hp, ← hissued.standardStatus, ← hissued.statusReply]
    rw [if_neg (by omega), if_neg (by simpa [Claims.gn] using fun h => hpad.resolve_left h),
      if_neg (by simpa [hnone, Claims.gn] using hn)]
    rfl

/-- STATUS of a QP of the request's tenant (R170). -/
theorem State.statusReply_ok {s : State} {r : Request} {c : Qp}
    (hqp : s.qp (if BitVec.ofNat 24 (r.args.getD 0 0).toNat = 0 then r.qpn else BitVec.ofNat 24 (r.args.getD 0 0).toNat) = some c)
    (htenant : c.tenant = r.tenant) :
    s.statusReply r = (Code.ok, [BitVec.ofNat 64 (c.lastCode * 2 ^ 24 + c.lastPsn.toNat), BitVec.ofNat 64 c.state.num,
      BitVec.ofNat 64 (durableMsn s.dur.solo c).toNat]) := by
  unfold State.statusReply nthD
  dsimp only
  rw [hqp]
  exact if_neg (not_not.2 htenant)

/-- Settles O16, instruction by instruction. -/
theorem messageInstructions : Obligations.MessageInstructions := by
  refine ⟨postResponse_does, postAck_does, postAtomic_does, postFlushack_does, ?_, fun c => ?_, ?_, ?_⟩
  · refine reply_does (fun _ _ _ ⟨_, hkind, hn, hpad, hnone⟩ => ⟨hkind, hn, hpad, hnone⟩) fun s r w ⟨hplain, _⟩ => ?_
    rw [if_neg (by simp [hplain])]
  · refine reply_does (reply := fun s _ _ => (Code.ok, _)) (fun _ _ _ ⟨hstd, hn, hnone, _⟩ => ?_)
      fun s r w ⟨hstd, _, _, hqp, htenant⟩ => ?_
    · exact ⟨(State.kind_of_standardStatus hstd).ge, by omega, .inl hn, hnone⟩
    · rw [if_pos hstd, State.statusReply_ok hqp htenant]
  · refine strandDoes_of_setReq (fun _ _ _ => rfl) (fun w ⟨hop, hsub, hd, hb, himm⟩ => ⟨?_, Profile.noConfusion⟩)
      fun s u i id r w _ ⟨hpad, hroom⟩ _ => ?_
    · exact xRow_admits hop hsub (by decide) (by simp [noD, noB, hd, hb, himm])
    · exact (if_neg (Nat.not_lt.2 hpad)).trans (if_neg (Nat.not_le.2 hroom))
  · refine strandDoes_of_setReq (fun _ _ _ => rfl) (fun w ⟨hop, hsub, hd, ha, himm⟩ => ⟨?_, Profile.noConfusion⟩)
      fun s u i id r w _ hroom _ => ?_
    · exact xRow_admits hop hsub (by decide) (by simp [noD, noA, hd, ha, himm])
    · exact if_neg (Nat.not_le.2 hroom)

end Sys2Proof.Machine
end

section
/-! Proofs of the family 05_clause_engines, ends: what a request that leaves its engine changes, and that it is gone. -/

namespace Sys2Proof.Machine

open Sys2Proof

theorem Maps.find_mapV {α β : Type} (f : Nat → α → β) (k : Nat) :
    ∀ m : Table α, Maps.find k (Maps.mapV f m) = (Maps.find k m).map (f k)
  | [] => rfl
  | (j, v) :: m => by
    have ih := Maps.find_mapV f k m
    rw [Maps.mapV] at ih
    by_cases hkj : k = j
    · subst hkj
      simp [Maps.mapV, Maps.find]
    · simp [Maps.mapV, Maps.find, hkj, ih]

theorem State.reg_bump (s : State) (off : Nat) : (s.bump off).reg off = s.reg off + 1 := s.reg_bumpBy off 1

/-! ## What leaving changes (R155, R159, R247) -/

/-- `t` comes from `s` by requests that leave their engines, with their tiles and with answers: of the media and the NAND tier the fills
given up alone have gone, and registers, the placement buffer and what is stored are as before. -/
def Dropped (s t : State) : Prop :=
  ∃ cle stg links nandReads ops trn prt,
    t = { s with cle, stg, trn, prt, med := { s.med with links, nandReads }, ntl := { s.ntl with ops } }

namespace Dropped

variable {s t u : State}

theorem refl (s : State) : Dropped s s := ⟨_, _, _, _, _, _, _, rfl⟩

theorem trans (h : Dropped s t) (h' : Dropped t u) : Dropped s u := by
  obtain ⟨_, _, _, _, _, _, _, rfl⟩ := h
  obtain ⟨_, _, _, _, _, _, _, rfl⟩ := h'
  exact ⟨_, _, _, _, _, _, _, rfl⟩

theorem reg (h : Dropped s t) (o : Nat) : t.reg o = s.reg o := by
  obtain ⟨_, _, _, _, _, _, _, rfl⟩ := h
  rfl

theorem dur (h : Dropped s t) : t.dur = s.dur := by
  obtain ⟨_, _, _, _, _, _, _, rfl⟩ := h
  rfl

theorem store (h : Dropped s t) : t.med.store = s.med.store := by
  obtain ⟨_, _, _, _, _, _, _, rfl⟩ := h
  rfl

theorem integ (h : Dropped s t) : t.integ = s.integ := by
  obtain ⟨_, _, _, _, _, _, _, rfl⟩ := h
  rfl

end Dropped

/-- The tiles of a request leave with their fills; no request changes (R247). -/
theorem State.dropTiles_eq (s : State) (id : Nat) : ∃ stg links nandReads ops,
    s.dropTiles id = { s with stg, med := { s.med with links, nandReads }, ntl := { s.ntl with ops } } := by
  have hcancel (l : List (Nat × Tile)) : ∃ stg links nandReads ops,
      l.foldl (fun (s : State) e => s.cancelFill e.1) s =
        { s with stg, med := { s.med with links, nandReads }, ntl := { s.ntl with ops } } :=
    List.foldlRecOn (motive := fun t => ∃ stg links nandReads ops,
      t = { s with stg, med := { s.med with links, nandReads }, ntl := { s.ntl with ops } }) l _ ⟨_, _, _, _, rfl⟩
      fun t ⟨_, _, _, _, ht⟩ e _ => by
        rw [ht]
        exact ⟨_, _, _, _, rfl⟩
  obtain ⟨_, _, _, _, hcancel⟩ :=
    hcancel (s.stg.tiles.filter fun e => e.2.req == id && e.2.state == .filling && !s.fillBegun e.1 e.2)
  unfold State.dropTiles
  dsimp only
  rw [hcancel]
  exact ⟨_, _, _, _, rfl⟩

/-- A strand taken from a request is no longer among those that run it. -/
theorem mem_strands_freed {l : Table (Nat × Nat)} {id : Nat} (k : Nat) (v : Nat × Nat)
    (h : (k, v) ∈ l.filter fun e => e.2.1 != id) : v.1 ≠ id := by
  simpa using (List.mem_filter.1 h).2

/-! ## A request that leaves (R146, R155, R159) -/

theorem State.dropReq_gone (s : State) (id : Nat) : Claims.RequestGone (s.dropReq id) id ∧ Dropped s (s.dropReq id) := by
  obtain ⟨_, _, _, _, htiles⟩ := s.dropTiles_eq id
  unfold State.dropReq
  rw [htiles]
  refine ⟨⟨fun r hr => ?_, fun k v => mem_strands_freed k v⟩, _, _, _, _, _, _, _, rfl⟩
  dsimp only at hr
  split at hr
  · split at hr
    · rw [Maps.find_put_same] at hr
      exact .inl (Option.some.inj hr ▸ rfl)
    · rw [Maps.find_del_same] at hr
      cases hr
  · next hnone =>
    rw [hnone] at hr
    cases hr

/-- A request of which a long response is left is held for that alone (R196). -/
theorem State.keepRest_gone (s : State) (id : Nat) {r : Request} (hrest : r.rest.isSome = true) :
    Claims.RequestGone (s.keepRest id r) id ∧ Dropped s (s.keepRest id r) := by
  obtain ⟨_, _, _, _, htiles⟩ := s.dropTiles_eq id
  unfold State.keepRest
  rw [htiles]
  refine ⟨⟨fun q hq => .inr ?_, fun k v => mem_strands_freed k v⟩, _, _, _, _, _, _, _, rfl⟩
  cases (Maps.find_put_same _ _ _).symm.trans hq
  exact ⟨rfl, hrest, rfl⟩

/-! ## The answer to a request that ended (R88, R159) -/

namespace Answered

theorem dropOutstanding (s : State) (q : BitVec 24) (o : Option Nat) : Answered s (s.dropOutstanding q o) := by
  obtain ⟨_, _, _, _, _, h, -⟩ := Released.dropOutstanding q s o
  exact ⟨_, _, h⟩

theorem nakCode (s : State) (q psn : BitVec 24) (code : Nat) : Answered s (s.nakCode q psn code) := by
  have herror (t : State) : Answered t (t.qpError q) := by
    unfold State.qpError
    split
    · exact setQp t q _
    · exact refl t
  have hfailed (t : State) : Answered t (t.markFailed q psn) := by
    unfold State.markFailed
    split
    · exact refl t
    · exact setQp t q _
  unfold State.nakCode
  split
  · exact refl s
  · next c _ =>
    have hnak := (setQp s q { c with lastCode := code, lastPsn := psn }).trans
      (release _ q { kind := Code.nak code, psn, msn := c.msn })
    dsimp only
    split
    · exact hnak
    · exact hnak.trans ((herror _).trans (hfailed _))

end Answered

/-- From `m` to `m'` the requests have lost at most their Operation Table entries. -/
def LosesEntries (m m' : Table Request) : Prop :=
  ∀ k q', Maps.find k m' = some q' → ∃ q opt, Maps.find k m = some q ∧ q' = { q with opt }

theorem LosesEntries.refl (m : Table Request) : LosesEntries m m := fun _ q hq => ⟨q, q.opt, hq, rfl⟩

theorem State.orphanPackets_eq (s : State) (o : Nat) : ∃ reqs,
    s.orphanPackets o = { s with cle := { s.cle with reqs } } ∧ LosesEntries s.cle.reqs reqs := by
  refine ⟨_, rfl, fun k q' hq' => ?_⟩
  obtain ⟨q, hq, rfl⟩ := Option.map_eq_some_iff.1 ((Maps.find_mapV _ _ _).symm.trans hq')
  by_cases hpacket : ((q.kind == 1 || q.kind == 6) && q.opt == some o) = true
  · exact ⟨q, none, hq, if_pos hpacket⟩
  · exact ⟨q, q.opt, hq, if_neg hpacket⟩

/-- An answer to an ended request changes the transport and the ports, and of other requests the entry that they share with it. -/
theorem State.answerEnded_eq (s : State) (r : Request) (code : Nat) : ∃ trn prt reqs,
    s.answerEnded r code = { s with trn, prt, cle := { s.cle with reqs } } ∧ LosesEntries s.cle.reqs reqs := by
  unfold State.answerEnded
  split
  · exact ⟨_, _, _, rfl, .refl _⟩
  · split
    · obtain ⟨_, _, h⟩ := Answered.sendMsg s r.qpn .invokeReply (replyBytes (r.bthOp % 256) code r.tag []) r.opt
      exact ⟨_, _, _, h, .refl _⟩
    · obtain ⟨trn, prt, hdrop⟩ := Answered.dropOutstanding s r.qpn r.opt
      dsimp only
      rw [hdrop]
      split
      · next o _ =>
        obtain ⟨reqs, horphan, hreqs⟩ := (({ s with trn := trn, prt := prt } : State).freeOpt o).orphanPackets_eq o
        rw [horphan]
        obtain ⟨_, _, hnak⟩ := Answered.nakCode
          { ({ s with trn := trn, prt := prt } : State).freeOpt o with cle := { s.cle with reqs := reqs } } r.qpn r.psn code
        exact ⟨_, _, _, hnak, hreqs⟩
      · obtain ⟨_, _, hnak⟩ := Answered.nakCode { s with trn := trn, prt := prt } r.qpn r.psn code
        exact ⟨_, _, _, hnak, .refl _⟩

theorem State.answerEnded_gone {s : State} {id : Nat} (h : Claims.RequestGone s id) (r : Request) (code : Nat) :
    Claims.RequestGone (s.answerEnded r code) id ∧ Dropped s (s.answerEnded r code) := by
  obtain ⟨_, _, _, heq, hreqs⟩ := s.answerEnded_eq r code
  obtain ⟨hgone, hstrands⟩ := h
  rw [heq]
  refine ⟨⟨fun q hq => ?_, hstrands⟩, _, _, _, _, _, _, _, rfl⟩
  obtain ⟨q', opt, hq', rfl⟩ := hreqs id q hq
  exact hgone q' hq'

/-- A request ended on its engine is gone, and nothing else has changed but what goes with it (R157, R159). -/
theorem State.endReq_gone {s : State} {id : Nat} {r : Request} (hr : Maps.find id s.cle.reqs = some r) (hended : r.st ≠ .ended)
    (hheld : r.st ≠ .held) (code : Nat) : Claims.RequestGone (s.endReq id code) id ∧ Dropped s (s.endReq id code) := by
  rw [State.endReq, hr]
  dsimp only
  rw [if_neg hended]
  split
  · next hrest =>
    exact s.keepRest_gone id hrest
  · obtain ⟨hgone, hdropped⟩ := s.dropReq_gone id
    obtain ⟨hgone', hanswered⟩ := State.answerEnded_gone hgone r code
    exact ⟨hgone', hdropped.trans hanswered⟩

end Sys2Proof.Machine
end

section
/-! Proofs of the family 05_clause_engines, flow: branches, calls and ABORT (O17). -/

namespace Sys2Proof.Machine

open Sys2Proof

theorem Maps.put_put {α : Type} (k : Nat) (v w : α) : ∀ m : Table α, Maps.put k v (Maps.put k w m) = Maps.put k v m
  | [] => by simp [Maps.put]
  | (j, x) :: m => by
    have ih := Maps.put_put k v w m
    rcases Nat.lt_trichotomy k j with hlt | heq | hgt
    · simp [Maps.put, hlt]
    · simp [Maps.put, heq]
    · simp [Maps.put, Nat.not_lt_of_gt hgt, Nat.ne_of_gt hgt, ih]

theorem State.setReq_setReq (s : State) (id : Nat) (q r : Request) : (s.setReq id q).setReq id r = s.setReq id r := by
  rw [State.setReq, State.setReq]
  dsimp only
  rw [Maps.put_put]
  rfl

theorem State.running_eq_some {s : State} {i : Fin 512} {id : Nat} {r : Request} :
    s.running i = some (id, r) ↔
      ∃ b, Maps.find i.val s.cle.strands = some (id, b) ∧ Maps.find id s.cle.reqs = some r := by
  unfold State.running
  constructor
  · intro h
    split at h
    · next k b hstrand =>
      split at h
      · next q hreq =>
        cases h
        exact ⟨b, hstrand, hreq⟩
      · cases h
    · cases h
  · rintro ⟨b, hstrand, hreq⟩
    rw [hstrand]
    dsimp only
    rw [hreq]

/-- A strand runs its request as it has been replaced. -/
theorem State.running_setReq {s : State} {i : Fin 512} {id : Nat} {r : Request} (h : s.running i = some (id, r)) (q : Request) :
    (s.setReq id q).running i = some (id, q) := by
  obtain ⟨b, hstrand, -⟩ := State.running_eq_some.1 h
  exact State.running_eq_some.2 ⟨b, hstrand, Maps.find_put_same _ _ _⟩

/-! ## Branches (R204) -/

section Strand

variable {s u : State} {i : Fin 512} {id : Nat} {r : Request} {w : DWord} {goal : Nat}

/-- A branch of a strand to an instruction of its image goes there. -/
theorem State.target_strand (hr : u.running i = some (id, r)) (ht : (r.ctx.pc : Int) + (wSimm w).toInt = goal)
    (hlt : goal < (u.codeOf r).length) : u.target (.strand i) w = some goal := by
  have hpc : (u.ctxOf (.strand i)).pc = r.ctx.pc := by simp [State.ctxOf, hr]
  unfold State.target
  dsimp only
  rw [hr, hpc, pcStep, Nat.cast_one, one_mul, ht]
  exact if_pos ⟨Int.natCast_nonneg _, Int.ofNat_lt.2 hlt⟩

theorem Issued.goTo (h : Issued s u i) (hr : s.running i = some (id, r)) (t : Nat) :
    u.goTo (.strand i) t = u.setReq id { r with ctx := { r.ctx with pc := t } } := by
  rw [State.goTo, h.ctxOf hr, h.setCtx hr]

theorem Issued.advance (h : Issued s u i) (hr : s.running i = some (id, r)) :
    u.advance (.strand i) = u.setReq id (Claims.onward r) := by
  rw [State.advance, h.ctxOf hr, h.setCtx hr]
  rfl

theorem Issued.target (h : Issued s u i) (hr : s.running i = some (id, r)) (ht : (r.ctx.pc : Int) + (wSimm w).toInt = goal)
    (hlt : goal < (s.codeOf r).length) : u.target (.strand i) w = some goal :=
  State.target_strand ((congrFun h.running i).trans hr) ht (by rwa [h.codeOf])

theorem Issued.branch (h : Issued s u i) (hr : s.running i = some (id, r)) (ht : (r.ctx.pc : Int) + (wSimm w).toInt = goal)
    (hlt : goal < (s.codeOf r).length) :
    Claims.OnlyRequest s (u.branch (.strand i) w) i id { r with ctx := { r.ctx with pc := goal } } := by
  rw [State.branch, h.target hr ht hlt]
  dsimp only
  rw [(h.spend 1).goTo hr]
  exact (h.spend 1).setReq _ _

theorem Issued.stackOf (h : Issued s u i) (hr : s.running i = some (id, r)) : u.stackOf (.strand i) = r.stack := by
  rw [State.stackOf, congrFun h.running i, hr]

/-- The return stack and the pc of a strand's request replaced. -/
theorem Issued.setStack_goTo (h : Issued s u i) (hr : s.running i = some (id, r)) (l : List Nat) (t : Nat) :
    Claims.OnlyRequest s ((u.setStack (.strand i) l).goTo (.strand i) t) i id { r with ctx := { r.ctx with pc := t }, stack := l } := by
  have hu : u.running i = some (id, r) := (congrFun h.running i).trans hr
  have hstack : u.setStack (.strand i) l = u.setReq id { r with stack := l } := by rw [State.setStack, hu]
  rw [hstack, State.goTo, State.ctxOf, State.setCtx, State.running_setReq hu]
  dsimp only
  rw [State.setReq_setReq]
  exact h.setReq _ _

end Strand

/-- A branch of the MCP takes a cycle more and goes to its target, which its fetch checks (R204, R210). -/
theorem Fetched.branch {s u : State} {cost : Nat} (h : Fetched s u cost) (w : DWord) :
    Claims.OnlyMcp s (u.branch .mcp w) (cost + 1) ∧
      (u.branch .mcp w).ctxOf .mcp =
        { s.ctxOf .mcp with pc := (((s.mcp.pc : Int) + 8 * (wSimm w).toInt) % 2 ^ 64).toNat } := by
  obtain ⟨_, rfl⟩ := h
  exact ⟨rfl, rfl⟩

section Both

variable {c : Agent → DWord → Instr} {ok : DWord → Prop} {row : Row} {body : Agent → DWord → State → State}

/-- An instruction that branches where `pre` holds. -/
theorem jumps_of_branch {pre : Ctx → DWord → Prop}
    (hexec : ∀ ag w s, exec (c ag w) s = .next (s.instruct ag w row (body ag w))) (hrow : ∀ w, ok w → row.Admits w)
    (hprofile : row.profile = .both) (hcost : row.cost = 1)
    (hbody : ∀ ag w u, ok w → pre (u.ctxOf ag) w → body ag w u = u.branch ag w) : Claims.Jumps c ok 2 pre := by
  refine ⟨fun s i id r w target hruns hok hpre ht hlt => ?_, fun s w hruns hok hpre => ?_⟩
  · obtain ⟨u, hissued, hop⟩ := hruns.instruct_issued (hrow w hok) (by simp [hprofile]) (body (.strand i) w)
    refine ⟨_, (hexec _ _ _).trans (congrArg _ hop), ?_⟩
    rw [hbody _ w u hok (by rwa [hissued.ctxOf hruns.running])]
    exact hissued.branch hruns.running ht hlt
  · obtain ⟨u, hfetched, hop⟩ := hruns.instruct_fetched (hrow w hok) (by simp [hprofile]) (body .mcp w)
    refine ⟨_, (hexec _ _ _).trans (congrArg _ hop), ?_⟩
    rw [hbody _ w u hok (by rwa [hfetched.ctxOf])]
    rw [hcost] at hfetched
    exact hfetched.branch w

/-- On a strand, an instruction of both profiles that changes its request alone. -/
theorem strandDoes_of_instruct {pre : State → Request → DWord → Prop} {f : State → Request → DWord → Request}
    (hexec : ∀ ag w s, exec (c ag w) s = .next (s.instruct ag w row (body ag w))) (hrow : ∀ w, ok w → row.Admits w)
    (hprofile : row.profile = .both)
    (hbody : ∀ s u i id r w, ok w → pre s r w → Issued s u i → s.running i = some (id, r) →
      Claims.OnlyRequest s (body (.strand i) w u) i id (f s r w)) : Claims.StrandDoes c ok pre f := by
  intro s i id r w hruns hok hpre
  obtain ⟨u, hissued, hop⟩ := hruns.instruct_issued (hrow w hok) (by simp [hprofile]) (body (.strand i) w)
  exact ⟨_, (hexec _ _ _).trans (congrArg _ hop), hbody s u i id r w hok hpre hissued hruns.running⟩

end Both

/-! ## NOP, BR, BRP, CALL and RET (R183, R204) -/

theorem nop_computes : Claims.ComputesG (fun ag w => .nopInstruction ag w false)
    (fun w => wOp w = 0x01 ∧ wSub w = 0 ∧ wD w = 0 ∧ wA w = 0 ∧ wB w = 0 ∧ wImm w = 0) 1 fun _ _ => 0 := by
  refine computesG_of_setCtx
    (row := { op := 0x01, subs := [0], profile := .both, cost := 1, allowed := fun w => noD w && noA w && noB w && noImm w })
    (next := fun ag _ x => { x with pc := x.pc + pcStep ag }) (fun _ _ _ => rfl)
    (fun w ⟨hop, hsub, hd, ha, hb, himm⟩ => ?_) rfl fun ag w x ⟨_, _, hd, _⟩ => ⟨fun n => ?_, fun _ => rfl, rfl⟩
  · exact Row.admits_sub hop hsub rfl (by decide) rfl (by simp [noD, noA, noB, noImm, hd, ha, hb, himm])
  · rw [if_neg (by simp [hd])]
    rfl

theorem br_jumps : Claims.Jumps .br (fun w => wOp w = 0x60 ∧ wSub w = 0 ∧ wD w = 0 ∧ wA w = 0 ∧ wB w = 0) 2 fun _ _ => True :=
  jumps_of_branch (body := fun ag w u => u.branch ag w) (fun _ _ _ => rfl)
    (fun w ⟨hop, hsub, hd, ha, hb⟩ => Row.admits_sub hop hsub rfl (by decide) rfl (by simp [noD, noA, noB, hd, ha, hb])) rfl rfl
    fun _ _ _ _ _ => rfl

/-- The word of BRP. -/
abbrev BrpWord (w : DWord) : Prop := wOp w = 0x61 ∧ wSub w = 0 ∧ wD w = 0 ∧ wB w = 0 ∧ wA w < 16

/-- The word of BRP is one of its row's. -/
theorem BrpWord.admits {w : DWord} : BrpWord w → Row.Admits
    { op := 0x61, subs := [0], profile := .both, cost := 1, allowed := fun w => noD w && noB w && wA w < 16 } w
  | ⟨hop, hsub, hd, hb, ha⟩ => Row.admits_sub hop hsub rfl (by decide) rfl (by simp [noD, noB, hd, hb, ha])

/-- Bit 3 of a BRP word's a, which inverts the predicate. -/
theorem bitOf_45_of_wA {w : DWord} (h : wA w < 16) : bitOf w 45 = decide (8 ≤ wA w) := by
  have hbit : bitOf w 45 = (wA w / 8 % 2 == 1) := by
    unfold bitOf wA fld
    norm_num
    omega
  rw [hbit]
  by_cases h8 : 8 ≤ wA w
  · simp [h8]
    omega
  · simp [h8]
    omega

/-- What BRP's body asks is what R204 says of it. -/
theorem brp_taken (x : Ctx) {w : DWord} (h : BrpWord w) :
    (x.preg (wA w % 8) != bitOf w 45) = (x.preg (wA w % 8) ^^ decide (8 ≤ wA w)) := by
  obtain ⟨-, -, -, -, ha⟩ := h
  rw [bitOf_45_of_wA ha]

theorem brp_jumps : Claims.Jumps .brp BrpWord 2 fun c w => (c.preg (wA w % 8) ^^ decide (8 ≤ wA w)) = true :=
  jumps_of_branch (fun _ _ _ => rfl) (fun _ => BrpWord.admits) rfl rfl fun ag _ u hw hpre =>
    if_pos ((brp_taken (u.ctxOf ag) hw).trans hpre)

theorem brp_falls : Claims.StrandDoes .brp BrpWord (fun _ r w => (r.ctx.preg (wA w % 8) ^^ decide (8 ≤ wA w)) = false)
    fun _ r _ => Claims.onward r :=
  strandDoes_of_instruct (fun _ _ _ => rfl) (fun _ => BrpWord.admits) rfl fun s u i id r w hw hpre hissued hr => by
    rw [if_neg, hissued.advance hr]
    · exact hissued.setReq _ _
    · rw [hissued.ctxOf hr, brp_taken _ hw, hpre]
      exact Bool.false_ne_true

theorem call_does (target : Nat) : Claims.StrandDoes .call
    (fun w => wOp w = 0x62 ∧ wSub w = 0 ∧ wD w = 0 ∧ wA w = 0 ∧ wB w = 0)
    (fun s r w => r.stack.length < 8 ∧ (r.ctx.pc : Int) + (wSimm w).toInt = target ∧ target < (s.codeOf r).length)
    fun _ r _ => { r with ctx := { r.ctx with pc := target }, stack := (r.ctx.pc + 1) :: r.stack } :=
  strandDoes_of_instruct (fun _ _ _ => rfl)
    (fun w ⟨hop, hsub, hd, ha, hb⟩ => Row.admits_sub hop hsub rfl (by decide) rfl (by simp [noD, noA, noB, hd, ha, hb])) rfl
    fun s u i id r w _ ⟨hroom, ht, hlt⟩ hissued hr => by
      rw [hissued.target hr ht hlt, hissued.stackOf hr, hissued.ctxOf hr]
      dsimp only
      rw [if_neg (Nat.not_le.2 hroom)]
      exact hissued.setStack_goTo hr _ _

theorem ret_does (top : Nat) (rest : List Nat) : Claims.StrandDoes .ret
    (fun w => wOp w = 0x63 ∧ wSub w = 0 ∧ wD w = 0 ∧ wA w = 0 ∧ wB w = 0 ∧ wImm w = 0)
    (fun _ r _ => r.stack = top :: rest) fun _ r _ => { r with ctx := { r.ctx with pc := top }, stack := rest } :=
  strandDoes_of_instruct (fun _ _ _ => rfl)
    (fun w ⟨hop, hsub, hd, ha, hb, himm⟩ =>
      Row.admits_sub hop hsub rfl (by decide) rfl (by simp [noD, noA, noB, noImm, hd, ha, hb, himm])) rfl
    fun s u i id r w _ hstack hissued hr => by
      rw [hissued.stackOf hr, hstack]
      exact hissued.setStack_goTo hr _ _

/-! ## ABORT (R157) -/

theorem abort_gives : Claims.StrandGives .abort
    (fun w => wOp w = 0x67 ∧ wSub w = 0 ∧ wD w = 0 ∧ wA w = 0 ∧ wB w = 0 ∧ wImm w < 256)
    (fun _ _ r _ => r.st ≠ .ended ∧ r.st ≠ .held)
    (fun s t id _ _ => Claims.RequestGone t id ∧ t.reg Reg.CLE_CNT_ABORT = s.reg Reg.CLE_CNT_ABORT + 1 ∧ t.dur.pb = s.dur.pb ∧
      t.med.store = s.med.store) := by
  refine strandGives_of_body (fun _ _ _ => rfl) (fun w ⟨hop, hsub, hd, ha, hb, himm⟩ => ⟨?_, Profile.noConfusion⟩)
    fun s u i id r w _ ⟨hended, hheld⟩ hissued hr => ?_
  · exact Row.admits_sub hop hsub rfl (by decide) rfl (by simp [noD, noA, noB, hd, ha, hb, himm])
  · obtain ⟨b, -, hreq⟩ := State.running_eq_some.1 hr
    obtain ⟨hgone, hdropped⟩ := State.endReq_gone (s := u.bump Reg.CLE_CNT_ABORT) (id := id) (r := r)
      (by rw [State.bump_cle, hissued.reqs, hreq]) hended hheld (Code.ofAbort (wImm w))
    refine ⟨hgone, ?_, ?_, ?_⟩
    · rw [hdropped.reg, State.reg_bump, hissued.reg]
    · rw [hdropped.dur, State.bump_dur, hissued.dur]
    · rw [hdropped.store, State.bump_med, hissued.med]

/-- Settles O17, instruction by instruction. -/
theorem flowInstructions : Obligations.FlowInstructions :=
  ⟨nop_computes, br_jumps, brp_jumps, brp_falls,
    fun _ _ _ _ _ target hruns hop hsub hd ha hb hroom ht hlt =>
      call_does target _ _ _ _ _ hruns ⟨hop, hsub, hd, ha, hb⟩ ⟨hroom, ht, hlt⟩,
    ret_does, abort_gives⟩

end Sys2Proof.Machine
end

section
/-! Proofs of the family 05_clause_engines, yields: a segment that ends, and the wake of one that waits for a time (O18). -/

namespace Sys2Proof.Machine

open Sys2Proof

/-- A segment that yields ends, and its request waits as given; a MEDIA wait is noted in the request (R144, R149, R150). -/
theorem Issued.segmentEnds {s u : State} {i : Fin 512} (h : Issued s u i) (id : Nat) (r : Request) (st : ReqState)
    (mediaDue : Bool) : Claims.SegmentEnds s (u.yieldTo id { r with mediaDue } st) id r st where
  request := ⟨_, Maps.find_put_same _ _ _, rfl, rfl, rfl, rfl, rfl, rfl, rfl, rfl⟩
  strand k v := mem_strands_freed k v
  others k hk := (Maps.find_put_other _ hk _).trans (by rw [h.reqs])
  rest := by
    obtain ⟨-, _, _, _, _, _, rfl⟩ := h
    rfl

theorem Issued.segmentEnds_same {s u : State} {i : Fin 512} (h : Issued s u i) (id : Nat) (r : Request) (st : ReqState) :
    Claims.SegmentEnds s (u.yieldTo id r st) id r st := h.segmentEnds id r st r.mediaDue

/-! ## YIELD and YIELD.W (R149, R150, R205) -/

/-- A word of YIELD.W, of which a row that does not use a has it 0. -/
theorem waitRow_admits {sub : Nat} {w : DWord} (hop : wOp w = 0x65) (hsub : wSub w = sub)
    (hlisted : (subsOf 0x65).contains sub = true) (hd : wD w = 0) (ha : sub = 2 ∨ sub = 4 ∨ wA w = 0) (hb : wB w = 0)
    (himm : wImm w = 0) : (waitRow sub).Admits w :=
  xRow_admits hop hsub hlisted (by simpa [noD, noA, noB, noImm, hd, hb, himm, or_assoc] using ha)

theorem yield_gives : Claims.StrandGives .yield
    (fun w => wOp w = 0x64 ∧ wSub w = 0 ∧ wD w = 0 ∧ wA w = 0 ∧ wB w = 0 ∧ wImm w = 0) (fun _ _ _ _ => True)
    fun s t id r _ => Claims.SegmentEnds s t id r .wakes :=
  strandGives_of_body (fun _ _ _ => rfl)
    (fun w ⟨hop, hsub, hd, ha, hb, himm⟩ =>
      ⟨Row.admits_sub hop hsub rfl (by decide) rfl (by simp [yieldRow, noD, noA, noB, noImm, hd, ha, hb, himm]), Profile.noConfusion⟩)
    fun _ _ _ id r _ _ _ hissued _ => hissued.segmentEnds_same id r .wakes

/-- A YIELD.W that does not use a, and whose body ends the segment. -/
theorem yieldW_gives {c : Agent → DWord → Instr} {sub : Nat} {body : State → Fin 512 → Nat → Request → State}
    {st : State → ReqState} (hexec : ∀ ag w s, exec (c ag w) s = .next (s.clauseOp ag w (waitRow sub) body))
    (hlisted : (subsOf 0x65).contains sub = true)
    (hbody : ∀ s u i id r, Issued s u i → Claims.SegmentEnds s (body u i id r) id r (st s)) :
    Claims.StrandGives c (fun w => wOp w = 0x65 ∧ wSub w = sub ∧ wD w = 0 ∧ wA w = 0 ∧ wB w = 0 ∧ wImm w = 0)
      (fun _ _ _ _ => True) fun s t id r _ => Claims.SegmentEnds s t id r (st s) :=
  strandGives_of_body (body := fun _ => body) hexec
    (fun _ ⟨hop, hsub, hd, ha, hb, himm⟩ =>
      ⟨waitRow_admits hop hsub hlisted hd (.inr (.inr ha)) hb himm, Profile.noConfusion⟩)
    fun s u i id r _ _ _ hissued _ => hbody s u i id r hissued

theorem yieldWTime_gives : Claims.StrandGives .yieldWTime
    (fun w => wOp w = 0x65 ∧ wSub w = 4 ∧ wD w = 0 ∧ wB w = 0 ∧ wImm w = 0) (fun _ _ _ _ => True)
    fun s t id r w =>
      Claims.SegmentEnds s t id r (.waiting (.time (min (Claims.gn r (wA w)) (s.now + 3000))) (s.now + 1)) :=
  strandGives_of_body (fun _ _ _ => rfl)
    (fun w ⟨hop, hsub, hd, hb, himm⟩ =>
      ⟨waitRow_admits hop hsub (by decide) hd (.inr (.inl rfl)) hb himm, Profile.noConfusion⟩)
    fun _ _ _ id r _ _ _ hissued _ => by
      rw [← hissued.now]
      exact hissued.segmentEnds_same id r _

/-! ## The cursor (R225) -/

/-- A cursor moved to a stage not behind it stands there; the registers but for the tile handles are as before. -/
theorem State.moveCursor_spec {s : State} {id k : Nat} {r : Request} {p : Pour} (hp : r.pour = some p) (hk : p.cursor ≤ k) :
    ∃ pour handles, (s.moveCursor id r k).1 = { r with pour := some pour, ctx := { r.ctx with t := handles } } ∧ pour.cursor = k := by
  unfold State.moveCursor
  rw [hp]
  dsimp only
  split
  · next hle => exact ⟨p, r.ctx.t, by rw [← hp], Nat.le_antisymm hk hle⟩
  · exact ⟨_, _, rfl, rfl⟩

theorem yieldWStage_gives (k : Nat) : Claims.StrandGives .yieldWStage
    (fun w => wOp w = 0x65 ∧ wSub w = 2 ∧ wD w = 0 ∧ wB w = 0 ∧ wImm w = 0)
    (fun _ _ r w => Claims.gn r (wA w) = k ∧ ∃ p st, r.pour = some p ∧ p.stages[k]? = some st ∧ st.failed = none ∧ p.cursor ≤ k)
    fun _ t id r _ => ∃ r' p, Maps.find id t.cle.reqs = some r' ∧ r'.st = .waiting (.stage k) (t.now + 1) ∧
      r'.pour = some p ∧ p.cursor = k ∧ r'.ctx.pc = r.ctx.pc + 1 ∧ r'.ctx.g = r.ctx.g ∧ r'.stack = [] ∧
      ∀ n v, (n, v) ∈ t.cle.strands → v.1 ≠ id := by
  refine strandGives_of_body (fun _ _ _ => rfl) (fun w ⟨hop, hsub, hd, hb, himm⟩ =>
    ⟨waitRow_admits hop hsub (by decide) hd (.inl rfl) hb himm, Profile.noConfusion⟩)
    fun s u i id r w _ ⟨hgn, p, st, hpour, hstage, hfailed, hcursor⟩ _ _ => ?_
  obtain ⟨pour, handles, hreq, hpos⟩ := u.moveCursor_spec (id := id) hpour hcursor
  have hk : (r.ctx.greg (wA w)).toNat = k := hgn
  dsimp only
  rw [hk, hpour]
  dsimp only
  rw [hstage]
  dsimp only
  rw [hfailed]
  dsimp only
  rw [hreq]
  exact ⟨_, pour, Maps.find_put_same _ _ _, rfl, rfl, hpos, rfl, rfl, rfl, fun n v => mem_strands_freed n v⟩

/-! ## TIME_WAKE (R150) -/

theorem exec_timeWake {s : State} {req at' due : Nat} {r : Request} (hr : Maps.find req s.cle.reqs = some r)
    (hst : r.st = .waiting (.time at') due) (hat : at' ≤ s.now) :
    ∃ t, exec (.timeWake req) s = .next t ∧ Maps.find req t.cle.reqs = some { r with st := .wakes } ∧
      (∀ k, k ≠ req → Maps.find k t.cle.reqs = Maps.find k s.cle.reqs) ∧ t = { s with cle := { s.cle with reqs := t.cle.reqs } } := by
  refine ⟨s.setReq req { r with st := .wakes }, ?_, Maps.find_put_same _ _ _, fun k hk => Maps.find_put_other _ hk _, rfl⟩
  change execTimeWake req s = _
  unfold execTimeWake
  rw [hr]
  dsimp only
  rw [hst]
  dsimp only
  rw [if_pos hat]

/-- Settles O18, instruction by instruction. -/
theorem yields : Obligations.Yields := by
  refine ⟨yield_gives, ?_, ?_, yieldWStage_gives, ?_, yieldWTime_gives,
    fun _ _ _ _ _ hr hst hat => exec_timeWake hr hst hat⟩
  · exact yieldW_gives (fun _ _ _ => rfl) (by decide) fun _ _ _ id r hissued => hissued.segmentEnds_same id r .wakes
  · refine yieldW_gives (st := fun s => .waiting .media (s.now + 1)) (fun _ _ _ => rfl) (by decide) fun s u i id r hissued => ?_
    rw [← hissued.now]
    exact hissued.segmentEnds id r _ true
  · refine yieldW_gives (st := fun s => .waiting .fence (s.now + 1)) (fun _ _ _ => rfl) (by decide) fun s u i id r hissued => ?_
    rw [← hissued.now]
    exact hissued.segmentEnds_same id r _

end Sys2Proof.Machine
end

section
/-! Proofs of the family 05_clause_engines, engines: overruns, the caches' invalidation, fences and restarts (O22). -/

namespace Sys2Proof.Machine

open Sys2Proof

/-! ## TRAP_OVERRUN (R158, R163) -/

/-- A trap counted and shown, before it ends its request (R158). -/
def State.trapShown (s : State) (i : Fin 512) (r : Request) (t : Trap) : State :=
  let u := (s.bump Reg.CLE_CNT_TRAP).setReg Reg.CLE_LAST_TRAP (BitVec.ofNat 32 (t.code * 2 ^ 24 + t.ends * 2 ^ 16 + i.val))
  let u := u.setReg Reg.CLE_LAST_TRAP_PC (BitVec.ofNat 32 (r.slot.getD 0 * 2 ^ 26 + r.ctx.pc))
  { u with cle := { u.cle with lastTrapWin := r.win } }

theorem State.trap_eq (s : State) (i : Fin 512) (id : Nat) (r : Request) (t : Trap) :
    s.trap i id r t = (s.trapShown i r t).endReq id t.ends := rfl

theorem State.reg_congr {s t : State} (h : t.bar = s.bar) (o : Nat) : t.reg o = s.reg o := by
  rw [State.reg, h, State.reg]

section Trap

variable (s : State) (i : Fin 512) (r : Request) (t : Trap)

theorem State.trapShown_eq : ∃ v w lastTrapWin, s.trapShown i r t =
    { ((s.bump Reg.CLE_CNT_TRAP).setReg Reg.CLE_LAST_TRAP v).setReg Reg.CLE_LAST_TRAP_PC w with
      cle := { (((s.bump Reg.CLE_CNT_TRAP).setReg Reg.CLE_LAST_TRAP v).setReg Reg.CLE_LAST_TRAP_PC w).cle with lastTrapWin } } :=
  ⟨_, _, _, rfl⟩

theorem State.reqs_trapShown : (s.trapShown i r t).cle.reqs = s.cle.reqs := by
  obtain ⟨_, _, _, heq⟩ := s.trapShown_eq i r t
  rw [heq]
  dsimp only
  rw [State.setReg_cle, State.setReg_cle, State.bump_cle]

theorem State.bar_trapShown : ∃ v w,
    (s.trapShown i r t).bar = (((s.bump Reg.CLE_CNT_TRAP).setReg Reg.CLE_LAST_TRAP v).setReg Reg.CLE_LAST_TRAP_PC w).bar := by
  obtain ⟨v, w, _, heq⟩ := s.trapShown_eq i r t
  exact ⟨v, w, by rw [heq]⟩

theorem State.reg_trapShown_count : (s.trapShown i r t).reg Reg.CLE_CNT_TRAP = s.reg Reg.CLE_CNT_TRAP + 1 := by
  obtain ⟨_, _, hbar⟩ := s.bar_trapShown i r t
  rw [State.reg_congr hbar, State.reg_setReg_other _ _ (by decide), State.reg_setReg_other _ _ (by decide), State.reg_bump]

theorem State.reg_trapShown_other {o : Nat} (hcount : o ≠ Reg.CLE_CNT_TRAP) (hlast : o ≠ Reg.CLE_LAST_TRAP)
    (hpc : o ≠ Reg.CLE_LAST_TRAP_PC) : (s.trapShown i r t).reg o = s.reg o := by
  obtain ⟨_, _, hbar⟩ := s.bar_trapShown i r t
  rw [State.reg_congr hbar, State.reg_setReg_other _ _ hpc, State.reg_setReg_other _ _ hlast, State.bump,
    State.reg_bumpBy_other _ _ hcount]

end Trap

/-- A trap ends the request, and changes nothing besides that does not go with it or show the trap (R158, R159). -/
theorem State.trap_gone {s : State} {i : Fin 512} {id : Nat} {r : Request} (hr : Maps.find id s.cle.reqs = some r)
    (hended : r.st ≠ .ended) (hheld : r.st ≠ .held) (t : Trap) :
    Claims.RequestGone (s.trap i id r t) id ∧ Dropped (s.trapShown i r t) (s.trap i id r t) := by
  rw [State.trap_eq]
  exact State.endReq_gone (by rw [State.reqs_trapShown, hr]) hended hheld _

theorem exec_trapOverrun {s : State} {strand : Fin 512} {id : Nat} {r : Request} (hr : s.running strand = some (id, r))
    (hover : s.overran strand = true) (hended : r.st ≠ .ended) (hheld : r.st ≠ .held) :
    ∃ t, exec (.trapOverrun strand) s = .next t ∧ Claims.RequestGone t id ∧
      t.reg Reg.CLE_CNT_OVERRUN = s.reg Reg.CLE_CNT_OVERRUN + 1 ∧ t.reg Reg.CLE_CNT_TRAP = s.reg Reg.CLE_CNT_TRAP + 1 ∧
      (0x0B, strand.val) ∈ t.integ.reports := by
  obtain ⟨b, -, hreq⟩ := State.running_eq_some.1 hr
  refine ⟨s.overrun strand, rfl, ?_⟩
  unfold State.overrun
  rw [if_neg (by simp [hover]), hr]
  dsimp only
  obtain ⟨u, hu⟩ : ∃ u : State, u = { s.bump Reg.CLE_CNT_OVERRUN with
    cle := { (s.bump Reg.CLE_CNT_OVERRUN).cle with
      overruns := Maps.put (strand.val / 8) (Maps.getD s.cle.overruns (strand.val / 8) 0 + 1) (s.bump Reg.CLE_CNT_OVERRUN).cle.overruns } } :=
    ⟨_, rfl⟩
  have hcounted (o : Nat) : u.reg o = (s.bump Reg.CLE_CNT_OVERRUN).reg o := by
    rw [hu]
    rfl
  rw [← hu]
  obtain ⟨hgone, hdropped⟩ := State.trap_gone (s := u) (i := strand) (id := id) (r := r)
    (by rw [hu]; dsimp only; rw [State.bump_cle, hreq]) hended hheld .overrun
  have hover' : (u.trap strand id r .overrun).reg Reg.CLE_CNT_OVERRUN = s.reg Reg.CLE_CNT_OVERRUN + 1 := by
    rw [hdropped.reg, State.reg_trapShown_other _ _ _ _ (by decide) (by decide) (by decide), hcounted, State.reg_bump]
  have htrap : (u.trap strand id r .overrun).reg Reg.CLE_CNT_TRAP = s.reg Reg.CLE_CNT_TRAP + 1 := by
    rw [hdropped.reg, State.reg_trapShown_count, hcounted, State.bump, State.reg_bumpBy_other _ _ (by decide)]
  split
  · exact ⟨hgone, hover', htrap, by simp [State.report]⟩
  · exact ⟨hgone, hover', htrap, by simp [State.report]⟩

/-! ## The end of the invalidation of the instruction caches (R175) -/

theorem exec_icacheInvalidationDone (s : State) :
    ∃ t, exec .icacheInvalidationDone s = .next t ∧ t.getB Reg.CLE_STATUS 17 = true ∧
      (∀ o, o ≠ Reg.CLE_STATUS → t.reg o = s.reg o) ∧ t = { s with bar := t.bar, cle := { s.cle with icache := [] } } :=
  ⟨({ s with cle := { s.cle with icache := [] } } : State).setB Reg.CLE_STATUS 17 true, rfl,
    State.getB_setB_same _ _ _ (by decide), fun _ ho => State.reg_setB_other _ _ _ ho, rfl⟩

/-! ## ENGINE_FENCE (R177) -/

theorem bitOf_setBit_same {n i : Nat} (w : BitVec n) (b : Bool) (h : i < n) : bitOf (setBit w i b) i = b :=
  bitOf_setFld_same w b h

theorem bitOf_or {n : Nat} (v w : BitVec n) (i : Nat) : bitOf (v ||| w) i = (bitOf v i || bitOf w i) := by
  simp only [bitOf_eq_testBit, BitVec.toNat_or, Nat.testBit_or]

/-- The segment of request `id` has been discarded without effect. -/
def Discarded (t : State) (id : Nat) : Prop := ∃ r, Maps.find id t.cle.reqs = some r ∧ r.st = .discarded ∧ r.eff = {}

/-- A discarded request waits for its restart; of the others, and of the fences, nothing changes. -/
theorem State.toRestart_spec (s : State) (id : Nat) :
    (∃ stg med ntl reqs strands, s.toRestart id = { s with stg, med, ntl, cle := { s.cle with reqs, strands } }) ∧
      (∀ k, k ≠ id → Maps.find k (s.toRestart id).cle.reqs = Maps.find k s.cle.reqs) ∧
      ∀ r, Maps.find id s.cle.reqs = some r → Discarded (s.toRestart id) id := by
  obtain ⟨_, _, _, _, htiles⟩ := s.dropTiles_eq id
  unfold State.toRestart
  rw [htiles]
  dsimp only
  split
  · next hnone =>
    refine ⟨⟨_, _, _, _, _, rfl⟩, fun _ _ => rfl, fun r hr => ?_⟩
    rw [hnone] at hr
    cases hr
  · exact ⟨⟨_, _, _, _, _, rfl⟩, fun k hk => Maps.find_put_other _ hk _,
      fun _ _ => ⟨_, Maps.find_put_same _ _ _, rfl, rfl⟩⟩

theorem Discarded.toRestart {t : State} {id : Nat} (h : Discarded t id) (k : Nat) : Discarded (t.toRestart k) id := by
  obtain ⟨-, hothers, hsame⟩ := t.toRestart_spec k
  obtain ⟨r, hr, hst, heff⟩ := h
  by_cases hk : id = k
  · exact hk ▸ hsame r (hk ▸ hr)
  · exact ⟨r, (hothers id hk).trans hr, hst, heff⟩

/-- Every request of a list discarded in turn is discarded. -/
theorem discarded_of_mem {id : Nat} {r : Request} (l : List Nat) (hmem : id ∈ l) :
    ∀ s : State, Maps.find id s.cle.reqs = some r → Discarded (l.foldl State.toRestart s) id := by
  induction l with
  | nil => cases hmem
  | cons k l ih =>
    intro s hr
    obtain ⟨-, hothers, hsame⟩ := s.toRestart_spec k
    by_cases hk : id = k
    · have hdiscarded : Discarded (s.toRestart k) id := hk ▸ hsame r (hk ▸ hr)
      exact List.foldlRecOn (motive := fun t : State => Discarded t id) l _ hdiscarded fun t ht j _ => ht.toRestart j
    · exact ih ((List.mem_cons.1 hmem).resolve_left hk) _ ((hothers id hk).trans hr)

/-- Discarding requests leaves the fences. -/
theorem fences_foldl_toRestart (l : List Nat) (s : State) :
    (l.foldl State.toRestart s).fencedEngines = s.fencedEngines ∧ (l.foldl State.toRestart s).cle.fenceDue = s.cle.fenceDue :=
  List.foldlRecOn (motive := fun t : State => t.fencedEngines = s.fencedEngines ∧ t.cle.fenceDue = s.cle.fenceDue) l _ ⟨rfl, rfl⟩
    fun t ht k _ => by
      obtain ⟨⟨_, _, _, _, _, heq⟩, -⟩ := t.toRestart_spec k
      rw [heq]
      exact ht

/-- An engine newly fenced has its segments discarded (R177). -/
theorem State.fence_spec {s : State} {e : Nat} (he : e < 64) (hfree : bitOf s.fencedEngines e = false) :
    bitOf (s.fence e).fencedEngines e = true ∧ (s.fence e).cle.fenceDue = s.cle.fenceDue ∧
      ∀ id r, id ∈ s.onEngine e → Maps.find id s.cle.reqs = some r → Discarded (s.fence e) id := by
  obtain ⟨raised, hraised⟩ : ∃ u : State, u = { s with cle := { s.cle with fencing := setBit s.cle.fencing e true } } := ⟨_, rfl⟩
  obtain ⟨done, hdone⟩ : ∃ u : State, u = (s.onEngine e).foldl State.toRestart raised := ⟨_, rfl⟩
  obtain ⟨hfenced, hdue⟩ := fences_foldl_toRestart (s.onEngine e) raised
  have hset : bitOf done.fencedEngines e = true := by
    rw [hdone, hfenced, State.fencedEngines, bitOf_or, hraised]
    dsimp only
    rw [bitOf_setBit_same _ _ he, Bool.or_true]
  have hsame : done.cle.fenceDue = s.cle.fenceDue := by rw [hdone, hdue, hraised]
  have hdiscarded : ∀ id r, id ∈ s.onEngine e → Maps.find id s.cle.reqs = some r → Discarded done id := fun id r hid hr => by
    rw [hdone]
    exact discarded_of_mem _ hid raised (by rw [hraised]; exact hr)
  have hfence : s.fence e = if 8 < popCount done.fencedEngines.toNat 64 then
      done.report 0x0D (popCount done.fencedEngines.toNat 64) else done := by
    rw [State.fence, if_neg (Bool.eq_false_iff.1 hfree), hdone, hraised]
    rfl
  rw [hfence]
  split
  · exact ⟨hset, hsame, hdiscarded⟩
  · exact ⟨hset, hsame, hdiscarded⟩

theorem exec_engineFence {s : State} {e : Fin 64} (hdue : bitOf s.cle.fenceDue e.val = true)
    (hfree : bitOf s.fencedEngines e.val = false) :
    ∃ t, exec (.engineFence e) s = .next t ∧ bitOf t.fencedEngines e.val = true ∧ bitOf t.cle.fenceDue e.val = false ∧
      ∀ id r, id ∈ s.onEngine e.val → Maps.find id s.cle.reqs = some r → Discarded t id := by
  obtain ⟨u, hu⟩ : ∃ u : State, u = { s with cle := { s.cle with fenceDue := setBit s.cle.fenceDue e false } } := ⟨_, rfl⟩
  obtain ⟨hset, hsame, hdiscarded⟩ := State.fence_spec (s := u) e.isLt (by rw [hu]; exact hfree)
  refine ⟨u.fence e, ?_, hset, ?_, fun id r hid hr => hdiscarded id r (by rw [hu]; exact hid) (by rw [hu]; exact hr)⟩
  · change execEngineFence e s = _
    rw [execEngineFence, if_neg (by simp [hdue]), hu]
  · rw [hsame, hu]
    exact bitOf_setBit_same _ _ e.isLt

/-! ## REQUEST_RESTART (R178) -/

/-- A request of cluster `c` as it restarts: in the next cluster that has an engine, with a frame of its there. -/
def State.restarting (s : State) (r : Request) (c : Nat) : Request :=
  if s.liveCluster c = c then r else { r with cluster := some (s.liveCluster c), frame := s.freeFrame (s.liveCluster c) }

theorem State.restarting_spec (s : State) {r : Request} {c : Nat} (hc : r.cluster = some c) :
    (s.restarting r c).cluster = some (s.liveCluster c) ∧ (s.restarting r c).ctx = r.ctx := by
  unfold State.restarting
  split
  · next hlive => exact ⟨by rw [hlive, hc], rfl⟩
  · exact ⟨rfl, rfl⟩

theorem exec_requestRestart_eq {s : State} {id c : Nat} {r : Request} (hr : Maps.find id s.cle.reqs = some r)
    (hst : r.st = .discarded) (hc : r.cluster = some c) :
    exec (.requestRestart id) s = .next ((s.nextOrder.2.setReq id
      { s.restarting r c with st := .restart s.cle.order }).bump Reg.CLE_CNT_RESTART) := by
  change execRequestRestart id s = _
  unfold execRequestRestart
  rw [hr]
  dsimp only
  split
  · next c' _ hc' =>
    cases hc.symm.trans hc'
    rfl
  · next hother => exact absurd hc (hother c hst)

theorem exec_requestRestart {s : State} {id c : Nat} {r : Request} (hr : Maps.find id s.cle.reqs = some r)
    (hst : r.st = .discarded) (hc : r.cluster = some c) :
    ∃ t r', exec (.requestRestart id) s = .next t ∧ Maps.find id t.cle.reqs = some r' ∧ r'.st = .restart s.cle.order ∧
      r'.cluster = some (s.liveCluster c) ∧ r'.ctx = r.ctx ∧ t.reg Reg.CLE_CNT_RESTART = s.reg Reg.CLE_CNT_RESTART + 1 := by
  obtain ⟨hcluster, hctx⟩ := s.restarting_spec hc
  refine ⟨_, { s.restarting r c with st := .restart s.cle.order }, exec_requestRestart_eq hr hst hc, ?_, rfl, hcluster, hctx,
    State.reg_bump _ _⟩
  rw [State.bump_cle]
  exact Maps.find_put_same _ _ _

/-- Settles O22, event by event. -/
theorem engineEvents : Obligations.EngineEvents :=
  ⟨fun _ _ _ _ hr hover hended hheld => exec_trapOverrun hr hover hended hheld, exec_icacheInvalidationDone,
    fun _ _ hdue hfree => exec_engineFence hdue hfree, fun _ _ _ _ hr hst hc => exec_requestRestart hr hst hc⟩

end Sys2Proof.Machine
end

section
/-! Proofs of the family 05_clause_engines, MATOMs issued: a MATOM's record, and the read of its line (for O15). -/

namespace Sys2Proof.Machine

open Sys2Proof

/-! ## Reads of lines leave the engines and the poison marks (R227, R269, R363) -/

theorem State.poison_issueFor (s : State) (m : Nat) (cls : Cls) (tenant : Nat) (t : MTrans) :
    (s.issueFor m cls tenant t).med.poison = s.med.poison :=
  (congrArg (fun t : State => t.med.poison) (s.besideMedia_issueFor m cls tenant t) :)

theorem State.poison_queueNand (s : State) (o : NandOpRec) : (s.queueNand o).med.poison = s.med.poison := by
  unfold State.queueNand State.pumpNand
  dsimp only
  split
  · rfl
  · exact (congrArg (fun t : State => t.med.poison) (State.besideMedia_takeSlots _ _ _ _ _ _) :)

theorem State.poison_wantNand (s : State) (page : Nat) (want : NandWant) : (s.wantNand page want).med.poison = s.med.poison := by
  unfold State.wantNand State.askNand
  split
  · rfl
  · split
    · rfl
    · exact (foldl_unchanged (view := fun t : State => t.med.poison) (fun t _ => t.poison_queueNand _) _ _ :)

/-- The read of a line that is not Poisoned. -/
theorem State.readLine_clean {s : State} {line : Nat} (h : Maps.has s.med.poison line = false) (req : Option Nat) :
    (s.readLine line req).cle = s.cle ∧ (s.readLine line req).med.poison = s.med.poison := by
  unfold State.readLine
  rw [if_neg (by simp [h])]
  split
  · exact ⟨((KeepsWork.refl s).issueFor _ _ _ _).cle, s.poison_issueFor _ _ _ _⟩
  · exact ⟨((KeepsWork.refl s).wantNand _ _).cle, s.poison_wantNand _ _⟩
  · exact ⟨rfl, rfl⟩

theorem State.readRange_clean {s : State} {a n : Nat} (h : ∀ l ∈ linesOf a n, Maps.has s.med.poison l = false) (req : Option Nat) :
    (s.readRange a n req).cle = s.cle := by
  refine (List.foldlRecOn (motive := fun t : State => t.cle = s.cle ∧ t.med.poison = s.med.poison) (linesOf a n) _ ⟨rfl, rfl⟩
    fun t ⟨hcle, hpoison⟩ l hl => ?_).1
  split
  · exact ⟨hcle, hpoison⟩
  · obtain ⟨hcle', hpoison'⟩ := State.readLine_clean (s := t) (line := l) (by rw [hpoison]; exact h l hl) req
    exact ⟨hcle'.trans hcle, hpoison'.trans hpoison⟩

/-! ## MATOMs issued (R155, R198) -/

/-- The record of a MATOM that begins now. -/
abbrev matomRecord (s : State) (r : Request) (w : DWord) (sub size ops : Nat) : MAtom :=
  let a := (s.window r.win).pnaBase + Claims.gn r (wA w) / size * size
  { sub, off := Claims.gn r (wA w) / size * size, d := wD w, pos := r.matoms.length, seq := s.cle.order
    ops := (List.range ops).map (fun k => r.ctx.greg (wB w + k)), pna := a, read := !s.inNand (a / 16384) }

theorem State.accessTrap_eq_none {s : State} {r : Request} {off n right : Nat} (h : Claims.allowed s r off n right) :
    s.accessTrap r off n right = none := by
  obtain ⟨hin, hright⟩ := h
  unfold State.accessTrap
  rw [if_neg (by simp; omega), if_neg (by simp [hright])]

/-- A MATOM row's word is one of its row's. -/
theorem matomRow_admits {w : DWord} {sub : Nat} (hop : wOp w = 0x42) (hsub : wSub w = sub) (hlisted : (subsOf 0x42).contains sub = true)
    (himm : wImm w = 0) (hb : wB w + matomOps sub ≤ 32) (hd : sub = 4 → wD w ≤ 30) : (matomRow sub).Admits w := by
  refine xRow_admits hop hsub hlisted ?_
  by_cases h4 : sub = 4
  · simp [noImm, himm, hb, hd h4]
  · simp [noImm, himm, hb, h4]

/-- A MATOM on a strand, of a row of `ops` operands and `size` bytes. -/
theorem matomRow_gives {c : Agent → DWord → Instr} {sub : Nat} (hexec : ∀ ag w s, exec (c ag w) s = .next (s.matom ag w sub))
    (hlisted : (subsOf 0x42).contains sub = true) : Claims.MatomRow c sub (matomSize sub) (matomOps sub) := by
  refine strandGives_of_body (row := fun _ => matomRow sub) (fun ag w s => hexec ag w s)
    (fun w ⟨hop, hsub, himm, hb, hd⟩ => ⟨matomRow_admits hop hsub hlisted himm hb hd, by simp [matomRow, xRow]⟩)
    fun s u i id r w _ ⟨hallowed, hlogged, hrepeated, hclean⟩ hissued _ => ?_
  have htrap : u.accessTrap r ((r.ctx.greg (wA w)).toNat / matomSize sub * matomSize sub) (matomSize sub) 2 = none := by
    refine State.accessTrap_eq_none ?_
    rw [Claims.allowed, hissued.window]
    exact hallowed
  have hfresh : r.logged.find? (fun x => x.pos == r.matoms.length) = none := by rw [hlogged, List.find?_nil]
  have hrepeat : Maps.find r.matoms.length r.repeated = none := by rw [hrepeated, Maps.find]
  dsimp only
  rw [htrap]
  dsimp only
  rw [hfresh, hrepeat]
  dsimp only
  refine ⟨{ r with ctx := { r.ctx with pc := r.ctx.pc + 1 }, matoms := r.matoms ++ [matomRecord s r w sub (matomSize sub) (matomOps sub)] },
    ?_, rfl, rfl⟩
  obtain ⟨-, _, _, _, _, _, rfl⟩ := hissued
  split
  · exact Maps.find_put_same _ _ _
  · refine (congrArg (fun x => Maps.find id x.reqs) (State.readRange_clean ?_ _)).trans ?_
    · exact hclean
    · exact Maps.find_put_same _ _ _

theorem cas8_row : Claims.MatomRow .cas8 0 8 2 := matomRow_gives (fun _ _ _ => rfl) (by decide)
theorem fadd8_row : Claims.MatomRow .fadd8 1 8 1 := matomRow_gives (fun _ _ _ => rfl) (by decide)
theorem swap8_row : Claims.MatomRow .swap8 2 8 1 := matomRow_gives (fun _ _ _ => rfl) (by decide)
theorem mask8_row : Claims.MatomRow .mask8 3 8 2 := matomRow_gives (fun _ _ _ => rfl) (by decide)
theorem cas16_row : Claims.MatomRow .cas16 4 16 4 := matomRow_gives (fun _ _ _ => rfl) (by decide)
theorem write8_row : Claims.MatomRow .write8 5 8 1 := matomRow_gives (fun _ _ _ => rfl) (by decide)

end Sys2Proof.Machine
end

section
/-! Proofs of the family 05_clause_engines, MATOM bytes: what a MATOM makes of the bytes at its address, and the line that reads as
overlaid once it has been Accepted (for O15). -/

namespace Sys2Proof.Machine

open Sys2Proof

/-! ## Little-endian numbers (R6) -/

theorem leNat_lt : ∀ l : List Byte, leNat l < 256 ^ l.length
  | [] => by simp [leNat]
  | b :: l => by
    have ih := leNat_lt l
    have hb := b.isLt
    rw [leNat, List.length_cons, Nat.pow_succ]
    omega

theorem leBytes_mod : ∀ n v : Nat, leBytes (v % 256 ^ n) n = leBytes v n
  | 0, _ => rfl
  | n + 1, v => by
    have hlow : BitVec.ofNat 8 (v % 256 ^ (n + 1)) = BitVec.ofNat 8 v := by
      rw [← BitVec.toNat_inj, BitVec.toNat_ofNat, BitVec.toNat_ofNat]
      exact Nat.mod_mod_of_dvd v (Dvd.intro_left (256 ^ n) rfl)
    have hhigh : v % 256 ^ (n + 1) / 256 = v / 256 % 256 ^ n := by
      rw [Nat.pow_succ', Nat.mod_mul_right_div_self]
    rw [leBytes, leBytes, hlow, hhigh, leBytes_mod n]

/-- Eight bytes as a register's value. -/
theorem leNat_eq_toNat_iff {l : List Byte} (h : l.length = 8) (x : DWord) : leNat l = x.toNat ↔ BitVec.ofNat 64 (leNat l) = x := by
  have hlt : leNat l < 2 ^ 64 := by
    have := leNat_lt l
    rwa [h] at this
  rw [← BitVec.toNat_inj, BitVec.toNat_ofNat, Nat.mod_eq_of_lt hlt]

theorem toNat_ofNat_leNat {l : List Byte} (h : l.length = 8) : (BitVec.ofNat 64 (leNat l)).toNat = leNat l :=
  ((leNat_eq_toNat_iff h _).2 rfl).symm

/-! ## Bytes of a range, bytes of a line (R360, R363) -/

theorem State.readBytes_eq_map (s : State) : ∀ n a : Nat, s.readBytes a n = (List.range n).map fun k => s.byteAt (a + k)
  | 0, _ => rfl
  | n + 1, a => by
    rw [State.readBytes, State.readBytes_eq_map s n, List.range_succ_eq_map, List.map_cons, List.map_map, Nat.add_zero]
    congr 1
    exact List.map_congr_left fun k _ => by rw [Function.comp_apply, Nat.succ_eq_add_one, Nat.add_right_comm, Nat.add_assoc]

@[simp] theorem State.readBytes_length (s : State) (a n : Nat) : (s.readBytes a n).length = n := by
  simp [State.readBytes_eq_map]

theorem State.take_readBytes (s : State) {k n : Nat} (h : k ≤ n) (a : Nat) : (s.readBytes a n).take k = s.readBytes a k := by
  rw [State.readBytes_eq_map, State.readBytes_eq_map, ← List.map_take, List.take_range, Nat.min_eq_left h]

theorem nthD_overlay {line : Nat} {base bytes : List Byte} {a i : Nat} (hi : i < 64) : nthD (overlay line base a bytes) i 0 =
    if a ≤ line * 64 + i ∧ line * 64 + i < a + bytes.length then nthD bytes (line * 64 + i - a) 0 else nthD base i 0 := by
  simp [nthD, overlay, upTo, hi]

/-- Bytes written within a line are read from it. -/
theorem State.readBytes_of_overlay {s : State} {a : Nat} {base bytes : List Byte} (hfit : a % 64 + bytes.length ≤ 64)
    (hline : s.lineBytes (lineOf a) = overlay (lineOf a) base a bytes) : s.readBytes a bytes.length = bytes := by
  rw [State.readBytes_eq_map]
  refine List.ext_getElem (by simp) fun k hk hk' => ?_
  have hlineOf : lineOf (a + k) = lineOf a := by
    unfold lineOf
    omega
  rw [List.getElem_map, List.getElem_range, State.byteAt, hlineOf, hline, nthD_overlay (Nat.mod_lt _ (by decide))]
  unfold lineOf
  rw [if_pos (by omega), nthD, show a / 64 * 64 + (a + k) % 64 - a = k by omega, List.getD_eq_getElem _ _ hk']

/-- The newest entry of a line, which holds plaintext, is what reads see. -/
theorem State.lineBytes_of_pb {s : State} {pb : List PbEntry} {e : PbEntry} (h : s.dur.pb = pb ++ [e]) (hcipher : e.cipher = false) :
    s.lineBytes e.line = e.data := by
  have hnewest : s.newest e.line = some e := by
    rw [State.newest, h, List.reverse_append, List.reverse_singleton, List.singleton_append, List.find?_cons_of_pos (by simp)]
  rw [State.lineBytes, hnewest]
  dsimp only
  rw [State.entryPlain, if_neg (by simp [hcipher])]

/-! ## What a MATOM makes of the old bytes (R198) -/

theorem matomNew_length {sub : Nat} (ops : List DWord) {old : List Byte} (h : old.length = matomSize sub) :
    (matomNew sub ops old).length = matomSize sub := by
  unfold matomNew
  dsimp only
  split
  · split
    · exact leBytes_length _ _
    · exact h
  · exact leBytes_length _ _
  · exact leBytes_length _ _
  · exact leBytes_length _ _
  · split
    · simp [matomSize]
    · exact h
  · next _ _ _ _ h4 => exact (leBytes_length _ _).trans (if_neg h4).symm

/-- The new bytes are those that the row's words say. -/
theorem matomNew_eq {m : MAtom} (hsub : m.sub < 6) {old : List Byte} (h : old.length = matomSize m.sub) :
    matomNew m.sub m.ops old = Claims.matomBytes m old := by
  obtain ⟨sub, _, ops, _, _, _, _, _, _, _, _, _⟩ := m
  dsimp only at hsub h ⊢
  unfold matomNew Claims.matomBytes
  dsimp only
  have hlow : (old.take 8).length = 8 := by
    rw [List.length_take, h]
    unfold matomSize
    split
    · rfl
    · rfl
  match sub with
  | 0 => simp only [leNat_eq_toNat_iff hlow, nthD]
  | 1 =>
    have hsum : (BitVec.ofNat 64 (leNat (old.take 8)) + nthD ops 0 0).toNat = (leNat (old.take 8) + (nthD ops 0 0).toNat) % 256 ^ 8 := by
      rw [BitVec.toNat_add, toNat_ofNat_leNat hlow, show 256 ^ 8 = 2 ^ 64 by norm_num]
    exact ((congrArg (leBytes · 8) hsum).trans (leBytes_mod 8 _)).symm
  | 2 => rfl
  | 3 => rfl
  | 4 =>
    have hhigh : (old.drop 8).length = 8 := by rw [List.length_drop, h]; rfl
    simp only [leNat_eq_toNat_iff hlow, leNat_eq_toNat_iff hhigh, nthD, Bool.and_eq_true, decide_eq_true_eq]
  | 5 => rfl

end Sys2Proof.Machine
end

section
/-! Proofs of the family 05_clause_engines, MATOMs accepted: what a performed MATOM leaves in the placement buffer, of its request, on
its QP and in the outcome log (O15). -/

namespace Sys2Proof.Machine

open Sys2Proof

/-! ## A line Accepted on a QP (R350, R351, R357) -/

/-- What a performed MATOM changes: the requests, the transport, the placement buffer and the outcome log. -/
abbrev State.workView (s : State) : Table Request × Trn × List PbEntry × List Outcome := (s.cle.reqs, s.trn, s.dur.pb, s.dur.outcomes)

theorem State.workView_takeSlots (s : State) (n e k : Nat) (cls : Cls) (tenant : Nat) :
    (s.takeSlots n e k cls tenant).workView = s.workView :=
  (congrArg State.workView (s.besideMedia_takeSlots n e k cls tenant) :)

theorem State.workView_issueFor (s : State) (m : Nat) (cls : Cls) (tenant : Nat) (t : MTrans) :
    (s.issueFor m cls tenant t).workView = s.workView :=
  (congrArg State.workView (s.besideMedia_issueFor m cls tenant t) :)

theorem State.workView_mapPage (s : State) (cls : Cls) (page : Nat) : (s.mapPage cls page).workView = s.workView := by
  have hjournal := congrArg State.workView (s.besideMedia_journalFor cls ((s.pageTenant page).getD 0)
    [(Tbl.page, page), (Tbl.frame, s.emptiestStack * 2 ^ 26 + s.lowFrame s.emptiestStack)])
  unfold State.mapPage
  dsimp only
  generalize s.journalFor cls _ _ = x at hjournal ⊢
  exact hjournal

/-- `t` comes from `s` by one line Accepted on a QP, whose context was `c`. -/
structure LineAccepted (s t : State) (qpn : BitVec 24) (c : Qp) (line : Nat) (data : List Byte) : Prop where
  reqs : ∀ id, Maps.find id t.cle.reqs = (Maps.find id s.cle.reqs).map (Request.markStale [line])
  qp : ∃ c', t.qp qpn = some c' ∧ c'.acc = c.acc + 1
  pb : ∃ e, t.dur.pb = s.dur.pb ++ [e] ∧ e.line = line ∧ e.data = data ∧ e.cipher = false
  outcomes : t.dur.outcomes = s.dur.outcomes

theorem State.noteWrites_view (s : State) (lines : List Nat) :
    (s.noteWrites lines).workView =
      (Maps.mapV (fun _ r => r.markStale lines) s.cle.reqs, s.trn, s.dur.pb, s.dur.outcomes) := by
  have hstamp := foldl_unchanged (view := State.workView) (f := State.stampPage)
    (fun t page => by
      obtain ⟨_, h⟩ := t.stampPage_eq page
      rw [h]) (dedup (lines.map pageOfLine)) s
  simp only [State.workView, Prod.mk.injEq] at hstamp
  obtain ⟨hreqs, htrn, hpb, houtcomes⟩ := hstamp
  unfold State.noteWrites
  dsimp only
  rw [hreqs, htrn, hpb, houtcomes]

/-- The state that a write event's entries join: its slot taken, its pages mapped and its lines noted. -/
theorem State.noteWrites_mapped (s : State) (tenant : Nat) (cls : Cls) (pages lines : List Nat) :
    ((pages.foldl (fun t p => t.mapPage cls p) (s.takeSlots 80 (s.slotsTaken 80) 1 cls tenant)).noteWrites lines).workView =
      (Maps.mapV (fun _ r => r.markStale lines) s.cle.reqs, s.trn, s.dur.pb, s.dur.outcomes) := by
  have hmapped := (foldl_unchanged (view := State.workView) (fun t p => t.workView_mapPage cls p) pages _).trans
    (s.workView_takeSlots 80 (s.slotsTaken 80) 1 cls tenant)
  simp only [State.workView, Prod.mk.injEq] at hmapped
  obtain ⟨hreqs, htrn, hpb, houtcomes⟩ := hmapped
  rw [State.noteWrites_view, hreqs, htrn, hpb, houtcomes]

theorem State.accept_line {s : State} {qpn : BitVec 24} {c : Qp} (hqp : s.qp qpn = some c) (tenant : Nat) (cls : Cls) (msn : Nat)
    (intent : Option Nat) (line : Nat) (data : List Byte) :
    LineAccepted s (s.accept qpn tenant cls msn intent [(line, data)]) qpn c line data := by
  obtain ⟨lines, hlines⟩ : ∃ lines, lines = [(line, data)] := ⟨_, rfl⟩
  have hview (pages : List Nat) := s.noteWrites_mapped tenant cls pages (lines.map Prod.fst)
  rw [← hlines]
  unfold State.accept
  dsimp only
  specialize hview ((dedup (lines.map fun l => pageOfLine l.1)).filter (s.takeSlots 80 (s.slotsTaken 80) 1 cls tenant).unwritten)
  generalize State.noteWrites _ (lines.map Prod.fst) = u at hview ⊢
  simp only [State.workView, Prod.mk.injEq] at hview
  obtain ⟨hreqs, htrn, hpb, houtcomes⟩ := hview
  have huqp : u.qp qpn = some c := by rw [State.qp, htrn]; exact hqp
  rw [huqp, hqp, hlines]
  exact {
    reqs := fun id => (congrArg (Maps.find id) hreqs).trans (by rw [hlines]; exact Maps.find_mapV _ _ _)
    qp := ⟨_, State.qp_setQp u qpn _, rfl⟩
    pb := ⟨_, congrArg (· ++ [_]) hpb, rfl, rfl, rfl⟩
    outcomes := houtcomes }

/-! ## Frames to the twin, and the outcome log (R367, R369) -/

theorem State.workView_pumpTwinOne (s : State) (one : Bool) : (s.pumpTwinOne one).workView = s.workView := by
  have hsent (t : State) (seq : Nat) (f : TwinFrame) : (t.noteSent one seq f).workView = t.workView := by
    unfold State.noteSent
    split
    · rfl
    · rfl
  unfold State.pumpTwinOne
  dsimp only
  split
  · rfl
  · split
    · rfl
    · rw [hsent, State.workView_takeSlots]
      cases one
      · rfl
      · rfl

theorem State.workView_ship (s : State) (cls : Cls) (tenant : Nat) (f : TwinFrame) : (s.ship cls tenant f).workView = s.workView := by
  unfold State.ship State.sendFor
  dsimp only
  split
  · rfl
  · rw [State.workView_pumpTwinOne]
    cases s.pickBundle false
    · rfl
    · rfl

/-- One entry more in the outcome log, and of the rest nothing. -/
theorem State.workView_logOutcome (s : State) (r : Request) (m : MAtom) (orig : List DWord) :
    ∃ o, (s.logOutcome r m orig).workView = (s.cle.reqs, s.trn, s.dur.pb, s.dur.outcomes ++ [o]) := by
  unfold State.logOutcome
  dsimp only
  split
  · exact ⟨_, State.workView_issueFor _ _ _ _ _⟩
  · exact ⟨_, State.workView_ship _ _ _ _⟩

section LogOutcome

variable (s : State) (r : Request) (m : MAtom) (orig : List DWord)

theorem State.reqs_logOutcome : (s.logOutcome r m orig).cle.reqs = s.cle.reqs :=
  (s.workView_logOutcome r m orig).elim fun _ h => congrArg Prod.fst h

theorem State.qp_logOutcome (q : BitVec 24) : (s.logOutcome r m orig).qp q = s.qp q :=
  (s.workView_logOutcome r m orig).elim fun _ h => congrArg (fun v : _ × Trn × _ => Maps.find q.toNat v.2.1.qps) h

theorem State.pb_logOutcome : (s.logOutcome r m orig).dur.pb = s.dur.pb :=
  (s.workView_logOutcome r m orig).elim fun _ h => congrArg (fun v => v.2.2.1) h

theorem State.length_outcomes_logOutcome : (s.logOutcome r m orig).dur.outcomes.length = s.dur.outcomes.length + 1 :=
  (s.workView_logOutcome r m orig).elim fun _ h => (congrArg (List.length ·.2.2.2) h).trans List.length_append

end LogOutcome

/-! ## A MATOM performed (R155, R198, R366) -/

/-- The ASEQ of a plain atomic: the request's MATOMs and the QP's ACC stay. -/
theorem State.giveAseq_gives {s : State} {id : Nat} {r : Request} (hr : Maps.find id s.cle.reqs = some r) :
    (∃ q, Maps.find id (s.giveAseq id).cle.reqs = some q ∧ q.st = r.st ∧ q.matoms = r.matoms ∧ q.logged = r.logged) ∧
      (∀ q c, s.qp q = some c → ∃ c', (s.giveAseq id).qp q = some c' ∧ c'.acc = c.acc) ∧ (s.giveAseq id).dur = s.dur := by
  unfold State.giveAseq
  rw [hr]
  dsimp only
  split
  · exact ⟨⟨r, hr, rfl, rfl, rfl⟩, fun _ c hc => ⟨c, hc, rfl⟩, rfl⟩
  · split
    · exact ⟨⟨r, hr, rfl, rfl, rfl⟩, fun _ c hc => ⟨c, hc, rfl⟩, rfl⟩
    · next c hc =>
      refine ⟨⟨_, Maps.find_put_same _ _ _, rfl, rfl, rfl⟩, fun q c' hc' => ?_, rfl⟩
      by_cases hq : q.toNat = r.qpn.toNat
      · obtain rfl := BitVec.eq_of_toNat_eq hq
        cases hc.symm.trans hc'
        exact ⟨_, Maps.find_put_same _ _ _, rfl⟩
      · exact ⟨c', (Maps.find_put_other _ hq _).trans hc', rfl⟩

/-- A request's MATOM as it is when the one at `pos` has found `orig` and has been performed. -/
def MAtom.performed (pos : Nat) (orig : List DWord) (x : MAtom) : MAtom := if x.pos = pos then { x with accepted := true, orig } else x

theorem MAtom.of_mem_map_performed {pos : Nat} {orig : List DWord} {l : List MAtom} {x : MAtom}
    (hx : x ∈ l.map (MAtom.performed pos orig)) (hpos : x.pos = pos) : x.accepted = true ∧ x.orig = orig := by
  obtain ⟨y, -, rfl⟩ := List.mem_map.1 hx
  unfold MAtom.performed at hpos ⊢
  split
  · exact ⟨rfl, rfl⟩
  · next hne =>
    rw [if_neg hne] at hpos
    exact absurd hpos hne

/-- The old value at a MATOM's address, as its record keeps it. -/
abbrev State.matomOrig (s : State) (m : MAtom) : List DWord :=
  let old := s.readBytes m.pna (matomSize m.sub)
  if matomSize m.sub = 16 then [BitVec.ofNat 64 (leNat (old.take 8)), BitVec.ofNat 64 (leNat (old.drop 8))]
  else [BitVec.ofNat 64 (leNat old)]

/-- The old value's low half is that of the first eight bytes at the address. -/
theorem State.matomOrig_low (s : State) (m : MAtom) : ((s.matomOrig m).getD 0 0).toNat = leNat (s.readBytes m.pna 8) := by
  have hlow : (BitVec.ofNat 64 (leNat (s.readBytes m.pna 8))).toNat = leNat (s.readBytes m.pna 8) :=
    toNat_ofNat_leNat (s.readBytes_length m.pna 8)
  by_cases h4 : m.sub = 4
  · rw [State.matomOrig, matomSize, if_pos h4, if_pos rfl, s.take_readBytes (by decide)]
    exact hlow
  · rw [State.matomOrig, matomSize, if_neg h4, if_neg (by decide)]
    exact hlow

/-- The line of a MATOM with its new bytes. -/
abbrev State.matomLine (s : State) (m : MAtom) : List Byte :=
  overlay (lineOf m.pna) (s.readBytes (lineOf m.pna * 64) 64) m.pna
    (matomNew m.sub m.ops (s.readBytes m.pna (matomSize m.sub)))

/-- `t` comes from `s` by a MATOM of request `id` performed. -/
structure MatomPerformed (s t : State) (id : Nat) (r : Request) (m : MAtom) (c : Qp) : Prop where
  request : ∃ q, Maps.find id t.cle.reqs = some q ∧ q.matoms = r.matoms.map (MAtom.performed m.pos (s.matomOrig m)) ∧
    q.logged = r.logged.map (MAtom.performed m.pos (s.matomOrig m))
  qp : ∃ c', t.qp r.qpn = some c' ∧ c'.acc = c.acc + 1
  pb : ∃ e, t.dur.pb = s.dur.pb ++ [e] ∧ e.line = lineOf m.pna ∧ e.data = s.matomLine m ∧ e.cipher = false
  outcomes : t.dur.outcomes.length = s.dur.outcomes.length + 1

/-- The line Accepted, the ASEQ given, the request's record marked and the outcome logged. -/
theorem State.perform_eq {s : State} {id : Nat} {r q : Request} {m : MAtom}
    (hq : Maps.find id ((s.accept r.qpn r.tenant r.cls r.msn.toNat none [(lineOf m.pna, s.matomLine m)]).giveAseq id).cle.reqs = some q)
    (hst : q.st ≠ .ended) : s.perform id r m =
      (((s.accept r.qpn r.tenant r.cls r.msn.toNat none [(lineOf m.pna, s.matomLine m)]).giveAseq id).setReq id
        { q with matoms := q.matoms.map (MAtom.performed m.pos (s.matomOrig m))
                 logged := q.logged.map (MAtom.performed m.pos (s.matomOrig m)) }).logOutcome q m (s.matomOrig m) := by
  unfold State.perform
  dsimp only
  rw [hq]
  dsimp only
  rw [State.updReq_live hq hst]
  rfl

theorem State.perform_performed {s : State} {id : Nat} {r : Request} (m : MAtom) {c : Qp} (hr : Maps.find id s.cle.reqs = some r)
    (hst : r.st ≠ .ended) (hqp : s.qp r.qpn = some c) : MatomPerformed s (s.perform id r m) id r m c := by
  obtain ⟨hreqs, ⟨c', hc', hacc⟩, hpb, houtcomes⟩ :=
    State.accept_line hqp r.tenant r.cls r.msn.toNat none (lineOf m.pna) (s.matomLine m)
  have hstale := (hreqs id).trans (congrArg (Option.map (Request.markStale [lineOf m.pna])) hr)
  obtain ⟨⟨q, hfind, hqst, hmatoms, hlogged⟩, hqps, hdur⟩ := State.giveAseq_gives hstale
  obtain ⟨c'', hc'', hacc'⟩ := hqps _ _ hc'
  rw [State.perform_eq hfind (by rw [hqst]; exact hst)]
  generalize State.giveAseq _ id = u at hc'' hdur ⊢
  exact {
    request := by
      rw [State.reqs_logOutcome]
      exact ⟨_, Maps.find_put_same _ _ _, congrArg (List.map _) hmatoms, congrArg (List.map _) hlogged⟩
    qp := ⟨c'', by rw [State.qp_logOutcome]; exact hc'', hacc'.trans hacc⟩
    pb := by
      rw [State.pb_logOutcome]
      rw [← hdur] at hpb
      exact hpb
    outcomes := by
      rw [State.length_outcomes_logOutcome]
      rw [← hdur] at houtcomes
      exact congrArg (List.length · + 1) houtcomes }

/-- The bytes at the address of a performed MATOM. -/
theorem MatomPerformed.readBytes {s t : State} {id : Nat} {r : Request} {m : MAtom} {c : Qp} (h : MatomPerformed s t id r m c)
    (hsub : m.sub < 6) (halign : m.pna % matomSize m.sub = 0) :
    t.readBytes m.pna (matomSize m.sub) = Claims.matomBytes m (s.readBytes m.pna (matomSize m.sub)) := by
  obtain ⟨e, hpb, hline, hdata, hcipher⟩ := h.pb
  have hlen := matomNew_length m.ops (s.readBytes_length m.pna (matomSize m.sub))
  have hfit : m.pna % 64 + matomSize m.sub ≤ 64 := by
    by_cases h4 : m.sub = 4
    · rw [matomSize, if_pos h4] at halign ⊢
      omega
    · rw [matomSize, if_neg h4] at halign ⊢
      omega
  have hread : t.lineBytes (lineOf m.pna) = s.matomLine m := by rw [← hline, State.lineBytes_of_pb hpb hcipher, hdata]
  rw [← matomNew_eq hsub (s.readBytes_length _ _)]
  exact (congrArg (t.readBytes m.pna) hlen.symm).trans (State.readBytes_of_overlay (by rw [hlen]; exact hfit) hread)

/-- A MATOM that nothing holds up is performed (R155, R358). -/
theorem matomAccepted_performs {s : State} {req index : Nat} {r : Request} {m : MAtom} (hr : Maps.find req s.cle.reqs = some r)
    (hm : (r.matoms ++ r.logged).find? (fun x => x.pos == index && x.due) = some m) (hread : m.read = true)
    (hpending : s.readsPending req m.pna (matomSize m.sub) = false) (hbehind : s.matomBehind (lineOf m.pna) m.seq = false)
    (hfit : s.newPagesFit r.tenant [pageOf m.pna] = true) (hroom : s.pbRoom r.cls 1 = true) :
    exec (.matomAccepted req index) s = .next (s.perform req r m) := by
  change execMatomAccepted req index s = _
  unfold execMatomAccepted
  rw [hr]
  dsimp only
  rw [hm]
  dsimp only
  rw [if_neg (by simp [hread, hpending, hbehind]), if_neg (by simp [hfit]), if_neg (by simp [hroom])]

/-- Settles O15: each row appends its record, and a performed MATOM is the newest entry of its line, read back byte by byte. -/
theorem matomInstructions : Obligations.MatomInstructions := by
  refine ⟨cas8_row, fadd8_row, swap8_row, mask8_row, cas16_row, write8_row,
    fun s req index r m c hr hm hst hsub hread hqp ⟨halign, hpending, hbehind, hfit, hroom⟩ => ?_⟩
  have hperformed := State.perform_performed m hr hst hqp
  refine ⟨_, matomAccepted_performs hr hm hread hpending hbehind hfit hroom, hperformed.readBytes hsub halign, ?_,
    hperformed.qp, hperformed.outcomes⟩
  obtain ⟨q, hrequest, hmatoms, hlogged⟩ := hperformed.request
  refine ⟨q, hrequest, fun x hx hpos => ?_⟩
  rw [hmatoms, hlogged, ← List.map_append] at hx
  obtain ⟨haccepted, horig⟩ := MAtom.of_mem_map_performed hx hpos
  exact ⟨haccepted, by rw [horig, State.matomOrig_low]⟩

end Sys2Proof.Machine
end

section
/-! Proofs of the family 06_ausum_reference, compares and predicates: the CMP, CMPI and PLOG rows (O10). -/

namespace Sys2Proof.Machine

open Sys2Proof

/-! ## Instructions that write a predicate (R184, R188) -/

/-- `v` written into p[d] (R184). -/
theorem Ctx.writesP_setP (x : Ctx) (d : Nat) (v : Bool) (pc : Nat) : Claims.WritesP x { x.setP d v with pc := pc } d v pc where
  p := x.preg_setP d v
  g := x.greg_setP d v
  rest := by
    unfold Ctx.setP
    split
    · rfl
    · rfl

/-- A register record that WritesP allows is the MCP's own: the MCP has no other context. -/
theorem State.writesP_setCtx_mcp {s u : State} {x : Ctx} {d pc : Nat} {v : Bool} (h : Claims.WritesP (s.ctxOf .mcp) x d v pc) :
    Claims.WritesP (s.ctxOf .mcp) ((u.setCtx .mcp x).ctxOf .mcp) d v pc := by
  obtain ⟨hp, hg, hrest⟩ := h
  refine ⟨hp, hg, ?_⟩
  rw [hrest]
  rfl

/-- An instruction of both profiles, in one cycle, that writes `f` into p[d] and goes on. -/
theorem computesP_of_writesP {c : Agent → DWord → Instr} {ok : DWord → Prop} {row : Row} {f : Ctx → DWord → Bool}
    {g : DWord → Ctx → Bool} (hexec : ∀ ag w s, exec (c ag w) s = .next (s.writesP ag w row (g w)))
    (hrow : ∀ w, ok w → row.Admits w) (hprofile : row.profile = .both) (hcost : row.cost = 1) (hd : ∀ w, ok w → wD w < 8)
    (hval : ∀ x w, ok w → g w x = f x w) : Claims.ComputesP c ok f := by
  have hnext (ag : Agent) (x : Ctx) (w : DWord) (hok : ok w) : Claims.WritesP x
      { x.setP (wD w % 8) (g w x) with pc := x.pc + pcStep ag } (wD w) (f x w) (x.pc + pcStep ag) := by
    rw [Nat.mod_eq_of_lt (hd w hok), hval x w hok]
    exact x.writesP_setP _ _ _
  refine ⟨fun s i id r w hruns hok => ?_, fun s w hruns hok => ?_⟩
  · obtain ⟨u, hissued, hop⟩ := hruns.instruct_issued (hrow w hok) (by simp [hprofile]) fun u =>
      u.setCtx (.strand i) { (u.ctxOf (.strand i)).setP (wD w % 8) (g w (u.ctxOf (.strand i))) with
        pc := (u.ctxOf (.strand i)).pc + pcStep (.strand i) }
    rw [hissued.ctxOf hruns.running, hissued.setCtx hruns.running] at hop
    exact ⟨_, _, (hexec _ _ _).trans (congrArg _ hop), hissued.setReq _ _, rfl, hnext (.strand i) r.ctx w hok⟩
  · obtain ⟨u, hfetched, hop⟩ := hruns.instruct_fetched (hrow w hok) (by simp [hprofile]) fun u =>
      u.setCtx .mcp { (u.ctxOf .mcp).setP (wD w % 8) (g w (u.ctxOf .mcp)) with pc := (u.ctxOf .mcp).pc + pcStep .mcp }
    rw [hfetched.ctxOf] at hop
    exact ⟨_, (hexec _ _ _).trans (congrArg _ hop), hcost ▸ hfetched.setCtx _,
      State.writesP_setCtx_mcp (hnext .mcp (s.ctxOf .mcp) w hok)⟩

/-! ## Rows -/

/-- A CMP row, from what it computes of both registers. -/
theorem cmpRow_of_writesP {c : Agent → DWord → Instr} {sub : Nat} {f g : DWord → DWord → Bool}
    (hexec : ∀ ag w s, exec (c ag w) s = .next (s.writesP ag w (cmpRow sub) fun x => g (x.greg (wA w)) (x.greg (wB w))))
    (hlisted : (subsOf 0x12).contains sub = true) (hval : ∀ a b, g a b = f a b) : Claims.CmpRow c sub f :=
  computesP_of_writesP hexec
    (fun _ ⟨hop, hsub, hd, himm⟩ => Row.admits_sub hop hsub rfl hlisted rfl (by simp [cmpRow, noImm, hd, himm])) rfl rfl
    (fun _ ⟨_, _, hd, _⟩ => hd) fun _ _ _ => hval _ _

/-- A CMPI row, from what it computes of a register and the immediate. -/
theorem cmpiRow_of_writesP {c : Agent → DWord → Instr} {sub : Nat} {f g : DWord → DWord → Bool}
    (hexec : ∀ ag w s, exec (c ag w) s = .next (s.writesP ag w (cmpiRow sub) fun x => g (x.greg (wA w)) (wSimm w)))
    (hlisted : (subsOf 0x13).contains sub = true) (hval : ∀ a b, g a b = f a b) : Claims.CmpiRow c sub f :=
  computesP_of_writesP hexec
    (fun _ ⟨hop, hsub, hd, hb⟩ => Row.admits_sub hop hsub rfl hlisted rfl (by simp [cmpiRow, noB, hd, hb])) rfl rfl
    (fun _ ⟨_, _, hd, _⟩ => hd) fun _ w _ => by rw [← wSimm_eq, hval]

/-- A PLOG row on two predicates. -/
theorem plogRow_of_writesP {c : Agent → DWord → Instr} {sub : Nat} {f : Bool → Bool → Bool}
    (hexec : ∀ ag w s, exec (c ag w) s = .next (s.writesP ag w (plogRow sub) fun x => f (x.preg (wA w)) (x.preg (wB w))))
    (hlisted : (subsOf 0x14).contains sub = true) : Claims.PlogRow c sub f :=
  computesP_of_writesP hexec
    (fun _ ⟨hop, hsub, hd, ha, hb, himm⟩ =>
      Row.admits_sub hop hsub rfl hlisted rfl (by simp [plogRow, noImm, hd, ha, hb, himm])) rfl rfl
    (fun _ ⟨_, _, hd, _⟩ => hd) fun _ _ _ => rfl

theorem p2g_computes : Claims.ComputesG .p2g (fun w => wOp w = 0x14 ∧ wSub w = 4 ∧ wA w < 8 ∧ wB w = 0 ∧ wImm w = 0) 1
    (fun x w => if x.preg (wA w) then 1 else 0) :=
  computesG_of_writesG
    (row := { op := 0x14, subs := [4], profile := .both, cost := 1, allowed := fun w => wA w < 8 && noB w && noImm w })
    (fun _ _ _ => rfl)
    (fun _ ⟨hop, hsub, ha, hb, himm⟩ => Row.admits_sub hop hsub rfl (by decide) rfl (by simp [noB, noImm, ha, hb, himm])) rfl
    fun _ _ _ => rfl

/-! ## Conditions (R188) -/

theorem cmpEq_eq (a b : DWord) : cmpEq a b = decide (a = b) := rfl

theorem cmpNe_eq (a b : DWord) : cmpNe a b = decide (a ≠ b) := by
  rw [decide_not]
  rfl

theorem cmpTst_eq (a b : DWord) : cmpTst a b = decide (a &&& b ≠ 0) := cmpNe_eq (a &&& b) 0

/-- Settles O10, row by row. -/
theorem compareAndPredicateResults : Obligations.CompareAndPredicateResults :=
  ⟨cmpRow_of_writesP (fun _ _ _ => rfl) (by decide) cmpEq_eq,
    cmpRow_of_writesP (fun _ _ _ => rfl) (by decide) cmpNe_eq,
    cmpRow_of_writesP (g := cmpLtu) (fun _ _ _ => rfl) (by decide) fun _ _ => rfl,
    cmpRow_of_writesP (g := cmpGeu) (fun _ _ _ => rfl) (by decide) fun _ _ => rfl,
    cmpRow_of_writesP (g := cmpLt) (fun _ _ _ => rfl) (by decide) fun _ _ => rfl,
    cmpRow_of_writesP (g := cmpGe) (fun _ _ _ => rfl) (by decide) fun _ _ => rfl,
    cmpRow_of_writesP (fun _ _ _ => rfl) (by decide) cmpTst_eq,
    cmpRow_of_writesP (g := cmpNtst) (fun _ _ _ => rfl) (by decide) fun _ _ => rfl,
    cmpiRow_of_writesP (fun _ _ _ => rfl) (by decide) cmpEq_eq,
    cmpiRow_of_writesP (fun _ _ _ => rfl) (by decide) cmpNe_eq,
    cmpiRow_of_writesP (g := cmpLtu) (fun _ _ _ => rfl) (by decide) fun _ _ => rfl,
    cmpiRow_of_writesP (g := cmpGeu) (fun _ _ _ => rfl) (by decide) fun _ _ => rfl,
    cmpiRow_of_writesP (g := cmpLt) (fun _ _ _ => rfl) (by decide) fun _ _ => rfl,
    cmpiRow_of_writesP (g := cmpGe) (fun _ _ _ => rfl) (by decide) fun _ _ => rfl,
    cmpiRow_of_writesP (fun _ _ _ => rfl) (by decide) cmpTst_eq,
    cmpiRow_of_writesP (g := cmpNtst) (fun _ _ _ => rfl) (by decide) fun _ _ => rfl,
    plogRow_of_writesP (fun _ _ _ => rfl) (by decide),
    plogRow_of_writesP (fun _ _ _ => rfl) (by decide),
    plogRow_of_writesP (fun _ _ _ => rfl) (by decide),
    plogRow_of_writesP (fun _ _ _ => rfl) (by decide),
    p2g_computes⟩

end Sys2Proof.Machine
end

section
/-! Proofs of the family 06_ausum_reference, bits and CRC: the BIT, BFX and CRC rows (O11). -/

namespace Sys2Proof.Machine

open Sys2Proof

/-! ## Results (R189, R190) -/

theorem bitOf_eq_getLsbD (v : DWord) (i : Nat) : bitOf v i = v.getLsbD i := bitOf_eq_testBit v i

theorem ctz64_eq (v : DWord) : ctz64 v = ((List.range 64).find? fun k => v.getLsbD k).getD 64 := by
  simp only [ctz64, upTo, bitOf_eq_getLsbD]

theorem popCount_eq (v : DWord) : ∀ n, popCount v.toNat n = (List.range n).countP fun k => v.getLsbD k
  | 0 => rfl
  | n + 1 => by
    have hbit : v.toNat / 2 ^ n % 2 = if v.getLsbD n then 1 else 0 := by
      rw [← bitOf_eq_getLsbD, bitOf]
      rcases Nat.mod_two_eq_zero_or_one (v.toNat / 2 ^ n) with h | h
      · simp [h]
      · simp [h]
    rw [popCount, popCount_eq v n, hbit, List.range_succ, List.countP_append, List.countP_singleton]

/-- A field's low bits as a signed number. -/
theorem sextTo64_eq {n : Nat} (hpos : 1 ≤ n) (hle : n ≤ 64) (v : Nat) : sextTo64 v n = BitVec.ofInt 64 (Int.bmod v (2 ^ n)) := by
  obtain ⟨k, rfl⟩ : ∃ k, n = k + 1 := ⟨n - 1, by omega⟩
  have hhalf : 2 ^ (k + 1) = 2 * 2 ^ k := Nat.pow_succ'
  have hpow : 2 ^ (k + 1) ≤ 2 ^ 64 := Nat.pow_le_pow_right (by decide) hle
  have hlt : v % 2 ^ (k + 1) < 2 ^ (k + 1) := Nat.mod_lt _ (Nat.two_pow_pos _)
  have hcast : (v : Int) % ((2 ^ (k + 1) : Nat) : Int) = ((v % 2 ^ (k + 1) : Nat) : Int) := (Int.natCast_mod _ _).symm
  unfold sextTo64 Int.bmod
  dsimp only
  rw [hcast, Nat.add_sub_cancel]
  generalize v % 2 ^ (k + 1) = r at hlt
  generalize 2 ^ (k + 1) = m at *
  generalize 2 ^ k = l at *
  have hdiv : r / l = 1 ↔ l ≤ r := by
    rw [Nat.div_eq_iff (by omega)]
    omega
  by_cases hneg : l ≤ r
  · rw [if_pos (hdiv.2 hneg), if_neg (by omega)]
    refine BitVec.eq_of_toNat_eq ?_
    rw [BitVec.toNat_ofNat, BitVec.toNat_ofInt]
    omega
  · rw [if_neg (fun h => hneg (hdiv.1 h)), if_pos (by omega), BitVec.ofInt_natCast]

/-- Only the low bits count. -/
theorem sextTo64_mod (v n : Nat) : sextTo64 (v % 2 ^ n) n = sextTo64 v n := by
  rw [sextTo64, sextTo64, Nat.mod_mod]

theorem crc32c_mod (v : Nat) (bs : List Byte) : crc32c (v % 2 ^ 32) bs = crc32c v bs := by
  rw [crc32c, crc32c, Nat.mod_mod]

theorem leBytes_one (b : DWord) : leBytes b.toNat 1 = [b.extractLsb' 0 8] := rfl

/-- INS writes the field above and below which the old bits stay. -/
theorem setFld_eq (d : DWord) (p v : Nat) {n : Nat} (h : 1 ≤ n) : setFld d (p + n - 1) p v =
    BitVec.ofNat 64 (d.toNat / 2 ^ (p + n) * 2 ^ (p + n) + v % 2 ^ n * 2 ^ p + d.toNat % 2 ^ p) := by
  rw [setFld, Nat.sub_add_cancel (by omega), Nat.add_sub_cancel_left]

/-! ## Rows -/

/-- A BIT row, from what it computes. -/
theorem bitRow_of_writesG {c : Agent → DWord → Instr} {sub : Nat} {f g : DWord → DWord}
    (hexec : ∀ ag w s, exec (c ag w) s = .next (s.writesG ag w (bitRow sub) fun x => g (x.greg (wA w))))
    (hlisted : (subsOf 0x15).contains sub = true) (hval : ∀ a, g a = f a) : Claims.BitRow c sub f :=
  computesG_of_writesG hexec
    (fun _ ⟨hop, hsub, hb, himm⟩ => Row.admits_sub hop hsub rfl hlisted rfl (by simp [bitRow, noB, noImm, hb, himm])) rfl
    fun _ _ _ => hval _

/-- A BFX row, from what it computes of position, width and both registers. -/
theorem bfxRow_of_writesG {c : Agent → DWord → Instr} {sub : Nat} {f : Nat → Nat → DWord → DWord → DWord} {g : DWord → Ctx → DWord}
    (hexec : ∀ ag w s, exec (c ag w) s = .next (s.writesG ag w (bfxRow sub) (g w))) (hlisted : (subsOf 0x16).contains sub = true)
    (hval : ∀ x w, 1 ≤ bfxW w → bfxW w ≤ 64 → g w x = f (bfxP w) (bfxW w) (x.greg (wA w)) (x.greg (wD w))) :
    Claims.BfxRow c sub f := by
  refine computesG_of_writesG hexec (fun w ⟨hop, hsub, hb, hpos, hfit, h7, h31⟩ => ?_) rfl
    fun x w ⟨_, _, _, hpos, hfit, _⟩ => hval x w hpos (Nat.le_of_add_left_le hfit)
  have hle : bfxW w ≤ 64 := Nat.le_of_add_left_le hfit
  have hfit' : bfxP w + bfxW w ≤ 64 := hfit
  have hpos' : 1 ≤ bfxW w := hpos
  exact Row.admits_sub hop hsub rfl hlisted rfl (by simp [bfxRow, noB, hb, hpos', hle, hfit', h7, h31])

/-- A CRC row, from what it computes. -/
theorem crcRow_of_writesG {c : Agent → DWord → Instr} {sub : Nat} {f g : DWord → DWord → DWord}
    (hexec : ∀ ag w s, exec (c ag w) s = .next (s.writesG ag w (crcRow sub) fun x => g (x.greg (wA w)) (x.greg (wB w))))
    (hlisted : (subsOf 0x17).contains sub = true) (hval : ∀ a b, g a b = f a b) : Claims.CrcRow c sub f :=
  computesG_of_writesG hexec
    (fun _ ⟨hop, hsub, himm⟩ => Row.admits_sub hop hsub rfl hlisted rfl (by simp [crcRow, noImm, himm])) rfl
    fun _ _ _ => hval _ _

/-- Settles O11, row by row. -/
theorem bitFieldAndCrcResults : Obligations.BitFieldAndCrcResults := by
  refine ⟨bitRow_of_writesG (fun _ _ _ => rfl) (by decide) fun _ => rfl,
    bitRow_of_writesG (fun _ _ _ => rfl) (by decide) fun a => congrArg (BitVec.ofNat 64) (ctz64_eq a),
    bitRow_of_writesG (fun _ _ _ => rfl) (by decide) fun a => congrArg (BitVec.ofNat 64) (popCount_eq a 64),
    bitRow_of_writesG (g := fun a => BitVec.ofNat 64 (beNat (leBytes a.toNat 8))) (fun _ _ _ => rfl) (by decide) fun _ => rfl,
    bitRow_of_writesG (g := fun a => BitVec.ofNat 64 (beNat (leBytes a.toNat 4))) (fun _ _ _ => rfl) (by decide) fun _ => rfl,
    bfxRow_of_writesG (fun _ _ _ => rfl) (by decide) fun _ _ _ _ => rfl,
    bfxRow_of_writesG (fun _ _ _ => rfl) (by decide) fun x w hpos hle => ?_,
    bfxRow_of_writesG (fun _ _ _ => rfl) (by decide) fun _ _ hpos _ => setFld_eq _ _ _ hpos,
    crcRow_of_writesG (g := fun a b => BitVec.ofNat 64 (crc32c a.toNat (leBytes b.toNat 1))) (fun _ _ _ => rfl) (by decide)
      fun a b => by rw [crc32c_mod, leBytes_one],
    crcRow_of_writesG (g := fun a b => BitVec.ofNat 64 (crc32c a.toNat (leBytes b.toNat 8))) (fun _ _ _ => rfl) (by decide)
      fun a b => by rw [crc32c_mod],
    crcRow_of_writesG (g := fun a b => BitVec.ofNat 64 (crc64 a.toNat (leBytes b.toNat 8))) (fun _ _ _ => rfl) (by decide)
      fun _ _ => rfl⟩
  rw [bfxBits, sextTo64_mod, sextTo64_eq hpos hle]
  norm_cast

end Sys2Proof.Machine
end

section
/-! Proofs of the family 06_ausum_reference, memory: what an instruction of the MCP starts in, the bytes of its SRAM, tile writes, and
GETCX, LD and ST (O12). -/

namespace Sys2Proof.Machine

open Sys2Proof

/-! ## Instructions of the MCP (R207) -/

/-- An instruction of the MCP is given by what its body makes of the state that the fetch leaves. -/
theorem mcpGives_of_body {c : Agent → DWord → Instr} {ok : DWord → Prop} {row : Row} {body : Agent → DWord → State → State}
    {pre : State → DWord → Prop} {post : State → State → DWord → Prop}
    (hexec : ∀ ag w s, exec (c ag w) s = .next (s.instruct ag w row (body ag w))) (hrow : ∀ w, ok w → row.Admits w)
    (hprofile : row.profile ≠ .clause)
    (hbody : ∀ s u w, ok w → pre s w → Fetched s u row.cost → post s (body .mcp w u) w) : Claims.McpGives c ok pre post := by
  intro s w hruns hok hpre
  obtain ⟨u, hfetched, hop⟩ := hruns.instruct_fetched (hrow w hok) hprofile (body .mcp w)
  exact ⟨_, (hexec _ _ _).trans (congrArg _ hop), hbody s u w hok hpre hfetched⟩

/-- The MCP's registers with `v` written into g[d], at the next instruction. -/
theorem State.writesG_advance_mcp (s u : State) (d : Nat) (v : DWord) :
    Claims.WritesG (s.ctxOf .mcp) (((u.setCtx .mcp ((s.ctxOf .mcp).setG d v)).advance .mcp).ctxOf .mcp) d v (s.mcp.pc + 8) := by
  have hctx : ((u.setCtx .mcp ((s.ctxOf .mcp).setG d v)).advance .mcp).ctxOf .mcp =
      { (s.ctxOf .mcp).setG d v with pc := s.mcp.pc + 8 } := by
    unfold Ctx.setG
    split
    · rfl
    · rfl
  rw [hctx]
  exact Ctx.writesG_setG _ _ _ _

namespace Fetched

variable {s u : State} {cost : Nat}

theorem sram (h : Fetched s u cost) : u.mcp.sram = s.mcp.sram := by
  obtain ⟨_, rfl⟩ := h
  rfl

theorem onlyMcp_advance (h : Fetched s u cost) (x : Ctx) : Claims.OnlyMcp s ((u.setCtx .mcp x).advance .mcp) cost := by
  obtain ⟨_, rfl⟩ := h
  rfl

end Fetched

/-! ## The MCP's SRAM (R447) -/

theorem State.mcpByte_sram (s : State) {a : Nat} (hlo : 0x100000 ≤ a) (hhi : a < 0x200000) :
    s.mcpByte a = some (s.mcp.sram.byte (a - 0x100000)) := by
  rw [State.mcpByte, if_neg (by omega), if_pos (by simp [hlo, hhi])]

theorem State.mcpBytes_sram (s : State) : ∀ (n : Nat) {a : Nat}, 0x100000 ≤ a → a + n ≤ 0x200000 →
    s.mcpBytes a n = some ((List.range n).map fun k => s.mcp.sram.byte (a - 0x100000 + k))
  | 0, _, _, _ => rfl
  | n + 1, a, hlo, hhi => by
    have htail : (List.range n).map (fun k => s.mcp.sram.byte (a + 1 - 0x100000 + k)) =
        (List.range n).map ((fun k => s.mcp.sram.byte (a - 0x100000 + k)) ∘ Nat.succ) :=
      List.map_congr_left fun k _ => by rw [Function.comp_apply, show a + 1 - 0x100000 + k = a - 0x100000 + k.succ by omega]
    rw [State.mcpBytes, s.mcpByte_sram hlo (by omega), s.mcpBytes_sram n (by omega) (by omega), htail, List.range_succ_eq_map,
      List.map_cons, List.map_map, Nat.add_zero]

theorem State.stalls_sram (s : State) {a : Nat} (h : a < 0x200000) : s.stalls a = false := by
  rw [State.stalls, decide_eq_false (by omega), Bool.false_and, Bool.false_and]

/-! ## Moves (R192) -/

theorem moveSize_le (w : DWord) : moveSize w ≤ 2 ^ 3 :=
  Nat.pow_le_pow_right Nat.two_pos (Nat.le_of_lt_succ (Nat.mod_lt _ (by decide)))

theorem bitOf_34 (w : DWord) : bitOf w 34 = !decide (wSub w % 8 < 4) := by
  have hbit : bitOf w 34 = (wSub w / 4 % 2 == 1) := by
    unfold bitOf wSub fld
    norm_num
    omega
  rw [hbit]
  by_cases h : wSub w % 8 < 4
  · simp [h]
    omega
  · simp [h]
    omega

theorem loaded_eq (w : DWord) (bs : List Byte) : loaded w bs = Claims.loadValue w bs := by
  have hsize : 8 * moveSize w ≤ 64 := by
    have := moveSize_le w
    omega
  have hpos : 1 ≤ 8 * moveSize w := by
    have : 0 < moveSize w := Nat.two_pow_pos _
    omega
  rw [loaded, Claims.loadValue, bitOf_34, sextTo64_eq hpos hsize]
  by_cases h : wSub w % 8 < 4
  · simp [h]
  · simp [h, moveSize]

/-- A word of a row of several subs. -/
theorem Row.admits_subs {row : Row} {w : DWord} (hop : wOp w = row.op) (hsub : row.subs.contains (wSub w) = true)
    (hlisted : (subsOf row.op).contains (wSub w) = true) (hmode : row.mode = none) (hallowed : row.allowed w = true) :
    row.Admits w where
  defined := by rw [Machine.defined, hop, hlisted]
  op := hop
  sub := hsub
  mode := .inl hmode
  allowed := hallowed

/-- Sound words of memory change nothing where they are read. -/
theorem readWords_nil (a n : Nat) : readWords a n [] = [] := by rw [readWords, List.map_nil, List.zip_nil_right]

theorem State.readingTile_nil (s : State) (id tile : Nat) (f : State → State) : s.readingTile id tile [] f = f s := rfl

namespace Issued

variable {s u : State} {i : Fin 512}

theorem tileBytes (h : Issued s u i) : u.tileBytes = s.tileBytes := by
  obtain ⟨-, _, _, _, _, _, rfl⟩ := h
  rfl

/-- What a body of both profiles finds that its strand runs. -/
theorem running_eq (h : Issued s u i) {id : Nat} {r : Request} (hr : s.running i = some (id, r)) : u.running i = some (id, r) :=
  (congrFun h.running i).trans hr

end Issued

/-! ## GETCX (R191) -/

theorem getcx_does : Claims.StrandDoes .getcx (fun w => wOp w = 0x18 ∧ wSub w < 8 ∧ wA w = 0 ∧ wB w = 0 ∧ wImm w = 0)
    (fun _ _ _ => True) fun _ r w => Claims.withG r (wD w) (r.cx (wSub w)) :=
  strandDoes_of_setReq (fun _ _ _ => rfl)
    (fun _ ⟨hop, hsub, ha, hb, himm⟩ =>
      ⟨Row.admits_subs hop (by simpa [upTo] using hsub) (by simpa [subsOf, upTo] using hsub) rfl (by simp [noA, noB, noImm, ha, hb, himm]),
        Profile.noConfusion⟩)
    fun _ _ _ _ _ _ _ _ _ => rfl

/-! ## LD (R192, R447) -/

/-- The row of LD from the pad and from the MCP's map. -/
abbrev ldRow : Row := { op := 0x20, subs := upTo 8, profile := .both, cost := 2, allowed := noB }

theorem ldRow_admits {w : DWord} : (wOp w = 0x20 ∧ wSub w < 8 ∧ wB w = 0) → ldRow.Admits w
  | ⟨hop, hsub, hb⟩ => Row.admits_subs hop (by simpa [upTo] using hsub) (by simp [subsOf, upTo]; omega) rfl (by simp [noB, hb])

theorem ldPad_does : Claims.StrandDoes (fun ag w => .ldPad ag w []) (fun w => wOp w = 0x20 ∧ wSub w < 8 ∧ wB w = 0)
    (fun _ r w => (r.ctx.greg (wA w) + wSimm w).toNat + 2 ^ (wSub w % 4) ≤ 8192)
    fun _ r w => Claims.withG r (wD w)
      (Claims.loadValue w (r.ctx.padBytes (r.ctx.greg (wA w) + wSimm w).toNat (2 ^ (wSub w % 4)))) := by
  refine strandDoes_of_instruct (row := ldRow) (fun _ _ _ => rfl) (fun _ => ldRow_admits) rfl
    fun s u i id r w _ hfit hissued hr => ?_
  have hfit : moveAddr r.ctx w + moveSize w ≤ 8192 := hfit
  dsimp only
  rw [hissued.running_eq hr]
  dsimp only
  rw [readWords_nil, if_neg (Nat.not_lt.2 hfit), loaded_eq]
  exact hissued.setReq id _

/-- A load of sound words of SRAM. -/
theorem State.mcpLoad_sram {s : State} {w : DWord} (hlo : 0x100000 ≤ moveAddr (s.ctxOf .mcp) w)
    (hhi : moveAddr (s.ctxOf .mcp) w + moveSize w ≤ 0x200000) :
    s.mcpLoad w [] = (s.setCtx .mcp ((s.ctxOf .mcp).setG (wD w) (Claims.loadValue w
      ((List.range (moveSize w)).map fun k => s.mcp.sram.byte (moveAddr (s.ctxOf .mcp) w - 0x100000 + k))))).advance .mcp := by
  have hsize : 0 < moveSize w := Nat.two_pow_pos _
  unfold State.mcpLoad
  dsimp only
  rw [s.mcpBytes_sram _ hlo hhi]
  dsimp only
  rw [s.stalls_sram (by omega), if_neg (by decide), readWords_nil, decide_eq_false (by omega), Bool.false_and, if_neg (by decide),
    loaded_eq]
  rfl

theorem ldPad_mcp : Claims.McpGives (fun ag w => .ldPad ag w []) (fun w => wOp w = 0x20 ∧ wSub w < 8 ∧ wB w = 0)
    (fun s w => let a := ((s.ctxOf .mcp).greg (wA w) + wSimm w).toNat
      0x100000 ≤ a ∧ a + 2 ^ (wSub w % 4) ≤ 0x200000)
    fun s t w => let a := ((s.ctxOf .mcp).greg (wA w) + wSimm w).toNat
      Claims.OnlyMcp s t 2 ∧ Claims.WritesG (s.ctxOf .mcp) (t.ctxOf .mcp) (wD w)
        (Claims.loadValue w ((List.range (2 ^ (wSub w % 4))).map (fun k => s.mcp.sram.byte (a - 0x100000 + k)))) (s.mcp.pc + 8) := by
  refine mcpGives_of_body (row := ldRow) (fun _ _ _ => rfl) (fun _ => ldRow_admits) Profile.noConfusion
    fun s u w _ ⟨hlo, hhi⟩ hfetched => ?_
  have hlo : 0x100000 ≤ moveAddr (u.ctxOf .mcp) w := by rwa [hfetched.ctxOf]
  have hhi : moveAddr (u.ctxOf .mcp) w + moveSize w ≤ 0x200000 := by rwa [hfetched.ctxOf]
  dsimp only
  rw [State.mcpLoad_sram hlo hhi, hfetched.ctxOf, hfetched.sram]
  exact ⟨hfetched.onlyMcp_advance _, s.writesG_advance_mcp u _ _⟩

theorem ldPayload_does : Claims.StrandDoes .ldPayload (fun w => wOp w = 0x20 ∧ 8 ≤ wSub w ∧ wSub w < 16 ∧ wB w = 0)
    (fun _ r w => (r.ctx.greg (wA w) + wSimm w).toNat + 2 ^ (wSub w % 4) ≤ r.payload.length)
    fun _ r w => Claims.withG r (wD w)
      (Claims.loadValue w ((r.payload.drop (r.ctx.greg (wA w) + wSimm w).toNat).take (2 ^ (wSub w % 4)))) := by
  refine strandDoes_of_setReq (fun _ _ _ => rfl) (fun w ⟨hop, hge, hlt, hb⟩ => ⟨?_, Profile.noConfusion⟩)
    fun s u i id r w _ hfit _ => ?_
  · refine Row.admits_subs hop ?_ (by simp [subsOf, upTo]; omega) rfl (by simp [noB, hb])
    simp only [upTo, List.contains_eq_mem, List.mem_map, List.mem_range, decide_eq_true_eq]
    exact ⟨wSub w - 8, by omega, by omega⟩
  · have hfit : moveAddr r.ctx w + moveSize w ≤ r.payload.length := hfit
    dsimp only
    rw [if_neg (Nat.not_lt.2 hfit), loaded_eq]
    rfl

theorem ldTile_does (tile : Nat) : Claims.StrandDoes (fun ag w => .ldTile ag w [])
    (fun w => wOp w = 0x20 ∧ 16 ≤ wSub w ∧ wSub w < 24 ∧ wB w < 8) (fun _ r w => Claims.bound r (wB w) = some tile)
    fun s r w => Claims.withG r (wD w)
      (Claims.loadValue w (s.tileBytes tile (r.ctx.greg (wA w) + wSimm w).toNat (2 ^ (wSub w % 4)))) := by
  refine strandDoes_of_setReq (fun _ _ _ => rfl) (fun w ⟨hop, hge, hlt, hb⟩ => ⟨?_, Profile.noConfusion⟩)
    fun s u i id r w ⟨_, _, _, hb⟩ hbound hissued => ?_
  · refine Row.admits_subs hop ?_ (by simpa [subsOf, upTo] using hlt) rfl (by simp [hb])
    simp only [upTo, List.contains_eq_mem, List.mem_map, List.mem_range, decide_eq_true_eq]
    exact ⟨wSub w - 16, by omega, by omega⟩
  · have hfind : Maps.find (wB w % 8) r.ctx.t = some tile := by rwa [Nat.mod_eq_of_lt hb]
    dsimp only
    rw [hfind]
    dsimp only
    rw [State.readingTile_nil, hissued.tileBytes, loaded_eq]
    rfl

/-! ## Tile writes (R192, R246) -/

/-- The first `n` of `bs` written into a tile's bytes from `o` on, wrapping at byte 4,095. -/
def Mem.wrapped (m : Mem) (o : Nat) (bs : List Byte) (n : Nat) : Mem :=
  (List.range n).foldl (fun m k => m.setByte ((o + k) % 4096) (nthD bs k 0)) m

namespace Mem

theorem wrapped_succ (m : Mem) (o : Nat) (bs : List Byte) (n : Nat) :
    m.wrapped o bs (n + 1) = (m.wrapped o bs n).setByte ((o + n) % 4096) (nthD bs n 0) := by
  rw [wrapped, List.range_succ, List.foldl_append]
  rfl

theorem byte_wrapped_inside (m : Mem) (o : Nat) (bs : List Byte) {k : Nat} : ∀ {n : Nat}, n ≤ 4096 → k < n →
    (m.wrapped o bs n).byte ((o + k) % 4096) = nthD bs k 0
  | n + 1, hn, hk => by
    rw [wrapped_succ]
    by_cases hkn : k = n
    · rw [hkn, byte_setByte_same]
    · rw [byte_setByte_other _ _ (by omega), byte_wrapped_inside m o bs (by omega) (by omega)]

theorem byte_wrapped_outside (m : Mem) (o : Nat) (bs : List Byte) {a : Nat} : ∀ {n : Nat}, (∀ k < n, a ≠ (o + k) % 4096) →
    (m.wrapped o bs n).byte a = m.byte a
  | 0, _ => rfl
  | n + 1, h => by
    rw [wrapped_succ, byte_setByte_other _ _ (h n n.lt_succ_self)]
    exact byte_wrapped_outside m o bs fun k hk => h k (Nat.lt_succ_of_lt hk)

end Mem

theorem State.setTile_tiles (s : State) (k o : Nat) (bs : List Byte) : (s.setTile k o bs).stg.tiles =
    Maps.upd k (fun x => { x with bytes := x.bytes.wrapped o bs bs.length }) s.stg.tiles := rfl

/-- A tile's range is replaced by bytes no longer than a tile, and the request goes on. -/
theorem Issued.setTile_goOn {s u : State} {i : Fin 512} (h : Issued s u i) (id : Nat) (r : Request) (k o : Nat) {bs : List Byte}
    (hlen : bs.length ≤ 4096) : Claims.OnlyTiles s ((u.setTile k o bs).goOn id r) id r ∧
      Claims.TileWritten s ((u.setTile k o bs).goOn id r) k o bs := by
  have htiles : ((u.setTile k o bs).goOn id r).stg.tiles =
      Maps.upd k (fun x => { x with bytes := x.bytes.wrapped o bs bs.length }) s.stg.tiles := by
    obtain ⟨-, _, _, _, _, _, rfl⟩ := h
    rfl
  refine ⟨⟨Maps.find_put_same _ _ _, fun j hj => (Maps.find_put_other _ hj _).trans (congrArg (Maps.find j) h.reqs), ?_⟩, ?_, ?_⟩
  · obtain ⟨-, _, _, _, _, _, rfl⟩ := h
    rfl
  · intro j hj
    rw [htiles, Maps.find_upd, if_neg hj]
  · intro x hx
    refine ⟨{ x with bytes := x.bytes.wrapped o bs bs.length }, ?_, rfl, fun n hn => ?_, fun a ha => ?_⟩
    · rw [htiles, Maps.find_upd, if_pos rfl, hx]
      rfl
    · exact (Mem.byte_wrapped_inside _ _ _ hlen hn).trans (List.getD_eq_getElem _ _ hn)
    · exact Mem.byte_wrapped_outside _ _ _ ha

/-! ## ST (R192, R447) -/

/-- The row of ST to the pad and to SRAM. -/
abbrev stRow : Row := { op := 0x21, subs := upTo 4, profile := .both, cost := 1, allowed := noD }

theorem stRow_admits {w : DWord} : (wOp w = 0x21 ∧ wSub w < 4 ∧ wD w = 0) → stRow.Admits w
  | ⟨hop, hsub, hd⟩ => Row.admits_subs hop (by simpa [upTo] using hsub) (by simp [subsOf]; omega) rfl (by simp [noD, hd])

theorem stPad_does : Claims.StrandDoes .stPad (fun w => wOp w = 0x21 ∧ wSub w < 4 ∧ wD w = 0)
    (fun _ r w => (r.ctx.greg (wA w) + wSimm w).toNat + 2 ^ (wSub w % 4) ≤ 8192)
    fun _ r w => Claims.withPad r (r.ctx.greg (wA w) + wSimm w).toNat (leBytes (Claims.gn r (wB w)) (2 ^ (wSub w % 4))) := by
  refine strandDoes_of_instruct (row := stRow) (fun _ _ _ => rfl) (fun _ => stRow_admits) rfl
    fun s u i id r w _ hfit hissued hr => ?_
  dsimp only
  rw [hissued.ctxOf hr, hissued.running_eq hr]
  have hfit : moveAddr r.ctx w + moveSize w ≤ 8192 := hfit
  dsimp only
  rw [if_neg (Nat.not_lt.2 hfit)]
  exact hissued.setReq id _

theorem stPad_mcp : Claims.McpGives .stPad (fun w => wOp w = 0x21 ∧ wSub w < 4 ∧ wD w = 0)
    (fun s w => let a := ((s.ctxOf .mcp).greg (wA w) + wSimm w).toNat
      0x100000 ≤ a ∧ a + 2 ^ (wSub w % 4) ≤ 0x200000)
    fun s t w => let a := ((s.ctxOf .mcp).greg (wA w) + wSimm w).toNat - 0x100000
      let bs := leBytes ((s.ctxOf .mcp).greg (wB w)).toNat (2 ^ (wSub w % 4))
      (∀ k (h : k < bs.length), t.mcp.sram.byte (a + k) = bs[k]) ∧
      (∀ b, b < a ∨ a + bs.length ≤ b → t.mcp.sram.byte b = s.mcp.sram.byte b) ∧
      t = { s with mcp := { s.mcp with pc := s.mcp.pc + 8, ibuf := t.mcp.ibuf, sram := t.mcp.sram, cycles := s.mcp.cycles + 1 } } := by
  refine mcpGives_of_body (row := stRow) (fun _ _ _ => rfl) (fun _ => stRow_admits) Profile.noConfusion
    fun s u w _ ⟨hlo, hhi⟩ hfetched => ?_
  have hin : (decide (0x100000 ≤ moveAddr (s.ctxOf .mcp) w) && decide (moveAddr (s.ctxOf .mcp) w + moveSize w ≤ 0x200000)) = true :=
    Bool.and_eq_true_iff.2 ⟨decide_eq_true hlo, decide_eq_true hhi⟩
  dsimp only
  rw [hfetched.ctxOf, if_pos hin]
  obtain ⟨_, rfl⟩ := hfetched
  exact ⟨Mem.byte_setBytes_inside _ _ _, fun b => Mem.byte_setBytes_outside _ _ _ b, rfl⟩

theorem stTile_gives (tile : Nat) : Claims.StrandGives .stTile (fun w => wOp w = 0x21 ∧ 16 ≤ wSub w ∧ wSub w < 20 ∧ wD w < 8)
    (fun _ _ r w => Claims.bound r (wD w) = some tile)
    fun s t id r w => Claims.OnlyTiles s t id r ∧ Claims.TileWritten s t tile (r.ctx.greg (wA w) + wSimm w).toNat
      (leBytes (Claims.gn r (wB w)) (2 ^ (wSub w % 4))) := by
  refine strandGives_of_body (fun _ _ _ => rfl) (fun w ⟨hop, hge, hlt, hd⟩ => ⟨?_, Profile.noConfusion⟩)
    fun s u i id r w ⟨_, _, _, hd⟩ hbound hissued _ => ?_
  · refine Row.admits_subs hop ?_ (by simp [subsOf]; omega) rfl (by simp [hd])
    simp only [upTo, List.contains_eq_mem, List.mem_map, List.mem_range, decide_eq_true_eq]
    exact ⟨wSub w - 16, by omega, by omega⟩
  · have hfind : Maps.find (wD w % 8) r.ctx.t = some tile := by rwa [Nat.mod_eq_of_lt hd]
    have hlen : (leBytes (Claims.gn r (wB w)) (2 ^ (wSub w % 4))).length ≤ 4096 := by
      rw [leBytes_length]
      exact (moveSize_le w).trans (by decide)
    rw [hfind]
    exact hissued.setTile_goOn id r tile _ hlen

/-- Settles O12, by instruction and space. -/
theorem contextAndPadResults : Obligations.ContextAndPadResults :=
  ⟨getcx_does, ldPad_does, ldPad_mcp, ldPayload_does, ldTile_does, stPad_does, stPad_mcp, stTile_gives⟩

end Sys2Proof.Machine
end

section
/-! Proofs of the family 06_ausum_reference, tiles: the tile instructions and STAGE (O13). -/

namespace Sys2Proof.Machine

open Sys2Proof

/-! ## Words and ranges (R193) -/

/-- A T word's range fields are allowed. -/
theorem tRangeOk_of_tWord {op : Nat} {mode : Bool} {w : DWord} (h : Claims.TWord op mode w) : tRangeOk w = true := by
  obtain ⟨-, -, -, hrange⟩ := h
  unfold tRangeOk tRL tOff noB
  split
  · next hrl => simpa [hrl] using hrange
  · next hrl => simpa [hrl] using hrange

/-- A T word is one of its row's, where the row has no MODE variants. -/
theorem tRow_admits {op : Nat} {allowed : DWord → Bool} {w : DWord} (h : Claims.TWord op false w)
    (hlisted : (subsOf op).contains 0 = true) (hallowed : allowed w = true) : (tRow op allowed).Admits w := by
  have hrange := tRangeOk_of_tWord h
  obtain ⟨hop, hsub, hmode, -⟩ := h
  exact Row.admits_sub hop hsub rfl hlisted rfl (by simp [tRow, hrange, tMode, hmode, hallowed])

/-- A T word is one of its MODE's row. -/
theorem tModeRow_admits {op : Nat} {mode : Bool} {allowed : DWord → Bool} {w : DWord} (h : Claims.TWord op mode w)
    (hlisted : (subsOf op).contains 0 = true) (hallowed : allowed w = true) : (tModeRow op mode allowed).Admits w := by
  have hrange := tRangeOk_of_tWord h
  obtain ⟨hop, hsub, hmode, -⟩ := h
  exact { defined := by rw [defined, hop, hsub, hlisted]
          op := hop
          sub := by simp [tModeRow, hsub]
          mode := .inr (by rw [hmode]; rfl)
          allowed := by simp [tModeRow, hrange, hallowed] }

theorem tRange_le (w : DWord) (c : Ctx) : (tRange w c).2 ≤ 4096 := (Nat.min_le_right _ _).trans (Nat.sub_le _ _)

theorem State.tileBytes_of_find {s : State} {k : Nat} {x : Tile} (h : Maps.find k s.stg.tiles = some x) (o n : Nat) :
    s.tileBytes k o n = (List.range n).map fun i => x.bytes.byte ((o + i) % 4096) := by
  rw [State.tileBytes, h]
  rfl

theorem State.tileBytes_length_le (s : State) (k o n : Nat) : (s.tileBytes k o n).length ≤ n := by
  unfold State.tileBytes
  split
  · simp [upTo]
  · simp

/-! ## Tile instructions (R195, R246) -/

/-- A tile instruction whose handles are bound gives its body their tiles. -/
theorem RunsOn.tileOp_issued {s : State} {i : Fin 512} {id : Nat} {r : Request} {w : DWord} (h : RunsOn s i id r w) {row : Row}
    (hrow : row.Admits w) (hprofile : row.profile ≠ .management) {usesTB : Bool} {ta tb : Nat}
    (hta : Claims.bound r (fld w 31 29) = some ta) (htb : (if usesTB then Maps.find (tTB w) r.ctx.t else some 0) = some tb)
    (body : State → Fin 512 → Nat → Request → Nat → Nat → State) :
    ∃ u, Issued s u i ∧ s.tileOp (.strand i) w row usesTB body = body u i id r ta tb := by
  have hta : Maps.find (tTA w) r.ctx.t = some ta := hta
  obtain ⟨u, hissued, hop⟩ := h.clauseOp_issued hrow hprofile fun s i id r =>
    match Maps.find (tTA w) r.ctx.t, (if usesTB then Maps.find (tTB w) r.ctx.t else some 0) with
    | some ta, some tb => body (s.spend (.strand i) (ceilDiv (tRange w r.ctx).2 (if row.op = 0x31 then 512 else 1024))) i id r ta tb
    | _, _ => s.trap i id r .tile
  rw [hta, htb] at hop
  exact ⟨_, hissued.spend _, hop⟩

section Tiles

variable {c : Agent → DWord → Instr} {ok : DWord → Prop} {row : Row} {usesTB : Bool} {ta tb : Nat}
  {body : DWord → State → Fin 512 → Nat → Request → Nat → Nat → State}

/-- A tile instruction is given by what its body makes of the state that issuing leaves. -/
theorem strandGives_of_tileOp {pre : State → Fin 512 → Request → DWord → Prop} {post : State → State → Nat → Request → DWord → Prop}
    (hexec : ∀ ag w s, exec (c ag w) s = .next (s.tileOp ag w row usesTB (body w))) (hrow : ∀ w, ok w → row.Admits w)
    (hprofile : row.profile ≠ .management)
    (hbound : ∀ s i r w, pre s i r w → Claims.bound r (fld w 31 29) = some ta ∧
      (if usesTB then Maps.find (tTB w) r.ctx.t else some 0) = some tb)
    (hbody : ∀ s u i id r w, pre s i r w → Issued s u i → post s (body w u i id r ta tb) id r w) :
    Claims.StrandGives c ok pre post := by
  intro s i id r w hruns hok hpre
  obtain ⟨hta, htb⟩ := hbound s i r w hpre
  obtain ⟨u, hissued, hop⟩ := hruns.tileOp_issued (hrow w hok) hprofile hta htb (body w)
  exact ⟨_, (hexec _ _ _).trans (congrArg _ hop), hbody s u i id r w hpre hissued⟩

/-- A tile instruction that only replaces its request. -/
theorem strandDoes_of_tileOp {pre : State → Request → DWord → Prop} {f : State → Request → DWord → Request}
    (hexec : ∀ ag w s, exec (c ag w) s = .next (s.tileOp ag w row usesTB (body w))) (hrow : ∀ w, ok w → row.Admits w)
    (hprofile : row.profile ≠ .management)
    (hbound : ∀ s r w, pre s r w → Claims.bound r (fld w 31 29) = some ta ∧
      (if usesTB then Maps.find (tTB w) r.ctx.t else some 0) = some tb)
    (hbody : ∀ s u i id r w, pre s r w → Issued s u i → body w u i id r ta tb = u.setReq id (f s r w)) :
    Claims.StrandDoes c ok pre f := by
  intro s i id r w hruns hok hpre
  obtain ⟨hta, htb⟩ := hbound s r w hpre
  obtain ⟨u, hissued, hop⟩ := hruns.tileOp_issued (hrow w hok) hprofile hta htb (body w)
  refine ⟨_, (hexec _ _ _).trans (congrArg _ hop), ?_⟩
  rw [hbody s u i id r w hpre hissued]
  exact hissued.setReq id _

/-- A tile instruction that computes g[d] from the range, of which every word is sound. -/
theorem strandDoes_of_tileResult {pre : State → Request → DWord → Prop} {value : State → Request → DWord → DWord}
    {f : DWord → Ctx → Nat → List Byte → DWord} (hexec : ∀ ag w s, exec (c ag w) s = .next (s.tileResult ag w row [] (f w)))
    (hrow : ∀ w, ok w → row.Admits w) (hprofile : row.profile ≠ .management)
    (hbound : ∀ s r w, pre s r w → Claims.bound r (fld w 31 29) = some ta)
    (hvalue : ∀ s r w, pre s r w →
      f w r.ctx (tRange w r.ctx).1 (s.tileBytes ta (tRange w r.ctx).1 (tRange w r.ctx).2) = value s r w) :
    Claims.StrandDoes c ok pre fun s r w => Claims.withG r (wD w) (value s r w) := by
  refine strandDoes_of_tileOp hexec hrow hprofile (fun s r w hpre => ⟨hbound s r w hpre, rfl⟩) fun s u i id r w hpre hissued => ?_
  dsimp only
  rw [ite_self, State.readingTile_nil, hissued.tileBytes, hvalue s r w hpre]
  rfl

end Tiles

/-! ## TLD (R194, R195, R226) -/

/-- What follows a new binding is the tiles' states, not their bytes. -/
theorem State.bytes_rebind (s : State) (id : Nat) (r : Request) (j : Nat) :
    (Maps.find j (s.rebind id r).stg.tiles).map (·.bytes) = (Maps.find j s.stg.tiles).map (·.bytes) := by
  unfold State.rebind
  split
  · unfold State.refreshTiles
    dsimp only
    rw [Maps.find_mapV, Option.map_map]
    refine congrArg (Option.map · _) (funext fun x => ?_)
    rw [Function.comp_apply]
    split
    · rfl
    · rfl
  · rfl

theorem Issued.stg {s u : State} {i : Fin 512} (h : Issued s u i) : u.stg = s.stg := by
  obtain ⟨-, _, _, _, _, _, rfl⟩ := h
  rfl

theorem tld_gives (k tile : Nat) : Claims.StrandGives .tld
    (fun w => Claims.TWord 0x30 false w ∧ bitOf w 25 = false ∧ wD w = 0 ∧ wB w = 0 ∧ fld w 24 13 = 0 ∧ fld w 12 1 = 0)
    (fun _ _ r w => Claims.gn r (wA w) = k ∧ ∃ p st x, r.pour = some p ∧ p.resident k = true ∧ p.stages[k]? = some st ∧
      st.tiles[fld w 28 26]? = some x ∧ x.tile = some tile)
    fun s t id r w => Maps.find id t.cle.reqs =
        some (Claims.onward { r with ctx := { r.ctx with t := Maps.put (fld w 31 29) tile r.ctx.t } }) ∧
      ∀ j, (Maps.find j t.stg.tiles).map (·.bytes) = (Maps.find j s.stg.tiles).map (·.bytes) := by
  refine strandGives_of_body (fun _ _ _ => rfl)
    (fun w ⟨⟨hop, hsub, hmode, _⟩, hrl, hd, hb, hoff, hlen⟩ => ⟨?_, Profile.noConfusion⟩)
    fun s u i id r w _ ⟨hgn, p, st, x, hpour, hresident, hstage, hsrc, htile⟩ hissued _ => ?_
  · exact Row.admits_sub hop hsub rfl (by decide) rfl (by simp [noD, noB, tRL, tOff, tLenM1, tMode, hd, hb, hrl, hoff, hlen, hmode])
  · have hk : (r.ctx.greg (wA w)).toNat = k := hgn
    have hsrc : st.tiles[tTB w]? = some x := hsrc
    dsimp only
    rw [hk, hpour]
    dsimp only
    rw [if_pos hresident, hstage]
    dsimp only
    rw [hsrc]
    dsimp only
    rw [htile]
    exact ⟨Maps.find_put_same _ _ _, fun j => (u.bytes_rebind id _ j).trans (by rw [hissued.stg])⟩

/-! ## TST (R194, R197) -/

theorem Issued.linesAt {s u : State} {i : Fin 512} (h : Issued s u i) : u.linesAt = s.linesAt := by
  obtain ⟨-, _, _, _, _, _, rfl⟩ := h
  rfl

/-- A window write that the clause may make is buffered behind its earlier ones. -/
theorem Issued.bufferWrite {s u : State} {i : Fin 512} (h : Issued s u i) (id : Nat) {r : Request} {off n : Nat} (bytes : List Byte)
    (hallowed : Claims.allowed s r off n 1) (hfit : Claims.linesFit s r off n) (hn : n ≠ 0) :
    u.bufferWrite i id r off n bytes false = u.setReq id (Claims.withWrite r off bytes) := by
  have htrap : u.accessTrap r off n 1 = none := State.accessTrap_eq_none (by rwa [Claims.allowed, h.window])
  have hlines : ¬ 256 < u.linesUsed r + u.linesAt r off n := by
    rw [State.linesUsed, h.linesAt]
    exact Nat.not_lt.2 hfit
  rw [State.bufferWrite, htrap]
  dsimp only
  rw [if_neg (by simpa using hlines), if_neg hn]
  rfl

theorem tst_does (tile : Nat) : Claims.StrandDoes (fun ag w => .tst ag w [])
    (fun w => Claims.TWord 0x31 false w ∧ wD w = 0 ∧ fld w 28 26 = 0)
    (fun s r w => Claims.bound r (fld w 31 29) = some tile ∧ (tRange w r.ctx).2 ≠ 0 ∧
      Claims.allowed s r (Claims.gn r (wA w)) (tRange w r.ctx).2 1 ∧ Claims.linesFit s r (Claims.gn r (wA w)) (tRange w r.ctx).2)
    fun s r w => Claims.withWrite r (Claims.gn r (wA w)) (s.tileBytes tile (tRange w r.ctx).1 (tRange w r.ctx).2) := by
  refine strandDoes_of_tileOp (fun _ _ _ => rfl)
    (fun w ⟨hword, hd, htb⟩ => tRow_admits hword (by decide) (by simp [noD, noTB, tTB, hd, htb])) Profile.noConfusion
    (fun _ _ _ ⟨hbound, _⟩ => ⟨hbound, rfl⟩) fun s u i id r w ⟨_, hn, hallowed, hfit⟩ hissued => ?_
  dsimp only
  rw [ite_self, State.readingTile_nil, hissued.tileBytes]
  exact hissued.bufferWrite id _ hallowed hfit hn

/-! ## TCOPY, TFILL and TXOR (R194) -/

theorem tcopy_gives (a b : Nat) : Claims.StrandGives (fun ag w => .tcopy ag w [])
    (fun w => Claims.TWord 0x32 false w ∧ wD w = 0 ∧ wA w = 0)
    (fun _ _ r w => Claims.bound r (fld w 31 29) = some a ∧ Claims.bound r (fld w 28 26) = some b)
    fun s t id r w => Claims.OnlyTiles s t id r ∧
      Claims.TileWritten s t a (tRange w r.ctx).1 (s.tileBytes b (tRange w r.ctx).1 (tRange w r.ctx).2) := by
  refine strandGives_of_tileOp (fun _ _ _ => rfl)
    (fun w ⟨hword, hd, ha⟩ => tModeRow_admits hword (by decide) (by simp [noD, noA, hd, ha])) Profile.noConfusion
    (fun _ _ _ _ hbound => hbound) fun s u i id r w _ hissued => ?_
  dsimp only
  rw [ite_self, State.readingTile_nil, hissued.tileBytes]
  exact hissued.setTile_goOn id r a _ ((s.tileBytes_length_le _ _ _).trans (tRange_le w r.ctx))

theorem tcopyPayload_gives (a : Nat) : Claims.StrandGives .tcopyPayload
    (fun w => Claims.TWord 0x32 true w ∧ wD w = 0 ∧ fld w 28 26 = 0)
    (fun _ _ r w => Claims.bound r (fld w 31 29) = some a ∧ Claims.gn r (wA w) + (tRange w r.ctx).2 ≤ r.payload.length)
    fun s t id r w => Claims.OnlyTiles s t id r ∧
      Claims.TileWritten s t a (tRange w r.ctx).1 ((r.payload.drop (Claims.gn r (wA w))).take (tRange w r.ctx).2) := by
  refine strandGives_of_tileOp (fun _ _ _ => rfl)
    (fun w ⟨hword, hd, htb⟩ => tModeRow_admits hword (by decide) (by simp [noD, noTB, tTB, hd, htb])) Profile.noConfusion
    (fun _ _ _ _ ⟨hbound, _⟩ => ⟨hbound, rfl⟩) fun s u i id r w ⟨_, hfit⟩ hissued => ?_
  have hfit : ¬ r.payload.length < (r.ctx.greg (wA w)).toNat + (tRange w r.ctx).2 := Nat.not_lt.2 hfit
  dsimp only
  rw [if_neg (by simp [hfit])]
  exact hissued.setTile_goOn id r a _ ((List.length_take_le _ _).trans (tRange_le w r.ctx))

/-- A byte of a number. -/
theorem nthD_leBytes : ∀ {n k : Nat} (v : Nat), k < n → nthD (leBytes v n) k 0 = BitVec.ofNat 8 (v / 2 ^ (8 * k))
  | n + 1, 0, v, _ => by simp [leBytes, nthD]
  | n + 1, k + 1, v, h => by
    have ih := nthD_leBytes (v / 256) (Nat.lt_of_succ_lt_succ h)
    rw [Nat.div_div_eq_div_mul, show 256 * 2 ^ (8 * k) = 2 ^ (8 * (k + 1)) by rw [Nat.mul_add, Nat.pow_add]; omega] at ih
    exact ih

theorem tfill_gives (a : Nat) : Claims.StrandGives .tfill (fun w => Claims.TWord 0x33 false w ∧ wD w = 0 ∧ fld w 28 26 = 0)
    (fun _ _ r w => Claims.bound r (fld w 31 29) = some a)
    fun s t id r w => Claims.OnlyTiles s t id r ∧
      Claims.TileWritten s t a (tRange w r.ctx).1 ((List.range (tRange w r.ctx).2).map (fun k =>
        BitVec.ofNat 8 (Claims.gn r (wA w) / 2 ^ (8 * (((tRange w r.ctx).1 + k) % 8))))) := by
  refine strandGives_of_tileOp (fun _ _ _ => rfl)
    (fun w ⟨hword, hd, htb⟩ => tRow_admits hword (by decide) (by simp [noD, noTB, tTB, hd, htb])) Profile.noConfusion
    (fun _ _ _ _ hbound => ⟨hbound, rfl⟩) fun s u i id r w _ hissued => ?_
  simp only [nthD_leBytes _ (Nat.mod_lt _ (by decide : 0 < 8))]
  exact hissued.setTile_goOn id r a _ (by simpa [upTo] using tRange_le w r.ctx)

theorem txor_gives (a b : Nat) : Claims.StrandGives (fun ag w => .txor ag w [])
    (fun w => Claims.TWord 0x34 false w ∧ wD w = 0 ∧ wA w = 0)
    (fun _ _ r w => Claims.bound r (fld w 31 29) = some a ∧ Claims.bound r (fld w 28 26) = some b)
    fun s t id r w => Claims.OnlyTiles s t id r ∧
      Claims.TileWritten s t a (tRange w r.ctx).1 (List.zipWith (· ^^^ ·) (s.tileBytes a (tRange w r.ctx).1 (tRange w r.ctx).2)
        (s.tileBytes b (tRange w r.ctx).1 (tRange w r.ctx).2)) := by
  refine strandGives_of_tileOp (fun _ _ _ => rfl)
    (fun w ⟨hword, hd, ha⟩ => tRow_admits hword (by decide) (by simp [noD, noA, hd, ha])) Profile.noConfusion
    (fun _ _ _ _ hbound => hbound) fun s u i id r w _ hissued => ?_
  dsimp only
  rw [ite_self, State.readingTile_nil, hissued.tileBytes]
  refine hissued.setTile_goOn id r a _ ?_
  rw [List.length_zipWith]
  exact (Nat.min_le_left _ _).trans ((s.tileBytes_length_le _ _ _).trans (tRange_le w r.ctx))

/-! ## TCRC, TCMP, TSCAN and TSUM (R194) -/

/-- A row whose MODE picks the function computed. -/
theorem tModeResult_does {c : Agent → DWord → Instr} {op : Nat} {mode : Bool} {a : Nat} {pre : State → Request → DWord → Prop}
    {value : State → Request → DWord → DWord} {f : DWord → Ctx → Nat → List Byte → DWord}
    (hexec : ∀ ag w s, exec (c ag w) s = .next (s.tileResult ag w (tModeRow op mode noTB) [] (f w)))
    (hlisted : (subsOf op).contains 0 = true) (hbound : ∀ s r w, pre s r w → Claims.bound r (fld w 31 29) = some a)
    (hvalue : ∀ s r w, pre s r w →
      f w r.ctx (tRange w r.ctx).1 (s.tileBytes a (tRange w r.ctx).1 (tRange w r.ctx).2) = value s r w) :
    Claims.StrandDoes c (fun w => Claims.TWord op mode w ∧ fld w 28 26 = 0) pre
      fun s r w => Claims.withG r (wD w) (value s r w) :=
  strandDoes_of_tileResult hexec (fun _ ⟨hword, htb⟩ => tModeRow_admits hword hlisted (by simp [noTB, tTB, htb]))
    Profile.noConfusion hbound hvalue

/-- The CRC of a range that is not empty. -/
theorem tcrc_eq (crc : Nat → List Byte → Nat) (w : DWord) (c : Ctx) (o : Nat) {bs : List Byte} (h : bs ≠ []) :
    tcrc crc w c o bs = BitVec.ofNat 64 (crc (c.greg (wA w)).toNat bs) := by
  rw [tcrc, if_neg (by simpa using h)]

/-- Words added up. -/
theorem foldl_add_eq : ∀ (l : List DWord) (x : DWord), l.foldl (· + ·) x = BitVec.ofNat 64 (x.toNat + (l.map BitVec.toNat).sum)
  | [], x => by simp
  | y :: l, x => by
    rw [List.foldl_cons, foldl_add_eq l, List.map_cons, List.sum_cons]
    refine BitVec.eq_of_toNat_eq ?_
    rw [BitVec.toNat_ofNat, BitVec.toNat_ofNat, BitVec.toNat_add, Nat.mod_add_mod, Nat.add_assoc]

theorem tsum_add_eq (w : DWord) (c : Ctx) (o : Nat) (bs : List Byte) : tsum (· + ·) w c o bs =
    BitVec.ofNat 64 ((c.greg (wA w)).toNat + ((words8 o bs).map fun e => e.2.toNat).sum) := by
  rw [tsum, foldl_add_eq, List.map_map]
  rfl

/-- How far from `o` the bytes of two tiles first differ, within `n` of them. -/
def State.firstDiffering (s : State) (a b o n : Nat) : Option Nat :=
  (List.range n).find? fun i => nthD (s.tileBytes a o n) i 0 != nthD (s.tileBytes b o n) i 0

/-- TCMP writes what the comparison of its two ranges gives. -/
theorem tcmp_does {a b : Nat} {pre : State → Request → DWord → Prop} {value : State → Request → DWord → DWord}
    (hbound : ∀ s r w, pre s r w → Claims.bound r (fld w 31 29) = some a ∧ Claims.bound r (fld w 28 26) = some b)
    (hvalue : ∀ s r w, pre s r w → (match s.firstDiffering a b (tRange w r.ctx).1 (tRange w r.ctx).2 with
      | some i => BitVec.ofNat 64 ((tRange w r.ctx).1 + i)
      | none => notFound) = value s r w) :
    Claims.StrandDoes (fun ag w => .tcmp ag w []) (fun w => Claims.TWord 0x36 false w ∧ wA w = 0) pre
      fun s r w => Claims.withG r (wD w) (value s r w) := by
  refine strandDoes_of_tileOp (fun _ _ _ => rfl)
    (fun w ⟨hword, ha⟩ => tRow_admits hword (by decide) (by simp [noA, ha])) Profile.noConfusion hbound
    fun s u i id r w hpre hissued => ?_
  dsimp only
  rw [ite_self, State.readingTile_nil, hissued.tileBytes, ← hvalue s r w hpre]
  rfl

/-- Bytes that agree before one that differs. -/
theorem State.firstDiffering_eq_some {s : State} {a b o n m : Nat} (ha : Maps.has s.stg.tiles a = true) (hb : Maps.has s.stg.tiles b = true)
    (hn : n < m) (heq : s.tileBytes a o n = s.tileBytes b o n) (hne : s.tileBytes a (o + n) 1 ≠ s.tileBytes b (o + n) 1) :
    s.firstDiffering a b o m = some n := by
  obtain ⟨x, hx⟩ := Option.isSome_iff_exists.1 ha
  obtain ⟨y, hy⟩ := Option.isSome_iff_exists.1 hb
  simp only [State.firstDiffering, State.tileBytes_of_find hx, State.tileBytes_of_find hy] at heq hne ⊢
  have hbyte (z : Tile) {i : Nat} (hi : i < m) :
      nthD ((List.range m).map fun i => z.bytes.byte ((o + i) % 4096)) i 0 = z.bytes.byte ((o + i) % 4096) := by
    simp [nthD, hi]
  rw [List.find?_range_eq_some]
  refine ⟨?_, List.mem_range.2 hn, fun j hj => ?_⟩
  · rw [hbyte x hn, hbyte y hn]
    simpa using hne
  · rw [hbyte x (hj.trans hn), hbyte y (hj.trans hn), List.map_inj_left.1 heq j (List.mem_range.2 hj)]
    simp

/-- Equal ranges differ nowhere. -/
theorem State.firstDiffering_eq_none {s : State} {a b o n : Nat} (h : s.tileBytes a o n = s.tileBytes b o n) :
    s.firstDiffering a b o n = none := by
  rw [State.firstDiffering, h]
  exact List.find?_eq_none.2 fun i _ => by simp

/-! ## STAGE (R199, R237) -/

theorem Issued.stageTrap {s u : State} {i : Fin 512} (h : Issued s u i) : u.stageTrap = s.stageTrap := by
  obtain ⟨-, _, _, _, _, _, rfl⟩ := h
  rfl

theorem stage_gives : Claims.StrandGives .stage (fun w => wOp w = 0x43 ∧ wSub w = 0 ∧ wD w = 0 ∧ wB w = 0 ∧ wImm w ≤ 8191)
    (fun s _ r w => s.stageTrap r (r.ctx.greg (wA w) + wSimm w).toNat = none)
    fun _ t id r w => ∃ r' p, Maps.find id t.cle.reqs = some r' ∧ r'.pour = some p ∧ p.cursor = 0 ∧
      p.stages.map (fun st => st.tiles) = (stagesOf r.ctx (r.ctx.greg (wA w) + wSimm w).toNat).map (fun st => st.tiles) ∧
      r'.ctx = { r.ctx with t := [], pc := r.ctx.pc + 1 } := by
  refine strandGives_of_body (fun _ _ _ => rfl) (fun w ⟨hop, hsub, hd, hb, himm⟩ => ⟨?_, Profile.noConfusion⟩)
    fun s u i id r w _ htrap hissued _ => ?_
  · exact Row.admits_sub hop hsub rfl (by decide) rfl (by simp [noD, noB, hd, hb, himm])
  · have htrap : u.stageTrap r (moveAddr r.ctx w) = none := by rwa [hissued.stageTrap]
    dsimp only
    rw [htrap]
    refine ⟨_, _, Maps.find_put_same _ _ _, rfl, rfl, ?_, rfl⟩
    rw [List.map_map]
    refine List.map_congr_left fun st _ => ?_
    exact (apply_ite StageRec.tiles _ _ _).trans (ite_self _)

/-- Settles O13, instruction by instruction. -/
theorem tileResults : Obligations.TileResults := by
  refine ⟨tld_gives, tst_does, tcopy_gives, tcopyPayload_gives, tfill_gives, txor_gives,
    fun a => tModeResult_does (fun _ _ _ => rfl) (by decide) (fun _ _ _ ⟨hbound, _⟩ => hbound) fun _ _ _ ⟨_, hne⟩ => tcrc_eq _ _ _ _ hne,
    fun a => tModeResult_does (fun _ _ _ => rfl) (by decide) (fun _ _ _ ⟨hbound, _⟩ => hbound) fun _ _ _ ⟨_, hne⟩ => tcrc_eq _ _ _ _ hne,
    fun a b n => tcmp_does (fun _ _ _ ⟨ha, hb, _⟩ => ⟨ha, hb⟩) fun s r w ⟨_, _, hn, heq, hne, hhasa, hhasb⟩ => ?_,
    fun a b => tcmp_does (fun _ _ _ ⟨ha, hb, _⟩ => ⟨ha, hb⟩) fun s r w ⟨_, _, heq⟩ => ?_,
    fun a => tModeResult_does (fun _ _ _ => rfl) (by decide) (fun _ _ _ hbound => hbound) fun _ _ _ _ => rfl,
    fun a => tModeResult_does (fun _ _ _ => rfl) (by decide) (fun _ _ _ hbound => hbound) fun _ _ _ _ => rfl,
    fun a => tModeResult_does (fun _ _ _ => rfl) (by decide) (fun _ _ _ hbound => hbound) fun _ _ _ _ => tsum_add_eq _ _ _ _,
    fun a => tModeResult_does (fun _ _ _ => rfl) (by decide) (fun _ _ _ hbound => hbound) fun _ _ _ _ => rfl, stage_gives⟩
  · rw [State.firstDiffering_eq_some hhasa hhasb hn heq hne]
  · rw [State.firstDiffering_eq_none heq]
    rfl

end Sys2Proof.Machine
end

section
/-! Proofs of the family 06_ausum_reference, management: CSRs, BAR0 registers, TRET, IFLUSH and interrupts on the MCP (O20). -/

namespace Sys2Proof.Machine

open Sys2Proof

/-- A word of a management row. -/
theorem mRow_admits {op sub cost : Nat} {allowed : DWord → Bool} {w : DWord} (hop : wOp w = op) (hsub : wSub w = sub)
    (hlisted : (subsOf op).contains sub = true) (hallowed : allowed w = true) : (mRow op sub cost allowed).Admits w :=
  Row.admits_sub hop hsub rfl hlisted rfl hallowed

/-! ## CSRs (R208, R209) -/

theorem State.csr_setCsr (s : State) (n : Nat) (v : DWord) : (s.setCsr n v).csr n = v := Maps.rd_wr_same _ _ _ _

theorem State.csr_setCsr_other (s : State) {n m : Nat} (v : DWord) (h : m ≠ n) : (s.setCsr n v).csr m = s.csr m :=
  Maps.rd_wr_other _ _ _ h

/-- Reading a CSR that only shows its value. -/
theorem State.readCsr_plain (s : State) {n : Nat} (h : n ≤ 5 ∨ n = 0x11) : s.readCsr n = (s.csr n, s) := by
  rw [State.readCsr, if_pos (by simpa using h)]

/-- Writing a CSR that takes every bit. -/
theorem State.writeCsr_whole (s : State) {n : Nat} (v : DWord) (h : n = 2 ∨ n = 4 ∨ n = 5) : s.writeCsr n v = s.setCsr n v := by
  rcases h with rfl | rfl | rfl
  · rfl
  · rfl
  · rfl

theorem Fetched.csr {s u : State} {cost : Nat} (h : Fetched s u cost) : u.csr = s.csr := by
  obtain ⟨_, rfl⟩ := h
  rfl

theorem Fetched.irqPend {s u : State} {cost : Nat} (h : Fetched s u cost) : u.mcp.irqPend = s.mcp.irqPend := by
  obtain ⟨_, rfl⟩ := h
  rfl

/-- CSRR of CSRs whose reading changes nothing. -/
theorem csrr_gives {imm : Nat → Prop} {value : State → Nat → DWord} (himm : ∀ n, imm n → n < 4096)
    (hread : ∀ s n, imm n → s.readCsr n = (value s n, s)) (hvalue : ∀ s u, Fetched s u 1 → value u = value s) :
    Claims.McpGives .csrr (fun w => wOp w = 0x70 ∧ wSub w = 0 ∧ wA w = 0 ∧ wB w = 0 ∧ imm (wImm w)) (fun _ _ => True)
      fun s t w => Claims.OnlyMcp s t 1 ∧
        Claims.WritesG (s.ctxOf .mcp) (t.ctxOf .mcp) (wD w) (value s (wImm w)) (s.mcp.pc + 8) := by
  refine mcpGives_of_body (fun _ _ _ => rfl)
    (fun w ⟨hop, hsub, ha, hb, hn⟩ => mRow_admits hop hsub (by decide) (by simp [noA, noB, ha, hb, himm _ hn])) Profile.noConfusion
    fun s u w ⟨_, _, _, _, hn⟩ _ hfetched => ?_
  dsimp only
  rw [hread u _ hn, hfetched.ctxOf, hvalue s u hfetched]
  exact ⟨hfetched.onlyMcp_advance _, s.writesG_advance_mcp u _ _⟩

theorem csrw_gives : Claims.McpGives .csrw
    (fun w => wOp w = 0x70 ∧ wSub w = 1 ∧ wD w = 0 ∧ wB w = 0 ∧ (wImm w = 2 ∨ wImm w = 4 ∨ wImm w = 5)) (fun _ _ => True)
    fun s t w => t.csr (wImm w) = (s.ctxOf .mcp).greg (wA w) ∧ (∀ n, n ≠ wImm w → t.csr n = s.csr n) ∧
      Claims.McpOnward s t 1 fun m => { m with csr := t.mcp.csr } := by
  refine mcpGives_of_body (fun _ _ _ => rfl)
    (fun w ⟨hop, hsub, hd, hb, hn⟩ => mRow_admits hop hsub (by decide) (by simp [noD, noB, hd, hb]; omega)) Profile.noConfusion
    fun s u w ⟨_, _, _, _, hn⟩ _ hfetched => ?_
  rw [u.writeCsr_whole _ hn, hfetched.ctxOf]
  refine ⟨u.csr_setCsr _ _, fun n hne => (u.csr_setCsr_other _ hne).trans (congrFun hfetched.csr n), ?_⟩
  obtain ⟨_, rfl⟩ := hfetched
  rfl

/-! ## BAR0 registers (R208) -/

theorem barAddr_eq {c : Ctx} {w : DWord} (h4 : (c.greg (wA w) + wSimm w).toNat % 4 = 0) (hlt : (c.greg (wA w) + wSimm w).toNat < 2 ^ 26) :
    barAddr c w = some (c.greg (wA w) + wSimm w).toNat :=
  if_pos (Bool.and_eq_true_iff.2 ⟨decide_eq_true h4, decide_eq_true hlt⟩)

/-- A read of a register that no capture answers, outside the recorder's window, shows it and changes nothing (R12, R15). -/
theorem State.busRead_live {s : State} {rq : Requester} {off : Nat} (h4 : off % 4 = 0) (hp : isPairLow off = false)
    (hc : Maps.find off (s.captures rq) = none) (hw : ¬ inWindow off) : s.busRead rq off .four = (s.shown off, s) := by
  simp [State.busRead, word_aligned h4, State.readActs_outside hw, hp, hc, AccessSize.pick]

theorem Fetched.captures {s u : State} {cost : Nat} (h : Fetched s u cost) : u.captures = s.captures := by
  obtain ⟨_, rfl⟩ := h
  rfl

theorem Fetched.sec {s u : State} {cost : Nat} (h : Fetched s u cost) : u.sec = s.sec := by
  obtain ⟨_, rfl⟩ := h
  rfl

theorem Fetched.shown {s u : State} {cost : Nat} (h : Fetched s u cost) : u.shown = s.shown := by
  obtain ⟨_, rfl⟩ := h
  rfl

theorem regr_gives : Claims.McpGives .regr (fun w => wOp w = 0x70 ∧ wSub w = 2 ∧ wB w = 0)
    (fun s w => let a := ((s.ctxOf .mcp).greg (wA w) + wSimm w).toNat
      a % 4 = 0 ∧ a < 2 ^ 26 ∧ isPairLow a = false ∧ Maps.find a s.bar.capMcp = none ∧
      ¬ (Reg.EVR_WIN ≤ a ∧ a < Reg.EVR_WIN + 256))
    fun s t w => let a := ((s.ctxOf .mcp).greg (wA w) + wSimm w).toNat
      Claims.OnlyMcp s t 4 ∧
        Claims.WritesG (s.ctxOf .mcp) (t.ctxOf .mcp) (wD w) (BitVec.setWidth 64 (s.shown a)) (s.mcp.pc + 8) := by
  refine mcpGives_of_body (fun _ _ _ => rfl) (fun w ⟨hop, hsub, hb⟩ => mRow_admits hop hsub (by decide) (by simp [noB, hb]))
    Profile.noConfusion fun s u w _ ⟨h4, hlt, hp, hc, hw⟩ hfetched => ?_
  have hread : u.busRead .mcp ((s.ctxOf .mcp).greg (wA w) + wSimm w).toNat .four =
      (s.shown ((s.ctxOf .mcp).greg (wA w) + wSimm w).toNat, u) := by
    rw [State.busRead_live h4 hp (by rw [hfetched.captures]; exact hc) hw, hfetched.shown]
  dsimp only
  rw [hfetched.ctxOf, barAddr_eq h4 hlt]
  dsimp only
  rw [hread, BitVec.ofNat_toNat]
  exact ⟨hfetched.onlyMcp_advance _, s.writesG_advance_mcp u _ _⟩

theorem regw_gives (d : RegDesc) : Claims.McpGives .regw (fun w => wOp w = 0x70 ∧ wSub w = 3 ∧ wD w = 0)
    (fun s w => let a := ((s.ctxOf .mcp).greg (wA w) + wSimm w).toNat
      a % 4 = 0 ∧ a < 2 ^ 26 ∧ regAt a = some d ∧ (isDataPlane a = false ∨ s.sec.dark = false) ∧ Claims.plainRegister a = true)
    fun s t w => let a := ((s.ctxOf .mcp).greg (wA w) + wSimm w).toNat
      Claims.Stored s t a d (BitVec.setWidth 32 ((s.ctxOf .mcp).greg (wB w))) ∧ t.mcp.pc = s.mcp.pc + 8 := by
  refine mcpGives_of_body (fun _ _ _ => rfl) (fun w ⟨hop, hsub, hd⟩ => mRow_admits hop hsub (by decide) (by simp [noD, hd]))
    Profile.noConfusion fun s u w _ ⟨h4, hlt, hreg, hdark, hplain⟩ hfetched => ?_
  dsimp only
  rw [hfetched.ctxOf, barAddr_eq h4 hlt]
  dsimp only
  rw [State.busWrite_plain hreg (by rwa [hfetched.sec]) hplain, BitVec.ofNat_toNat]
  obtain ⟨_, rfl⟩ := hfetched
  refine ⟨State.writeCodes_stored _ _ _ _, ?_⟩
  rw [State.writeCodes_frame]
  rfl

/-! ## TRET, IFLUSH and interrupts (R209, R210, R213) -/

theorem tret_gives : Claims.McpGives .tret
    (fun w => wOp w = 0x71 ∧ wSub w = 0 ∧ wD w = 0 ∧ wA w = 0 ∧ wB w = 0 ∧ wImm w = 0) (fun _ _ => True)
    fun s t _ => t.mcp.pc = (s.csr 2).toNat ∧ t.csr 0 = (if bitOf (s.csr 0) 1 then 3 else 0) ∧
      (∀ n, n ≠ 0 → t.csr n = s.csr n) ∧ t.ctxOf .mcp = { s.ctxOf .mcp with pc := t.mcp.pc } := by
  refine mcpGives_of_body (fun _ _ _ => rfl)
    (fun w ⟨hop, hsub, hd, ha, hb, himm⟩ => mRow_admits hop hsub (by decide) (by simp [noD, noA, noB, noImm, hd, ha, hb, himm]))
    Profile.noConfusion fun s u w _ _ hfetched => ?_
  rw [← hfetched.csr]
  refine ⟨congrArg BitVec.toNat (u.csr_setCsr_other _ (by decide)), (u.csr_setCsr 0 _).trans ?_, fun n hn => u.csr_setCsr_other _ hn, ?_⟩
  · rw [apply_ite (BitVec.ofNat 64)]
    rfl
  · rw [← hfetched.ctxOf]
    rfl

theorem iflush_gives : Claims.McpGives .iflush (fun w => wOp w = 0x72 ∧ wSub w = 0 ∧ wD w = 0 ∧ wImm w = 0)
    (fun s w => ((s.ctxOf .mcp).greg (wB w)).toNat = 0)
    fun s t _ => t.mcp.ibuf = [] ∧ t.mcp.pc = s.mcp.pc + 8 ∧ t.mcp.g = s.mcp.g ∧ t.mcp.sram = s.mcp.sram := by
  refine mcpGives_of_body (fun _ _ _ => rfl)
    (fun w ⟨hop, hsub, hd, himm⟩ => mRow_admits hop hsub (by decide) (by simp [noD, noImm, hd, himm])) Profile.noConfusion
    fun s u w _ hlen hfetched => ?_
  dsimp only
  rw [hfetched.ctxOf, hlen, if_pos rfl]
  obtain ⟨_, rfl⟩ := hfetched
  exact ⟨rfl, rfl, rfl, rfl⟩

/-- A trap outside a trap saves where and why, and goes to TVEC with interrupts off (R210). -/
theorem State.mcpTrap_enters {s : State} (h : bitOf (s.csr 0) 2 = false) (x cause val : Nat) :
    (s.mcpTrap x cause val).mcp.pc = (s.csr 1).toNat ∧ (s.mcpTrap x cause val).csr 2 = BitVec.ofNat 64 x ∧
      (s.mcpTrap x cause val).csr 3 = BitVec.ofNat 64 cause ∧
      (s.mcpTrap x cause val).csr 0 = BitVec.ofNat 64 (4 + if bitOf (s.csr 0) 0 then 2 else 0) ∧
      (s.mcpTrap x cause val).mcp.irqPend = s.mcp.irqPend ∧ (s.mcpTrap x cause val).mcp.g = s.mcp.g := by
  unfold State.mcpTrap
  dsimp only
  rw [if_neg (by simp [h])]
  refine ⟨congrArg BitVec.toNat ?_, (?_ : State.csr (State.setCsr _ 0 _) 2 = _), (?_ : State.csr (State.setCsr _ 0 _) 3 = _),
    State.csr_setCsr _ _ _, rfl, rfl⟩
  · simp [State.csr_setCsr_other]
  · simp [State.csr_setCsr_other, State.csr_setCsr]
  · simp [State.csr_setCsr_other, State.csr_setCsr]

theorem exec_mcpInterrupt {s : State} {k : Fin 16} (hrunning : s.mcp.running = true) (hgoing : s.mcp.halted = false)
    (hie : bitOf (s.csr 0) 0 = true) (hout : bitOf (s.csr 0) 2 = false) (hpending : bitOf s.mcp.irqPend k.val = true)
    (henabled : bitOf (s.csr 0x11) k.val = true) :
    ∃ t, exec (.mcpInterrupt k) s = .next t ∧ t.mcp.pc = (s.csr 1).toNat ∧ t.csr 2 = BitVec.ofNat 64 s.mcp.pc ∧
      t.csr 3 = BitVec.ofNat 64 (2 ^ 31 + k.val) ∧ t.csr 0 = 6 ∧ bitOf t.mcp.irqPend k.val = false ∧ t.mcp.g = s.mcp.g := by
  obtain ⟨hpc, hsaved, hcause, hstatus, hirq, hg⟩ := State.mcpTrap_enters
    (s := { s with mcp := { s.mcp with irqPend := setBit s.mcp.irqPend k false } }) hout s.mcp.pc (2 ^ 31 + k) 0
  refine ⟨_, ?_, hpc, hsaved, hcause, hstatus.trans ?_, ?_, hg⟩
  · change execMcpInterrupt k s = _
    unfold execMcpInterrupt
    dsimp only
    rw [if_pos (by simp [hrunning, hgoing, hie, hpending, henabled])]
  · have hie : bitOf (State.csr { s with mcp := { s.mcp with irqPend := setBit s.mcp.irqPend k false } } 0) 0 = true := hie
    rw [if_pos hie]
    rfl
  · rw [hirq]
    exact bitOf_setBit_same _ _ k.isLt

/-- Settles O20, instruction by instruction. -/
theorem managementInstructions : Obligations.ManagementInstructions :=
  ⟨csrr_gives (imm := fun n => n ≤ 5 ∨ n = 0x11) (fun n hn => by omega) (fun s _ hn => s.readCsr_plain hn) fun _ _ h => h.csr,
    csrr_gives (imm := fun n => n = 0x10) (value := fun s _ => BitVec.ofNat 64 s.mcp.irqPend.toNat) (fun n hn => by omega)
      (fun _ _ hn => by rw [hn]; rfl) fun _ _ h => by simp only [h.irqPend],
    csrw_gives, regr_gives, regw_gives, tret_gives, iflush_gives,
    fun _ _ hrunning hgoing hie hout hpending henabled => exec_mcpInterrupt hrunning hgoing hie hout hpending henabled⟩

end Sys2Proof.Machine
end

section
/-! Proofs of the family 06_ausum_reference, key operations: the six KEYOPs (O21). -/

namespace Sys2Proof.Machine

open Sys2Proof

/-! ## What the key engine reads (R447, R476) -/

theorem State.mcpBytes_congr {s u : State} (h : ∀ a, u.mcpByte a = s.mcpByte a) : ∀ n a : Nat, u.mcpBytes a n = s.mcpBytes a n
  | 0, _ => rfl
  | n + 1, a => by rw [State.mcpBytes, State.mcpBytes, h a, State.mcpBytes_congr h n]

namespace Fetched

variable {s u : State} {cost : Nat}

theorem keyInput (h : Fetched s u cost) : u.keyInput = s.keyInput := by
  have hbyte : ∀ a, u.mcpByte a = s.mcpByte a := by
    obtain ⟨_, rfl⟩ := h
    exact fun _ => rfl
  funext a n
  rw [State.keyInput, State.keyInput, State.mcpBytes_congr hbyte]

theorem reg (h : Fetched s u cost) : u.reg = s.reg := by
  obtain ⟨_, rfl⟩ := h
  rfl

theorem keySlots (h : Fetched s u cost) : u.win.keySlots = s.win.keySlots := by
  obtain ⟨_, rfl⟩ := h
  rfl

theorem unwrapKey (h : Fetched s u cost) : u.unwrapKey = s.unwrapKey := by
  obtain ⟨_, rfl⟩ := h
  rfl

theorem vendorVerifies (h : Fetched s u cost) : u.vendorVerifies = s.vendorVerifies := by
  obtain ⟨_, rfl⟩ := h
  rfl

theorem ownerVerifies (h : Fetched s u cost) : u.ownerVerifies = s.ownerVerifies := by
  obtain ⟨_, rfl⟩ := h
  rfl

theorem quote (h : Fetched s u cost) : u.quote = s.quote := by
  obtain ⟨_, rfl⟩ := h
  rfl

end Fetched

/-- A descriptor in SRAM is what the key engine reads there. -/
theorem keyInput_descriptor {s : State} {w : DWord} {d : List Byte} (h : Claims.Descriptor s w d) :
    inSram ((s.ctxOf .mcp).greg (wA w)).toNat 32 = true ∧ s.keyInput ((s.ctxOf .mcp).greg (wA w)).toNat 32 = d ∧ nthD d 23 0 = 0 := by
  obtain ⟨hlo, hhi, hd, hzero⟩ := h
  refine ⟨Bool.and_eq_true_iff.2 ⟨decide_eq_true hlo, decide_eq_true hhi⟩, ?_, hzero⟩
  rw [State.keyInput, s.mcpBytes_sram 32 hlo hhi, hd]
  rfl

/-- The key engine's output stands in SRAM, and the status written afterwards leaves it. -/
theorem State.sramHolds_keyOutput (u : State) (a : Nat) (bs : List Byte) (x : Ctx) :
    Claims.SramHolds (((u.keyOutput a bs).setCtx .mcp x).advance .mcp) a bs := by
  have hsram : (((u.keyOutput a bs).setCtx .mcp x).advance .mcp).mcp.sram = u.mcp.sram.setBytes (a - 0x100000) bs := rfl
  intro k hk
  rw [hsram]
  exact Mem.byte_setBytes_inside _ _ _ _ hk

theorem State.ctxOf_showKeys (s : State) : s.showKeys.ctxOf .mcp = s.ctxOf .mcp := by
  have hmcp : s.showKeys.mcp = s.mcp := State.setF_mcp _ _ _ _ _
  rw [State.ctxOf, State.ctxOf, hmcp]

theorem State.keySlots_showKeys_advance (s : State) (x : Ctx) :
    ((s.showKeys.setCtx .mcp x).advance .mcp).win.keySlots = s.win.keySlots := by
  have hwin (u : State) : ((u.setCtx .mcp x).advance .mcp).win = u.win := rfl
  rw [hwin, State.showKeys, State.setF_win]

/-! ## KEYOP (R214, R476) -/

section KeyOps

variable {c : Agent → DWord → Instr} {sub : Nat} {body : State → List Byte → Nat × State} {d : List Byte}
  {pre : State → DWord → Prop}

/-- A KEYOP with a well-formed descriptor ends with the status and the state that its body gives. -/
theorem keyop_gives {post : State → State → DWord → Prop} (hexec : ∀ ag w s, exec (c ag w) s = .next (s.keyop ag w sub body))
    (hlisted : (subsOf 0x73).contains sub = true) (hdesc : ∀ s w, pre s w → Claims.Descriptor s w d)
    (hbody : ∀ s u w, pre s w → Fetched s u 1 → ∃ st v, body u d = (st, v) ∧ v.ctxOf .mcp = s.ctxOf .mcp ∧
      post s ((v.setCtx .mcp ((s.ctxOf .mcp).setG (wD w) (BitVec.ofNat 64 st))).advance .mcp) w) :
    Claims.McpGives c (Claims.KeyWord sub) pre post := by
  refine mcpGives_of_body hexec (fun w ⟨hop, hsub, hb, himm⟩ => ?_) Profile.noConfusion fun s u w _ hpre hfetched => ?_
  · exact Row.admits_sub hop hsub rfl hlisted rfl (by simp [keyRow, noB, noImm, hb, himm])
  · obtain ⟨hin, hinput, hzero⟩ := keyInput_descriptor (hdesc s w hpre)
    obtain ⟨st, v, hval, hctx, hpost⟩ := hbody s u w hpre hfetched
    dsimp only
    rw [hfetched.ctxOf, if_neg (by simp [hin]), hfetched.keyInput, hinput, if_neg (not_not.2 hzero), hval]
    dsimp only
    rwa [hctx]

/-- A KEYOP that stores its output in SRAM. -/
theorem keyop_stores {a : Nat} {out : State → List Byte} (hexec : ∀ ag w s, exec (c ag w) s = .next (s.keyop ag w sub body))
    (hlisted : (subsOf 0x73).contains sub = true) (hdesc : ∀ s w, pre s w → Claims.Descriptor s w d)
    (hbody : ∀ s u w, pre s w → Fetched s u 1 → body u d = (0, u.keyOutput a (out s))) :
    Claims.McpGives c (Claims.KeyWord sub) pre fun s t w => Claims.SramHolds t a (out s) ∧
      Claims.WritesG (s.ctxOf .mcp) (t.ctxOf .mcp) (wD w) 0 (s.mcp.pc + 8) :=
  keyop_gives hexec hlisted hdesc fun s u w hpre hfetched =>
    ⟨0, _, hbody s u w hpre hfetched, hfetched.ctxOf, u.sramHolds_keyOutput _ _ _, s.writesG_advance_mcp _ _ _⟩

/-- A KEYOP that replaces the key-store slots. -/
theorem keyop_slots {slots : State → Table (List Byte)} (hexec : ∀ ag w s, exec (c ag w) s = .next (s.keyop ag w sub body))
    (hlisted : (subsOf 0x73).contains sub = true) (hdesc : ∀ s w, pre s w → Claims.Descriptor s w d)
    (hbody : ∀ s u w, pre s w → Fetched s u 1 →
      body u d = (0, ({ u with win := { u.win with keySlots := slots s } } : State).showKeys)) :
    Claims.McpGives c (Claims.KeyWord sub) pre fun s t w => t.win.keySlots = slots s ∧
      Claims.WritesG (s.ctxOf .mcp) (t.ctxOf .mcp) (wD w) 0 (s.mcp.pc + 8) :=
  keyop_gives hexec hlisted hdesc fun s u w hpre hfetched =>
    ⟨0, _, hbody s u w hpre hfetched, (State.ctxOf_showKeys _).trans hfetched.ctxOf,
      State.keySlots_showKeys_advance _ _, s.writesG_advance_mcp _ _ _⟩

end KeyOps

/-- What follows from an instruction's outcome. -/
theorem mcpGives_mono {c : Agent → DWord → Instr} {ok : DWord → Prop} {pre : State → DWord → Prop}
    {post post' : State → State → DWord → Prop} (h : Claims.McpGives c ok pre post)
    (himp : ∀ s t w, pre s w → post s t w → post' s t w) : Claims.McpGives c ok pre post' := by
  intro s w hruns hok hpre
  obtain ⟨t, hexec, hpost⟩ := h s w hruns hok hpre
  exact ⟨t, hexec, himp s t w hpre hpost⟩

/-! ## UNWRAP and CLEAR (R130, R478) -/

theorem keyopUnwrap_gives (d key : List Byte) : Claims.McpGives .keyopUnwrap (Claims.KeyWord 0)
    (fun s w => Claims.Descriptor s w d ∧ inReadable (kdField d 0 8) 96 = true ∧ kdField d 20 2 < 4096 ∧
      s.getB Reg.SEC_STATUS 22 = true ∧ s.unwrapKey (kdField d 20 2) (s.keyInput (kdField d 0 8) 96) = some key)
    fun s t w => Maps.find (kdField d 20 2) t.win.keySlots = some key ∧
      (∀ k, k ≠ kdField d 20 2 → Maps.find k t.win.keySlots = Maps.find k s.win.keySlots) ∧
      Claims.WritesG (s.ctxOf .mcp) (t.ctxOf .mcp) (wD w) 0 (s.mcp.pc + 8) := by
  refine mcpGives_mono (keyop_slots (slots := fun s => Maps.put (kdField d 20 2) key s.win.keySlots) (fun _ _ _ => rfl) (by decide)
    (fun _ _ ⟨hdesc, _⟩ => hdesc) fun s u w ⟨_, hin, hslot, hkek, hunwrap⟩ hfetched => ?_) fun s t w _ ⟨hslots, hg⟩ => ?_
  · have hkek : u.getB Reg.SEC_STATUS 22 = true := by rwa [State.getB, hfetched.reg]
    dsimp only
    rw [if_neg (by simp [hin]; omega), hkek, if_neg (by decide), hfetched.unwrapKey, hfetched.keyInput, hunwrap, ← hfetched.keySlots]
    rfl
  · rw [hslots]
    exact ⟨Maps.find_put_same _ _ _, fun k hk => Maps.find_put_other _ hk _, hg⟩

theorem keyopClear_gives (d : List Byte) : Claims.McpGives .keyopClear (Claims.KeyWord 1)
    (fun s w => Claims.Descriptor s w d ∧ kdField d 20 2 < 4096)
    fun s t w => Maps.find (kdField d 20 2) t.win.keySlots = none ∧
      (∀ k, k ≠ kdField d 20 2 → Maps.find k t.win.keySlots = Maps.find k s.win.keySlots) ∧
      Claims.WritesG (s.ctxOf .mcp) (t.ctxOf .mcp) (wD w) 0 (s.mcp.pc + 8) := by
  refine mcpGives_mono (keyop_slots (slots := fun s => Maps.del (kdField d 20 2) s.win.keySlots) (fun _ _ _ => rfl) (by decide)
    (fun _ _ ⟨hdesc, _⟩ => hdesc) fun s u w ⟨_, hslot⟩ hfetched => ?_) fun s t w _ ⟨hslots, hg⟩ => ?_
  · dsimp only
    rw [if_neg (by omega), ← hfetched.keySlots]
  · rw [hslots]
    exact ⟨Maps.find_del_same _ _, fun k hk => Maps.find_del_other hk _, hg⟩

/-! ## SIGN, HASH and ATTEST (R476, R481) -/

theorem keyopSign_gives (d : List Byte) : Claims.McpGives .keyopSign (Claims.KeyWord 2)
    (fun s w => Claims.Descriptor s w d ∧ inReadable (kdField d 0 8) (kdField d 16 4) = true ∧ inSram (kdField d 8 8) 64 = true ∧
      kdField d 22 1 = 0)
    fun s t w => Claims.SramHolds t (kdField d 8 8) ((Config.ed25519ph (s.keyInput (kdField d 0 8) (kdField d 16 4))).take 64) ∧
      Claims.WritesG (s.ctxOf .mcp) (t.ctxOf .mcp) (wD w) 0 (s.mcp.pc + 8) := by
  refine keyop_stores (out := fun s => (Config.ed25519ph (s.keyInput (kdField d 0 8) (kdField d 16 4))).take 64) (fun _ _ _ => rfl)
    (by decide) (fun _ _ ⟨hdesc, _⟩ => hdesc) fun s u w ⟨_, hin, hout, hkey⟩ hfetched => ?_
  dsimp only
  rw [if_neg (by simp [hin, hout, hkey]), hfetched.keyInput]
  rfl

theorem keyopHash_gives (d : List Byte) : Claims.McpGives .keyopHash (Claims.KeyWord 4)
    (fun s w => Claims.Descriptor s w d ∧ inReadable (kdField d 0 8) (kdField d 16 4) = true ∧ inSram (kdField d 8 8) 64 = true)
    fun s t w => Claims.SramHolds t (kdField d 8 8) ((Config.sha512 (s.keyInput (kdField d 0 8) (kdField d 16 4))).take 64) ∧
      Claims.WritesG (s.ctxOf .mcp) (t.ctxOf .mcp) (wD w) 0 (s.mcp.pc + 8) := by
  refine keyop_stores (out := fun s => (Config.sha512 (s.keyInput (kdField d 0 8) (kdField d 16 4))).take 64) (fun _ _ _ => rfl)
    (by decide) (fun _ _ ⟨hdesc, _⟩ => hdesc) fun s u w ⟨_, hin, hout⟩ hfetched => ?_
  dsimp only
  rw [if_neg (by simp [hin, hout]), hfetched.keyInput]
  rfl

theorem keyopAttest_gives (d : List Byte) : Claims.McpGives .keyopAttest (Claims.KeyWord 5)
    (fun s w => Claims.Descriptor s w d ∧ inReadable (kdField d 0 8) 32 = true ∧ inSram (kdField d 8 8) 256 = true)
    fun s t w => Claims.SramHolds t (kdField d 8 8) (s.quote (s.keyInput (kdField d 0 8) 32)) ∧
      Claims.WritesG (s.ctxOf .mcp) (t.ctxOf .mcp) (wD w) 0 (s.mcp.pc + 8) := by
  refine keyop_stores (out := fun s => s.quote (s.keyInput (kdField d 0 8) 32)) (fun _ _ _ => rfl)
    (by decide) (fun _ _ ⟨hdesc, _⟩ => hdesc) fun s u w ⟨_, hin, hout⟩ hfetched => ?_
  dsimp only
  rw [if_neg (by simp [hin, hout]), hfetched.quote, hfetched.keyInput]

/-! ## VERIFY (R449, R451, R476) -/

/-- The signature at ADDR_B verifies the input under the key that the descriptor names. -/
def State.keyVerifies (s : State) (d : List Byte) : Bool :=
  let bytes := s.keyInput (kdField d 0 8) (kdField d 16 4)
  let sig := s.keyInput (kdField d 8 8) 64
  if kdField d 22 1 = 0 then s.vendorVerifies bytes sig
  else if kdField d 22 1 = 1 then s.ownerVerifies bytes sig
  else Config.verifies (Config.sha512 (s.keyInput (kdField d 24 8) 32)) bytes sig

theorem Fetched.keyVerifies {s u : State} {cost : Nat} (h : Fetched s u cost) : u.keyVerifies = s.keyVerifies := by
  funext d
  simp only [State.keyVerifies, h.keyInput, h.vendorVerifies, h.ownerVerifies]

theorem keyopVerify_gives (d : List Byte) : Claims.McpGives .keyopVerify (Claims.KeyWord 3)
    (fun s w => Claims.Descriptor s w d ∧ inReadable (kdField d 0 8) (kdField d 16 4) = true ∧ inReadable (kdField d 8 8) 64 = true ∧
      (kdField d 22 1 = 0 ∨ (kdField d 22 1 = 1 ∧ s.getB Reg.SEC_STATUS 23 = false) ∨
        (kdField d 22 1 = 2 ∧ inReadable (kdField d 24 8) 32 = true)))
    fun s t w => Claims.OnlyMcp s t 1 ∧
      Claims.WritesG (s.ctxOf .mcp) (t.ctxOf .mcp) (wD w) (if s.keyVerifies d then 0 else 2) (s.mcp.pc + 8) := by
  refine keyop_gives (d := d) (fun _ _ _ => rfl) (by decide) (fun _ _ ⟨hdesc, _⟩ => hdesc)
    fun s u w ⟨_, hin, hsig, hkey⟩ hfetched => ⟨if s.keyVerifies d then 0 else 2, u, ?_, hfetched.ctxOf, hfetched.onlyMcp_advance _, ?_⟩
  · rw [← hfetched.keyVerifies, State.keyVerifies]
    rcases hkey with hkey | ⟨hkey, howner⟩ | ⟨hkey, hpublic⟩
    · simp [hin, hsig, hkey]
    · have howner : u.getB Reg.SEC_STATUS 23 = false := by rwa [State.getB, hfetched.reg]
      simp [hin, hsig, hkey, howner]
    · simp [hin, hsig, hkey, hpublic]
  · have hstatus : BitVec.ofNat 64 (if s.keyVerifies d then 0 else 2) = if s.keyVerifies d then 0 else 2 := apply_ite _ _ _ _
    exact hstatus ▸ s.writesG_advance_mcp u (wD w) _

/-- Settles O21, operation by operation. -/
theorem keyOperations : Obligations.KeyOperations :=
  ⟨keyopUnwrap_gives, keyopClear_gives, keyopSign_gives, keyopVerify_gives, keyopHash_gives, keyopAttest_gives⟩

end Sys2Proof.Machine
end
